-- ==== Sys2Proof/Word.lean ====
section
/-! DEFINITION. The word types of the VKS-9216 model (R5, R6, R19): plain names for the bit vectors the
manual treats as bits. Everything the manual treats as a count, an index or a list is a `Nat`, `Fin` or
`List` instead. -/

namespace Sys2Proof

/-- One byte. -/
abbrev Byte := BitVec 8

/-- One 32-bit set-up register word (R22). -/
abbrev Reg32 := BitVec 32

/-- One 40-bit control-engine word (R187): register, data memory word or instruction. -/
abbrev W40 := BitVec 40

/-- A 64-bit quantity: a descriptor word or a host address. -/
abbrev W64 := BitVec 64

end Sys2Proof
end

