-- ==== Sys2Proof/Types.lean ====
section
/-! DEFINITION. The operand types of the commands: the cores that write registers, the kinds of reset, a
firmware image as the checks of R545 see it, and the other records that commands carry. Facts only
cryptography could decide (a signature verifies, a hash matches) are Booleans of the record. -/

namespace Sys2Proof

/-- A core that may issue a register access (R19, R23). -/
inductive Core where
  | apc (n : Fin 24)
  | mgc (n : Fin 4)
  | sfc (n : Fin 4)
deriving DecidableEq, Repr

/-- One of the two power feeds PWR_A and PWR_B (R38). -/
inductive Feed where
  | a | b
deriving DecidableEq, Repr

/-- One of the two reset pins (R60). -/
inductive ResetPin where
  | porst | resetn
deriving DecidableEq, Repr

/-- A program container as the module finds it in a buffer (R216). -/
structure Container where
  magic     : BitVec 32
  fmt       : BitVec 16
  standard  : Bool
  /-- Every reserved byte and flag bit is 0, and the buffer holds what the header says. -/
  wellFormed : Bool
  entry     : Nat
  c0Entry   : Option Nat
  wcetUnits : Nat
  c0Units   : Nat
  armsMax   : Nat
  minStep   : BitVec 8
  imem      : List (BitVec 32)
  dinit     : List (BitVec 40)
deriving DecidableEq, Repr

/-- A firmware image as the checks of R545 see it: the header fields of R544 and, for each check that needs
cryptography, whether it holds of the stored bytes. -/
structure Image where
  magic    : BitVec 32
  fmt      : BitVec 16
  /-- Every reserved byte and flag bit is 0. -/
  resvZero : Bool
  enc      : Bool
  version  : BitVec 32
  setfmt   : BitVec 16
  tverLo   : Nat
  tverHi   : Nat
  minStep  : BitVec 16
  rollback : Nat
  nblk     : Nat
  target   : BitVec 64
  keySlot  : Nat
  /-- Length of the whole image in bytes. -/
  length   : Nat
  /-- SHA-256 of SIGNER. -/
  signerHash : Nat
  /-- SIG verifies under SIGNER. -/
  sigOk    : Bool
  /-- Every payload block has its hash-table entry. -/
  hashesOk : Bool
  /-- ENC = 1: WRAPPED_KEY opens under the key derived from the module's identity key. -/
  wrapOk   : Bool
  /-- ENC = 1: every block's tag verifies. -/
  tagsOk   : Bool
  /-- The program containers it carries, by engine (R217). -/
  programs : List (Nat × Container)
deriving DecidableEq, Repr

/-- One fuse word as read at the three margins of R404. -/
structure FuseRead where
  word   : Fin 256
  normal : BitVec 32
  low    : BitVec 32
  high   : BitVec 32
deriving DecidableEq, Repr

/-- Completion status codes (R369). -/
inductive Status where
  | ok | okStandby | format | opcode | size | noSession | auth | replay | noVerb | scope
  | invalidAddr | readOnly | range | standby | notPermitted | busy | nofit | cellTimeout
  | releaseRefused | hostTimeout | hostError
deriving DecidableEq, Repr

/-- The number of a status code (R369). -/
def Status.code : Status → BitVec 16
  | .ok => 0x0000 | .okStandby => 0x0001 | .format => 0x0010 | .opcode => 0x0011 | .size => 0x0012
  | .noSession => 0x0020 | .auth => 0x0021 | .replay => 0x0022 | .noVerb => 0x0030 | .scope => 0x0031
  | .invalidAddr => 0x0032 | .readOnly => 0x0033 | .range => 0x0034 | .standby => 0x0040
  | .notPermitted => 0x0041 | .busy => 0x0042 | .nofit => 0x0043 | .cellTimeout => 0x0044
  | .releaseRefused => 0x0045 | .hostTimeout => 0x0050 | .hostError => 0x0051

/-- The body of an event record (R372). -/
inductive EventBody where
  | writeFail (cell point cause : Nat) (value : BitVec 40)
  | evtLost (lost writeFails : Nat)
  | block (mask : BitVec 8) (reason cell : Nat)
  | release (mask : BitVec 8)
  | tandem (state : Nat) (epoch : BitVec 16)
  | program (word0 word1 : BitVec 32) (engine : Nat)
  | sessionEnd (handle reason : Nat)
  | stream (handle reason lost : Nat)
  | cell (cell kind : Nat)
deriving DecidableEq, Repr

/-- The TYPE of an event record (R372). -/
def EventBody.type : EventBody → Nat
  | .writeFail .. => 1 | .evtLost .. => 2 | .block .. => 3 | .release .. => 4 | .tandem .. => 5
  | .program .. => 6 | .sessionEnd .. => 7 | .stream .. => 8 | .cell .. => 9

/-! ### The cell link (R129, R130) -/

/-- A locked return burst as read from its bits: whether its CRC-32C passes, and the fields of R129. -/
structure Return where
  crcOk    : Bool
  rver     : Nat
  slot     : Nat
  sid      : BitVec 8
  /-- [4] OV, [3] SC, [2] GDS, [1] BYP, [0] INT. -/
  fault    : BitVec 5
  sok      : Bool
  fw       : Bool
  blk      : Bool
  prq      : Bool
  epochLo  : BitVec 4
  vkey     : BitVec 16
  temp     : BitVec 10
  cstate   : Nat
  svalid   : Bool
  sat      : Bool
  swcnt    : BitVec 16
  /-- Bits [15:0] of bytes 4 to 11, reserved. -/
  resv     : BitVec 16
  point    : Fin 512
  value    : BitVec 40
  wtag     : BitVec 6
  pstat    : Fin 8
  fdetail  : BitVec 16
  aux0     : BitVec 16
  aux1     : BitVec 16
  scrc     : BitVec 8
  lostv    : BitVec 8
deriving DecidableEq, Repr

/-- A locked discovery burst as read from its bits (R130). -/
structure Discovery where
  crcOk    : Bool
  /-- Highest protocol version the cell speaks. -/
  rver     : Nat
  /-- 0x7F in a discovery burst. -/
  slot     : Nat
  uid      : BitVec 48
  /-- Bit v - 1: version v spoken. -/
  verMask  : BitVec 3
  /-- Bit g: gear Gg supported. -/
  gearMask : BitVec 5
  /-- The random position chosen. -/
  r        : Nat
  /-- Cell type. -/
  ctype    : BitVec 16
deriving DecidableEq, Repr

/-- One reading of a transceiver's diagnostic page (R87, R117). -/
structure XcvrReading where
  rxPwr   : BitVec 16
  txPwr   : BitVec 16
  temp    : BitVec 16
  txFault : Bool
  rxLos   : Bool
deriving DecidableEq, Repr

/-! ### The host interface (R363 to R369, R381 to R402) -/

/-- Who writes a register: a core (R23), a host function into its own BAR (R24; `dword` false for an access
that is not an aligned 32-bit one, R354), or a host that sets NumVFs and VF Enable of a port. -/
inductive Writer where
  | core (u : Core)
  | host (fn : Fin 256) (dword : Bool)
  | sriov (port : Fin 2)
deriving DecidableEq, Repr

/-- One signature entry of a custodian object (R392): the slot, the SHA-256 of the public key it carries, and
whether its signature verifies under that key. -/
structure SigEntry where
  index   : Nat
  keyHash : Nat
  sigOk   : Bool
deriving DecidableEq, Repr

/-- A custodian object (R392, R400). -/
structure CustObject where
  kind     : Nat
  /-- MAGIC and FMT are right and every reserved byte of header and signature entries is 0. -/
  formatOk : Bool
  /-- The body is as long as its sections and its reserved bytes are 0 (item 4 of R393). -/
  bodyOk   : Bool
  /-- OBJ_LEN as the object's own lengths give it. -/
  length   : Nat
  sigs     : List SigEntry
  target   : BitVec 64
  /-- ISSUED of a bundle, NOT_BEFORE of a permit. -/
  time0    : Nat
  /-- NOT_AFTER of a token or permit. -/
  time1    : Nat
  /-- SERIAL, OPEN_INDEX or PERMIT_ID. -/
  serial   : Nat
  move     : Nat
  force    : Bool
  mask     : BitVec 7
  /-- The CAP section: the 16 words of each record, function by function. -/
  cap      : Option (List (List (BitVec 32)))
  /-- The AUTH section: the 16 words of each authority slot. -/
  auth     : Option (List (List (BitVec 32)))
  tamperAct : Option Nat
  /-- SHA-256 of header and body. -/
  hash     : Nat
  /-- KIND 0: k and the SHA-256 of each custodian key, N of them. -/
  provK    : Nat
  provKeys : List Nat
deriving DecidableEq, Repr

/-- A grant with the host's half of the key exchange, the 208-byte object of SESSION_OPEN (R386, R387). -/
structure Grant where
  /-- The first byte of MAGIC, FMT and the reserved bytes that is wrong, if any. -/
  formatAt : Option Nat
  authSlot : Nat
  /-- SIG verifies under the key of the authority slot. -/
  sigOk    : Bool
  target   : BitVec 64
  function : Nat
  verbs    : BitVec 8
  openedOk : Bool
  grantId  : Nat
  notBefore : Nat
  notAfter : Nat
  /-- CFG_KEY, 0 for none. -/
  cfgKey   : BitVec 256
  /-- X25519 with the host's public key gives a shared secret that is not all zero. -/
  secretOk : Bool
  /-- The 208 bytes of the object. -/
  object   : List (BitVec 8)
deriving DecidableEq, Repr

/-- The body of a descriptor by opcode (R366, R367), with the buffer or object it names. -/
inductive Body where
  | nop
  | readPoints (cell ncell point npoint : Nat) (dst : BitVec 64) (dstLen : Nat) (fresh : Bool)
  | readReg (blk offset nword : Nat) (dst : BitVec 64)
  | readLink (cell ncell : Nat) (dst : BitVec 64) (dstLen : Nat)
  | streamOpen (stream source : Nat) (arg : BitVec 64)
  | streamClose (stream : Nat)
  | sessionClose (handle : BitVec 16)
  | setpoint (conv code : Nat) (value : BitVec 40)
  | emergencyBlock (mask : BitVec 8)
  | pointWrite (cell point : Nat) (value : BitVec 40)
  | cfgWrite (blk offset : Nat) (words : List (BitVec 32))
  | cfgDmem (engine addr : Nat) (words : List (BitVec 40))
  | ceLoad (engine : Nat) (c : Container)
  | cellCtl (cell action : Nat)
  | blockRelease (mask : BitVec 8)
  | reset (force : Bool)
  | fwStage (offset : Nat) (first final flash : Bool) (image : Image)
  | sessionOpen (reply : BitVec 64) (g : Grant)
  | policy (o : CustObject)
  | debugOpen (o : CustObject)
  | testPermit (o : CustObject)
  /-- An opcode that R366 does not list. -/
  | unknown (opcode : BitVec 8)
deriving DecidableEq, Repr

/-- OPCODE of a descriptor (R366). -/
def Body.opcode : Body → BitVec 8
  | .nop => 0x00 | .readPoints .. => 0x01 | .readReg .. => 0x02 | .readLink .. => 0x03
  | .streamOpen .. => 0x04 | .streamClose .. => 0x05 | .sessionClose .. => 0x06
  | .setpoint .. => 0x10 | .emergencyBlock .. => 0x11 | .pointWrite .. => 0x12
  | .cfgWrite .. => 0x20 | .cfgDmem .. => 0x21 | .ceLoad .. => 0x22 | .cellCtl .. => 0x23
  | .blockRelease .. => 0x24 | .reset .. => 0x25 | .fwStage .. => 0x26
  | .sessionOpen .. => 0x30 | .policy .. => 0x31 | .debugOpen .. => 0x32 | .testPermit .. => 0x33
  | .unknown o => o

/-- AUTH that R366 gives the opcode: 0 read, 1 set-point, 2 configuration, 3 object. -/
def Body.auth : Body → Nat
  | .nop => 0 | .readPoints .. => 0 | .readReg .. => 0 | .readLink .. => 0
  | .streamOpen .. => 0 | .streamClose .. => 0 | .sessionClose .. => 0
  | .setpoint .. => 1 | .emergencyBlock .. => 1 | .pointWrite .. => 1
  | .cfgWrite .. => 2 | .cfgDmem .. => 2 | .ceLoad .. => 2 | .cellCtl .. => 2
  | .blockRelease .. => 2 | .reset .. => 2 | .fwStage .. => 2
  | .sessionOpen .. => 3 | .policy .. => 3 | .debugOpen .. => 3 | .testPermit .. => 3
  | .unknown _ => 0

/-- What became of the read of the buffer or object a descriptor names (R362, R376): read, not answered yet,
timed out, or answered with an error. -/
inductive BufRead where
  | read | waiting | timeout | error
deriving DecidableEq, Repr

/-- One descriptor as it stands in its command slots (R363, R364). -/
structure Descr where
  body    : Body
  auth    : BitVec 2
  cirq    : Bool
  order   : Bool
  csup    : Bool
  session : BitVec 16
  tag     : BitVec 32
  seq     : BitVec 64
  /-- Byte offset of the first reserved bit or byte that is not 0, if any. -/
  resvAt  : Option Nat
  /-- BUF_LEN or OBJ_LEN. -/
  bufLen  : Nat
  buf     : BufRead
  /-- The MAC or signature verifies. -/
  macOk   : Bool
deriving DecidableEq, Repr

/-- An image as it was read back (R544): its header of 256 bytes, its length and, for each check that needs the whole of its
bytes, what it answers; the program containers it carries go with it (R217). -/
structure ImageRead where
  header     : List (BitVec 8)
  length     : Nat
  signerHash : Nat
  sigOk      : Bool
  hashesOk   : Bool
  wrapOk     : Bool
  tagsOk     : Bool
  programs   : List (Nat × Container)
deriving DecidableEq, Repr

/-- What only cryptography can tell of a buffer (R387, R393, R400, R545): SHA-256 of an object's header and body; of each
signature entry the SHA-256 of its key and whether it verifies; the SHA-256 of each key of a provisioning body; whether a grant's
signature verifies and its shared secret is not all zero; and the image that a FW_STAGE piece completes. -/
structure Checked where
  hash     : Nat
  sigs     : List (Nat × Bool)
  keys     : List Nat
  sigOk    : Bool
  secretOk : Bool
  image    : ImageRead
deriving DecidableEq, Repr

/-- The buffer or object a descriptor names, as the module has read it (R362). -/
structure Buffer where
  bytes   : List (BitVec 8)
  checked : Checked
deriving DecidableEq, Repr

/-- One descriptor as it is fetched (R362): the bytes of its slots, whether its MAC or signature verifies, and what the read of its
buffer brings. -/
structure SlotRead where
  bytes  : List (BitVec 8)
  macOk  : Bool
  read   : BufRead
  buffer : Buffer
deriving DecidableEq, Repr

/-- What a read of a command slot brings (R362): the descriptor, an error, or no answer within the completion timeout. -/
inductive SlotFetch where
  | slot (x : SlotRead) | error | timeout
deriving DecidableEq, Repr

/-- What a read of a shadow tail brings (R361). -/
inductive TailRead where
  | tail (v : Reg32) | error | timeout
deriving DecidableEq, Repr

/-- One bulk-ring entry as host software wrote it (R374). -/
structure BulkEntry where
  addr : BitVec 64
  len  : Nat
deriving DecidableEq, Repr

/-! ### Station frames (R426 to R440) -/

/-- A value of a sampled-value ASDU with the quality bits the module reads. -/
structure SvValue where
  value : BitVec 32
  /-- Validity is invalid or questionable. -/
  bad   : Bool
  test  : Bool
deriving DecidableEq, Repr

/-- One ASDU of a sampled-value frame. -/
structure Asdu where
  /-- svID. -/
  svId     : List (BitVec 8)
  smpCnt   : BitVec 16
  /-- smpSynch is not 0. -/
  synced   : Bool
  /-- Length of seqData in bytes. -/
  seqBytes : Nat
  values   : List SvValue
deriving DecidableEq, Repr

/-- A reset frame (R439); `formatOk`: its length is right and FLAGS[7:1] is 0. -/
structure ResetFrame where
  formatOk : Bool
  force    : Bool
  slot     : BitVec 8
  target   : BitVec 64
  counter  : BitVec 64
  notAfter : BitVec 64
  sigOk    : Bool
deriving DecidableEq, Repr

/-- Messages of IEEE 1588 that R431 tells apart. -/
inductive PtpKind where
  | sync (twoStep : Bool) | followUp | delayReq | peerDelay | other
deriving DecidableEq, Repr

/-- What follows the EtherType. -/
inductive StationBody where
  | ptp (kind : PtpKind) (domain : BitVec 8) (source : BitVec 80) (seq : BitVec 16) (correction : BitVec 64)
  | sv (appid : BitVec 16) (asdus : List Asdu)
  | goose (appid : BitVec 16) (gocbRef : List (BitVec 8)) (stNum : BitVec 32) (sim : Bool) (talMs : Nat)
  /-- The payload of the module's own protocol, and whether the signature in it verifies. -/
  | own (payload : List (BitVec 8)) (sigOk : Bool)
  | other
deriving DecidableEq, Repr

/-- A frame received on a station port. -/
structure StationFrame where
  dst    : BitVec 48
  src    : BitVec 48
  etype  : BitVec 16
  /-- Bytes, FCS included. -/
  length : Nat
  twoTags : Bool
  pause  : Bool
  fcsOk  : Bool
  body   : StationBody
deriving DecidableEq, Repr

/-- A safety parameter set (R459): MAGIC, LEN and the zero bytes are right, PSET_CRC and whether it matches, VER, and the 72
words of the image of offsets 0x100 to 0x21F. -/
structure ParamSet where
  headerOk : Bool
  ver      : BitVec 16
  crc      : BitVec 32
  crcOk    : Bool
  image    : List (BitVec 32)
deriving DecidableEq, Repr

/-- A message on the parameter channel (R461, R475). -/
structure ParamMsg where
  connId : BitVec 32
  mtype  : BitVec 8
  len    : Nat
  crcOk  : Bool
  wdMs   : BitVec 16
  seq    : BitVec 32
  set    : ParamSet
deriving DecidableEq, Repr

/-- A safety DATA message (R475). -/
structure SafetyMsg where
  connId : BitVec 32
  src    : BitVec 48
  mtype  : BitVec 8
  len    : Nat
  crcOk  : Bool
  wdMs   : BitVec 16
  byte16 : BitVec 8
  byte17 : BitVec 8
  seq    : BitVec 32
deriving DecidableEq, Repr

/-- What an island fault is (R458). -/
inductive IslandCause where
  | lockstep | cross | ecc | clock | vsaf
deriving DecidableEq, Repr

/-- What a poisoned granule of the cycle SRAM held (R413): neither a sample record nor an engine input, the sample of a
cell (spoke, slot), or an input word of an engine (its data-memory address). -/
inductive Poison where
  | other
  | sample (spoke : Fin 128) (slot : Fin 96)
  | input (engine : Fin 32) (addr : Fin 32768)
deriving DecidableEq, Repr

/-- A row of a logical bank of the cycle SRAM (R411). -/
structure SramRow where
  bank : Fin 60
  row  : Fin 12288
deriving DecidableEq, Repr

/-- What step 2 of a start finds of the key store: its content passes its check (R403), and, where the start zeroises, every secret reads
back zero (R398). -/
structure KeyStoreRead where
  checkOk  : Bool
  zeroised : Bool
deriving DecidableEq, Repr

/-- What a comparator of R332 finds at cause 0: a mismatch of the serve assembler, or of the decision logic, of which one copy alone has
decided to block the converters of `mask` for `reason` (R334). -/
inductive Mismatch where
  | assembler
  | decision (mask : BitVec 8) (reason : Fin 6)
deriving DecidableEq, Repr

/-- Traffic classes that share the memories (R17). -/
inductive TrafficClass where
  | c1 | c2 | c3
deriving DecidableEq, Repr

/-- A requester (R409): a function, or an internal DMA engine. Of C2 and C3: 0 the recorder, 1 the logs, 2 the engine copies; of C1: 0 a
spoke receive path, 1 the input streamer, 2 the output streamer, 3 the extract engine, 4 the shadow builder. -/
inductive Requester where
  | fn (f : Fin 256)
  | dma (k : Fin 5)
deriving DecidableEq, Repr

/-- The shared resources of the fabric (R18): a bank port of the cycle SRAM, a DRAM channel, the die-to-die interface, the HIF DMA engine. -/
inductive Resource where
  | sram | dram | die | hif
deriving DecidableEq, Repr

/-- An access that activates a DRAM row (R416): the row, and whether it is the row's first of a new refresh interval. -/
structure Activation where
  row   : BitVec 32
  fresh : Bool
deriving DecidableEq, Repr

/-- A granule of 64 bytes that asks for a grant (R18): of the cycle SRAM at a logical address, or of the DRAM at an offset; the other two
resources have no address. `sample` is the cell whose sample record it carries (R410), `opens` the row that its access activates. -/
structure Granule where
  cls    : TrafficClass
  who    : Requester
  res    : Resource
  addr   : Nat
  sample : Option (Fin 16384)
  opens  : Option Activation
deriving DecidableEq, Repr

/-! ### Frames of the tandem link (R328, R329) -/

/-- A STATUS frame, with what its receiver measured on it: the offset δ of R326 in units of 10 ps, whether boundaries
lie within ±1.25 ns, and the error of the own TB1 against the twin's in units of 2^-32 ns. -/
structure StatusFrame where
  crcOk    : Bool
  state    : Nat
  role     : Nat
  epoch    : BitVec 16
  tverLo   : Nat
  tverHi   : Nat
  digest   : BitVec 128
  locked   : BitVec 128
  delta    : BitVec 16
  timeOk   : Bool
  tb1Error : Int
deriving DecidableEq, Repr

/-- A SHADOW frame (R329). -/
structure ShadowFrame where
  crcOk     : Bool
  volley    : BitVec 32
  epoch     : BitVec 16
  sidNow    : BitVec 8
  blocked   : BitVec 8
  /-- TB1 at the boundary of the volley, in ns. -/
  tb1       : Nat
  digest    : BitVec 128
  tver      : Nat
  /-- GC_GEAR and GC_CNT of each spoke, 0 to 127. -/
  gears     : List (Nat × Nat)
  /-- VALUE and ACCEPT by 5 x converter + code. -/
  setpoints : List (BitVec 40 × BitVec 40)
  /-- Cells whose belief is not bypassed, with H as coded in R195. -/
  beliefs   : List (Nat × Nat)
  /-- Cells whose sample was used. -/
  used      : List Nat
  /-- Sync regions: engine and words. -/
  sync      : List (Nat × List (BitVec 40))
deriving DecidableEq, Repr

end Sys2Proof
end

