-- ==== Sys2Proof/Syntax.lean ====
section
/-! DEFINITION. The commands of the block: one constructor per row of spec/opcode_table.json, in the
table's order, with the operands its rule gives it. -/

namespace Sys2Proof

/-- A command to the VKS-9216, or an event at one of its pins, links or timers. -/
inductive Instr where
  -- Reset and start
  /-- POWER_ON (R60): The internal detector sees VSEC or VCORE rise from below retention and a cold reset is taken. -/
  | powerOn (retained : Bool)
  /-- PORST_N_ASSERT (R61): PORST_N held low long enough is taken as a cold reset that holds while the pin is low. -/
  | porstNAssert (ns : Nat)
  /-- RESET_N_ASSERT (R61): RESET_N held low long enough is taken as a warm reset that holds while the pin is low. -/
  | resetNAssert (ns : Nat)
  /-- RESET_PIN_RELEASE (R61): A pin-held reset is released 2 us after the pin returns high and the start sequence begins. -/
  | resetPinRelease (pin : ResetPin)
  /-- SUPERVISOR_UNDERVOLTAGE (R39): The OR-ed input below 2.50 V for 2 us causes a supervisor undervoltage reset. -/
  | supervisorUndervoltage
  /-- RUN_WATCHDOG_EXPIRE (R60): WDT_RUN_MS elapses without a kick and a warm reset is taken. -/
  | runWatchdogExpire
  /-- START_WATCHDOG_EXPIRE (R71): The start is not complete within WDT_START_S and a warm reset with cause WDT_START is taken. -/
  | startWatchdogExpire
  /-- MODULE_ORDERED_RESET (R60): MGC0 orders a warm reset after an open token, MOVE 3 or 4, a recovery staging or an image fall-back. -/
  | moduleOrderedReset
  /-- START_REFCLK_LOCKED (R69): A reference clock becomes present during start step 1 and the counter clock locks so the start can proceed. -/
  | startRefclkLocked
  /-- START_SEQUENCE (R69): The module runs the ordered start steps from fuse read to block configuration and START_DONE. -/
  | startSequence (fuses : List FuseRead) (strap : List (BitVec 12)) (seconds : BitVec 32) (keys : KeyStoreRead)
  /-- STORM_WINDOW_CLEAR (R76): 600 s after a start complete without a reset, the storm start count is cleared. -/
  | stormWindowClear
  /-- WDT_KICK (R79): A keyed write of KICK restarts the run watchdog. -/
  | wdtKick (u : Core) (key : BitVec 16)
  /-- START_DONE (R79): A keyed write of START_DONE completes the start, stops the start watchdog and starts the run watchdog. -/
  | startDone (u : Core) (key : BitVec 16)
  /-- RST_CFG_LOCK (R78): Setting RST_CFG.LOCK locks its RWL fields until the next reset. -/
  | rstCfgLock (u : Core)
  /-- TAMPER_INPUT (R75): TAMP0 or TAMP1 pulled low for 100 us writes a tamper entry and triggers the policy reaction. -/
  | tamperInput (input : Fin 2) (seconds : BitVec 32)
  -- Power and temperature
  /-- FEED_USABLE (R39): A feed rising above 2.65 V for 100 us becomes usable and its switch may close. -/
  | feedUsable (f : Feed) (mv : BitVec 16)
  /-- FEED_WARNING (R39): A feed falling below WARN_MV for 100 us sets A_LOW or B_LOW and raises an event. -/
  | feedWarning (f : Feed) (mv : BitVec 16)
  /-- FEED_LOST (R40): A feed below 2.55 V for 10 us opens its switch and the other usable feed takes the load. -/
  | feedLost (f : Feed)
  /-- FEED_OVER_VOLTAGE (R39): A feed above 16.5 V for 1 us opens its switch and sets the OV flag. -/
  | feedOverVoltage (f : Feed)
  /-- FEED_OV_RECOVER (R39): A feed held below 16.0 V for 100 ms after over-voltage becomes usable again. -/
  | feedOvRecover (f : Feed) (mv : BitVec 16)
  /-- REVERSE_CURRENT (R39): More than 2 A into a feed for 200 ns opens its switch and sets the REV flag. -/
  | reverseCurrent (f : Feed)
  /-- REVERSE_RECLOSE (R39): A reverse-tripped feed leading by 50 mV again has its switch reclosed. -/
  | reverseReclose (f : Feed)
  /-- FEED_MEASURE_REFRESH (R54): Every 1 ms the feed, rail and thermal measurements are refreshed. -/
  | feedMeasureRefresh (mvA : BitVec 16) (currA : BitVec 16) (mvB : BitVec 16) (currB : BitVec 16) (coreMv : BitVec 10) (tj : BitVec 8) (tdram : BitVec 8)
  /-- VBAT_CHECK (R54): At start and every hour VBAT is read and VBAT_LOW set when below 2.2 V. -/
  | vbatCheck (mv : Nat)
  /-- RAIL_OUT_OF_RANGE (R44): A rail outside its window for 2 us sets CORE_OOR or AUX_OOR and raises the yield condition. -/
  | railOutOfRange (rail : Fin 8)
  /-- JUNCTION_TEMP_FLAG (R52): The junction reaching 110 C or 125 C sets TJ_HOT or TJ_CRIT. -/
  | junctionTempFlag (tj : BitVec 8)
  /-- DRAM_TEMP_CHANGE (R414): The DRAM crossing 85 C or 105 C changes refresh and usable bandwidth and reruns admission. -/
  | dramTempChange (tdram : BitVec 8)
  -- The volley, spokes and cells
  /-- VOLLEY_BOUNDARY (R25): The time island reaches a volley boundary and the new volley begins with serve transmission. -/
  | volleyBoundary (late : BitVec 128)
  /-- BUDGET_WINDOW_END (R173): A switching budget window ends at an aligned volley number and held cells are released. -/
  | budgetWindowEnd (arm : Fin 48)
  /-- RETURN_BURST_RECEIVE (R131): A locked return burst is checked and its fault bits, sample and point response are used or discarded. -/
  | returnBurstReceive (spoke : Fin 128) (slot : Fin 96) (off : Int) (bits : List Bool)
  /-- SLOT_NO_LOCK (R96): A slot whose delimiter is not found in time is counted and its return is missing. -/
  | slotNoLock (spoke : Fin 128) (slot : Fin 96)
  /-- RETURN_WINDOW_CLOSE (R28): At the close of the return window every unchecked return counts as missing for the volley. -/
  | returnWindowClose
  /-- SPOKE_LOS (R96): An admitted spoke with no burst locked in 8 consecutive return windows sets LOS and counts as lost. -/
  | spokeLos (spoke : Fin 128)
  /-- CELL_LOST (R149): A cell missing in MISS_LIMIT consecutive volleys is declared lost. -/
  | cellLost (spoke : Fin 128) (slot : Fin 96)
  /-- CELL_AUTO_RESUME (R143): With AUTO_RESUME, RESUME is sent after 16 consecutive in-place returns from a cell in LOL. -/
  | cellAutoResume (spoke : Fin 128) (slot : Fin 96)
  /-- ADMISSION_TIMEOUT (R135): A cell without an in-place return within 8 volleys of ASSIGN is sent RELEASE and its slot freed. -/
  | admissionTimeout (spoke : Fin 128) (slot : Fin 96)
  /-- DISCOVERY_OFFER (R133): The module sends DISC_OPEN on a probing, newly woken or discovery-enabled spoke. -/
  | discoveryOffer (spoke : Fin 128) (doff : Nat)
  /-- DISCOVERY_BURST (R134): A discovery burst is ranged and the cell is assigned a slot or refused. -/
  | discoveryBurst (spoke : Fin 128) (tp : Int) (bits : List Bool)
  /-- DISCOVERY_END (R102): Discovery at bring-up ends when EXPECT is met or 64 DISC_OPENs admit no further cell. -/
  | discoveryEnd (spoke : Fin 128)
  /-- COMPUTE_WINDOW_OPEN (R198): At tick C every ACTIVE or MIG_SRC engine clears its registers and starts at ENTRY. -/
  | computeWindowOpen (late : BitVec 32)
  /-- SERVE_ASSEMBLY_START (R29): At tick A serve assembly begins for the next volley from the committed engine outputs. -/
  | serveAssemblyStart
  /-- SPOKE_ENABLE (R102): ENABLE going from 0 to 1 brings a spoke up at G0 with discovery and ranging. -/
  | spokeEnable (u : Core) (spoke : Fin 128)
  /-- SPOKE_DISABLE (R99): ENABLE going to 0 puts both directions of a spoke to sleep. -/
  | spokeDisable (u : Core) (spoke : Fin 128)
  /-- SPOKE_PROBE_START (R101): PROBE_S after entering Empty, the spoke wakes at G0 and offers discovery for 64 volleys. -/
  | spokeProbeStart (spoke : Fin 128)
  /-- SPOKE_PROBE_END (R101): After 64 volleys of probing, a spoke without an admitted cell returns to Empty. -/
  | spokeProbeEnd (spoke : Fin 128)
  /-- GEAR_STEP_AUTO (R103): With AUTO_UP and all owning converters blocked, the module plans a change to the target gear. -/
  | gearStepAuto (spoke : Fin 128)
  /-- RESTEP (R103): A RESTEP write requests a gear change to the target gear, or is cleared when already there. -/
  | spkRestep (u : Core) (spoke : Fin 128)
  /-- CLR_CAP (R105): A CLR_CAP write clears GEAR_CAP to 4. -/
  | spkClrCap (u : Core) (spoke : Fin 128)
  /-- SPK_CNT_CLR (R111): A CNT_CLR write clears the four burst counters of a spoke. -/
  | spkCntClr (u : Core) (spoke : Fin 128)
  /-- GEAR_CHANGE_VOLLEY (R104): At the announced boundary B the spoke switches gear and carries idle only for that volley. -/
  | gearChangeVolley (spoke : Fin 128)
  /-- GEAR_TRIAL_END (R105): A gear trial ends after 1,024 volleys, failing with GEAR_CAP lowered and a step down if too many returns were missing. -/
  | gearTrialEnd (spoke : Fin 128)
  /-- CTLE_SWEEP (R98): The monitor sampler sweeps the 16 CTLE steps and the best enters the data path after the next return window. -/
  | ctleSweep (spoke : Fin 128) (eyes : List (BitVec 8 × BitVec 8))
  /-- HOST_FENCE (R108): Writing SPK_CTLn.FENCE fences the spoke at the next boundary, or clearing it lifts the fence. -/
  | hostFence (u : Core) (spoke : Fin 128) (fence : Bool)
  /-- LANE_TEST_SELECT (R109): A write of SPK_TESTn MODE or LIGHT on a fenced spoke selects a lane test. -/
  | laneTestSelect (u : Core) (spoke : Fin 128) (mode : BitVec 3) (light : Bool)
  /-- TRANSCEIVER_POLL (R87): MGC3 reads each enabled spoke's transceiver diagnostics every MS_PERIOD_S. -/
  | transceiverPoll (spoke : Fin 128) (reading : Option XcvrReading)
  /-- VLY_BIND_WRITE (R158): A write to the binding table is checked for duplicate UIDs and takes effect at the next admission. -/
  | vlyBindWrite (u : Core) (spoke : Fin 128) (slot : Fin 96) (high : Bool) (value : Reg32)
  /-- VLY_ARMMAP_WRITE (R184): A write to the arm map assigns a member number and starts the ARMBIND procedure. -/
  | vlyArmmapWrite (u : Core) (spoke : Fin 128) (slot : Fin 96) (arm : BitVec 6) (fb : Bool) (valid : Bool)
  /-- WRITE_TIMEOUT (R139): A posted write or read-back not done within WR_TMO volleys fails with cause 6. -/
  | writeTimeout (spoke : Fin 128) (slot : Fin 96)
  -- Control-engine instructions
  /-- NOP (R203): The engine executes a no-operation. -/
  | ceNop (e : Fin 32) (rd rs1 rs2 : BitVec 4)
  /-- DONE (R199): DONE ends the program's volley and commits the working output areas and staged event words. -/
  | ceDone (e : Fin 32) (rd rs1 rs2 : BitVec 4) (tick : BitVec 17)
  /-- RESUME (R211): The C0 handler ends, restoring the program bank and continuing or restarting a suspended long instruction. -/
  | ceResume (e : Fin 32) (rd rs1 rs2 : BitVec 4)
  /-- ABANDON (R211): The C0 handler ends, discarding the suspended long instruction and setting ABND. -/
  | ceAbandon (e : Fin 32) (rd rs1 rs2 : BitVec 4)
  /-- TRAP (R204): TRAP halts to debug in an OPENED debug session and is illegal otherwise. -/
  | ceTrap (e : Fin 32) (rd rs1 rs2 : BitVec 4)
  /-- ADD (R203): rd = rs1 + rs2 modulo 2^40. -/
  | ceAdd (e : Fin 32) (rd rs1 rs2 : BitVec 4)
  /-- SUB (R203): rd = rs1 - rs2 modulo 2^40. -/
  | ceSub (e : Fin 32) (rd rs1 rs2 : BitVec 4)
  /-- AND (R203): rd = rs1 AND rs2. -/
  | ceAnd (e : Fin 32) (rd rs1 rs2 : BitVec 4)
  /-- OR (R203): rd = rs1 OR rs2. -/
  | ceOr (e : Fin 32) (rd rs1 rs2 : BitVec 4)
  /-- XOR (R203): rd = rs1 XOR rs2. -/
  | ceXor (e : Fin 32) (rd rs1 rs2 : BitVec 4)
  /-- SHL (R203): rd = rs1 shifted left by rs2[5:0]. -/
  | ceShl (e : Fin 32) (rd rs1 rs2 : BitVec 4)
  /-- SHR (R203): rd = rs1 shifted right logically by rs2[5:0]. -/
  | ceShr (e : Fin 32) (rd rs1 rs2 : BitVec 4)
  /-- SAR (R203): rd = rs1 shifted right arithmetically by rs2[5:0]. -/
  | ceSar (e : Fin 32) (rd rs1 rs2 : BitVec 4)
  /-- SLT (R203): rd = 1 when rs1 < rs2 signed, else 0. -/
  | ceSlt (e : Fin 32) (rd rs1 rs2 : BitVec 4)
  /-- SLTU (R203): rd = 1 when rs1 < rs2 unsigned, else 0. -/
  | ceSltu (e : Fin 32) (rd rs1 rs2 : BitVec 4)
  /-- MIN (R203): rd = signed minimum of rs1 and rs2. -/
  | ceMin (e : Fin 32) (rd rs1 rs2 : BitVec 4)
  /-- MAX (R203): rd = signed maximum of rs1 and rs2. -/
  | ceMax (e : Fin 32) (rd rs1 rs2 : BitVec 4)
  /-- MINU (R203): rd = unsigned minimum of rs1 and rs2. -/
  | ceMinu (e : Fin 32) (rd rs1 rs2 : BitVec 4)
  /-- MAXU (R203): rd = unsigned maximum of rs1 and rs2. -/
  | ceMaxu (e : Fin 32) (rd rs1 rs2 : BitVec 4)
  /-- MUL (R203): rd = low 40 bits of rs1 times rs2. -/
  | ceMul (e : Fin 32) (rd rs1 rs2 : BitVec 4)
  /-- CLZ (R203): rd = count of leading zeros of rs1. -/
  | ceClz (e : Fin 32) (rd rs1 rs2 : BitVec 4)
  /-- ADDI (R203): rd = rs1 + sign-extended imm18. -/
  | ceAddi (e : Fin 32) (rd rs1 : BitVec 4) (imm : BitVec 18)
  /-- ANDI (R203): rd = rs1 AND zero-extended imm18. -/
  | ceAndi (e : Fin 32) (rd rs1 : BitVec 4) (imm : BitVec 18)
  /-- ORI (R203): rd = rs1 OR zero-extended imm18. -/
  | ceOri (e : Fin 32) (rd rs1 : BitVec 4) (imm : BitVec 18)
  /-- XORI (R203): rd = rs1 XOR zero-extended imm18. -/
  | ceXori (e : Fin 32) (rd rs1 : BitVec 4) (imm : BitVec 18)
  /-- SHLI (R203): rd = rs1 shifted left by imm18[5:0]. -/
  | ceShli (e : Fin 32) (rd rs1 : BitVec 4) (imm : BitVec 18)
  /-- SHRI (R203): rd = rs1 shifted right logically by imm18[5:0]. -/
  | ceShri (e : Fin 32) (rd rs1 : BitVec 4) (imm : BitVec 18)
  /-- SARI (R203): rd = rs1 shifted right arithmetically by imm18[5:0]. -/
  | ceSari (e : Fin 32) (rd rs1 : BitVec 4) (imm : BitVec 18)
  /-- LIL (R203): rd = sign-extended imm22. -/
  | ceLil (e : Fin 32) (rd : BitVec 4) (imm : BitVec 22)
  /-- LIH (R203): rd[39:22] = imm22[17:0], low bits unchanged. -/
  | ceLih (e : Fin 32) (rd : BitVec 4) (imm : BitVec 22)
  /-- LD (R203): rd is loaded from data memory at rs1 + offset. -/
  | ceLd (e : Fin 32) (rd rs1 : BitVec 4) (imm : BitVec 18)
  /-- ST (R203): rd is stored to data memory at rs1 + offset. -/
  | ceSt (e : Fin 32) (rd rs1 : BitVec 4) (imm : BitVec 18)
  /-- LDA (R203): An accumulator is loaded from data memory. -/
  | ceLda (e : Fin 32) (rd rs1 : BitVec 4) (imm : BitVec 18)
  /-- STA (R203): An accumulator is stored to data memory. -/
  | ceSta (e : Fin 32) (rd rs1 : BitVec 4) (imm : BitVec 18)
  /-- MPY (R231): ACC = exact Q15 product of two operands. -/
  | ceMpy (e : Fin 32) (rx rs1 rs2 : BitVec 4) (acc : BitVec 2)
  /-- MAC (R231): ACC += Q15 product with saturation to Q9.30. -/
  | ceMac (e : Fin 32) (rx rs1 rs2 : BitVec 4) (acc : BitVec 2)
  /-- MSU (R231): ACC -= Q15 product with saturation to Q9.30. -/
  | ceMsu (e : Fin 32) (rx rs1 rs2 : BitVec 4) (acc : BitVec 2)
  /-- ACLR (R233): ACC is cleared to 0. -/
  | ceAclr (e : Fin 32) (rx rs1 rs2 : BitVec 4) (acc : BitVec 2)
  /-- AMOV (R233): ACC takes the raw register value. -/
  | ceAmov (e : Fin 32) (rx rs1 rs2 : BitVec 4) (acc : BitVec 2)
  /-- ARND (R232): The accumulator is rounded and saturated to Q15 into a register. -/
  | ceArnd (e : Fin 32) (rx rs1 rs2 : BitVec 4) (acc : BitVec 2)
  /-- AEXT (R233): A register takes the raw accumulator value. -/
  | ceAext (e : Fin 32) (rx rs1 rs2 : BitVec 4) (acc : BitVec 2)
  /-- AADD (R231): ACC += another accumulator with saturation. -/
  | ceAadd (e : Fin 32) (rx rs1 rs2 : BitVec 4) (acc : BitVec 2)
  /-- FADD (R241): F40 addition rounded once with IEEE flags. -/
  | ceFadd (e : Fin 32) (rd rs1 rs2 : BitVec 4) (rm : BitVec 3)
  /-- FSUB (R241): F40 subtraction rounded once with IEEE flags. -/
  | ceFsub (e : Fin 32) (rd rs1 rs2 : BitVec 4) (rm : BitVec 3)
  /-- FMUL (R242): F40 multiplication rounded once with IEEE flags. -/
  | ceFmul (e : Fin 32) (rd rs1 rs2 : BitVec 4) (rm : BitVec 3)
  /-- FDIV (R242): F40 division rounded once with IEEE flags. -/
  | ceFdiv (e : Fin 32) (rd rs1 rs2 : BitVec 4) (rm : BitVec 3)
  /-- FSQRT (R243): F40 square root rounded once with IEEE flags. -/
  | ceFsqrt (e : Fin 32) (rd rs1 rs2 : BitVec 4) (rm : BitVec 3)
  /-- FMA (R244): rd = rd + rs1 x rs2 with one rounding. -/
  | ceFma (e : Fin 32) (rd rs1 rs2 : BitVec 4) (rm : BitVec 3)
  /-- FMIN (R245): F40 minimum with NaN and signed-zero rules. -/
  | ceFmin (e : Fin 32) (rd rs1 rs2 : BitVec 4) (rm : BitVec 3)
  /-- FMAX (R245): F40 maximum with NaN and signed-zero rules. -/
  | ceFmax (e : Fin 32) (rd rs1 rs2 : BitVec 4) (rm : BitVec 3)
  /-- FEQ (R245): Quiet F40 equality comparison. -/
  | ceFeq (e : Fin 32) (rd rs1 rs2 : BitVec 4) (rm : BitVec 3)
  /-- FLT (R245): Signalling F40 less-than comparison. -/
  | ceFlt (e : Fin 32) (rd rs1 rs2 : BitVec 4) (rm : BitVec 3)
  /-- FLE (R245): Signalling F40 less-or-equal comparison. -/
  | ceFle (e : Fin 32) (rd rs1 rs2 : BitVec 4) (rm : BitVec 3)
  /-- FCVT_QF (R247): F40 converted to Q9.30 with range clamp. -/
  | ceFcvtQf (e : Fin 32) (rd rs1 rs2 : BitVec 4) (rm : BitVec 3)
  /-- FCVT_FQ (R247): Q9.30 converted to F40. -/
  | ceFcvtFq (e : Fin 32) (rd rs1 rs2 : BitVec 4) (rm : BitVec 3)
  /-- FCVT_IF (R247): F40 converted to a 40-bit signed integer with range clamp. -/
  | ceFcvtIf (e : Fin 32) (rd rs1 rs2 : BitVec 4) (rm : BitVec 3)
  /-- FCVT_FI (R247): A 40-bit signed integer converted to F40. -/
  | ceFcvtFi (e : Fin 32) (rd rs1 rs2 : BitVec 4) (rm : BitVec 3)
  /-- FCLASS (R246): A one-hot class mask of an F40 value is written. -/
  | ceFclass (e : Fin 32) (rd rs1 rs2 : BitVec 4) (rm : BitVec 3)
  /-- FNEG (R240): Bit 39 of an F40 value is inverted. -/
  | ceFneg (e : Fin 32) (rd rs1 rs2 : BitVec 4) (rm : BitVec 3)
  /-- FABS (R240): Bit 39 of an F40 value is cleared. -/
  | ceFabs (e : Fin 32) (rd rs1 rs2 : BitVec 4) (rm : BitVec 3)
  /-- BR (R203): A conditional branch by cond is taken or not. -/
  | ceBr (e : Fin 32) (rs1 rs2 : BitVec 4) (cond : BitVec 3) (off : BitVec 15)
  /-- JAL (R203): Jump relative, saving the return index. -/
  | ceJal (e : Fin 32) (rd : BitVec 4) (off : BitVec 22)
  /-- JALR (R203): Jump to register plus offset, saving the return index. -/
  | ceJalr (e : Fin 32) (rd rs1 : BitVec 4) (imm : BitVec 18)
  /-- CSRR (R189): A control and status register is read into rd. -/
  | ceCsrr (e : Fin 32) (rd rs1 : BitVec 4) (imm : BitVec 18)
  /-- CSRW (R189): A control and status register is written, including EVQ words to the event queue. -/
  | ceCsrw (e : Fin 32) (rd rs1 : BitVec 4) (imm : BitVec 18)
  /-- ORDSTAT (R206): The key of rank k among raw elements is selected. -/
  | ceOrdstat (e : Fin 32) (rd rs1 rs2 rk rp : BitVec 4) (j : BitVec 2) (stop : Option Nat)
  /-- ORDSTAT_M (R207): The key of rank k among arm member keys formed as R163 is selected. -/
  | ceOrdstatM (e : Fin 32) (rd rs1 rs2 rk rp : BitVec 4) (j : BitVec 2) (stop : Option Nat)
  /-- ORDSTATM (R206): The keys of j ranks among raw elements are selected. -/
  | ceOrdstatm (e : Fin 32) (rd rs1 rs2 rk rp : BitVec 4) (j : BitVec 2) (stop : Option Nat)
  /-- ORDSTATM_M (R207): The keys of j ranks among arm member keys are selected. -/
  | ceOrdstatmM (e : Fin 32) (rd rs1 rs2 rk rp : BitVec 4) (j : BitVec 2) (stop : Option Nat)
  /-- HIST (R206): A 64-bin histogram of element values is built. -/
  | ceHist (e : Fin 32) (rd rs1 rs2 rk rp : BitVec 4) (j : BitVec 2) (stop : Option Nat)
  /-- VDOT (R234): A Q15 dot product is accumulated with saturation at each step. -/
  | ceVdot (e : Fin 32) (rd rs1 rs2 rk rp : BitVec 4) (j : BitVec 2) (stop : Option Nat)
  -- Control-engine events
  /-- C0_HANDLER_ENTRY (R208): A C0 event reaching an engine enters its handler at the next boundary, or is coalesced. -/
  | c0HandlerEntry (e : Fin 32)
  /-- ENGINE_ECC_SCRUB (R190): The background scrub reads every instruction and word, correcting or faulting on errors. -/
  | engineEccScrub (e : Fin 32) (instr : Bool) (addr : Fin 32768) (corrected : Bool)
  /-- CE_ENABLE (R219): A write of CE_CFGn.ENABLE makes a loaded engine ACTIVE or an active engine LOADED at the next boundary. -/
  | ceEnable (u : Core) (e : Fin 32) (on : Bool)
  /-- CE_ARMOWN_WRITE (R220): A staged write of engine arm ownership is checked against ARMS_MAX and other owners. -/
  | ceArmownWrite (u : Core) (e : Fin 32) (value : Reg32)
  /-- MIGRATION_START (R218): CE_MIGn.START begins moving an active engine's work to a target engine. -/
  | migrationStart (u : Core) (e target : Fin 32) (copy : Bool)
  /-- MIGRATION_COPIED (R218): The background copy of a migration ends and COPIED is set. -/
  | migrationCopied (e : Fin 32)
  /-- MIGRATION_ABORT (R218): CE_MIGn.ABORT ends a migration before hand-over. -/
  | migrationAbort (u : Core) (e : Fin 32)
  /-- CE_HOST_FENCE (R225): Writing CE_CTLn.FENCE fences or unfences an engine at the next boundary. -/
  | ceHostFence (u : Core) (e : Fin 32) (on : Bool)
  /-- CE_CNT_CLR (R225): CE_CTLn.CNT_CLR clears the overrun, RUN_MAX and ECC counters. -/
  | ceCntClr (u : Core) (e : Fin 32)
  /-- DLMAX_CLR (R225): CE_CTLn.DLMAX_CLR clears MAX_END. -/
  | dlmaxClr (u : Core) (e : Fin 32)
  -- Protection path and pulse outputs
  /-- BLOCK_IN_ACTIVE (R280): A BLOCK_IN pin stable at its active level for FILT ticks becomes an active block source. -/
  | blockInActive (pin : Fin 2)
  /-- BLOCK_IN_INACTIVE (R280): A BLOCK_IN pin stable at its inactive level for FILT ticks ceases to be live. -/
  | blockInInactive (pin : Fin 2)
  /-- PAIR_DISC (R280): BLOCK_IN pins differing for longer than DISC_US set PAIR_DISC. -/
  | pairDisc
  /-- SIDEBAND_LOSS (R282): No sideband heartbeat for 64 ticks sets SIDEBAND and may block the die's converters. -/
  | sidebandLoss (die : Fin 2)
  /-- LPW_BLK_REL (R288): A write of LPW_BLK_REL requests release of converters at the next tick A. -/
  | lpwBlkRel (u : Core) (mask : BitVec 8)
  /-- LPW_LOCK (R296): Setting LPW_LOCK.LOCK locks the protection RWL fields. -/
  | lpwLock (u : Core)
  /-- LP_COMMIT (R291): A COMMIT write marks a pulse channel's staged pair pending. -/
  | lpCommit (u : Core) (channel : Fin 16)
  /-- LP_FIRE (R292): A FIRE write runs a one-shot pulse channel once, or sets FIRE_LOST while a shot runs. -/
  | lpFire (u : Core) (channel : Fin 16)
  /-- LP_PERIOD_WRAP (R291): A pulse channel counter wraps and takes any pending period pair. -/
  | lpPeriodWrap (channel : Fin 16)
  /-- LP_ONESHOT_END (R292): A one-shot run reaches PERIOD - 1 and stops off. -/
  | lpOneshotEnd (channel : Fin 16)
  /-- LP_DEAD_TIME_END (R294): DEAD ticks after the interlock partner turns off, the held channel is released. -/
  | lpDeadTimeEnd (channel : Fin 16)
  /-- DEBUG_HALT (R295): A core or engine halted by debug freezes or turns off the pulse channels and pauses watchdogs. -/
  | debugHalt (unit : Fin 64)
  /-- DEBUG_HALT_END (R295): The last debug halt ends and the pulse channels resume counting. -/
  | debugHaltEnd (unit : Fin 64)
  -- Analogue inputs
  /-- TRIGGER_GENERATOR_EVENT (R308): A trigger generator fires and starts triggered conversions after their delay. -/
  | triggerGeneratorEvent (tg : Fin 4)
  /-- ADC_URG (R309): A write of ADC_URG requests urgent conversions on the named channels. -/
  | adcUrg (u : Core) (mask : BitVec 28)
  /-- CONVERSION_COMPLETE (R306): A conversion result is ready and its comparators are evaluated. -/
  | conversionComplete (channel : Fin 28) (nanovolts : Int)
  /-- BACKGROUND_CAL_STEP (R311): Every CAL_STEP the spare slice calibrates and takes over a channel or is fenced. -/
  | backgroundCalStep (group : Fin 4) (offset : Int) (gain : Nat)
  /-- SYSCAL_START (R313): A START write of ADC_SYSCAL begins a system calibration step on one channel. -/
  | syscalStart (u : Core) (ch : BitVec 5) (step : BitVec 2)
  /-- SYSCAL_STEP_DONE (R313): After 1,024 conversions a system calibration step completes or fails. -/
  | syscalStepDone
  /-- VREF_OUT_OF_WINDOW (R305): A group reference outside its window for 10 us sets VREF and marks results CAL_NV. -/
  | vrefOutOfWindow (group : Fin 4)
  /-- VREF_RECOVER (R305): A reference back in its window for 10 us sets VREF_OK again. -/
  | vrefRecover (group : Fin 4)
  /-- ADC_CNT_CLR (R319): ADC_CTL.CNT_CLR clears every channel counter. -/
  | adcCntClr (u : Core)
  -- Tandem
  /-- TKOV_HOLD_RECOGNISED (R325): TKOV_IN recognises the HOLD pattern from the twin. -/
  | tkovHoldRecognised
  /-- TKOV_HOLD_LOST (R325): TKOV_IN loses HOLD after 60 ns without an edge. -/
  | tkovHoldLost
  /-- TKOV_READY_CHANGE (R325): TKOV_IN recognises or loses the READY pattern. -/
  | tkovReadyChange (ready : Bool)
  /-- START_RULE_ACTIVE (R323): After its wait time without a HOLD or active twin, a module in INIT or SYNCING becomes ACTIVE. -/
  | startRuleActive
  /-- READY_REACHED (R330): A standby meeting all readiness conditions for 256 volleys becomes READY. -/
  | readyReached
  /-- READINESS_LOST (R330): A READY standby failing a condition or missing 3 SHADOW frames returns to SYNCING. -/
  | readinessLost
  /-- SHADOW_FRAME_RECEIVE (R330): A standby receives a SHADOW frame for use before its next compute window. -/
  | shadowFrameReceive (f : ShadowFrame)
  /-- STATUS_FRAME_RECEIVE (R328): A STATUS frame from the twin updates its state, epoch, digest, spoke locks and time offset. -/
  | statusFrameReceive (f : StatusFrame)
  /-- YIELD_FRAME_RECEIVE (R336): A YIELD frame from the twin arrives. -/
  | yieldFrameReceive (crcOk : Bool) (epoch : BitVec 16) (mask : BitVec 8)
  /-- TKOV_FAULT (R336): HOLD lost with the link up for 300 ns and no YIELD frame sets TKOV_FAULT. -/
  | tkovFault
  /-- TAKEOVER_TX_ENABLE (R337): At t_TX the new active module lowers TXDIS on every listening spoke and its protection path becomes active. -/
  | takeoverTxEnable
  /-- YIELD_CONDITION (R332): A yield condition is raised and reaches the tandem logic. -/
  | yieldCondition (cond : Fin 6) (found : Mismatch)
  /-- TANDEM_YIELD (R333): At the boundary after a yield condition or command, the module sends the yield ordered set, goes dark and enters YIELDED. -/
  | tandemYield
  /-- SWITCH (R335): A write of TND_CTL.SWITCH commands a yield when the twin is READY. -/
  | tndSwitch (u : Core)
  /-- REJOIN (R342): A write of TND_CTL.REJOIN moves a YIELDED module to SYNCING. -/
  | tndRejoin (u : Core)
  /-- PARTNER_RST (R346): A write of PARTNER_RST on the active module sends a RESET frame to the twin. -/
  | tndPartnerRst (u : Core)
  /-- TANDEM_PARTNER_RESET (R60): A RESET frame from the twin resets a non-active module with PARTNER_EN set. -/
  | tandemPartnerReset
  /-- TND_CNT_CLR (R346): TND_CTL.CNT_CLR clears the tandem counters. -/
  | tndCntClr (u : Core)
  /-- TND_LOCK (R346): Setting TND_CTL.LOCK locks the tandem RWL fields. -/
  | tndLock (u : Core)
  /-- TND_SYNC_WRITE (R331): A write of TND_SYNCn is checked against the SHADOW capacity and data-memory range. -/
  | tndSyncWrite (u : Core) (n : Fin 32) (base : BitVec 15) (len : BitVec 11)
  /-- TANDEM_LANE_LOST (R327): A tandem lane without heartbeat for 160 ticks is lost, and the link goes down with the last lane. -/
  | tandemLaneLost (lane : Fin 4)
  /-- TANDEM_LANE_REJOIN (R327): A lost tandem lane rejoins after 1 ms of valid heartbeats. -/
  | tandemLaneRejoin (lane : Fin 4)
  /-- DUAL_ACTIVE_DETECT (R341): An active module seeing HOLD or an active twin sets DUAL and yields when it must. -/
  | dualActiveDetect
  /-- EPOCH_HUNT (R340): After 16 volleys of foreign-epoch returns, a start-rule active module adds 16,384 to its epoch. -/
  | epochHunt
  -- Host rings
  /-- OPEN (R357): A write of HIF_FN_CTL.OPEN checks the ring registers and opens the function's rings. -/
  | hifOpen (fn : Fin 256)
  /-- CLOSE (R359): A write of HIF_FN_CTL.CLOSE stops fetching, completes accepted work, ends streams and sessions and clears OPEN. -/
  | hifClose (fn : Fin 256)
  /-- CLOSE_ABANDON (R359): Descriptors not complete 100 ms after CLOSE are abandoned without completion. -/
  | hifCloseAbandon (fn : Fin 256)
  /-- HIF_DB_CMD (R361): A command doorbell write sets the command tail in force. -/
  | hifDbCmd (fn : Fin 256) (value : Reg32)
  /-- HIF_DB_CPL (R361): A completion doorbell write sets the completion head in force. -/
  | hifDbCpl (fn : Fin 256) (value : Reg32)
  /-- HIF_DB_EVT (R361): An event doorbell write sets the event head in force. -/
  | hifDbEvt (fn : Fin 256) (value : Reg32)
  /-- HIF_DB_BLK (R361): A bulk doorbell write sets the bulk tail in force. -/
  | hifDbBlk (fn : Fin 256) (value : Reg32)
  /-- SHADOW_TAIL_POLL (R361): Every POLL_US at level 3 the module reads the shadow tail from host memory. -/
  | shadowTailPoll (fn : Fin 256) (tail : TailRead)
  /-- DESCRIPTOR_FETCH (R376): The fetch arbiter fetches up to 8 command slots of a function in its round-robin turn. -/
  | descriptorFetch (fn : Fin 256) (slots : List SlotFetch)
  /-- EVENT_RING_SPACE (R373): When event-ring space returns, queued event records and any EVT_LOST record are written. -/
  | eventRingSpace (fn : Fin 256)
  /-- MSIX_HOLD_EXPIRE (R375): HOLD_US after the first unsignalled record, an MSI-X message is sent subject to the cap. -/
  | msixHoldExpire (fn : Fin 256) (vector : Fin 4)
  /-- BULK_BUFFER_FILL (R374): A posted bulk buffer is filled for an open stream and written back. -/
  | bulkBufferFill (fn : Fin 256) (entry : List (BitVec 8))
  /-- HOST_READ_TIMEOUT (R376): A host memory read not answered within the completion timeout fails its descriptor. -/
  | hostReadTimeout (fn : Fin 256) (index : BitVec 16)
  /-- FUNCTION_LEVEL_RESET (R377): Initiate FLR resets one function, discarding its outstanding work and ending its sessions. -/
  | functionLevelReset (fn : Fin 256)
  /-- PORT_RESET (R378): PERST_N, hot reset or link-down acts as a function-level reset on every function of a port. -/
  | portReset (port : Fin 2)
  -- Descriptors
  /-- HOST_NOP (R366): The NOP descriptor completes OK. -/
  | hostNop (fn : Fin 256) (index : BitVec 16)
  /-- READ_POINTS (R367): Cell image values, or with FRESH a requested point, are written to DST. -/
  | readPoints (fn : Fin 256) (index : BitVec 16)
  /-- FRESH_READ_TIMEOUT (R367): A FRESH read without a value within WR_TMO completes with CELL_TIMEOUT. -/
  | freshReadTimeout (fn : Fin 256) (index : BitVec 16)
  /-- READ_REG (R367): Set-up register words are written to DST. -/
  | readReg (fn : Fin 256) (index : BitVec 16)
  /-- READ_LINK (R367): Link records are written to DST. -/
  | readLink (fn : Fin 256) (index : BitVec 16)
  /-- STREAM_OPEN (R374): A stream of recorder retrieval or the module log is opened on the bulk ring. -/
  | streamOpen (fn : Fin 256) (index : BitVec 16)
  /-- STREAM_CLOSE (R366): A stream of the function is ended. -/
  | streamClose (fn : Fin 256) (index : BitVec 16)
  /-- SESSION_CLOSE (R389): A session of the function is ended and its key destroyed. -/
  | sessionClose (fn : Fin 256) (index : BitVec 16)
  /-- SETPOINT (R251): A verified set-point is staged in all six arms of its converter. -/
  | setpoint (fn : Fin 256) (index : BitVec 16)
  /-- EMERGENCY_BLOCK (R281): A MAC-verified emergency block crosses into the C0 island and blocks the named converters. -/
  | emergencyBlock (fn : Fin 256) (index : BitVec 16)
  /-- POINT_WRITE (R138): A posted point write is queued toward the cell and completes OK. -/
  | pointWrite (fn : Fin 256) (index : BitVec 16)
  /-- CFG_WRITE (R367): Signed register writes are applied in order by MGC0 or MGC3 until one is refused. -/
  | cfgWrite (fn : Fin 256) (index : BitVec 16)
  /-- CFG_DMEM (R192): Signed engine data-memory words are written through the second port. -/
  | cfgDmem (fn : Fin 256) (index : BitVec 16)
  /-- CE_LOAD (R217): A program container is checked and loaded into a SPARE or LOADED engine. -/
  | ceLoad (fn : Fin 256) (index : BitVec 16)
  /-- CELL_CTL_RELEASE (R367): CELL_CTL with ACTION 0 releases one cell. -/
  | cellCtlRelease (fn : Fin 256) (index : BitVec 16)
  /-- CELL_CTL_RESUME (R367): CELL_CTL with ACTION 1 sends RESUME to one cell. -/
  | cellCtlResume (fn : Fin 256) (index : BitVec 16)
  /-- BLOCK_RELEASE (R288): A signed release request writes LPW_BLK_REL for the named converters. -/
  | blockRelease (fn : Fin 256) (index : BitVec 16)
  /-- RESET (R63): A signed reset descriptor resets, yields and resets, or is refused according to the module state. -/
  | resetCmd (fn : Fin 256) (index : BitVec 16)
  -- Firmware staging
  /-- FW_STAGE (R547): A piece of an image is written to staging and, when FINAL, the staged image is checked. -/
  | fwStage (fn : Fin 256) (index : BitVec 16)
  /-- STAGING_TIMEOUT (R547): 600 s between pieces ends a staging without STAGED. -/
  | stagingTimeout
  /-- RECOVERY_RESET (R548): 1 s after a recovery staging completes with STAGED in start-hold, the module takes a warm reset. -/
  | recoveryReset
  -- Sessions, policy and lifecycle
  /-- SESSION_OPEN (R387): A grant and host key are checked, a session key derived and a reply written. -/
  | sessionOpen (fn : Fin 256) (index : BitVec 16)
  /-- SESSION_EXPIRY (R389): A session ends when T_sec reaches NOT_AFTER. -/
  | sessionExpiry (handle : BitVec 16)
  /-- POLICY (R393): A custodian object in a POLICY descriptor is checked and applied. -/
  | secPolicy (fn : Fin 256) (index : BitVec 16) (verified : Bool)
  /-- PROVISION (R400): A provisioning object in BLANK burns custodian hashes and enters PROVISIONED. -/
  | secProvision (fn : Fin 256) (index : BitVec 16) (verified : Bool)
  /-- MOVE_0_POLICY_ONLY (R394): A bundle with MOVE 0 changes only the sections it carries. -/
  | move0PolicyOnly (fn : Fin 256) (index : BitVec 16)
  /-- MOVE_1 (R396): A bundle with MOVE 1 moves the module to COMMISSIONING. -/
  | move1 (fn : Fin 256) (index : BitVec 16)
  /-- MOVE_2 (R396): A bundle with MOVE 2 moves the module to FIELD and raises the roll-back count. -/
  | move2 (fn : Fin 256) (index : BitVec 16) (verified : Bool)
  /-- MOVE_3_REPROVISION (R396): A bundle with MOVE 3 re-provisions an OPENED module at the following warm reset. -/
  | move3Reprovision (fn : Fin 256) (index : BitVec 16) (verified : Bool)
  /-- MOVE_4_RETIRE (R396): A bundle with MOVE 4 retires the module at the following warm reset. -/
  | move4Retire (fn : Fin 256) (index : BitVec 16) (verified : Bool) (zeroised : Bool)
  /-- MOVE_5_CLEAR_TAMPER (R396): A bundle with MOVE 5 clears the tamper record. -/
  | move5ClearTamper (fn : Fin 256) (index : BitVec 16)
  /-- DEBUG_OPEN (R398): An open token zeroises secrets, burns LC_OPEN and resets into OPENED. -/
  | debugOpen (fn : Fin 256) (index : BitVec 16) (verified : Bool) (zeroised : Bool)
  /-- TEST_PERMIT (R402): A test permit is accepted and put in force. -/
  | testPermit (fn : Fin 256) (index : BitVec 16)
  /-- PERMIT_LAPSE (R402): A permit reaching NOT_AFTER lapses and every perturbation returns to its reset value. -/
  | permitLapse
  /-- FUSE_REREAD (R404): Every 10 minutes all fuse words are reread at three margins and disagreements recorded. -/
  | fuseReread (reads : List FuseRead)
  -- Memory and traffic
  /-- SRAM_UNCORRECTABLE (R413): An uncorrectable SRAM error poisons the granule, raises the yield condition and starts a bank swap. -/
  | sramUncorrectable (place : SramRow) (inTarget : Bool) (what : Poison)
  /-- TARGETED_ROW_REFRESH (R416): A row activated 4,096 times in one refresh interval has its neighbours refreshed. -/
  | targetedRowRefresh
  /-- SHED_WINDOW (R419): In each 1 us window C2 and C3 grants are limited and throttled as needed. -/
  | shedWindow (reqs : List Granule)
  /-- BANK_SWAP_START (R422): A write of MEM_SPARE_CTL.START, or a CORR limit, starts a spare bank swap. -/
  | bankSwapStart (u : Option Core) (bank : BitVec 6) (corrected : Nat)
  /-- BANK_SWAP_SWITCH (R422): When the bank copy ends the logical bank is switched to the spare and the source retired. -/
  | bankSwapSwitch (bank : Fin 60)
  /-- QOS_CNT_CLR (R424): QOS_CTL.CNT_CLR clears the QOS counters. -/
  | qosCntClr (u : Core)
  -- Station ports
  /-- STATION_FRAME_RECEIVE (R428): A station frame is received, checked and classified. -/
  | stationFrameReceive (port : Fin 4) (f : StationFrame) (wait : Option Nat)
  /-- GOOSE_TAL_EXPIRE (R437): No matching GOOSE frame within twice timeAllowedToLive sets the filter's TAL bit. -/
  | gooseTalExpire (filter : Fin 64)
  /-- STP_BRIDGE_ENABLE (R429): A write of STP_BRIDGE.EN forms or dissolves the ST0-ST1 bridge. -/
  | stpBridgeEnable (u : Core) (on : Bool)
  /-- STP_LOCK (R452): Setting STP_LOCK.LOCK locks the station RWL fields. -/
  | stpLock (u : Core)
  /-- STP_CNT_CLR (R452): STP_CTL.CNT_CLR clears every station counter. -/
  | stpCntClr (u : Core)
  -- Time bases
  /-- REFERENCE_FAIL (R441): The selected reference fails and the counter clock switches to the other or holds over. -/
  | referenceFail (ref : Fin 2)
  /-- REFERENCE_REVERT (R441): With REVERT, REFCLK_A good for 1 s is selected again. -/
  | referenceRevert
  /-- REFERENCE_RESELECT (R441): After both references failed, the first good for 10 ms is selected. -/
  | referenceReselect (ref : Fin 2)
  /-- TB0_INC_NS_WRITE (R444): A write of TB0 INC_NS commits the increment pair at the next tick. -/
  | tb0IncNsWrite (u : Core) (ns : BitVec 8)
  /-- TB0_ADJ (R445): A write of TBS_TB0_ADJ adds a signed offset to TB0 or is refused. -/
  | tb0Adj (u : Core) (adj : BitVec 32)
  /-- TB0_SET (R445): A write of TBS_TB0_SET_NS loads TB0 while unsynchronised. -/
  | tb0Set (u : Core) (ns : BitVec 32)
  /-- SYNC_DECL (R446): A write of SYNC_DECL sets or clears TB0 synchronisation. -/
  | syncDecl (u : Core) (on : Bool)
  /-- SYNC_HOLD_EXPIRE (R446): HOLD_MS without a SYNC_DECL write clears SYNC and sets SYNC_LOST. -/
  | syncHoldExpire
  /-- SERVO_STEP (R447): A TB1 or TB2 servo error beyond JUMP_MAX_NS steps the base, or is held while a spoke serves. -/
  | servoStep (base : Fin 2)
  /-- PPS_OUT (R450): At each whole second of the selected base TBS_PPS_OUT goes high for WIDTH_US. -/
  | ppsOut
  /-- PPS_IN_EDGE (R450): A rising TBS_PPS_IN edge captures TB0 and TB3, or is ignored when too soon. -/
  | ppsInEdge
  -- Safety island
  /-- SAFETY_CYCLE (R457): Every 250 us each safety channel evaluates its pairs, functions and outputs and exchanges images. -/
  | safetyCycle (samples : List (BitVec 16)) (rb : BitVec 8) (srstLow agree : Bool)
  /-- ISLAND_FAULT (R458): A lockstep, cross-channel, ECC, clock or VSAF fault makes every output static and locked out. -/
  | islandFault (cause : IslandCause)
  /-- ISLAND_RESTART (R458): 100 ms after an island fault, or 10 ms after VSAF recovers, the island restarts. -/
  | islandRestart
  /-- PARAM_MESSAGE (R461): A PARAM message on the parameter channel is checked and held as the pending set. -/
  | paramMessage (payload : List (BitVec 8))
  /-- PENDING_SET_DISCARD (R460): A pending set not adopted within 60 s is discarded. -/
  | pendingSetDiscard
  /-- DATA_MESSAGE (R476): A consumed safety DATA message is checked and feeds its virtual pair. -/
  | dataMessage (port : Fin 4) (src : BitVec 48) (payload : List (BitVec 8))
  /-- PRODUCED_MESSAGE_SEND (R474): A produced connection sends the island status at its period. -/
  | producedMessageSend (conn : Fin 8)
  /-- CONNECTION_TIMEOUT (R477): A consumed connection without an accepted message for WD_MS ceases to be alive. -/
  | connectionTimeout (conn : Fin 8)
  /-- DELIBERATE_RESET (R473): A falling SRST_IN edge after 200 ms high adopts a pending set or clears lock-outs and releases functions. -/
  | deliberateReset (highMs : Nat)
  /-- SRST_STUCK (R473): SRST_IN low for more than 5 s sets SRST_STUCK. -/
  | srstStuck
  /-- OFF_PULSE_TEST (R470): Every 250 ms an on output has one switch tested by an off pulse. -/
  | offPulseTest (out : Fin 4)
  /-- OFF_PULSE_SAMPLE (R470): At the end of an off pulse the read-back is sampled and a mismatch raises a test fault. -/
  | offPulseSample (out : Fin 4) (rba rbb : Bool)
  /-- READBACK_FAULT (R471): A read-back not matching its row within RB_MS or for 1 ms raises a read-back fault. -/
  | readbackFault (out : Fin 4)
  /-- GUARD_LOCK_RELEASE (R467): After T_MS with the guarded outputs read back off, LOCK_SO turns on. -/
  | guardLockRelease (fn : Fin 8)
  -- Scheduler
  /-- YIELD (R488): The current task goes to the tail of its list and the core selects again. -/
  | schYield (core : Fin 24) (task : BitVec 12) (list : Bool) (arg : BitVec 24) (high : BitVec 23)
  /-- DELAY (R488): The current task is delayed for ARG ticks and the core switches. -/
  | schDelay (core : Fin 24) (task : BitVec 12) (list : Bool) (arg : BitVec 24) (high : BitVec 23)
  /-- WAIT (R488): The current task takes a note or waits for a signal, with or without timeout. -/
  | schWait (core : Fin 24) (task : BitVec 12) (list : Bool) (arg : BitVec 24) (high : BitVec 23)
  /-- SIGNAL (R488): A task's note is incremented and a waiting task becomes READY. -/
  | schSignal (core : Fin 24) (task : BitVec 12) (list : Bool) (arg : BitVec 24) (high : BitVec 23)
  /-- EXIT (R488): The current task becomes DORMANT and the core switches. -/
  | schExit (core : Fin 24) (task : BitVec 12) (list : Bool) (arg : BitVec 24) (high : BitVec 23)
  /-- PRIO (R488): The current task's priority is changed at once. -/
  | schPrio (core : Fin 24) (task : BitVec 12) (list : Bool) (arg : BitVec 24) (high : BitVec 23)
  /-- PREEMPT (R490): The preemption interrupt is ended and the slot task runs in place of the current task. -/
  | schPreempt (core : Fin 24) (task : BitVec 12) (list : Bool) (arg : BitVec 24) (high : BitVec 23)
  /-- DELAY_WAKE (R489): A delayed or timed-out waiting task's wake tick comes and it becomes READY. -/
  | delayWake (volley : Bool)
  /-- TASK_START (R505): SCH_TASKt_CTL.START moves a DORMANT task to READY. -/
  | taskStart (u : Core) (task : Fin 4096)
  /-- TASK_STOP (R505): SCH_TASKt_CTL.STOP makes a non-running task DORMANT. -/
  | taskStop (u : Core) (task : Fin 4096)
  /-- TASK_CONFIGURE (R505): Writing CONFIGURED moves a task between FREE and DORMANT. -/
  | taskConfigure (u : Core) (task : Fin 4096) (pri : BitVec 5) (configured : Bool)
  /-- SCH_CNT_CLR (R504): SCH_CTL.CNT_CLR clears the scheduler counters. -/
  | schCntClr (u : Core)
  -- Interrupts and event queues
  /-- IRQ_SOURCE_PENDING (R492): An interrupt source input meets its sensing mode and becomes pending. -/
  | irqSourcePending (source : Fin 1024)
  /-- IRQ_CLAIM (R494): A read of IRQ_CLAIM claims the core's best candidate and pushes it onto its stack. -/
  | irqClaim (core : Fin 28)
  /-- IRQ_EOI (R495): A write of IRQ_EOI pops the matching top of the core's stack. -/
  | irqEoi (core : Fin 28) (source : BitVec 10)
  /-- IRQ_SWI (R492): A write of IRQ_SWI makes a software interrupt to a core pending. -/
  | irqSwi (core : Fin 28) (value : Reg32)
  /-- VECTORED_ENTRY (R496): At trap entry a VEC_EN candidate is claimed and the core starts at its vector. -/
  | vectoredEntry (core : Fin 28)
  /-- IRQ_STORM_MASK (R497): A stuck or over-rate source is auto-masked and the storm summary made pending. -/
  | irqStormMask (source : Fin 1024) (stuck : Bool)
  /-- EVQ_W (R498): A core writes one word to its own event queue. -/
  | evqW (u : Core) (word : Reg32)
  /-- IRQ_EQ_POP (R501): A read of IRQ_EQq_POP takes the oldest 32-byte word into HOLD. -/
  | irqEqPop (q : Fin 60)
  /-- FLUSH (R502): IRQ_EQq_CTL.FLUSH empties a queue at once. -/
  | eqFlush (u : Core) (q : Fin 60)
  /-- EQ_CNT_CLR (R508): IRQ_EQq_CTL.CNT_CLR clears the queue counters. -/
  | eqCntClr (u : Core) (q : Fin 60)
  -- Recorder
  /-- REC_ENABLE (R509): ENABLE = 1 on a capture definition is checked and the definition starts FILLING. -/
  | recEnable (u : Core) (d : Fin 16)
  /-- REC_DISABLE (R512): ENABLE = 0 ends the segment being filled and keeps finished segments. -/
  | recDisable (u : Core) (d : Fin 16)
  /-- REC_ARMED (R512): After PRE_V volleys recorded since arming, a definition becomes ARMED. -/
  | recArmed (d : Fin 16)
  /-- REC_TRIGGER (R513): A trigger source fires and an armed definition honours it, entering POST. -/
  | recTrigger (d : Fin 16)
  /-- REC_HOST_TRIG (R513): A write of REC_CTL.TRIG gives a host trigger to a definition. -/
  | recHostTrig (u : Core) (mask : BitVec 16)
  /-- REC_POST_END (R515): POST_V volleys after the trigger the capture is trimmed and its header written. -/
  | recPostEnd (d : Fin 16)
  /-- GAP_ENTRY_WRITE (R514): When the staging store has room again a gap entry for lost entries is written. -/
  | gapEntryWrite (d : Fin 16)
  /-- REC_CNT_CLR (R519): REC_CTL.CNT_CLR clears the recorder counters. -/
  | recCntClr (u : Core)
  -- Service and housekeeping
  /-- HKP_LIFT (R527): HKP_LIFT.GO lifts a module fence whose cause is gone, or sets LIFT_REFUSED. -/
  | hkpLift (u : Core) (kind : BitVec 2) (index : BitVec 7) (testPassed : Bool)
  /-- AUTO_MIGRATION (R528): An engine exceeding its error limits is migrated to a spare engine and fenced. -/
  | autoMigration (engine : Fin 32)
  /-- APC_FENCE (R529): An uncorrectable error in an APC's dirty line or task slot fences the core at once. -/
  | apcFence (core : Fin 24)
  /-- CADENCE_UPDATE (R532): Every 100 us MGC2 takes K from the sensors and applies the margin steps. -/
  | cadenceUpdate (readings : List (BitVec 10))
  /-- MARGIN_UNDO (R534): Every 10 ms with restored cadence a shedding level is removed or the rail lowered. -/
  | marginUndo
  /-- KMIN_CLR (R540): HKP_CAD_CTL.KMIN_CLR sets KMIN to K. -/
  | kminClr (u : Core)
  /-- FAN_TACH_EDGES (R535): Two tachometer edges move a starting fan to RUNNING. -/
  | fanTachEdges (fan : Fin 8) (periodUs : Nat)
  /-- FAN_START_TIMEOUT (R535): 3 s without tachometer edges while starting is a failed start. -/
  | fanStartTimeout (fan : Fin 8)
  /-- FAN_STALL (R535): 1 s without a tachometer edge while running is a failed start with STALL set. -/
  | fanStall (fan : Fin 8)
  /-- FAN_RETRY (R535): After 10 s in RETRY_WAIT the fan starts again. -/
  | fanRetry (fan : Fin 8)
  /-- FAN_RECOVERED (R535): 60 s in RUNNING returns RETRIES to 0. -/
  | fanRecovered (fan : Fin 8)
  /-- FAN_CLR (R535): HKP_FANf_CTL.CLR restarts a blocked or waiting fan. -/
  | fanClr (u : Core) (fan : Fin 8)
  /-- PERT_CTL_WRITE (R538): A write of HKP_PERT_CTL or a parameter register turns perturbations on or off when permitted. -/
  | pertCtlWrite (u : Core) (reg : Fin 8) (value : Reg32)
  -- Firmware trial and settings
  /-- CONFIRM (R550): A write of RST_FW_CTL.CONFIRM confirms the trial image. -/
  | fwConfirm (u : Core)
  /-- AUTO_CONFIRM (R550): A trial image confirms itself once its health conditions hold. -/
  | fwAutoConfirm
  /-- REJECT (R551): A write of RST_FW_CTL.REJECT fails the trial image and falls back. -/
  | fwReject (u : Core)
  /-- HEALTH_EXPIRE (R551): HEALTH_S without confirmation fails the image, marks it BAD and resets or defers. -/
  | healthExpire
  /-- DEFERRED_FALLBACK_RESET (R551): A deferred fall-back reset is taken at the first boundary with a READY twin or all converters blocked. -/
  | deferredFallbackReset
  /-- SAVE (R552): A write of RST_FW_CTL.SAVE writes the settings record. -/
  | fwSave (u : Core)
  /-- CLR_STAGE (R547): A write of RST_FW_CTL.CLR_STAGE ends staging and clears STAGED. -/
  | fwClrStage (u : Core)
  /-- MIRROR_COPY_DONE (R553): The mirror copy of a confirmed image to the other flash completes and is checked. -/
  | mirrorCopyDone (answered : Bool)
  /-- SEC_CNT_CLR (R406): SEC_CTL.CNT_CLR clears the security counters. -/
  | secCntClr (u : Core)
  -- Register writes and the remaining events
  /-- REGISTER_WRITE (R8): A write to a register without a row of its own is applied by access code, lock and range rules. -/
  | registerWrite (w : Writer) (addr : BitVec 40) (value : Reg32)
  /-- SIDEBAND_RESTORE (R282): Heartbeats from a transceiver die's sideband arrive again, so its fault taps reach the protection path once more and the REASON 0x06 source stops being live. -/
  | sidebandRestore (die : Fin 2)
  /-- LP_CMP_MATCH (R290): A pulse channel's counter reaches CMP and the channel turns off, which can start the interlock dead time and a KIND 3 trigger. -/
  | lpCmpMatch (channel : Fin 16)
  /-- STATION_LINK_CHANGE (R451): A station port's link comes up or goes down, which changes STP_STn_STAT.LINK_UP and the speed in force. -/
  | stationLinkChange (port : Fin 4) (up : Bool)
  /-- PCIE_LINK_UP (R380): An enabled host port finishes link training and HIF_PORTp_STAT.LINK_UP, SPEED and WIDTH take their values. -/
  | pcieLinkUp (port : Fin 2) (speed : BitVec 3) (width : BitVec 4)
  /-- FLR_COMPLETE (R377): A function-level reset finishes and FLR_BUSY clears, so the function accepts register and doorbell writes again. -/
  | flrComplete (fn : Fin 256)
  /-- MSIX_RATE_CAP_EXPIRE (R375): The minimum interval 1/cap after a vector's previous message passes, and a message held back by the cap is sent. -/
  | msixRateCapExpire (fn : Fin 256) (vector : Fin 4)
  /-- PRBS_LOCK (R116): The PRBS checker of a fenced spoke in a lane test locks to the pattern or loses it, which updates PRBS_LOCK. -/
  | prbsLock (spoke : Fin 128) (locked : Bool) (errors : Nat)
deriving DecidableEq, Repr

end Sys2Proof
end

