-- ==== Sys2Proof/Decode.lean ====
section
/-! DEFINITION. Words that spell commands. spec/opcode_table.json gives its rows no bits, so no word spells a command of the block
as a whole; the words of the engines' instruction memories (R202, R203) do spell the commands of the engines. -/

namespace Sys2Proof

/-- The command that a word spells by the table's bits: the table gives none. -/
def decodeTableWord (_nbits _w : Nat) : Option Instr := none

/-! ### Words of the instruction memory (R202) -/

/-- The formats of R202, from the major opcode down. -/
def wordR (op : BitVec 6) (rd rs1 rs2 : BitVec 4) (fn : BitVec 14) : BitVec 32 := op ++ rd ++ rs1 ++ rs2 ++ fn
def wordI (op : BitVec 6) (rd rs1 : BitVec 4) (imm : BitVec 18) : BitVec 32 := op ++ rd ++ rs1 ++ imm
def wordL (op : BitVec 6) (rd : BitVec 4) (imm : BitVec 22) : BitVec 32 := op ++ rd ++ imm
def wordB (op : BitVec 6) (rs1 rs2 : BitVec 4) (cond : BitVec 3) (off : BitVec 15) : BitVec 32 := op ++ rs1 ++ rs2 ++ cond ++ off
def wordA (op : BitVec 6) (rx rs1 rs2 : BitVec 4) (fn : BitVec 12) (acc : BitVec 2) : BitVec 32 := op ++ rx ++ rs1 ++ rs2 ++ fn ++ acc
def wordF (op : BitVec 6) (rd rs1 rs2 : BitVec 4) (rm : BitVec 3) (fn : BitVec 11) : BitVec 32 := op ++ rd ++ rs1 ++ rs2 ++ rm ++ fn
def wordV (op : BitVec 6) (rd rs1 rs2 kind rk rp : BitVec 4) (j : BitVec 2) : BitVec 32 :=
  op ++ rd ++ rs1 ++ rs2 ++ kind ++ rk ++ rp ++ j

/-- The word of an engine command (R203); every other command has none. When a DONE is counted and where a long instruction is
interrupted are no part of the word. -/
def ceWord : Instr → Option (BitVec 32)
  | .ceNop _ rd rs1 rs2 => some (wordR 0x00#6 rd rs1 rs2 0#14)
  | .ceDone _ rd rs1 rs2 _ => some (wordR 0x00#6 rd rs1 rs2 1#14)
  | .ceResume _ rd rs1 rs2 => some (wordR 0x00#6 rd rs1 rs2 2#14)
  | .ceAbandon _ rd rs1 rs2 => some (wordR 0x00#6 rd rs1 rs2 3#14)
  | .ceTrap _ rd rs1 rs2 => some (wordR 0x00#6 rd rs1 rs2 4#14)
  | .ceAdd _ rd rs1 rs2 => some (wordR 0x01#6 rd rs1 rs2 0#14)
  | .ceSub _ rd rs1 rs2 => some (wordR 0x01#6 rd rs1 rs2 1#14)
  | .ceAnd _ rd rs1 rs2 => some (wordR 0x01#6 rd rs1 rs2 2#14)
  | .ceOr _ rd rs1 rs2 => some (wordR 0x01#6 rd rs1 rs2 3#14)
  | .ceXor _ rd rs1 rs2 => some (wordR 0x01#6 rd rs1 rs2 4#14)
  | .ceShl _ rd rs1 rs2 => some (wordR 0x01#6 rd rs1 rs2 5#14)
  | .ceShr _ rd rs1 rs2 => some (wordR 0x01#6 rd rs1 rs2 6#14)
  | .ceSar _ rd rs1 rs2 => some (wordR 0x01#6 rd rs1 rs2 7#14)
  | .ceSlt _ rd rs1 rs2 => some (wordR 0x01#6 rd rs1 rs2 8#14)
  | .ceSltu _ rd rs1 rs2 => some (wordR 0x01#6 rd rs1 rs2 9#14)
  | .ceMin _ rd rs1 rs2 => some (wordR 0x01#6 rd rs1 rs2 10#14)
  | .ceMax _ rd rs1 rs2 => some (wordR 0x01#6 rd rs1 rs2 11#14)
  | .ceMinu _ rd rs1 rs2 => some (wordR 0x01#6 rd rs1 rs2 12#14)
  | .ceMaxu _ rd rs1 rs2 => some (wordR 0x01#6 rd rs1 rs2 13#14)
  | .ceMul _ rd rs1 rs2 => some (wordR 0x01#6 rd rs1 rs2 14#14)
  | .ceClz _ rd rs1 rs2 => some (wordR 0x01#6 rd rs1 rs2 15#14)
  | .ceAddi _ rd rs1 imm => some (wordI 0x02#6 rd rs1 imm)
  | .ceAndi _ rd rs1 imm => some (wordI 0x03#6 rd rs1 imm)
  | .ceOri _ rd rs1 imm => some (wordI 0x04#6 rd rs1 imm)
  | .ceXori _ rd rs1 imm => some (wordI 0x05#6 rd rs1 imm)
  | .ceShli _ rd rs1 imm => some (wordI 0x06#6 rd rs1 imm)
  | .ceShri _ rd rs1 imm => some (wordI 0x07#6 rd rs1 imm)
  | .ceSari _ rd rs1 imm => some (wordI 0x08#6 rd rs1 imm)
  | .ceLd _ rd rs1 imm => some (wordI 0x10#6 rd rs1 imm)
  | .ceSt _ rd rs1 imm => some (wordI 0x11#6 rd rs1 imm)
  | .ceLda _ rd rs1 imm => some (wordI 0x12#6 rd rs1 imm)
  | .ceSta _ rd rs1 imm => some (wordI 0x13#6 rd rs1 imm)
  | .ceJalr _ rd rs1 imm => some (wordI 0x22#6 rd rs1 imm)
  | .ceCsrr _ rd rs1 imm => some (wordI 0x28#6 rd rs1 imm)
  | .ceCsrw _ rd rs1 imm => some (wordI 0x29#6 rd rs1 imm)
  | .ceLil _ rd imm => some (wordL 0x09#6 rd imm)
  | .ceLih _ rd imm => some (wordL 0x0A#6 rd imm)
  | .ceJal _ rd imm => some (wordL 0x21#6 rd imm)
  | .ceMpy _ rx rs1 rs2 acc => some (wordA 0x18#6 rx rs1 rs2 0#12 acc)
  | .ceMac _ rx rs1 rs2 acc => some (wordA 0x18#6 rx rs1 rs2 1#12 acc)
  | .ceMsu _ rx rs1 rs2 acc => some (wordA 0x18#6 rx rs1 rs2 2#12 acc)
  | .ceAclr _ rx rs1 rs2 acc => some (wordA 0x18#6 rx rs1 rs2 3#12 acc)
  | .ceAmov _ rx rs1 rs2 acc => some (wordA 0x18#6 rx rs1 rs2 4#12 acc)
  | .ceArnd _ rx rs1 rs2 acc => some (wordA 0x18#6 rx rs1 rs2 5#12 acc)
  | .ceAext _ rx rs1 rs2 acc => some (wordA 0x18#6 rx rs1 rs2 6#12 acc)
  | .ceAadd _ rx rs1 rs2 acc => some (wordA 0x18#6 rx rs1 rs2 7#12 acc)
  | .ceFadd _ rd rs1 rs2 rm => some (wordF 0x1C#6 rd rs1 rs2 rm 0#11)
  | .ceFsub _ rd rs1 rs2 rm => some (wordF 0x1C#6 rd rs1 rs2 rm 1#11)
  | .ceFmul _ rd rs1 rs2 rm => some (wordF 0x1C#6 rd rs1 rs2 rm 2#11)
  | .ceFdiv _ rd rs1 rs2 rm => some (wordF 0x1C#6 rd rs1 rs2 rm 3#11)
  | .ceFsqrt _ rd rs1 rs2 rm => some (wordF 0x1C#6 rd rs1 rs2 rm 4#11)
  | .ceFma _ rd rs1 rs2 rm => some (wordF 0x1C#6 rd rs1 rs2 rm 5#11)
  | .ceFmin _ rd rs1 rs2 rm => some (wordF 0x1C#6 rd rs1 rs2 rm 6#11)
  | .ceFmax _ rd rs1 rs2 rm => some (wordF 0x1C#6 rd rs1 rs2 rm 7#11)
  | .ceFeq _ rd rs1 rs2 rm => some (wordF 0x1C#6 rd rs1 rs2 rm 8#11)
  | .ceFlt _ rd rs1 rs2 rm => some (wordF 0x1C#6 rd rs1 rs2 rm 9#11)
  | .ceFle _ rd rs1 rs2 rm => some (wordF 0x1C#6 rd rs1 rs2 rm 10#11)
  | .ceFcvtQf _ rd rs1 rs2 rm => some (wordF 0x1C#6 rd rs1 rs2 rm 11#11)
  | .ceFcvtFq _ rd rs1 rs2 rm => some (wordF 0x1C#6 rd rs1 rs2 rm 12#11)
  | .ceFcvtIf _ rd rs1 rs2 rm => some (wordF 0x1C#6 rd rs1 rs2 rm 13#11)
  | .ceFcvtFi _ rd rs1 rs2 rm => some (wordF 0x1C#6 rd rs1 rs2 rm 14#11)
  | .ceFclass _ rd rs1 rs2 rm => some (wordF 0x1C#6 rd rs1 rs2 rm 15#11)
  | .ceFneg _ rd rs1 rs2 rm => some (wordF 0x1C#6 rd rs1 rs2 rm 16#11)
  | .ceFabs _ rd rs1 rs2 rm => some (wordF 0x1C#6 rd rs1 rs2 rm 17#11)
  | .ceBr _ rs1 rs2 cond off => some (wordB 0x20#6 rs1 rs2 cond off)
  | .ceOrdstat _ rd rs1 rs2 rk rp j _ => some (wordV 0x30#6 rd rs1 rs2 0#4 rk rp j)
  | .ceOrdstatM _ rd rs1 rs2 rk rp j _ => some (wordV 0x30#6 rd rs1 rs2 1#4 rk rp j)
  | .ceOrdstatm _ rd rs1 rs2 rk rp j _ => some (wordV 0x30#6 rd rs1 rs2 2#4 rk rp j)
  | .ceOrdstatmM _ rd rs1 rs2 rk rp j _ => some (wordV 0x30#6 rd rs1 rs2 3#4 rk rp j)
  | .ceHist _ rd rs1 rs2 rk rp j _ => some (wordV 0x30#6 rd rs1 rs2 4#4 rk rp j)
  | .ceVdot _ rd rs1 rs2 rk rp j _ => some (wordV 0x30#6 rd rs1 rs2 5#4 rk rp j)
  | _ => none

/-- SYS, by fn (opcode 0x00). -/
def sysOfWord (e : Fin 32) (tick : BitVec 17) (rd rs1 rs2 : BitVec 4) (fn : Nat) : Option Instr :=
  match fn with
  | 0 => some (.ceNop e rd rs1 rs2)
  | 1 => some (.ceDone e rd rs1 rs2 tick)
  | 2 => some (.ceResume e rd rs1 rs2)
  | 3 => some (.ceAbandon e rd rs1 rs2)
  | 4 => some (.ceTrap e rd rs1 rs2)
  | _ => none

/-- ALU, by fn (opcode 0x01). -/
def aluOfWord (e : Fin 32) (rd rs1 rs2 : BitVec 4) (fn : Nat) : Option Instr :=
  match fn with
  | 0 => some (.ceAdd e rd rs1 rs2)
  | 1 => some (.ceSub e rd rs1 rs2)
  | 2 => some (.ceAnd e rd rs1 rs2)
  | 3 => some (.ceOr e rd rs1 rs2)
  | 4 => some (.ceXor e rd rs1 rs2)
  | 5 => some (.ceShl e rd rs1 rs2)
  | 6 => some (.ceShr e rd rs1 rs2)
  | 7 => some (.ceSar e rd rs1 rs2)
  | 8 => some (.ceSlt e rd rs1 rs2)
  | 9 => some (.ceSltu e rd rs1 rs2)
  | 10 => some (.ceMin e rd rs1 rs2)
  | 11 => some (.ceMax e rd rs1 rs2)
  | 12 => some (.ceMinu e rd rs1 rs2)
  | 13 => some (.ceMaxu e rd rs1 rs2)
  | 14 => some (.ceMul e rd rs1 rs2)
  | 15 => some (.ceClz e rd rs1 rs2)
  | _ => none

/-- MACQ, by fn (opcode 0x18). -/
def macOfWord (e : Fin 32) (rx rs1 rs2 : BitVec 4) (acc : BitVec 2) (fn : Nat) : Option Instr :=
  match fn with
  | 0 => some (.ceMpy e rx rs1 rs2 acc)
  | 1 => some (.ceMac e rx rs1 rs2 acc)
  | 2 => some (.ceMsu e rx rs1 rs2 acc)
  | 3 => some (.ceAclr e rx rs1 rs2 acc)
  | 4 => some (.ceAmov e rx rs1 rs2 acc)
  | 5 => some (.ceArnd e rx rs1 rs2 acc)
  | 6 => some (.ceAext e rx rs1 rs2 acc)
  | 7 => some (.ceAadd e rx rs1 rs2 acc)
  | _ => none

/-- F40, by fn[10:0] (opcode 0x1C). -/
def f40OfWord (e : Fin 32) (rd rs1 rs2 : BitVec 4) (rm : BitVec 3) (fn : Nat) : Option Instr :=
  match fn with
  | 0 => some (.ceFadd e rd rs1 rs2 rm)
  | 1 => some (.ceFsub e rd rs1 rs2 rm)
  | 2 => some (.ceFmul e rd rs1 rs2 rm)
  | 3 => some (.ceFdiv e rd rs1 rs2 rm)
  | 4 => some (.ceFsqrt e rd rs1 rs2 rm)
  | 5 => some (.ceFma e rd rs1 rs2 rm)
  | 6 => some (.ceFmin e rd rs1 rs2 rm)
  | 7 => some (.ceFmax e rd rs1 rs2 rm)
  | 8 => some (.ceFeq e rd rs1 rs2 rm)
  | 9 => some (.ceFlt e rd rs1 rs2 rm)
  | 10 => some (.ceFle e rd rs1 rs2 rm)
  | 11 => some (.ceFcvtQf e rd rs1 rs2 rm)
  | 12 => some (.ceFcvtFq e rd rs1 rs2 rm)
  | 13 => some (.ceFcvtIf e rd rs1 rs2 rm)
  | 14 => some (.ceFcvtFi e rd rs1 rs2 rm)
  | 15 => some (.ceFclass e rd rs1 rs2 rm)
  | 16 => some (.ceFneg e rd rs1 rs2 rm)
  | 17 => some (.ceFabs e rd rs1 rs2 rm)
  | _ => none

/-- VEC, by kind (opcode 0x30). -/
def vecOfWord (e : Fin 32) (stop : Option Nat) (rd rs1 rs2 rk rp : BitVec 4) (j : BitVec 2) (fn : Nat) : Option Instr :=
  match fn with
  | 0 => some (.ceOrdstat e rd rs1 rs2 rk rp j stop)
  | 1 => some (.ceOrdstatM e rd rs1 rs2 rk rp j stop)
  | 2 => some (.ceOrdstatm e rd rs1 rs2 rk rp j stop)
  | 3 => some (.ceOrdstatmM e rd rs1 rs2 rk rp j stop)
  | 4 => some (.ceHist e rd rs1 rs2 rk rp j stop)
  | 5 => some (.ceVdot e rd rs1 rs2 rk rp j stop)
  | _ => none

/-- The command that a word at the PC of engine `e` spells (R202, R203), with what the word does not say: the tick at which a DONE
is counted, and the unit at which a long instruction is interrupted. `none` for an unlisted opcode, fn or kind (R204). -/
def ceOfWord (e : Fin 32) (tick : BitVec 17) (stop : Option Nat) (w : BitVec 32) : Option Instr :=
  let rd := w.extractLsb' 22 4
  let rs1 := w.extractLsb' 18 4
  let rs2 := w.extractLsb' 14 4
  let imm := w.extractLsb' 0 18
  match (w.extractLsb' 26 6).toNat with
  | 0x00 => sysOfWord e tick rd rs1 rs2 (w.extractLsb' 0 14).toNat
  | 0x01 => aluOfWord e rd rs1 rs2 (w.extractLsb' 0 14).toNat
  | 0x02 => some (.ceAddi e rd rs1 imm)
  | 0x03 => some (.ceAndi e rd rs1 imm)
  | 0x04 => some (.ceOri e rd rs1 imm)
  | 0x05 => some (.ceXori e rd rs1 imm)
  | 0x06 => some (.ceShli e rd rs1 imm)
  | 0x07 => some (.ceShri e rd rs1 imm)
  | 0x08 => some (.ceSari e rd rs1 imm)
  | 0x09 => some (.ceLil e rd (w.extractLsb' 0 22))
  | 0x0A => some (.ceLih e rd (w.extractLsb' 0 22))
  | 0x10 => some (.ceLd e rd rs1 imm)
  | 0x11 => some (.ceSt e rd rs1 imm)
  | 0x12 => some (.ceLda e rd rs1 imm)
  | 0x13 => some (.ceSta e rd rs1 imm)
  | 0x18 => macOfWord e rd rs1 rs2 (w.extractLsb' 0 2) (w.extractLsb' 2 12).toNat
  | 0x1C => f40OfWord e rd rs1 rs2 (w.extractLsb' 11 3) (w.extractLsb' 0 11).toNat
  | 0x20 => some (.ceBr e rd rs1 (w.extractLsb' 15 3) (w.extractLsb' 0 15))
  | 0x21 => some (.ceJal e rd (w.extractLsb' 0 22))
  | 0x22 => some (.ceJalr e rd rs1 imm)
  | 0x28 => some (.ceCsrr e rd rs1 imm)
  | 0x29 => some (.ceCsrw e rd rs1 imm)
  | 0x30 => vecOfWord e stop rd rs1 rs2 (w.extractLsb' 6 4) (w.extractLsb' 2 4) (w.extractLsb' 0 2) (w.extractLsb' 10 4).toNat
  | _ => none

end Sys2Proof
end

