-- ==== Sys2Proof/Config.lean ====
section
/-! DEFINITION. What the manual leaves open: constants with no body, so that no proof can see their value
and a claim holds whatever they are. `freeBit`, `freeNat` and `freeW40` are applied to the state's counter of
free values, or to the operands they depend on. -/

namespace Sys2Proof.Config

/-- A free choice between two outcomes the manual allows (R61, and every other either/or it leaves open). -/
opaque freeBit : Nat → Bool

/-- A free natural number, for an open count or index. -/
opaque freeNat : Nat → Nat

/-- A free 40-bit word. -/
opaque freeW40 : Nat → BitVec 40

/-- The nominal default of a factory trim word (words 2 to 15 of R403), which the manual does not give. -/
opaque trimDefault : Nat → BitVec 32

/-- A slice's own correction of a raw code, from its offset and its gain in units of 1 / 32,768 (R304, R311). -/
opaque sliceCorrect : Int → Nat → Int → Int

/-- The configuration digest of R329 over the fields that shape the volley and the loaded containers; its canonical form
is open. -/
opaque configDigest : List (Nat × Nat) → List (Nat × Container) → BitVec 128

/-- The last bits of the cosine of an angle and of the angle of a vector (R258, R269), which the manual leaves open with the method, and
the angle of no direction, of an infinity or of a NaN. -/
opaque cosLast : BitVec 32 → Nat
opaque atan2Last : BitVec 40 → BitVec 40 → Nat
opaque atan2Open : BitVec 40 → BitVec 40 → BitVec 32

/-- The downstream scrambler and the running disparity of a spoke as a volley begins (R90): the manual gives them no start value, nor
how many idle blocks leave in a volley whose length is no multiple of a block. -/
opaque lineScrambler : Nat → Nat → BitVec 58
opaque lineDisparity : Nat → Nat → Bool

/-- The key exchange of a session (R388): X25519 of a private and a public key, HKDF-SHA-256 of salt, input and info, and HMAC-SHA-256 of
bytes under a key. The model leaves these functions uninterpreted. -/
opaque x25519 : BitVec 256 → BitVec 256 → BitVec 256
opaque hkdfSha256 : List (BitVec 8) → List (BitVec 8) → List (BitVec 8) → BitVec 256
opaque hmacSha256 : BitVec 256 → List (BitVec 8) → BitVec 256

/-- The words of the boot ROM, and of the security die's window at each read (R20): the manual gives neither. -/
opaque bootRom : Nat → BitVec 32
opaque secWindow : Nat → Nat → BitVec 32

/-- The draw of the bank permutation of an SRAM row under the bank hash key (R412), as a number whose digits pick the banks. -/
opaque bankDraw : BitVec 40 → Nat → Nat

/-- Channel and bank of a DRAM granule under the interleave key (R414). -/
opaque dramBank : BitVec 40 → Nat → Nat

end Sys2Proof.Config
end

