-- ==== Sys2Proof/Machine/FMap.lean ====
section
/-! DEFINITION. Sparse maps as plain data: a list of (key, value) pairs in one canonical form, keys
strictly rising and no entry equal to what an unlisted key reads as. Every memory, register file and
per-index record of the block is held in this one form, so equal contents are equal data. -/

namespace Sys2Proof.Machine

/-- A sparse map from keys to values; the default of an unlisted key is an argument of each operation. -/
abbrev FMap (α : Type) := List (Nat × α)

/-- The value at key `k`: the first entry for `k`, else the default `d`. -/
def FMap.get {α : Type} (d : α) : FMap α → Nat → α
  | [], _ => d
  | p :: t, k => if p.1 = k then p.2 else FMap.get d t k

/-- Remove every entry for `k`. -/
def FMap.erase {α : Type} : FMap α → Nat → FMap α
  | [], _ => []
  | p :: t, k => if p.1 = k then FMap.erase t k else p :: FMap.erase t k

/-- Put `(k, v)` before the first entry with a greater key. -/
def FMap.insert {α : Type} (k : Nat) (v : α) : FMap α → FMap α
  | [] => [(k, v)]
  | p :: t => if k < p.1 then (k, v) :: p :: t else p :: FMap.insert k v t

/-- Write `v` at `k`, keeping the canonical form: writing the default removes the entry. -/
def FMap.set {α : Type} [DecidableEq α] (d : α) (m : FMap α) (k : Nat) (v : α) : FMap α :=
  if v = d then FMap.erase m k else FMap.insert k v (FMap.erase m k)

/-- Change the value at `k` by `f`. -/
def FMap.modify {α : Type} [DecidableEq α] (d : α) (m : FMap α) (k : Nat) (f : α → α) : FMap α :=
  FMap.set d m k (f (FMap.get d m k))

/-- The canonical form: keys strictly rising, no entry equal to the default. -/
def FMap.wf {α : Type} [DecidableEq α] (d : α) : FMap α → Bool
  | [] => true
  | [p] => decide (p.2 ≠ d)
  | p :: q :: t => decide (p.2 ≠ d) && decide (p.1 < q.1) && FMap.wf d (q :: t)

/-- Change every listed value, dropping what becomes the default. -/
def FMap.mapVals {α : Type} [DecidableEq α] (d : α) (f : Nat → α → α) : FMap α → FMap α
  | [] => []
  | p :: t => if f p.1 p.2 = d then FMap.mapVals d f t else (p.1, f p.1 p.2) :: FMap.mapVals d f t

/-- Write `vs` at `k`, `k + 1`, … -/
def FMap.setRange {α : Type} [DecidableEq α] (d : α) (m : FMap α) (k : Nat) : List α → FMap α
  | [] => m
  | v :: vs => FMap.setRange d (FMap.set d m k v) (k + 1) vs

/-- The `n` values from `k` on. -/
def FMap.getRange {α : Type} (d : α) (m : FMap α) (k : Nat) : Nat → List α
  | 0 => []
  | n + 1 => FMap.get d m k :: FMap.getRange d m (k + 1) n

/-- Drop every entry whose key lies in `[lo, hi)`: those keys read the default again. -/
def FMap.clearRange {α : Type} (m : FMap α) (lo hi : Nat) : FMap α :=
  m.filter (fun p => decide (p.1 < lo ∨ hi ≤ p.1))

end Sys2Proof.Machine
end

