-- ==== Sys2Proof/Machine/RegFile.lean ====
section
/-! DEFINITION. The set-up register file (R5 to R10, R22): every field of every set-up register has one
home here, under its own bit position. A field is read and written through `RegFile.get` and
`RegFile.set`, which mask to its width and keep the file canonical. -/

namespace Sys2Proof.Machine

/-- A register field: the physical address of its register (R20, R22), its lowest bit, its width and its
value at reset. -/
structure Field where
  addr  : Nat
  lsb   : Nat
  width : Nat
  reset : Nat
deriving DecidableEq, Repr

/-- The key of a field: registers are 4 bytes apart, so address and lowest bit name one field. -/
def Field.key (f : Field) : Nat := f.addr * 32 + f.lsb

/-- The register file: fields at their reset value are not listed. -/
abbrev RegFile := FMap Nat

/-- The value of a field. -/
def RegFile.get (r : RegFile) (f : Field) : Nat := FMap.get f.reset r f.key

/-- Write a field; the value is cut to the field's width. -/
def RegFile.set (r : RegFile) (f : Field) (v : Nat) : RegFile :=
  FMap.set f.reset r f.key (v % 2 ^ f.width)

/-- Access codes of R8. -/
inductive Access where
  | ro | rw | w1c | w1s | wo | rwl | rws
deriving DecidableEq, Repr

/-- One field in the register table: its access code, the values the manual defines for it (`lo` to
`hi`; others are refused, R9), and the field for the register's indices. -/
structure FieldDef where
  acc : Access
  lo  : Nat
  hi  : Nat
  fld : Nat → Nat → Field

/-- One row of the register table: first address, the strides of its indices (count, step), fields. -/
structure RegDef where
  base    : Nat
  strides : List (Nat × Nat)
  fields  : List FieldDef

/-- The indices at which a register of this definition lies at `addr`, if any. -/
def RegDef.indices (d : RegDef) (addr : Nat) : Option (Nat × Nat) :=
  if addr < d.base then none else
  match d.strides with
  | [] => if addr = d.base then some (0, 0) else none
  | [(c, st)] =>
    let o := addr - d.base
    if o % st = 0 ∧ o / st < c then some (o / st, 0) else none
  | (c, st) :: (c', st') :: _ =>
    let o := addr - d.base
    let p := o % st
    if o / st < c ∧ p % st' = 0 ∧ p / st' < c' then some (o / st, p / st') else none

/-- The first definition of the table that covers `addr`, with its indices. -/
def findReg : List RegDef → Nat → Option (RegDef × Nat × Nat)
  | [], _ => none
  | d :: t, a =>
    match d.indices a with
    | some (i, j) => some (d, i, j)
    | none => findReg t a

end Sys2Proof.Machine
end

