-- ==== Sys2Proof/Machine/Fields.lean ====
section
/-! DEFINITION. Every field of every set-up register of the manual, under the manual's own name
(BLOCK_REGISTER_FIELD, R7): its address from R22 and its chapter's register table, its bits, its width and
its reset value. Index arguments are the register's own (spoke, engine, channel, ...). A reset value the
manual gives in words (live, per cause, per fuses, store) is the value named in notes/assumptions/6.md.
HIF function registers (R24, R355) lie in each function's own 64 KiB BAR, held here at a base above the
40-bit address space: 0x100_0000_0000 + 0x1_0000 per function. -/

namespace Sys2Proof.Machine.Fld

/-! HKP_MODULE_ID (R3) -/
def HKP_MODULE_ID_PART : Field := ⟨0x8d00000, 16, 16, 37398⟩
def HKP_MODULE_ID_STEP_MAJOR : Field := ⟨0x8d00000, 12, 4, 2⟩
def HKP_MODULE_ID_STEP_MINOR : Field := ⟨0x8d00000, 8, 4, 1⟩
def HKP_MODULE_ID_XCVR_REV : Field := ⟨0x8d00000, 4, 4, 2⟩
def HKP_MODULE_ID_SEC_REV : Field := ⟨0x8d00000, 0, 4, 1⟩
/-! HKP_FEED_STAT (R54) -/
def HKP_FEED_STAT_A_OK : Field := ⟨0x8d00100, 0, 1, 1⟩
def HKP_FEED_STAT_B_OK : Field := ⟨0x8d00100, 1, 1, 1⟩
def HKP_FEED_STAT_A_CARRY : Field := ⟨0x8d00100, 2, 1, 1⟩
def HKP_FEED_STAT_B_CARRY : Field := ⟨0x8d00100, 3, 1, 1⟩
def HKP_FEED_STAT_A_LOW : Field := ⟨0x8d00100, 8, 1, 0⟩
def HKP_FEED_STAT_B_LOW : Field := ⟨0x8d00100, 9, 1, 0⟩
def HKP_FEED_STAT_A_OV : Field := ⟨0x8d00100, 10, 1, 0⟩
def HKP_FEED_STAT_B_OV : Field := ⟨0x8d00100, 11, 1, 0⟩
def HKP_FEED_STAT_A_REV : Field := ⟨0x8d00100, 12, 1, 0⟩
def HKP_FEED_STAT_B_REV : Field := ⟨0x8d00100, 13, 1, 0⟩
def HKP_FEED_STAT_VBAT_LOW : Field := ⟨0x8d00100, 14, 1, 0⟩
def HKP_FEED_STAT_SINGLE : Field := ⟨0x8d00100, 16, 1, 0⟩
/-! HKP_FEED_MEAS (R55) -/
def HKP_FEED_MEAS_MV (i : Nat) : Field := ⟨0x8d00104 + 0x4 * i, 0, 16, 0⟩
def HKP_FEED_MEAS_CURR (i : Nat) : Field := ⟨0x8d00104 + 0x4 * i, 16, 16, 0⟩
/-! HKP_FEED_CFG (R56) -/
def HKP_FEED_CFG_WARN_MV : Field := ⟨0x8d0010c, 0, 16, 2700⟩
def HKP_FEED_CFG_EVT_SINGLE : Field := ⟨0x8d0010c, 16, 1, 1⟩
/-! HKP_RAIL_STAT (R57) -/
def HKP_RAIL_STAT_CORE_SET_MV : Field := ⟨0x8d00110, 0, 10, 800⟩
def HKP_RAIL_STAT_CORE_MEAS_MV : Field := ⟨0x8d00110, 10, 10, 0⟩
def HKP_RAIL_STAT_CORE_OOR : Field := ⟨0x8d00110, 20, 1, 0⟩
def HKP_RAIL_STAT_AUX_OOR : Field := ⟨0x8d00110, 21, 1, 0⟩
def HKP_RAIL_STAT_AUX_ID : Field := ⟨0x8d00110, 22, 3, 0⟩
/-! HKP_RAIL_CFG (R58) -/
def HKP_RAIL_CFG_CORE_FLOOR_MV : Field := ⟨0x8d00114, 0, 10, 650⟩
def HKP_RAIL_CFG_CORE_CEIL_MV : Field := ⟨0x8d00114, 10, 10, 900⟩
/-! HKP_THERM (R59) -/
def HKP_THERM_TJ : Field := ⟨0x8d00118, 0, 8, 0⟩
def HKP_THERM_TDRAM : Field := ⟨0x8d00118, 8, 8, 0⟩
def HKP_THERM_TJ_HOT : Field := ⟨0x8d00118, 16, 1, 0⟩
def HKP_THERM_TJ_CRIT : Field := ⟨0x8d00118, 17, 1, 0⟩
def HKP_THERM_DRAM_HOT : Field := ⟨0x8d00118, 18, 1, 0⟩
/-! RST_CAUSE (R77) -/
def RST_CAUSE_POR : Field := ⟨0x8c00000, 0, 1, 1⟩
def RST_CAUSE_PORST : Field := ⟨0x8c00000, 1, 1, 0⟩
def RST_CAUSE_UV : Field := ⟨0x8c00000, 2, 1, 0⟩
def RST_CAUSE_RESETN : Field := ⟨0x8c00000, 3, 1, 0⟩
def RST_CAUSE_WDT_RUN : Field := ⟨0x8c00000, 4, 1, 0⟩
def RST_CAUSE_WDT_START : Field := ⟨0x8c00000, 5, 1, 0⟩
def RST_CAUSE_CMD_HOST : Field := ⟨0x8c00000, 6, 1, 0⟩
def RST_CAUSE_CMD_STN : Field := ⟨0x8c00000, 7, 1, 0⟩
def RST_CAUSE_PARTNER : Field := ⟨0x8c00000, 8, 1, 0⟩
def RST_CAUSE_STRAP_FAULT : Field := ⟨0x8c00000, 9, 1, 0⟩
def RST_CAUSE_STORM : Field := ⟨0x8c00000, 10, 1, 0⟩
def RST_CAUSE_RESTART : Field := ⟨0x8c00000, 11, 1, 0⟩
def RST_CAUSE_SELF : Field := ⟨0x8c00000, 12, 1, 0⟩
def RST_CAUSE_COLD : Field := ⟨0x8c00000, 16, 1, 1⟩
def RST_CAUSE_CMD_SRC : Field := ⟨0x8c00000, 20, 8, 0⟩
def RST_CAUSE_SELF_WHY : Field := ⟨0x8c00000, 28, 3, 0⟩
/-! RST_CFG (R78) -/
def RST_CFG_PARTNER_EN : Field := ⟨0x8c00004, 0, 1, 0⟩
def RST_CFG_STORM_EN : Field := ⟨0x8c00004, 1, 1, 1⟩
def RST_CFG_WDT_RUN_MS : Field := ⟨0x8c00004, 8, 8, 100⟩
def RST_CFG_WDT_START_S : Field := ⟨0x8c00004, 16, 8, 120⟩
def RST_CFG_LOCK : Field := ⟨0x8c00004, 31, 1, 0⟩
/-! RST_WDT_KICK (R79) -/
def RST_WDT_KICK_KICK : Field := ⟨0x8c00008, 0, 1, 0⟩
def RST_WDT_KICK_START_DONE : Field := ⟨0x8c00008, 1, 1, 0⟩
def RST_WDT_KICK_KEY : Field := ⟨0x8c00008, 16, 16, 0⟩
/-! RST_STRAP (R80) -/
def RST_STRAP_RAW : Field := ⟨0x8c0000c, 0, 12, 0⟩
def RST_STRAP_CODE : Field := ⟨0x8c0000c, 12, 4, 0⟩
def RST_STRAP_FAULT : Field := ⟨0x8c0000c, 16, 1, 0⟩
/-! RST_STAT (R81) -/
def RST_STAT_LOCK_VIOL : Field := ⟨0x8c00010, 0, 1, 0⟩
def RST_STAT_INVALID_WR : Field := ⟨0x8c00010, 1, 1, 0⟩
/-! RST_BACKUP_CNT (R82) -/
def RST_BACKUP_CNT_STARTS : Field := ⟨0x8c00014, 0, 32, 0⟩
/-! RST_BACKUP_STAT (R82) -/
def RST_BACKUP_STAT_LOST : Field := ⟨0x8c00018, 0, 1, 0⟩
def RST_BACKUP_STAT_TAMP_NEXT : Field := ⟨0x8c00018, 1, 3, 0⟩
def RST_BACKUP_STAT_HELD_STRAP : Field := ⟨0x8c00018, 4, 1, 0⟩
def RST_BACKUP_STAT_HELD_STORM : Field := ⟨0x8c00018, 5, 1, 0⟩
def RST_BACKUP_STAT_TAMP_TOTAL : Field := ⟨0x8c00018, 8, 8, 0⟩
def RST_BACKUP_STAT_TAMP0_NOW : Field := ⟨0x8c00018, 16, 1, 0⟩
def RST_BACKUP_STAT_TAMP1_NOW : Field := ⟨0x8c00018, 17, 1, 0⟩
def RST_BACKUP_STAT_STORM_CNT : Field := ⟨0x8c00018, 18, 4, 0⟩
/-! RST_BACKUP_SEC (R82) -/
def RST_BACKUP_SEC_SECONDS : Field := ⟨0x8c0001c, 0, 32, 0⟩
/-! RST_TAMPER (R82) -/
def RST_TAMPER_SEC (i : Nat) : Field := ⟨0x8c00020 + 0x4 * i, 0, 31, 0⟩
def RST_TAMPER_INPUT (i : Nat) : Field := ⟨0x8c00020 + 0x4 * i, 31, 1, 0⟩
/-! RST_BACKUP_WIN (R82) -/
def RST_BACKUP_WIN_WIN_START : Field := ⟨0x8c00060, 0, 32, 0⟩
/-! SPK_CFG (R110) -/
def SPK_CFG_ENABLE (i : Nat) : Field := ⟨0x8000000 + 0x100 * i, 0, 1, 0⟩
def SPK_CFG_GEAR_MAX (i : Nat) : Field := ⟨0x8000000 + 0x100 * i, 1, 3, 4⟩
def SPK_CFG_CTLE_AUTO (i : Nat) : Field := ⟨0x8000000 + 0x100 * i, 4, 1, 1⟩
def SPK_CFG_CTLE_STEP (i : Nat) : Field := ⟨0x8000000 + 0x100 * i, 5, 4, 0⟩
def SPK_CFG_EXPECT (i : Nat) : Field := ⟨0x8000000 + 0x100 * i, 9, 7, 0⟩
def SPK_CFG_PROBE_S (i : Nat) : Field := ⟨0x8000000 + 0x100 * i, 16, 8, 10⟩
def SPK_CFG_AUTO_UP (i : Nat) : Field := ⟨0x8000000 + 0x100 * i, 24, 1, 1⟩
/-! SPK_CTL (R111) -/
def SPK_CTL_FENCE (i : Nat) : Field := ⟨0x8000004 + 0x100 * i, 0, 1, 0⟩
def SPK_CTL_RESTEP (i : Nat) : Field := ⟨0x8000004 + 0x100 * i, 1, 1, 0⟩
def SPK_CTL_CLR_CAP (i : Nat) : Field := ⟨0x8000004 + 0x100 * i, 2, 1, 0⟩
def SPK_CTL_CNT_CLR (i : Nat) : Field := ⟨0x8000004 + 0x100 * i, 3, 1, 0⟩
/-! SPK_STAT (R112) -/
def SPK_STAT_GEAR (i : Nat) : Field := ⟨0x8000008 + 0x100 * i, 0, 3, 0⟩
def SPK_STAT_GEAR_CAP (i : Nat) : Field := ⟨0x8000008 + 0x100 * i, 3, 3, 4⟩
def SPK_STAT_TX_AWAKE (i : Nat) : Field := ⟨0x8000008 + 0x100 * i, 6, 1, 0⟩
def SPK_STAT_RX_AWAKE (i : Nat) : Field := ⟨0x8000008 + 0x100 * i, 7, 1, 0⟩
def SPK_STAT_FENCED (i : Nat) : Field := ⟨0x8000008 + 0x100 * i, 8, 1, 0⟩
def SPK_STAT_FENCE_MOD (i : Nat) : Field := ⟨0x8000008 + 0x100 * i, 9, 1, 0⟩
def SPK_STAT_TRIAL (i : Nat) : Field := ⟨0x8000008 + 0x100 * i, 10, 1, 0⟩
def SPK_STAT_SWEEP (i : Nat) : Field := ⟨0x8000008 + 0x100 * i, 11, 1, 0⟩
def SPK_STAT_CTLE_USED (i : Nat) : Field := ⟨0x8000008 + 0x100 * i, 12, 4, 0⟩
def SPK_STAT_ADMITTED (i : Nat) : Field := ⟨0x8000008 + 0x100 * i, 16, 7, 0⟩
def SPK_STAT_RIDER_GEAR (i : Nat) : Field := ⟨0x8000008 + 0x100 * i, 23, 3, 7⟩
/-! SPK_EVT (R113) -/
def SPK_EVT_LOS (i : Nat) : Field := ⟨0x800000c + 0x100 * i, 0, 1, 0⟩
def SPK_EVT_EXCESS (i : Nat) : Field := ⟨0x800000c + 0x100 * i, 1, 1, 0⟩
def SPK_EVT_SHORT (i : Nat) : Field := ⟨0x800000c + 0x100 * i, 2, 1, 0⟩
def SPK_EVT_TRIAL_FAIL (i : Nat) : Field := ⟨0x800000c + 0x100 * i, 3, 1, 0⟩
def SPK_EVT_GEAR_UP (i : Nat) : Field := ⟨0x800000c + 0x100 * i, 4, 1, 0⟩
def SPK_EVT_GEAR_DOWN (i : Nat) : Field := ⟨0x800000c + 0x100 * i, 5, 1, 0⟩
def SPK_EVT_REFUSED (i : Nat) : Field := ⟨0x800000c + 0x100 * i, 6, 1, 0⟩
def SPK_EVT_XCVR_FAULT (i : Nat) : Field := ⟨0x800000c + 0x100 * i, 7, 1, 0⟩
def SPK_EVT_MS_FAIL (i : Nat) : Field := ⟨0x800000c + 0x100 * i, 8, 1, 0⟩
def SPK_EVT_CTLE_EDGE (i : Nat) : Field := ⟨0x800000c + 0x100 * i, 9, 1, 0⟩
/-! SPK_EYE (R115) -/
def SPK_EYE_EYE_H (i : Nat) : Field := ⟨0x8000020 + 0x100 * i, 0, 8, 0⟩
def SPK_EYE_EYE_V (i : Nat) : Field := ⟨0x8000020 + 0x100 * i, 8, 8, 0⟩
def SPK_EYE_BEST (i : Nat) : Field := ⟨0x8000020 + 0x100 * i, 16, 4, 0⟩
/-! SPK_TEST (R116) -/
def SPK_TEST_MODE (i : Nat) : Field := ⟨0x8000024 + 0x100 * i, 0, 3, 0⟩
def SPK_TEST_LIGHT (i : Nat) : Field := ⟨0x8000024 + 0x100 * i, 3, 1, 0⟩
/-! SPK_PRBS_ERR (R116) -/
def SPK_PRBS_ERR_ERR (i : Nat) : Field := ⟨0x8000028 + 0x100 * i, 0, 31, 0⟩
def SPK_PRBS_ERR_PRBS_LOCK (i : Nat) : Field := ⟨0x8000028 + 0x100 * i, 31, 1, 0⟩
/-! SPK_XCVR_A (R117) -/
def SPK_XCVR_A_RX_PWR (i : Nat) : Field := ⟨0x8000030 + 0x100 * i, 0, 16, 0⟩
def SPK_XCVR_A_TX_PWR (i : Nat) : Field := ⟨0x8000030 + 0x100 * i, 16, 16, 0⟩
/-! SPK_XCVR_B (R117) -/
def SPK_XCVR_B_TEMP (i : Nat) : Field := ⟨0x8000034 + 0x100 * i, 0, 16, 0⟩
def SPK_XCVR_B_TX_FAULT (i : Nat) : Field := ⟨0x8000034 + 0x100 * i, 16, 1, 0⟩
def SPK_XCVR_B_RX_LOS (i : Nat) : Field := ⟨0x8000034 + 0x100 * i, 17, 1, 0⟩
def SPK_XCVR_B_VALID (i : Nat) : Field := ⟨0x8000034 + 0x100 * i, 18, 1, 0⟩
/-! SPK_GCFG (R118) -/
def SPK_GCFG_MS_EN : Field := ⟨0x8080000, 0, 1, 1⟩
def SPK_GCFG_MS_FAST : Field := ⟨0x8080000, 1, 1, 0⟩
def SPK_GCFG_MS_PERIOD_S : Field := ⟨0x8080000, 8, 8, 1⟩
/-! SPK_GSTAT (R118) -/
def SPK_GSTAT_INVALID_WR : Field := ⟨0x8080004, 0, 1, 0⟩
/-! VLY_PERIOD (R152) -/
def VLY_PERIOD_P_10NS : Field := ⟨0x8100000, 0, 14, 1000⟩
/-! VLY_STROBE (R152) -/
def VLY_STROBE_S : Field := ⟨0x8100004, 0, 17, 480⟩
/-! VLY_RWIN (R152) -/
def VLY_RWIN_W : Field := ⟨0x8100008, 0, 17, 960⟩
/-! VLY_CWIN (R152) -/
def VLY_CWIN_C : Field := ⟨0x810000c, 0, 17, 5920⟩
/-! VLY_ASM (R152) -/
def VLY_ASM_A : Field := ⟨0x8100010, 0, 17, 7680⟩
/-! VLY_CFG (R153) -/
def VLY_CFG_FW : Field := ⟨0x8100014, 0, 3, 2⟩
def VLY_CFG_AUTO_RESUME : Field := ⟨0x8100014, 3, 1, 1⟩
def VLY_CFG_TAIL_MAX : Field := ⟨0x8100014, 4, 4, 1⟩
def VLY_CFG_MISS_LIMIT : Field := ⟨0x8100014, 8, 8, 16⟩
def VLY_CFG_WR_TMO : Field := ⟨0x8100014, 16, 8, 64⟩
def VLY_CFG_VER_ALLOW : Field := ⟨0x8100014, 24, 3, 7⟩
/-! VLY_LOL (R154) -/
def VLY_LOL_LOL : Field := ⟨0x8100018, 0, 8, 255⟩
/-! VLY_DLIM (R154) -/
def VLY_DLIM_DLIM_10NS : Field := ⟨0x810001c, 0, 12, 500⟩
/-! VLY_DISC (R154) -/
def VLY_DISC_R : Field := ⟨0x8100020, 0, 11, 16⟩
def VLY_DISC_EVERY : Field := ⟨0x8100020, 16, 12, 64⟩
def VLY_DISC_EN : Field := ⟨0x8100020, 31, 1, 0⟩
/-! VLY_NOW (R155) -/
def VLY_NOW_VOLLEY : Field := ⟨0x8100024, 0, 32, 0⟩
/-! VLY_NOW2 (R155) -/
def VLY_NOW2_SID_NOW : Field := ⟨0x8100028, 0, 8, 0⟩
def VLY_NOW2_EPOCH : Field := ⟨0x8100028, 16, 16, 0⟩
/-! VLY_STAT (R155) -/
def VLY_STAT_NOFIT : Field := ⟨0x810002c, 0, 1, 0⟩
def VLY_STAT_INVALID_WR : Field := ⟨0x810002c, 1, 1, 0⟩
def VLY_STAT_SLACK : Field := ⟨0x810002c, 4, 17, 0⟩
/-! VLY_DMAX (R155) -/
def VLY_DMAX_DMAX : Field := ⟨0x8100030, 0, 16, 0⟩
def VLY_DMAX_CELLS : Field := ⟨0x8100030, 16, 14, 0⟩
/-! VLY_EVT (R156) -/
def VLY_EVT_DISC_COLL : Field := ⟨0x8100034, 0, 1, 0⟩
def VLY_EVT_REFUSE_SENT : Field := ⟨0x8100034, 1, 1, 0⟩
def VLY_EVT_DROP_EXC : Field := ⟨0x8100034, 2, 1, 0⟩
def VLY_EVT_TAIL : Field := ⟨0x8100034, 3, 1, 0⟩
def VLY_EVT_LOST : Field := ⟨0x8100034, 4, 1, 0⟩
def VLY_EVT_WR_FAIL : Field := ⟨0x8100034, 5, 1, 0⟩
def VLY_EVT_SILENCED : Field := ⟨0x8100034, 6, 1, 0⟩
def VLY_EVT_EPOCH_MISMATCH : Field := ⟨0x8100034, 7, 1, 0⟩
/-! VLY_BIND_LO (R158) -/
def VLY_BIND_LO_UID_LO (i : Nat) (j : Nat) : Field := ⟨0x8110000 + 0x400 * i + 0x8 * j, 0, 32, 0⟩
/-! VLY_BIND_HI (R158) -/
def VLY_BIND_HI_UID_HI (i : Nat) (j : Nat) : Field := ⟨0x8110004 + 0x400 * i + 0x8 * j, 0, 16, 0⟩
def VLY_BIND_HI_VALID (i : Nat) (j : Nat) : Field := ⟨0x8110004 + 0x400 * i + 0x8 * j, 31, 1, 0⟩
/-! VLY_ARMCFG (R179) -/
def VLY_ARMCFG_ENABLE (i : Nat) : Field := ⟨0x8102000 + 0x20 * i, 0, 1, 0⟩
def VLY_ARMCFG_QS (i : Nat) : Field := ⟨0x8102000 + 0x20 * i, 1, 4, 0⟩
def VLY_ARMCFG_HBC (i : Nat) : Field := ⟨0x8102000 + 0x20 * i, 5, 6, 0⟩
def VLY_ARMCFG_ROT_STEP (i : Nat) : Field := ⟨0x8102000 + 0x20 * i, 11, 10, 1⟩
/-! VLY_ARMBUD (R180) -/
def VLY_ARMBUD_BUDGET (i : Nat) : Field := ⟨0x8102004 + 0x20 * i, 0, 16, 0⟩
def VLY_ARMBUD_WIN_LOG2 (i : Nat) : Field := ⟨0x8102004 + 0x20 * i, 16, 5, 12⟩
/-! VLY_ARMSTAT (R181) -/
def VLY_ARMSTAT_MEMBERS (i : Nat) : Field := ⟨0x8102008 + 0x20 * i, 0, 10, 0⟩
def VLY_ARMSTAT_RULE (i : Nat) : Field := ⟨0x8102008 + 0x20 * i, 10, 10, 0⟩
def VLY_ARMSTAT_FIXED (i : Nat) : Field := ⟨0x8102008 + 0x20 * i, 20, 10, 0⟩
def VLY_ARMSTAT_V1_PIN (i : Nat) : Field := ⟨0x8102008 + 0x20 * i, 30, 1, 0⟩
def VLY_ARMSTAT_LSB_MIX (i : Nat) : Field := ⟨0x8102008 + 0x20 * i, 31, 1, 0⟩
/-! VLY_ARM_EVT (R182) -/
def VLY_ARM_EVT_CLAMP (i : Nat) : Field := ⟨0x810200c + 0x20 * i, 0, 1, 0⟩
def VLY_ARM_EVT_LATE (i : Nat) : Field := ⟨0x810200c + 0x20 * i, 1, 1, 0⟩
def VLY_ARM_EVT_MERGED (i : Nat) : Field := ⟨0x810200c + 0x20 * i, 2, 1, 0⟩
def VLY_ARM_EVT_MOVED (i : Nat) : Field := ⟨0x810200c + 0x20 * i, 3, 1, 0⟩
def VLY_ARM_EVT_BUDGET_BREAK (i : Nat) : Field := ⟨0x810200c + 0x20 * i, 4, 1, 0⟩
def VLY_ARM_EVT_LSB_MIX (i : Nat) : Field := ⟨0x810200c + 0x20 * i, 5, 1, 0⟩
/-! VLY_ARMMAP (R184) -/
def VLY_ARMMAP_ARM (i : Nat) (j : Nat) : Field := ⟨0x8140000 + 0x200 * i + 0x4 * j, 0, 6, 0⟩
def VLY_ARMMAP_FB (i : Nat) (j : Nat) : Field := ⟨0x8140000 + 0x200 * i + 0x4 * j, 6, 1, 0⟩
def VLY_ARMMAP_MEMBER (i : Nat) (j : Nat) : Field := ⟨0x8140000 + 0x200 * i + 0x4 * j, 16, 10, 0⟩
def VLY_ARMMAP_BIND_DONE (i : Nat) (j : Nat) : Field := ⟨0x8140000 + 0x200 * i + 0x4 * j, 26, 1, 0⟩
def VLY_ARMMAP_VALID (i : Nat) (j : Nat) : Field := ⟨0x8140000 + 0x200 * i + 0x4 * j, 31, 1, 0⟩
/-! CE_CFG (R219) -/
def CE_CFG_ENABLE (i : Nat) : Field := ⟨0x8200000 + 0x100 * i, 0, 1, 0⟩
def CE_CFG_FRM (i : Nat) : Field := ⟨0x8200000 + 0x100 * i, 1, 3, 0⟩
def CE_CFG_C0_MAX (i : Nat) : Field := ⟨0x8200000 + 0x100 * i, 4, 2, 0⟩
def CE_CFG_YIELD_RUN (i : Nat) : Field := ⟨0x8200000 + 0x100 * i, 8, 8, 8⟩
/-! CE_ARMOWN (R220) -/
def CE_ARMOWN_ARM0 (i : Nat) : Field := ⟨0x8200004 + 0x100 * i, 0, 6, 0⟩
def CE_ARMOWN_VALID0 (i : Nat) : Field := ⟨0x8200004 + 0x100 * i, 7, 1, 0⟩
def CE_ARMOWN_ARM1 (i : Nat) : Field := ⟨0x8200004 + 0x100 * i, 8, 6, 0⟩
def CE_ARMOWN_VALID1 (i : Nat) : Field := ⟨0x8200004 + 0x100 * i, 15, 1, 0⟩
def CE_ARMOWN_ARM2 (i : Nat) : Field := ⟨0x8200004 + 0x100 * i, 16, 6, 0⟩
def CE_ARMOWN_VALID2 (i : Nat) : Field := ⟨0x8200004 + 0x100 * i, 23, 1, 0⟩
def CE_ARMOWN_ARM3 (i : Nat) : Field := ⟨0x8200004 + 0x100 * i, 24, 6, 0⟩
def CE_ARMOWN_VALID3 (i : Nat) : Field := ⟨0x8200004 + 0x100 * i, 31, 1, 0⟩
/-! CE_PROG (R221) -/
def CE_PROG_WCET_UNITS (i : Nat) : Field := ⟨0x8200008 + 0x100 * i, 0, 17, 0⟩
def CE_PROG_C0_UNITS (i : Nat) : Field := ⟨0x8200008 + 0x100 * i, 17, 13, 0⟩
def CE_PROG_LOADED (i : Nat) : Field := ⟨0x8200008 + 0x100 * i, 30, 1, 0⟩
def CE_PROG_STANDARD (i : Nat) : Field := ⟨0x8200008 + 0x100 * i, 31, 1, 0⟩
/-! CE_DEMAND (R221) -/
def CE_DEMAND_DEMAND (i : Nat) : Field := ⟨0x820000c + 0x100 * i, 0, 17, 0⟩
/-! CE_STAT (R222) -/
def CE_STAT_STATE (i : Nat) : Field := ⟨0x8200010 + 0x100 * i, 0, 3, 0⟩
def CE_STAT_PROG_VALID (i : Nat) : Field := ⟨0x8200010 + 0x100 * i, 3, 1, 0⟩
def CE_STAT_IN_HANDLER (i : Nat) : Field := ⟨0x8200010 + 0x100 * i, 4, 1, 0⟩
def CE_STAT_RUNNING (i : Nat) : Field := ⟨0x8200010 + 0x100 * i, 5, 1, 0⟩
/-! CE_EVT (R223) -/
def CE_EVT_OVERRUN (i : Nat) : Field := ⟨0x8200014 + 0x100 * i, 0, 1, 0⟩
def CE_EVT_YIELD_COND (i : Nat) : Field := ⟨0x8200014 + 0x100 * i, 1, 1, 0⟩
def CE_EVT_ACC_FAULT (i : Nat) : Field := ⟨0x8200014 + 0x100 * i, 2, 1, 0⟩
def CE_EVT_ILLEGAL (i : Nat) : Field := ⟨0x8200014 + 0x100 * i, 3, 1, 0⟩
def CE_EVT_UECC_D (i : Nat) : Field := ⟨0x8200014 + 0x100 * i, 4, 1, 0⟩
def CE_EVT_UECC_I (i : Nat) : Field := ⟨0x8200014 + 0x100 * i, 5, 1, 0⟩
def CE_EVT_C0_COALESCED (i : Nat) : Field := ⟨0x8200014 + 0x100 * i, 6, 1, 0⟩
def CE_EVT_AUTO_ABANDON (i : Nat) : Field := ⟨0x8200014 + 0x100 * i, 7, 1, 0⟩
def CE_EVT_MIG_DONE (i : Nat) : Field := ⟨0x8200014 + 0x100 * i, 8, 1, 0⟩
def CE_EVT_MIG_FAIL (i : Nat) : Field := ⟨0x8200014 + 0x100 * i, 9, 1, 0⟩
/-! CE_CNT_OVR (R224) -/
def CE_CNT_OVR_CNT (i : Nat) : Field := ⟨0x8200018 + 0x100 * i, 0, 32, 0⟩
/-! CE_RUN (R224) -/
def CE_RUN_RUN (i : Nat) : Field := ⟨0x820001c + 0x100 * i, 0, 16, 0⟩
def CE_RUN_RUN_MAX (i : Nat) : Field := ⟨0x820001c + 0x100 * i, 16, 16, 0⟩
/-! CE_DLSTAT (R224) -/
def CE_DLSTAT_LAST_END (i : Nat) : Field := ⟨0x8200020 + 0x100 * i, 0, 17, 0⟩
/-! CE_DLMAX (R224) -/
def CE_DLMAX_MAX_END (i : Nat) : Field := ⟨0x8200024 + 0x100 * i, 0, 17, 0⟩
/-! CE_ECC (R224) -/
def CE_ECC_CORR (i : Nat) : Field := ⟨0x8200028 + 0x100 * i, 0, 16, 0⟩
/-! CE_CTL (R225) -/
def CE_CTL_FENCE (i : Nat) : Field := ⟨0x820002c + 0x100 * i, 0, 1, 0⟩
def CE_CTL_CNT_CLR (i : Nat) : Field := ⟨0x820002c + 0x100 * i, 1, 1, 0⟩
def CE_CTL_DLMAX_CLR (i : Nat) : Field := ⟨0x820002c + 0x100 * i, 2, 1, 0⟩
/-! CE_MIG (R225) -/
def CE_MIG_TARGET (i : Nat) : Field := ⟨0x8200030 + 0x100 * i, 0, 5, 0⟩
def CE_MIG_COPY (i : Nat) : Field := ⟨0x8200030 + 0x100 * i, 5, 1, 1⟩
def CE_MIG_START (i : Nat) : Field := ⟨0x8200030 + 0x100 * i, 6, 1, 0⟩
def CE_MIG_ABORT (i : Nat) : Field := ⟨0x8200030 + 0x100 * i, 7, 1, 0⟩
def CE_MIG_COPYING (i : Nat) : Field := ⟨0x8200030 + 0x100 * i, 8, 1, 0⟩
def CE_MIG_COPIED (i : Nat) : Field := ⟨0x8200030 + 0x100 * i, 9, 1, 0⟩
/-! CE_EXT_SRC (R226) -/
def CE_EXT_SRC_SRC (i : Nat) (j : Nat) : Field := ⟨0x8200040 + 0x100 * i + 0x10 * j, 0, 32, 0⟩
/-! CE_EXT_LEN (R226) -/
def CE_EXT_LEN_LEN (i : Nat) (j : Nat) : Field := ⟨0x8200044 + 0x100 * i + 0x10 * j, 0, 9, 0⟩
/-! CE_EXT_DST (R226) -/
def CE_EXT_DST_DST (i : Nat) (j : Nat) : Field := ⟨0x8200048 + 0x100 * i + 0x10 * j, 0, 15, 0⟩
/-! CE_EXT_EVERY (R226) -/
def CE_EXT_EVERY_EVERY (i : Nat) (j : Nat) : Field := ⟨0x820004c + 0x100 * i + 0x10 * j, 0, 8, 1⟩
/-! CE_GSTAT (R227) -/
def CE_GSTAT_INVALID_WR : Field := ⟨0x8208000, 0, 1, 0⟩
def CE_GSTAT_ORPHAN : Field := ⟨0x8208000, 1, 1, 0⟩
/-! CE_GDEMAND (R227) -/
def CE_GDEMAND_DEMAND : Field := ⟨0x8208004, 0, 17, 0⟩
/-! LPW_BLK_STAT (R296) -/
def LPW_BLK_STAT_BLOCKED : Field := ⟨0x8400000, 0, 8, 0⟩
def LPW_BLK_STAT_SRC_LIVE : Field := ⟨0x8400000, 8, 8, 0⟩
/-! LPW_BLK_REL (R296) -/
def LPW_BLK_REL_REL : Field := ⟨0x8400004, 0, 8, 0⟩
/-! LPW_BLK_EVT (R296) -/
def LPW_BLK_EVT_BLOCK : Field := ⟨0x8400008, 0, 1, 0⟩
def LPW_BLK_EVT_REL_REFUSED : Field := ⟨0x8400008, 1, 1, 0⟩
def LPW_BLK_EVT_PAIR_DISC : Field := ⟨0x8400008, 2, 1, 0⟩
def LPW_BLK_EVT_SIDEBAND : Field := ⟨0x8400008, 3, 1, 0⟩
def LPW_BLK_EVT_INVALID_WR : Field := ⟨0x8400008, 4, 1, 0⟩
/-! LPW_FMAP (R296) -/
def LPW_FMAP_ACT : Field := ⟨0x840000c, 0, 10, 677⟩
/-! LPW_BIN_DISC (R296) -/
def LPW_BIN_DISC_DISC_US : Field := ⟨0x8400018, 0, 16, 0⟩
/-! LPW_SB_CFG (R296) -/
def LPW_SB_CFG_SB_X0 : Field := ⟨0x840001c, 0, 1, 1⟩
def LPW_SB_CFG_SB_X1 : Field := ⟨0x840001c, 1, 1, 1⟩
/-! LPW_LOCK (R296) -/
def LPW_LOCK_LOCK : Field := ⟨0x8400020, 0, 1, 0⟩
def LPW_LOCK_LOCK_VIOL : Field := ⟨0x8400020, 1, 1, 0⟩
/-! LPW_CNT_BLOCK (R296) -/
def LPW_CNT_BLOCK_CNT : Field := ⟨0x8400024, 0, 32, 0⟩
/-! LPW_BIN_CFG (R297) -/
def LPW_BIN_CFG_MASK (i : Nat) : Field := ⟨0x8400010 + 0x4 * i, 0, 8, 0⟩
def LPW_BIN_CFG_POL (i : Nat) : Field := ⟨0x8400010 + 0x4 * i, 8, 1, 0⟩
def LPW_BIN_CFG_FILT (i : Nat) : Field := ⟨0x8400010 + 0x4 * i, 16, 8, 16⟩
def LPW_BIN_CFG_LIVE (i : Nat) : Field := ⟨0x8400010 + 0x4 * i, 31, 1, 0⟩
/-! LPW_BLK_SRC (R298) -/
def LPW_BLK_SRC_SRC (i : Nat) : Field := ⟨0x8400040 + 0x8 * i, 0, 6, 0⟩
def LPW_BLK_SRC_REASON (i : Nat) : Field := ⟨0x8400040 + 0x8 * i, 8, 4, 0⟩
def LPW_BLK_SRC_CELL_ID (i : Nat) : Field := ⟨0x8400040 + 0x8 * i, 12, 14, 0⟩
/-! LPW_BLK_TS (R298) -/
def LPW_BLK_TS_TB3_NS (i : Nat) : Field := ⟨0x8400044 + 0x8 * i, 0, 32, 0⟩
/-! LPW_CMPMAP (R299) -/
def LPW_CMPMAP_MASK0 (i : Nat) : Field := ⟨0x8400100 + 0x4 * i, 0, 8, 0⟩
def LPW_CMPMAP_MASK1 (i : Nat) : Field := ⟨0x8400100 + 0x4 * i, 8, 8, 0⟩
/-! LPW_LP_CFG (R300) -/
def LPW_LP_CFG_EN (i : Nat) : Field := ⟨0x8401000 + 0x20 * i, 0, 1, 0⟩
def LPW_LP_CFG_ONESHOT (i : Nat) : Field := ⟨0x8401000 + 0x20 * i, 1, 1, 0⟩
def LPW_LP_CFG_SYNC (i : Nat) : Field := ⟨0x8401000 + 0x20 * i, 2, 1, 0⟩
def LPW_LP_CFG_MACT (i : Nat) : Field := ⟨0x8401000 + 0x20 * i, 3, 1, 0⟩
def LPW_LP_CFG_MCONV (i : Nat) : Field := ⟨0x8401000 + 0x20 * i, 4, 8, 0⟩
def LPW_LP_CFG_PARTNER (i : Nat) : Field := ⟨0x8401000 + 0x20 * i, 12, 4, 0⟩
def LPW_LP_CFG_IL_EN (i : Nat) : Field := ⟨0x8401000 + 0x20 * i, 16, 1, 0⟩
/-! LPW_LP_PERIOD (R300) -/
def LPW_LP_PERIOD_PERIOD (i : Nat) : Field := ⟨0x8401004 + 0x20 * i, 0, 24, 2⟩
/-! LPW_LP_CMP (R300) -/
def LPW_LP_CMP_CMP (i : Nat) : Field := ⟨0x8401008 + 0x20 * i, 0, 24, 0⟩
/-! LPW_LP_DEAD (R300) -/
def LPW_LP_DEAD_DEAD (i : Nat) : Field := ⟨0x840100c + 0x20 * i, 0, 12, 0⟩
/-! LPW_LP_CTL (R300) -/
def LPW_LP_CTL_COMMIT (i : Nat) : Field := ⟨0x8401010 + 0x20 * i, 0, 1, 0⟩
def LPW_LP_CTL_FIRE (i : Nat) : Field := ⟨0x8401010 + 0x20 * i, 1, 1, 0⟩
/-! LPW_LP_STAT (R300) -/
def LPW_LP_STAT_CNT (i : Nat) : Field := ⟨0x8401014 + 0x20 * i, 0, 24, 0⟩
def LPW_LP_STAT_OUT (i : Nat) : Field := ⟨0x8401014 + 0x20 * i, 24, 1, 0⟩
def LPW_LP_STAT_MASKED (i : Nat) : Field := ⟨0x8401014 + 0x20 * i, 25, 1, 0⟩
def LPW_LP_STAT_IL_HOLD (i : Nat) : Field := ⟨0x8401014 + 0x20 * i, 26, 1, 0⟩
def LPW_LP_STAT_PEND (i : Nat) : Field := ⟨0x8401014 + 0x20 * i, 27, 1, 0⟩
def LPW_LP_STAT_FROZEN (i : Nat) : Field := ⟨0x8401014 + 0x20 * i, 28, 1, 0⟩
/-! LPW_LP_GCFG (R301) -/
def LPW_LP_GCFG_DBG_ACT : Field := ⟨0x8401800, 0, 1, 0⟩
/-! LPW_LP_GSTAT (R301) -/
def LPW_LP_GSTAT_FIRE_LOST : Field := ⟨0x8401804, 0, 1, 0⟩
/-! ADC_GCFG (R319) -/
def ADC_GCFG_IN_TICK : Field := ⟨0x8300000, 0, 17, 480⟩
def ADC_GCFG_URG_CONV : Field := ⟨0x8300000, 17, 8, 0⟩
def ADC_GCFG_CAL_STEP : Field := ⟨0x8300000, 25, 7, 10⟩
/-! ADC_GSTAT (R319) -/
def ADC_GSTAT_INVALID_WR : Field := ⟨0x8300004, 0, 1, 0⟩
def ADC_GSTAT_IN_CLIP : Field := ⟨0x8300004, 1, 1, 0⟩
/-! ADC_URG (R319) -/
def ADC_URG_URG : Field := ⟨0x8300008, 0, 28, 0⟩
/-! ADC_SYSCAL (R319) -/
def ADC_SYSCAL_CH : Field := ⟨0x830000c, 0, 5, 0⟩
def ADC_SYSCAL_STEP : Field := ⟨0x830000c, 5, 2, 0⟩
def ADC_SYSCAL_START : Field := ⟨0x830000c, 7, 1, 0⟩
def ADC_SYSCAL_BUSY : Field := ⟨0x830000c, 8, 1, 0⟩
/-! ADC_SYSCAL_V (R319) -/
def ADC_SYSCAL_V_V_APP : Field := ⟨0x8300010, 0, 32, 0⟩
/-! ADC_EVT (R319) -/
def ADC_EVT_TRIP : Field := ⟨0x8300014, 0, 1, 0⟩
def ADC_EVT_URG_DROP : Field := ⟨0x8300014, 1, 1, 0⟩
def ADC_EVT_TRIG_LOST : Field := ⟨0x8300014, 2, 1, 0⟩
def ADC_EVT_TG_SKIP : Field := ⟨0x8300014, 3, 1, 0⟩
def ADC_EVT_SLICE_FAULT : Field := ⟨0x8300014, 4, 1, 0⟩
def ADC_EVT_SYSCAL_DONE : Field := ⟨0x8300014, 5, 1, 0⟩
def ADC_EVT_SYSCAL_FAIL : Field := ⟨0x8300014, 6, 1, 0⟩
def ADC_EVT_VREF : Field := ⟨0x8300014, 7, 1, 0⟩
/-! ADC_TRIP0 (R319) -/
def ADC_TRIP0_TRIP : Field := ⟨0x8300018, 0, 28, 0⟩
/-! ADC_TRIP1 (R319) -/
def ADC_TRIP1_TRIP : Field := ⟨0x830001c, 0, 28, 0⟩
/-! ADC_CTL (R319) -/
def ADC_CTL_CNT_CLR : Field := ⟨0x8300020, 0, 1, 0⟩
/-! ADC_TG_CFG (R320) -/
def ADC_TG_CFG_KIND (i : Nat) : Field := ⟨0x8300030 + 0x8 * i, 0, 2, 0⟩
def ADC_TG_CFG_EDGE (i : Nat) : Field := ⟨0x8300030 + 0x8 * i, 2, 1, 0⟩
def ADC_TG_CFG_LPSEL (i : Nat) : Field := ⟨0x8300030 + 0x8 * i, 3, 4, 0⟩
/-! ADC_TG_PARAM (R320) -/
def ADC_TG_PARAM_VALUE (i : Nat) : Field := ⟨0x8300034 + 0x8 * i, 0, 24, 0⟩
/-! ADC_GRP (R320) -/
def ADC_GRP_FENCED (i : Nat) : Field := ⟨0x8300060 + 0x4 * i, 0, 7, 0⟩
def ADC_GRP_FULL (i : Nat) : Field := ⟨0x8300060 + 0x4 * i, 7, 1, 0⟩
def ADC_GRP_SPARE (i : Nat) : Field := ⟨0x8300060 + 0x4 * i, 8, 3, 7⟩
def ADC_GRP_VREF_OK (i : Nat) : Field := ⟨0x8300060 + 0x4 * i, 11, 1, 1⟩
/-! ADC_CH_CFG (R321) -/
def ADC_CH_CFG_MODE (i : Nat) : Field := ⟨0x8300100 + 0x20 * i, 0, 2, 0⟩
def ADC_CH_CFG_TSEL (i : Nat) : Field := ⟨0x8300100 + 0x20 * i, 2, 2, 0⟩
def ADC_CH_CFG_PDN (i : Nat) : Field := ⟨0x8300100 + 0x20 * i, 4, 1, 0⟩
def ADC_CH_CFG_RANGE (i : Nat) : Field := ⟨0x8300100 + 0x20 * i, 5, 1, 0⟩
def ADC_CH_CFG_REC (i : Nat) : Field := ⟨0x8300100 + 0x20 * i, 6, 1, 0⟩
def ADC_CH_CFG_DELAY (i : Nat) : Field := ⟨0x8300100 + 0x20 * i, 8, 16, 16⟩
/-! ADC_CH_CAL (R321) -/
def ADC_CH_CAL_OFFSET (i : Nat) : Field := ⟨0x8300104 + 0x20 * i, 0, 16, 0⟩
def ADC_CH_CAL_GAIN (i : Nat) : Field := ⟨0x8300104 + 0x20 * i, 16, 16, 32768⟩
/-! ADC_CH_CMP0 (R321) -/
def ADC_CH_CMP0_LO (i : Nat) : Field := ⟨0x8300108 + 0x20 * i, 0, 16, 32768⟩
def ADC_CH_CMP0_HI (i : Nat) : Field := ⟨0x8300108 + 0x20 * i, 16, 16, 32767⟩
/-! ADC_CH_CMP1 (R321) -/
def ADC_CH_CMP1_LO (i : Nat) : Field := ⟨0x830010c + 0x20 * i, 0, 16, 32768⟩
def ADC_CH_CMP1_HI (i : Nat) : Field := ⟨0x830010c + 0x20 * i, 16, 16, 32767⟩
/-! ADC_CH_CMPCTL (R321) -/
def ADC_CH_CMPCTL_EN0 (i : Nat) : Field := ⟨0x8300110 + 0x20 * i, 0, 1, 0⟩
def ADC_CH_CMPCTL_SENSE0 (i : Nat) : Field := ⟨0x8300110 + 0x20 * i, 1, 1, 0⟩
def ADC_CH_CMPCTL_N0 (i : Nat) : Field := ⟨0x8300110 + 0x20 * i, 2, 4, 1⟩
def ADC_CH_CMPCTL_HYST0 (i : Nat) : Field := ⟨0x8300110 + 0x20 * i, 8, 8, 0⟩
def ADC_CH_CMPCTL_EN1 (i : Nat) : Field := ⟨0x8300110 + 0x20 * i, 16, 1, 0⟩
def ADC_CH_CMPCTL_SENSE1 (i : Nat) : Field := ⟨0x8300110 + 0x20 * i, 17, 1, 0⟩
def ADC_CH_CMPCTL_N1 (i : Nat) : Field := ⟨0x8300110 + 0x20 * i, 18, 4, 1⟩
def ADC_CH_CMPCTL_HYST1 (i : Nat) : Field := ⟨0x8300110 + 0x20 * i, 24, 8, 0⟩
/-! ADC_CH_RES (R321) -/
def ADC_CH_RES_CODE (i : Nat) : Field := ⟨0x8300114 + 0x20 * i, 0, 16, 0⟩
def ADC_CH_RES_SAT (i : Nat) : Field := ⟨0x8300114 + 0x20 * i, 16, 1, 0⟩
def ADC_CH_RES_CMP0_LIVE (i : Nat) : Field := ⟨0x8300114 + 0x20 * i, 17, 1, 0⟩
def ADC_CH_RES_CMP1_LIVE (i : Nat) : Field := ⟨0x8300114 + 0x20 * i, 18, 1, 0⟩
def ADC_CH_RES_CAL_NV (i : Nat) : Field := ⟨0x8300114 + 0x20 * i, 19, 1, 1⟩
def ADC_CH_RES_SLICE (i : Nat) : Field := ⟨0x8300114 + 0x20 * i, 20, 3, 0⟩
/-! ADC_CH_TS (R321) -/
def ADC_CH_TS_TB3_NS (i : Nat) : Field := ⟨0x8300118 + 0x20 * i, 0, 32, 0⟩
/-! ADC_CH_CNT (R321) -/
def ADC_CH_CNT_URG_DROP (i : Nat) : Field := ⟨0x830011c + 0x20 * i, 0, 16, 0⟩
def ADC_CH_CNT_TRIG_LOST (i : Nat) : Field := ⟨0x830011c + 0x20 * i, 16, 16, 0⟩
/-! TND_CFG (R345) -/
def TND_CFG_ROLE : Field := ⟨0x8b00000, 0, 2, 0⟩
def TND_CFG_SPOKE_LOSS : Field := ⟨0x8b00000, 8, 8, 4⟩
def TND_CFG_YIELD_EN : Field := ⟨0x8b00000, 16, 6, 63⟩
/-! TND_START (R346) -/
def TND_START_A_WAIT_MS : Field := ⟨0x8b00004, 0, 16, 10⟩
def TND_START_B_WAIT_MS : Field := ⟨0x8b00004, 16, 16, 100⟩
/-! TND_CTL (R346) -/
def TND_CTL_SWITCH : Field := ⟨0x8b00008, 0, 1, 0⟩
def TND_CTL_REJOIN : Field := ⟨0x8b00008, 1, 1, 0⟩
def TND_CTL_PARTNER_RST : Field := ⟨0x8b00008, 2, 1, 0⟩
def TND_CTL_CNT_CLR : Field := ⟨0x8b00008, 3, 1, 0⟩
def TND_CTL_LOCK : Field := ⟨0x8b00008, 31, 1, 0⟩
/-! TND_STAT (R347) -/
def TND_STAT_STATE : Field := ⟨0x8b0000c, 0, 3, 0⟩
def TND_STAT_TWIN_HOLD : Field := ⟨0x8b0000c, 3, 1, 0⟩
def TND_STAT_TWIN_READY : Field := ⟨0x8b0000c, 4, 1, 0⟩
def TND_STAT_LINK_UP : Field := ⟨0x8b0000c, 5, 1, 0⟩
def TND_STAT_LANES : Field := ⟨0x8b0000c, 6, 3, 0⟩
def TND_STAT_DIGEST_OK : Field := ⟨0x8b0000c, 9, 1, 0⟩
def TND_STAT_VER_OK : Field := ⟨0x8b0000c, 10, 1, 0⟩
def TND_STAT_TIME_OK : Field := ⟨0x8b0000c, 11, 1, 0⟩
def TND_STAT_TVER : Field := ⟨0x8b0000c, 12, 3, 0⟩
def TND_STAT_CLEAN : Field := ⟨0x8b0000c, 16, 16, 0⟩
/-! TND_EVT (R348) -/
def TND_EVT_YIELDED : Field := ⟨0x8b00010, 0, 1, 0⟩
def TND_EVT_TOOK_OVER : Field := ⟨0x8b00010, 1, 1, 0⟩
def TND_EVT_TKOV_FAULT : Field := ⟨0x8b00010, 2, 1, 0⟩
def TND_EVT_DUAL : Field := ⟨0x8b00010, 3, 1, 0⟩
def TND_EVT_LINK_DOWN : Field := ⟨0x8b00010, 4, 1, 0⟩
def TND_EVT_LANE_LOST : Field := ⟨0x8b00010, 5, 1, 0⟩
def TND_EVT_NOFIT : Field := ⟨0x8b00010, 6, 1, 0⟩
def TND_EVT_VERSION : Field := ⟨0x8b00010, 7, 1, 0⟩
def TND_EVT_DIGEST : Field := ⟨0x8b00010, 8, 1, 0⟩
def TND_EVT_SKEW : Field := ⟨0x8b00010, 9, 1, 0⟩
def TND_EVT_EPOCH_HUNT : Field := ⟨0x8b00010, 10, 1, 0⟩
def TND_EVT_HELD_NO_TWIN : Field := ⟨0x8b00010, 11, 1, 0⟩
def TND_EVT_REFUSED : Field := ⟨0x8b00010, 12, 1, 0⟩
def TND_EVT_ROLE_CONFLICT : Field := ⟨0x8b00010, 13, 1, 0⟩
def TND_EVT_INVALID_WR : Field := ⟨0x8b00010, 14, 1, 0⟩
def TND_EVT_LOCK_VIOL : Field := ⟨0x8b00010, 15, 1, 0⟩
/-! TND_CAUSE (R349) -/
def TND_CAUSE_LIVE : Field := ⟨0x8b00014, 0, 6, 0⟩
def TND_CAUSE_LAST : Field := ⟨0x8b00014, 8, 6, 0⟩
def TND_CAUSE_CMD : Field := ⟨0x8b00014, 14, 1, 0⟩
def TND_CAUSE_DUAL_LOSS : Field := ⟨0x8b00014, 15, 1, 0⟩
/-! TND_EPOCH (R349) -/
def TND_EPOCH_EPOCH : Field := ⟨0x8b00018, 0, 16, 0⟩
def TND_EPOCH_TWIN : Field := ⟨0x8b00018, 16, 16, 0⟩
/-! TND_DIGEST (R349) -/
def TND_DIGEST_OWN : Field := ⟨0x8b0001c, 0, 32, 0⟩
/-! TND_TDIGEST (R349) -/
def TND_TDIGEST_TWIN : Field := ⟨0x8b00020, 0, 32, 0⟩
/-! TND_SHBYTES (R349) -/
def TND_SHBYTES_BYTES : Field := ⟨0x8b00024, 0, 32, 0⟩
/-! TND_SHCAP (R349) -/
def TND_SHCAP_CAP : Field := ⟨0x8b00028, 0, 32, 0⟩
/-! TND_DELTA (R349) -/
def TND_DELTA_DELTA : Field := ⟨0x8b0002c, 0, 16, 0⟩
/-! TND_CNT_YIELD (R349) -/
def TND_CNT_YIELD_CNT : Field := ⟨0x8b00030, 0, 32, 0⟩
/-! TND_CNT_TAKEOVER (R349) -/
def TND_CNT_TAKEOVER_CNT : Field := ⟨0x8b00034, 0, 32, 0⟩
/-! TND_CNT_SHLATE (R349) -/
def TND_CNT_SHLATE_CNT : Field := ⟨0x8b00038, 0, 32, 0⟩
/-! TND_SYNC (R350) -/
def TND_SYNC_BASE (i : Nat) : Field := ⟨0x8b00040 + 0x4 * i, 0, 15, 10240⟩
def TND_SYNC_LEN (i : Nat) : Field := ⟨0x8b00040 + 0x4 * i, 15, 11, 0⟩
/-! TND_SKEW (R350) -/
def TND_SKEW_DELTA (i : Nat) : Field := ⟨0x8b00100 + 0x4 * i, 0, 16, 0⟩
def TND_SKEW_VALID (i : Nat) : Field := ⟨0x8b00100 + 0x4 * i, 16, 1, 0⟩
/-! HIF_FN_ID (R355) -/
def HIF_FN_ID_FN (i : Nat) : Field := ⟨0x10000000000 + 0x10000 * i, 0, 8, i⟩
def HIF_FN_ID_PF (i : Nat) : Field := ⟨0x10000000000 + 0x10000 * i, 8, 1, if i % 128 = 0 then 1 else 0⟩
/-! HIF_FN_STAT (R355) -/
def HIF_FN_STAT_READY (i : Nat) : Field := ⟨0x10000000004 + 0x10000 * i, 0, 1, 0⟩
def HIF_FN_STAT_OPEN (i : Nat) : Field := ⟨0x10000000004 + 0x10000 * i, 1, 1, 0⟩
def HIF_FN_STAT_LEVEL (i : Nat) : Field := ⟨0x10000000004 + 0x10000 * i, 2, 2, 0⟩
def HIF_FN_STAT_STANDBY (i : Nat) : Field := ⟨0x10000000004 + 0x10000 * i, 4, 1, 0⟩
def HIF_FN_STAT_FLR_BUSY (i : Nat) : Field := ⟨0x10000000004 + 0x10000 * i, 5, 1, 0⟩
def HIF_FN_STAT_ERROR (i : Nat) : Field := ⟨0x10000000004 + 0x10000 * i, 6, 1, 0⟩
def HIF_FN_STAT_DB_ERR (i : Nat) : Field := ⟨0x10000000004 + 0x10000 * i, 7, 1, 0⟩
def HIF_FN_STAT_ACC_ERR (i : Nat) : Field := ⟨0x10000000004 + 0x10000 * i, 8, 1, 0⟩
def HIF_FN_STAT_WR_IGN (i : Nat) : Field := ⟨0x10000000004 + 0x10000 * i, 9, 1, 0⟩
def HIF_FN_STAT_CPL_WAIT (i : Nat) : Field := ⟨0x10000000004 + 0x10000 * i, 10, 1, 0⟩
def HIF_FN_STAT_THROTTLED (i : Nat) : Field := ⟨0x10000000004 + 0x10000 * i, 11, 1, 0⟩
def HIF_FN_STAT_EVT_OVF (i : Nat) : Field := ⟨0x10000000004 + 0x10000 * i, 12, 1, 0⟩
def HIF_FN_STAT_ERR_CAUSE (i : Nat) : Field := ⟨0x10000000004 + 0x10000 * i, 16, 4, 0⟩
/-! HIF_FN_CTL (R355) -/
def HIF_FN_CTL_OPEN (i : Nat) : Field := ⟨0x10000000008 + 0x10000 * i, 0, 1, 0⟩
def HIF_FN_CTL_CLOSE (i : Nat) : Field := ⟨0x10000000008 + 0x10000 * i, 1, 1, 0⟩
def HIF_FN_CTL_LEVEL_MAX (i : Nat) : Field := ⟨0x10000000008 + 0x10000 * i, 2, 2, 3⟩
/-! HIF_FN_RING_BASE_LO (R355) -/
def HIF_FN_RING_BASE_LO_ADDR (i : Nat) (j : Nat) : Field := ⟨0x10000000010 + 0x10000 * i + 0x10 * j, 0, 32, 0⟩
/-! HIF_FN_RING_BASE_HI (R355) -/
def HIF_FN_RING_BASE_HI_ADDR (i : Nat) (j : Nat) : Field := ⟨0x10000000014 + 0x10000 * i + 0x10 * j, 0, 32, 0⟩
/-! HIF_FN_RING_SIZE (R355) -/
def HIF_FN_RING_SIZE_LOG2 (i : Nat) (j : Nat) : Field := ⟨0x10000000018 + 0x10000 * i + 0x10 * j, 0, 5, 0⟩
/-! HIF_FN_EVT_MASK (R355) -/
def HIF_FN_EVT_MASK_TYPES (i : Nat) : Field := ⟨0x1000000003c + 0x10000 * i, 1, 9, 511⟩
/-! HIF_FN_SHTAIL_LO (R355) -/
def HIF_FN_SHTAIL_LO_ADDR (i : Nat) : Field := ⟨0x10000000050 + 0x10000 * i, 0, 32, 0⟩
/-! HIF_FN_SHTAIL_HI (R355) -/
def HIF_FN_SHTAIL_HI_ADDR (i : Nat) : Field := ⟨0x10000000054 + 0x10000 * i, 0, 32, 0⟩
/-! HIF_FN_SHPOLL (R355) -/
def HIF_FN_SHPOLL_POLL_US (i : Nat) : Field := ⟨0x10000000058 + 0x10000 * i, 0, 10, 10⟩
/-! HIF_FN_MOD (R355) -/
def HIF_FN_MOD_HOLD_US (i : Nat) (j : Nat) : Field := ⟨0x10000000060 + 0x10000 * i + 0x8 * j, 0, 16, 0⟩
def HIF_FN_MOD_COUNT (i : Nat) (j : Nat) : Field := ⟨0x10000000060 + 0x10000 * i + 0x8 * j, 16, 8, 1⟩
def HIF_FN_MOD_RATE (i : Nat) (j : Nat) : Field := ⟨0x10000000060 + 0x10000 * i + 0x8 * j, 24, 8, 0⟩
/-! HIF_FN_CNT_DONE (R355) -/
def HIF_FN_CNT_DONE_CNT (i : Nat) : Field := ⟨0x10000000080 + 0x10000 * i, 0, 32, 0⟩
/-! HIF_FN_CNT_REFUSED (R355) -/
def HIF_FN_CNT_REFUSED_CNT (i : Nat) : Field := ⟨0x10000000084 + 0x10000 * i, 0, 32, 0⟩
/-! HIF_FN_CNT_AUTH (R355) -/
def HIF_FN_CNT_AUTH_CNT (i : Nat) : Field := ⟨0x10000000088 + 0x10000 * i, 0, 32, 0⟩
/-! HIF_FN_CNT_EVTLOST (R355) -/
def HIF_FN_CNT_EVTLOST_CNT (i : Nat) : Field := ⟨0x1000000008c + 0x10000 * i, 0, 32, 0⟩
/-! HIF_FN_CNT_THROTTLE (R355) -/
def HIF_FN_CNT_THROTTLE_CNT (i : Nat) : Field := ⟨0x10000000090 + 0x10000 * i, 0, 32, 0⟩
/-! HIF_FN_CMD_PTR (R355) -/
def HIF_FN_CMD_PTR_HEAD (i : Nat) : Field := ⟨0x100000000a0 + 0x10000 * i, 0, 16, 0⟩
def HIF_FN_CMD_PTR_TAIL (i : Nat) : Field := ⟨0x100000000a0 + 0x10000 * i, 16, 16, 0⟩
/-! HIF_FN_CPL_PTR (R355) -/
def HIF_FN_CPL_PTR_TAIL (i : Nat) : Field := ⟨0x100000000a4 + 0x10000 * i, 0, 16, 0⟩
def HIF_FN_CPL_PTR_HEAD (i : Nat) : Field := ⟨0x100000000a4 + 0x10000 * i, 16, 16, 0⟩
/-! HIF_FN_EVT_PTR (R355) -/
def HIF_FN_EVT_PTR_TAIL (i : Nat) : Field := ⟨0x100000000a8 + 0x10000 * i, 0, 16, 0⟩
def HIF_FN_EVT_PTR_HEAD (i : Nat) : Field := ⟨0x100000000a8 + 0x10000 * i, 16, 16, 0⟩
/-! HIF_FN_BLK_PTR (R355) -/
def HIF_FN_BLK_PTR_HEAD (i : Nat) : Field := ⟨0x100000000ac + 0x10000 * i, 0, 16, 0⟩
def HIF_FN_BLK_PTR_TAIL (i : Nat) : Field := ⟨0x100000000ac + 0x10000 * i, 16, 16, 0⟩
/-! HIF_FN_INFLIGHT (R355) -/
def HIF_FN_INFLIGHT_N (i : Nat) : Field := ⟨0x100000000b0 + 0x10000 * i, 0, 6, 0⟩
/-! HIF_PORT_STAT (R380) -/
def HIF_PORT_STAT_ENABLED (i : Nat) : Field := ⟨0x8800000 + 0x100 * i, 0, 1, 0⟩
def HIF_PORT_STAT_LINK_UP (i : Nat) : Field := ⟨0x8800000 + 0x100 * i, 1, 1, 0⟩
def HIF_PORT_STAT_SPEED (i : Nat) : Field := ⟨0x8800000 + 0x100 * i, 2, 3, 0⟩
def HIF_PORT_STAT_WIDTH (i : Nat) : Field := ⟨0x8800000 + 0x100 * i, 5, 4, 0⟩
def HIF_PORT_STAT_NUM_VF (i : Nat) : Field := ⟨0x8800000 + 0x100 * i, 9, 7, 0⟩
/-! HIF_PORT_CNT_FLR (R380) -/
def HIF_PORT_CNT_FLR_CNT (i : Nat) : Field := ⟨0x8800004 + 0x100 * i, 0, 32, 0⟩
/-! HIF_PORT_FLR_DROP (R380) -/
def HIF_PORT_FLR_DROP_CNT (i : Nat) : Field := ⟨0x8800008 + 0x100 * i, 0, 32, 0⟩
/-! HIF_PORT_TAGS (R380) -/
def HIF_PORT_TAGS_OUT (i : Nat) : Field := ⟨0x880000c + 0x100 * i, 0, 9, 0⟩
def HIF_PORT_TAGS_HELD (i : Nat) : Field := ⟨0x880000c + 0x100 * i, 16, 9, 0⟩
/-! HIF_PORT_CNT_CTO (R380) -/
def HIF_PORT_CNT_CTO_CNT (i : Nat) : Field := ⟨0x8800010 + 0x100 * i, 0, 32, 0⟩
/-! HIF_GSTAT (R380) -/
def HIF_GSTAT_INVALID_WR : Field := ⟨0x8800800, 0, 1, 0⟩
/-! SEC_LC (R406) -/
def SEC_LC_STATE : Field := ⟨0x8900000, 0, 3, 0⟩
def SEC_LC_HOLD : Field := ⟨0x8900000, 3, 1, 0⟩
def SEC_LC_OPENS : Field := ⟨0x8900000, 4, 6, 0⟩
def SEC_LC_REPROVS : Field := ⟨0x8900000, 10, 6, 0⟩
/-! SEC_CUST (R406) -/
def SEC_CUST_N : Field := ⟨0x8900004, 0, 3, 0⟩
def SEC_CUST_K : Field := ⟨0x8900004, 3, 3, 0⟩
def SEC_CUST_SLOT_OK : Field := ⟨0x8900004, 6, 5, 0⟩
/-! SEC_POL_SERIAL (R406) -/
def SEC_POL_SERIAL_SERIAL : Field := ⟨0x8900008, 0, 32, 0⟩
/-! SEC_POL_HASH (R406) -/
def SEC_POL_HASH_HASH (i : Nat) : Field := ⟨0x8900010 + 0x4 * i, 0, 32, 0⟩
/-! SEC_TIME_LO (R406) -/
def SEC_TIME_LO_SEC : Field := ⟨0x8900030, 0, 32, 0⟩
/-! SEC_TIME_HI (R406) -/
def SEC_TIME_HI_SEC : Field := ⟨0x8900034, 0, 32, 0⟩
/-! SEC_TIME_STAT (R406) -/
def SEC_TIME_STAT_SYNC : Field := ⟨0x8900038, 0, 1, 0⟩
def SEC_TIME_STAT_FLOOR : Field := ⟨0x8900038, 1, 1, 0⟩
/-! SEC_IDPUB (R406) -/
def SEC_IDPUB_KEY (i : Nat) : Field := ⟨0x8900040 + 0x4 * i, 0, 32, 0⟩
/-! SEC_SESS (R406) -/
def SEC_SESS_OPEN : Field := ⟨0x8900060, 0, 11, 0⟩
/-! SEC_PERMIT (R406) -/
def SEC_PERMIT_IN_FORCE : Field := ⟨0x8900064, 0, 1, 0⟩
def SEC_PERMIT_MASK : Field := ⟨0x8900064, 1, 7, 0⟩
/-! SEC_PERMIT_ID (R406) -/
def SEC_PERMIT_ID_ID : Field := ⟨0x8900068, 0, 32, 0⟩
/-! SEC_PERMIT_END (R406) -/
def SEC_PERMIT_END_END : Field := ⟨0x890006c, 0, 32, 0⟩
/-! SEC_EVT (R406) -/
def SEC_EVT_BUNDLE : Field := ⟨0x8900070, 0, 1, 0⟩
def SEC_EVT_MOVE : Field := ⟨0x8900070, 1, 1, 0⟩
def SEC_EVT_OBJ_FAIL : Field := ⟨0x8900070, 2, 1, 0⟩
def SEC_EVT_GRANT_FAIL : Field := ⟨0x8900070, 3, 1, 0⟩
def SEC_EVT_TAMPER : Field := ⟨0x8900070, 4, 1, 0⟩
def SEC_EVT_ZEROISE_FAIL : Field := ⟨0x8900070, 5, 1, 0⟩
def SEC_EVT_PERMIT_END : Field := ⟨0x8900070, 6, 1, 0⟩
def SEC_EVT_INVALID_WR : Field := ⟨0x8900070, 7, 1, 0⟩
/-! SEC_CTL (R406) -/
def SEC_CTL_CNT_CLR : Field := ⟨0x8900074, 0, 1, 0⟩
/-! SEC_CNT_MACOK (R406) -/
def SEC_CNT_MACOK_CNT : Field := ⟨0x8900080, 0, 32, 0⟩
/-! SEC_CNT_MACFAIL (R406) -/
def SEC_CNT_MACFAIL_CNT : Field := ⟨0x8900084, 0, 32, 0⟩
/-! SEC_CNT_SIGOK (R406) -/
def SEC_CNT_SIGOK_CNT : Field := ⟨0x8900088, 0, 32, 0⟩
/-! SEC_CNT_SIGFAIL (R406) -/
def SEC_CNT_SIGFAIL_CNT : Field := ⟨0x890008c, 0, 32, 0⟩
/-! SEC_CNT_REPLAY (R406) -/
def SEC_CNT_REPLAY_CNT : Field := ⟨0x8900090, 0, 32, 0⟩
/-! SEC_CNT_GRANTFAIL (R406) -/
def SEC_CNT_GRANTFAIL_CNT : Field := ⟨0x8900094, 0, 32, 0⟩
/-! SEC_CNT_OBJFAIL (R406) -/
def SEC_CNT_OBJFAIL_CNT : Field := ⟨0x8900098, 0, 32, 0⟩
/-! FUS_STAT (R408) -/
def FUS_STAT_MARG_START : Field := ⟨0x8a00000, 0, 9, 0⟩
def FUS_STAT_MARG_STICKY : Field := ⟨0x8a00000, 9, 9, 0⟩
def FUS_STAT_REREAD_FLAG : Field := ⟨0x8a00000, 18, 1, 0⟩
def FUS_STAT_BURN_FAIL : Field := ⟨0x8a00000, 19, 1, 0⟩
def FUS_STAT_LAST : Field := ⟨0x8a00000, 20, 8, 0⟩
def FUS_STAT_INVALID_WR : Field := ⟨0x8a00000, 28, 1, 0⟩
/-! FUS_STICKY (R408) -/
def FUS_STICKY_WORDS (i : Nat) : Field := ⟨0x8a00020 + 0x4 * i, 0, 32, 0⟩
/-! FUS_REREAD (R408) -/
def FUS_REREAD_WORDS (i : Nat) : Field := ⟨0x8a00040 + 0x4 * i, 0, 32, 0⟩
/-! FUS_WORD (R408) -/
def FUS_WORD_VALUE (i : Nat) : Field := ⟨0x8a00400 + 0x4 * i, 0, 32, 0⟩
/-! QOS_STAT (R424) -/
def QOS_STAT_NOFIT : Field := ⟨0x9100000, 0, 1, 0⟩
def QOS_STAT_C1_MISS : Field := ⟨0x9100000, 1, 1, 0⟩
def QOS_STAT_INVALID_WR : Field := ⟨0x9100000, 2, 1, 0⟩
def QOS_STAT_SHED : Field := ⟨0x9100000, 3, 2, 0⟩
def QOS_STAT_SHED_CAD : Field := ⟨0x9100000, 5, 1, 0⟩
/-! QOS_DEM_DRAM (R424) -/
def QOS_DEM_DRAM_BYTES : Field := ⟨0x9100004, 0, 32, 0⟩
/-! QOS_CAP_DRAM (R424) -/
def QOS_CAP_DRAM_BYTES : Field := ⟨0x9100008, 0, 32, 0⟩
/-! QOS_SLACK (R424) -/
def QOS_SLACK_SLACK : Field := ⟨0x910000c, 0, 17, 0⟩
/-! QOS_CFG (R424) -/
def QOS_CFG_BANKCAP : Field := ⟨0x9100010, 0, 7, 16⟩
/-! QOS_CTL (R424) -/
def QOS_CTL_CNT_CLR : Field := ⟨0x9100014, 0, 1, 0⟩
/-! QOS_CNT_C1MISS (R424) -/
def QOS_CNT_C1MISS_CNT : Field := ⟨0x9100020, 0, 32, 0⟩
/-! QOS_CNT_SHED3 (R424) -/
def QOS_CNT_SHED3_CNT : Field := ⟨0x9100024, 0, 32, 0⟩
/-! QOS_CNT_SHED2 (R424) -/
def QOS_CNT_SHED2_CNT : Field := ⟨0x9100028, 0, 32, 0⟩
/-! QOS_CNT_BANKCAP (R424) -/
def QOS_CNT_BANKCAP_CNT : Field := ⟨0x910002c, 0, 32, 0⟩
/-! QOS_FN_CNT (R424) -/
def QOS_FN_CNT_CNT (i : Nat) : Field := ⟨0x9101000 + 0x4 * i, 0, 32, 0⟩
/-! MEM_BANKMAP (R425) -/
def MEM_BANKMAP_PHYS (i : Nat) : Field := ⟨0x9200000 + 0x4 * i, 0, 6, i⟩
/-! MEM_BANKSTAT (R425) -/
def MEM_BANKSTAT_CORR (i : Nat) : Field := ⟨0x9200100 + 0x4 * i, 0, 16, 0⟩
def MEM_BANKSTAT_STATE (i : Nat) : Field := ⟨0x9200100 + 0x4 * i, 16, 3, if i < 60 then 0 else 1⟩
def MEM_BANKSTAT_LOGICAL (i : Nat) : Field := ⟨0x9200100 + 0x4 * i, 19, 6, if i < 60 then i else 63⟩
/-! MEM_SPARE_CTL (R425) -/
def MEM_SPARE_CTL_SRC : Field := ⟨0x9200200, 0, 6, 0⟩
def MEM_SPARE_CTL_START : Field := ⟨0x9200200, 6, 1, 0⟩
def MEM_SPARE_CTL_BUSY : Field := ⟨0x9200200, 7, 1, 0⟩
def MEM_SPARE_CTL_LEFT : Field := ⟨0x9200200, 8, 3, 4⟩
/-! MEM_CFG (R425) -/
def MEM_CFG_AUTO : Field := ⟨0x9200204, 0, 1, 1⟩
def MEM_CFG_CORR_LIMIT : Field := ⟨0x9200204, 1, 16, 256⟩
/-! MEM_EVT (R425) -/
def MEM_EVT_SWAP_DONE : Field := ⟨0x9200208, 0, 1, 0⟩
def MEM_EVT_SWAP_FAIL : Field := ⟨0x9200208, 1, 1, 0⟩
def MEM_EVT_NO_SPARE : Field := ⟨0x9200208, 2, 1, 0⟩
def MEM_EVT_UECC_SRAM : Field := ⟨0x9200208, 3, 1, 0⟩
def MEM_EVT_UECC_DRAM : Field := ⟨0x9200208, 4, 1, 0⟩
def MEM_EVT_DRAM_HOT2 : Field := ⟨0x9200208, 5, 1, 0⟩
def MEM_EVT_INVALID_WR : Field := ⟨0x9200208, 6, 1, 0⟩
/-! MEM_DRAM_STAT (R425) -/
def MEM_DRAM_STAT_BW_GBS : Field := ⟨0x920020c, 0, 9, 256⟩
def MEM_DRAM_STAT_REFRESH : Field := ⟨0x920020c, 9, 2, 0⟩
/-! MEM_CNT_TRR (R425) -/
def MEM_CNT_TRR_CNT : Field := ⟨0x9200210, 0, 32, 0⟩
/-! MEM_CNT_UECC (R425) -/
def MEM_CNT_UECC_CNT : Field := ⟨0x9200214, 0, 32, 0⟩
/-! STP_ST_CFG (R451) -/
def STP_ST_CFG_SPEED (i : Nat) : Field := ⟨0x8700000 + 0x100 * i, 0, 2, 0⟩
def STP_ST_CFG_AN (i : Nat) : Field := ⟨0x8700000 + 0x100 * i, 2, 1, 1⟩
def STP_ST_CFG_TO_APC (i : Nat) : Field := ⟨0x8700000 + 0x100 * i, 3, 1, 0⟩
def STP_ST_CFG_RST_EN (i : Nat) : Field := ⟨0x8700000 + 0x100 * i, 4, 1, 0⟩
/-! STP_ST_MAC_LO (R451) -/
def STP_ST_MAC_LO_MAC (i : Nat) : Field := ⟨0x8700004 + 0x100 * i, 0, 32, 0⟩
/-! STP_ST_MAC_HI (R451) -/
def STP_ST_MAC_HI_MAC (i : Nat) : Field := ⟨0x8700008 + 0x100 * i, 0, 16, 0⟩
/-! STP_ST_LINKDLY (R451) -/
def STP_ST_LINKDLY_LD (i : Nat) : Field := ⟨0x870000c + 0x100 * i, 0, 24, 0⟩
/-! STP_ST_STAT (R451) -/
def STP_ST_STAT_LINK_UP (i : Nat) : Field := ⟨0x8700010 + 0x100 * i, 0, 1, 0⟩
def STP_ST_STAT_SPEED (i : Nat) : Field := ⟨0x8700010 + 0x100 * i, 1, 2, 0⟩
/-! STP_ST_CNT_RX (R451) -/
def STP_ST_CNT_RX_CNT (i : Nat) : Field := ⟨0x8700014 + 0x100 * i, 0, 32, 0⟩
/-! STP_ST_CNT_FCS (R451) -/
def STP_ST_CNT_FCS_CNT (i : Nat) : Field := ⟨0x8700018 + 0x100 * i, 0, 32, 0⟩
/-! STP_ST_CNT_DROP (R451) -/
def STP_ST_CNT_DROP_CNT (i : Nat) : Field := ⟨0x870001c + 0x100 * i, 0, 32, 0⟩
/-! STP_ST_CNT_FWDDROP (R451) -/
def STP_ST_CNT_FWDDROP_CNT (i : Nat) : Field := ⟨0x8700020 + 0x100 * i, 0, 32, 0⟩
/-! STP_ST_CNT_STOMP (R451) -/
def STP_ST_CNT_STOMP_CNT (i : Nat) : Field := ⟨0x8700024 + 0x100 * i, 0, 32, 0⟩
/-! STP_BRIDGE (R452) -/
def STP_BRIDGE_EN : Field := ⟨0x8700800, 0, 1, 0⟩
/-! STP_ETYPE (R452) -/
def STP_ETYPE_ETYPE : Field := ⟨0x8700804, 0, 16, 34997⟩
/-! STP_RST (R452) -/
def STP_RST_AUTH_MASK : Field := ⟨0x8700808, 0, 4, 0⟩
/-! STP_EVT (R452) -/
def STP_EVT_INVALID_WR : Field := ⟨0x870080c, 0, 1, 0⟩
def STP_EVT_FWD_DROP : Field := ⟨0x870080c, 1, 1, 0⟩
def STP_EVT_TC_UNMATCHED : Field := ⟨0x870080c, 2, 1, 0⟩
def STP_EVT_SV_DROP : Field := ⟨0x870080c, 3, 1, 0⟩
def STP_EVT_GOOSE_TAL : Field := ⟨0x870080c, 4, 1, 0⟩
def STP_EVT_RST_FAIL : Field := ⟨0x870080c, 5, 1, 0⟩
def STP_EVT_RST_REFUSED : Field := ⟨0x870080c, 6, 1, 0⟩
def STP_EVT_LOCK_VIOL : Field := ⟨0x870080c, 7, 1, 0⟩
/-! STP_LOCK (R452) -/
def STP_LOCK_LOCK : Field := ⟨0x8700810, 0, 1, 0⟩
/-! STP_CTL (R452) -/
def STP_CTL_CNT_CLR : Field := ⟨0x8700814, 0, 1, 0⟩
/-! STP_CNT_SVDROP (R452) -/
def STP_CNT_SVDROP_CNT : Field := ⟨0x8700820, 0, 32, 0⟩
/-! STP_CNT_OWNDROP (R452) -/
def STP_CNT_OWNDROP_CNT : Field := ⟨0x8700824, 0, 32, 0⟩
/-! STP_CNT_RSTFAIL (R452) -/
def STP_CNT_RSTFAIL_CNT : Field := ⟨0x8700828, 0, 32, 0⟩
/-! STP_CNT_TCUNM (R452) -/
def STP_CNT_TCUNM_CNT : Field := ⟨0x870082c, 0, 32, 0⟩
/-! STP_GOOSE_TAL (R452) -/
def STP_GOOSE_TAL_TAL (i : Nat) : Field := ⟨0x8700830 + 0x4 * i, 0, 32, 0⟩
/-! STP_SV_CFG (R453) -/
def STP_SV_CFG_EN (i : Nat) : Field := ⟨0x8701000 + 0x20 * i, 0, 1, 0⟩
def STP_SV_CFG_PORTS (i : Nat) : Field := ⟨0x8701000 + 0x20 * i, 1, 4, 0⟩
def STP_SV_CFG_NVAL_M1 (i : Nat) : Field := ⟨0x8701000 + 0x20 * i, 5, 4, 0⟩
def STP_SV_CFG_REC (i : Nat) : Field := ⟨0x8701000 + 0x20 * i, 9, 1, 0⟩
def STP_SV_CFG_APC (i : Nat) : Field := ⟨0x8701000 + 0x20 * i, 10, 1, 0⟩
def STP_SV_CFG_APPID (i : Nat) : Field := ⟨0x8701000 + 0x20 * i, 16, 16, 0⟩
/-! STP_SV_DMAC_LO (R453) -/
def STP_SV_DMAC_LO_DMAC (i : Nat) : Field := ⟨0x8701004 + 0x20 * i, 0, 32, 0⟩
/-! STP_SV_DMAC_HI (R453) -/
def STP_SV_DMAC_HI_DMAC (i : Nat) : Field := ⟨0x8701008 + 0x20 * i, 0, 16, 0⟩
/-! STP_SV_CNT_CFG (R453) -/
def STP_SV_CNT_CFG_SMPMAX (i : Nat) : Field := ⟨0x870100c + 0x20 * i, 0, 16, 3999⟩
def STP_SV_CNT_CFG_STALE_US (i : Nat) : Field := ⟨0x870100c + 0x20 * i, 16, 16, 500⟩
/-! STP_SV_SVID (R453) -/
def STP_SV_SVID_SVID_CRC (i : Nat) : Field := ⟨0x8701010 + 0x20 * i, 0, 32, 0⟩
/-! STP_SV_STAT (R453) -/
def STP_SV_STAT_SMPCNT (i : Nat) : Field := ⟨0x8701014 + 0x20 * i, 0, 16, 0⟩
def STP_SV_STAT_VALID (i : Nat) : Field := ⟨0x8701014 + 0x20 * i, 16, 1, 0⟩
def STP_SV_STAT_STALE (i : Nat) : Field := ⟨0x8701014 + 0x20 * i, 17, 1, 0⟩
/-! STP_SV_CNT_DUP (R453) -/
def STP_SV_CNT_DUP_CNT (i : Nat) : Field := ⟨0x8701018 + 0x20 * i, 0, 32, 0⟩
/-! STP_SV_CNT_FMT (R453) -/
def STP_SV_CNT_FMT_CNT (i : Nat) : Field := ⟨0x870101c + 0x20 * i, 0, 32, 0⟩
/-! STP_SVMAP (R454) -/
def STP_SVMAP_STREAM (i : Nat) : Field := ⟨0x8702000 + 0x4 * i, 0, 6, 0⟩
def STP_SVMAP_ITEM (i : Nat) : Field := ⟨0x8702000 + 0x4 * i, 6, 5, 0⟩
def STP_SVMAP_EN (i : Nat) : Field := ⟨0x8702000 + 0x4 * i, 31, 1, 0⟩
/-! STP_GF_CFG (R454) -/
def STP_GF_CFG_EN (i : Nat) : Field := ⟨0x8703000 + 0x10 * i, 0, 1, 0⟩
def STP_GF_CFG_PORTS (i : Nat) : Field := ⟨0x8703000 + 0x10 * i, 1, 4, 0⟩
def STP_GF_CFG_SIM (i : Nat) : Field := ⟨0x8703000 + 0x10 * i, 5, 1, 0⟩
def STP_GF_CFG_APPID (i : Nat) : Field := ⟨0x8703000 + 0x10 * i, 16, 16, 0⟩
/-! STP_GF_DMAC_LO (R454) -/
def STP_GF_DMAC_LO_DMAC (i : Nat) : Field := ⟨0x8703004 + 0x10 * i, 0, 32, 0⟩
/-! STP_GF_DMAC_HI (R454) -/
def STP_GF_DMAC_HI_DMAC (i : Nat) : Field := ⟨0x8703008 + 0x10 * i, 0, 16, 0⟩
/-! STP_GF_GOCB (R454) -/
def STP_GF_GOCB_GOCB_CRC (i : Nat) : Field := ⟨0x870300c + 0x10 * i, 0, 32, 0⟩
/-! TBS_TB_NS (R455) -/
def TBS_TB_NS_NS (i : Nat) : Field := ⟨0x8600000 + 0x100 * i, 0, 30, 0⟩
/-! TBS_TB_SEC_LO (R455) -/
def TBS_TB_SEC_LO_SEC (i : Nat) : Field := ⟨0x8600004 + 0x100 * i, 0, 32, 0⟩
/-! TBS_TB_SEC_HI (R455) -/
def TBS_TB_SEC_HI_SEC (i : Nat) : Field := ⟨0x8600008 + 0x100 * i, 0, 16, 0⟩
/-! TBS_TB_FRAC (R455) -/
def TBS_TB_FRAC_FRAC (i : Nat) : Field := ⟨0x860000c + 0x100 * i, 0, 32, 0⟩
/-! TBS_TB_INC_FRAC (R455) -/
def TBS_TB_INC_FRAC_INC_FRAC (i : Nat) : Field := ⟨0x8600010 + 0x100 * i, 0, 32, 1073741824⟩
/-! TBS_TB_INC_NS (R455) -/
def TBS_TB_INC_NS_INC_NS (i : Nat) : Field := ⟨0x8600014 + 0x100 * i, 0, 8, 1⟩
/-! TBS_TB_ADJ (R455) -/
def TBS_TB_ADJ_ADJ (i : Nat) : Field := ⟨0x8600018 + 0x100 * i, 0, 32, 0⟩
/-! TBS_TB_STAT (R455) -/
def TBS_TB_STAT_SYNC_LOCK (i : Nat) : Field := ⟨0x860001c + 0x100 * i, 0, 1, 0⟩
/-! TBS_TB_ERR (R455) -/
def TBS_TB_ERR_ERR (i : Nat) : Field := ⟨0x8600020 + 0x100 * i, 0, 32, 0⟩
/-! TBS_TB0_CTL (R456) -/
def TBS_TB0_CTL_SYNC_DECL : Field := ⟨0x8600800, 0, 1, 0⟩
def TBS_TB0_CTL_HOLD_MS : Field := ⟨0x8600800, 1, 16, 3000⟩
/-! TBS_TB0_SET_SEC_LO (R456) -/
def TBS_TB0_SET_SEC_LO_SEC : Field := ⟨0x8600804, 0, 32, 0⟩
/-! TBS_TB0_SET_SEC_HI (R456) -/
def TBS_TB0_SET_SEC_HI_SEC : Field := ⟨0x8600808, 0, 16, 0⟩
/-! TBS_TB0_SET_NS (R456) -/
def TBS_TB0_SET_NS_NS : Field := ⟨0x860080c, 0, 30, 0⟩
/-! TBS_CFG (R456) -/
def TBS_CFG_JUMP_MAX_NS : Field := ⟨0x8600810, 0, 16, 1000⟩
def TBS_CFG_SLEW_PPM : Field := ⟨0x8600810, 16, 8, 50⟩
/-! TBS_REF (R456) -/
def TBS_REF_SEL : Field := ⟨0x8600814, 0, 1, 0⟩
def TBS_REF_A_OK : Field := ⟨0x8600814, 1, 1, 1⟩
def TBS_REF_B_OK : Field := ⟨0x8600814, 2, 1, 1⟩
def TBS_REF_HOLDOVER : Field := ⟨0x8600814, 3, 1, 0⟩
def TBS_REF_REVERT : Field := ⟨0x8600814, 4, 1, 0⟩
/-! TBS_PPS (R456) -/
def TBS_PPS_SRC : Field := ⟨0x8600818, 0, 2, 0⟩
def TBS_PPS_WIDTH_US : Field := ⟨0x8600818, 2, 16, 100⟩
/-! TBS_PPS_TS0 (R456) -/
def TBS_PPS_TS0_TS : Field := ⟨0x860081c, 0, 32, 0⟩
/-! TBS_PPS_TS3 (R456) -/
def TBS_PPS_TS3_TS : Field := ⟨0x8600820, 0, 32, 0⟩
/-! TBS_PPS_CNT (R456) -/
def TBS_PPS_CNT_CNT : Field := ⟨0x8600824, 0, 32, 0⟩
/-! TBS_EVT (R456) -/
def TBS_EVT_JUMP_REFUSED : Field := ⟨0x8600828, 0, 1, 0⟩
def TBS_EVT_STEP_HELD : Field := ⟨0x8600828, 1, 1, 0⟩
def TBS_EVT_SYNC_LOST : Field := ⟨0x8600828, 2, 1, 0⟩
def TBS_EVT_REF_SWITCH : Field := ⟨0x8600828, 3, 1, 0⟩
def TBS_EVT_REF_BOTH : Field := ⟨0x8600828, 4, 1, 0⟩
def TBS_EVT_PPS_IGN : Field := ⟨0x8600828, 5, 1, 0⟩
def TBS_EVT_INVALID_WR : Field := ⟨0x8600828, 6, 1, 0⟩
/-! SAF_STAT (R481) -/
def SAF_STAT_PSET_OK : Field := ⟨0x8500000, 0, 1, 0⟩
def SAF_STAT_PSET_PEND : Field := ⟨0x8500000, 1, 1, 0⟩
def SAF_STAT_ISL_FAULT : Field := ⟨0x8500000, 2, 1, 0⟩
def SAF_STAT_ISL_HOLD : Field := ⟨0x8500000, 3, 1, 0⟩
def SAF_STAT_SO_ON : Field := ⟨0x8500000, 4, 4, 0⟩
def SAF_STAT_SO_LOCKOUT : Field := ⟨0x8500000, 8, 4, 0⟩
def SAF_STAT_FN_ENABLE : Field := ⟨0x8500000, 12, 8, 0⟩
def SAF_STAT_SRST_LOW : Field := ⟨0x8500000, 20, 1, 0⟩
/-! SAF_EVT (R481) -/
def SAF_EVT_PAIR_FAULT : Field := ⟨0x8500004, 0, 1, 0⟩
def SAF_EVT_SO_FAULT : Field := ⟨0x8500004, 1, 1, 0⟩
def SAF_EVT_LOCKSTEP : Field := ⟨0x8500004, 2, 1, 0⟩
def SAF_EVT_CROSS : Field := ⟨0x8500004, 3, 1, 0⟩
def SAF_EVT_CLOCK : Field := ⟨0x8500004, 4, 1, 0⟩
def SAF_EVT_VSAF : Field := ⟨0x8500004, 5, 1, 0⟩
def SAF_EVT_CONN_TMO : Field := ⟨0x8500004, 6, 1, 0⟩
def SAF_EVT_MSG_BAD : Field := ⟨0x8500004, 7, 1, 0⟩
def SAF_EVT_PSET_BAD : Field := ⟨0x8500004, 8, 1, 0⟩
def SAF_EVT_SRST_IGN : Field := ⟨0x8500004, 9, 1, 0⟩
def SAF_EVT_SRST_STUCK : Field := ⟨0x8500004, 10, 1, 0⟩
/-! SAF_PSET (R481) -/
def SAF_PSET_VER : Field := ⟨0x8500008, 0, 16, 0⟩
/-! SAF_PSET_CRC (R481) -/
def SAF_PSET_CRC_CRC : Field := ⟨0x850000c, 0, 32, 0⟩
/-! SAF_PEND_CRC (R481) -/
def SAF_PEND_CRC_CRC : Field := ⟨0x8500010, 0, 32, 0⟩
/-! SAF_CNT_SRSTIGN (R481) -/
def SAF_CNT_SRSTIGN_CNT : Field := ⟨0x8500014, 0, 32, 0⟩
/-! SAF_CNT_MSGBAD (R481) -/
def SAF_CNT_MSGBAD_CNT : Field := ⟨0x8500018, 0, 32, 0⟩
/-! SAF_CNT_ISLRST (R481) -/
def SAF_CNT_ISLRST_CNT : Field := ⟨0x850001c, 0, 32, 0⟩
/-! SAF_PAIR_STAT (R481) -/
def SAF_PAIR_STAT_A (i : Nat) : Field := ⟨0x8500040 + 0x4 * i, 0, 1, 0⟩
def SAF_PAIR_STAT_B (i : Nat) : Field := ⟨0x8500040 + 0x4 * i, 1, 1, 0⟩
def SAF_PAIR_STAT_OPERATE (i : Nat) : Field := ⟨0x8500040 + 0x4 * i, 2, 1, 0⟩
def SAF_PAIR_STAT_FAULT (i : Nat) : Field := ⟨0x8500040 + 0x4 * i, 3, 1, 0⟩
def SAF_PAIR_STAT_CAUSE (i : Nat) : Field := ⟨0x8500040 + 0x4 * i, 4, 2, 0⟩
/-! SAF_SO_STAT (R481) -/
def SAF_SO_STAT_ON (i : Nat) : Field := ⟨0x8500080 + 0x4 * i, 0, 1, 0⟩
def SAF_SO_STAT_LOCKOUT (i : Nat) : Field := ⟨0x8500080 + 0x4 * i, 1, 1, 0⟩
def SAF_SO_STAT_RBA (i : Nat) : Field := ⟨0x8500080 + 0x4 * i, 2, 1, 0⟩
def SAF_SO_STAT_RBB (i : Nat) : Field := ⟨0x8500080 + 0x4 * i, 3, 1, 0⟩
def SAF_SO_STAT_TEST (i : Nat) : Field := ⟨0x8500080 + 0x4 * i, 4, 2, 0⟩
def SAF_SO_STAT_FCAUSE (i : Nat) : Field := ⟨0x8500080 + 0x4 * i, 6, 2, 0⟩
/-! SAF_CONN_SEQ (R481) -/
def SAF_CONN_SEQ_SEQ (i : Nat) : Field := ⟨0x85000a0 + 0x8 * i, 0, 32, 0⟩
/-! SAF_CONN_STAT (R481) -/
def SAF_CONN_STAT_ALIVE (i : Nat) : Field := ⟨0x85000a4 + 0x8 * i, 0, 1, 0⟩
def SAF_CONN_STAT_TMO (i : Nat) : Field := ⟨0x85000a4 + 0x8 * i, 16, 16, 0⟩
/-! SAF_PAIR_CFG (R482) -/
def SAF_PAIR_CFG_EN (i : Nat) : Field := ⟨0x8500100 + 0x8 * i, 0, 1, 0⟩
def SAF_PAIR_CFG_ANTI (i : Nat) : Field := ⟨0x8500100 + 0x8 * i, 1, 1, 0⟩
def SAF_PAIR_CFG_FILT (i : Nat) : Field := ⟨0x8500100 + 0x8 * i, 2, 8, 0⟩
def SAF_PAIR_CFG_DISC_MS (i : Nat) : Field := ⟨0x8500100 + 0x8 * i, 10, 10, 0⟩
def SAF_PAIR_CFG_CHAT_N (i : Nat) : Field := ⟨0x8500100 + 0x8 * i, 20, 4, 0⟩
/-! SAF_PAIR_PLAUS (R482) -/
def SAF_PAIR_PLAUS_PLAUS_S (i : Nat) : Field := ⟨0x8500104 + 0x8 * i, 0, 16, 0⟩
/-! SAF_FN_CFG (R482) -/
def SAF_FN_CFG_EN (i : Nat) : Field := ⟨0x8500140 + 0x8 * i, 0, 1, 0⟩
def SAF_FN_CFG_TYPE (i : Nat) : Field := ⟨0x8500140 + 0x8 * i, 1, 3, 0⟩
def SAF_FN_CFG_PAIR_A (i : Nat) : Field := ⟨0x8500140 + 0x8 * i, 4, 4, 0⟩
def SAF_FN_CFG_PAIR_B (i : Nat) : Field := ⟨0x8500140 + 0x8 * i, 8, 4, 0⟩
def SAF_FN_CFG_REQ_PAIR (i : Nat) : Field := ⟨0x8500140 + 0x8 * i, 12, 4, 0⟩
def SAF_FN_CFG_LOCK_SO (i : Nat) : Field := ⟨0x8500140 + 0x8 * i, 16, 2, 0⟩
def SAF_FN_CFG_AUTO (i : Nat) : Field := ⟨0x8500140 + 0x8 * i, 18, 1, 0⟩
/-! SAF_FN_TIME (R482) -/
def SAF_FN_TIME_T_MS (i : Nat) : Field := ⟨0x8500144 + 0x8 * i, 0, 16, 0⟩
/-! SAF_SO_CFG (R482) -/
def SAF_SO_CFG_EN (i : Nat) : Field := ⟨0x8500180 + 0x8 * i, 0, 1, 0⟩
def SAF_SO_CFG_FN_MASK (i : Nat) : Field := ⟨0x8500180 + 0x8 * i, 1, 8, 0⟩
def SAF_SO_CFG_LOCK (i : Nat) : Field := ⟨0x8500180 + 0x8 * i, 9, 1, 0⟩
def SAF_SO_CFG_OPT_US (i : Nat) : Field := ⟨0x8500180 + 0x8 * i, 10, 8, 0⟩
def SAF_SO_CFG_RB_MS (i : Nat) : Field := ⟨0x8500180 + 0x8 * i, 18, 6, 0⟩
/-! SAF_CONN_ID (R482) -/
def SAF_CONN_ID_CONN_ID (i : Nat) : Field := ⟨0x85001a0 + 0x10 * i, 0, 32, 0⟩
/-! SAF_CONN_MAC_LO (R482) -/
def SAF_CONN_MAC_LO_MAC (i : Nat) : Field := ⟨0x85001a4 + 0x10 * i, 0, 32, 0⟩
/-! SAF_CONN_CFG (R482) -/
def SAF_CONN_CFG_MAC_HI (i : Nat) : Field := ⟨0x85001a8 + 0x10 * i, 0, 16, 0⟩
def SAF_CONN_CFG_PORTS (i : Nat) : Field := ⟨0x85001a8 + 0x10 * i, 16, 4, 0⟩
def SAF_CONN_CFG_DIR (i : Nat) : Field := ⟨0x85001a8 + 0x10 * i, 20, 1, 0⟩
def SAF_CONN_CFG_WD_MS (i : Nat) : Field := ⟨0x85001a8 + 0x10 * i, 21, 10, 0⟩
def SAF_CONN_CFG_EN (i : Nat) : Field := ⟨0x85001a8 + 0x10 * i, 31, 1, 0⟩
/-! SAF_CONN_SEED (R482) -/
def SAF_CONN_SEED_SEED (i : Nat) : Field := ⟨0x85001ac + 0x10 * i, 0, 32, 0⟩
/-! SCH_CFG (R504) -/
def SCH_CFG_PRE_PRI : Field := ⟨0x8f00000, 0, 4, 0⟩
def SCH_CFG_AFF_WAIT_US : Field := ⟨0x8f00000, 4, 12, 50⟩
def SCH_CFG_EN : Field := ⟨0x8f00000, 16, 1, 0⟩
/-! SCH_CTX_LO (R504) -/
def SCH_CTX_LO_ADDR : Field := ⟨0x8f00004, 0, 32, 0⟩
/-! SCH_CTX_HI (R504) -/
def SCH_CTX_HI_ADDR : Field := ⟨0x8f00008, 0, 8, 0⟩
/-! SCH_EVT (R504) -/
def SCH_EVT_INVALID_WR : Field := ⟨0x8f0000c, 0, 1, 0⟩
def SCH_EVT_BAD_OP : Field := ⟨0x8f0000c, 1, 1, 0⟩
def SCH_EVT_NOTE_SAT : Field := ⟨0x8f0000c, 2, 1, 0⟩
def SCH_EVT_REFUSED_IN_IRQ : Field := ⟨0x8f0000c, 3, 1, 0⟩
/-! SCH_CNT_SWITCH (R504) -/
def SCH_CNT_SWITCH_CNT : Field := ⟨0x8f00010, 0, 32, 0⟩
/-! SCH_CNT_STEAL (R504) -/
def SCH_CNT_STEAL_CNT : Field := ⟨0x8f00014, 0, 32, 0⟩
/-! SCH_CNT_PREEMPT (R504) -/
def SCH_CNT_PREEMPT_CNT : Field := ⟨0x8f00018, 0, 32, 0⟩
/-! SCH_CTL (R504) -/
def SCH_CTL_CNT_CLR : Field := ⟨0x8f0001c, 0, 1, 0⟩
/-! SCH_CORE (R504) -/
def SCH_CORE_RUN (i : Nat) : Field := ⟨0x8f00100 + 0x4 * i, 0, 12, 4072 + i⟩
def SCH_CORE_RUN_PRI (i : Nat) : Field := ⟨0x8f00100 + 0x4 * i, 12, 5, 0⟩
def SCH_CORE_SLOT (i : Nat) : Field := ⟨0x8f00100 + 0x4 * i, 17, 12, 0⟩
def SCH_CORE_SLOT_VALID (i : Nat) : Field := ⟨0x8f00100 + 0x4 * i, 29, 1, 0⟩
def SCH_CORE_SLOT_LOADED (i : Nat) : Field := ⟨0x8f00100 + 0x4 * i, 30, 1, 0⟩
def SCH_CORE_IDLE (i : Nat) : Field := ⟨0x8f00100 + 0x4 * i, 31, 1, 1⟩
/-! SCH_TASK_CFG (R505) -/
def SCH_TASK_CFG_PRI (i : Nat) : Field := ⟨0x8f10000 + 0x10 * i, 0, 5, 0⟩
def SCH_TASK_CFG_CONFIGURED (i : Nat) : Field := ⟨0x8f10000 + 0x10 * i, 5, 1, 0⟩
def SCH_TASK_CFG_STATE (i : Nat) : Field := ⟨0x8f10000 + 0x10 * i, 10, 3, 0⟩
def SCH_TASK_CFG_NOTE (i : Nat) : Field := ⟨0x8f10000 + 0x10 * i, 13, 8, 0⟩
def SCH_TASK_CFG_LAST (i : Nat) : Field := ⟨0x8f10000 + 0x10 * i, 21, 5, 31⟩
def SCH_TASK_CFG_SLOTTED (i : Nat) : Field := ⟨0x8f10000 + 0x10 * i, 26, 1, 0⟩
/-! SCH_TASK_AFF (R505) -/
def SCH_TASK_AFF_AFF (i : Nat) : Field := ⟨0x8f10004 + 0x10 * i, 0, 24, 16777215⟩
/-! SCH_TASK_CTL (R505) -/
def SCH_TASK_CTL_START (i : Nat) : Field := ⟨0x8f10008 + 0x10 * i, 0, 1, 0⟩
def SCH_TASK_CTL_STOP (i : Nat) : Field := ⟨0x8f10008 + 0x10 * i, 1, 1, 0⟩
/-! SCH_TASK_WAKE (R505) -/
def SCH_TASK_WAKE_TICK (i : Nat) : Field := ⟨0x8f1000c + 0x10 * i, 0, 32, 0⟩
/-! IRQ_STORM (R506) -/
def IRQ_STORM_STUCK_MS : Field := ⟨0x9000000, 0, 10, 100⟩
def IRQ_STORM_RATE_CAP : Field := ⟨0x9000000, 10, 16, 1000⟩
/-! IRQ_EVT (R506) -/
def IRQ_EVT_INVALID_WR : Field := ⟨0x9000004, 0, 1, 0⟩
def IRQ_EVT_EOI_MISMATCH : Field := ⟨0x9000004, 1, 1, 0⟩
def IRQ_EVT_STORM : Field := ⟨0x9000004, 2, 1, 0⟩
/-! IRQ_STORMED (R506) -/
def IRQ_STORMED_SRC (i : Nat) : Field := ⟨0x9000040 + 0x4 * i, 0, 32, 0⟩
/-! IRQ_CORE (R506) -/
def IRQ_CORE_DEPTH (i : Nat) : Field := ⟨0x9000100 + 0x4 * i, 0, 5, 0⟩
def IRQ_CORE_TOP_PRI (i : Nat) : Field := ⟨0x9000100 + 0x4 * i, 5, 4, 0⟩
def IRQ_CORE_TOP_SRC (i : Nat) : Field := ⟨0x9000100 + 0x4 * i, 9, 10, 0⟩
def IRQ_CORE_EXT (i : Nat) : Field := ⟨0x9000100 + 0x4 * i, 19, 1, 0⟩
/-! IRQ_SRC_CFG (R507) -/
def IRQ_SRC_CFG_PRI (i : Nat) : Field := ⟨0x9010000 + 0x20 * i, 0, 4, 0⟩
def IRQ_SRC_CFG_EN (i : Nat) : Field := ⟨0x9010000 + 0x20 * i, 4, 1, 0⟩
def IRQ_SRC_CFG_MODE (i : Nat) : Field := ⟨0x9010000 + 0x20 * i, 5, 2, 0⟩
def IRQ_SRC_CFG_POL (i : Nat) : Field := ⟨0x9010000 + 0x20 * i, 7, 1, 0⟩
def IRQ_SRC_CFG_FILT (i : Nat) : Field := ⟨0x9010000 + 0x20 * i, 8, 8, 1⟩
def IRQ_SRC_CFG_VEC_EN (i : Nat) : Field := ⟨0x9010000 + 0x20 * i, 16, 1, 0⟩
def IRQ_SRC_CFG_STORM_EN (i : Nat) : Field := ⟨0x9010000 + 0x20 * i, 17, 1, 1⟩
/-! IRQ_SRC_TGT (R507) -/
def IRQ_SRC_TGT_TGT (i : Nat) : Field := ⟨0x9010004 + 0x20 * i, 0, 28, 0⟩
/-! IRQ_SRC_VEC_LO (R507) -/
def IRQ_SRC_VEC_LO_ADDR (i : Nat) : Field := ⟨0x9010008 + 0x20 * i, 0, 32, 0⟩
/-! IRQ_SRC_VEC_HI (R507) -/
def IRQ_SRC_VEC_HI_ADDR (i : Nat) : Field := ⟨0x901000c + 0x20 * i, 0, 8, 0⟩
/-! IRQ_SRC_STAT (R507) -/
def IRQ_SRC_STAT_RAW (i : Nat) : Field := ⟨0x9010010 + 0x20 * i, 0, 1, 0⟩
def IRQ_SRC_STAT_PENDING (i : Nat) : Field := ⟨0x9010010 + 0x20 * i, 1, 1, 0⟩
def IRQ_SRC_STAT_ACTIVE (i : Nat) : Field := ⟨0x9010010 + 0x20 * i, 2, 1, 0⟩
def IRQ_SRC_STAT_CORE (i : Nat) : Field := ⟨0x9010010 + 0x20 * i, 3, 5, 0⟩
def IRQ_SRC_STAT_M_STUCK (i : Nat) : Field := ⟨0x9010010 + 0x20 * i, 8, 1, 0⟩
def IRQ_SRC_STAT_M_RATE (i : Nat) : Field := ⟨0x9010010 + 0x20 * i, 9, 1, 0⟩
def IRQ_SRC_STAT_LOST (i : Nat) : Field := ⟨0x9010010 + 0x20 * i, 16, 16, 0⟩
/-! IRQ_EQ_CFG (R508) -/
def IRQ_EQ_CFG_DEST (i : Nat) : Field := ⟨0x9080000 + 0x80 * i, 0, 2, if i < 32 then 1 else 2⟩
def IRQ_EQ_CFG_THRESH (i : Nat) : Field := ⟨0x9080000 + 0x80 * i, 2, 11, 8⟩
/-! IRQ_EQ_CTL (R508) -/
def IRQ_EQ_CTL_FLUSH (i : Nat) : Field := ⟨0x9080004 + 0x80 * i, 0, 1, 0⟩
def IRQ_EQ_CTL_CNT_CLR (i : Nat) : Field := ⟨0x9080004 + 0x80 * i, 1, 1, 0⟩
/-! IRQ_EQ_STAT (R508) -/
def IRQ_EQ_STAT_FILL (i : Nat) : Field := ⟨0x9080008 + 0x80 * i, 0, 12, 0⟩
def IRQ_EQ_STAT_OVR (i : Nat) : Field := ⟨0x9080008 + 0x80 * i, 12, 1, 0⟩
def IRQ_EQ_STAT_IN_ITEM (i : Nat) : Field := ⟨0x9080008 + 0x80 * i, 13, 1, 0⟩
def IRQ_EQ_STAT_LEFT (i : Nat) : Field := ⟨0x9080008 + 0x80 * i, 14, 4, 0⟩
def IRQ_EQ_STAT_ORPHANING (i : Nat) : Field := ⟨0x9080008 + 0x80 * i, 18, 1, 0⟩
/-! IRQ_EQ_POP (R508) -/
def IRQ_EQ_POP_VALID (i : Nat) : Field := ⟨0x908000c + 0x80 * i, 0, 6, 0⟩
def IRQ_EQ_POP_MORE (i : Nat) : Field := ⟨0x908000c + 0x80 * i, 6, 1, 0⟩
/-! IRQ_EQ_HOLD (R508) -/
def IRQ_EQ_HOLD_WORD (i : Nat) (j : Nat) : Field := ⟨0x9080010 + 0x80 * i + 0x4 * j, 0, 32, 0⟩
/-! IRQ_EQ_CNT_OVR (R508) -/
def IRQ_EQ_CNT_OVR_CNT (i : Nat) : Field := ⟨0x9080030 + 0x80 * i, 0, 32, 0⟩
/-! IRQ_EQ_CNT_ORPHAN (R508) -/
def IRQ_EQ_CNT_ORPHAN_CNT (i : Nat) : Field := ⟨0x9080034 + 0x80 * i, 0, 32, 0⟩
/-! IRQ_EQ_CNT_BAD (R508) -/
def IRQ_EQ_CNT_BAD_CNT (i : Nat) : Field := ⟨0x9080038 + 0x80 * i, 0, 32, 0⟩
/-! IRQ_EQ_CNT_NOFWD (R508) -/
def IRQ_EQ_CNT_NOFWD_CNT (i : Nat) : Field := ⟨0x908003c + 0x80 * i, 0, 32, 0⟩
/-! REC_D_CFG (R518) -/
def REC_D_CFG_ENABLE (i : Nat) : Field := ⟨0x8e00000 + 0x40 * i, 0, 1, 0⟩
def REC_D_CFG_NSEG_M1 (i : Nat) : Field := ⟨0x8e00000 + 0x40 * i, 1, 3, 0⟩
def REC_D_CFG_SRC (i : Nat) : Field := ⟨0x8e00000 + 0x40 * i, 4, 4, 0⟩
def REC_D_CFG_CELL_EVERY (i : Nat) : Field := ⟨0x8e00000 + 0x40 * i, 8, 8, 1⟩
/-! REC_D_REGION (R518) -/
def REC_D_REGION_BASE_MB (i : Nat) : Field := ⟨0x8e00004 + 0x40 * i, 0, 10, 0⟩
def REC_D_REGION_SIZE_MB (i : Nat) : Field := ⟨0x8e00004 + 0x40 * i, 10, 11, 1⟩
/-! REC_D_LEN (R518) -/
def REC_D_LEN_PRE_V (i : Nat) : Field := ⟨0x8e00008 + 0x40 * i, 0, 16, 0⟩
def REC_D_LEN_POST_V (i : Nat) : Field := ⟨0x8e00008 + 0x40 * i, 16, 16, 1⟩
/-! REC_D_GUAR (R518) -/
def REC_D_GUAR_BYTES (i : Nat) : Field := ⟨0x8e0000c + 0x40 * i, 0, 20, 0⟩
/-! REC_D_ADCSEL (R518) -/
def REC_D_ADCSEL_CH (i : Nat) : Field := ⟨0x8e00010 + 0x40 * i, 0, 28, 0⟩
/-! REC_D_SVSEL_LO (R518) -/
def REC_D_SVSEL_LO_SUB (i : Nat) : Field := ⟨0x8e00014 + 0x40 * i, 0, 32, 0⟩
/-! REC_D_SVSEL_HI (R518) -/
def REC_D_SVSEL_HI_SUB (i : Nat) : Field := ⟨0x8e00018 + 0x40 * i, 0, 32, 0⟩
/-! REC_D_ARMSEL_LO (R518) -/
def REC_D_ARMSEL_LO_ARM (i : Nat) : Field := ⟨0x8e0001c + 0x40 * i, 0, 32, 0⟩
/-! REC_D_ARMSEL_HI (R518) -/
def REC_D_ARMSEL_HI_ARM (i : Nat) : Field := ⟨0x8e00020 + 0x40 * i, 0, 16, 0⟩
/-! REC_D_TRIG (R518) -/
def REC_D_TRIG_SRC (i : Nat) : Field := ⟨0x8e00024 + 0x40 * i, 0, 5, 0⟩
def REC_D_TRIG_TRIG_CONV (i : Nat) : Field := ⟨0x8e00024 + 0x40 * i, 8, 8, 0⟩
def REC_D_TRIG_TBITS (i : Nat) : Field := ⟨0x8e00024 + 0x40 * i, 16, 16, 0⟩
/-! REC_D_TCMP (R518) -/
def REC_D_TCMP_CH (i : Nat) : Field := ⟨0x8e00028 + 0x40 * i, 0, 28, 0⟩
/-! REC_D_TCROSS (R518) -/
def REC_D_TCROSS_DEF (i : Nat) : Field := ⟨0x8e0002c + 0x40 * i, 0, 16, 0⟩
/-! REC_D_STAT (R518) -/
def REC_D_STAT_STATE (i : Nat) : Field := ⟨0x8e00030 + 0x40 * i, 0, 3, 0⟩
def REC_D_STAT_SEG (i : Nat) : Field := ⟨0x8e00030 + 0x40 * i, 3, 3, 0⟩
def REC_D_STAT_DONE (i : Nat) : Field := ⟨0x8e00030 + 0x40 * i, 6, 8, 0⟩
def REC_D_STAT_READING (i : Nat) : Field := ⟨0x8e00030 + 0x40 * i, 14, 8, 0⟩
/-! REC_D_CNT_GAP (R518) -/
def REC_D_CNT_GAP_CNT (i : Nat) : Field := ⟨0x8e00034 + 0x40 * i, 0, 32, 0⟩
/-! REC_D_PEAK (R518) -/
def REC_D_PEAK_BYTES (i : Nat) : Field := ⟨0x8e00038 + 0x40 * i, 0, 32, 0⟩
/-! REC_D_CNT_IGN (R518) -/
def REC_D_CNT_IGN_CNT (i : Nat) : Field := ⟨0x8e0003c + 0x40 * i, 0, 32, 0⟩
/-! REC_CTL (R519) -/
def REC_CTL_TRIG : Field := ⟨0x8e00800, 0, 16, 0⟩
def REC_CTL_CNT_CLR : Field := ⟨0x8e00800, 16, 1, 0⟩
/-! REC_EVT (R519) -/
def REC_EVT_INVALID_WR : Field := ⟨0x8e00804, 0, 1, 0⟩
def REC_EVT_NOFIT : Field := ⟨0x8e00804, 1, 1, 0⟩
def REC_EVT_DONE : Field := ⟨0x8e00804, 2, 1, 0⟩
def REC_EVT_GAP : Field := ⟨0x8e00804, 3, 1, 0⟩
def REC_EVT_FULL : Field := ⟨0x8e00804, 4, 1, 0⟩
/-! HKP_SVC_CFG (R539) -/
def HKP_SVC_CFG_CE_CORR_LIMIT : Field := ⟨0x8d00500, 0, 16, 64⟩
def HKP_SVC_CFG_AUTO_MIG : Field := ⟨0x8d00500, 16, 1, 1⟩
def HKP_SVC_CFG_TXF_FENCE : Field := ⟨0x8d00500, 17, 1, 1⟩
/-! HKP_SVC_EVT (R539) -/
def HKP_SVC_EVT_FENCE : Field := ⟨0x8d00504, 0, 1, 0⟩
def HKP_SVC_EVT_LIFT_REFUSED : Field := ⟨0x8d00504, 1, 1, 0⟩
def HKP_SVC_EVT_MIGRATE : Field := ⟨0x8d00504, 2, 1, 0⟩
def HKP_SVC_EVT_NO_SPARE_CE : Field := ⟨0x8d00504, 3, 1, 0⟩
def HKP_SVC_EVT_FAN_BLOCKED : Field := ⟨0x8d00504, 4, 1, 0⟩
def HKP_SVC_EVT_FAN_STALL : Field := ⟨0x8d00504, 5, 1, 0⟩
def HKP_SVC_EVT_CAD_STEP : Field := ⟨0x8d00504, 6, 1, 0⟩
def HKP_SVC_EVT_PERT_END : Field := ⟨0x8d00504, 7, 1, 0⟩
def HKP_SVC_EVT_DIE_X0 : Field := ⟨0x8d00504, 8, 1, 0⟩
def HKP_SVC_EVT_DIE_X1 : Field := ⟨0x8d00504, 9, 1, 0⟩
def HKP_SVC_EVT_LOG_WRAP : Field := ⟨0x8d00504, 10, 1, 0⟩
def HKP_SVC_EVT_INVALID_WR : Field := ⟨0x8d00504, 11, 1, 0⟩
/-! HKP_LIFT (R539) -/
def HKP_LIFT_KIND : Field := ⟨0x8d00508, 0, 2, 0⟩
def HKP_LIFT_INDEX : Field := ⟨0x8d00508, 2, 7, 0⟩
def HKP_LIFT_GO : Field := ⟨0x8d00508, 9, 1, 0⟩
/-! HKP_FENCE_SPK (R539) -/
def HKP_FENCE_SPK_SPOKES (i : Nat) : Field := ⟨0x8d00510 + 0x4 * i, 0, 32, 0⟩
/-! HKP_FENCE_CE (R539) -/
def HKP_FENCE_CE_ENGINES : Field := ⟨0x8d00520, 0, 32, 0⟩
/-! HKP_FENCE_APC (R539) -/
def HKP_FENCE_APC_CORES : Field := ⟨0x8d00524, 0, 24, 0⟩
/-! HKP_LOG_SEQ_LO (R539) -/
def HKP_LOG_SEQ_LO_SEQ : Field := ⟨0x8d00530, 0, 32, 0⟩
/-! HKP_LOG_SEQ_HI (R539) -/
def HKP_LOG_SEQ_HI_SEQ : Field := ⟨0x8d00534, 0, 32, 0⟩
/-! HKP_CAD_STAT (R540) -/
def HKP_CAD_STAT_K : Field := ⟨0x8d00200, 0, 10, 420⟩
def HKP_CAD_STAT_KMIN : Field := ⟨0x8d00200, 10, 10, 1023⟩
def HKP_CAD_STAT_SLOWEST : Field := ⟨0x8d00200, 20, 4, 0⟩
def HKP_CAD_STAT_STEP : Field := ⟨0x8d00200, 24, 3, 0⟩
/-! HKP_CAD_CFG (R540) -/
def HKP_CAD_CFG_K_RAIL : Field := ⟨0x8d00204, 0, 9, 300⟩
def HKP_CAD_CFG_K_SHED : Field := ⟨0x8d00204, 9, 9, 280⟩
def HKP_CAD_CFG_K_YIELD : Field := ⟨0x8d00204, 18, 9, 264⟩
def HKP_CAD_CFG_HYST : Field := ⟨0x8d00204, 27, 5, 8⟩
/-! HKP_CAD_CFG2 (R540) -/
def HKP_CAD_CFG2_K_LOWER : Field := ⟨0x8d00208, 0, 10, 360⟩
/-! HKP_CAD_CTL (R540) -/
def HKP_CAD_CTL_KMIN_CLR : Field := ⟨0x8d0020c, 0, 1, 0⟩
/-! HKP_CAD_S (R540) -/
def HKP_CAD_S_K (i : Nat) : Field := ⟨0x8d00210 + 0x4 * i, 0, 10, 420⟩
/-! HKP_FAN_CURVE (R541) -/
def HKP_FAN_CURVE_T_LO : Field := ⟨0x8d00300, 0, 8, 50⟩
def HKP_FAN_CURVE_T_HI : Field := ⟨0x8d00300, 8, 8, 95⟩
def HKP_FAN_CURVE_MIN_PCT : Field := ⟨0x8d00300, 16, 7, 30⟩
/-! HKP_FAN_GSTAT (R541) -/
def HKP_FAN_GSTAT_BOOST : Field := ⟨0x8d00304, 0, 1, 0⟩
/-! HKP_FAN_CFG (R541) -/
def HKP_FAN_CFG_EN (i : Nat) : Field := ⟨0x8d00310 + 0x10 * i, 0, 1, 1⟩
def HKP_FAN_CFG_AUTO (i : Nat) : Field := ⟨0x8d00310 + 0x10 * i, 1, 1, 1⟩
def HKP_FAN_CFG_DUTY (i : Nat) : Field := ⟨0x8d00310 + 0x10 * i, 2, 7, 100⟩
def HKP_FAN_CFG_PPR_M1 (i : Nat) : Field := ⟨0x8d00310 + 0x10 * i, 9, 2, 1⟩
/-! HKP_FAN_STAT (R541) -/
def HKP_FAN_STAT_RPM (i : Nat) : Field := ⟨0x8d00314 + 0x10 * i, 0, 16, 0⟩
def HKP_FAN_STAT_STATE (i : Nat) : Field := ⟨0x8d00314 + 0x10 * i, 16, 3, 0⟩
def HKP_FAN_STAT_RETRIES (i : Nat) : Field := ⟨0x8d00314 + 0x10 * i, 19, 2, 0⟩
def HKP_FAN_STAT_STALL (i : Nat) : Field := ⟨0x8d00314 + 0x10 * i, 21, 1, 0⟩
def HKP_FAN_STAT_DUTY_OUT (i : Nat) : Field := ⟨0x8d00314 + 0x10 * i, 22, 7, 0⟩
/-! HKP_FAN_CTL (R541) -/
def HKP_FAN_CTL_CLR (i : Nat) : Field := ⟨0x8d00318 + 0x10 * i, 0, 1, 0⟩
/-! HKP_PERT_CTL (R542) -/
def HKP_PERT_CTL_ON : Field := ⟨0x8d00400, 0, 7, 0⟩
/-! HKP_PERT_STRETCH (R542) -/
def HKP_PERT_STRETCH_PCT : Field := ⟨0x8d00404, 0, 7, 1⟩
/-! HKP_PERT_BP (R542) -/
def HKP_PERT_BP_PCT : Field := ⟨0x8d00408, 0, 7, 1⟩
/-! HKP_PERT_SLOT (R542) -/
def HKP_PERT_SLOT_SPOKE : Field := ⟨0x8d0040c, 0, 7, 0⟩
def HKP_PERT_SLOT_SLOT : Field := ⟨0x8d0040c, 7, 7, 0⟩
def HKP_PERT_SLOT_DELAY_UI : Field := ⟨0x8d0040c, 16, 16, 0⟩
/-! HKP_PERT_DROP (R542) -/
def HKP_PERT_DROP_SPOKE : Field := ⟨0x8d00410, 0, 7, 0⟩
def HKP_PERT_DROP_SLOT : Field := ⟨0x8d00410, 7, 7, 0⟩
def HKP_PERT_DROP_EVERY : Field := ⟨0x8d00410, 16, 16, 1⟩
/-! HKP_PERT_CRC (R542) -/
def HKP_PERT_CRC_SPOKE : Field := ⟨0x8d00414, 0, 7, 0⟩
def HKP_PERT_CRC_DIR : Field := ⟨0x8d00414, 7, 1, 0⟩
def HKP_PERT_CRC_EVERY : Field := ⟨0x8d00414, 16, 16, 1⟩
/-! HKP_PERT_STALL (R542) -/
def HKP_PERT_STALL_ENGINE : Field := ⟨0x8d00418, 0, 5, 0⟩
def HKP_PERT_STALL_UNITS : Field := ⟨0x8d00418, 16, 16, 1⟩
/-! HKP_PERT_CADEMU (R542) -/
def HKP_PERT_CADEMU_EMU : Field := ⟨0x8d0041c, 0, 8, 0⟩
/-! RST_FW_STAT (R555) -/
def RST_FW_STAT_FLASH : Field := ⟨0x8c00040, 0, 1, 0⟩
def RST_FW_STAT_SLOT : Field := ⟨0x8c00040, 1, 1, 0⟩
def RST_FW_STAT_TRIAL : Field := ⟨0x8c00040, 2, 1, 0⟩
def RST_FW_STAT_STAGED : Field := ⟨0x8c00040, 3, 1, 0⟩
def RST_FW_STAT_SET_RESET : Field := ⟨0x8c00040, 4, 1, 0⟩
def RST_FW_STAT_FALLBACK : Field := ⟨0x8c00040, 5, 1, 0⟩
def RST_FW_STAT_ATTEMPTS : Field := ⟨0x8c00040, 6, 2, 0⟩
def RST_FW_STAT_DEFER : Field := ⟨0x8c00040, 8, 1, 0⟩
def RST_FW_STAT_MIRROR_FAIL : Field := ⟨0x8c00040, 9, 1, 0⟩
def RST_FW_STAT_ENC : Field := ⟨0x8c00040, 10, 1, 0⟩
/-! RST_FW_VER (R555) -/
def RST_FW_VER_VERSION : Field := ⟨0x8c00044, 0, 32, 0⟩
/-! RST_FW_INFO (R555) -/
def RST_FW_INFO_SETFMT : Field := ⟨0x8c00048, 0, 16, 0⟩
def RST_FW_INFO_TVER_LO : Field := ⟨0x8c00048, 16, 3, 0⟩
def RST_FW_INFO_TVER_HI : Field := ⟨0x8c00048, 19, 3, 0⟩
def RST_FW_INFO_FMT : Field := ⟨0x8c00048, 22, 4, 0⟩
/-! RST_FW_RB (R555) -/
def RST_FW_RB_ROLLBACK : Field := ⟨0x8c0004c, 0, 8, 0⟩
def RST_FW_RB_FUSED : Field := ⟨0x8c0004c, 8, 8, 0⟩
/-! RST_FW_CFG (R555) -/
def RST_FW_CFG_HEALTH_S : Field := ⟨0x8c00050, 0, 16, 600⟩
def RST_FW_CFG_MIRROR : Field := ⟨0x8c00050, 16, 1, 1⟩
def RST_FW_CFG_AUTO_CONFIRM : Field := ⟨0x8c00050, 17, 1, 1⟩
def RST_FW_CFG_TRIAL_STARTS : Field := ⟨0x8c00050, 18, 2, 2⟩
/-! RST_FW_CTL (R555) -/
def RST_FW_CTL_CONFIRM : Field := ⟨0x8c00054, 0, 1, 0⟩
def RST_FW_CTL_REJECT : Field := ⟨0x8c00054, 1, 1, 0⟩
def RST_FW_CTL_SAVE : Field := ⟨0x8c00054, 2, 1, 0⟩
def RST_FW_CTL_CLR_STAGE : Field := ⟨0x8c00054, 3, 1, 0⟩
/-! RST_FW_HEALTH (R555) -/
def RST_FW_HEALTH_REMAIN : Field := ⟨0x8c00058, 0, 16, 0⟩
/-! SPK_CNT_LOCK (R114) -/
def SPK_CNT_LOCK_CNT (i : Nat) : Field := ⟨0x8000010 + 0x100 * i, 0, 32, 0⟩
/-! SPK_CNT_NOLOCK (R114) -/
def SPK_CNT_NOLOCK_CNT (i : Nat) : Field := ⟨0x8000014 + 0x100 * i, 0, 32, 0⟩
/-! SPK_CNT_CRC (R114) -/
def SPK_CNT_CRC_CNT (i : Nat) : Field := ⟨0x8000018 + 0x100 * i, 0, 32, 0⟩
/-! SPK_CNT_PLACE (R114) -/
def SPK_CNT_PLACE_CNT (i : Nat) : Field := ⟨0x800001c + 0x100 * i, 0, 32, 0⟩
/-! VLY_CNT_STALE (R157) -/
def VLY_CNT_STALE_CNT : Field := ⟨0x8100038, 0, 32, 0⟩
/-! VLY_CNT_EPOCH (R157) -/
def VLY_CNT_EPOCH_CNT : Field := ⟨0x810003c, 0, 32, 0⟩
/-! VLY_CNT_MISPLACED (R157) -/
def VLY_CNT_MISPLACED_CNT : Field := ⟨0x8100040, 0, 32, 0⟩
/-! VLY_ARMCNT_CLAMP (R183) -/
def VLY_ARMCNT_CLAMP_CNT (i : Nat) : Field := ⟨0x8102010 + 0x20 * i, 0, 32, 0⟩
/-! VLY_ARMCNT_EDGE (R183) -/
def VLY_ARMCNT_EDGE_CNT (i : Nat) : Field := ⟨0x8102014 + 0x20 * i, 0, 32, 0⟩
/-! VLY_ARMCNT_HELD (R183) -/
def VLY_ARMCNT_HELD_CNT (i : Nat) : Field := ⟨0x8102018 + 0x20 * i, 0, 32, 0⟩
/-! SEC_CAP (R407) -/
def SEC_CAP_WORD (i : Nat) (j : Nat) : Field := ⟨0x8901000 + 0x40 * i + 0x4 * j, 0, 32, 0⟩
/-! SEC_AUTH (R407) -/
def SEC_AUTH_WORD (i : Nat) (j : Nat) : Field := ⟨0x8905000 + 0x40 * i + 0x4 * j, 0, 32, 0⟩

end Sys2Proof.Machine.Fld
end

