-- ==== Sys2Proof/Machine/RegTable.lean ====
section
/-! DEFINITION. The register table: for every set-up register its address range and, field by field, the
access code (R8) and the values the manual defines (others are refused, R9). `REGISTER_WRITE` and register
reads are judged by this one table. -/

namespace Sys2Proof.Machine

/-- Registers of block SPK, part 0. -/
def regsSPK0 : List RegDef := [
  -- SPK_CFG (R110)
  ⟨0x8000000, [(128, 0x100)], [
    ⟨.rw, 0, 1, fun i _ => Fld.SPK_CFG_ENABLE i⟩,
    ⟨.rw, 0, 4, fun i _ => Fld.SPK_CFG_GEAR_MAX i⟩,
    ⟨.rw, 0, 1, fun i _ => Fld.SPK_CFG_CTLE_AUTO i⟩,
    ⟨.rw, 0, 15, fun i _ => Fld.SPK_CFG_CTLE_STEP i⟩,
    ⟨.rw, 0, 96, fun i _ => Fld.SPK_CFG_EXPECT i⟩,
    ⟨.rw, 0, 255, fun i _ => Fld.SPK_CFG_PROBE_S i⟩,
    ⟨.rw, 0, 1, fun i _ => Fld.SPK_CFG_AUTO_UP i⟩]⟩,
  -- SPK_CTL (R111)
  ⟨0x8000004, [(128, 0x100)], [
    ⟨.rw, 0, 1, fun i _ => Fld.SPK_CTL_FENCE i⟩,
    ⟨.w1s, 0, 1, fun i _ => Fld.SPK_CTL_RESTEP i⟩,
    ⟨.w1s, 0, 1, fun i _ => Fld.SPK_CTL_CLR_CAP i⟩,
    ⟨.w1s, 0, 1, fun i _ => Fld.SPK_CTL_CNT_CLR i⟩]⟩,
  -- SPK_STAT (R112)
  ⟨0x8000008, [(128, 0x100)], [
    ⟨.ro, 0, 7, fun i _ => Fld.SPK_STAT_GEAR i⟩,
    ⟨.ro, 0, 7, fun i _ => Fld.SPK_STAT_GEAR_CAP i⟩,
    ⟨.ro, 0, 1, fun i _ => Fld.SPK_STAT_TX_AWAKE i⟩,
    ⟨.ro, 0, 1, fun i _ => Fld.SPK_STAT_RX_AWAKE i⟩,
    ⟨.ro, 0, 1, fun i _ => Fld.SPK_STAT_FENCED i⟩,
    ⟨.ro, 0, 1, fun i _ => Fld.SPK_STAT_FENCE_MOD i⟩,
    ⟨.ro, 0, 1, fun i _ => Fld.SPK_STAT_TRIAL i⟩,
    ⟨.ro, 0, 1, fun i _ => Fld.SPK_STAT_SWEEP i⟩,
    ⟨.ro, 0, 15, fun i _ => Fld.SPK_STAT_CTLE_USED i⟩,
    ⟨.ro, 0, 127, fun i _ => Fld.SPK_STAT_ADMITTED i⟩,
    ⟨.ro, 0, 7, fun i _ => Fld.SPK_STAT_RIDER_GEAR i⟩]⟩,
  -- SPK_EVT (R113)
  ⟨0x800000c, [(128, 0x100)], [
    ⟨.w1c, 0, 1, fun i _ => Fld.SPK_EVT_LOS i⟩,
    ⟨.w1c, 0, 1, fun i _ => Fld.SPK_EVT_EXCESS i⟩,
    ⟨.w1c, 0, 1, fun i _ => Fld.SPK_EVT_SHORT i⟩,
    ⟨.w1c, 0, 1, fun i _ => Fld.SPK_EVT_TRIAL_FAIL i⟩,
    ⟨.w1c, 0, 1, fun i _ => Fld.SPK_EVT_GEAR_UP i⟩,
    ⟨.w1c, 0, 1, fun i _ => Fld.SPK_EVT_GEAR_DOWN i⟩,
    ⟨.w1c, 0, 1, fun i _ => Fld.SPK_EVT_REFUSED i⟩,
    ⟨.w1c, 0, 1, fun i _ => Fld.SPK_EVT_XCVR_FAULT i⟩,
    ⟨.w1c, 0, 1, fun i _ => Fld.SPK_EVT_MS_FAIL i⟩,
    ⟨.w1c, 0, 1, fun i _ => Fld.SPK_EVT_CTLE_EDGE i⟩]⟩,
  -- SPK_EYE (R115)
  ⟨0x8000020, [(128, 0x100)], [
    ⟨.ro, 0, 255, fun i _ => Fld.SPK_EYE_EYE_H i⟩,
    ⟨.ro, 0, 255, fun i _ => Fld.SPK_EYE_EYE_V i⟩,
    ⟨.ro, 0, 15, fun i _ => Fld.SPK_EYE_BEST i⟩]⟩,
  -- SPK_TEST (R116)
  ⟨0x8000024, [(128, 0x100)], [
    ⟨.rw, 0, 7, fun i _ => Fld.SPK_TEST_MODE i⟩,
    ⟨.rw, 0, 1, fun i _ => Fld.SPK_TEST_LIGHT i⟩]⟩,
  -- SPK_PRBS_ERR (R116)
  ⟨0x8000028, [(128, 0x100)], [
    ⟨.ro, 0, 2147483647, fun i _ => Fld.SPK_PRBS_ERR_ERR i⟩,
    ⟨.ro, 0, 1, fun i _ => Fld.SPK_PRBS_ERR_PRBS_LOCK i⟩]⟩,
  -- SPK_XCVR_A (R117)
  ⟨0x8000030, [(128, 0x100)], [
    ⟨.ro, 0, 65535, fun i _ => Fld.SPK_XCVR_A_RX_PWR i⟩,
    ⟨.ro, 0, 65535, fun i _ => Fld.SPK_XCVR_A_TX_PWR i⟩]⟩,
  -- SPK_XCVR_B (R117)
  ⟨0x8000034, [(128, 0x100)], [
    ⟨.ro, 0, 65535, fun i _ => Fld.SPK_XCVR_B_TEMP i⟩,
    ⟨.ro, 0, 1, fun i _ => Fld.SPK_XCVR_B_TX_FAULT i⟩,
    ⟨.ro, 0, 1, fun i _ => Fld.SPK_XCVR_B_RX_LOS i⟩,
    ⟨.ro, 0, 1, fun i _ => Fld.SPK_XCVR_B_VALID i⟩]⟩,
  -- SPK_GCFG (R118)
  ⟨0x8080000, [], [
    ⟨.rw, 0, 1, fun _ _ => Fld.SPK_GCFG_MS_EN⟩,
    ⟨.rw, 0, 1, fun _ _ => Fld.SPK_GCFG_MS_FAST⟩,
    ⟨.rw, 1, 255, fun _ _ => Fld.SPK_GCFG_MS_PERIOD_S⟩]⟩,
  -- SPK_GSTAT (R118)
  ⟨0x8080004, [], [
    ⟨.w1c, 0, 1, fun _ _ => Fld.SPK_GSTAT_INVALID_WR⟩]⟩,
  -- SPK_CNT_LOCK (R114)
  ⟨0x8000010, [(128, 0x100)], [
    ⟨.ro, 0, 4294967295, fun i _ => Fld.SPK_CNT_LOCK_CNT i⟩]⟩]

/-- Registers of block SPK, part 1. -/
def regsSPK1 : List RegDef := [
  -- SPK_CNT_NOLOCK (R114)
  ⟨0x8000014, [(128, 0x100)], [
    ⟨.ro, 0, 4294967295, fun i _ => Fld.SPK_CNT_NOLOCK_CNT i⟩]⟩,
  -- SPK_CNT_CRC (R114)
  ⟨0x8000018, [(128, 0x100)], [
    ⟨.ro, 0, 4294967295, fun i _ => Fld.SPK_CNT_CRC_CNT i⟩]⟩,
  -- SPK_CNT_PLACE (R114)
  ⟨0x800001c, [(128, 0x100)], [
    ⟨.ro, 0, 4294967295, fun i _ => Fld.SPK_CNT_PLACE_CNT i⟩]⟩]

/-- Registers of block VLY, part 0. -/
def regsVLY0 : List RegDef := [
  -- VLY_PERIOD (R152)
  ⟨0x8100000, [], [
    ⟨.rw, 250, 10000, fun _ _ => Fld.VLY_PERIOD_P_10NS⟩]⟩,
  -- VLY_STROBE (R152)
  ⟨0x8100004, [], [
    ⟨.rw, 0, 131071, fun _ _ => Fld.VLY_STROBE_S⟩]⟩,
  -- VLY_RWIN (R152)
  ⟨0x8100008, [], [
    ⟨.rw, 0, 131071, fun _ _ => Fld.VLY_RWIN_W⟩]⟩,
  -- VLY_CWIN (R152)
  ⟨0x810000c, [], [
    ⟨.rw, 0, 131071, fun _ _ => Fld.VLY_CWIN_C⟩]⟩,
  -- VLY_ASM (R152)
  ⟨0x8100010, [], [
    ⟨.rw, 0, 131071, fun _ _ => Fld.VLY_ASM_A⟩]⟩,
  -- VLY_CFG (R153)
  ⟨0x8100014, [], [
    ⟨.rw, 0, 7, fun _ _ => Fld.VLY_CFG_FW⟩,
    ⟨.rw, 0, 1, fun _ _ => Fld.VLY_CFG_AUTO_RESUME⟩,
    ⟨.rw, 0, 8, fun _ _ => Fld.VLY_CFG_TAIL_MAX⟩,
    ⟨.rw, 1, 255, fun _ _ => Fld.VLY_CFG_MISS_LIMIT⟩,
    ⟨.rw, 8, 255, fun _ _ => Fld.VLY_CFG_WR_TMO⟩,
    ⟨.rw, 1, 7, fun _ _ => Fld.VLY_CFG_VER_ALLOW⟩]⟩,
  -- VLY_LOL (R154)
  ⟨0x8100018, [], [
    ⟨.rw, 0, 255, fun _ _ => Fld.VLY_LOL_LOL⟩]⟩,
  -- VLY_DLIM (R154)
  ⟨0x810001c, [], [
    ⟨.rw, 1, 4000, fun _ _ => Fld.VLY_DLIM_DLIM_10NS⟩]⟩,
  -- VLY_DISC (R154)
  ⟨0x8100020, [], [
    ⟨.rw, 1, 1024, fun _ _ => Fld.VLY_DISC_R⟩,
    ⟨.rw, 1, 4095, fun _ _ => Fld.VLY_DISC_EVERY⟩,
    ⟨.rw, 0, 1, fun _ _ => Fld.VLY_DISC_EN⟩]⟩,
  -- VLY_NOW (R155)
  ⟨0x8100024, [], [
    ⟨.ro, 0, 4294967295, fun _ _ => Fld.VLY_NOW_VOLLEY⟩]⟩,
  -- VLY_NOW2 (R155)
  ⟨0x8100028, [], [
    ⟨.ro, 0, 255, fun _ _ => Fld.VLY_NOW2_SID_NOW⟩,
    ⟨.ro, 0, 65535, fun _ _ => Fld.VLY_NOW2_EPOCH⟩]⟩,
  -- VLY_STAT (R155)
  ⟨0x810002c, [], [
    ⟨.w1c, 0, 1, fun _ _ => Fld.VLY_STAT_NOFIT⟩,
    ⟨.w1c, 0, 1, fun _ _ => Fld.VLY_STAT_INVALID_WR⟩,
    ⟨.ro, 0, 131071, fun _ _ => Fld.VLY_STAT_SLACK⟩]⟩]

/-- Registers of block VLY, part 1. -/
def regsVLY1 : List RegDef := [
  -- VLY_DMAX (R155)
  ⟨0x8100030, [], [
    ⟨.ro, 0, 65535, fun _ _ => Fld.VLY_DMAX_DMAX⟩,
    ⟨.ro, 0, 16383, fun _ _ => Fld.VLY_DMAX_CELLS⟩]⟩,
  -- VLY_EVT (R156)
  ⟨0x8100034, [], [
    ⟨.w1c, 0, 1, fun _ _ => Fld.VLY_EVT_DISC_COLL⟩,
    ⟨.w1c, 0, 1, fun _ _ => Fld.VLY_EVT_REFUSE_SENT⟩,
    ⟨.w1c, 0, 1, fun _ _ => Fld.VLY_EVT_DROP_EXC⟩,
    ⟨.w1c, 0, 1, fun _ _ => Fld.VLY_EVT_TAIL⟩,
    ⟨.w1c, 0, 1, fun _ _ => Fld.VLY_EVT_LOST⟩,
    ⟨.w1c, 0, 1, fun _ _ => Fld.VLY_EVT_WR_FAIL⟩,
    ⟨.w1c, 0, 1, fun _ _ => Fld.VLY_EVT_SILENCED⟩,
    ⟨.w1c, 0, 1, fun _ _ => Fld.VLY_EVT_EPOCH_MISMATCH⟩]⟩,
  -- VLY_BIND_LO (R158)
  ⟨0x8110000, [(128, 0x400), (96, 0x8)], [
    ⟨.rw, 0, 4294967295, fun i j => Fld.VLY_BIND_LO_UID_LO i j⟩]⟩,
  -- VLY_BIND_HI (R158)
  ⟨0x8110004, [(128, 0x400), (96, 0x8)], [
    ⟨.rw, 0, 65535, fun i j => Fld.VLY_BIND_HI_UID_HI i j⟩,
    ⟨.rw, 0, 1, fun i j => Fld.VLY_BIND_HI_VALID i j⟩]⟩,
  -- VLY_ARMCFG (R179)
  ⟨0x8102000, [(48, 0x20)], [
    ⟨.rw, 0, 1, fun i _ => Fld.VLY_ARMCFG_ENABLE i⟩,
    ⟨.rw, 0, 8, fun i _ => Fld.VLY_ARMCFG_QS i⟩,
    ⟨.rw, 0, 63, fun i _ => Fld.VLY_ARMCFG_HBC i⟩,
    ⟨.rw, 1, 767, fun i _ => Fld.VLY_ARMCFG_ROT_STEP i⟩]⟩,
  -- VLY_ARMBUD (R180)
  ⟨0x8102004, [(48, 0x20)], [
    ⟨.rw, 0, 65535, fun i _ => Fld.VLY_ARMBUD_BUDGET i⟩,
    ⟨.rw, 10, 16, fun i _ => Fld.VLY_ARMBUD_WIN_LOG2 i⟩]⟩,
  -- VLY_ARMSTAT (R181)
  ⟨0x8102008, [(48, 0x20)], [
    ⟨.ro, 0, 1023, fun i _ => Fld.VLY_ARMSTAT_MEMBERS i⟩,
    ⟨.ro, 0, 1023, fun i _ => Fld.VLY_ARMSTAT_RULE i⟩,
    ⟨.ro, 0, 1023, fun i _ => Fld.VLY_ARMSTAT_FIXED i⟩,
    ⟨.ro, 0, 1, fun i _ => Fld.VLY_ARMSTAT_V1_PIN i⟩,
    ⟨.ro, 0, 1, fun i _ => Fld.VLY_ARMSTAT_LSB_MIX i⟩]⟩,
  -- VLY_ARM_EVT (R182)
  ⟨0x810200c, [(48, 0x20)], [
    ⟨.w1c, 0, 1, fun i _ => Fld.VLY_ARM_EVT_CLAMP i⟩,
    ⟨.w1c, 0, 1, fun i _ => Fld.VLY_ARM_EVT_LATE i⟩,
    ⟨.w1c, 0, 1, fun i _ => Fld.VLY_ARM_EVT_MERGED i⟩,
    ⟨.w1c, 0, 1, fun i _ => Fld.VLY_ARM_EVT_MOVED i⟩,
    ⟨.w1c, 0, 1, fun i _ => Fld.VLY_ARM_EVT_BUDGET_BREAK i⟩,
    ⟨.w1c, 0, 1, fun i _ => Fld.VLY_ARM_EVT_LSB_MIX i⟩]⟩,
  -- VLY_ARMMAP (R184)
  ⟨0x8140000, [(128, 0x200), (96, 0x4)], [
    ⟨.rw, 0, 47, fun i j => Fld.VLY_ARMMAP_ARM i j⟩,
    ⟨.rw, 0, 1, fun i j => Fld.VLY_ARMMAP_FB i j⟩,
    ⟨.ro, 0, 1023, fun i j => Fld.VLY_ARMMAP_MEMBER i j⟩,
    ⟨.ro, 0, 1, fun i j => Fld.VLY_ARMMAP_BIND_DONE i j⟩,
    ⟨.rw, 0, 1, fun i j => Fld.VLY_ARMMAP_VALID i j⟩]⟩,
  -- VLY_CNT_STALE (R157)
  ⟨0x8100038, [], [
    ⟨.ro, 0, 4294967295, fun _ _ => Fld.VLY_CNT_STALE_CNT⟩]⟩,
  -- VLY_CNT_EPOCH (R157)
  ⟨0x810003c, [], [
    ⟨.ro, 0, 4294967295, fun _ _ => Fld.VLY_CNT_EPOCH_CNT⟩]⟩,
  -- VLY_CNT_MISPLACED (R157)
  ⟨0x8100040, [], [
    ⟨.ro, 0, 4294967295, fun _ _ => Fld.VLY_CNT_MISPLACED_CNT⟩]⟩]

/-- Registers of block VLY, part 2. -/
def regsVLY2 : List RegDef := [
  -- VLY_ARMCNT_CLAMP (R183)
  ⟨0x8102010, [(48, 0x20)], [
    ⟨.ro, 0, 4294967295, fun i _ => Fld.VLY_ARMCNT_CLAMP_CNT i⟩]⟩,
  -- VLY_ARMCNT_EDGE (R183)
  ⟨0x8102014, [(48, 0x20)], [
    ⟨.ro, 0, 4294967295, fun i _ => Fld.VLY_ARMCNT_EDGE_CNT i⟩]⟩,
  -- VLY_ARMCNT_HELD (R183)
  ⟨0x8102018, [(48, 0x20)], [
    ⟨.ro, 0, 4294967295, fun i _ => Fld.VLY_ARMCNT_HELD_CNT i⟩]⟩]

/-- Registers of block CE, part 0. -/
def regsCE0 : List RegDef := [
  -- CE_CFG (R219)
  ⟨0x8200000, [(32, 0x100)], [
    ⟨.rw, 0, 1, fun i _ => Fld.CE_CFG_ENABLE i⟩,
    ⟨.rw, 0, 3, fun i _ => Fld.CE_CFG_FRM i⟩,
    ⟨.rw, 0, 3, fun i _ => Fld.CE_CFG_C0_MAX i⟩,
    ⟨.rw, 1, 255, fun i _ => Fld.CE_CFG_YIELD_RUN i⟩]⟩,
  -- CE_ARMOWN (R220)
  ⟨0x8200004, [(32, 0x100)], [
    ⟨.rw, 0, 47, fun i _ => Fld.CE_ARMOWN_ARM0 i⟩,
    ⟨.rw, 0, 1, fun i _ => Fld.CE_ARMOWN_VALID0 i⟩,
    ⟨.rw, 0, 47, fun i _ => Fld.CE_ARMOWN_ARM1 i⟩,
    ⟨.rw, 0, 1, fun i _ => Fld.CE_ARMOWN_VALID1 i⟩,
    ⟨.rw, 0, 47, fun i _ => Fld.CE_ARMOWN_ARM2 i⟩,
    ⟨.rw, 0, 1, fun i _ => Fld.CE_ARMOWN_VALID2 i⟩,
    ⟨.rw, 0, 47, fun i _ => Fld.CE_ARMOWN_ARM3 i⟩,
    ⟨.rw, 0, 1, fun i _ => Fld.CE_ARMOWN_VALID3 i⟩]⟩,
  -- CE_PROG (R221)
  ⟨0x8200008, [(32, 0x100)], [
    ⟨.ro, 0, 131071, fun i _ => Fld.CE_PROG_WCET_UNITS i⟩,
    ⟨.ro, 0, 8191, fun i _ => Fld.CE_PROG_C0_UNITS i⟩,
    ⟨.ro, 0, 1, fun i _ => Fld.CE_PROG_LOADED i⟩,
    ⟨.ro, 0, 1, fun i _ => Fld.CE_PROG_STANDARD i⟩]⟩,
  -- CE_DEMAND (R221)
  ⟨0x820000c, [(32, 0x100)], [
    ⟨.ro, 0, 131071, fun i _ => Fld.CE_DEMAND_DEMAND i⟩]⟩,
  -- CE_STAT (R222)
  ⟨0x8200010, [(32, 0x100)], [
    ⟨.ro, 0, 7, fun i _ => Fld.CE_STAT_STATE i⟩,
    ⟨.ro, 0, 1, fun i _ => Fld.CE_STAT_PROG_VALID i⟩,
    ⟨.ro, 0, 1, fun i _ => Fld.CE_STAT_IN_HANDLER i⟩,
    ⟨.ro, 0, 1, fun i _ => Fld.CE_STAT_RUNNING i⟩]⟩,
  -- CE_EVT (R223)
  ⟨0x8200014, [(32, 0x100)], [
    ⟨.w1c, 0, 1, fun i _ => Fld.CE_EVT_OVERRUN i⟩,
    ⟨.w1c, 0, 1, fun i _ => Fld.CE_EVT_YIELD_COND i⟩,
    ⟨.w1c, 0, 1, fun i _ => Fld.CE_EVT_ACC_FAULT i⟩,
    ⟨.w1c, 0, 1, fun i _ => Fld.CE_EVT_ILLEGAL i⟩,
    ⟨.w1c, 0, 1, fun i _ => Fld.CE_EVT_UECC_D i⟩,
    ⟨.w1c, 0, 1, fun i _ => Fld.CE_EVT_UECC_I i⟩,
    ⟨.w1c, 0, 1, fun i _ => Fld.CE_EVT_C0_COALESCED i⟩,
    ⟨.w1c, 0, 1, fun i _ => Fld.CE_EVT_AUTO_ABANDON i⟩,
    ⟨.w1c, 0, 1, fun i _ => Fld.CE_EVT_MIG_DONE i⟩,
    ⟨.w1c, 0, 1, fun i _ => Fld.CE_EVT_MIG_FAIL i⟩]⟩,
  -- CE_CNT_OVR (R224)
  ⟨0x8200018, [(32, 0x100)], [
    ⟨.ro, 0, 4294967295, fun i _ => Fld.CE_CNT_OVR_CNT i⟩]⟩,
  -- CE_RUN (R224)
  ⟨0x820001c, [(32, 0x100)], [
    ⟨.ro, 0, 65535, fun i _ => Fld.CE_RUN_RUN i⟩,
    ⟨.ro, 0, 65535, fun i _ => Fld.CE_RUN_RUN_MAX i⟩]⟩,
  -- CE_DLSTAT (R224)
  ⟨0x8200020, [(32, 0x100)], [
    ⟨.ro, 0, 131071, fun i _ => Fld.CE_DLSTAT_LAST_END i⟩]⟩,
  -- CE_DLMAX (R224)
  ⟨0x8200024, [(32, 0x100)], [
    ⟨.ro, 0, 131071, fun i _ => Fld.CE_DLMAX_MAX_END i⟩]⟩,
  -- CE_ECC (R224)
  ⟨0x8200028, [(32, 0x100)], [
    ⟨.ro, 0, 65535, fun i _ => Fld.CE_ECC_CORR i⟩]⟩,
  -- CE_CTL (R225)
  ⟨0x820002c, [(32, 0x100)], [
    ⟨.rw, 0, 1, fun i _ => Fld.CE_CTL_FENCE i⟩,
    ⟨.w1s, 0, 1, fun i _ => Fld.CE_CTL_CNT_CLR i⟩,
    ⟨.w1s, 0, 1, fun i _ => Fld.CE_CTL_DLMAX_CLR i⟩]⟩]

/-- Registers of block CE, part 1. -/
def regsCE1 : List RegDef := [
  -- CE_MIG (R225)
  ⟨0x8200030, [(32, 0x100)], [
    ⟨.rw, 0, 31, fun i _ => Fld.CE_MIG_TARGET i⟩,
    ⟨.rw, 0, 1, fun i _ => Fld.CE_MIG_COPY i⟩,
    ⟨.w1s, 0, 1, fun i _ => Fld.CE_MIG_START i⟩,
    ⟨.w1s, 0, 1, fun i _ => Fld.CE_MIG_ABORT i⟩,
    ⟨.ro, 0, 1, fun i _ => Fld.CE_MIG_COPYING i⟩,
    ⟨.ro, 0, 1, fun i _ => Fld.CE_MIG_COPIED i⟩]⟩,
  -- CE_EXT_SRC (R226)
  ⟨0x8200040, [(32, 0x100), (4, 0x10)], [
    ⟨.rw, 0, 4294967295, fun i j => Fld.CE_EXT_SRC_SRC i j⟩]⟩,
  -- CE_EXT_LEN (R226)
  ⟨0x8200044, [(32, 0x100), (4, 0x10)], [
    ⟨.rw, 0, 256, fun i j => Fld.CE_EXT_LEN_LEN i j⟩]⟩,
  -- CE_EXT_DST (R226)
  ⟨0x8200048, [(32, 0x100), (4, 0x10)], [
    ⟨.rw, 0, 32767, fun i j => Fld.CE_EXT_DST_DST i j⟩]⟩,
  -- CE_EXT_EVERY (R226)
  ⟨0x820004c, [(32, 0x100), (4, 0x10)], [
    ⟨.rw, 1, 255, fun i j => Fld.CE_EXT_EVERY_EVERY i j⟩]⟩,
  -- CE_GSTAT (R227)
  ⟨0x8208000, [], [
    ⟨.w1c, 0, 1, fun _ _ => Fld.CE_GSTAT_INVALID_WR⟩,
    ⟨.w1c, 0, 1, fun _ _ => Fld.CE_GSTAT_ORPHAN⟩]⟩,
  -- CE_GDEMAND (R227)
  ⟨0x8208004, [], [
    ⟨.ro, 0, 131071, fun _ _ => Fld.CE_GDEMAND_DEMAND⟩]⟩]

/-- Registers of block ADC, part 0. -/
def regsADC0 : List RegDef := [
  -- ADC_GCFG (R319)
  ⟨0x8300000, [], [
    ⟨.rw, 0, 79999, fun _ _ => Fld.ADC_GCFG_IN_TICK⟩,
    ⟨.rw, 0, 255, fun _ _ => Fld.ADC_GCFG_URG_CONV⟩,
    ⟨.rw, 1, 100, fun _ _ => Fld.ADC_GCFG_CAL_STEP⟩]⟩,
  -- ADC_GSTAT (R319)
  ⟨0x8300004, [], [
    ⟨.w1c, 0, 1, fun _ _ => Fld.ADC_GSTAT_INVALID_WR⟩,
    ⟨.ro, 0, 1, fun _ _ => Fld.ADC_GSTAT_IN_CLIP⟩]⟩,
  -- ADC_URG (R319)
  ⟨0x8300008, [], [
    ⟨.w1s, 0, 268435455, fun _ _ => Fld.ADC_URG_URG⟩]⟩,
  -- ADC_SYSCAL (R319)
  ⟨0x830000c, [], [
    ⟨.rw, 0, 27, fun _ _ => Fld.ADC_SYSCAL_CH⟩,
    ⟨.rw, 0, 2, fun _ _ => Fld.ADC_SYSCAL_STEP⟩,
    ⟨.w1s, 0, 1, fun _ _ => Fld.ADC_SYSCAL_START⟩,
    ⟨.ro, 0, 1, fun _ _ => Fld.ADC_SYSCAL_BUSY⟩]⟩,
  -- ADC_SYSCAL_V (R319)
  ⟨0x8300010, [], [
    ⟨.rw, 0, 4294967295, fun _ _ => Fld.ADC_SYSCAL_V_V_APP⟩]⟩,
  -- ADC_EVT (R319)
  ⟨0x8300014, [], [
    ⟨.w1c, 0, 1, fun _ _ => Fld.ADC_EVT_TRIP⟩,
    ⟨.w1c, 0, 1, fun _ _ => Fld.ADC_EVT_URG_DROP⟩,
    ⟨.w1c, 0, 1, fun _ _ => Fld.ADC_EVT_TRIG_LOST⟩,
    ⟨.w1c, 0, 1, fun _ _ => Fld.ADC_EVT_TG_SKIP⟩,
    ⟨.w1c, 0, 1, fun _ _ => Fld.ADC_EVT_SLICE_FAULT⟩,
    ⟨.w1c, 0, 1, fun _ _ => Fld.ADC_EVT_SYSCAL_DONE⟩,
    ⟨.w1c, 0, 1, fun _ _ => Fld.ADC_EVT_SYSCAL_FAIL⟩,
    ⟨.w1c, 0, 1, fun _ _ => Fld.ADC_EVT_VREF⟩]⟩,
  -- ADC_TRIP0 (R319)
  ⟨0x8300018, [], [
    ⟨.w1c, 0, 268435455, fun _ _ => Fld.ADC_TRIP0_TRIP⟩]⟩,
  -- ADC_TRIP1 (R319)
  ⟨0x830001c, [], [
    ⟨.w1c, 0, 268435455, fun _ _ => Fld.ADC_TRIP1_TRIP⟩]⟩,
  -- ADC_CTL (R319)
  ⟨0x8300020, [], [
    ⟨.w1s, 0, 1, fun _ _ => Fld.ADC_CTL_CNT_CLR⟩]⟩,
  -- ADC_TG_CFG (R320)
  ⟨0x8300030, [(4, 0x8)], [
    ⟨.rw, 0, 3, fun i _ => Fld.ADC_TG_CFG_KIND i⟩,
    ⟨.rw, 0, 1, fun i _ => Fld.ADC_TG_CFG_EDGE i⟩,
    ⟨.rw, 0, 15, fun i _ => Fld.ADC_TG_CFG_LPSEL i⟩]⟩,
  -- ADC_TG_PARAM (R320)
  ⟨0x8300034, [(4, 0x8)], [
    ⟨.rw, 0, 16777215, fun i _ => Fld.ADC_TG_PARAM_VALUE i⟩]⟩,
  -- ADC_GRP (R320)
  ⟨0x8300060, [(4, 0x4)], [
    ⟨.ro, 0, 127, fun i _ => Fld.ADC_GRP_FENCED i⟩,
    ⟨.ro, 0, 1, fun i _ => Fld.ADC_GRP_FULL i⟩,
    ⟨.ro, 0, 7, fun i _ => Fld.ADC_GRP_SPARE i⟩,
    ⟨.ro, 0, 1, fun i _ => Fld.ADC_GRP_VREF_OK i⟩]⟩]

/-- Registers of block ADC, part 1. -/
def regsADC1 : List RegDef := [
  -- ADC_CH_CFG (R321)
  ⟨0x8300100, [(28, 0x20)], [
    ⟨.rw, 0, 3, fun i _ => Fld.ADC_CH_CFG_MODE i⟩,
    ⟨.rw, 0, 3, fun i _ => Fld.ADC_CH_CFG_TSEL i⟩,
    ⟨.rw, 0, 1, fun i _ => Fld.ADC_CH_CFG_PDN i⟩,
    ⟨.rw, 0, 1, fun i _ => Fld.ADC_CH_CFG_RANGE i⟩,
    ⟨.rw, 0, 1, fun i _ => Fld.ADC_CH_CFG_REC i⟩,
    ⟨.rw, 16, 65535, fun i _ => Fld.ADC_CH_CFG_DELAY i⟩]⟩,
  -- ADC_CH_CAL (R321)
  ⟨0x8300104, [(28, 0x20)], [
    ⟨.rw, 0, 65535, fun i _ => Fld.ADC_CH_CAL_OFFSET i⟩,
    ⟨.rw, 24576, 40960, fun i _ => Fld.ADC_CH_CAL_GAIN i⟩]⟩,
  -- ADC_CH_CMP0 (R321)
  ⟨0x8300108, [(28, 0x20)], [
    ⟨.rw, 0, 65535, fun i _ => Fld.ADC_CH_CMP0_LO i⟩,
    ⟨.rw, 0, 65535, fun i _ => Fld.ADC_CH_CMP0_HI i⟩]⟩,
  -- ADC_CH_CMP1 (R321)
  ⟨0x830010c, [(28, 0x20)], [
    ⟨.rw, 0, 65535, fun i _ => Fld.ADC_CH_CMP1_LO i⟩,
    ⟨.rw, 0, 65535, fun i _ => Fld.ADC_CH_CMP1_HI i⟩]⟩,
  -- ADC_CH_CMPCTL (R321)
  ⟨0x8300110, [(28, 0x20)], [
    ⟨.rw, 0, 1, fun i _ => Fld.ADC_CH_CMPCTL_EN0 i⟩,
    ⟨.rw, 0, 1, fun i _ => Fld.ADC_CH_CMPCTL_SENSE0 i⟩,
    ⟨.rw, 1, 15, fun i _ => Fld.ADC_CH_CMPCTL_N0 i⟩,
    ⟨.rw, 0, 255, fun i _ => Fld.ADC_CH_CMPCTL_HYST0 i⟩,
    ⟨.rw, 0, 1, fun i _ => Fld.ADC_CH_CMPCTL_EN1 i⟩,
    ⟨.rw, 0, 1, fun i _ => Fld.ADC_CH_CMPCTL_SENSE1 i⟩,
    ⟨.rw, 1, 15, fun i _ => Fld.ADC_CH_CMPCTL_N1 i⟩,
    ⟨.rw, 0, 255, fun i _ => Fld.ADC_CH_CMPCTL_HYST1 i⟩]⟩,
  -- ADC_CH_RES (R321)
  ⟨0x8300114, [(28, 0x20)], [
    ⟨.ro, 0, 65535, fun i _ => Fld.ADC_CH_RES_CODE i⟩,
    ⟨.ro, 0, 1, fun i _ => Fld.ADC_CH_RES_SAT i⟩,
    ⟨.ro, 0, 1, fun i _ => Fld.ADC_CH_RES_CMP0_LIVE i⟩,
    ⟨.ro, 0, 1, fun i _ => Fld.ADC_CH_RES_CMP1_LIVE i⟩,
    ⟨.ro, 0, 1, fun i _ => Fld.ADC_CH_RES_CAL_NV i⟩,
    ⟨.ro, 0, 7, fun i _ => Fld.ADC_CH_RES_SLICE i⟩]⟩,
  -- ADC_CH_TS (R321)
  ⟨0x8300118, [(28, 0x20)], [
    ⟨.ro, 0, 4294967295, fun i _ => Fld.ADC_CH_TS_TB3_NS i⟩]⟩,
  -- ADC_CH_CNT (R321)
  ⟨0x830011c, [(28, 0x20)], [
    ⟨.ro, 0, 65535, fun i _ => Fld.ADC_CH_CNT_URG_DROP i⟩,
    ⟨.ro, 0, 65535, fun i _ => Fld.ADC_CH_CNT_TRIG_LOST i⟩]⟩]

/-- Registers of block LPW, part 0. -/
def regsLPW0 : List RegDef := [
  -- LPW_BLK_STAT (R296)
  ⟨0x8400000, [], [
    ⟨.ro, 0, 255, fun _ _ => Fld.LPW_BLK_STAT_BLOCKED⟩,
    ⟨.ro, 0, 255, fun _ _ => Fld.LPW_BLK_STAT_SRC_LIVE⟩]⟩,
  -- LPW_BLK_REL (R296)
  ⟨0x8400004, [], [
    ⟨.w1s, 0, 255, fun _ _ => Fld.LPW_BLK_REL_REL⟩]⟩,
  -- LPW_BLK_EVT (R296)
  ⟨0x8400008, [], [
    ⟨.w1c, 0, 1, fun _ _ => Fld.LPW_BLK_EVT_BLOCK⟩,
    ⟨.w1c, 0, 1, fun _ _ => Fld.LPW_BLK_EVT_REL_REFUSED⟩,
    ⟨.w1c, 0, 1, fun _ _ => Fld.LPW_BLK_EVT_PAIR_DISC⟩,
    ⟨.w1c, 0, 1, fun _ _ => Fld.LPW_BLK_EVT_SIDEBAND⟩,
    ⟨.w1c, 0, 1, fun _ _ => Fld.LPW_BLK_EVT_INVALID_WR⟩]⟩,
  -- LPW_FMAP (R296)
  ⟨0x840000c, [], [
    ⟨.rwl, 0, 1023, fun _ _ => Fld.LPW_FMAP_ACT⟩]⟩,
  -- LPW_BIN_DISC (R296)
  ⟨0x8400018, [], [
    ⟨.rwl, 0, 65535, fun _ _ => Fld.LPW_BIN_DISC_DISC_US⟩]⟩,
  -- LPW_SB_CFG (R296)
  ⟨0x840001c, [], [
    ⟨.rwl, 0, 1, fun _ _ => Fld.LPW_SB_CFG_SB_X0⟩,
    ⟨.rwl, 0, 1, fun _ _ => Fld.LPW_SB_CFG_SB_X1⟩]⟩,
  -- LPW_LOCK (R296)
  ⟨0x8400020, [], [
    ⟨.w1s, 0, 1, fun _ _ => Fld.LPW_LOCK_LOCK⟩,
    ⟨.w1c, 0, 1, fun _ _ => Fld.LPW_LOCK_LOCK_VIOL⟩]⟩,
  -- LPW_CNT_BLOCK (R296)
  ⟨0x8400024, [], [
    ⟨.ro, 0, 4294967295, fun _ _ => Fld.LPW_CNT_BLOCK_CNT⟩]⟩,
  -- LPW_BIN_CFG (R297)
  ⟨0x8400010, [(2, 0x4)], [
    ⟨.rwl, 0, 255, fun i _ => Fld.LPW_BIN_CFG_MASK i⟩,
    ⟨.rwl, 0, 1, fun i _ => Fld.LPW_BIN_CFG_POL i⟩,
    ⟨.rwl, 8, 255, fun i _ => Fld.LPW_BIN_CFG_FILT i⟩,
    ⟨.ro, 0, 1, fun i _ => Fld.LPW_BIN_CFG_LIVE i⟩]⟩,
  -- LPW_BLK_SRC (R298)
  ⟨0x8400040, [(8, 0x8)], [
    ⟨.ro, 0, 63, fun i _ => Fld.LPW_BLK_SRC_SRC i⟩,
    ⟨.ro, 0, 15, fun i _ => Fld.LPW_BLK_SRC_REASON i⟩,
    ⟨.ro, 0, 16383, fun i _ => Fld.LPW_BLK_SRC_CELL_ID i⟩]⟩,
  -- LPW_BLK_TS (R298)
  ⟨0x8400044, [(8, 0x8)], [
    ⟨.ro, 0, 4294967295, fun i _ => Fld.LPW_BLK_TS_TB3_NS i⟩]⟩,
  -- LPW_CMPMAP (R299)
  ⟨0x8400100, [(28, 0x4)], [
    ⟨.rwl, 0, 255, fun i _ => Fld.LPW_CMPMAP_MASK0 i⟩,
    ⟨.rwl, 0, 255, fun i _ => Fld.LPW_CMPMAP_MASK1 i⟩]⟩]

/-- Registers of block LPW, part 1. -/
def regsLPW1 : List RegDef := [
  -- LPW_LP_CFG (R300)
  ⟨0x8401000, [(16, 0x20)], [
    ⟨.rw, 0, 1, fun i _ => Fld.LPW_LP_CFG_EN i⟩,
    ⟨.rw, 0, 1, fun i _ => Fld.LPW_LP_CFG_ONESHOT i⟩,
    ⟨.rw, 0, 1, fun i _ => Fld.LPW_LP_CFG_SYNC i⟩,
    ⟨.rw, 0, 1, fun i _ => Fld.LPW_LP_CFG_MACT i⟩,
    ⟨.rw, 0, 255, fun i _ => Fld.LPW_LP_CFG_MCONV i⟩,
    ⟨.rw, 0, 15, fun i _ => Fld.LPW_LP_CFG_PARTNER i⟩,
    ⟨.rw, 0, 1, fun i _ => Fld.LPW_LP_CFG_IL_EN i⟩]⟩,
  -- LPW_LP_PERIOD (R300)
  ⟨0x8401004, [(16, 0x20)], [
    ⟨.rw, 2, 16777215, fun i _ => Fld.LPW_LP_PERIOD_PERIOD i⟩]⟩,
  -- LPW_LP_CMP (R300)
  ⟨0x8401008, [(16, 0x20)], [
    ⟨.rw, 0, 16777215, fun i _ => Fld.LPW_LP_CMP_CMP i⟩]⟩,
  -- LPW_LP_DEAD (R300)
  ⟨0x840100c, [(16, 0x20)], [
    ⟨.rw, 0, 4095, fun i _ => Fld.LPW_LP_DEAD_DEAD i⟩]⟩,
  -- LPW_LP_CTL (R300)
  ⟨0x8401010, [(16, 0x20)], [
    ⟨.w1s, 0, 1, fun i _ => Fld.LPW_LP_CTL_COMMIT i⟩,
    ⟨.w1s, 0, 1, fun i _ => Fld.LPW_LP_CTL_FIRE i⟩]⟩,
  -- LPW_LP_STAT (R300)
  ⟨0x8401014, [(16, 0x20)], [
    ⟨.ro, 0, 16777215, fun i _ => Fld.LPW_LP_STAT_CNT i⟩,
    ⟨.ro, 0, 1, fun i _ => Fld.LPW_LP_STAT_OUT i⟩,
    ⟨.ro, 0, 1, fun i _ => Fld.LPW_LP_STAT_MASKED i⟩,
    ⟨.ro, 0, 1, fun i _ => Fld.LPW_LP_STAT_IL_HOLD i⟩,
    ⟨.ro, 0, 1, fun i _ => Fld.LPW_LP_STAT_PEND i⟩,
    ⟨.ro, 0, 1, fun i _ => Fld.LPW_LP_STAT_FROZEN i⟩]⟩,
  -- LPW_LP_GCFG (R301)
  ⟨0x8401800, [], [
    ⟨.rw, 0, 1, fun _ _ => Fld.LPW_LP_GCFG_DBG_ACT⟩]⟩,
  -- LPW_LP_GSTAT (R301)
  ⟨0x8401804, [], [
    ⟨.w1c, 0, 1, fun _ _ => Fld.LPW_LP_GSTAT_FIRE_LOST⟩]⟩]

/-- Registers of block SAF, part 0. -/
def regsSAF0 : List RegDef := [
  -- SAF_STAT (R481)
  ⟨0x8500000, [], [
    ⟨.ro, 0, 1, fun _ _ => Fld.SAF_STAT_PSET_OK⟩,
    ⟨.ro, 0, 1, fun _ _ => Fld.SAF_STAT_PSET_PEND⟩,
    ⟨.ro, 0, 1, fun _ _ => Fld.SAF_STAT_ISL_FAULT⟩,
    ⟨.ro, 0, 1, fun _ _ => Fld.SAF_STAT_ISL_HOLD⟩,
    ⟨.ro, 0, 15, fun _ _ => Fld.SAF_STAT_SO_ON⟩,
    ⟨.ro, 0, 15, fun _ _ => Fld.SAF_STAT_SO_LOCKOUT⟩,
    ⟨.ro, 0, 255, fun _ _ => Fld.SAF_STAT_FN_ENABLE⟩,
    ⟨.ro, 0, 1, fun _ _ => Fld.SAF_STAT_SRST_LOW⟩]⟩,
  -- SAF_EVT (R481)
  ⟨0x8500004, [], [
    ⟨.ro, 0, 1, fun _ _ => Fld.SAF_EVT_PAIR_FAULT⟩,
    ⟨.ro, 0, 1, fun _ _ => Fld.SAF_EVT_SO_FAULT⟩,
    ⟨.ro, 0, 1, fun _ _ => Fld.SAF_EVT_LOCKSTEP⟩,
    ⟨.ro, 0, 1, fun _ _ => Fld.SAF_EVT_CROSS⟩,
    ⟨.ro, 0, 1, fun _ _ => Fld.SAF_EVT_CLOCK⟩,
    ⟨.ro, 0, 1, fun _ _ => Fld.SAF_EVT_VSAF⟩,
    ⟨.ro, 0, 1, fun _ _ => Fld.SAF_EVT_CONN_TMO⟩,
    ⟨.ro, 0, 1, fun _ _ => Fld.SAF_EVT_MSG_BAD⟩,
    ⟨.ro, 0, 1, fun _ _ => Fld.SAF_EVT_PSET_BAD⟩,
    ⟨.ro, 0, 1, fun _ _ => Fld.SAF_EVT_SRST_IGN⟩,
    ⟨.ro, 0, 1, fun _ _ => Fld.SAF_EVT_SRST_STUCK⟩]⟩,
  -- SAF_PSET (R481)
  ⟨0x8500008, [], [
    ⟨.ro, 0, 65535, fun _ _ => Fld.SAF_PSET_VER⟩]⟩,
  -- SAF_PSET_CRC (R481)
  ⟨0x850000c, [], [
    ⟨.ro, 0, 4294967295, fun _ _ => Fld.SAF_PSET_CRC_CRC⟩]⟩,
  -- SAF_PEND_CRC (R481)
  ⟨0x8500010, [], [
    ⟨.ro, 0, 4294967295, fun _ _ => Fld.SAF_PEND_CRC_CRC⟩]⟩,
  -- SAF_CNT_SRSTIGN (R481)
  ⟨0x8500014, [], [
    ⟨.ro, 0, 4294967295, fun _ _ => Fld.SAF_CNT_SRSTIGN_CNT⟩]⟩,
  -- SAF_CNT_MSGBAD (R481)
  ⟨0x8500018, [], [
    ⟨.ro, 0, 4294967295, fun _ _ => Fld.SAF_CNT_MSGBAD_CNT⟩]⟩,
  -- SAF_CNT_ISLRST (R481)
  ⟨0x850001c, [], [
    ⟨.ro, 0, 4294967295, fun _ _ => Fld.SAF_CNT_ISLRST_CNT⟩]⟩,
  -- SAF_PAIR_STAT (R481)
  ⟨0x8500040, [(16, 0x4)], [
    ⟨.ro, 0, 1, fun i _ => Fld.SAF_PAIR_STAT_A i⟩,
    ⟨.ro, 0, 1, fun i _ => Fld.SAF_PAIR_STAT_B i⟩,
    ⟨.ro, 0, 1, fun i _ => Fld.SAF_PAIR_STAT_OPERATE i⟩,
    ⟨.ro, 0, 1, fun i _ => Fld.SAF_PAIR_STAT_FAULT i⟩,
    ⟨.ro, 0, 3, fun i _ => Fld.SAF_PAIR_STAT_CAUSE i⟩]⟩,
  -- SAF_SO_STAT (R481)
  ⟨0x8500080, [(4, 0x4)], [
    ⟨.ro, 0, 1, fun i _ => Fld.SAF_SO_STAT_ON i⟩,
    ⟨.ro, 0, 1, fun i _ => Fld.SAF_SO_STAT_LOCKOUT i⟩,
    ⟨.ro, 0, 1, fun i _ => Fld.SAF_SO_STAT_RBA i⟩,
    ⟨.ro, 0, 1, fun i _ => Fld.SAF_SO_STAT_RBB i⟩,
    ⟨.ro, 0, 3, fun i _ => Fld.SAF_SO_STAT_TEST i⟩,
    ⟨.ro, 0, 3, fun i _ => Fld.SAF_SO_STAT_FCAUSE i⟩]⟩,
  -- SAF_CONN_SEQ (R481)
  ⟨0x85000a0, [(8, 0x8)], [
    ⟨.ro, 0, 4294967295, fun i _ => Fld.SAF_CONN_SEQ_SEQ i⟩]⟩,
  -- SAF_CONN_STAT (R481)
  ⟨0x85000a4, [(8, 0x8)], [
    ⟨.ro, 0, 1, fun i _ => Fld.SAF_CONN_STAT_ALIVE i⟩,
    ⟨.ro, 0, 65535, fun i _ => Fld.SAF_CONN_STAT_TMO i⟩]⟩]

/-- Registers of block SAF, part 1. -/
def regsSAF1 : List RegDef := [
  -- SAF_PAIR_CFG (R482)
  ⟨0x8500100, [(8, 0x8)], [
    ⟨.ro, 0, 1, fun i _ => Fld.SAF_PAIR_CFG_EN i⟩,
    ⟨.ro, 0, 1, fun i _ => Fld.SAF_PAIR_CFG_ANTI i⟩,
    ⟨.ro, 0, 255, fun i _ => Fld.SAF_PAIR_CFG_FILT i⟩,
    ⟨.ro, 0, 1023, fun i _ => Fld.SAF_PAIR_CFG_DISC_MS i⟩,
    ⟨.ro, 0, 15, fun i _ => Fld.SAF_PAIR_CFG_CHAT_N i⟩]⟩,
  -- SAF_PAIR_PLAUS (R482)
  ⟨0x8500104, [(8, 0x8)], [
    ⟨.ro, 0, 65535, fun i _ => Fld.SAF_PAIR_PLAUS_PLAUS_S i⟩]⟩,
  -- SAF_FN_CFG (R482)
  ⟨0x8500140, [(8, 0x8)], [
    ⟨.ro, 0, 1, fun i _ => Fld.SAF_FN_CFG_EN i⟩,
    ⟨.ro, 0, 7, fun i _ => Fld.SAF_FN_CFG_TYPE i⟩,
    ⟨.ro, 0, 15, fun i _ => Fld.SAF_FN_CFG_PAIR_A i⟩,
    ⟨.ro, 0, 15, fun i _ => Fld.SAF_FN_CFG_PAIR_B i⟩,
    ⟨.ro, 0, 15, fun i _ => Fld.SAF_FN_CFG_REQ_PAIR i⟩,
    ⟨.ro, 0, 3, fun i _ => Fld.SAF_FN_CFG_LOCK_SO i⟩,
    ⟨.ro, 0, 1, fun i _ => Fld.SAF_FN_CFG_AUTO i⟩]⟩,
  -- SAF_FN_TIME (R482)
  ⟨0x8500144, [(8, 0x8)], [
    ⟨.ro, 0, 65535, fun i _ => Fld.SAF_FN_TIME_T_MS i⟩]⟩,
  -- SAF_SO_CFG (R482)
  ⟨0x8500180, [(4, 0x8)], [
    ⟨.ro, 0, 1, fun i _ => Fld.SAF_SO_CFG_EN i⟩,
    ⟨.ro, 0, 255, fun i _ => Fld.SAF_SO_CFG_FN_MASK i⟩,
    ⟨.ro, 0, 1, fun i _ => Fld.SAF_SO_CFG_LOCK i⟩,
    ⟨.ro, 0, 255, fun i _ => Fld.SAF_SO_CFG_OPT_US i⟩,
    ⟨.ro, 0, 63, fun i _ => Fld.SAF_SO_CFG_RB_MS i⟩]⟩,
  -- SAF_CONN_ID (R482)
  ⟨0x85001a0, [(8, 0x10)], [
    ⟨.ro, 0, 4294967295, fun i _ => Fld.SAF_CONN_ID_CONN_ID i⟩]⟩,
  -- SAF_CONN_MAC_LO (R482)
  ⟨0x85001a4, [(8, 0x10)], [
    ⟨.ro, 0, 4294967295, fun i _ => Fld.SAF_CONN_MAC_LO_MAC i⟩]⟩,
  -- SAF_CONN_CFG (R482)
  ⟨0x85001a8, [(8, 0x10)], [
    ⟨.ro, 0, 65535, fun i _ => Fld.SAF_CONN_CFG_MAC_HI i⟩,
    ⟨.ro, 0, 15, fun i _ => Fld.SAF_CONN_CFG_PORTS i⟩,
    ⟨.ro, 0, 1, fun i _ => Fld.SAF_CONN_CFG_DIR i⟩,
    ⟨.ro, 0, 1023, fun i _ => Fld.SAF_CONN_CFG_WD_MS i⟩,
    ⟨.ro, 0, 1, fun i _ => Fld.SAF_CONN_CFG_EN i⟩]⟩,
  -- SAF_CONN_SEED (R482)
  ⟨0x85001ac, [(8, 0x10)], [
    ⟨.ro, 0, 4294967295, fun i _ => Fld.SAF_CONN_SEED_SEED i⟩]⟩]

/-- Registers of block TBS, part 0. -/
def regsTBS0 : List RegDef := [
  -- TBS_TB_NS (R455)
  ⟨0x8600000, [(4, 0x100)], [
    ⟨.ro, 0, 1073741823, fun i _ => Fld.TBS_TB_NS_NS i⟩]⟩,
  -- TBS_TB_SEC_LO (R455)
  ⟨0x8600004, [(4, 0x100)], [
    ⟨.ro, 0, 4294967295, fun i _ => Fld.TBS_TB_SEC_LO_SEC i⟩]⟩,
  -- TBS_TB_SEC_HI (R455)
  ⟨0x8600008, [(4, 0x100)], [
    ⟨.ro, 0, 65535, fun i _ => Fld.TBS_TB_SEC_HI_SEC i⟩]⟩,
  -- TBS_TB_FRAC (R455)
  ⟨0x860000c, [(4, 0x100)], [
    ⟨.ro, 0, 4294967295, fun i _ => Fld.TBS_TB_FRAC_FRAC i⟩]⟩,
  -- TBS_TB_INC_FRAC (R455)
  ⟨0x8600010, [(4, 0x100)], [
    ⟨.rw, 0, 4294967295, fun i _ => Fld.TBS_TB_INC_FRAC_INC_FRAC i⟩]⟩,
  -- TBS_TB_INC_NS (R455)
  ⟨0x8600014, [(4, 0x100)], [
    ⟨.rw, 0, 255, fun i _ => Fld.TBS_TB_INC_NS_INC_NS i⟩]⟩,
  -- TBS_TB_ADJ (R455)
  ⟨0x8600018, [(4, 0x100)], [
    ⟨.wo, 0, 4294967295, fun i _ => Fld.TBS_TB_ADJ_ADJ i⟩]⟩,
  -- TBS_TB_STAT (R455)
  ⟨0x860001c, [(4, 0x100)], [
    ⟨.ro, 0, 1, fun i _ => Fld.TBS_TB_STAT_SYNC_LOCK i⟩]⟩,
  -- TBS_TB_ERR (R455)
  ⟨0x8600020, [(4, 0x100)], [
    ⟨.ro, 0, 4294967295, fun i _ => Fld.TBS_TB_ERR_ERR i⟩]⟩,
  -- TBS_TB0_CTL (R456)
  ⟨0x8600800, [], [
    ⟨.rw, 0, 1, fun _ _ => Fld.TBS_TB0_CTL_SYNC_DECL⟩,
    ⟨.rw, 100, 60000, fun _ _ => Fld.TBS_TB0_CTL_HOLD_MS⟩]⟩,
  -- TBS_TB0_SET_SEC_LO (R456)
  ⟨0x8600804, [], [
    ⟨.rw, 0, 4294967295, fun _ _ => Fld.TBS_TB0_SET_SEC_LO_SEC⟩]⟩,
  -- TBS_TB0_SET_SEC_HI (R456)
  ⟨0x8600808, [], [
    ⟨.rw, 0, 65535, fun _ _ => Fld.TBS_TB0_SET_SEC_HI_SEC⟩]⟩]

/-- Registers of block TBS, part 1. -/
def regsTBS1 : List RegDef := [
  -- TBS_TB0_SET_NS (R456)
  ⟨0x860080c, [], [
    ⟨.wo, 0, 1073741823, fun _ _ => Fld.TBS_TB0_SET_NS_NS⟩]⟩,
  -- TBS_CFG (R456)
  ⟨0x8600810, [], [
    ⟨.rw, 1, 65535, fun _ _ => Fld.TBS_CFG_JUMP_MAX_NS⟩,
    ⟨.rw, 1, 200, fun _ _ => Fld.TBS_CFG_SLEW_PPM⟩]⟩,
  -- TBS_REF (R456)
  ⟨0x8600814, [], [
    ⟨.ro, 0, 1, fun _ _ => Fld.TBS_REF_SEL⟩,
    ⟨.ro, 0, 1, fun _ _ => Fld.TBS_REF_A_OK⟩,
    ⟨.ro, 0, 1, fun _ _ => Fld.TBS_REF_B_OK⟩,
    ⟨.ro, 0, 1, fun _ _ => Fld.TBS_REF_HOLDOVER⟩,
    ⟨.rw, 0, 1, fun _ _ => Fld.TBS_REF_REVERT⟩]⟩,
  -- TBS_PPS (R456)
  ⟨0x8600818, [], [
    ⟨.rw, 0, 3, fun _ _ => Fld.TBS_PPS_SRC⟩,
    ⟨.rw, 1, 65535, fun _ _ => Fld.TBS_PPS_WIDTH_US⟩]⟩,
  -- TBS_PPS_TS0 (R456)
  ⟨0x860081c, [], [
    ⟨.ro, 0, 4294967295, fun _ _ => Fld.TBS_PPS_TS0_TS⟩]⟩,
  -- TBS_PPS_TS3 (R456)
  ⟨0x8600820, [], [
    ⟨.ro, 0, 4294967295, fun _ _ => Fld.TBS_PPS_TS3_TS⟩]⟩,
  -- TBS_PPS_CNT (R456)
  ⟨0x8600824, [], [
    ⟨.ro, 0, 4294967295, fun _ _ => Fld.TBS_PPS_CNT_CNT⟩]⟩,
  -- TBS_EVT (R456)
  ⟨0x8600828, [], [
    ⟨.w1c, 0, 1, fun _ _ => Fld.TBS_EVT_JUMP_REFUSED⟩,
    ⟨.w1c, 0, 1, fun _ _ => Fld.TBS_EVT_STEP_HELD⟩,
    ⟨.w1c, 0, 1, fun _ _ => Fld.TBS_EVT_SYNC_LOST⟩,
    ⟨.w1c, 0, 1, fun _ _ => Fld.TBS_EVT_REF_SWITCH⟩,
    ⟨.w1c, 0, 1, fun _ _ => Fld.TBS_EVT_REF_BOTH⟩,
    ⟨.w1c, 0, 1, fun _ _ => Fld.TBS_EVT_PPS_IGN⟩,
    ⟨.w1c, 0, 1, fun _ _ => Fld.TBS_EVT_INVALID_WR⟩]⟩]

/-- Registers of block STP, part 0. -/
def regsSTP0 : List RegDef := [
  -- STP_ST_CFG (R451)
  ⟨0x8700000, [(4, 0x100)], [
    ⟨.rw, 0, 3, fun i _ => Fld.STP_ST_CFG_SPEED i⟩,
    ⟨.rw, 0, 1, fun i _ => Fld.STP_ST_CFG_AN i⟩,
    ⟨.rw, 0, 1, fun i _ => Fld.STP_ST_CFG_TO_APC i⟩,
    ⟨.rwl, 0, 1, fun i _ => Fld.STP_ST_CFG_RST_EN i⟩]⟩,
  -- STP_ST_MAC_LO (R451)
  ⟨0x8700004, [(4, 0x100)], [
    ⟨.rw, 0, 4294967295, fun i _ => Fld.STP_ST_MAC_LO_MAC i⟩]⟩,
  -- STP_ST_MAC_HI (R451)
  ⟨0x8700008, [(4, 0x100)], [
    ⟨.rw, 0, 65535, fun i _ => Fld.STP_ST_MAC_HI_MAC i⟩]⟩,
  -- STP_ST_LINKDLY (R451)
  ⟨0x870000c, [(4, 0x100)], [
    ⟨.rw, 0, 16777215, fun i _ => Fld.STP_ST_LINKDLY_LD i⟩]⟩,
  -- STP_ST_STAT (R451)
  ⟨0x8700010, [(4, 0x100)], [
    ⟨.ro, 0, 1, fun i _ => Fld.STP_ST_STAT_LINK_UP i⟩,
    ⟨.ro, 0, 3, fun i _ => Fld.STP_ST_STAT_SPEED i⟩]⟩,
  -- STP_ST_CNT_RX (R451)
  ⟨0x8700014, [(4, 0x100)], [
    ⟨.ro, 0, 4294967295, fun i _ => Fld.STP_ST_CNT_RX_CNT i⟩]⟩,
  -- STP_ST_CNT_FCS (R451)
  ⟨0x8700018, [(4, 0x100)], [
    ⟨.ro, 0, 4294967295, fun i _ => Fld.STP_ST_CNT_FCS_CNT i⟩]⟩,
  -- STP_ST_CNT_DROP (R451)
  ⟨0x870001c, [(4, 0x100)], [
    ⟨.ro, 0, 4294967295, fun i _ => Fld.STP_ST_CNT_DROP_CNT i⟩]⟩,
  -- STP_ST_CNT_FWDDROP (R451)
  ⟨0x8700020, [(4, 0x100)], [
    ⟨.ro, 0, 4294967295, fun i _ => Fld.STP_ST_CNT_FWDDROP_CNT i⟩]⟩,
  -- STP_ST_CNT_STOMP (R451)
  ⟨0x8700024, [(4, 0x100)], [
    ⟨.ro, 0, 4294967295, fun i _ => Fld.STP_ST_CNT_STOMP_CNT i⟩]⟩,
  -- STP_BRIDGE (R452)
  ⟨0x8700800, [], [
    ⟨.rw, 0, 1, fun _ _ => Fld.STP_BRIDGE_EN⟩]⟩,
  -- STP_ETYPE (R452)
  ⟨0x8700804, [], [
    ⟨.rwl, 0, 65535, fun _ _ => Fld.STP_ETYPE_ETYPE⟩]⟩]

/-- Registers of block STP, part 1. -/
def regsSTP1 : List RegDef := [
  -- STP_RST (R452)
  ⟨0x8700808, [], [
    ⟨.rwl, 0, 15, fun _ _ => Fld.STP_RST_AUTH_MASK⟩]⟩,
  -- STP_EVT (R452)
  ⟨0x870080c, [], [
    ⟨.w1c, 0, 1, fun _ _ => Fld.STP_EVT_INVALID_WR⟩,
    ⟨.w1c, 0, 1, fun _ _ => Fld.STP_EVT_FWD_DROP⟩,
    ⟨.w1c, 0, 1, fun _ _ => Fld.STP_EVT_TC_UNMATCHED⟩,
    ⟨.w1c, 0, 1, fun _ _ => Fld.STP_EVT_SV_DROP⟩,
    ⟨.w1c, 0, 1, fun _ _ => Fld.STP_EVT_GOOSE_TAL⟩,
    ⟨.w1c, 0, 1, fun _ _ => Fld.STP_EVT_RST_FAIL⟩,
    ⟨.w1c, 0, 1, fun _ _ => Fld.STP_EVT_RST_REFUSED⟩,
    ⟨.w1c, 0, 1, fun _ _ => Fld.STP_EVT_LOCK_VIOL⟩]⟩,
  -- STP_LOCK (R452)
  ⟨0x8700810, [], [
    ⟨.w1s, 0, 1, fun _ _ => Fld.STP_LOCK_LOCK⟩]⟩,
  -- STP_CTL (R452)
  ⟨0x8700814, [], [
    ⟨.w1s, 0, 1, fun _ _ => Fld.STP_CTL_CNT_CLR⟩]⟩,
  -- STP_CNT_SVDROP (R452)
  ⟨0x8700820, [], [
    ⟨.ro, 0, 4294967295, fun _ _ => Fld.STP_CNT_SVDROP_CNT⟩]⟩,
  -- STP_CNT_OWNDROP (R452)
  ⟨0x8700824, [], [
    ⟨.ro, 0, 4294967295, fun _ _ => Fld.STP_CNT_OWNDROP_CNT⟩]⟩,
  -- STP_CNT_RSTFAIL (R452)
  ⟨0x8700828, [], [
    ⟨.ro, 0, 4294967295, fun _ _ => Fld.STP_CNT_RSTFAIL_CNT⟩]⟩,
  -- STP_CNT_TCUNM (R452)
  ⟨0x870082c, [], [
    ⟨.ro, 0, 4294967295, fun _ _ => Fld.STP_CNT_TCUNM_CNT⟩]⟩,
  -- STP_GOOSE_TAL (R452)
  ⟨0x8700830, [(2, 0x4)], [
    ⟨.w1c, 0, 4294967295, fun i _ => Fld.STP_GOOSE_TAL_TAL i⟩]⟩,
  -- STP_SV_CFG (R453)
  ⟨0x8701000, [(64, 0x20)], [
    ⟨.rw, 0, 1, fun i _ => Fld.STP_SV_CFG_EN i⟩,
    ⟨.rw, 0, 15, fun i _ => Fld.STP_SV_CFG_PORTS i⟩,
    ⟨.rw, 0, 15, fun i _ => Fld.STP_SV_CFG_NVAL_M1 i⟩,
    ⟨.rw, 0, 1, fun i _ => Fld.STP_SV_CFG_REC i⟩,
    ⟨.rw, 0, 1, fun i _ => Fld.STP_SV_CFG_APC i⟩,
    ⟨.rw, 0, 65535, fun i _ => Fld.STP_SV_CFG_APPID i⟩]⟩,
  -- STP_SV_DMAC_LO (R453)
  ⟨0x8701004, [(64, 0x20)], [
    ⟨.rw, 0, 4294967295, fun i _ => Fld.STP_SV_DMAC_LO_DMAC i⟩]⟩,
  -- STP_SV_DMAC_HI (R453)
  ⟨0x8701008, [(64, 0x20)], [
    ⟨.rw, 0, 65535, fun i _ => Fld.STP_SV_DMAC_HI_DMAC i⟩]⟩]

/-- Registers of block STP, part 2. -/
def regsSTP2 : List RegDef := [
  -- STP_SV_CNT_CFG (R453)
  ⟨0x870100c, [(64, 0x20)], [
    ⟨.rw, 1, 65535, fun i _ => Fld.STP_SV_CNT_CFG_SMPMAX i⟩,
    ⟨.rw, 1, 65535, fun i _ => Fld.STP_SV_CNT_CFG_STALE_US i⟩]⟩,
  -- STP_SV_SVID (R453)
  ⟨0x8701010, [(64, 0x20)], [
    ⟨.rw, 0, 4294967295, fun i _ => Fld.STP_SV_SVID_SVID_CRC i⟩]⟩,
  -- STP_SV_STAT (R453)
  ⟨0x8701014, [(64, 0x20)], [
    ⟨.ro, 0, 65535, fun i _ => Fld.STP_SV_STAT_SMPCNT i⟩,
    ⟨.ro, 0, 1, fun i _ => Fld.STP_SV_STAT_VALID i⟩,
    ⟨.ro, 0, 1, fun i _ => Fld.STP_SV_STAT_STALE i⟩]⟩,
  -- STP_SV_CNT_DUP (R453)
  ⟨0x8701018, [(64, 0x20)], [
    ⟨.ro, 0, 4294967295, fun i _ => Fld.STP_SV_CNT_DUP_CNT i⟩]⟩,
  -- STP_SV_CNT_FMT (R453)
  ⟨0x870101c, [(64, 0x20)], [
    ⟨.ro, 0, 4294967295, fun i _ => Fld.STP_SV_CNT_FMT_CNT i⟩]⟩,
  -- STP_SVMAP (R454)
  ⟨0x8702000, [(160, 0x4)], [
    ⟨.rw, 0, 63, fun i _ => Fld.STP_SVMAP_STREAM i⟩,
    ⟨.rw, 0, 16, fun i _ => Fld.STP_SVMAP_ITEM i⟩,
    ⟨.rw, 0, 1, fun i _ => Fld.STP_SVMAP_EN i⟩]⟩,
  -- STP_GF_CFG (R454)
  ⟨0x8703000, [(64, 0x10)], [
    ⟨.rw, 0, 1, fun i _ => Fld.STP_GF_CFG_EN i⟩,
    ⟨.rw, 0, 15, fun i _ => Fld.STP_GF_CFG_PORTS i⟩,
    ⟨.rw, 0, 1, fun i _ => Fld.STP_GF_CFG_SIM i⟩,
    ⟨.rw, 0, 65535, fun i _ => Fld.STP_GF_CFG_APPID i⟩]⟩,
  -- STP_GF_DMAC_LO (R454)
  ⟨0x8703004, [(64, 0x10)], [
    ⟨.rw, 0, 4294967295, fun i _ => Fld.STP_GF_DMAC_LO_DMAC i⟩]⟩,
  -- STP_GF_DMAC_HI (R454)
  ⟨0x8703008, [(64, 0x10)], [
    ⟨.rw, 0, 65535, fun i _ => Fld.STP_GF_DMAC_HI_DMAC i⟩]⟩,
  -- STP_GF_GOCB (R454)
  ⟨0x870300c, [(64, 0x10)], [
    ⟨.rw, 0, 4294967295, fun i _ => Fld.STP_GF_GOCB_GOCB_CRC i⟩]⟩]

/-- Registers of block HIF, part 0. -/
def regsHIF0 : List RegDef := [
  -- HIF_PORT_STAT (R380)
  ⟨0x8800000, [(2, 0x100)], [
    ⟨.ro, 0, 1, fun i _ => Fld.HIF_PORT_STAT_ENABLED i⟩,
    ⟨.ro, 0, 1, fun i _ => Fld.HIF_PORT_STAT_LINK_UP i⟩,
    ⟨.ro, 0, 7, fun i _ => Fld.HIF_PORT_STAT_SPEED i⟩,
    ⟨.ro, 0, 15, fun i _ => Fld.HIF_PORT_STAT_WIDTH i⟩,
    ⟨.ro, 0, 127, fun i _ => Fld.HIF_PORT_STAT_NUM_VF i⟩]⟩,
  -- HIF_PORT_CNT_FLR (R380)
  ⟨0x8800004, [(2, 0x100)], [
    ⟨.ro, 0, 4294967295, fun i _ => Fld.HIF_PORT_CNT_FLR_CNT i⟩]⟩,
  -- HIF_PORT_FLR_DROP (R380)
  ⟨0x8800008, [(2, 0x100)], [
    ⟨.ro, 0, 4294967295, fun i _ => Fld.HIF_PORT_FLR_DROP_CNT i⟩]⟩,
  -- HIF_PORT_TAGS (R380)
  ⟨0x880000c, [(2, 0x100)], [
    ⟨.ro, 0, 511, fun i _ => Fld.HIF_PORT_TAGS_OUT i⟩,
    ⟨.ro, 0, 511, fun i _ => Fld.HIF_PORT_TAGS_HELD i⟩]⟩,
  -- HIF_PORT_CNT_CTO (R380)
  ⟨0x8800010, [(2, 0x100)], [
    ⟨.ro, 0, 4294967295, fun i _ => Fld.HIF_PORT_CNT_CTO_CNT i⟩]⟩,
  -- HIF_GSTAT (R380)
  ⟨0x8800800, [], [
    ⟨.w1c, 0, 1, fun _ _ => Fld.HIF_GSTAT_INVALID_WR⟩]⟩]

/-- Registers of block SEC, part 0. -/
def regsSEC0 : List RegDef := [
  -- SEC_LC (R406)
  ⟨0x8900000, [], [
    ⟨.ro, 0, 7, fun _ _ => Fld.SEC_LC_STATE⟩,
    ⟨.ro, 0, 1, fun _ _ => Fld.SEC_LC_HOLD⟩,
    ⟨.ro, 0, 63, fun _ _ => Fld.SEC_LC_OPENS⟩,
    ⟨.ro, 0, 63, fun _ _ => Fld.SEC_LC_REPROVS⟩]⟩,
  -- SEC_CUST (R406)
  ⟨0x8900004, [], [
    ⟨.ro, 0, 7, fun _ _ => Fld.SEC_CUST_N⟩,
    ⟨.ro, 0, 7, fun _ _ => Fld.SEC_CUST_K⟩,
    ⟨.ro, 0, 31, fun _ _ => Fld.SEC_CUST_SLOT_OK⟩]⟩,
  -- SEC_POL_SERIAL (R406)
  ⟨0x8900008, [], [
    ⟨.ro, 0, 4294967295, fun _ _ => Fld.SEC_POL_SERIAL_SERIAL⟩]⟩,
  -- SEC_POL_HASH (R406)
  ⟨0x8900010, [(8, 0x4)], [
    ⟨.ro, 0, 4294967295, fun i _ => Fld.SEC_POL_HASH_HASH i⟩]⟩,
  -- SEC_TIME_LO (R406)
  ⟨0x8900030, [], [
    ⟨.ro, 0, 4294967295, fun _ _ => Fld.SEC_TIME_LO_SEC⟩]⟩,
  -- SEC_TIME_HI (R406)
  ⟨0x8900034, [], [
    ⟨.ro, 0, 4294967295, fun _ _ => Fld.SEC_TIME_HI_SEC⟩]⟩,
  -- SEC_TIME_STAT (R406)
  ⟨0x8900038, [], [
    ⟨.ro, 0, 1, fun _ _ => Fld.SEC_TIME_STAT_SYNC⟩,
    ⟨.ro, 0, 1, fun _ _ => Fld.SEC_TIME_STAT_FLOOR⟩]⟩,
  -- SEC_IDPUB (R406)
  ⟨0x8900040, [(8, 0x4)], [
    ⟨.ro, 0, 4294967295, fun i _ => Fld.SEC_IDPUB_KEY i⟩]⟩,
  -- SEC_SESS (R406)
  ⟨0x8900060, [], [
    ⟨.ro, 0, 2047, fun _ _ => Fld.SEC_SESS_OPEN⟩]⟩,
  -- SEC_PERMIT (R406)
  ⟨0x8900064, [], [
    ⟨.ro, 0, 1, fun _ _ => Fld.SEC_PERMIT_IN_FORCE⟩,
    ⟨.ro, 0, 127, fun _ _ => Fld.SEC_PERMIT_MASK⟩]⟩,
  -- SEC_PERMIT_ID (R406)
  ⟨0x8900068, [], [
    ⟨.ro, 0, 4294967295, fun _ _ => Fld.SEC_PERMIT_ID_ID⟩]⟩,
  -- SEC_PERMIT_END (R406)
  ⟨0x890006c, [], [
    ⟨.ro, 0, 4294967295, fun _ _ => Fld.SEC_PERMIT_END_END⟩]⟩]

/-- Registers of block SEC, part 1. -/
def regsSEC1 : List RegDef := [
  -- SEC_EVT (R406)
  ⟨0x8900070, [], [
    ⟨.w1c, 0, 1, fun _ _ => Fld.SEC_EVT_BUNDLE⟩,
    ⟨.w1c, 0, 1, fun _ _ => Fld.SEC_EVT_MOVE⟩,
    ⟨.w1c, 0, 1, fun _ _ => Fld.SEC_EVT_OBJ_FAIL⟩,
    ⟨.w1c, 0, 1, fun _ _ => Fld.SEC_EVT_GRANT_FAIL⟩,
    ⟨.w1c, 0, 1, fun _ _ => Fld.SEC_EVT_TAMPER⟩,
    ⟨.w1c, 0, 1, fun _ _ => Fld.SEC_EVT_ZEROISE_FAIL⟩,
    ⟨.w1c, 0, 1, fun _ _ => Fld.SEC_EVT_PERMIT_END⟩,
    ⟨.w1c, 0, 1, fun _ _ => Fld.SEC_EVT_INVALID_WR⟩]⟩,
  -- SEC_CTL (R406)
  ⟨0x8900074, [], [
    ⟨.w1s, 0, 1, fun _ _ => Fld.SEC_CTL_CNT_CLR⟩]⟩,
  -- SEC_CNT_MACOK (R406)
  ⟨0x8900080, [], [
    ⟨.ro, 0, 4294967295, fun _ _ => Fld.SEC_CNT_MACOK_CNT⟩]⟩,
  -- SEC_CNT_MACFAIL (R406)
  ⟨0x8900084, [], [
    ⟨.ro, 0, 4294967295, fun _ _ => Fld.SEC_CNT_MACFAIL_CNT⟩]⟩,
  -- SEC_CNT_SIGOK (R406)
  ⟨0x8900088, [], [
    ⟨.ro, 0, 4294967295, fun _ _ => Fld.SEC_CNT_SIGOK_CNT⟩]⟩,
  -- SEC_CNT_SIGFAIL (R406)
  ⟨0x890008c, [], [
    ⟨.ro, 0, 4294967295, fun _ _ => Fld.SEC_CNT_SIGFAIL_CNT⟩]⟩,
  -- SEC_CNT_REPLAY (R406)
  ⟨0x8900090, [], [
    ⟨.ro, 0, 4294967295, fun _ _ => Fld.SEC_CNT_REPLAY_CNT⟩]⟩,
  -- SEC_CNT_GRANTFAIL (R406)
  ⟨0x8900094, [], [
    ⟨.ro, 0, 4294967295, fun _ _ => Fld.SEC_CNT_GRANTFAIL_CNT⟩]⟩,
  -- SEC_CNT_OBJFAIL (R406)
  ⟨0x8900098, [], [
    ⟨.ro, 0, 4294967295, fun _ _ => Fld.SEC_CNT_OBJFAIL_CNT⟩]⟩,
  -- SEC_CAP (R407)
  ⟨0x8901000, [(256, 0x40), (16, 0x4)], [
    ⟨.ro, 0, 4294967295, fun i j => Fld.SEC_CAP_WORD i j⟩]⟩,
  -- SEC_AUTH (R407)
  ⟨0x8905000, [(4, 0x40), (16, 0x4)], [
    ⟨.ro, 0, 4294967295, fun i j => Fld.SEC_AUTH_WORD i j⟩]⟩]

/-- Registers of block FUS, part 0. -/
def regsFUS0 : List RegDef := [
  -- FUS_STAT (R408)
  ⟨0x8a00000, [], [
    ⟨.ro, 0, 511, fun _ _ => Fld.FUS_STAT_MARG_START⟩,
    ⟨.ro, 0, 511, fun _ _ => Fld.FUS_STAT_MARG_STICKY⟩,
    ⟨.w1c, 0, 1, fun _ _ => Fld.FUS_STAT_REREAD_FLAG⟩,
    ⟨.w1c, 0, 1, fun _ _ => Fld.FUS_STAT_BURN_FAIL⟩,
    ⟨.ro, 0, 255, fun _ _ => Fld.FUS_STAT_LAST⟩,
    ⟨.w1c, 0, 1, fun _ _ => Fld.FUS_STAT_INVALID_WR⟩]⟩,
  -- FUS_STICKY (R408)
  ⟨0x8a00020, [(8, 0x4)], [
    ⟨.ro, 0, 4294967295, fun i _ => Fld.FUS_STICKY_WORDS i⟩]⟩,
  -- FUS_REREAD (R408)
  ⟨0x8a00040, [(8, 0x4)], [
    ⟨.w1c, 0, 4294967295, fun i _ => Fld.FUS_REREAD_WORDS i⟩]⟩,
  -- FUS_WORD (R408)
  ⟨0x8a00400, [(256, 0x4)], [
    ⟨.ro, 0, 4294967295, fun i _ => Fld.FUS_WORD_VALUE i⟩]⟩]

/-- Registers of block TND, part 0. -/
def regsTND0 : List RegDef := [
  -- TND_CFG (R345)
  ⟨0x8b00000, [], [
    ⟨.ro, 0, 3, fun _ _ => Fld.TND_CFG_ROLE⟩,
    ⟨.rwl, 1, 128, fun _ _ => Fld.TND_CFG_SPOKE_LOSS⟩,
    ⟨.rwl, 0, 63, fun _ _ => Fld.TND_CFG_YIELD_EN⟩]⟩,
  -- TND_START (R346)
  ⟨0x8b00004, [], [
    ⟨.rwl, 1, 65535, fun _ _ => Fld.TND_START_A_WAIT_MS⟩,
    ⟨.rwl, 1, 65535, fun _ _ => Fld.TND_START_B_WAIT_MS⟩]⟩,
  -- TND_CTL (R346)
  ⟨0x8b00008, [], [
    ⟨.w1s, 0, 1, fun _ _ => Fld.TND_CTL_SWITCH⟩,
    ⟨.w1s, 0, 1, fun _ _ => Fld.TND_CTL_REJOIN⟩,
    ⟨.w1s, 0, 1, fun _ _ => Fld.TND_CTL_PARTNER_RST⟩,
    ⟨.w1s, 0, 1, fun _ _ => Fld.TND_CTL_CNT_CLR⟩,
    ⟨.w1s, 0, 1, fun _ _ => Fld.TND_CTL_LOCK⟩]⟩,
  -- TND_STAT (R347)
  ⟨0x8b0000c, [], [
    ⟨.ro, 0, 7, fun _ _ => Fld.TND_STAT_STATE⟩,
    ⟨.ro, 0, 1, fun _ _ => Fld.TND_STAT_TWIN_HOLD⟩,
    ⟨.ro, 0, 1, fun _ _ => Fld.TND_STAT_TWIN_READY⟩,
    ⟨.ro, 0, 1, fun _ _ => Fld.TND_STAT_LINK_UP⟩,
    ⟨.ro, 0, 7, fun _ _ => Fld.TND_STAT_LANES⟩,
    ⟨.ro, 0, 1, fun _ _ => Fld.TND_STAT_DIGEST_OK⟩,
    ⟨.ro, 0, 1, fun _ _ => Fld.TND_STAT_VER_OK⟩,
    ⟨.ro, 0, 1, fun _ _ => Fld.TND_STAT_TIME_OK⟩,
    ⟨.ro, 0, 7, fun _ _ => Fld.TND_STAT_TVER⟩,
    ⟨.ro, 0, 65535, fun _ _ => Fld.TND_STAT_CLEAN⟩]⟩,
  -- TND_EVT (R348)
  ⟨0x8b00010, [], [
    ⟨.w1c, 0, 1, fun _ _ => Fld.TND_EVT_YIELDED⟩,
    ⟨.w1c, 0, 1, fun _ _ => Fld.TND_EVT_TOOK_OVER⟩,
    ⟨.w1c, 0, 1, fun _ _ => Fld.TND_EVT_TKOV_FAULT⟩,
    ⟨.w1c, 0, 1, fun _ _ => Fld.TND_EVT_DUAL⟩,
    ⟨.w1c, 0, 1, fun _ _ => Fld.TND_EVT_LINK_DOWN⟩,
    ⟨.w1c, 0, 1, fun _ _ => Fld.TND_EVT_LANE_LOST⟩,
    ⟨.w1c, 0, 1, fun _ _ => Fld.TND_EVT_NOFIT⟩,
    ⟨.w1c, 0, 1, fun _ _ => Fld.TND_EVT_VERSION⟩,
    ⟨.w1c, 0, 1, fun _ _ => Fld.TND_EVT_DIGEST⟩,
    ⟨.w1c, 0, 1, fun _ _ => Fld.TND_EVT_SKEW⟩,
    ⟨.w1c, 0, 1, fun _ _ => Fld.TND_EVT_EPOCH_HUNT⟩,
    ⟨.w1c, 0, 1, fun _ _ => Fld.TND_EVT_HELD_NO_TWIN⟩,
    ⟨.w1c, 0, 1, fun _ _ => Fld.TND_EVT_REFUSED⟩,
    ⟨.w1c, 0, 1, fun _ _ => Fld.TND_EVT_ROLE_CONFLICT⟩,
    ⟨.w1c, 0, 1, fun _ _ => Fld.TND_EVT_INVALID_WR⟩,
    ⟨.w1c, 0, 1, fun _ _ => Fld.TND_EVT_LOCK_VIOL⟩]⟩,
  -- TND_CAUSE (R349)
  ⟨0x8b00014, [], [
    ⟨.ro, 0, 63, fun _ _ => Fld.TND_CAUSE_LIVE⟩,
    ⟨.ro, 0, 63, fun _ _ => Fld.TND_CAUSE_LAST⟩,
    ⟨.ro, 0, 1, fun _ _ => Fld.TND_CAUSE_CMD⟩,
    ⟨.ro, 0, 1, fun _ _ => Fld.TND_CAUSE_DUAL_LOSS⟩]⟩,
  -- TND_EPOCH (R349)
  ⟨0x8b00018, [], [
    ⟨.ro, 0, 65535, fun _ _ => Fld.TND_EPOCH_EPOCH⟩,
    ⟨.ro, 0, 65535, fun _ _ => Fld.TND_EPOCH_TWIN⟩]⟩,
  -- TND_DIGEST (R349)
  ⟨0x8b0001c, [], [
    ⟨.ro, 0, 4294967295, fun _ _ => Fld.TND_DIGEST_OWN⟩]⟩,
  -- TND_TDIGEST (R349)
  ⟨0x8b00020, [], [
    ⟨.ro, 0, 4294967295, fun _ _ => Fld.TND_TDIGEST_TWIN⟩]⟩,
  -- TND_SHBYTES (R349)
  ⟨0x8b00024, [], [
    ⟨.ro, 0, 4294967295, fun _ _ => Fld.TND_SHBYTES_BYTES⟩]⟩,
  -- TND_SHCAP (R349)
  ⟨0x8b00028, [], [
    ⟨.ro, 0, 4294967295, fun _ _ => Fld.TND_SHCAP_CAP⟩]⟩,
  -- TND_DELTA (R349)
  ⟨0x8b0002c, [], [
    ⟨.ro, 0, 65535, fun _ _ => Fld.TND_DELTA_DELTA⟩]⟩]

/-- Registers of block TND, part 1. -/
def regsTND1 : List RegDef := [
  -- TND_CNT_YIELD (R349)
  ⟨0x8b00030, [], [
    ⟨.ro, 0, 4294967295, fun _ _ => Fld.TND_CNT_YIELD_CNT⟩]⟩,
  -- TND_CNT_TAKEOVER (R349)
  ⟨0x8b00034, [], [
    ⟨.ro, 0, 4294967295, fun _ _ => Fld.TND_CNT_TAKEOVER_CNT⟩]⟩,
  -- TND_CNT_SHLATE (R349)
  ⟨0x8b00038, [], [
    ⟨.ro, 0, 4294967295, fun _ _ => Fld.TND_CNT_SHLATE_CNT⟩]⟩,
  -- TND_SYNC (R350)
  ⟨0x8b00040, [(32, 0x4)], [
    ⟨.rw, 0, 32767, fun i _ => Fld.TND_SYNC_BASE i⟩,
    ⟨.rw, 0, 1024, fun i _ => Fld.TND_SYNC_LEN i⟩]⟩,
  -- TND_SKEW (R350)
  ⟨0x8b00100, [(128, 0x4)], [
    ⟨.ro, 0, 65535, fun i _ => Fld.TND_SKEW_DELTA i⟩,
    ⟨.ro, 0, 1, fun i _ => Fld.TND_SKEW_VALID i⟩]⟩]

/-- Registers of block RST, part 0. -/
def regsRST0 : List RegDef := [
  -- RST_CAUSE (R77)
  ⟨0x8c00000, [], [
    ⟨.ro, 0, 1, fun _ _ => Fld.RST_CAUSE_POR⟩,
    ⟨.ro, 0, 1, fun _ _ => Fld.RST_CAUSE_PORST⟩,
    ⟨.ro, 0, 1, fun _ _ => Fld.RST_CAUSE_UV⟩,
    ⟨.ro, 0, 1, fun _ _ => Fld.RST_CAUSE_RESETN⟩,
    ⟨.ro, 0, 1, fun _ _ => Fld.RST_CAUSE_WDT_RUN⟩,
    ⟨.ro, 0, 1, fun _ _ => Fld.RST_CAUSE_WDT_START⟩,
    ⟨.ro, 0, 1, fun _ _ => Fld.RST_CAUSE_CMD_HOST⟩,
    ⟨.ro, 0, 1, fun _ _ => Fld.RST_CAUSE_CMD_STN⟩,
    ⟨.ro, 0, 1, fun _ _ => Fld.RST_CAUSE_PARTNER⟩,
    ⟨.ro, 0, 1, fun _ _ => Fld.RST_CAUSE_STRAP_FAULT⟩,
    ⟨.ro, 0, 1, fun _ _ => Fld.RST_CAUSE_STORM⟩,
    ⟨.ro, 0, 1, fun _ _ => Fld.RST_CAUSE_RESTART⟩,
    ⟨.ro, 0, 1, fun _ _ => Fld.RST_CAUSE_SELF⟩,
    ⟨.ro, 0, 1, fun _ _ => Fld.RST_CAUSE_COLD⟩,
    ⟨.ro, 0, 255, fun _ _ => Fld.RST_CAUSE_CMD_SRC⟩,
    ⟨.ro, 0, 7, fun _ _ => Fld.RST_CAUSE_SELF_WHY⟩]⟩,
  -- RST_CFG (R78)
  ⟨0x8c00004, [], [
    ⟨.rwl, 0, 1, fun _ _ => Fld.RST_CFG_PARTNER_EN⟩,
    ⟨.rwl, 0, 1, fun _ _ => Fld.RST_CFG_STORM_EN⟩,
    ⟨.rwl, 1, 255, fun _ _ => Fld.RST_CFG_WDT_RUN_MS⟩,
    ⟨.rwl, 1, 255, fun _ _ => Fld.RST_CFG_WDT_START_S⟩,
    ⟨.w1s, 0, 1, fun _ _ => Fld.RST_CFG_LOCK⟩]⟩,
  -- RST_WDT_KICK (R79)
  ⟨0x8c00008, [], [
    ⟨.wo, 0, 1, fun _ _ => Fld.RST_WDT_KICK_KICK⟩,
    ⟨.wo, 0, 1, fun _ _ => Fld.RST_WDT_KICK_START_DONE⟩,
    ⟨.wo, 0, 65535, fun _ _ => Fld.RST_WDT_KICK_KEY⟩]⟩,
  -- RST_STRAP (R80)
  ⟨0x8c0000c, [], [
    ⟨.ro, 0, 4095, fun _ _ => Fld.RST_STRAP_RAW⟩,
    ⟨.ro, 0, 15, fun _ _ => Fld.RST_STRAP_CODE⟩,
    ⟨.ro, 0, 1, fun _ _ => Fld.RST_STRAP_FAULT⟩]⟩,
  -- RST_STAT (R81)
  ⟨0x8c00010, [], [
    ⟨.w1c, 0, 1, fun _ _ => Fld.RST_STAT_LOCK_VIOL⟩,
    ⟨.w1c, 0, 1, fun _ _ => Fld.RST_STAT_INVALID_WR⟩]⟩,
  -- RST_BACKUP_CNT (R82)
  ⟨0x8c00014, [], [
    ⟨.ro, 0, 4294967295, fun _ _ => Fld.RST_BACKUP_CNT_STARTS⟩]⟩,
  -- RST_BACKUP_STAT (R82)
  ⟨0x8c00018, [], [
    ⟨.ro, 0, 1, fun _ _ => Fld.RST_BACKUP_STAT_LOST⟩,
    ⟨.ro, 0, 7, fun _ _ => Fld.RST_BACKUP_STAT_TAMP_NEXT⟩,
    ⟨.ro, 0, 1, fun _ _ => Fld.RST_BACKUP_STAT_HELD_STRAP⟩,
    ⟨.ro, 0, 1, fun _ _ => Fld.RST_BACKUP_STAT_HELD_STORM⟩,
    ⟨.ro, 0, 255, fun _ _ => Fld.RST_BACKUP_STAT_TAMP_TOTAL⟩,
    ⟨.ro, 0, 1, fun _ _ => Fld.RST_BACKUP_STAT_TAMP0_NOW⟩,
    ⟨.ro, 0, 1, fun _ _ => Fld.RST_BACKUP_STAT_TAMP1_NOW⟩,
    ⟨.ro, 0, 15, fun _ _ => Fld.RST_BACKUP_STAT_STORM_CNT⟩]⟩,
  -- RST_BACKUP_SEC (R82)
  ⟨0x8c0001c, [], [
    ⟨.ro, 0, 4294967295, fun _ _ => Fld.RST_BACKUP_SEC_SECONDS⟩]⟩,
  -- RST_TAMPER (R82)
  ⟨0x8c00020, [(8, 0x4)], [
    ⟨.ro, 0, 2147483647, fun i _ => Fld.RST_TAMPER_SEC i⟩,
    ⟨.ro, 0, 1, fun i _ => Fld.RST_TAMPER_INPUT i⟩]⟩,
  -- RST_BACKUP_WIN (R82)
  ⟨0x8c00060, [], [
    ⟨.ro, 0, 4294967295, fun _ _ => Fld.RST_BACKUP_WIN_WIN_START⟩]⟩,
  -- RST_FW_STAT (R555)
  ⟨0x8c00040, [], [
    ⟨.ro, 0, 1, fun _ _ => Fld.RST_FW_STAT_FLASH⟩,
    ⟨.ro, 0, 1, fun _ _ => Fld.RST_FW_STAT_SLOT⟩,
    ⟨.ro, 0, 1, fun _ _ => Fld.RST_FW_STAT_TRIAL⟩,
    ⟨.ro, 0, 1, fun _ _ => Fld.RST_FW_STAT_STAGED⟩,
    ⟨.ro, 0, 1, fun _ _ => Fld.RST_FW_STAT_SET_RESET⟩,
    ⟨.ro, 0, 1, fun _ _ => Fld.RST_FW_STAT_FALLBACK⟩,
    ⟨.ro, 0, 3, fun _ _ => Fld.RST_FW_STAT_ATTEMPTS⟩,
    ⟨.ro, 0, 1, fun _ _ => Fld.RST_FW_STAT_DEFER⟩,
    ⟨.w1c, 0, 1, fun _ _ => Fld.RST_FW_STAT_MIRROR_FAIL⟩,
    ⟨.ro, 0, 1, fun _ _ => Fld.RST_FW_STAT_ENC⟩]⟩,
  -- RST_FW_VER (R555)
  ⟨0x8c00044, [], [
    ⟨.ro, 0, 4294967295, fun _ _ => Fld.RST_FW_VER_VERSION⟩]⟩]

/-- Registers of block RST, part 1. -/
def regsRST1 : List RegDef := [
  -- RST_FW_INFO (R555)
  ⟨0x8c00048, [], [
    ⟨.ro, 0, 65535, fun _ _ => Fld.RST_FW_INFO_SETFMT⟩,
    ⟨.ro, 0, 7, fun _ _ => Fld.RST_FW_INFO_TVER_LO⟩,
    ⟨.ro, 0, 7, fun _ _ => Fld.RST_FW_INFO_TVER_HI⟩,
    ⟨.ro, 0, 15, fun _ _ => Fld.RST_FW_INFO_FMT⟩]⟩,
  -- RST_FW_RB (R555)
  ⟨0x8c0004c, [], [
    ⟨.ro, 0, 255, fun _ _ => Fld.RST_FW_RB_ROLLBACK⟩,
    ⟨.ro, 0, 255, fun _ _ => Fld.RST_FW_RB_FUSED⟩]⟩,
  -- RST_FW_CFG (R555)
  ⟨0x8c00050, [], [
    ⟨.rw, 10, 65535, fun _ _ => Fld.RST_FW_CFG_HEALTH_S⟩,
    ⟨.rw, 0, 1, fun _ _ => Fld.RST_FW_CFG_MIRROR⟩,
    ⟨.rw, 0, 1, fun _ _ => Fld.RST_FW_CFG_AUTO_CONFIRM⟩,
    ⟨.rw, 1, 3, fun _ _ => Fld.RST_FW_CFG_TRIAL_STARTS⟩]⟩,
  -- RST_FW_CTL (R555)
  ⟨0x8c00054, [], [
    ⟨.w1s, 0, 1, fun _ _ => Fld.RST_FW_CTL_CONFIRM⟩,
    ⟨.w1s, 0, 1, fun _ _ => Fld.RST_FW_CTL_REJECT⟩,
    ⟨.w1s, 0, 1, fun _ _ => Fld.RST_FW_CTL_SAVE⟩,
    ⟨.w1s, 0, 1, fun _ _ => Fld.RST_FW_CTL_CLR_STAGE⟩]⟩,
  -- RST_FW_HEALTH (R555)
  ⟨0x8c00058, [], [
    ⟨.ro, 0, 65535, fun _ _ => Fld.RST_FW_HEALTH_REMAIN⟩]⟩]

/-- Registers of block HKP, part 0. -/
def regsHKP0 : List RegDef := [
  -- HKP_MODULE_ID (R3)
  ⟨0x8d00000, [], [
    ⟨.ro, 0, 65535, fun _ _ => Fld.HKP_MODULE_ID_PART⟩,
    ⟨.ro, 0, 15, fun _ _ => Fld.HKP_MODULE_ID_STEP_MAJOR⟩,
    ⟨.ro, 0, 15, fun _ _ => Fld.HKP_MODULE_ID_STEP_MINOR⟩,
    ⟨.ro, 0, 15, fun _ _ => Fld.HKP_MODULE_ID_XCVR_REV⟩,
    ⟨.ro, 0, 15, fun _ _ => Fld.HKP_MODULE_ID_SEC_REV⟩]⟩,
  -- HKP_FEED_STAT (R54)
  ⟨0x8d00100, [], [
    ⟨.ro, 0, 1, fun _ _ => Fld.HKP_FEED_STAT_A_OK⟩,
    ⟨.ro, 0, 1, fun _ _ => Fld.HKP_FEED_STAT_B_OK⟩,
    ⟨.ro, 0, 1, fun _ _ => Fld.HKP_FEED_STAT_A_CARRY⟩,
    ⟨.ro, 0, 1, fun _ _ => Fld.HKP_FEED_STAT_B_CARRY⟩,
    ⟨.w1c, 0, 1, fun _ _ => Fld.HKP_FEED_STAT_A_LOW⟩,
    ⟨.w1c, 0, 1, fun _ _ => Fld.HKP_FEED_STAT_B_LOW⟩,
    ⟨.w1c, 0, 1, fun _ _ => Fld.HKP_FEED_STAT_A_OV⟩,
    ⟨.w1c, 0, 1, fun _ _ => Fld.HKP_FEED_STAT_B_OV⟩,
    ⟨.w1c, 0, 1, fun _ _ => Fld.HKP_FEED_STAT_A_REV⟩,
    ⟨.w1c, 0, 1, fun _ _ => Fld.HKP_FEED_STAT_B_REV⟩,
    ⟨.w1c, 0, 1, fun _ _ => Fld.HKP_FEED_STAT_VBAT_LOW⟩,
    ⟨.ro, 0, 1, fun _ _ => Fld.HKP_FEED_STAT_SINGLE⟩]⟩,
  -- HKP_FEED_MEAS (R55)
  ⟨0x8d00104, [(2, 0x4)], [
    ⟨.ro, 0, 65535, fun i _ => Fld.HKP_FEED_MEAS_MV i⟩,
    ⟨.ro, 0, 65535, fun i _ => Fld.HKP_FEED_MEAS_CURR i⟩]⟩,
  -- HKP_FEED_CFG (R56)
  ⟨0x8d0010c, [], [
    ⟨.rw, 2700, 15000, fun _ _ => Fld.HKP_FEED_CFG_WARN_MV⟩,
    ⟨.rw, 0, 1, fun _ _ => Fld.HKP_FEED_CFG_EVT_SINGLE⟩]⟩,
  -- HKP_RAIL_STAT (R57)
  ⟨0x8d00110, [], [
    ⟨.ro, 0, 1023, fun _ _ => Fld.HKP_RAIL_STAT_CORE_SET_MV⟩,
    ⟨.ro, 0, 1023, fun _ _ => Fld.HKP_RAIL_STAT_CORE_MEAS_MV⟩,
    ⟨.w1c, 0, 1, fun _ _ => Fld.HKP_RAIL_STAT_CORE_OOR⟩,
    ⟨.w1c, 0, 1, fun _ _ => Fld.HKP_RAIL_STAT_AUX_OOR⟩,
    ⟨.ro, 0, 7, fun _ _ => Fld.HKP_RAIL_STAT_AUX_ID⟩]⟩,
  -- HKP_RAIL_CFG (R58)
  ⟨0x8d00114, [], [
    ⟨.rw, 650, 900, fun _ _ => Fld.HKP_RAIL_CFG_CORE_FLOOR_MV⟩,
    ⟨.rw, 720, 900, fun _ _ => Fld.HKP_RAIL_CFG_CORE_CEIL_MV⟩]⟩,
  -- HKP_THERM (R59)
  ⟨0x8d00118, [], [
    ⟨.ro, 0, 255, fun _ _ => Fld.HKP_THERM_TJ⟩,
    ⟨.ro, 0, 255, fun _ _ => Fld.HKP_THERM_TDRAM⟩,
    ⟨.w1c, 0, 1, fun _ _ => Fld.HKP_THERM_TJ_HOT⟩,
    ⟨.w1c, 0, 1, fun _ _ => Fld.HKP_THERM_TJ_CRIT⟩,
    ⟨.ro, 0, 1, fun _ _ => Fld.HKP_THERM_DRAM_HOT⟩]⟩,
  -- HKP_SVC_CFG (R539)
  ⟨0x8d00500, [], [
    ⟨.rw, 1, 65535, fun _ _ => Fld.HKP_SVC_CFG_CE_CORR_LIMIT⟩,
    ⟨.rw, 0, 1, fun _ _ => Fld.HKP_SVC_CFG_AUTO_MIG⟩,
    ⟨.rw, 0, 1, fun _ _ => Fld.HKP_SVC_CFG_TXF_FENCE⟩]⟩,
  -- HKP_SVC_EVT (R539)
  ⟨0x8d00504, [], [
    ⟨.w1c, 0, 1, fun _ _ => Fld.HKP_SVC_EVT_FENCE⟩,
    ⟨.w1c, 0, 1, fun _ _ => Fld.HKP_SVC_EVT_LIFT_REFUSED⟩,
    ⟨.w1c, 0, 1, fun _ _ => Fld.HKP_SVC_EVT_MIGRATE⟩,
    ⟨.w1c, 0, 1, fun _ _ => Fld.HKP_SVC_EVT_NO_SPARE_CE⟩,
    ⟨.w1c, 0, 1, fun _ _ => Fld.HKP_SVC_EVT_FAN_BLOCKED⟩,
    ⟨.w1c, 0, 1, fun _ _ => Fld.HKP_SVC_EVT_FAN_STALL⟩,
    ⟨.w1c, 0, 1, fun _ _ => Fld.HKP_SVC_EVT_CAD_STEP⟩,
    ⟨.w1c, 0, 1, fun _ _ => Fld.HKP_SVC_EVT_PERT_END⟩,
    ⟨.w1c, 0, 1, fun _ _ => Fld.HKP_SVC_EVT_DIE_X0⟩,
    ⟨.w1c, 0, 1, fun _ _ => Fld.HKP_SVC_EVT_DIE_X1⟩,
    ⟨.w1c, 0, 1, fun _ _ => Fld.HKP_SVC_EVT_LOG_WRAP⟩,
    ⟨.w1c, 0, 1, fun _ _ => Fld.HKP_SVC_EVT_INVALID_WR⟩]⟩,
  -- HKP_LIFT (R539)
  ⟨0x8d00508, [], [
    ⟨.rw, 0, 2, fun _ _ => Fld.HKP_LIFT_KIND⟩,
    ⟨.rw, 0, 127, fun _ _ => Fld.HKP_LIFT_INDEX⟩,
    ⟨.w1s, 0, 1, fun _ _ => Fld.HKP_LIFT_GO⟩]⟩,
  -- HKP_FENCE_SPK (R539)
  ⟨0x8d00510, [(4, 0x4)], [
    ⟨.ro, 0, 4294967295, fun i _ => Fld.HKP_FENCE_SPK_SPOKES i⟩]⟩,
  -- HKP_FENCE_CE (R539)
  ⟨0x8d00520, [], [
    ⟨.ro, 0, 4294967295, fun _ _ => Fld.HKP_FENCE_CE_ENGINES⟩]⟩]

/-- Registers of block HKP, part 1. -/
def regsHKP1 : List RegDef := [
  -- HKP_FENCE_APC (R539)
  ⟨0x8d00524, [], [
    ⟨.ro, 0, 16777215, fun _ _ => Fld.HKP_FENCE_APC_CORES⟩]⟩,
  -- HKP_LOG_SEQ_LO (R539)
  ⟨0x8d00530, [], [
    ⟨.ro, 0, 4294967295, fun _ _ => Fld.HKP_LOG_SEQ_LO_SEQ⟩]⟩,
  -- HKP_LOG_SEQ_HI (R539)
  ⟨0x8d00534, [], [
    ⟨.ro, 0, 4294967295, fun _ _ => Fld.HKP_LOG_SEQ_HI_SEQ⟩]⟩,
  -- HKP_CAD_STAT (R540)
  ⟨0x8d00200, [], [
    ⟨.ro, 0, 1023, fun _ _ => Fld.HKP_CAD_STAT_K⟩,
    ⟨.ro, 0, 1023, fun _ _ => Fld.HKP_CAD_STAT_KMIN⟩,
    ⟨.ro, 0, 15, fun _ _ => Fld.HKP_CAD_STAT_SLOWEST⟩,
    ⟨.ro, 0, 7, fun _ _ => Fld.HKP_CAD_STAT_STEP⟩]⟩,
  -- HKP_CAD_CFG (R540)
  ⟨0x8d00204, [], [
    ⟨.rw, 257, 511, fun _ _ => Fld.HKP_CAD_CFG_K_RAIL⟩,
    ⟨.rw, 257, 510, fun _ _ => Fld.HKP_CAD_CFG_K_SHED⟩,
    ⟨.rw, 256, 509, fun _ _ => Fld.HKP_CAD_CFG_K_YIELD⟩,
    ⟨.rw, 1, 31, fun _ _ => Fld.HKP_CAD_CFG_HYST⟩]⟩,
  -- HKP_CAD_CFG2 (R540)
  ⟨0x8d00208, [], [
    ⟨.rw, 0, 1023, fun _ _ => Fld.HKP_CAD_CFG2_K_LOWER⟩]⟩,
  -- HKP_CAD_CTL (R540)
  ⟨0x8d0020c, [], [
    ⟨.w1s, 0, 1, fun _ _ => Fld.HKP_CAD_CTL_KMIN_CLR⟩]⟩,
  -- HKP_CAD_S (R540)
  ⟨0x8d00210, [(16, 0x4)], [
    ⟨.ro, 0, 1023, fun i _ => Fld.HKP_CAD_S_K i⟩]⟩,
  -- HKP_FAN_CURVE (R541)
  ⟨0x8d00300, [], [
    ⟨.rw, 0, 255, fun _ _ => Fld.HKP_FAN_CURVE_T_LO⟩,
    ⟨.rw, 0, 255, fun _ _ => Fld.HKP_FAN_CURVE_T_HI⟩,
    ⟨.rw, 1, 100, fun _ _ => Fld.HKP_FAN_CURVE_MIN_PCT⟩]⟩,
  -- HKP_FAN_GSTAT (R541)
  ⟨0x8d00304, [], [
    ⟨.ro, 0, 1, fun _ _ => Fld.HKP_FAN_GSTAT_BOOST⟩]⟩,
  -- HKP_FAN_CFG (R541)
  ⟨0x8d00310, [(8, 0x10)], [
    ⟨.rw, 0, 1, fun i _ => Fld.HKP_FAN_CFG_EN i⟩,
    ⟨.rw, 0, 1, fun i _ => Fld.HKP_FAN_CFG_AUTO i⟩,
    ⟨.rw, 0, 100, fun i _ => Fld.HKP_FAN_CFG_DUTY i⟩,
    ⟨.rw, 0, 3, fun i _ => Fld.HKP_FAN_CFG_PPR_M1 i⟩]⟩,
  -- HKP_FAN_STAT (R541)
  ⟨0x8d00314, [(8, 0x10)], [
    ⟨.ro, 0, 65535, fun i _ => Fld.HKP_FAN_STAT_RPM i⟩,
    ⟨.ro, 0, 7, fun i _ => Fld.HKP_FAN_STAT_STATE i⟩,
    ⟨.ro, 0, 3, fun i _ => Fld.HKP_FAN_STAT_RETRIES i⟩,
    ⟨.ro, 0, 1, fun i _ => Fld.HKP_FAN_STAT_STALL i⟩,
    ⟨.ro, 0, 127, fun i _ => Fld.HKP_FAN_STAT_DUTY_OUT i⟩]⟩]

/-- Registers of block HKP, part 2. -/
def regsHKP2 : List RegDef := [
  -- HKP_FAN_CTL (R541)
  ⟨0x8d00318, [(8, 0x10)], [
    ⟨.w1s, 0, 1, fun i _ => Fld.HKP_FAN_CTL_CLR i⟩]⟩,
  -- HKP_PERT_CTL (R542)
  ⟨0x8d00400, [], [
    ⟨.rw, 0, 127, fun _ _ => Fld.HKP_PERT_CTL_ON⟩]⟩,
  -- HKP_PERT_STRETCH (R542)
  ⟨0x8d00404, [], [
    ⟨.rw, 1, 100, fun _ _ => Fld.HKP_PERT_STRETCH_PCT⟩]⟩,
  -- HKP_PERT_BP (R542)
  ⟨0x8d00408, [], [
    ⟨.rw, 1, 90, fun _ _ => Fld.HKP_PERT_BP_PCT⟩]⟩,
  -- HKP_PERT_SLOT (R542)
  ⟨0x8d0040c, [], [
    ⟨.rw, 0, 127, fun _ _ => Fld.HKP_PERT_SLOT_SPOKE⟩,
    ⟨.rw, 0, 95, fun _ _ => Fld.HKP_PERT_SLOT_SLOT⟩,
    ⟨.rw, 0, 65535, fun _ _ => Fld.HKP_PERT_SLOT_DELAY_UI⟩]⟩,
  -- HKP_PERT_DROP (R542)
  ⟨0x8d00410, [], [
    ⟨.rw, 0, 127, fun _ _ => Fld.HKP_PERT_DROP_SPOKE⟩,
    ⟨.rw, 0, 127, fun _ _ => Fld.HKP_PERT_DROP_SLOT⟩,
    ⟨.rw, 1, 65535, fun _ _ => Fld.HKP_PERT_DROP_EVERY⟩]⟩,
  -- HKP_PERT_CRC (R542)
  ⟨0x8d00414, [], [
    ⟨.rw, 0, 127, fun _ _ => Fld.HKP_PERT_CRC_SPOKE⟩,
    ⟨.rw, 0, 1, fun _ _ => Fld.HKP_PERT_CRC_DIR⟩,
    ⟨.rw, 1, 65535, fun _ _ => Fld.HKP_PERT_CRC_EVERY⟩]⟩,
  -- HKP_PERT_STALL (R542)
  ⟨0x8d00418, [], [
    ⟨.rw, 0, 31, fun _ _ => Fld.HKP_PERT_STALL_ENGINE⟩,
    ⟨.rw, 1, 65535, fun _ _ => Fld.HKP_PERT_STALL_UNITS⟩]⟩,
  -- HKP_PERT_CADEMU (R542)
  ⟨0x8d0041c, [], [
    ⟨.rw, 0, 255, fun _ _ => Fld.HKP_PERT_CADEMU_EMU⟩]⟩]

/-- Registers of block REC, part 0. -/
def regsREC0 : List RegDef := [
  -- REC_D_CFG (R518)
  ⟨0x8e00000, [(16, 0x40)], [
    ⟨.rw, 0, 1, fun i _ => Fld.REC_D_CFG_ENABLE i⟩,
    ⟨.rw, 0, 7, fun i _ => Fld.REC_D_CFG_NSEG_M1 i⟩,
    ⟨.rw, 0, 15, fun i _ => Fld.REC_D_CFG_SRC i⟩,
    ⟨.rw, 1, 255, fun i _ => Fld.REC_D_CFG_CELL_EVERY i⟩]⟩,
  -- REC_D_REGION (R518)
  ⟨0x8e00004, [(16, 0x40)], [
    ⟨.rw, 0, 1023, fun i _ => Fld.REC_D_REGION_BASE_MB i⟩,
    ⟨.rw, 1, 1024, fun i _ => Fld.REC_D_REGION_SIZE_MB i⟩]⟩,
  -- REC_D_LEN (R518)
  ⟨0x8e00008, [(16, 0x40)], [
    ⟨.rw, 0, 65535, fun i _ => Fld.REC_D_LEN_PRE_V i⟩,
    ⟨.rw, 1, 65535, fun i _ => Fld.REC_D_LEN_POST_V i⟩]⟩,
  -- REC_D_GUAR (R518)
  ⟨0x8e0000c, [(16, 0x40)], [
    ⟨.rw, 0, 1048575, fun i _ => Fld.REC_D_GUAR_BYTES i⟩]⟩,
  -- REC_D_ADCSEL (R518)
  ⟨0x8e00010, [(16, 0x40)], [
    ⟨.rw, 0, 268435455, fun i _ => Fld.REC_D_ADCSEL_CH i⟩]⟩,
  -- REC_D_SVSEL_LO (R518)
  ⟨0x8e00014, [(16, 0x40)], [
    ⟨.rw, 0, 4294967295, fun i _ => Fld.REC_D_SVSEL_LO_SUB i⟩]⟩,
  -- REC_D_SVSEL_HI (R518)
  ⟨0x8e00018, [(16, 0x40)], [
    ⟨.rw, 0, 4294967295, fun i _ => Fld.REC_D_SVSEL_HI_SUB i⟩]⟩,
  -- REC_D_ARMSEL_LO (R518)
  ⟨0x8e0001c, [(16, 0x40)], [
    ⟨.rw, 0, 4294967295, fun i _ => Fld.REC_D_ARMSEL_LO_ARM i⟩]⟩,
  -- REC_D_ARMSEL_HI (R518)
  ⟨0x8e00020, [(16, 0x40)], [
    ⟨.rw, 0, 65535, fun i _ => Fld.REC_D_ARMSEL_HI_ARM i⟩]⟩,
  -- REC_D_TRIG (R518)
  ⟨0x8e00024, [(16, 0x40)], [
    ⟨.rw, 0, 31, fun i _ => Fld.REC_D_TRIG_SRC i⟩,
    ⟨.rw, 0, 255, fun i _ => Fld.REC_D_TRIG_TRIG_CONV i⟩,
    ⟨.rw, 0, 65535, fun i _ => Fld.REC_D_TRIG_TBITS i⟩]⟩,
  -- REC_D_TCMP (R518)
  ⟨0x8e00028, [(16, 0x40)], [
    ⟨.rw, 0, 268435455, fun i _ => Fld.REC_D_TCMP_CH i⟩]⟩,
  -- REC_D_TCROSS (R518)
  ⟨0x8e0002c, [(16, 0x40)], [
    ⟨.rw, 0, 65535, fun i _ => Fld.REC_D_TCROSS_DEF i⟩]⟩]

/-- Registers of block REC, part 1. -/
def regsREC1 : List RegDef := [
  -- REC_D_STAT (R518)
  ⟨0x8e00030, [(16, 0x40)], [
    ⟨.ro, 0, 7, fun i _ => Fld.REC_D_STAT_STATE i⟩,
    ⟨.ro, 0, 7, fun i _ => Fld.REC_D_STAT_SEG i⟩,
    ⟨.ro, 0, 255, fun i _ => Fld.REC_D_STAT_DONE i⟩,
    ⟨.ro, 0, 255, fun i _ => Fld.REC_D_STAT_READING i⟩]⟩,
  -- REC_D_CNT_GAP (R518)
  ⟨0x8e00034, [(16, 0x40)], [
    ⟨.ro, 0, 4294967295, fun i _ => Fld.REC_D_CNT_GAP_CNT i⟩]⟩,
  -- REC_D_PEAK (R518)
  ⟨0x8e00038, [(16, 0x40)], [
    ⟨.ro, 0, 4294967295, fun i _ => Fld.REC_D_PEAK_BYTES i⟩]⟩,
  -- REC_D_CNT_IGN (R518)
  ⟨0x8e0003c, [(16, 0x40)], [
    ⟨.ro, 0, 4294967295, fun i _ => Fld.REC_D_CNT_IGN_CNT i⟩]⟩,
  -- REC_CTL (R519)
  ⟨0x8e00800, [], [
    ⟨.w1s, 0, 65535, fun _ _ => Fld.REC_CTL_TRIG⟩,
    ⟨.w1s, 0, 1, fun _ _ => Fld.REC_CTL_CNT_CLR⟩]⟩,
  -- REC_EVT (R519)
  ⟨0x8e00804, [], [
    ⟨.w1c, 0, 1, fun _ _ => Fld.REC_EVT_INVALID_WR⟩,
    ⟨.w1c, 0, 1, fun _ _ => Fld.REC_EVT_NOFIT⟩,
    ⟨.w1c, 0, 1, fun _ _ => Fld.REC_EVT_DONE⟩,
    ⟨.w1c, 0, 1, fun _ _ => Fld.REC_EVT_GAP⟩,
    ⟨.w1c, 0, 1, fun _ _ => Fld.REC_EVT_FULL⟩]⟩]

/-- Registers of block SCH, part 0. -/
def regsSCH0 : List RegDef := [
  -- SCH_CFG (R504)
  ⟨0x8f00000, [], [
    ⟨.rw, 0, 15, fun _ _ => Fld.SCH_CFG_PRE_PRI⟩,
    ⟨.rw, 0, 4095, fun _ _ => Fld.SCH_CFG_AFF_WAIT_US⟩,
    ⟨.rw, 0, 1, fun _ _ => Fld.SCH_CFG_EN⟩]⟩,
  -- SCH_CTX_LO (R504)
  ⟨0x8f00004, [], [
    ⟨.rw, 0, 4294967295, fun _ _ => Fld.SCH_CTX_LO_ADDR⟩]⟩,
  -- SCH_CTX_HI (R504)
  ⟨0x8f00008, [], [
    ⟨.rw, 0, 255, fun _ _ => Fld.SCH_CTX_HI_ADDR⟩]⟩,
  -- SCH_EVT (R504)
  ⟨0x8f0000c, [], [
    ⟨.w1c, 0, 1, fun _ _ => Fld.SCH_EVT_INVALID_WR⟩,
    ⟨.w1c, 0, 1, fun _ _ => Fld.SCH_EVT_BAD_OP⟩,
    ⟨.w1c, 0, 1, fun _ _ => Fld.SCH_EVT_NOTE_SAT⟩,
    ⟨.w1c, 0, 1, fun _ _ => Fld.SCH_EVT_REFUSED_IN_IRQ⟩]⟩,
  -- SCH_CNT_SWITCH (R504)
  ⟨0x8f00010, [], [
    ⟨.ro, 0, 4294967295, fun _ _ => Fld.SCH_CNT_SWITCH_CNT⟩]⟩,
  -- SCH_CNT_STEAL (R504)
  ⟨0x8f00014, [], [
    ⟨.ro, 0, 4294967295, fun _ _ => Fld.SCH_CNT_STEAL_CNT⟩]⟩,
  -- SCH_CNT_PREEMPT (R504)
  ⟨0x8f00018, [], [
    ⟨.ro, 0, 4294967295, fun _ _ => Fld.SCH_CNT_PREEMPT_CNT⟩]⟩,
  -- SCH_CTL (R504)
  ⟨0x8f0001c, [], [
    ⟨.w1s, 0, 1, fun _ _ => Fld.SCH_CTL_CNT_CLR⟩]⟩,
  -- SCH_CORE (R504)
  ⟨0x8f00100, [(24, 0x4)], [
    ⟨.ro, 0, 4095, fun i _ => Fld.SCH_CORE_RUN i⟩,
    ⟨.ro, 0, 31, fun i _ => Fld.SCH_CORE_RUN_PRI i⟩,
    ⟨.ro, 0, 4095, fun i _ => Fld.SCH_CORE_SLOT i⟩,
    ⟨.ro, 0, 1, fun i _ => Fld.SCH_CORE_SLOT_VALID i⟩,
    ⟨.ro, 0, 1, fun i _ => Fld.SCH_CORE_SLOT_LOADED i⟩,
    ⟨.ro, 0, 1, fun i _ => Fld.SCH_CORE_IDLE i⟩]⟩,
  -- SCH_TASK_CFG (R505)
  ⟨0x8f10000, [(4096, 0x10)], [
    ⟨.rw, 0, 31, fun i _ => Fld.SCH_TASK_CFG_PRI i⟩,
    ⟨.rw, 0, 1, fun i _ => Fld.SCH_TASK_CFG_CONFIGURED i⟩,
    ⟨.ro, 0, 7, fun i _ => Fld.SCH_TASK_CFG_STATE i⟩,
    ⟨.ro, 0, 255, fun i _ => Fld.SCH_TASK_CFG_NOTE i⟩,
    ⟨.ro, 0, 31, fun i _ => Fld.SCH_TASK_CFG_LAST i⟩,
    ⟨.ro, 0, 1, fun i _ => Fld.SCH_TASK_CFG_SLOTTED i⟩]⟩,
  -- SCH_TASK_AFF (R505)
  ⟨0x8f10004, [(4096, 0x10)], [
    ⟨.rw, 1, 16777215, fun i _ => Fld.SCH_TASK_AFF_AFF i⟩]⟩,
  -- SCH_TASK_CTL (R505)
  ⟨0x8f10008, [(4096, 0x10)], [
    ⟨.w1s, 0, 1, fun i _ => Fld.SCH_TASK_CTL_START i⟩,
    ⟨.w1s, 0, 1, fun i _ => Fld.SCH_TASK_CTL_STOP i⟩]⟩]

/-- Registers of block SCH, part 1. -/
def regsSCH1 : List RegDef := [
  -- SCH_TASK_WAKE (R505)
  ⟨0x8f1000c, [(4096, 0x10)], [
    ⟨.ro, 0, 4294967295, fun i _ => Fld.SCH_TASK_WAKE_TICK i⟩]⟩]

/-- Registers of block IRQ, part 0. -/
def regsIRQ0 : List RegDef := [
  -- IRQ_STORM (R506)
  ⟨0x9000000, [], [
    ⟨.rw, 1, 1000, fun _ _ => Fld.IRQ_STORM_STUCK_MS⟩,
    ⟨.rw, 1, 65535, fun _ _ => Fld.IRQ_STORM_RATE_CAP⟩]⟩,
  -- IRQ_EVT (R506)
  ⟨0x9000004, [], [
    ⟨.w1c, 0, 1, fun _ _ => Fld.IRQ_EVT_INVALID_WR⟩,
    ⟨.w1c, 0, 1, fun _ _ => Fld.IRQ_EVT_EOI_MISMATCH⟩,
    ⟨.w1c, 0, 1, fun _ _ => Fld.IRQ_EVT_STORM⟩]⟩,
  -- IRQ_STORMED (R506)
  ⟨0x9000040, [(32, 0x4)], [
    ⟨.ro, 0, 4294967295, fun i _ => Fld.IRQ_STORMED_SRC i⟩]⟩,
  -- IRQ_CORE (R506)
  ⟨0x9000100, [(28, 0x4)], [
    ⟨.ro, 0, 31, fun i _ => Fld.IRQ_CORE_DEPTH i⟩,
    ⟨.ro, 0, 15, fun i _ => Fld.IRQ_CORE_TOP_PRI i⟩,
    ⟨.ro, 0, 1023, fun i _ => Fld.IRQ_CORE_TOP_SRC i⟩,
    ⟨.ro, 0, 1, fun i _ => Fld.IRQ_CORE_EXT i⟩]⟩,
  -- IRQ_SRC_CFG (R507)
  ⟨0x9010000, [(1024, 0x20)], [
    ⟨.rw, 0, 15, fun i _ => Fld.IRQ_SRC_CFG_PRI i⟩,
    ⟨.rw, 0, 1, fun i _ => Fld.IRQ_SRC_CFG_EN i⟩,
    ⟨.rw, 0, 3, fun i _ => Fld.IRQ_SRC_CFG_MODE i⟩,
    ⟨.rw, 0, 1, fun i _ => Fld.IRQ_SRC_CFG_POL i⟩,
    ⟨.rw, 1, 255, fun i _ => Fld.IRQ_SRC_CFG_FILT i⟩,
    ⟨.rw, 0, 1, fun i _ => Fld.IRQ_SRC_CFG_VEC_EN i⟩,
    ⟨.rw, 0, 1, fun i _ => Fld.IRQ_SRC_CFG_STORM_EN i⟩]⟩,
  -- IRQ_SRC_TGT (R507)
  ⟨0x9010004, [(1024, 0x20)], [
    ⟨.rw, 0, 268435455, fun i _ => Fld.IRQ_SRC_TGT_TGT i⟩]⟩,
  -- IRQ_SRC_VEC_LO (R507)
  ⟨0x9010008, [(1024, 0x20)], [
    ⟨.rw, 0, 4294967295, fun i _ => Fld.IRQ_SRC_VEC_LO_ADDR i⟩]⟩,
  -- IRQ_SRC_VEC_HI (R507)
  ⟨0x901000c, [(1024, 0x20)], [
    ⟨.rw, 0, 255, fun i _ => Fld.IRQ_SRC_VEC_HI_ADDR i⟩]⟩,
  -- IRQ_SRC_STAT (R507)
  ⟨0x9010010, [(1024, 0x20)], [
    ⟨.ro, 0, 1, fun i _ => Fld.IRQ_SRC_STAT_RAW i⟩,
    ⟨.ro, 0, 1, fun i _ => Fld.IRQ_SRC_STAT_PENDING i⟩,
    ⟨.ro, 0, 1, fun i _ => Fld.IRQ_SRC_STAT_ACTIVE i⟩,
    ⟨.ro, 0, 31, fun i _ => Fld.IRQ_SRC_STAT_CORE i⟩,
    ⟨.ro, 0, 1, fun i _ => Fld.IRQ_SRC_STAT_M_STUCK i⟩,
    ⟨.ro, 0, 1, fun i _ => Fld.IRQ_SRC_STAT_M_RATE i⟩,
    ⟨.ro, 0, 65535, fun i _ => Fld.IRQ_SRC_STAT_LOST i⟩]⟩,
  -- IRQ_EQ_CFG (R508)
  ⟨0x9080000, [(60, 0x80)], [
    ⟨.rw, 0, 2, fun i _ => Fld.IRQ_EQ_CFG_DEST i⟩,
    ⟨.rw, 1, 2047, fun i _ => Fld.IRQ_EQ_CFG_THRESH i⟩]⟩,
  -- IRQ_EQ_CTL (R508)
  ⟨0x9080004, [(60, 0x80)], [
    ⟨.w1s, 0, 1, fun i _ => Fld.IRQ_EQ_CTL_FLUSH i⟩,
    ⟨.w1s, 0, 1, fun i _ => Fld.IRQ_EQ_CTL_CNT_CLR i⟩]⟩,
  -- IRQ_EQ_STAT (R508)
  ⟨0x9080008, [(60, 0x80)], [
    ⟨.ro, 0, 4095, fun i _ => Fld.IRQ_EQ_STAT_FILL i⟩,
    ⟨.w1c, 0, 1, fun i _ => Fld.IRQ_EQ_STAT_OVR i⟩,
    ⟨.ro, 0, 1, fun i _ => Fld.IRQ_EQ_STAT_IN_ITEM i⟩,
    ⟨.ro, 0, 15, fun i _ => Fld.IRQ_EQ_STAT_LEFT i⟩,
    ⟨.ro, 0, 1, fun i _ => Fld.IRQ_EQ_STAT_ORPHANING i⟩]⟩]

/-- Registers of block IRQ, part 1. -/
def regsIRQ1 : List RegDef := [
  -- IRQ_EQ_POP (R508)
  ⟨0x908000c, [(60, 0x80)], [
    ⟨.ro, 0, 63, fun i _ => Fld.IRQ_EQ_POP_VALID i⟩,
    ⟨.ro, 0, 1, fun i _ => Fld.IRQ_EQ_POP_MORE i⟩]⟩,
  -- IRQ_EQ_HOLD (R508)
  ⟨0x9080010, [(60, 0x80), (8, 0x4)], [
    ⟨.ro, 0, 4294967295, fun i j => Fld.IRQ_EQ_HOLD_WORD i j⟩]⟩,
  -- IRQ_EQ_CNT_OVR (R508)
  ⟨0x9080030, [(60, 0x80)], [
    ⟨.ro, 0, 4294967295, fun i _ => Fld.IRQ_EQ_CNT_OVR_CNT i⟩]⟩,
  -- IRQ_EQ_CNT_ORPHAN (R508)
  ⟨0x9080034, [(60, 0x80)], [
    ⟨.ro, 0, 4294967295, fun i _ => Fld.IRQ_EQ_CNT_ORPHAN_CNT i⟩]⟩,
  -- IRQ_EQ_CNT_BAD (R508)
  ⟨0x9080038, [(60, 0x80)], [
    ⟨.ro, 0, 4294967295, fun i _ => Fld.IRQ_EQ_CNT_BAD_CNT i⟩]⟩,
  -- IRQ_EQ_CNT_NOFWD (R508)
  ⟨0x908003c, [(60, 0x80)], [
    ⟨.ro, 0, 4294967295, fun i _ => Fld.IRQ_EQ_CNT_NOFWD_CNT i⟩]⟩]

/-- Registers of block QOS, part 0. -/
def regsQOS0 : List RegDef := [
  -- QOS_STAT (R424)
  ⟨0x9100000, [], [
    ⟨.w1c, 0, 1, fun _ _ => Fld.QOS_STAT_NOFIT⟩,
    ⟨.w1c, 0, 1, fun _ _ => Fld.QOS_STAT_C1_MISS⟩,
    ⟨.w1c, 0, 1, fun _ _ => Fld.QOS_STAT_INVALID_WR⟩,
    ⟨.ro, 0, 3, fun _ _ => Fld.QOS_STAT_SHED⟩,
    ⟨.ro, 0, 1, fun _ _ => Fld.QOS_STAT_SHED_CAD⟩]⟩,
  -- QOS_DEM_DRAM (R424)
  ⟨0x9100004, [], [
    ⟨.ro, 0, 4294967295, fun _ _ => Fld.QOS_DEM_DRAM_BYTES⟩]⟩,
  -- QOS_CAP_DRAM (R424)
  ⟨0x9100008, [], [
    ⟨.ro, 0, 4294967295, fun _ _ => Fld.QOS_CAP_DRAM_BYTES⟩]⟩,
  -- QOS_SLACK (R424)
  ⟨0x910000c, [], [
    ⟨.ro, 0, 131071, fun _ _ => Fld.QOS_SLACK_SLACK⟩]⟩,
  -- QOS_CFG (R424)
  ⟨0x9100010, [], [
    ⟨.rw, 1, 127, fun _ _ => Fld.QOS_CFG_BANKCAP⟩]⟩,
  -- QOS_CTL (R424)
  ⟨0x9100014, [], [
    ⟨.w1s, 0, 1, fun _ _ => Fld.QOS_CTL_CNT_CLR⟩]⟩,
  -- QOS_CNT_C1MISS (R424)
  ⟨0x9100020, [], [
    ⟨.ro, 0, 4294967295, fun _ _ => Fld.QOS_CNT_C1MISS_CNT⟩]⟩,
  -- QOS_CNT_SHED3 (R424)
  ⟨0x9100024, [], [
    ⟨.ro, 0, 4294967295, fun _ _ => Fld.QOS_CNT_SHED3_CNT⟩]⟩,
  -- QOS_CNT_SHED2 (R424)
  ⟨0x9100028, [], [
    ⟨.ro, 0, 4294967295, fun _ _ => Fld.QOS_CNT_SHED2_CNT⟩]⟩,
  -- QOS_CNT_BANKCAP (R424)
  ⟨0x910002c, [], [
    ⟨.ro, 0, 4294967295, fun _ _ => Fld.QOS_CNT_BANKCAP_CNT⟩]⟩,
  -- QOS_FN_CNT (R424)
  ⟨0x9101000, [(256, 0x4)], [
    ⟨.ro, 0, 4294967295, fun i _ => Fld.QOS_FN_CNT_CNT i⟩]⟩]

/-- Registers of block MEM, part 0. -/
def regsMEM0 : List RegDef := [
  -- MEM_BANKMAP (R425)
  ⟨0x9200000, [(60, 0x4)], [
    ⟨.ro, 0, 63, fun i _ => Fld.MEM_BANKMAP_PHYS i⟩]⟩,
  -- MEM_BANKSTAT (R425)
  ⟨0x9200100, [(64, 0x4)], [
    ⟨.ro, 0, 65535, fun i _ => Fld.MEM_BANKSTAT_CORR i⟩,
    ⟨.ro, 0, 7, fun i _ => Fld.MEM_BANKSTAT_STATE i⟩,
    ⟨.ro, 0, 63, fun i _ => Fld.MEM_BANKSTAT_LOGICAL i⟩]⟩,
  -- MEM_SPARE_CTL (R425)
  ⟨0x9200200, [], [
    ⟨.rw, 0, 59, fun _ _ => Fld.MEM_SPARE_CTL_SRC⟩,
    ⟨.w1s, 0, 1, fun _ _ => Fld.MEM_SPARE_CTL_START⟩,
    ⟨.ro, 0, 1, fun _ _ => Fld.MEM_SPARE_CTL_BUSY⟩,
    ⟨.ro, 0, 7, fun _ _ => Fld.MEM_SPARE_CTL_LEFT⟩]⟩,
  -- MEM_CFG (R425)
  ⟨0x9200204, [], [
    ⟨.rw, 0, 1, fun _ _ => Fld.MEM_CFG_AUTO⟩,
    ⟨.rw, 1, 65535, fun _ _ => Fld.MEM_CFG_CORR_LIMIT⟩]⟩,
  -- MEM_EVT (R425)
  ⟨0x9200208, [], [
    ⟨.w1c, 0, 1, fun _ _ => Fld.MEM_EVT_SWAP_DONE⟩,
    ⟨.w1c, 0, 1, fun _ _ => Fld.MEM_EVT_SWAP_FAIL⟩,
    ⟨.w1c, 0, 1, fun _ _ => Fld.MEM_EVT_NO_SPARE⟩,
    ⟨.w1c, 0, 1, fun _ _ => Fld.MEM_EVT_UECC_SRAM⟩,
    ⟨.w1c, 0, 1, fun _ _ => Fld.MEM_EVT_UECC_DRAM⟩,
    ⟨.w1c, 0, 1, fun _ _ => Fld.MEM_EVT_DRAM_HOT2⟩,
    ⟨.w1c, 0, 1, fun _ _ => Fld.MEM_EVT_INVALID_WR⟩]⟩,
  -- MEM_DRAM_STAT (R425)
  ⟨0x920020c, [], [
    ⟨.ro, 0, 511, fun _ _ => Fld.MEM_DRAM_STAT_BW_GBS⟩,
    ⟨.ro, 0, 3, fun _ _ => Fld.MEM_DRAM_STAT_REFRESH⟩]⟩,
  -- MEM_CNT_TRR (R425)
  ⟨0x9200210, [], [
    ⟨.ro, 0, 4294967295, fun _ _ => Fld.MEM_CNT_TRR_CNT⟩]⟩,
  -- MEM_CNT_UECC (R425)
  ⟨0x9200214, [], [
    ⟨.ro, 0, 4294967295, fun _ _ => Fld.MEM_CNT_UECC_CNT⟩]⟩]

/-- Registers of block FN, part 0. -/
def regsFN0 : List RegDef := [
  -- HIF_FN_ID (R355)
  ⟨0x10000000000, [(256, 0x10000)], [
    ⟨.ro, 0, 255, fun i _ => Fld.HIF_FN_ID_FN i⟩,
    ⟨.ro, 0, 1, fun i _ => Fld.HIF_FN_ID_PF i⟩]⟩,
  -- HIF_FN_STAT (R355)
  ⟨0x10000000004, [(256, 0x10000)], [
    ⟨.ro, 0, 1, fun i _ => Fld.HIF_FN_STAT_READY i⟩,
    ⟨.ro, 0, 1, fun i _ => Fld.HIF_FN_STAT_OPEN i⟩,
    ⟨.ro, 0, 3, fun i _ => Fld.HIF_FN_STAT_LEVEL i⟩,
    ⟨.ro, 0, 1, fun i _ => Fld.HIF_FN_STAT_STANDBY i⟩,
    ⟨.ro, 0, 1, fun i _ => Fld.HIF_FN_STAT_FLR_BUSY i⟩,
    ⟨.ro, 0, 1, fun i _ => Fld.HIF_FN_STAT_ERROR i⟩,
    ⟨.w1c, 0, 1, fun i _ => Fld.HIF_FN_STAT_DB_ERR i⟩,
    ⟨.w1c, 0, 1, fun i _ => Fld.HIF_FN_STAT_ACC_ERR i⟩,
    ⟨.w1c, 0, 1, fun i _ => Fld.HIF_FN_STAT_WR_IGN i⟩,
    ⟨.ro, 0, 1, fun i _ => Fld.HIF_FN_STAT_CPL_WAIT i⟩,
    ⟨.ro, 0, 1, fun i _ => Fld.HIF_FN_STAT_THROTTLED i⟩,
    ⟨.w1c, 0, 1, fun i _ => Fld.HIF_FN_STAT_EVT_OVF i⟩,
    ⟨.ro, 0, 15, fun i _ => Fld.HIF_FN_STAT_ERR_CAUSE i⟩]⟩,
  -- HIF_FN_CTL (R355)
  ⟨0x10000000008, [(256, 0x10000)], [
    ⟨.w1s, 0, 1, fun i _ => Fld.HIF_FN_CTL_OPEN i⟩,
    ⟨.w1s, 0, 1, fun i _ => Fld.HIF_FN_CTL_CLOSE i⟩,
    ⟨.rw, 1, 3, fun i _ => Fld.HIF_FN_CTL_LEVEL_MAX i⟩]⟩,
  -- HIF_FN_RING_BASE_LO (R355)
  ⟨0x10000000010, [(256, 0x10000), (4, 0x10)], [
    ⟨.rw, 0, 4294967295, fun i j => Fld.HIF_FN_RING_BASE_LO_ADDR i j⟩]⟩,
  -- HIF_FN_RING_BASE_HI (R355)
  ⟨0x10000000014, [(256, 0x10000), (4, 0x10)], [
    ⟨.rw, 0, 4294967295, fun i j => Fld.HIF_FN_RING_BASE_HI_ADDR i j⟩]⟩,
  -- HIF_FN_RING_SIZE (R355)
  ⟨0x10000000018, [(256, 0x10000), (4, 0x10)], [
    ⟨.rw, 4, 16, fun i j => Fld.HIF_FN_RING_SIZE_LOG2 i j⟩]⟩,
  -- HIF_FN_EVT_MASK (R355)
  ⟨0x1000000003c, [(256, 0x10000)], [
    ⟨.rw, 0, 511, fun i _ => Fld.HIF_FN_EVT_MASK_TYPES i⟩]⟩,
  -- HIF_FN_SHTAIL_LO (R355)
  ⟨0x10000000050, [(256, 0x10000)], [
    ⟨.rw, 0, 4294967295, fun i _ => Fld.HIF_FN_SHTAIL_LO_ADDR i⟩]⟩,
  -- HIF_FN_SHTAIL_HI (R355)
  ⟨0x10000000054, [(256, 0x10000)], [
    ⟨.rw, 0, 4294967295, fun i _ => Fld.HIF_FN_SHTAIL_HI_ADDR i⟩]⟩,
  -- HIF_FN_SHPOLL (R355)
  ⟨0x10000000058, [(256, 0x10000)], [
    ⟨.rw, 1, 1000, fun i _ => Fld.HIF_FN_SHPOLL_POLL_US i⟩]⟩,
  -- HIF_FN_MOD (R355)
  ⟨0x10000000060, [(256, 0x10000), (4, 0x8)], [
    ⟨.rw, 0, 65535, fun i j => Fld.HIF_FN_MOD_HOLD_US i j⟩,
    ⟨.rw, 1, 255, fun i j => Fld.HIF_FN_MOD_COUNT i j⟩,
    ⟨.rw, 0, 255, fun i j => Fld.HIF_FN_MOD_RATE i j⟩]⟩,
  -- HIF_FN_CNT_DONE (R355)
  ⟨0x10000000080, [(256, 0x10000)], [
    ⟨.ro, 0, 4294967295, fun i _ => Fld.HIF_FN_CNT_DONE_CNT i⟩]⟩]

/-- Registers of block FN, part 1. -/
def regsFN1 : List RegDef := [
  -- HIF_FN_CNT_REFUSED (R355)
  ⟨0x10000000084, [(256, 0x10000)], [
    ⟨.ro, 0, 4294967295, fun i _ => Fld.HIF_FN_CNT_REFUSED_CNT i⟩]⟩,
  -- HIF_FN_CNT_AUTH (R355)
  ⟨0x10000000088, [(256, 0x10000)], [
    ⟨.ro, 0, 4294967295, fun i _ => Fld.HIF_FN_CNT_AUTH_CNT i⟩]⟩,
  -- HIF_FN_CNT_EVTLOST (R355)
  ⟨0x1000000008c, [(256, 0x10000)], [
    ⟨.ro, 0, 4294967295, fun i _ => Fld.HIF_FN_CNT_EVTLOST_CNT i⟩]⟩,
  -- HIF_FN_CNT_THROTTLE (R355)
  ⟨0x10000000090, [(256, 0x10000)], [
    ⟨.ro, 0, 4294967295, fun i _ => Fld.HIF_FN_CNT_THROTTLE_CNT i⟩]⟩,
  -- HIF_FN_CMD_PTR (R355)
  ⟨0x100000000a0, [(256, 0x10000)], [
    ⟨.ro, 0, 65535, fun i _ => Fld.HIF_FN_CMD_PTR_HEAD i⟩,
    ⟨.ro, 0, 65535, fun i _ => Fld.HIF_FN_CMD_PTR_TAIL i⟩]⟩,
  -- HIF_FN_CPL_PTR (R355)
  ⟨0x100000000a4, [(256, 0x10000)], [
    ⟨.ro, 0, 65535, fun i _ => Fld.HIF_FN_CPL_PTR_TAIL i⟩,
    ⟨.ro, 0, 65535, fun i _ => Fld.HIF_FN_CPL_PTR_HEAD i⟩]⟩,
  -- HIF_FN_EVT_PTR (R355)
  ⟨0x100000000a8, [(256, 0x10000)], [
    ⟨.ro, 0, 65535, fun i _ => Fld.HIF_FN_EVT_PTR_TAIL i⟩,
    ⟨.ro, 0, 65535, fun i _ => Fld.HIF_FN_EVT_PTR_HEAD i⟩]⟩,
  -- HIF_FN_BLK_PTR (R355)
  ⟨0x100000000ac, [(256, 0x10000)], [
    ⟨.ro, 0, 65535, fun i _ => Fld.HIF_FN_BLK_PTR_HEAD i⟩,
    ⟨.ro, 0, 65535, fun i _ => Fld.HIF_FN_BLK_PTR_TAIL i⟩]⟩,
  -- HIF_FN_INFLIGHT (R355)
  ⟨0x100000000b0, [(256, 0x10000)], [
    ⟨.ro, 0, 63, fun i _ => Fld.HIF_FN_INFLIGHT_N i⟩]⟩]

/-- Every set-up register of the manual (R22), block by block. -/
def regTable : List RegDef :=
  regsSPK0 ++ regsSPK1 ++
  regsVLY0 ++ regsVLY1 ++ regsVLY2 ++
  regsCE0 ++ regsCE1 ++
  regsADC0 ++ regsADC1 ++
  regsLPW0 ++ regsLPW1 ++
  regsSAF0 ++ regsSAF1 ++
  regsTBS0 ++ regsTBS1 ++
  regsSTP0 ++ regsSTP1 ++ regsSTP2 ++
  regsHIF0 ++
  regsSEC0 ++ regsSEC1 ++
  regsFUS0 ++
  regsTND0 ++ regsTND1 ++
  regsRST0 ++ regsRST1 ++
  regsHKP0 ++ regsHKP1 ++ regsHKP2 ++
  regsREC0 ++ regsREC1 ++
  regsSCH0 ++ regsSCH1 ++
  regsIRQ0 ++ regsIRQ1 ++
  regsQOS0 ++
  regsMEM0 ++
  regsFN0 ++ regsFN1

end Sys2Proof.Machine
end

