-- ==== Sys2Proof/Machine/StateParts.lean ====
section
/-! DEFINITION. The parts of the state: for each block of the module, what it holds beside its set-up
registers, as plain data, with its value at reset. Machine/State.lean joins them. -/

namespace Sys2Proof.Machine

/-! ### Reset, start and firmware (R60 to R82, R543 to R555) -/

/-- Why a start ended in start-hold: a strap fault (R68), a storm (R76), no image passed (R73), a recovery
strap (codes 13 and 14 of R67), or strap code 15 (R67). -/
inductive HoldKind where
  | strapFault | storm | recovery | recoveryStrap | bench
deriving DecidableEq, Repr

/-- Where the module stands between reset and start complete (R61, R69). -/
inductive Phase where
  /-- A reset pin is low, or has not been high for 2 us (R61). -/
  | held
  /-- Start step 1: no reference clock has locked yet. -/
  | waitClock
  /-- The counter clock is locked; start steps 2 to 9 are to run. -/
  | starting
  /-- Steps 2 to 8 are done and the blocks are configured: START_DONE completes the start. -/
  | configured
  /-- The start ended in start-hold. -/
  | hold (k : HoldKind)
  /-- START_DONE was written: the start is complete. -/
  | started
deriving DecidableEq, Repr

/-- A source of a reset (R60), with what RST_CAUSE records of it (R77). -/
inductive ResetSource where
  | powerOn | porst | undervoltage | resetn | wdtRun | wdtStart
  | cmdHost (fn : Nat)
  | cmdStation (port : Nat)
  | partner
  | self (why : Nat)
deriving DecidableEq, Repr

/-- A reset taken at a coming volley boundary (R63, R551). -/
structure OrderedReset where
  src   : ResetSource
  /-- The module first yields at the next boundary and resets at the one after it. -/
  yield : Bool
  /-- The tick in which it was ordered (R333). -/
  since : Nat
deriving DecidableEq, Repr

/-- The reset controller beside its registers. -/
structure ResetUnit where
  phase        : Phase
  /-- The pins are held low. -/
  porstLow     : Bool
  resetnLow    : Bool
  /-- The validity pattern of the backup domain is intact (R74). -/
  backupIntact : Bool
  atBoundary   : Option OrderedReset
  /-- SELF_WHY of a module-ordered reset that waits to be taken (R60). -/
  ordered      : Option Nat
  /-- When a recovery staging completed with STAGED in the start-hold of R73, in ticks (R548). -/
  recoveryDone : Option Nat
  /-- When the start was complete, in ticks (R550). -/
  doneAt       : Nat
  /-- When the trial of the image ends, in ticks (R551). -/
  healthEnd    : Nat
  startWdt     : Bool
  runWdt       : Bool
  /-- Ticks that the start watchdog has run since reset release, and the run watchdog since the last kick or START_DONE; the
  time in which MGC0 is halted by debug is not counted (R60, R79). -/
  startFor     : Nat
  runFor       : Nat
  /-- A tamper entry waits for step 2 of the next start (R401). -/
  tamperDue    : Bool
  /-- A deferred fall-back reset waits (R551). -/
  deferred     : Bool
  /-- A mirror copy is running (R553). -/
  mirror       : Bool
  /-- The settings were saved since the start (R550). -/
  saved        : Bool
  /-- The primary flash of the strap (R67): 0 BFA, 1 BFB. -/
  primary      : Nat
deriving DecidableEq, Repr

/-- State of one image slot in the flash directory (R543). -/
inductive SlotState where
  | empty | current | previous | bad
deriving DecidableEq, Repr

/-- One image slot: its directory entry, its image, and whether its image key slot holds a key (R546). -/
structure ImgSlot where
  st       : SlotState
  trial    : Bool
  attempts : Nat
  image    : Option Image
  key      : Bool
deriving DecidableEq, Repr

/-- A settings record (R552): the set-up registers kept, and the epoch. -/
structure Settings where
  setfmt    : BitVec 16
  seq       : Nat
  /-- The CRC-32C of the record is right. -/
  crcOk     : Bool
  regs      : RegFile
  epoch     : BitVec 16
  /-- The safety parameter set in force (R460). -/
  safety    : Option ParamSet
  /-- The containers loaded when the settings were saved (R217). -/
  programs  : List (Nat × Container)
deriving DecidableEq, Repr

/-- One boot flash (R543). -/
structure Flash where
  slot0      : ImgSlot
  slot1      : ImgSlot
  staged     : Bool
  stagedLen  : Nat
  staging    : Option Image
  stagingKey : Bool
  set0       : Option Settings
  set1       : Option Settings
  /-- Which settings record was last confirmed (R552), if any. -/
  confirmed  : Option Bool
deriving DecidableEq, Repr

/-- A staging in progress (R547): its owner function, its flash, the bytes received, and when its last piece was written, in
ticks. -/
structure Staging where
  owner    : Nat
  flash    : Nat
  received : Nat
  lastAt   : Nat
deriving DecidableEq, Repr

def ImgSlot.reset : ImgSlot := ⟨.empty, false, 0, none, false⟩
def Flash.reset : Flash := ⟨ImgSlot.reset, ImgSlot.reset, false, 0, none, false, none, none, none⟩

/-- The OTP fuses (R403 to R405). -/
structure FuseUnit where
  /-- The burnt value of each word. -/
  otp     : FMap (BitVec 32)
  /-- The stored value of each word of the sticky record (R404). -/
  stored  : FMap (BitVec 32)
  /-- The words that took their safe value at this start. -/
  unsafeW : List Nat
deriving DecidableEq, Repr

/-! ### Power feeds (R38 to R42) -/

/-- A feed as its own monitor sees it, which no module reset touches (R39): above the thresholds of usable and lost, in
over-voltage, its switch held open by a reverse-current trip, and its voltage in mV as last known. -/
structure FeedUnit where
  up   : Bool
  ov   : Bool
  trip : Bool
  mv   : Nat
deriving DecidableEq, Repr

/-- A feed of which no monitor has told anything: usable, both at one voltage, as HKP_FEED_STAT reads after reset (DESIGN CHOICE,
log 6). -/
def FeedUnit.reset : FeedUnit := ⟨true, false, false, 0⟩

/-! ### The host interface (R351 to R380) -/

/-- One open session (R386 to R390). -/
structure Session where
  handle   : BitVec 16
  fn       : Nat
  /-- The highest SEQ accepted. -/
  seq      : BitVec 64
  /-- K, in its MAC register (R388). -/
  key      : BitVec 256
  /-- CFG_KEY of the grant, 0 for none. -/
  cfgKey   : BitVec 256
  verbs    : BitVec 8
  authSlot : Nat
  notAfter : Nat
  /-- Consecutive AUTH refusals. -/
  fails    : Nat
deriving DecidableEq, Repr

/-- How far a descriptor that was accepted has come. -/
inductive Progress where
  /-- It waits for the read of its buffer or object. -/
  | reading
  /-- It passed R365 and is to be carried out. -/
  | accepted
  /-- FRESH read: it waits for the cell. -/
  | fresh
  /-- CFG_WRITE of staged registers: it waits for the boundary (words applied). -/
  | boundary (words : Nat)
  /-- BLOCK_RELEASE: it waits for the boundary; converters refused so far. -/
  | release (refused : BitVec 8)
  /-- An open token or retire bundle that waits for the yield or the boundary (R397). -/
  | yield
  /-- The yield or the boundary has come: it is carried out next. -/
  | due
deriving DecidableEq, Repr

/-- A descriptor in flight: accepted and not completed (R370). -/
structure InFlight where
  /-- Its place among the descriptors the function has fetched. -/
  serial  : Nat
  /-- First command slot. -/
  index   : Nat
  d       : Descr
  /-- T_VERIFY: TB3 at the check of the MAC or signature. -/
  tVerify : BitVec 32
  at'     : Progress
  /-- The volley whose snapshot takes the set-point staged at its verification (R27). -/
  staged  : Option (BitVec 32)
deriving DecidableEq, Repr

/-- An event record in host memory or waiting for space (R371). -/
structure EvtRec where
  phase  : Bool
  tag    : BitVec 32
  tb3    : BitVec 32
  volley : BitVec 32
  body   : EventBody
deriving DecidableEq, Repr

/-- A completion record (R368). -/
structure CplRec where
  tag     : BitVec 32
  status  : BitVec 16
  opcode  : BitVec 8
  phase   : Bool
  stby    : Bool
  tVerify : BitVec 32
  index   : BitVec 16
  session : BitVec 16
  result  : BitVec 64
  volley  : BitVec 32
  detail  : BitVec 32
deriving DecidableEq, Repr

/-- A bulk write-back (R374). -/
structure BulkRec where
  used   : Nat
  stream : Nat
  last   : Bool
  phase  : Bool
deriving DecidableEq, Repr

/-- Data written to host memory by a descriptor or into a bulk buffer: bytes in words of a stated size. -/
structure HostData where
  fn    : Nat
  addr  : BitVec 64
  /-- Bytes per word. -/
  size  : Nat
  words : List (BitVec 64)
deriving DecidableEq, Repr

/-- An open stream (R374): its source, ARG, the next item it delivers, and bytes lost. -/
structure Stream where
  source : Nat
  arg    : BitVec 64
  next   : Nat
  /-- Bytes of the present item already delivered. -/
  done   : Nat
  lost   : Nat
deriving DecidableEq, Repr

/-- One MSI-X vector of a function (R354, R375): its table entry, and its messages. -/
structure Vector' where
  addr    : BitVec 64
  data    : BitVec 32
  masked  : Bool
  pending : Bool
  /-- Records not yet signalled. -/
  unsig   : Nat
  /-- A message was sent less than 1 / cap ago. -/
  capped  : Bool
  /-- A message waits for the cap. -/
  waits   : Bool
  /-- TB3, in ns, of the first unsignalled record and of the last message. -/
  first   : Nat
  sentAt  : Nat
  /-- Messages sent, and address and data of the last one. -/
  sent    : Nat
  last    : Option (BitVec 64 × BitVec 32)
deriving DecidableEq, Repr

def Vector'.reset : Vector' := ⟨0, 0, true, false, 0, false, false, 0, 0, 0, none⟩

/-- A host function beside its registers. -/
structure HostFn where
  closing  : Bool
  cplPhase : Bool
  evtPhase : Bool
  blkPhase : Bool
  /-- The index a bulk write-back carries next is in HIF_FN_BLK_PTR. -/
  inflight : List InFlight
  evtQueue : List EvtRec
  lostEvts : Nat
  lostFail : Nat
  /-- Token buckets (R384) in units of 10^-9 token, and TB3 when they were last refilled. -/
  tokens   : Nat
  sigTokens : Nat
  refilled : Nat
  streams  : FMap (Option Stream)
  vectors  : FMap Vector'
  /-- Reads of host memory outstanding when the function was reset: tags held (R377). -/
  held     : Nat
  /-- Descriptors fetched. -/
  count    : Nat
  /-- Emergency blocks that were verified when the function was reset: they stand (R377). -/
  standing : List InFlight
deriving DecidableEq, Repr

def HostFn.reset : HostFn :=
  { closing := false, cplPhase := true, evtPhase := true, blkPhase := true, inflight := [], evtQueue := [],
    lostEvts := 0, lostFail := 0, tokens := 0, sigTokens := 0, refilled := 0, streams := [], vectors := [], held := 0, count := 0, standing := [] }

/-- What the module has written into host memory, ring by ring: keys 65,536 x function + entry. -/
structure HostMem where
  cpl  : FMap (Option CplRec)
  evt  : FMap (Option EvtRec)
  blk  : FMap (Option BulkRec)
  /-- Other data, oldest first. -/
  data : List HostData
deriving DecidableEq, Repr

/-! ### The key store (R388 to R402) -/

/-- What the security die and MGC0 hold beside the SEC registers. -/
structure SecStore where
  sessions   : List Session
  /-- TAMPER_ACT of the policy in force (R401). -/
  tamperAct  : Nat
  /-- No session opens until a bundle with MOVE 5 clears the tamper record (R401). -/
  tamperLock : Bool
  /-- An identity key pair is held; in OPENED it is a temporary one. -/
  idKey      : Bool
  /-- Its private part, 0 without one. -/
  idPriv     : BitVec 256
  /-- The IEEE 1149.1 port and core debug are enabled (R398). -/
  debug      : Bool
  /-- The floor of T_sec: ISSUED of the newest bundle, and the seconds counter when it was accepted (R385). -/
  floor      : Option (Nat × Nat)
  /-- SEC_LC.HOLD stands until a cold start zeroises and verifies (R398). -/
  hold       : Bool
  /-- The last synchronised value of T_sec and the seconds counter then. -/
  lastSync   : Option (Nat × Nat)
  /-- The permit in force, with its window (R402). -/
  permit     : Option (Nat × Nat)
  /-- COUNTER of the last station reset frame accepted (R439). -/
  rstCounter : BitVec 64
deriving DecidableEq, Repr

def SecStore.reset : SecStore := ⟨[], 0, false, false, 0, false, none, false, none, none, 0⟩

/-! ### History queues and the module log (R520 to R525) -/

/-- One history entry (R521). -/
structure HistEntry where
  ts     : BitVec 32
  volley : BitVec 32
  reg    : Nat
  bit    : Nat
  rep    : Nat
  detail : BitVec 32
deriving DecidableEq, Repr

/-- A unit's history queue (R521); `lastNs` is TB3 at the newest entry, for the 1 ms rule of R522. -/
structure History where
  entries : FMap HistEntry
  count   : Nat
  newest  : Nat
  seq     : BitVec 16
  lastNs  : Nat
deriving DecidableEq, Repr

def HistEntry.reset : HistEntry := ⟨0, 0, 0, 0, 0, 0⟩
def History.reset : History := ⟨[], 0, 0, 0, 0⟩

/-- One 32-byte record of the module log (R524). -/
structure LogRec where
  seq   : BitVec 64
  kind  : Nat
  part  : Nat
  block : Nat
  unit  : Nat
  body  : BitVec 128
deriving DecidableEq, Repr

def LogRec.reset : LogRec := ⟨0, 0, 0, 0, 0, 0⟩

/-- The access-fault status and the history queue of a core (R21). -/
structure CoreUnit where
  fault : Bool
  hist  : History
deriving DecidableEq, Repr

def CoreUnit.reset : CoreUnit := ⟨false, History.reset⟩

/-! ### Event queues (R498 to R503) -/

/-- One event queue: its 32-byte words, oldest first, each of 1 to 8 words of 32 bits; the words of the item being
written; how many of its payload words are due, whether they are ignored, and whether they are orphans. -/
structure EventQ where
  groups : List (List (BitVec 32))
  item   : List (BitVec 32)
  left   : Nat
  ignore : Bool
  orphan : Bool
deriving DecidableEq, Repr

def EventQ.reset : EventQ := ⟨[], [], 0, false, false⟩

/-! ### Control engines (R185 to R228) -/

/-- The long instructions (R206). -/
inductive VKind where
  | ordstat | ordstatM | ordstatm | ordstatmM | hist | vdot
deriving DecidableEq, Repr

/-- A long instruction in progress: its operands as read when it started, the units it has taken, and what the
selection unit holds of the elements read (R209). -/
structure LongOp where
  kind   : VKind
  rd     : Nat
  base   : Nat
  n      : Nat
  ranks  : List (BitVec 40)
  param  : BitVec 40
  units  : Nat
  /-- Elements read so far. -/
  read   : List (BitVec 40)
  /-- VDOT: the accumulator as it stands inside the unit, and whether a step saturated. -/
  acc    : BitVec 40
  sat    : Bool
deriving DecidableEq, Repr

/-- The engine beside its registers of R219 to R226. -/
structure Engine where
  x      : FMap (BitVec 40)
  xh     : FMap (BitVec 40)
  acc    : FMap (BitVec 40)
  pc     : Nat
  sat    : Bool
  vr     : Bool
  abnd   : Bool
  rfail  : Bool
  /-- The C0 handler runs. -/
  hnd    : Bool
  frm    : Nat
  fflags : BitVec 5
  /-- The suspended long instruction: PROG.VALID when there is one. -/
  prog   : Option LongOp
  /-- RESUME has given the suspended instruction back to the program: it goes on when it is next executed. -/
  resumed : Bool
  epc    : Nat
  /-- The running handler interrupted a long instruction, so EPC names it (R211). -/
  intLong : Bool
  c0Conv : BitVec 8
  c0Reason : Nat
  c0Pend : Nat
  c0Idle : Bool
  vidx   : Nat
  cycle  : Nat
  /-- Bit 0 of SEL as a standard program reads it at its window opening (R266). -/
  sel    : Bool
  /-- The program runs in the window. -/
  running : Bool
  /-- The volley's work has ended: by a counted DONE, a stop or a discarded DONE. -/
  ended  : Bool
  /-- The window entry waits for the RESUME of a handler entered while idle (R198). -/
  waitC  : Bool
  /-- Handler entries of the engine volley (R210). -/
  entries : Nat
  /-- C0 events crossing into the engine: converters and REASON. -/
  c0In   : List (BitVec 8 × Nat)
  /-- Converters and count of the events coalesced since the last entry. -/
  coalesced : BitVec 8
  nCoalesced : Nat
  /-- Events were coalesced while the engine ran no window (R212). -/
  dormant : Bool
  imem   : FMap (BitVec 32)
  dmem   : FMap (BitVec 40)
  container : Option Container
  /-- The committed output copy: 1,024 words per slot (R197), and the arms its records are for. -/
  committed : FMap (BitVec 40)
  /-- The words of the sync region as they stood at the last counted DONE (R329). -/
  syncWords : List (BitVec 40)
  /-- The outputs are held: every VALID counts as 0 (R201). -/
  held   : Bool
  /-- Event words staged in the engine volley, and how many have counted toward the 64 (R500). -/
  staged : List (BitVec 32)
  stagedN : Nat
  prevOvr : Bool
  /-- ENABLE changes at the next boundary. -/
  enable : Option Bool
  /-- A module fence is ordered with its cause code; and the one in force (R526). -/
  fenceWant : Option Nat
  fenceCause : Option Nat
  /-- STATE outside a debug halt. -/
  stateWas : Nat
  /-- The migration of which the engine is the source: its target, and COPY, as its START gave them (R218). -/
  mig : Option (Nat × Bool)
  /-- RUN has reached YIELD_RUN and has not returned to 0 since (R200). -/
  yieldOn : Bool
  /-- Instructions to be rewritten from the container (R215). -/
  repair : List Nat
  /-- The migration in hand is the module's own (R528). -/
  autoMig : Bool
  /-- The corrected errors and the uncorrectable data words of the last hour (R528): TB3 seconds. -/
  corrAt : List Nat
  ueccAt : List Nat
deriving DecidableEq, Repr

def Engine.reset : Engine :=
  { x := [], xh := [], acc := [], pc := 0, sat := false, vr := false, abnd := false, rfail := false, hnd := false,
    frm := 0, fflags := 0, prog := none, resumed := false, epc := 0, intLong := false, c0Conv := 0, c0Reason := 0,
    c0Pend := 0, c0Idle := false, vidx := 0, cycle := 0, sel := false, running := false, ended := false, waitC := false,
    entries := 0, c0In := [], coalesced := 0, nCoalesced := 0, dormant := false, imem := [], dmem := [],
    container := none, committed := [], syncWords := [], held := true, staged := [], stagedN := 0, prevOvr := false, enable := none,
    fenceWant := none, fenceCause := none, stateWas := 0, mig := none, yieldOn := false, repair := [], autoMig := false, corrAt := [], ueccAt := [] }

/-! ### Traffic (R409, R420, R421) -/

/-- Granules that wait, each with whether its wait is counted; whose turn is next by port and class; what each function's C3 bucket
lacks, in thousandths of a token, at a TB3 in ns. -/
structure QosUnit where
  waiting : List (Granule × Bool)
  turns   : FMap Nat
  bulk    : FMap (Nat × Nat)
  /-- The function each host port's fetch arbiter served last, within its port (R376). -/
  fetched : FMap Nat
  /-- Activations of each DRAM row in the present refresh interval (R416). -/
  rows    : FMap Nat
deriving DecidableEq, Repr

def QosUnit.reset : QosUnit := ⟨[], [], [], [], []⟩

/-! ### Time bases (R442 to R450) -/

/-- One time base (R443). -/
structure TimeBase where
  sec  : Nat
  ns   : Nat
  frac : Nat
deriving DecidableEq, Repr

def TimeBase.reset : TimeBase := ⟨0, 0, 0⟩

/-! ### Tandem (R322 to R343) -/

/-- A set-point of a converter (R252): VALUE and ACCEPT as the engines read them. -/
structure SetPoint where
  value  : BitVec 40
  accept : BitVec 40
deriving DecidableEq, Repr

def SetPoint.reset : SetPoint := ⟨0, 0⟩

/-- A watch of 16 volleys after the start rule (R340): volleys left, the one in hand with them, returns counted, and those that carry SOK = 0 with
an EPOCH_LO other than the module's own. -/
structure EpochHunt where
  left  : Nat
  total : Nat
  other : Nat
deriving DecidableEq, Repr

/-- The tandem control beside its registers. -/
structure Tandem where
  /-- The tick from which the module has been READY or ACTIVE (R550). -/
  upAt     : Nat
  /-- A yield is due at the next volley boundary (R333): commanded, under R341. -/
  yieldDue : Option (Bool × Bool)
  /-- The tick at which it was first wanted. -/
  yieldAt  : Nat
  /-- A serve-assembler mismatch without a READY twin: neither strobe nor serve at the next boundary (R334). -/
  mute     : Bool
  /-- The yield that is due comes from such a mismatch: without a READY twin at the boundary the module is mute instead. -/
  muteHeld : Bool
  /-- The error of a standby's TB1 against the twin's in units of 2^-32 ns, as last measured (R447). -/
  tb1Error : Option Int
  /-- TKOV_IN shows READY (R325). -/
  readyIn  : Bool
  /-- TKOV_IN shows HOLD, also before the module takes part in a tandem (R322). -/
  holdIn   : Bool
  /-- Counter tick from which the wait of the start rule counts (R323). -/
  waitFrom : Nat
  /-- TB1 at a volley boundary of the twin, from its last SHADOW frame (R329, R448). -/
  twinTb1  : Option Nat
  /-- The last STATUS frame, and the spokes it shows a locked burst on. -/
  twin     : Option StatusFrame
  twinLocked : BitVec 128
  /-- Lanes in use. -/
  lanes    : BitVec 4
  /-- Counter tick at which HOLD was recognised as lost (R337). -/
  holdLost : Option Nat
  /-- The YIELD frame received: epoch and mask. -/
  yieldIn  : Option (BitVec 16 × BitVec 8)
  /-- The takeover decision was made at this counter tick (R336). -/
  decided  : Option Nat
  /-- The transmitters were enabled for a takeover, and the first serve is to come (R337). -/
  taking   : Bool
  /-- The first serve of a takeover is the next one sent, with this mask to be sent after its strobe (R338). -/
  firstMask : Option (BitVec 8)
  /-- The SHADOW frame for the coming window, the last one applied, and consecutive frames missing (R330). -/
  shadow   : Option ShadowFrame
  applied  : Option ShadowFrame
  missing  : Nat
  /-- Strobes sent since the last SHADOW frame (R338). -/
  strobes  : Nat
  /-- The SHADOW frame last sent, and the last YIELD frame: epoch and mask. -/
  shadowSent : Option ShadowFrame
  yieldSent  : Option (BitVec 16 × BitVec 8)
  /-- The STATUS frame of the last boundary (R328). -/
  statusSent : Option StatusFrame
  /-- A RESET frame was sent (R328): how many. -/
  resetsSent : Nat
  hunt     : Option EpochHunt
deriving DecidableEq, Repr

def Tandem.reset : Tandem :=
  { upAt := 0, yieldDue := none, yieldAt := 0, mute := false, muteHeld := false, tb1Error := none, readyIn := false, holdIn := false, waitFrom := 0, twinTb1 := none, twin := none, twinLocked := 0,
    lanes := 0, holdLost := none, yieldIn := none, decided := none, taking := false, firstMask := none, shadow := none,
    applied := none, missing := 0, strobes := 0, shadowSent := none, yieldSent := none, statusSent := none, resetsSent := 0, hunt := none }

/-! ### Housekeeping (R532 to R538) -/

/-- The margin actions in force (R533, R534). -/
structure Cadence where
  /-- Rail raises in force. -/
  raised     : Nat
  /-- Consecutive updates below K_SHED since C3 was shed. -/
  belowShed  : Nat
  /-- Consecutive updates below K_YIELD with C2 shed. -/
  belowYield : Nat
  /-- Shedding ordered by cadence: 0 none, 1 C3, 2 C3 and C2. -/
  shed       : Nat
  /-- The cadence yield condition is live. -/
  yieldLive  : Bool
  /-- Consecutive updates with K at or above K_SHED + HYST since shedding last fell (R534). -/
  calm       : Nat
deriving DecidableEq, Repr

def Cadence.reset : Cadence := ⟨0, 0, 0, 0, false, 0⟩

/-- One fan channel's times, in ticks of TB3 (R535). -/
structure FanTime where
  /-- When its state was entered. -/
  since : Nat
  /-- Its last tachometer edge, or the entry of its state. -/
  edge  : Nat
deriving DecidableEq, Repr

def FanTime.reset : FanTime := ⟨0, 0⟩

/-! ### Spokes, cells and arms (R83 to R184) -/

/-- Why a spoke without an admitted cell is awake (R99, R101, R102). -/
inductive Probe where
  | none
  /-- Discovery at bring-up. -/
  | bringUp
  /-- A probe of an empty spoke. -/
  | probe
deriving DecidableEq, Repr

/-- The five timeline registers in force (R26, R152): period in 10 ns steps, offsets in ticks. -/
structure Timeline where
  p10 : Nat
  s   : Nat
  w   : Nat
  c   : Nat
  a   : Nat
deriving DecidableEq, Repr

/-- One entry of the addressed-order section (R126). -/
structure V1Order where
  slot : Nat
  ins  : Bool
  neg  : Bool
deriving DecidableEq, Repr

/-- One edge record (R126, R161). -/
structure Edge where
  time   : BitVec 24
  n      : BitVec 16
  theta  : BitVec 32
  tiekey : BitVec 16
deriving DecidableEq, Repr

/-- An arm record: the arm and its edges (R126). -/
structure ArmRec where
  arm   : Nat
  edges : List Edge
deriving DecidableEq, Repr

/-- An exception entry (R126). -/
structure Exception where
  slot : Nat
  eord : BitVec 4
deriving DecidableEq, Repr

/-- A point request (R126): OP 0 read, 1 write, 2 write-status query. -/
structure PointReq where
  slot  : Nat
  op    : Nat
  point : Nat
  wtag  : BitVec 6
  value : BitVec 40
  /-- The read-back of the cell's outstanding write (R140); not part of the entry on the wire. -/
  back  : Bool
deriving DecidableEq, Repr

/-- A management entry (R132). -/
inductive Mgmt where
  | discOpen (r : Nat) (doff : Nat)
  | assign (uid : BitVec 48) (slot : Nat) (o e : Int) (ver gear f : Nat) (lol : Bool)
  | adjust (slot : Nat) (o e : Int) (newSlot : Nat) (atGc : Bool)
  | refuse (uid : BitVec 48) (reason hold : Nat)
  | release (slot : Nat)
  | resume (slot : Nat)
  | silence (slot : Nat)
  | poll (slot : Nat) (o : Int)
deriving DecidableEq, Repr

/-- An entry that waits for a serve, in the one order of R128 over both kinds. -/
inductive ServeItem where
  | mgmt (m : Mgmt)
  | req (r : PointReq)
deriving DecidableEq, Repr

/-- A serve (R124 to R126); KIND 1 is a bring-up serve. -/
structure Serve where
  kind    : Nat
  gcGear  : Nat
  gcCnt   : Nat
  epoch   : BitVec 16
  volley  : BitVec 32
  sidNow  : BitVec 8
  sidRef  : BitVec 8
  blkMask : BitVec 8
  period  : Nat
  v1      : List V1Order
  arms    : List ArmRec
  exc     : List Exception
  preq    : List PointReq
  mgmt    : List Mgmt
  /-- Its CRC leaves inverted (R537 kind 4). -/
  badCrc  : Bool
deriving DecidableEq, Repr

/-- An ordered set (R121); byte 0 and CHECK follow from it. -/
structure OrderedSet where
  /-- 0x5A strobe, 0xB1 block, 0x7E yield (R121). -/
  osid  : BitVec 8
  epoch : BitVec 16
  byte4 : BitVec 8
  byte5 : BitVec 8
  byte6 : BitVec 8
deriving DecidableEq, Repr

/-- A refused automatic gear change: not tried again while these stand (R103). -/
structure RefusedMemo where
  target   : Nat
  admitted : List Nat
  timeline : Timeline
deriving DecidableEq, Repr

/-- A cell's switching state as the module ordered or knows it (R162, R167). -/
inductive Held where
  | bypassed | insPos | insNeg
deriving DecidableEq, Repr

/-- A spoke beside its registers. -/
structure Spoke where
  probe      : Probe
  /-- Consecutive DISC_OPENs that admitted no further cell (R102), or volleys probed (R101). -/
  discCount  : Nat
  /-- Volleys since the last DISC_OPEN at G1 to G4 (VLY_DISC.EVERY). -/
  discAge    : Nat
  /-- The discovery round in progress: DOFF in ticks and R of the DISC_OPEN that was sent, and the volley boundaries since the
  serve that carried it began (R133). -/
  discOpen   : Option (Nat × Nat × Nat)
  refused    : Option RefusedMemo
  /-- An announced gear change: the gear and the GC_CNT of the next serve, 0 when the next boundary begins volley B (R104). -/
  plan       : Option (Nat × Nat)
  /-- The present volley is the gear-change volley B. -/
  inB        : Bool
  /-- Volley boundaries since volley B of the gear trial (R105). -/
  trialAge   : Nat
  /-- A burst has locked in the present return window. -/
  lockedNow  : Bool
  /-- Consecutive return windows without a locked burst (R96). -/
  noLock     : Nat
  /-- The spoke counts as lost for the yield threshold (R96). -/
  lost       : Bool
  /-- A standby: the offset of the last return heard, in units of 10 ps (R326). -/
  heard      : Option Int
  /-- Return windows since a burst last locked (R328). -/
  sinceLock  : Nat
  /-- Consecutive readings with TX_FAULT (R526). -/
  txFaults   : Nat
  /-- The CTLE step that enters the data path after the next return window (R98). -/
  ctleNext   : Option Nat
  /-- A module fence is ordered, with its cause code (R526); in force from the next boundary. -/
  fenceWant  : Option Nat
  /-- The cause code of the module fence in force. -/
  fenceCause : Option Nat
  /-- The host fence in force, to see FENCE cleared (R109). -/
  hostFenced : Bool
  /-- The spoke is brought up at the next boundary: after a start, or a fence lifted (R102). -/
  restart    : Bool
  /-- SPK_TXDISn is driven low. -/
  txdisLow   : Bool
  /-- The tick at which the transmitter was last ordered awake with its light (R100); none while it is dark. -/
  litAt      : Option Nat
  /-- The spoke is Empty (R101): the tick of the boundary at which it entered, or, once PROBE_S was 0 there, no tick: it stays
  Empty until it is enabled again. -/
  empty      : Option (Option Nat)
  /-- Block ordered sets still due after the strobes of coming serves (R122): converters and serves left. -/
  blkRepeat  : List (BitVec 8 × BitVec 8 × Nat)
  /-- When the last block ordered set of the volley leaves, in units of 10 ps of counter time: it waits until then (R284). -/
  blkLeave   : Option Nat
  /-- The tick of the last block request on the spoke (R283). -/
  blkTick    : Option Nat
  /-- The ordered sets sent since the last volley boundary, in their order, how many of them went at its start, and the place of
  each later one: the 66-bit blocks, or at G0 the code groups, that leave before it (R122). -/
  osSent     : List OrderedSet
  osLead     : Nat
  osAt       : List Nat
  /-- The downstream scrambler, and at G0 the running disparity, before the first bit of the volley (R90). -/
  scr        : BitVec 58
  rd         : Bool
  /-- Entries that wait for a serve, oldest first (R128). -/
  items      : List ServeItem
  /-- The serve assembled for the next volley, and the states it gives the cells that have orders in it or follow its rules. -/
  next       : Option Serve
  orders     : List (Nat × Held)
  /-- The serve sent in the present volley. -/
  sent       : Option Serve
  /-- Bursts counted for the dropped, and for the corrupted return or serve (R537 kinds 3 and 4). -/
  dropCount  : Nat
  crcCount   : Nat
deriving DecidableEq, Repr

def Spoke.reset : Spoke :=
  { probe := .none, discCount := 0, discAge := 0, discOpen := none, refused := none, plan := none,
    inB := false, trialAge := 0, lockedNow := false, noLock := 0, lost := false, heard := none, sinceLock := 8,
    txFaults := 0, ctleNext := none, fenceWant := none, fenceCause := none, hostFenced := false,
    restart := false, txdisLow := false, litAt := none, empty := none, blkRepeat := [], blkLeave := none, blkTick := none, osSent := [], osLead := 0, osAt := [], scr := 0, rd := false,
    items := [], next := none, orders := [], sent := none, dropCount := 0, crcCount := 0 }

/-- LSTATE of a link record (R150). -/
inductive LState where
  | free | assigned | admitted | tail | exception | lost | muted | lol
deriving DecidableEq, Repr

/-- What became of a cell's return in the present volley (R147). -/
inductive RetOutcome where
  /-- The transfer of its sample record was late (R410). -/
  | late
  /-- No burst of the cell has been checked yet. -/
  | awaited
  | inPlace | outOfPlace | noLock | crcFail | stale | epoch
  /-- A burst that names the cell was found in another slot. -/
  | misplaced
  /-- A burst that names another cell was found in this cell's slot. -/
  | displaced
deriving DecidableEq, Repr

/-- A posted point write of a host function (R138, R141), `own` for the module's own ARMBIND writes. -/
structure PostedWrite where
  fn    : Nat
  tag   : BitVec 32
  own   : Bool
  /-- Its function was reset since: its failure is counted, not reported (R377). -/
  orphan : Bool
  point : Nat
  value : BitVec 40
deriving DecidableEq, Repr

/-- The one outstanding write of a cell. -/
structure OutWrite where
  w        : PostedWrite
  wtag     : BitVec 6
  /-- Volley of the first send, once sent. -/
  first    : Option (BitVec 32)
  /-- A read-back has mismatched once already (R140). -/
  mismatch : Bool
  /-- The last answer was UNKNOWN_TAG, and the status query it calls for is due or sent (R139). -/
  unknown  : Bool
deriving DecidableEq, Repr

/-- A FRESH read that waits for a point (R367). -/
structure FreshRead where
  fn    : Nat
  /-- The descriptor among those its function has fetched. -/
  serial : Nat
  point : Nat
  /-- Volley of the request. -/
  since : BitVec 32
  sent  : Bool
deriving DecidableEq, Repr

/-- A cell (spoke and slot) as the module holds it. -/
structure Cell where
  uid        : BitVec 48
  ver        : Nat
  lstate     : LState
  miss       : Nat
  stale      : Nat
  place      : Nat
  rerange    : Nat
  /-- Twice the one-way delay D, in units of 10 ps (R134). -/
  delay2     : Int
  /-- O and E in ticks, as last sent (R132). -/
  o          : Int
  e          : Int
  topGear    : Nat
  /-- Where the slot begins, in UI from the opening of the return window, as the last O sent puts it (R134, R148). -/
  pos        : Nat
  /-- Volleys since the serve that carried ASSIGN; none until it is sent (R135). -/
  assignAge  : Option Nat
  /-- Tail position, when the cell has a tail slot: tail slots stand in the order in which the cells were moved (R148). -/
  tailPos    : Option Nat
  /-- The last 16 returns, newest first: out of place, and the offset in UI (R148). -/
  last16     : List (Bool × Int)
  /-- Volley numbers of the re-ranges of the last 4,096 volleys. -/
  reranges   : List (BitVec 32)
  missRun    : Nat
  inPlaceRun : Nat
  /-- Returns missing for lock or CRC in the present gear trial (R105). -/
  trialMiss  : Nat
  outcome    : RetOutcome
  /-- The sample held: its SID, its key, SAT and SOK; `sampleOk` while it may be used (R131, R166). -/
  sid        : BitVec 8
  vkey       : BitVec 16
  sat        : Bool
  sok        : Bool
  sampleOk   : Bool
  fault      : BitVec 5
  cstate     : Nat
  blk        : Bool
  /-- The state the module last ordered (R167). -/
  belief     : Held
  /-- Point 386 received since admission, in uV (R142, R171). -/
  lsb        : Option Nat
  /-- SWCNT of the last return (R173). -/
  swLast     : Option (BitVec 16)
  budCount   : Nat
  budHeld    : Bool
  /-- Arm and member number of the binding in force at the cell (R159, R160). -/
  member     : Option (Nat × Nat)
  /-- Arm and member number a binding that is being written will give. -/
  newMember  : Option (Nat × Nat)
  /-- An ARMBIND value to be written once the cell and the write in hand allow it (R160). -/
  bindDue    : Option (BitVec 40)
  /-- A serve has carried the ARMBIND write in hand, or an earlier one of the same binding that failed (R160). -/
  bindTold   : Bool
  /-- Member numbers assigned before the newest binding that the cell has not yet confirmed as cleared or moved (R159). -/
  reserved   : List (Nat × Nat)
  /-- Dropped to exceptions (R148), also while the cell counts as lost. -/
  dropped    : Bool
  /-- Declared lost, and not yet 16 consecutive in-place returns since (R149). -/
  wasLost    : Bool
  /-- The point request in the serve of the present volley, and the one whose answer the present volley's
  return carries (R138). -/
  asked      : Option PointReq
  answerTo   : Option PointReq
  /-- The host writes that wait, and the one write outstanding (R138). -/
  queue      : List PostedWrite
  out        : Option OutWrite
  wtag       : BitVec 6
  fresh      : List FreshRead
  /-- Bytes 4 to 11 of the return of the present volley that passed its CRC (R510). -/
  sample     : Option (BitVec 64)
deriving DecidableEq, Repr

def Cell.reset : Cell :=
  { uid := 0, ver := 0, lstate := .free, miss := 0, stale := 0, place := 0, rerange := 0, delay2 := 0,
    o := 0, e := 0, topGear := 0, pos := 0, assignAge := none, tailPos := none, last16 := [], reranges := [],
    missRun := 0, inPlaceRun := 0, trialMiss := 0, outcome := .awaited, sid := 0, vkey := 0,
    sat := false, sok := false, sampleOk := false, fault := 0, cstate := 0, blk := false,
    belief := .bypassed, lsb := none, swLast := none, budCount := 0, budHeld := false,
    member := none, newMember := none, bindDue := none, bindTold := false, reserved := [], dropped := false, wasLost := false, asked := none, answerTo := none, queue := [], out := none, wtag := 0, fresh := [], sample := none }

/-- An arm beside its registers. -/
structure Arm where
  rot      : Nat
  /-- COUNT_NOW: the count after the last edge sent (R194). -/
  countNow : Nat
  /-- The edges of the last serve: dropped, moved and clamped masks (R194). -/
  dropped  : BitVec 4
  moved    : BitVec 4
  clamped  : BitVec 4
  /-- The cells and member numbers with a member word in the last input block written for the arm (R184). -/
  block    : List (Nat × Nat)
deriving DecidableEq, Repr

def Arm.reset : Arm := ⟨0, 0, 0, 0, 0, []⟩

/-- One entry of the cell image (R415). -/
structure ImagePoint where
  value  : BitVec 40
  valid  : Bool
  /-- Low 16 bits of the volley of receipt. -/
  volley : BitVec 16
deriving DecidableEq, Repr

def ImagePoint.reset : ImagePoint := ⟨0, false, 0⟩

/-- The volley sequencer (R25 to R29, R125). -/
structure Sequencer where
  /-- Registers VLY_NOW and VLY_NOW2 hold the volley, the sample ID and the epoch; here what they do not. -/
  sidRef      : BitVec 8
  /-- A strobe was sent at the last boundary. -/
  strobe      : Bool
  /-- The present volley has a return window that has not closed (R28). -/
  windowOpen  : Bool
  /-- Staged register values wait for the next boundary (R26). -/
  staged      : Bool
  /-- Where in the volley the module stands (R25): 0 before tick C, 1 before tick A, 2 after it and before the first boundary. -/
  phase       : Nat
deriving DecidableEq, Repr

def Sequencer.reset : Sequencer := ⟨0, false, false, false, 2⟩

/-! ### Protection path and pulse outputs (R277 to R301) -/

/-- The C0 island beside its registers: converters named by a FAULT bit in the return window now open and in the
last completed one (R277), releases that passed tick A (R288), the sideband of each transceiver die lost (R282), and
the filtered level of the two BLOCK_IN pins (R280). -/
structure C0Unit where
  cellNow   : BitVec 8
  cellLive  : BitVec 8
  releasing : BitVec 8
  lost0     : Bool
  lost1     : Bool
  levelA    : Bool
  levelB    : Bool
  /-- The last decision: its tick, the converters it blocked and its REASON (R283). -/
  last      : Option (Nat × BitVec 8 × Nat)
deriving DecidableEq, Repr

/-- An open pin is pulled high (R47, R280). -/
def C0Unit.reset : C0Unit := ⟨0, 0, 0, false, false, true, true, none⟩

/-- A pulse channel beside its registers (R290 to R295). -/
structure LpChan where
  /-- The pair in force. -/
  period : Nat
  cmp    : Nat
  /-- A one-shot run is under way. -/
  shot   : Bool
  /-- The level the counter gives, as it stood when the channel was last not frozen. -/
  level  : Bool
  /-- The dead time after the partner turned off is running. -/
  dead   : Bool
deriving DecidableEq, Repr

def LpChan.reset : LpChan := ⟨2, 0, false, false, false⟩

/-! ### Analogue inputs (R302 to R321) -/

/-- How a conversion was requested (R307, R309). -/
inductive AdcKind where
  | continuous | fill | triggered | urgent
deriving DecidableEq, Repr

/-- A conversion granted and not yet delivered: its sampling instant T_s in counter ticks, the slice it has begun on when that is
no longer the channel's, the ticks its slice is occupied before T_s (R306), and the tick of its request. -/
structure AdcConv where
  kind  : AdcKind
  ts    : Nat
  slice : Option Nat
  lead  : Nat
  req   : Nat
deriving DecidableEq, Repr

/-- A delivered result (R304, R317). -/
structure AdcResult where
  ts    : Nat
  code  : Int
  sat   : Bool
  cmp0  : Bool
  cmp1  : Bool
  calNv : Bool
deriving DecidableEq, Repr

/-- A channel beside its registers: its slice while enabled, the conversions under way in the order of their sampling
instants, the results since the last volley boundary and the one before it, newest first, the consecutive conversions
toward a comparator's change, whether ADC_CHk_CAL has been written with another value than at reset (R313), and the slice that
takes over at the first sampling instant after a tick (R311). -/
structure AdcChan where
  slice   : Option Nat
  convs   : List AdcConv
  results : List AdcResult
  run0    : Nat
  run1    : Nat
  calSet  : Bool
  swap    : Option (Nat × Nat)
deriving DecidableEq, Repr

def AdcChan.reset : AdcChan := ⟨none, [], [], 0, 0, false, none⟩

/-- A SAR slice: its own coefficients, none for the identity, and when it was last calibrated (R311). -/
structure AdcSlice where
  coef : Option (Int × Nat)
  when' : Nat
deriving DecidableEq, Repr

def AdcSlice.reset : AdcSlice := ⟨none, 0⟩

/-- A system calibration step that runs (R313): its channel, its step, the results taken and their sum. -/
structure SysCalRun where
  ch   : Nat
  step : Nat
  n    : Nat
  sum  : Int
deriving DecidableEq, Repr

/-- System calibration: the step that runs, and channel and Z of a completed step 1. -/
structure SysCal where
  run  : Option SysCalRun
  zero : Option (Nat × Int)
deriving DecidableEq, Repr

def SysCal.reset : SysCal := ⟨none, none⟩

/-! ### Station ports (R426 to R440) -/

/-- A new sample of a subscription (R434, R435). -/
structure SvSample where
  cnt    : Nat
  synced : Bool
  values : List SvValue
  /-- TB2 at its time-stamp point, ns. -/
  stamp  : Nat
  /-- Counter tick at which its parse completed, and the port its frame came from. -/
  done   : Nat
  port   : Nat
deriving DecidableEq, Repr

/-- A subscription beside its registers: the samples used, newest first. -/
structure SvSub where
  samples : List SvSample
deriving DecidableEq, Repr

def SvSub.reset : SvSub := ⟨[]⟩

/-- A GOOSE filter beside its registers: the last stNum passed, and tick and timeAllowedToLive (ms) of the last
matching frame (R437). -/
structure GooseFilter where
  stNum : Option (BitVec 32)
  last  : Option (Nat × Nat)
deriving DecidableEq, Repr

def GooseFilter.reset : GooseFilter := ⟨none, none⟩

/-- A frame the bridge forwarded (R429 to R431): correctionField of a PTP frame, and whether its FCS was inverted. -/
structure Forwarded where
  frame      : StationFrame
  correction : Option Int
  stomped    : Bool
deriving DecidableEq, Repr

/-- The answer to a reset frame (R440). -/
structure ResetReply where
  mac     : BitVec 48
  status  : Status
  counter : BitVec 64
  serial  : BitVec 64
deriving DecidableEq, Repr

/-- A station port beside its registers: the last frame forwarded out of it, the last reset answer, and the second of
TB3 in which reset frames are being counted, with their number (R439). -/
structure StpPort where
  forwarded : Option Forwarded
  /-- The forwarded frames that wait for the port: the tick at which each leaves, and its bytes (R430). -/
  store     : List (Nat × Nat)
  reply     : Option ResetReply
  rstSec    : Nat
  rstCount  : Nat
deriving DecidableEq, Repr

def StpPort.reset : StpPort := ⟨none, [], none, 0, 0⟩

/-- What a frame handed to firmware holds: the PTP queue of MGC3 and the station queue of the application cores. -/
structure StationItem where
  port  : Nat
  frame : StationFrame
  /-- TB0 at the time-stamp point: seconds, nanoseconds and fraction. -/
  stamp : TimeBase
deriving DecidableEq, Repr

/-- A sum kept for a two-step Sync (R431): domain, sourcePortIdentity, sequenceId and the sum. -/
structure TcEntry where
  domain : BitVec 8
  source : BitVec 80
  seq    : BitVec 16
  sum    : Int
deriving DecidableEq, Repr

/-- The station unit beside its ports. -/
structure StpUnit where
  tc       : List TcEntry
  /-- Sampled-value frames taken in the present second of TB3 (R436). -/
  svSec    : Nat
  svCount  : Nat
  ptpQueue : List StationItem
  apcQueue : List StationItem
deriving DecidableEq, Repr

def StpUnit.reset : StpUnit := ⟨[], 0, 0, [], []⟩

/-! ### Time bases, what their registers do not hold (R444 to R450) -/

/-- Writes of TB0 that take effect at the next tick, the last SYNC_DECL, and the PPS pins. -/
structure TimeUnit where
  /-- INC_NS and INC_FRAC of TB0. -/
  inc    : Option (Nat × Nat)
  adj    : Int
  /-- SEC and NS. -/
  set    : Option (Nat × Nat)
  /-- Counter tick of the last SYNC_DECL = 1. -/
  syncAt : Nat
  /-- TBS_PPS_OUT is high until this counter tick. -/
  ppsUntil : Nat
  /-- Counter tick of the previous TBS_PPS_IN edge. -/
  ppsIn  : Option Nat
  /-- Counter tick and TB2 count of the last volley boundary. -/
  boundaryTick : Nat
  boundaryTb2  : Nat
  /-- TB1 at the last volley boundary (R329). -/
  boundaryTb1  : Nat
deriving DecidableEq, Repr

def TimeUnit.reset : TimeUnit := ⟨none, 0, none, 0, 0, none, 0, 0, 0⟩

/-! ### Disturbance recorder (R509 to R519) -/

/-- One 16-byte entry, with the volley it belongs to (R510, R511). -/
structure RecEntry where
  ts     : BitVec 32
  kind   : BitVec 8
  index  : BitVec 8
  aux    : BitVec 16
  data   : BitVec 64
  volley : BitVec 32
deriving DecidableEq, Repr

/-- A trigger source that has fired (R513): its source code, its AUX and its instant. -/
structure RecFire where
  source : Nat
  aux    : Nat
  ts     : BitVec 32
  volley : BitVec 32
  /-- STATE of the definition as it fired (R512). -/
  state  : Nat
deriving DecidableEq, Repr

/-- Lost entries that form the next gap entry (R514). -/
structure RecGap where
  first : BitVec 32
  last  : BitVec 32
  count : Nat
deriving DecidableEq, Repr

/-- A capture definition beside its registers. -/
structure RecDef where
  /-- The segment being filled: its address in the ring, and the entries it holds after its header. -/
  seg     : Nat
  cap     : Nat
  /-- Volley of the arming. -/
  armed   : BitVec 32
  /-- Entries in the segment being filled, oldest first; those written since the arming; the volley of the newest
  overwritten one. -/
  entries : List RecEntry
  written : Nat
  overwritten : Option (BitVec 32)
  /-- Entries that wait in the staging store, oldest first. -/
  stage   : List RecEntry
  gap     : Option RecGap
  /-- Entries lost in gaps since the arming. -/
  lost    : Nat
  /-- The volley whose bytes are counted, and the bytes. -/
  volley  : BitVec 32
  bytes   : Nat
  /-- Sources that have fired and are not marked yet. -/
  fires   : List RecFire
  /-- The honoured trigger. -/
  trigger : Option RecFire
  /-- A cross trigger was honoured in this volley: it does not pass on. -/
  crossed : Option (BitVec 32)
deriving DecidableEq, Repr

def RecDef.reset : RecDef := ⟨0, 0, 0, [], 0, none, [], none, 0, 0, 0, [], none, none⟩

/-- A finished capture in the ring (R515). -/
structure Capture where
  d           : Nat
  seg         : Nat
  preShort    : Bool
  gaps        : Bool
  source      : Nat
  trigVolley  : BitVec 32
  trigTs      : BitVec 32
  firstVolley : BitVec 32
  lastVolley  : BitVec 32
  bytes       : Nat
  first       : Nat
  lost        : Nat
  /-- Entries the segment holds after its header. -/
  cap         : Nat
  entries     : List RecEntry
deriving DecidableEq, Repr

/-! ### Safety island (R457 to R482) -/

/-- Why an output is locked out (R472). -/
inductive LockCause where
  | island
  | pair (p : Nat)
  | output
  | reset
deriving DecidableEq, Repr

/-- A safety input land (R463): its level as last sampled and since when it has held it, the level taken, and the bounces
of the last second. Times count 50 us samples. -/
structure SafLand where
  level   : Bool
  since   : Nat
  taken   : Bool
  bounces : List Nat
deriving DecidableEq, Repr

/-- A pair (R464): the fault latched (1 discrepancy, 2 chatter, 3 plausibility) and whether its cause is gone; since when its
channels differ, and since when it is OPERATE. -/
structure SafPair where
  fault   : Option Nat
  gone    : Bool
  differ  : Option Nat
  operate : Option Nat
deriving DecidableEq, Repr

/-- A function (R466, R467): ENABLE; a reset is awaited; two-hand: both pairs were DEMAND at once since the last drop, and when
the first reached OPERATE; guard door: since when every guarded output is off and read back so, and the lock released. -/
structure SafFn where
  enable  : Bool
  waiting : Bool
  armed   : Bool
  first   : Option Nat
  offFrom : Option Nat
  unlock  : Bool
deriving DecidableEq, Repr

/-- An output (R468 to R472): what locks it out, when it last changed, whether its read-back has matched since, since when it
does not match, and which switch is tested next. -/
structure SafOut where
  locks   : List LockCause
  changed : Nat
  matched : Bool
  bad     : Option Nat
  lowNext : Bool
  /-- When it was last turned on or tested, and when a fault of its own last locked it out. -/
  tested  : Nat
  faultAt : Nat
  /-- The tick at which the off pulse began (R470). -/
  pulseAt : Nat
deriving DecidableEq, Repr

/-- A connection (R474 to R477): channel levels and SEQ of the last message, once one was accepted or sent, and when that was. -/
structure SafConn where
  a   : Bool
  b   : Bool
  seq : Option (BitVec 32)
  at' : Nat
deriving DecidableEq, Repr

/-- The DATA of a produced message (R475). -/
structure Produced where
  seq    : BitVec 32
  enable : BitVec 8
  outs   : BitVec 8
  flags  : BitVec 8
  crc    : BitVec 32
  ver    : BitVec 16
deriving DecidableEq, Repr

def SafLand.reset : SafLand := ⟨false, 0, false, []⟩
def SafPair.reset : SafPair := ⟨none, false, none, none⟩
def SafFn.reset : SafFn := ⟨false, true, false, none, none, false⟩
/-- Every output is locked out by the module reset (R472). -/
def SafOut.reset : SafOut := ⟨[.reset], 0, false, none, false, 0, 0, 0⟩
def SafConn.reset : SafConn := ⟨false, false, none, 0⟩

/-- The island beside its registers: its time in 50 us samples, the pending set and the set in force, SEQ of the last PARAM
message accepted, consecutive cycles in which the channels disagreed, when the island faults of the last 24 h came (TB3
seconds), whether the next edge of SRST_IN is ignored, and the safety messages taken in the present second of TB3; when the pending set came and
since when SRST_IN is low; and the counter tick of the fault that stands, with whether it is one of VSAF. -/
structure SafUnit where
  now      : Nat
  lands    : FMap SafLand
  pairs    : FMap SafPair
  fns      : FMap SafFn
  outs     : FMap SafOut
  conns    : FMap SafConn
  pend     : Option ParamSet
  inForce  : Option ParamSet
  paramSeq : Option (BitVec 32)
  differ   : Nat
  faults   : List Nat
  ignore   : Bool
  msgSec   : Nat
  msgCount : Nat
  sent     : FMap (Option Produced)
  pendAt   : Nat
  lowFrom  : Option Nat
  faultAt  : Nat
  vsaf     : Bool
deriving DecidableEq, Repr

def SafUnit.reset : SafUnit :=
  { now := 0, lands := [], pairs := [], fns := [], outs := [], conns := [], pend := none, inForce := none, paramSeq := none,
    differ := 0, faults := [], ignore := false, msgSec := 0, msgCount := 0, sent := [], pendAt := 0, lowFrom := none, faultAt := 0, vsaf := false }

/-! ### Scheduler and interrupt hub (R485 to R497) -/

/-- A task beside its registers: the counter tick at which it entered its ready list, and the CODE a command that switched
returns when the task runs again (R488). -/
structure Task where
  readyAt : Nat
  ret     : Option Nat
deriving DecidableEq, Repr

def Task.reset : Task := ⟨0, none⟩

/-- The scheduler beside its registers: the ready lists by priority, oldest first; the two delay lists as (wake tick, task) in
order; volley boundaries counted (R489); the last result of each core's SCH_CMD (R488); and the fenced cores whose lift
waits for the boundary (R527). -/
structure SchUnit where
  tasks   : FMap Task
  ready   : FMap (List Nat)
  us      : List (Nat × Nat)
  vol     : List (Nat × Nat)
  volleys : Nat
  result  : FMap Nat
  lifting : List Nat
deriving DecidableEq, Repr

def SchUnit.reset : SchUnit := ⟨[], [], [], [], 0, [], []⟩

/-- A core at the hub: its stack of (priority, source), top first; what its last read of IRQ_CLAIM returned; IRQ_CLAIMED; and
the vector at which it last entered a trap, none for mtvec (R494 to R496). -/
structure IrqCore where
  stack   : List (Nat × Nat)
  claim   : Nat
  claimed : Nat
  entry   : Option Nat
deriving DecidableEq, Repr

def IrqCore.reset : IrqCore := ⟨[], 0, 0, none⟩

/-- How often a source's pending bit was set in a 1 ms window of TB3 (R497). -/
structure IrqRate where
  win : Nat
  n   : Nat
deriving DecidableEq, Repr

def IrqRate.reset : IrqRate := ⟨0, 0⟩

end Sys2Proof.Machine
end

