-- ==== Sys2Proof/Machine/State.lean ====
section
/-! DEFINITION. The state of the VKS-9216 as plain data, the reasons a command can stop, and the module right
after a power-on reset. -/

namespace Sys2Proof.Machine

/-- Why the block stops with a fault. No command of this model stops so: the module answers every event with
a next state, and an access the manual forbids is discarded and recorded (R21). -/
inductive Fault where
  /-- Raised by no command; kept so that the type names the case. Safe. -/
  | none
deriving DecidableEq, Repr

/-- Why a command is refused. -/
inductive Refusal where
  /-- The command has no meaning in the model yet; raised by Machine/Dispatch.lean alone. Safe. -/
  | notModelled (mnemonic : String)
deriving DecidableEq, Repr

/-- The whole state. -/
structure State where
  /-- Every field of every set-up register, as last written or updated. -/
  regs      : RegFile
  /-- The values in force of the staged registers (R26). -/
  force     : RegFile
  rst       : ResetUnit
  /-- Boot flashes BFA (0) and BFB (1). -/
  flash     : FMap Flash
  staging   : Option Staging
  /-- The two feeds: 0 PWR_A, 1 PWR_B (R39). -/
  feeds     : FMap FeedUnit
  fuses     : FuseUnit
  /-- The lifecycle value the key store holds: 1 PROVISIONED, 2 COMMISSIONING, 3 FIELD (R403). -/
  keyLc     : Nat
  /-- The SRAM bank hash key drawn at the start (R20, R69). -/
  bankKey   : BitVec 40
  sec       : SecStore
  host      : FMap HostFn
  hostMem   : HostMem
  tnd       : Tandem
  /-- History queues by unit: 0 to 18 blocks, 100 + n spoke n, 300 + n engine n. -/
  hist      : FMap History
  /-- The module log ring (R524). -/
  log       : FMap LogRec
  /-- Time bases TB0 to TB3. -/
  tb        : FMap TimeBase
  cad       : Cadence
  /-- Fan channels' times, by channel (R535). -/
  fans      : FMap FanTime
  /-- Shedding in force at the DRAM controller (R419): 0 none, 1 C3, 2 C3 and C2. -/
  dramShed  : Nat
  qos       : QosUnit
  seqr      : Sequencer
  /-- Event queues EQ0 to EQ59. -/
  eq        : FMap EventQ
  engines   : FMap Engine
  spokes    : FMap Spoke
  /-- Cells, by 128 x spoke + slot (R10). -/
  cells     : FMap Cell
  arms      : FMap Arm
  /-- The cell image: point values by 512 x cell + point (R138). -/
  image     : FMap ImagePoint
  c0        : C0Unit
  /-- Pulse channels LP0 to LP15. -/
  lp        : FMap LpChan
  /-- Analogue channels CH0 to CH27, their slices by 7 x group + slice, and system calibration. -/
  adc       : FMap AdcChan
  slices    : FMap AdcSlice
  sysCal    : SysCal
  /-- Trigger generators whose pulse channel has changed in their direction, the event not yet taken (R308). -/
  tgDue     : List Nat
  /-- Set-points by 5 x converter + code: as last accepted, and the snapshot of the present volley (R27, R252). -/
  setNow    : FMap SetPoint
  setSnap   : FMap SetPoint
  /-- Station ports, subscriptions and filters beside their registers. -/
  stp       : StpUnit
  ports     : FMap StpPort
  subs      : FMap SvSub
  goose     : FMap GooseFilter
  time      : TimeUnit
  /-- Capture definitions, and finished captures by the byte address of their segment in the ring (R414). -/
  recs      : FMap RecDef
  captures  : FMap (Option Capture)
  saf       : SafUnit
  sch       : SchUnit
  irqCores  : FMap IrqCore
  irqRates  : FMap IrqRate
  /-- The access-fault status and history of each core (R21). -/
  coreFault : FMap CoreUnit
  /-- Bytes of the cycle SRAM and of the stacked DRAM by physical address, where no other field holds them (R20, R411, R414);
  an unlisted byte is 0, as clearing and initialising leave it. -/
  mem       : FMap (BitVec 8)
  /-- Local memories: 131,072 bytes of MGC0 to MGC3, 65,536 of each SFC pair, and the 65,536 bytes each of the instruction and the data cache
  of APC0 to APC23, by 2^17 x (core, 4 + pair, or 6 + core) (R19; log 94). -/
  coreMem   : FMap (BitVec 8)
  /-- The key of the DRAM interleave, drawn at every cold start (R414). -/
  dramKey   : BitVec 40
  /-- The model's own counter of free values used. -/
  freeCtr   : Nat
  /-- Cores and engines halted by debug: 0 to 23 APC, 24 to 27 MGC, 28 to 31 SFC, 32 + n engine n (R295). -/
  halted    : List Nat
  /-- The commands that wait, first in first out. -/
  pending   : List Instr
deriving DecidableEq, Repr

/-- The module right after a power-on reset (R60, R64), before the start sequence. -/
def State.reset : State :=
  { regs := [], force := [],
    rst := { phase := .waitClock, porstLow := false, resetnLow := false, backupIntact := false,
             atBoundary := none, ordered := none, recoveryDone := none, doneAt := 0, healthEnd := 0, startWdt := true,
             runWdt := false, startFor := 0, runFor := 0, tamperDue := false, deferred := false, mirror := false, saved := false, primary := 0 },
    flash := [], staging := none, feeds := [],
    fuses := { otp := [], stored := [], unsafeW := [] }, keyLc := 1, bankKey := 0,
    sec := SecStore.reset, host := [], hostMem := ⟨[], [], [], []⟩, tnd := Tandem.reset, hist := [], log := [], tb := [], cad := Cadence.reset, fans := [], dramShed := 0, qos := QosUnit.reset,
    seqr := Sequencer.reset, eq := [], engines := [], spokes := [], cells := [], arms := [], image := [], c0 := C0Unit.reset, lp := [], adc := [], slices := [], sysCal := SysCal.reset, tgDue := [],
    setNow := [], setSnap := [], stp := StpUnit.reset, ports := [], subs := [], goose := [], time := TimeUnit.reset, recs := [], captures := [], saf := SafUnit.reset, sch := SchUnit.reset, irqCores := [], irqRates := [], coreFault := [], mem := [], coreMem := [], dramKey := 0,
    freeCtr := 0, halted := [], pending := [] }

end Sys2Proof.Machine
end

