-- ==== Sys2Proof/Machine/Ops.lean ====
section
/-! DEFINITION. The named operations every meaning is built from: reading and writing register fields,
counters, events with their history and log entries (R520 to R524), time stamps, free values, staged
registers, yield conditions, and the rights of R23. -/

namespace Sys2Proof.Machine

/-! ### Register fields -/

/-- The value of a register field. -/
def State.rd (s : State) (f : Field) : Nat := s.regs.get f

/-- Set a register field. -/
def State.wr (s : State) (f : Field) (v : Nat) : State := { s with regs := s.regs.set f v }

/-- A one-bit field as a Boolean. -/
def State.flag (s : State) (f : Field) : Bool := s.rd f != 0

/-- Set a one-bit field from a Boolean. -/
def State.wrB (s : State) (f : Field) (b : Bool) : State := s.wr f (if b then 1 else 0)

/-- Set several fields in turn. -/
def State.wrs (s : State) : List (Field × Nat) → State
  | [] => s
  | p :: t => (s.wr p.1 p.2).wrs t

/-- The value in force of a staged field (R26). -/
def State.inForce (s : State) (f : Field) : Nat := s.force.get f

/-- Add to a counter that saturates at its field's largest value. -/
def State.bump (s : State) (f : Field) (n : Nat := 1) : State :=
  s.wr f (min (s.rd f + n) (2 ^ f.width - 1))

/-- Add to a counter that wraps to 0. -/
def State.bumpWrap (s : State) (f : Field) (n : Nat := 1) : State := s.wr f (s.rd f + n)

/-- Return every field of a register range to its reset value. -/
def State.resetRange (s : State) (lo hi : Nat) : State :=
  { s with regs := FMap.clearRange s.regs (lo * 32) (hi * 32) }

/-! ### Per-index records -/

def State.spoke (s : State) (n : Nat) : Spoke := FMap.get Spoke.reset s.spokes n
def State.setSpoke (s : State) (n : Nat) (f : Spoke → Spoke) : State :=
  { s with spokes := FMap.modify Spoke.reset s.spokes n f }
def State.cell (s : State) (c : Nat) : Cell := FMap.get Cell.reset s.cells c
def State.setCell (s : State) (c : Nat) (f : Cell → Cell) : State :=
  { s with cells := FMap.modify Cell.reset s.cells c f }
def State.arm (s : State) (a : Nat) : Arm := FMap.get Arm.reset s.arms a
def State.setArm (s : State) (a : Nat) (f : Arm → Arm) : State :=
  { s with arms := FMap.modify Arm.reset s.arms a f }
def State.flashOf (s : State) (n : Nat) : Flash := FMap.get Flash.reset s.flash n
def State.setFlash (s : State) (n : Nat) (f : Flash → Flash) : State :=
  { s with flash := FMap.modify Flash.reset s.flash n f }

/-- The key of a cell: 128 x spoke + slot, the cell ID of R10. -/
def cellId (spoke slot : Nat) : Nat := 128 * spoke + slot

/-- The containers loaded, by engine. -/
def State.loaded (s : State) : List (Nat × Container) :=
  s.engines.filterMap (fun p => p.2.container.map (fun c => (p.1, c)))

/-! ### Time -/

/-- A time base. -/
def State.base (s : State) (n : Nat) : TimeBase := FMap.get TimeBase.reset s.tb n

/-- SEC x 10^9 + NS of a base. -/
def TimeBase.count (b : TimeBase) : Nat := b.sec * 1000000000 + b.ns

/-- TS32 of a base (R443). -/
def State.ts32 (s : State) (n : Nat) : BitVec 32 := BitVec.ofNat 32 (s.base n).count

/-! ### Free values -/

/-- A free bit, and the state with the counter advanced. -/
def State.freeBit (s : State) : Bool × State :=
  (Config.freeBit s.freeCtr, { s with freeCtr := s.freeCtr + 1 })

/-- A free natural number, and the state with the counter advanced. -/
def State.freeNat (s : State) : Nat × State :=
  (Config.freeNat s.freeCtr, { s with freeCtr := s.freeCtr + 1 })

/-- A free 40-bit word, and the state with the counter advanced. -/
def State.freeWord (s : State) : BitVec 40 × State :=
  (Config.freeW40 s.freeCtr, { s with freeCtr := s.freeCtr + 1 })

/-! ### Blocks and units (R7, R22, R520) -/

/-- The block a register address lies in: its place in the prefix list of R7 as ordered by R22. -/
def blockOf (addr : Nat) : Nat := (addr - 0x8000000) / 0x100000

/-- The unit whose flag a field is: a spoke, an engine, or a block (R520). -/
def unitOf (f : Field) : Nat :=
  let b := blockOf f.addr
  let o := f.addr % 0x100000
  if b = 0 ∧ o < 0x8000 then 100 + o / 0x100
  else if b = 2 ∧ o < 0x2000 then 300 + o / 0x100
  else b

/-- Index of a block in the prefix list of R7: SPK, VLY, CE, ADC, LPW, SAF, TBS, STP, HIF, SEC, FUS, TND,
RST, HKP, REC, SCH, IRQ, QOS, MEM, which is also the order of the bases of R22. -/
def unitBlock (u : Nat) : Nat := if u < 100 then u else if u < 300 then 0 else 2

/-- UNIT of a log record: the spoke or engine number, 0xFFFF for a block (R524). -/
def unitNumber (u : Nat) : Nat := if u < 100 then 0xFFFF else if u < 300 then u - 100 else u - 300

/-! ### History and log (R522, R524) -/

/-- The 16 bytes of a history entry as one number (R521). -/
def HistEntry.bits (e : HistEntry) : BitVec 128 :=
  BitVec.ofNat 128 (e.ts.toNat + e.volley.toNat * 2 ^ 32
    + (e.reg + e.bit * 2 ^ 20 + e.rep * 2 ^ 25) * 2 ^ 64 + e.detail.toNat * 2 ^ 96)

/-- Number of records the module log holds (R524). -/
def logSize : Nat := 507776

/-- The newest log sequence number. -/
def State.logSeq (s : State) : Nat :=
  s.rd Fld.HKP_LOG_SEQ_LO_SEQ + s.rd Fld.HKP_LOG_SEQ_HI_SEQ * 2 ^ 32

/-- Write or merge the history entry of an event (R522); `true` when a new entry was written. -/
def History.push (h : History) (e : HistEntry) (now : Nat) : History × Bool :=
  let last := FMap.get HistEntry.reset h.entries h.newest
  if 0 < h.count ∧ last.reg = e.reg ∧ last.bit = e.bit ∧ now < h.lastNs + 1000000 then
    ({ h with entries := FMap.set HistEntry.reset h.entries h.newest { last with rep := min (last.rep + 1) 127 } },
     false)
  else
    let i := if h.count = 0 then 0 else (h.newest + 1) % 8
    ({ entries := FMap.set HistEntry.reset h.entries i e, count := min (h.count + 1) 8, newest := i,
       seq := h.seq + 1, lastNs := now }, true)

/-- The history entry an event of flag `f` writes now. -/
def State.histEntry (s : State) (f : Field) (detail : Nat) : HistEntry :=
  { ts := s.ts32 3, volley := BitVec.ofNat 32 (s.rd Fld.VLY_NOW_VOLLEY), reg := f.addr % 0x100000,
    bit := f.lsb, rep := 0, detail := BitVec.ofNat 32 detail }

/-- A unit's history queue. -/
def State.history (s : State) (u : Nat) : History := FMap.get History.reset s.hist u

/-- Append a record to the module log, numbering it (R524); the flag for an overwritten record is the
caller's. -/
def State.logPut (s : State) (kind part block unit : Nat) (body : BitVec 128) : State :=
  let q := s.logSeq + 1
  let r : LogRec := { seq := BitVec.ofNat 64 q, kind := kind, part := part, block := block, unit := unit, body := body }
  let s := { s with log := FMap.set LogRec.reset s.log ((q - 1) % logSize) r }
  (s.wr Fld.HKP_LOG_SEQ_LO_SEQ q).wr Fld.HKP_LOG_SEQ_HI_SEQ (q / 2 ^ 32)

/-- Set a flag and write its history entry; a new entry is also appended to the module log as KIND 0. -/
def State.raiseCore (s : State) (f : Field) (detail : Nat) : State :=
  let u := unitOf f
  let e := s.histEntry f detail
  let (h, new) := (s.history u).push e (s.base 3).count
  let s := { s.wr f 1 with hist := FMap.set History.reset s.hist u h }
  if new then s.logPut 0 0 (unitBlock u) (unitNumber u) e.bits else s

/-- Append a log record; when the ring was full, LOG_WRAP is set (R524). -/
def State.logAppend (s : State) (kind part block unit : Nat) (body : BitVec 128) : State :=
  let full := decide (logSize ≤ s.logSeq)
  let s := s.logPut kind part block unit body
  if full then s.raiseCore Fld.HKP_SVC_EVT_LOG_WRAP 0 else s

/-- An event: its flag is set, whether or not it was already, and its history entry written (R520 to R523). -/
def State.raise (s : State) (f : Field) (detail : Nat := 0) : State :=
  let wraps := decide (logSize ≤ s.logSeq)
  let s := s.raiseCore f detail
  if wraps then s.raiseCore Fld.HKP_SVC_EVT_LOG_WRAP 0 else s

/-- Raise an event only when a condition holds. -/
def State.raiseIf (s : State) (b : Bool) (f : Field) (detail : Nat := 0) : State :=
  if b then s.raise f detail else s

/-! ### Who may write (R21, R23) -/

/-- The number under which a core's access faults are recorded. -/
def coreKey : Core → Nat
  | .apc n => n.val
  | .mgc n => 24 + n.val
  | .sfc n => 28 + n.val

/-- Whether a core may write a block (R23); MGC0 and MGC3 reach FUS only to clear its W1C flags. -/
def mayWrite (u : Core) (block : Nat) : Bool :=
  match u with
  | .apc _ => false
  | .mgc n =>
    if n.val = 0 ∨ n.val = 3 then block != 5
    else if n.val = 1 then block == 11 || block == 1
    else block == 13
  | .sfc _ => block == 5

/-- A forbidden access is discarded, and the core that asked records an access fault in its status and in its history (R21).
DESIGN CHOICE (log 124): a core has no register block, so the entry carries REG 0, BIT 0 and, as DETAIL, the address. -/
def State.accessFault (s : State) (u : Core) (a : Nat) : State :=
  let e : HistEntry := { ts := s.ts32 3, volley := BitVec.ofNat 32 (s.rd Fld.VLY_NOW_VOLLEY), reg := 0, bit := 0, rep := 0,
                         detail := BitVec.ofNat 32 a }
  { s with coreFault := FMap.modify CoreUnit.reset s.coreFault (coreKey u) (fun x => ⟨true, (x.hist.push e (s.base 3).count).1⟩) }

/-- Carry out a register write if the core may write the block, else record the access fault at the block's base. -/
def State.asWriter (s : State) (u : Core) (block : Nat) (k : State → State) : State :=
  if mayWrite u block then k s else s.accessFault u (0x8000000 + block * 0x100000)

/-! ### Bits of a word field -/

/-- Bit `i` of a number. -/
def bitOf (v i : Nat) : Bool := Nat.testBit v i

/-! ### Staged registers (R26) -/

/-- Copy the fields of the address range `[lo, hi)` from one register file to another. -/
def RegFile.copyRange (src dst : RegFile) (lo hi : Nat) : RegFile :=
  (src.filter (fun p => decide (lo * 32 ≤ p.1 ∧ p.1 < hi * 32))).foldl
    (fun d p => FMap.insert p.1 p.2 d) (FMap.clearRange dst (lo * 32) (hi * 32))

/-- The address ranges of the staged registers: VLY timeline, arm set-up, arm ownership, subscriptions and their map. -/
def stagedRanges : List (Nat × Nat) :=
  (0x8100000, 0x8100014) :: (List.range 48).map (fun n => (0x8102000 + 0x20 * n, 0x8102008 + 0x20 * n)) ++
    (List.range 32).map (fun e => (0x8200004 + 0x100 * e, 0x8200008 + 0x100 * e)) ++
    (List.range 64).map (fun k => (0x8701000 + 0x20 * k, 0x8701014 + 0x20 * k)) ++ [(0x8702000, 0x8702280)]

/-- Copy the staged registers from one register file to another. -/
def copyStaged (src dst : RegFile) : RegFile := stagedRanges.foldl (fun d r => RegFile.copyRange src d r.1 r.2) dst

/-! ### The module's role -/

/-- TND_STAT.STATE (R322): 0 Solo, 1 INIT, 2 SYNCING, 3 READY, 4 ACTIVE, 5 YIELDED. -/
def State.tndState (s : State) : Nat := s.rd Fld.TND_STAT_STATE

/-- The module is active in a tandem, or Solo. -/
def State.activeOrSolo (s : State) : Bool := s.tndState == 0 || s.tndState == 4

/-- The module is a standby in the sense of R322. -/
def State.standby (s : State) : Bool := s.tndState == 2 || s.tndState == 3 || s.tndState == 5

/-- The start is complete. -/
def State.started (s : State) : Bool := s.rst.phase == .started


/-- Set or clear bit `i` of a field. -/
def State.wrBit (s : State) (f : Field) (i : Nat) (b : Bool) : State :=
  let v := s.rd f
  s.wr f (if b then (if bitOf v i then v else v + 2 ^ i) else (if bitOf v i then v - 2 ^ i else v))

/-! ### Spokes in service -/

/-- The lifecycle lets spokes serve (R395): COMMISSIONING or FIELD, without SEC_LC.HOLD, in a started module
that is not in Recovery or Hold. -/
def State.mayServe (s : State) : Bool :=
  (s.rd Fld.SEC_LC_STATE == 2 || s.rd Fld.SEC_LC_STATE == 3) && !s.flag Fld.SEC_LC_HOLD && s.started &&
    s.rd Fld.TND_CFG_ROLE != 3

/-- Spoke `n` is Serving (R99): enabled, on an active or Solo module, with an admitted cell, not fenced. -/
def State.serving (s : State) (n : Nat) : Bool :=
  s.flag (Fld.SPK_CFG_ENABLE n) && s.activeOrSolo && s.mayServe && !s.flag (Fld.SPK_STAT_FENCED n) &&
    decide (0 < s.rd (Fld.SPK_STAT_ADMITTED n))

/-- Some spoke of the module is Serving. -/
def State.anyServing (s : State) : Bool := (List.range 128).any (fun n => s.serving n)

/-! ### Yield conditions (R332 to R334) -/

/-- The counter ticks since the start: TB3 counts 1.25 ns at each (R443). -/
def State.nowTick (s : State) : Nat := ((s.base 3).count * 2 ^ 32 + (s.base 3).frac) / (5 * 2 ^ 30)

/-- A yield is wanted from this tick on, beside one that already is; `cmd` and `dual` say why (R333, R335, R341). -/
def State.wantYield (s : State) (cmd dual : Bool) : State :=
  let y := s.tnd.yieldDue.getD (false, false)
  { s with tnd := { s.tnd with
    yieldDue := some (y.1 || cmd, y.2 || dual), yieldAt := if s.tnd.yieldDue.isSome then s.tnd.yieldAt else s.nowTick } }

/-- Raise yield condition `bit`: it is recorded in TND_CAUSE.LIVE; on an active module, when enabled, it
yields at the next boundary with a READY twin, and else sets HELD_NO_TWIN. -/
def State.raiseYield (s : State) (bit : Nat) : State :=
  let s := s.wrBit Fld.TND_CAUSE_LIVE bit true
  if s.tndState = 4 ∧ bitOf (s.rd Fld.TND_CFG_YIELD_EN) bit then
    if s.flag Fld.TND_STAT_TWIN_READY then
      s.wantYield false false
    else s.raise Fld.TND_EVT_HELD_NO_TWIN bit
  else s

/-- The cause of yield condition `bit` is gone. -/
def State.clearYield (s : State) (bit : Nat) : State := s.wrBit Fld.TND_CAUSE_LIVE bit false

end Sys2Proof.Machine
end

