-- ==== Sys2Proof/Machine/Fuses.lean ====
section
/-! DEFINITION. The fuses: reading the words at three margins, safe values and the sticky record (R403,
R404), burning (R405), and the lifecycle state that follows from them. -/

namespace Sys2Proof.Machine

/-- Number of set bits. -/
def popcount (w : BitVec 32) : Nat := ((List.range 32).filter (fun i => w.getLsbD i)).length

/-- The index of the highest set bit plus one; 0 when no bit is set. -/
def highBits (w : BitVec 32) : Nat :=
  (List.range 32).foldl (fun a i => if w.getLsbD i then i + 1 else a) 0

/-- Number of contiguous set bits from bit 0. -/
def lowOnes (w : BitVec 32) : Nat :=
  ((List.range 32).takeWhile (fun i => w.getLsbD i)).length

/-- The read that maximises a measure; the first among equals. -/
def bestRead (m : BitVec 32 → Nat) : BitVec 32 → List (BitVec 32) → BitVec 32
  | b, [] => b
  | b, r :: t => bestRead m (if m b < m r then r else b) t

/-- The safe value of a fuse word (R403): `r` the normal read, `rs` every other read and, for the words that
choose among reads, the stored value. CUST_CFG keeps its N, k and PROV and loses every slot enable; a hash
word reads 0, which disables its slot. -/
def safeValue (w : Nat) (r : BitVec 32) (rs : List (BitVec 32)) : BitVec 32 :=
  if w < 2 then 0
  else if w < 16 then Config.trimDefault w
  else if w = 16 then (rs.foldl (· ||| ·) r) &&& 0xFFFFF83F#32
  else if w < 57 then 0
  else if w = 57 then bestRead highBits r rs
  else if w = 58 then bestRead (fun x => 32 - lowOnes x) r rs
  else if w = 59 then 1
  else if w < 76 then 0
  else if w < 80 then bestRead popcount r rs
  else 0

/-- Whether a word is in the sticky record. -/
def State.sticky (s : State) (w : Nat) : Bool := bitOf (s.rd (Fld.FUS_STICKY_WORDS (w / 32))) (w % 32)

/-- MARG_STICKY counts the words of the sticky record (R408). -/
def State.showSticky (s : State) : State :=
  s.wr Fld.FUS_STAT_MARG_STICKY ((List.range 8).foldl (fun a i => a + popcount (BitVec.ofNat 32 (s.rd (Fld.FUS_STICKY_WORDS i)))) 0)

/-- Add a word to the sticky record, merging what was read into its stored value (R404). -/
def State.addSticky (s : State) (w : Nat) (r : BitVec 32) (rs : List (BitVec 32)) : State :=
  let old := if s.sticky w then [FMap.get 0 s.fuses.stored w] else []
  let v := safeValue w r (rs ++ old)
  let s := { s with fuses := { s.fuses with stored := FMap.set 0 s.fuses.stored w v } }
  ((s.wrBit (Fld.FUS_STICKY_WORDS (w / 32)) (w % 32) true).showSticky).wr Fld.FUS_STAT_LAST w

/-- One word at start step 2 (R404): the value in force, and whether it is the safe value. -/
def State.readFuse (s : State) (w : Nat) (r l h : BitVec 32) : State :=
  let disagree := decide (¬ (r = l ∧ r = h))
  if disagree ∨ s.sticky w then
    let old := if s.sticky w then [FMap.get 0 s.fuses.stored w] else []
    let v := safeValue w r ([l, h] ++ old)
    let s := if disagree then
        (s.addSticky w r [l, h]).wr Fld.FUS_STAT_MARG_START (s.rd Fld.FUS_STAT_MARG_START + 1)
      else s
    let s := { s with fuses := { s.fuses with unsafeW := w :: s.fuses.unsafeW } }
    s.wr (Fld.FUS_WORD_VALUE w) v.toNat
  else s.wr (Fld.FUS_WORD_VALUE w) r.toNat

/-- Read all words at start step 2: the words listed as read, every other as burnt at all three margins. -/
def State.readFuses (s : State) (reads : List FuseRead) : State :=
  let s := ({ s with fuses := { s.fuses with unsafeW := [] } } : State).showSticky
  (List.range 256).foldl (fun s w =>
    match reads.find? (fun r => r.word.val == w) with
    | some r => s.readFuse w r.normal r.low r.high
    | none =>
      let v := FMap.get 0 s.fuses.otp w
      s.readFuse w v v v) s

/-- A fuse word in force. -/
def State.fuse (s : State) (w : Nat) : BitVec 32 := BitVec.ofNat 32 (s.rd (Fld.FUS_WORD_VALUE w))

/-- LC_OPEN and LC_REPROV counts (R403). -/
def State.opens (s : State) : Nat := highBits (s.fuse 57)
def State.reprovs (s : State) : Nat := lowOnes (s.fuse 58)

/-- The lifecycle state (R403): 0 BLANK, 1 PROVISIONED, 2 COMMISSIONING, 3 FIELD, 4 OPENED, 5 RETIRED. -/
def State.lifecycle (s : State) : Nat :=
  if s.fuse 59 ≠ 0 then 5
  else if s.reprovs < s.opens then 4
  else if (s.fuse 16).getLsbD 31 = false then 0
  else s.keyLc

/-- Update the lifecycle registers from the fuses in force (R406). -/
def State.showLifecycle (s : State) : State :=
  (s.wr Fld.SEC_LC_STATE s.lifecycle).wrs
    [(Fld.SEC_LC_OPENS, s.opens), (Fld.SEC_LC_REPROVS, s.reprovs),
     (Fld.SEC_CUST_N, ((s.fuse 16).toNat) % 8), (Fld.SEC_CUST_K, (s.fuse 16).toNat / 8 % 8),
     (Fld.SEC_CUST_SLOT_OK,
      (List.range 5).foldl (fun a i =>
        if (s.fuse 16).getLsbD (6 + i) ∧ 16 ∉ s.fuses.unsafeW ∧
           (List.range 8).all (fun j => !(s.fuses.unsafeW.contains (17 + 8 * i + j)))
        then a + 2 ^ i else a) 0),
     (Fld.RST_FW_RB_FUSED, popcount (s.fuse 76) + popcount (s.fuse 77) + popcount (s.fuse 78) + popcount (s.fuse 79))]

/-- The 256-bit hash held in 8 fuse words from `w` on, least significant word first. -/
def State.fuseHash (s : State) (w : Nat) : Nat :=
  (List.range 8).foldl (fun a j => a + (s.fuse (w + j)).toNat * 2 ^ (32 * j)) 0

/-- The module serial (words 0 and 1). -/
def State.serial (s : State) : BitVec 64 := BitVec.ofNat 64 ((s.fuse 0).toNat + (s.fuse 1).toNat * 2 ^ 32)

/-- The serial's words hold no safe value, so that a TARGET may match (R403). -/
def State.serialOk (s : State) : Bool := !s.fuses.unsafeW.contains 0 && !s.fuses.unsafeW.contains 1

/-- Burn bits into a word and verify it (R405): `verified` is the outcome at the three margins. A good burn is in force at once; a failed
one, whose reads give the word with and without the bits, enters the sticky record and sets BURN_FAIL. -/
def State.burn (s : State) (w : Nat) (bits : BitVec 32) (verified : Bool) : State :=
  let old := FMap.get 0 s.fuses.otp w
  let v := old ||| bits
  let s := { s with fuses := { s.fuses with otp := FMap.set 0 s.fuses.otp w v } }
  if verified then s.wr (Fld.FUS_WORD_VALUE w) v.toNat
  else (s.addSticky w v [old]).raise Fld.FUS_STAT_BURN_FAIL w

end Sys2Proof.Machine
end

