-- ==== Sys2Proof/Machine/Firmware.lean ====
section
/-! DEFINITION. Firmware update (R543 to R555): checking an image, staging, the installed slots, trial and
fall-back, settings records and the mirror copy. -/

namespace Sys2Proof.Machine

/-! ### Checking an image (R545) -/

/-- MIN_STEP is compared with HKP_MODULE_ID[15:8]. -/
def State.stepping (s : State) : Nat :=
  s.rd Fld.HKP_MODULE_ID_STEP_MAJOR * 16 + s.rd Fld.HKP_MODULE_ID_STEP_MINOR

/-- Bytes of header and tables, padded to 4 KiB, plus the payload (R544). -/
def imageSize (im : Image) : Nat :=
  let head := 256 + 32 * im.nblk + (if im.enc then 16 * im.nblk else 0)
  (head + 4095) / 4096 * 4096 + 4096 * im.nblk

/-- The image-signing key slot is enabled and not marginal: none of its 8 words took its safe value. -/
def State.imageSlotOk (s : State) (k : Nat) : Bool :=
  decide (k < 2) && (List.range 8).all (fun j => !(s.fuses.unsafeW.contains (60 + 8 * k + j))) &&
    s.fuseHash (60 + 8 * k) != 0

/-- The checks of R545 in order; the first failure gives the status. -/
def State.checkImage (s : State) (im : Image) : Status :=
  if im.magic ≠ 0xF1A60001 ∨ im.fmt ≠ 1 ∨ ¬ im.resvZero ∨ im.tverLo = 0 ∨ im.tverHi < im.tverLo ∨ 7 < im.tverHi
      ∨ (im.enc ∧ im.target = 0) ∨ im.nblk = 0 ∨ 33554432 < im.length ∨ im.length ≠ imageSize im then .format
  else if ¬ s.imageSlotOk im.keySlot ∨ im.signerHash ≠ s.fuseHash (60 + 8 * im.keySlot) ∨ ¬ im.sigOk then .auth
  else if im.target ≠ 0 ∧ im.target ≠ s.serial then .scope
  else if s.stepping < im.minStep.toNat ∨ im.rollback < s.rd Fld.RST_FW_RB_FUSED then .range
  else if ¬ im.hashesOk then .auth
  else if im.enc ∧ ¬ (im.wrapOk ∧ im.tagsOk) then .auth
  else .ok

/-! ### Slots (R543, R549) -/

/-- Slot `i` of a flash. -/
def Flash.slot (f : Flash) (i : Nat) : ImgSlot := if i = 0 then f.slot0 else f.slot1
def Flash.setSlot (f : Flash) (i : Nat) (x : ImgSlot) : Flash :=
  if i = 0 then { f with slot0 := x } else { f with slot1 := x }

/-- The slot in a given state, if any. -/
def Flash.find (f : Flash) (st : SlotState) : Option Nat :=
  if f.slot0.st = st then some 0 else if f.slot1.st = st then some 1 else none

/-- The slot that holds the older of the two installed images (R72): the one that is not CURRENT. -/
def Flash.older (f : Flash) : Nat := if f.slot0.st = .current then 1 else 0

/-- Install an image in the older slot and mark it CURRENT; the image that was current becomes previous. -/
def Flash.install (f : Flash) (im : Image) (key trial : Bool) : Flash :=
  let o := f.older
  let c := 1 - o
  let was := f.slot c
  let f := if was.st = .current then f.setSlot c { was with st := .previous } else f
  f.setSlot o { st := .current, trial := trial, attempts := 0, image := some im, key := key }

/-- Start step 6: copy a staged image (R72). -/
def Flash.copyStaged (f : Flash) : Flash :=
  match f.staged, f.staging with
  | true, some im =>
    { f.install im f.stagingKey true with staged := false, stagedLen := 0, staging := none, stagingKey := false }
  | _, _ => f

/-- Mark slot `i` BAD and make the PREVIOUS image CURRENT (R549, R551). -/
def Flash.fallBack (f : Flash) (i : Nat) : Flash :=
  let f := f.setSlot i { f.slot i with st := .bad, trial := false }
  match f.find .previous with
  | some j => f.setSlot j { f.slot j with st := .current }
  | none => f

/-- The image in slot `i` passes step 7: it is installed, not BAD, and passes R545; an encrypted image needs
its image key (R546). -/
def State.startable (s : State) (f : Flash) (i : Nat) : Bool :=
  match (f.slot i).image with
  | some im => (f.slot i).st != .bad && s.checkImage im == .ok && (!im.enc || (f.slot i).key)
  | none => false

/-- Start steps 6 and 7 over one flash: the attempt check of R549, then its current and previous images.
Answers the slot to start, the flash after the check, and whether an image failed or was BAD. -/
def State.chooseIn (s : State) (f : Flash) : Option Nat × Flash × Bool :=
  let (f, fell) := match f.find .current with
    | some i => if (f.slot i).trial ∧ s.rd Fld.RST_FW_CFG_TRIAL_STARTS ≤ (f.slot i).attempts
        then (f.fallBack i, true) else (f, decide (f.find .bad ≠ none))
    | none => (f, true)
  match f.find .current with
  | some i =>
    if s.startable f i then (some i, f, fell)
    else match f.find .previous with
      | some j => if s.startable f j then (some j, f, true) else (none, f, true)
      | none => (none, f, true)
  | none =>
    match f.find .previous with
    | some j => if s.startable f j then (some j, f, true) else (none, f, true)
    | none => (none, f, true)

/-! ### Settings (R552) -/

/-- Whether a key of the register file is a setting: a field of access code RW or RWL of the internal
register blocks, perturbation registers apart. -/
def isSetting (key : Nat) : Bool :=
  let addr := key / 32
  if 0x8d00400 ≤ addr ∧ addr < 0x8d00420 then false
  else match findReg regTable addr with
    | some (d, i, j) => d.fields.any (fun fd => (fd.fld i j).lsb == key % 32 && (fd.acc == .rw || fd.acc == .rwl))
        && decide (addr < 0x10000000000)
    | none => false

/-- The settings a module holds now. -/
def State.settingsNow (s : State) : RegFile := s.regs.filter (fun p => isSetting p.1)

/-- Write a settings record (R552): a TRIAL image writes only the record that is not the confirmed one, any
other image the older of the two. -/
def State.saveSettings (s : State) : State :=
  let fl := s.rd Fld.RST_FW_STAT_FLASH
  let f := s.flashOf fl
  let q0 := (f.set0.map (·.seq)).getD 0
  let q1 := (f.set1.map (·.seq)).getD 0
  let rec1 : Bool :=
    if s.flag Fld.RST_FW_STAT_TRIAL then
      match f.confirmed with
      | some c => !c
      | none => decide (q1 < q0)
    else decide (q1 < q0 ∨ f.set0 ≠ none ∧ f.set1 = none)
  let st : Settings := {
    setfmt := BitVec.ofNat 16 (s.rd Fld.RST_FW_INFO_SETFMT)
    seq := max q0 q1 + 1
    crcOk := true
    regs := s.settingsNow
    epoch := BitVec.ofNat 16 (s.rd Fld.TND_EPOCH_EPOCH)
    safety := s.saf.inForce
    programs := s.loaded }
  -- What a confirmed image writes are the last confirmed settings.
  let conf := if s.flag Fld.RST_FW_STAT_TRIAL then f.confirmed else some rec1
  s.setFlash fl (fun f => if rec1 then { f with set1 := some st, confirmed := conf } else { f with set0 := some st, confirmed := conf })

/-- The valid record whose SETFMT equals the image's, the newer when both qualify; with which record it is. -/
def Flash.settingsFor (f : Flash) (fmt : BitVec 16) : Option (Bool × Settings) :=
  let ok := fun (r : Option Settings) => match r with
    | some st => if st.setfmt = fmt ∧ st.crcOk then some st else none
    | none => none
  match ok f.set0, ok f.set1 with
  | some a, some b => if a.seq < b.seq then some (true, b) else some (false, a)
  | some a, none => some (false, a)
  | none, some b => some (true, b)
  | none, none => none

/-- Start step 8: settings are restored, or every setting takes its default and SET_RESET is set. -/
def State.readSettings (s : State) (f : Flash) (fmt : BitVec 16) : State :=
  match f.settingsFor fmt with
  | some (_, st) =>
    let s := { s with regs := st.regs.foldl (fun (r : RegFile) (p : Nat × Nat) => FMap.insert p.1 p.2 (FMap.erase r p.1)) s.regs }
    (s.wr Fld.TND_EPOCH_EPOCH st.epoch.toNat).wr Fld.RST_FW_STAT_SET_RESET 0
  | none => s.wr Fld.RST_FW_STAT_SET_RESET 1

/-- The running slot. -/
def State.runSlot (s : State) : ImgSlot := (s.flashOf (s.rd Fld.RST_FW_STAT_FLASH)).slot (s.rd Fld.RST_FW_STAT_SLOT)

/-! ### Confirmation and mirror (R550, R553) -/

/-- Confirm the trial image: TRIAL and attempts are cleared, the other slot is PREVIOUS if it held an image,
and the image's settings record is the confirmed one. -/
def State.confirm (s : State) : State :=
  let fl := s.rd Fld.RST_FW_STAT_FLASH
  let i := s.rd Fld.RST_FW_STAT_SLOT
  let f := s.flashOf fl
  let o := f.slot (1 - i)
  let f := f.setSlot i { f.slot i with trial := false, attempts := 0 }
  let f := if o.image ≠ none then f.setSlot (1 - i) { o with st := .previous } else f
  let rec1 := (f.settingsFor (BitVec.ofNat 16 (s.rd Fld.RST_FW_INFO_SETFMT))).map (·.1)
  let f := { f with confirmed := match rec1 with | some b => some b | none => f.confirmed }
  let s := s.setFlash fl (fun _ => f)
  { s.wrs [(Fld.RST_FW_STAT_TRIAL, 0), (Fld.RST_FW_STAT_ATTEMPTS, 0), (Fld.RST_FW_STAT_DEFER, 0),
      (Fld.RST_FW_HEALTH_REMAIN, 0)] with
    rst := { s.rst with deferred := false, mirror := s.flag Fld.RST_FW_CFG_MIRROR } }

/-- Write of CONFIRM (R550): it confirms an image on trial. -/
def execFwConfirm (u : Core) (s : State) : Host.Outcome State Fault Refusal :=
  .next (s.asWriter u 12 fun s => if s.flag Fld.RST_FW_STAT_TRIAL then s.confirm else s)

/-- An engine overrun since the start, or a live yield condition, speaks against the image (R550). -/
def State.healthy (s : State) : Bool :=
  (!s.flag Fld.RST_FW_STAT_SET_RESET || s.rst.saved) && s.rd Fld.TND_CAUSE_LIVE == 0 &&
    (if s.rd Fld.TND_CFG_ROLE = 0 then (List.range 32).all (fun n => s.rd (Fld.CE_CNT_OVR_CNT n) == 0)
     else s.tndState == 3 || s.tndState == 4)

/-- The time of R550 has passed: 60 s from start complete in Solo, else 10 s in READY or ACTIVE. -/
def State.provenLong (s : State) : Bool :=
  if s.rd Fld.TND_CFG_ROLE = 0 then decide (s.rst.doneAt + 60 * 800000000 ≤ s.nowTick) else decide (s.tnd.upAt + 10 * 800000000 ≤ s.nowTick)

/-- AUTO_CONFIRM (R550). -/
def execFwAutoConfirm (s : State) : Host.Outcome State Fault Refusal :=
  .next (if s.flag Fld.RST_FW_STAT_TRIAL ∧ s.flag Fld.RST_FW_CFG_AUTO_CONFIRM ∧ s.started ∧ s.healthy ∧ s.provenLong
    then s.confirm else s)

/-- Write of SAVE (R552). -/
def execFwSave (u : Core) (s : State) : Host.Outcome State Fault Refusal :=
  .next (s.asWriter u 12 fun s => { s.saveSettings with rst := { s.rst with saved := true } })

/-- End the staging without STAGED (R547). -/
def State.endStaging (s : State) : State := { s with staging := none }

/-- CLR_STAGE (R547): ends staging and clears STAGED of the primary flash. -/
def State.clearStage (s : State) : State :=
  let fl := match s.staging with
    | some g => g.flash
    | none => s.rst.primary
  let s := s.endStaging.setFlash fl (fun f => { f with staged := false, stagedLen := 0, staging := none, stagingKey := false })
  s.wr Fld.RST_FW_STAT_STAGED 0

def execFwClrStage (u : Core) (s : State) : Host.Outcome State Fault Refusal := .next (s.asWriter u 12 fun s => s.clearStage)

/-- 600 s between pieces end a staging without STAGED (R547). -/
def execStagingTimeout (s : State) : Host.Outcome State Fault Refusal :=
  .next (match s.staging with
    | some g => if g.lastAt + 600 * 800000000 ≤ s.nowTick then s.endStaging else s
    | none => s)

/-- The mirror copy is complete (R553): checked under R545 it becomes CURRENT in the other flash; an
unanswered or failing flash sets MIRROR_FAIL. -/
def execMirrorCopyDone (answered : Bool) (s : State) : Host.Outcome State Fault Refusal :=
  if s.rst.mirror then
    let s1 := { s with rst := { s.rst with mirror := false } }
    let other := 1 - s.rd Fld.RST_FW_STAT_FLASH
    match s.runSlot.image with
    | some im =>
      if answered ∧ s.checkImage im = .ok then
        .next (s1.setFlash other (fun f => f.install im s.runSlot.key false))
      else .next (s1.raise Fld.RST_FW_STAT_MIRROR_FAIL other)
    | none => .next (s1.raise Fld.RST_FW_STAT_MIRROR_FAIL other)
  else .next s

end Sys2Proof.Machine
end

