-- ==== Sys2Proof/Machine/HostOps.lean ====
section
/-! DEFINITION. Shared operations of the host interface: functions, capability records, MSI-X, events,
completions, closing and resetting a function (R351 to R384), and the end of sessions (R389). -/

namespace Sys2Proof.Machine

/-! ### Functions -/

def State.fn (s : State) (f : Nat) : HostFn := FMap.get HostFn.reset s.host f
def State.setFn (s : State) (f : Nat) (k : HostFn → HostFn) : State :=
  { s with host := FMap.modify HostFn.reset s.host f k }

/-- The function is the physical function of its port (R351). -/
def isPF (f : Nat) : Bool := f % 128 == 0

/-- The module is in recovery (R67, R73): a recovery strap, or a start-hold because no image passed. -/
def State.inRecovery (s : State) : Bool := s.rst.phase == .hold .recovery || s.rst.phase == .hold .recoveryStrap

/-- The port answers configuration requests: enabled, and its link is up (R70, log 136). -/
def State.portAnswers (s : State) (p : Nat) : Bool := s.flag (Fld.HIF_PORT_STAT_ENABLED p) && s.flag (Fld.HIF_PORT_STAT_LINK_UP p)

/-- READY of a function (R355): the start is complete, or the module waits in recovery for an image; a disabled port has no functions, and
a port no virtual function beyond NUM_VF (PRESUMED, SR-IOV: log 207). In recovery the physical functions alone serve (R73). -/
def State.fnReady (s : State) (f : Nat) : Bool :=
  (s.started || (s.inRecovery && isPF f)) && s.flag (Fld.HIF_PORT_STAT_ENABLED (f / 128)) &&
    decide (f % 128 ≤ s.rd (Fld.HIF_PORT_STAT_NUM_VF (f / 128)))

/-- Device ID and revision ID of a function (R351). -/
def deviceId (f : Nat) : Nat := if isPF f then 0x9216 else 0x9217
def State.revisionId (s : State) : Nat := 16 * s.rd Fld.HKP_MODULE_ID_STEP_MAJOR + s.rd Fld.HKP_MODULE_ID_STEP_MINOR

/-- The port may have another read of host memory outstanding: at most 256, tags held for reset functions among them (R351, R377). -/
def State.tagFree (s : State) (f : Nat) : Bool :=
  decide (s.rd (Fld.HIF_PORT_TAGS_OUT (f / 128)) + s.rd (Fld.HIF_PORT_TAGS_HELD (f / 128)) < 256)

/-- The function's rings are open. -/
def State.fnOpen (s : State) (f : Nat) : Bool := s.flag (Fld.HIF_FN_STAT_OPEN f)

/-- Entries of ring `r` (0 CMD, 1 CPL, 2 EVT, 3 BLK) of a function. -/
def State.ringSize (s : State) (f r : Nat) : Nat := 2 ^ s.rd (Fld.HIF_FN_RING_SIZE_LOG2 f r)

/-- Entries from head to tail in a ring of `n`. -/
def ringUsed (n head tail : Nat) : Nat := (tail + n - head) % n

/-! ### Capability records (R381 to R384) -/

/-- Word `j` of the record in force of a function. -/
def State.capWord (s : State) (f j : Nat) : Nat := s.rd (Fld.SEC_CAP_WORD f j)

def State.capValid (s : State) (f : Nat) : Bool := bitOf (s.capWord f 0) 0
/-- Verbs: 0 read, 1 set-point, 2 configure, 3 record, 4 block, 5 READ_REG. -/
def State.capVerbs (s : State) (f : Nat) : BitVec 8 := BitVec.ofNat 8 (s.capWord f 0 / 2 ^ 8)
def State.capClassMax (s : State) (f : Nat) : Nat := s.capWord f 0 / 2 ^ 16 % 256
def State.capConv (s : State) (f : Nat) : BitVec 8 := BitVec.ofNat 8 (s.capWord f 0 / 2 ^ 24)
def State.capFloor (s : State) (f : Nat) : Nat := s.capWord f 5
def State.capDescRate (s : State) (f : Nat) : Nat := s.capWord f 6 % 2 ^ 16
def State.capDescBurst (s : State) (f : Nat) : Nat := s.capWord f 6 / 2 ^ 16
def State.capSigRate (s : State) (f : Nat) : Nat := s.capWord f 7 % 2 ^ 16
def State.capBulkRate (s : State) (f : Nat) : Nat := s.capWord f 8
def State.capMsixRate (s : State) (f : Nat) : Nat := s.capWord f 7 / 2 ^ 16 % 256
def State.capMaxSess (s : State) (f : Nat) : Nat := s.capWord f 7 / 2 ^ 24
def State.capAuthFailMax (s : State) (f : Nat) : Nat := s.capWord f 9 % 2 ^ 16

/-- The point lies in a range of the record whose RD (bit 18) or WR (bit 19) is set. -/
def State.capPoint (s : State) (f point bit : Nat) : Bool :=
  (List.range 4).any (fun r =>
    let w := s.capWord f (1 + r)
    decide (w % 512 ≤ point) && decide (point ≤ w / 512 % 512) && bitOf w bit)

/-- The converter of a cell (R383): the arm of its valid map entry divided by 6. -/
def State.cellConv (s : State) (c : Nat) : Option Nat :=
  if s.flag (Fld.VLY_ARMMAP_VALID (c / 128) (c % 128)) then some (s.rd (Fld.VLY_ARMMAP_ARM (c / 128) (c % 128)) / 6) else none

/-- A cell is in scope of a function's record (R383). -/
def State.cellInScope (s : State) (f c : Nat) : Bool :=
  match s.cellConv c with
  | some v => bitOf (s.capConv f).toNat v
  | none => s.capConv f == 0xFF

/-! ### Interrupts (R375) -/

def State.setVector (s : State) (f v : Nat) (k : Vector' → Vector') : State :=
  s.setFn f (fun h => { h with vectors := FMap.modify Vector'.reset h.vectors v k })

def State.vector (s : State) (f v : Nat) : Vector' := FMap.get Vector'.reset (s.fn f).vectors v

/-- The cap of a vector in 1,000 messages a second: the lower of RATE and the record's; 0 for none (R355, R375). -/
def State.msixCap (s : State) (f v : Nat) : Nat :=
  let r := s.rd (Fld.HIF_FN_MOD_RATE f v)
  let c := if s.capValid f then s.capMsixRate f else 0
  if r = 0 then c else if c = 0 then r else min r c

/-- 1 / cap has passed since the last message (R375). -/
def State.msixFree (s : State) (f v : Nat) : Bool :=
  decide (1000000 ≤ s.msixCap f v * ((s.base 3).count - (s.vector f v).sentAt)) || s.msixCap f v == 0

/-- Send a message of vector `v`, or mark it pending under its mask, or let it wait for the cap in force. -/
def State.sendMsix (s : State) (f v : Nat) : State :=
  let cap := decide (0 < s.msixCap f v)
  s.setVector f v (fun x =>
    if x.masked then { x with pending := true, unsig := 0, waits := false }
    else if x.capped then { x with waits := true }
    else { x with sent := x.sent + 1, sentAt := (s.base 3).count, last := some (x.addr, x.data), unsig := 0, waits := false, capped := cap })

/-- One record toward vector `v`: a message at once when COUNT records are unsignalled or HOLD_US is 0; at level
1 every record signals at once. -/
def State.signal (s : State) (f v : Nat) : State :=
  let s := s.setVector f v (fun x => { x with unsig := x.unsig + 1, first := if x.unsig = 0 then (s.base 3).count else x.first })
  let one := decide (s.rd (Fld.HIF_FN_STAT_LEVEL f) ≤ 1)
  if one ∨ s.rd (Fld.HIF_FN_MOD_COUNT f v) ≤ (s.vector f v).unsig ∨ s.rd (Fld.HIF_FN_MOD_HOLD_US f v) = 0
  then s.sendMsix f v else s

/-! ### Events (R371 to R373) -/

/-- Write one event record at the tail of the event ring. -/
def State.putEvent (s : State) (f : Nat) (e : EvtRec) : State :=
  let n := s.ringSize f 2
  let t := s.rd (Fld.HIF_FN_EVT_PTR_TAIL f)
  let p := (s.fn f).evtPhase
  let s := { s with hostMem := { s.hostMem with evt := FMap.set none s.hostMem.evt (65536 * f + t) (some { e with phase := p }) } }
  let t' := (t + 1) % n
  let s := s.wr (Fld.HIF_FN_EVT_PTR_TAIL f) t'
  (if t' = 0 then s.setFn f (fun h => { h with evtPhase := !p }) else s).signal f 1

/-- Free entries of the event ring. -/
def State.evtFree (s : State) (f : Nat) : Nat :=
  let n := s.ringSize f 2
  n - 1 - ringUsed n (s.rd (Fld.HIF_FN_EVT_PTR_HEAD f)) (s.rd (Fld.HIF_FN_EVT_PTR_TAIL f))

/-- Post an event to a function: only while its rings are open and its mask has the type; to the ring, else to
the queue of 64, else lost and counted. -/
def State.postEvent (s : State) (f : Nat) (tag : BitVec 32) (b : EventBody) : State :=
  if ¬ s.fnOpen f ∨ ¬ bitOf (s.rd (Fld.HIF_FN_EVT_MASK_TYPES f)) (b.type - 1) then s else
  let e : EvtRec := { phase := false, tag := tag, tb3 := s.ts32 3, volley := BitVec.ofNat 32 (s.rd Fld.VLY_NOW_VOLLEY), body := b }
  let h := s.fn f
  if h.evtQueue = [] ∧ h.lostEvts = 0 ∧ 0 < s.evtFree f then s.putEvent f e
  else if h.evtQueue.length < 64 then s.setFn f (fun h => { h with evtQueue := h.evtQueue ++ [e] })
  else
    let s := s.setFn f (fun h => { h with lostEvts := h.lostEvts + 1, lostFail := h.lostFail + (if b.type = 1 then 1 else 0) })
    (s.bump (Fld.HIF_FN_CNT_EVTLOST_CNT f)).wr (Fld.HIF_FN_STAT_EVT_OVF f) 1

/-- The host functions (R351). -/
def State.fns (_ : State) : List Nat := List.range 256

/-- Post an event to every function whose record names one of the converters of `mask` (types 3, 4, 6, 9). -/
def State.postScoped (s : State) (mask : BitVec 8) (b : EventBody) : State :=
  s.fns.foldl (fun s f => if s.capValid f ∧ s.capConv f &&& mask ≠ 0 then s.postEvent f 0 b else s) s

/-- Post an event to every function. -/
def State.postAll (s : State) (b : EventBody) : State := s.fns.foldl (fun s f => s.postEvent f 0 b) s

/-- Post a CELL event (type 9). -/
def State.postCell (s : State) (c kind : Nat) : State :=
  s.fns.foldl (fun s f => if s.capValid f ∧ s.cellInScope f c then s.postEvent f 0 (.cell c kind) else s) s

/-- Queued records go to the ring while it has space, an EVT_LOST record first (R373). -/
def State.drainEvents (s : State) (f : Nat) : Nat → State
  | 0 => s
  | n + 1 =>
    if s.evtFree f = 0 then s else
    let h := s.fn f
    if 0 < h.lostEvts then
      let e : EvtRec := { phase := false, tag := 0, tb3 := s.ts32 3, volley := BitVec.ofNat 32 (s.rd Fld.VLY_NOW_VOLLEY),
                          body := .evtLost h.lostEvts h.lostFail }
      ((s.setFn f (fun h => { h with lostEvts := 0, lostFail := 0 })).putEvent f e).drainEvents f n
    else match h.evtQueue with
      | [] => s
      | e :: t => ((s.setFn f (fun h => { h with evtQueue := t })).putEvent f e).drainEvents f n

/-! ### Sessions (R389) -/

/-- SEC_SESS.OPEN follows the sessions. -/
def State.showSessions (s : State) : State := s.wr Fld.SEC_SESS_OPEN s.sec.sessions.length

/-- End one session: its key is destroyed and SESSION_END is sent with the reason. -/
def State.endSession (s : State) (handle : BitVec 16) (reason : Nat) : State :=
  match s.sec.sessions.find? (fun x => x.handle == handle) with
  | none => s
  | some x =>
    let s := { s with sec := { s.sec with sessions := s.sec.sessions.filter (fun y => y.handle != handle) } }
    (s.showSessions).postEvent x.fn 0 (.sessionEnd handle.toNat reason)

/-- End every session a condition picks. -/
def State.endSessions (s : State) (p : Session → Bool) (reason : Nat) : State :=
  (s.sec.sessions.filter p).foldl (fun s x => s.endSession x.handle reason) s

/-- End every session of every function with a reason. -/
def State.endAllSessions (s : State) (reason : Nat) : State := s.endSessions (fun _ => true) reason

/-! ### Streams (R374) -/

/-- A stream that reads a segment reads it no longer (R517). -/
def State.readingEnds (s : State) (st : Stream) : State :=
  if st.source = 0 then s.wrBit (Fld.REC_D_STAT_READING (st.arg.toNat % 16)) (st.arg.toNat / 16 % 8) false else s

/-- End a stream of a function, with a STREAM event. -/
def State.endStream (s : State) (f stream reason : Nat) : State :=
  match FMap.get none (s.fn f).streams stream with
  | none => s
  | some x =>
    let s := (s.readingEnds x).setFn f (fun h => { h with streams := FMap.set none h.streams stream none })
    s.postEvent f 0 (.stream stream reason x.lost)

/-- End every stream of a function. -/
def State.endStreams (s : State) (f : Nat) : State := (List.range 8).foldl (fun s k => s.endStream f k 0) s

/-! ### Completions (R368 to R370) -/

/-- Free entries of the completion ring. -/
def State.cplFree (s : State) (f : Nat) : Nat :=
  let n := s.ringSize f 1
  n - 1 - ringUsed n (s.rd (Fld.HIF_FN_CPL_PTR_HEAD f)) (s.rd (Fld.HIF_FN_CPL_PTR_TAIL f))

/-- A further descriptor may be accepted (R370). -/
def State.mayAccept (s : State) (f : Nat) : Bool :=
  decide ((s.fn f).inflight.length < s.cplFree f) && decide ((s.fn f).inflight.length < 32)

/-- INFLIGHT and CPL_WAIT of a function: new slots wait for completion space or for the limit of 32. -/
def State.showFn (s : State) (f : Nat) : State :=
  let new := s.rd (Fld.HIF_FN_CMD_PTR_HEAD f) != s.rd (Fld.HIF_FN_CMD_PTR_TAIL f)
  (s.wr (Fld.HIF_FN_INFLIGHT_N f) (s.fn f).inflight.length).wrB (Fld.HIF_FN_STAT_CPL_WAIT f)
    (s.fnOpen f && new && !s.mayAccept f)

/-- Write a completion record unless CSUP suppresses it. -/
def State.putCompletion (s : State) (f : Nat) (x : InFlight) (st : Status) (result : BitVec 64) (volley detail : BitVec 32) : State :=
  if x.d.csup ∧ st = .ok then s else
  let n := s.ringSize f 1
  let t := s.rd (Fld.HIF_FN_CPL_PTR_TAIL f)
  let p := (s.fn f).cplPhase
  let r : CplRec := { tag := x.d.tag, status := st.code, opcode := x.d.body.opcode, phase := p, stby := !s.activeOrSolo,
                      tVerify := x.tVerify, index := BitVec.ofNat 16 x.index, session := x.d.session, result := result,
                      volley := volley, detail := detail }
  let s := { s with hostMem := { s.hostMem with cpl := FMap.set none s.hostMem.cpl (65536 * f + t) (some r) } }
  let t' := (t + 1) % n
  let s := s.wr (Fld.HIF_FN_CPL_PTR_TAIL f) t'
  let s := if t' = 0 then s.setFn f (fun h => { h with cplPhase := !p }) else s
  if x.d.cirq then s.signal f 0 else s

/-- After CLOSE, once nothing is in flight (R359): streams and sessions end and OPEN is cleared. -/
def State.finishClose (s : State) (f : Nat) : State :=
  let s := (s.endStreams f).endSessions (fun x => x.fn == f) 0
  let s := s.setFn f (fun h => { h with closing := false, inflight := [], evtQueue := [], lostEvts := 0, lostFail := 0 })
  (s.wrs [(Fld.HIF_FN_STAT_OPEN f, 0), (Fld.HIF_FN_STAT_LEVEL f, 0), (Fld.HIF_FN_STAT_THROTTLED f, 0)]).showFn f

/-- Complete a descriptor: its record, the counters, and the end of a CLOSE that waited for it. -/
def State.complete (s : State) (f : Nat) (x : InFlight) (st : Status) (result : BitVec 64) (volley detail : BitVec 32) : State :=
  let s := s.putCompletion f x st result volley detail
  let s := s.setFn f (fun h => { h with inflight := h.inflight.filter (fun y => y.serial != x.serial) })
  let s := s.bump (Fld.HIF_FN_CNT_DONE_CNT f)
  let s := if 0x10 ≤ st.code.toNat then s.bump (Fld.HIF_FN_CNT_REFUSED_CNT f) else s
  let s := if 0x20 ≤ st.code.toNat ∧ st.code.toNat ≤ 0x22 then s.bump (Fld.HIF_FN_CNT_AUTH_CNT f) else s
  let s := s.showFn f
  if (s.fn f).closing ∧ (s.fn f).inflight = [] then s.finishClose f else s

/-- The present volley. -/
def State.volley (s : State) : BitVec 32 := BitVec.ofNat 32 (s.rd Fld.VLY_NOW_VOLLEY)

/-- Complete a descriptor in the present volley. -/
def State.done (s : State) (f : Nat) (x : InFlight) (st : Status) (result : Nat := 0) (detail : Nat := 0) : State :=
  s.complete f x st (BitVec.ofNat 64 result) s.volley (BitVec.ofNat 32 detail)

/-- The oldest descriptor in flight of a function at a command slot. -/
def State.inflight (s : State) (f index : Nat) : Option InFlight :=
  (s.fn f).inflight.find? (fun x => x.index == index)

/-- Traffic class of the opcode: 2 or 3 (R366). -/
def bodyClass3 : Body → Bool
  | .readPoints .. => true | .readLink .. => true | .streamOpen .. => true | .streamClose .. => true | .fwStage .. => true
  | _ => false

/-- Set-points, emergency blocks and point writes take effect in ring order (R365). -/
def bodyInOrder : Body → Bool
  | .setpoint .. => true | .emergencyBlock .. => true | .pointWrite .. => true
  | _ => false

/-- No earlier descriptor of the function in flight comes before it in that order. -/
def State.ringFirst (s : State) (f : Nat) (x : InFlight) : Bool :=
  !bodyInOrder x.d.body || (((s.fn f).inflight.find? (fun y => bodyInOrder y.d.body)).map (·.serial)) == some x.serial

/-- Granules of class `c` wait that function `f` has asked for (R409, R419). -/
def State.throttled (s : State) (f : Nat) (c : TrafficClass) : Bool :=
  s.qos.waiting.any (fun x => x.1.cls == c && (match x.1.who with | .fn g => g.val == f | .dma _ => false))

/-- The descriptor waits while its function is throttled in its class (R419); an emergency block is C0 (R17). -/
def State.bodyWaits (s : State) (f : Nat) (b : Body) : Bool :=
  match b with
  | .emergencyBlock .. => false
  | _ => s.throttled f (if bodyClass3 b then .c3 else .c2)

/-- It may be carried out now: accepted, in ring order where R365 asks for it, with ORDER only as the oldest of its function (R363, R370),
and not throttled (R419). -/
def State.eligible (s : State) (f : Nat) (x : InFlight) : Bool :=
  x.at' == .accepted && !s.bodyWaits f x.d.body && s.ringFirst f x && (!x.d.order || ((s.fn f).inflight.head?.map (·.serial)) == some x.serial)

/-- Change one descriptor in flight, named by its place among those its function has fetched. -/
def State.setInFlight (s : State) (f serial : Nat) (k : InFlight → InFlight) : State :=
  s.setFn f (fun h => { h with inflight := h.inflight.map (fun x => if x.serial = serial then k x else x) })

/-- Change the progress of a descriptor in flight. -/
def State.setProgress (s : State) (f serial : Nat) (p : Progress) : State := s.setInFlight f serial (fun x => { x with at' := p })

/-- A descriptor in flight of a function, by its place among those fetched. -/
def State.inflightBy (s : State) (f serial : Nat) : Option InFlight := (s.fn f).inflight.find? (fun x => x.serial == serial)

/-- The oldest descriptor in flight of a function at a command slot that may be carried out now: a small ring reuses its slots while
descriptors read from them are still in flight. -/
def State.runnable (s : State) (f index : Nat) : Option InFlight :=
  (s.fn f).inflight.find? (fun x => x.index == index && s.eligible f x)

/-- The volley whose snapshot takes a set-point staged now (R27). -/
def State.snapVolley (s : State) : BitVec 32 := if s.seqr.phase = 0 then s.volley else s.volley + 1

/-- Stage a set-point for the converter's next snapshot (R27); the descriptor keeps the volley that takes it. -/
def State.putSetpoint (s : State) (f serial c q : Nat) (v : BitVec 40) : State :=
  let w := s.snapVolley
  ({ s with setNow := FMap.set SetPoint.reset s.setNow (5 * c + q) ⟨v, w.setWidth 40 ||| 0x8000000000⟩ } : State).setInFlight f serial
    (fun y => { y with staged := some w })

/-- Data written to host memory by a function. -/
def State.dma (s : State) (f : Nat) (addr : BitVec 64) (size : Nat) (words : List (BitVec 64)) : State :=
  { s with hostMem := { s.hostMem with data := s.hostMem.data ++ [{ fn := f, addr := addr, size := size, words := words }] } }

/-- Set a stop of the function: ERROR with its cause, and vector 3 (R362, R375). -/
def State.fnError (s : State) (f cause : Nat) : State :=
  (s.wrs [(Fld.HIF_FN_STAT_ERROR f, 1), (Fld.HIF_FN_STAT_ERR_CAUSE f, cause)]).signal f 3

/-- DB_ERR, with vector 3. -/
def State.dbErr (s : State) (f : Nat) : State := (s.wr (Fld.HIF_FN_STAT_DB_ERR f) 1).signal f 3

/-! ### Function-level reset (R377) -/

/-- HIF registers of a function's page. -/
def fnBase (f : Nat) : Nat := 0x10000000000 + 0x10000 * f

/-- The host writes of a function are orphaned, and its FRESH reads dropped. -/
def PostedWrite.orphaned (w : PostedWrite) (f : Nat) : PostedWrite :=
  if w.fn = f ∧ ¬ w.own then { w with orphan := true } else w

def Cell.orphaned (x : Cell) (f : Nat) : Cell :=
  { x with queue := x.queue.map (fun w => w.orphaned f), out := x.out.map (fun o => { o with w := o.w.orphaned f }),
           fresh := x.fresh.filter (fun r => r.fn != f) }

/-- `n` tags outstanding for a function stay held until each completion arrives or times out (R377). -/
def State.holdTags (s : State) (f n : Nat) : State :=
  let p := f / 128
  s.wrs [(Fld.HIF_PORT_TAGS_OUT p, s.rd (Fld.HIF_PORT_TAGS_OUT p) - n), (Fld.HIF_PORT_TAGS_HELD p, s.rd (Fld.HIF_PORT_TAGS_HELD p) + n)]

/-- The emergency blocks of a function that are verified and not yet acted on: they stand when it is reset or closed by force (R359, R377). -/
def HostFn.blocks (h : HostFn) : List InFlight :=
  h.standing ++ h.inflight.filter (fun x => x.at' == .accepted && (match x.d.body with | .emergencyBlock _ => true | _ => false))

/-- Reset one function: its sessions end with reason 3 (R389; log 37), accepted work is discarded without completion, streams end, its
registers return to their reset values, and FLR_BUSY is set. Verified emergency blocks stand, and point writes already queued, their
failures to be counted and not reported. -/
def State.resetFn (s : State) (f : Nat) : State :=
  let s := s.endSessions (fun x => x.fn == f) 3
  let h := s.fn f
  let waiting := (h.inflight.filter (fun x => x.at' == .reading)).length
  let s := { s with cells := FMap.mapVals Cell.reset (fun _ x => x.orphaned f) s.cells }
  let s := match s.staging with
    | some g => if g.owner = f then { s with staging := none } else s
    | none => s
  let s := h.streams.foldl (fun s p => match p.2 with | some st => s.readingEnds st | none => s) s
  let s := s.resetRange (fnBase f) (fnBase f + 0x10000)
  let s := s.setFn f (fun _ => { HostFn.reset with held := h.held + waiting, standing := h.blocks })
  let s := s.bump (Fld.HIF_PORT_FLR_DROP_CNT (f / 128)) h.evtQueue.length
  (s.holdTags f waiting).wr (Fld.HIF_FN_STAT_FLR_BUSY f) 1

end Sys2Proof.Machine
end

