-- ==== Sys2Proof/Machine/Spokes.lean ====
section
/-! DEFINITION. Spokes: gears and their figures, the spoke states of R99, the timeline check of R144, slots and
members, posted writes to cells, bring-up, gear changes, sweeps, fences and lane tests (R83 to R118,
R132 to R160). -/

namespace Sys2Proof.Machine

/-! ### Figures of the gears, in units of 10 ps (R89, R92, R95) -/

def slotTime (g : Nat) : Nat := if g = 0 then 102400 else if g = 1 then 25600 else if g = 2 then 12800 else if g = 3 then 6400 else 3200
def guardTime (g : Nat) : Nat := if g = 0 then 22400 else if g = 1 then 2560 else if g = 2 then 1280 else if g = 3 then 640 else 384
/-- 256 times the UI per tick of 1.25 ns. -/
def uiPerTick (g : Nat) : Nat := if g = 0 then 400 else if g = 1 then 825 else if g = 2 then 1650 else if g = 3 then 3300 else 8250
/-- Width of a slot in UI. -/
def slotUi (g : Nat) : Nat := if g = 0 then 1280 else if g = 4 then 825 else 660
/-- A quarter guard, the in-place band, in UI. -/
def inPlaceUi (g : Nat) : Nat := if g = 0 then 70 else if g = 4 then 24 else 16
/-- Initial CTLE step (R97). -/
def ctleInitial (g : Nat) : Nat := if g = 0 then 0 else if g = 1 then 2 else if g = 2 then 4 else if g = 3 then 6 else 9
/-- An offset in UI, in units of 10 ps. -/
def uiTime (g : Nat) (ui : Int) : Int := ui * 32000 / uiPerTick g
/-- Duration of a serve body of `l` bytes (R124), in units of 10 ps. -/
def serveTime (g l : Nat) : Nat :=
  if g = 0 then (l + 11) * 800
  else (3 + (l - 7) / 8) * (if g = 1 then 2560 else if g = 2 then 1280 else if g = 3 then 640 else 256)
/-- Nearest tick of a time in units of 10 ps given as `num / den`. -/
def nearestTick (num : Int) (den : Nat) : Int := (2 * num + 125 * den) / (250 * den)

/-! ### The cells of a spoke -/

/-- The cell is admitted (R150): it holds a slot and its admission is complete. -/
def LState.admitted? : LState → Bool
  | .free => false | .assigned => false
  | .admitted => true | .tail => true | .exception => true | .lost => true | .muted => true | .lol => true

/-- The cells of spoke `n`: cell IDs with their records, in ascending slot order. -/
def State.cellsOf (s : State) (n : Nat) : List (Nat × Cell) := s.cells.filter (fun p => p.1 / 128 == n)

/-- The admitted cells of spoke `n`. -/
def State.admittedOf (s : State) (n : Nat) : List (Nat × Cell) :=
  (s.cellsOf n).filter (fun p => p.2.lstate.admitted?)

/-- The cell is available for insertion (R166): not LOL, muted, free or merely assigned, its spoke not fenced. -/
def State.available (s : State) (c : Nat) : Bool :=
  let x := s.cell c
  (x.lstate == .admitted || x.lstate == .tail || x.lstate == .exception || x.lstate == .lost) &&
    !s.flag (Fld.SPK_STAT_FENCED (c / 128))

/-- D_max of the module, in units of 10 ps, doubled: the largest one-way delay among admitted cells. -/
def State.dmax2 (s : State) : Int :=
  s.cells.foldl (fun a p => if p.2.lstate.admitted? then max a p.2.delay2 else a) 0

/-- D_max over the admitted cells of one spoke, doubled. -/
def State.spokeDmax2 (s : State) (n : Nat) : Int :=
  (s.admittedOf n).foldl (fun a p => max a p.2.delay2) 0

/-- One more than the highest regular slot in use on the spoke (R144). -/
def State.regularSlots (s : State) (n : Nat) : Nat :=
  (s.cellsOf n).foldl (fun a p => if p.2.lstate ≠ .free ∧ p.2.tailPos = none then max a (p.1 % 128 + 1) else a) 0

/-- Tail slots granted on the spoke. -/
def State.tailSlots (s : State) (n : Nat) : Nat :=
  ((s.cellsOf n).filter (fun p => p.2.tailPos.isSome)).length

/-- The arms that have a member on the spoke. -/
def State.armsOf (s : State) (n : Nat) : List Nat :=
  ((s.cellsOf n).filterMap (fun p => p.2.member.map (·.1))).dedup

/-- L_mand of a spoke (R144): header and CRC, an order or exception for every cell, and an arm record of four
edges for every arm. -/
def State.mandLength (s : State) (n : Nat) : Nat :=
  24 + 2 * (s.cellsOf n).length + 52 * min (s.armsOf n).length 8

/-- Serve-complete offset of a spoke (R128) for a serve of `l` bytes, in units of 10 ps. -/
def State.serveComplete (s : State) (n l : Nat) : Int :=
  (s.spokeDmax2 n + 1) / 2 + serveTime (s.rd (Fld.SPK_STAT_GEAR n)) l + 5000

/-! ### Members of an arm (R159, R172) -/

/-- Member numbers in use in an arm: in force, being written, or not yet released by the cell (R159). -/
def State.membersUsed (s : State) (a : Nat) : List Nat :=
  s.cells.flatMap (fun p =>
    (match p.2.member with | some (b, m) => if b = a then [m] else [] | none => []) ++
    (match p.2.newMember with | some (b, m) => if b = a then [m] else [] | none => []) ++
    p.2.reserved.filterMap (fun r => if r.1 = a then some r.2 else none))

/-- One more than the highest member number in use in the arm, 0 when it has none (R172). -/
def State.mTop (s : State) (a : Nat) : Nat := (s.membersUsed a).foldl (fun x m => max x (m + 1)) 0

/-! ### The timeline (R144, R145) -/

/-- The timeline staged in the registers. -/
def State.stagedTimeline (s : State) : Timeline :=
  ⟨s.rd Fld.VLY_PERIOD_P_10NS, s.rd Fld.VLY_STROBE_S, s.rd Fld.VLY_RWIN_W, s.rd Fld.VLY_CWIN_C, s.rd Fld.VLY_ASM_A⟩

/-- The timeline in force. -/
def State.timeline (s : State) : Timeline :=
  ⟨s.inForce Fld.VLY_PERIOD_P_10NS, s.inForce Fld.VLY_STROBE_S, s.inForce Fld.VLY_RWIN_W, s.inForce Fld.VLY_CWIN_C,
   s.inForce Fld.VLY_ASM_A⟩

/-- The length of the return window a spoke needs (R144), in units of 10 ps: slots, tail slots and backlog. -/
def State.windowNeed (s : State) (n : Nat) : Nat :=
  let g := s.rd (Fld.SPK_STAT_GEAR n)
  let k := s.regularSlots n
  let t := s.tailSlots n
  k * slotTime g + t * 2 * slotTime g + (if g = 4 then 75 * (k + 2 * t) else 0)

/-- Spokes with a cell. -/
def State.peopledSpokes (s : State) : List Nat := ((s.cells.filter (fun p => p.2.lstate != .free)).map (fun p => p.1 / 128)).dedup

/-- Spokes that enter the check: those with a cell, at G1 or above (R144). -/
def State.checkedSpokes (s : State) : List Nat := s.peopledSpokes.filter (fun n => s.rd (Fld.SPK_STAT_GEAR n) != 0)

/-- The latest end of a serve: 64 ns before the next boundary (R128, R144), in a tandem also 2P - 2,900 ns (R339). -/
def State.serveLimit (s : State) (t : Timeline) : Int :=
  let a : Int := (t.p10 * 1000 : Int) - 6400
  if s.tndState = 0 then a else min a ((2 * t.p10 * 1000 : Int) - 290000)

/-- The margins of the checks of R144 for a timeline, in units of 10 ps. -/
def State.margins (s : State) (t : Timeline) : List Int :=
  let d := (s.dmax2 + 1) / 2
  let need := s.checkedSpokes.foldl (fun a n => max a (s.windowNeed n)) 0
  [ (t.s * 125 : Int) - (d + 10000),
    (t.w * 125 : Int) - (t.s * 125 + d + 10000),
    (t.c * 125 : Int) - (t.w * 125 + need + 5600),
    (t.a : Int) * 125 - t.c * 125 - s.rd Fld.CE_GDEMAND_DEMAND * 125,
    (t.p10 * 1000 : Int) - t.a * 125 - 40000 ] ++
  s.checkedSpokes.map (fun n => s.serveLimit t - serveTime (s.rd (Fld.SPK_STAT_GEAR n)) (s.mandLength n))

/-- The largest demand of the engines that a write of ENABLE makes ACTIVE at the next boundary: admitted when it was written, and not
yet among the engines of R213. -/
def State.pendingDemand (s : State) : Nat :=
  (List.range 32).foldl (fun d e =>
    if (FMap.get Engine.reset s.engines e).enable = some true then max d (s.rd (Fld.CE_DEMAND_DEMAND e)) else d) 0

/-- Every check of R144 holds, also for the engines about to become ACTIVE. -/
def State.timelineFits (s : State) (t : Timeline) : Bool :=
  (s.margins t).all (fun m => decide (0 ≤ m)) && decide (t.c + s.pendingDemand ≤ t.a)

/-! ### Admission to memory and to the tandem link (R331, R417) -/

/-- `n` over `d`, rounded up. -/
def ceilDiv (n d : Nat) : Nat := (n + d - 1) / d

/-- Bytes per volley of the enabled extracts as a fraction: numerator and denominator. -/
def State.extractBytes (s : State) : Nat × Nat :=
  (List.range 128).foldl (fun (a : Nat × Nat) i =>
    let len := s.rd (Fld.CE_EXT_LEN_LEN (i / 4) (i % 4))
    let every := s.rd (Fld.CE_EXT_EVERY_EVERY (i / 4) (i % 4))
    if len = 0 ∨ every = 0 then a else (a.1 * every + 64 * ceilDiv (8 * len) 64 * a.2, a.2 * every)) (0, 1)

/-- Guaranteed bytes per volley of the enabled capture definitions. -/
def State.recorderBytes (s : State) : Nat :=
  (List.range 16).foldl (fun a d => if s.flag (Fld.REC_D_CFG_ENABLE d) then a + s.rd (Fld.REC_D_GUAR_BYTES d) else a) 0

/-- 1.25 x B of R417 in bytes per volley, as a fraction. -/
def State.dramDemand (s : State) : Nat × Nat :=
  let n := (s.cells.filter (fun p => p.2.lstate.admitted?)).length
  let whole := 64 * n + 64 * ceilDiv (ceilDiv (16 * n) 256) 64 + s.recorderBytes
  let x := s.extractBytes
  (5 * (whole * x.2 + x.1), 4 * x.2)

/-- Arms owned by an engine now. -/
def State.ownedArms (s : State) : List Nat :=
  (List.range 32).flatMap (fun e =>
    ([(Fld.CE_ARMOWN_VALID0 e, Fld.CE_ARMOWN_ARM0 e), (Fld.CE_ARMOWN_VALID1 e, Fld.CE_ARMOWN_ARM1 e),
      (Fld.CE_ARMOWN_VALID2 e, Fld.CE_ARMOWN_ARM2 e), (Fld.CE_ARMOWN_VALID3 e, Fld.CE_ARMOWN_ARM3 e)]).filterMap
        (fun p => if s.inForce p.1 = 1 then some (s.inForce p.2) else none))

/-- Time in units of 10 ps that `g` granules need of the banked SRAM. -/
def sramTime (g : Nat) : Nat := (ceilDiv g 60 + 2) * 400

/-- The margins of the SRAM tests of R417 in units of 10 ps. -/
def State.sramMargins (s : State) (t : Timeline) : List Int :=
  let used := s.peopledSpokes
  let fast := used.foldl (fun g n => max g (s.rd (Fld.SPK_STAT_GEAR n))) 0
  let atFast := (used.filter (fun n => s.rd (Fld.SPK_STAT_GEAR n) == fast)).length
  let asm := used.foldl (fun a n => a + ceilDiv (s.mandLength n) 64) 0
  let inp := s.ownedArms.foldl (fun a m => a + ceilDiv (8 * (64 + s.mTop m)) 64) 0
  let need := s.checkedSpokes.foldl (fun a n => max a (s.windowNeed n)) 0
  [ (slotTime fast : Int) - sramTime atFast,
    (t.p10 * 1000 : Int) - t.a * 125 - 10000 - sramTime asm,
    (5600 : Int) + (t.c * 125 - t.w * 125 - need) - sramTime inp ]

/-- The tests of R417. -/
def State.memoryFits (s : State) (t : Timeline) : Bool :=
  let d := s.dramDemand
  decide (d.1 ≤ 220 * (t.p10 * 10) * d.2) && (s.sramMargins t).all (fun m => decide (0 ≤ m))

/-- Bytes of the SHADOW frame (R329). -/
def State.shadowBytes (s : State) : Nat :=
  5204 + 5 * (List.range 32).foldl (fun a e => if s.rd (Fld.CE_STAT_STATE e) = 2 ∨ s.rd (Fld.CE_STAT_STATE e) = 3 then a + s.rd (Fld.TND_SYNC_LEN e) else a) 0

/-- Capacity for it in bytes (R331). -/
def State.shadowCap (s : State) (t : Timeline) : Nat :=
  (3 * (s.rd Fld.TND_STAT_LANES : Int) * ((t.p10 * 1000 : Int) - t.a * 125 + t.c * 125 - 40000) / 100).toNat

/-- On an active module with the link up, the SHADOW frame fits (R331). -/
def State.shadowFits (s : State) (t : Timeline) : Bool :=
  s.tndState != 4 || s.rd Fld.TND_STAT_LANES == 0 || decide (s.shadowBytes ≤ s.shadowCap t)

/-- Every test of R145, R331 and R417 holds. -/
def State.fits (s : State) (t : Timeline) : Bool := s.timelineFits t && s.memoryFits t && s.shadowFits t

/-- Record which test a refused configuration `u` failed: the timeline's, the memory's or the link's (R155, R331, R417). -/
def State.noteNofit (s u : State) (t : Timeline) : State :=
  ((s.raiseIf (!u.timelineFits t) Fld.VLY_STAT_NOFIT).raiseIf (!u.memoryFits t) Fld.QOS_STAT_NOFIT).raiseIf (!u.shadowFits t) Fld.TND_EVT_NOFIT

/-- A change to configuration `u` is refused (R145): NOFIT of the volley timeline, and of the memory and the link where their tests fail
(R331, R417). -/
def State.refuseFit (s u : State) (t : Timeline) : State :=
  ((s.raise Fld.VLY_STAT_NOFIT).raiseIf (!u.memoryFits t) Fld.QOS_STAT_NOFIT).raiseIf (!u.shadowFits t) Fld.TND_EVT_NOFIT

/-- What the registers show of the tests (R349, R417, R424): SLACK is the smallest of the SRAM margins and of those of R144 (log 204). -/
def State.showFits (s : State) : State :=
  let t := s.timeline
  let d := s.dramDemand
  s.wrs [(Fld.QOS_DEM_DRAM_BYTES, ceilDiv d.1 d.2), (Fld.QOS_CAP_DRAM_BYTES, 220 * (t.p10 * 10)),
    (Fld.QOS_SLACK_SLACK, (match s.sramMargins t ++ s.margins t with | [] => 0 | m :: r => (r.foldl min m) / 125).toNat),
    (Fld.TND_SHBYTES_BYTES, s.shadowBytes), (Fld.TND_SHCAP_CAP, s.shadowCap t)]

/-- VLY_STAT.SLACK: the smallest margin, in ticks, 0 when a check fails (R145, R155). -/
def State.slack (s : State) : Nat :=
  match s.margins s.timeline with
  | [] => 0
  | m :: t => ((t.foldl min m) / 125).toNat

/-- Version-1 cells of a spoke meet R169: serve complete by S + 3,200 ticks, and that instant 80 ticks before
the end of the period. -/
def State.v1Fits (s : State) (n : Nat) (t : Timeline) : Bool :=
  decide (s.serveComplete n (s.mandLength n) ≤ (t.s + 3200 : Nat) * 125) && decide ((t.s + 3200 + 80) * 125 ≤ t.p10 * 1000)

/-! ### What a spoke shows (R99, R112, R155) -/

/-- The states of R99. -/
inductive SpokeState where
  | disabled | serving | listening | empty | probing | fenced
deriving DecidableEq, Repr

/-- The state of a spoke. Where two rows of R99 apply, Disabled goes before Fenced and Fenced before Listening; an enabled spoke
of a module in INIT is Listening (DESIGN CHOICE, log 139 and 140). A spoke without an admitted cell counts as Probing in the
discovery of its bring-up too, and while a takeover has its transmitter awake before the first serve (DESIGN CHOICE, log 191). -/
def State.spokeState (s : State) (n : Nat) : SpokeState :=
  if !s.flag (Fld.SPK_CFG_ENABLE n) then .disabled
  else if s.flag (Fld.SPK_STAT_FENCED n) then .fenced
  else if !s.activeOrSolo then .listening
  else if !s.mayServe then .empty
  else if 0 < s.rd (Fld.SPK_STAT_ADMITTED n) then .serving
  else if s.tnd.taking then .probing
  else if (s.spoke n).probe ≠ .none then .probing
  else .empty

/-- Bring the registers and the TXDIS land of a spoke into line with its cells and state. No transmitter wakes in a lifecycle state
that does not serve, a fenced spoke's included (R395). -/
def State.showSpoke (s : State) (n : Nat) : State :=
  let adm := s.admittedOf n
  let s := s.wrs [(Fld.SPK_STAT_ADMITTED n, adm.length), (Fld.SPK_STAT_RIDER_GEAR n, adm.foldl (fun a p => min a p.2.topGear) 7)]
  let st := s.spokeState n
  let tx := st == .serving || st == .probing || (st == .fenced && s.mayServe)
  let rx := tx || st == .fenced || st == .listening
  let light := st == .serving || st == .probing || (st == .fenced && s.flag (Fld.SPK_TEST_LIGHT n) && s.activeOrSolo && s.mayServe)
  let s := s.wrs [(Fld.SPK_STAT_TX_AWAKE n, if tx then 1 else 0), (Fld.SPK_STAT_RX_AWAKE n, if rx then 1 else 0)]
  s.setSpoke n (fun p => { p with txdisLow := light, litAt := if light then some (p.litAt.getD s.nowTick) else none })

/-- At tick `t` the light of the spoke has stood for the 2.2 us that its first serve needs (R100). -/
def State.litBy (s : State) (n t : Nat) : Bool := match (s.spoke n).litAt with | some w => decide (w + 1760 ≤ t) | none => false

/-- VLY_DMAX: D_max in ticks, rounded up, and the admitted cells of the module (R155). -/
def State.showCells (s : State) : State :=
  let cells := (s.cells.filter (fun p => p.2.lstate.admitted?)).length
  s.wrs [(Fld.VLY_DMAX_DMAX, (((s.dmax2 + 249) / 250)).toNat), (Fld.VLY_DMAX_CELLS, cells)]

/-! ### Requests and management entries (R128, R132, R138) -/

/-- Put an entry at the end of a spoke's one list of due entries. -/
def State.due (s : State) (n : Nat) (i : ServeItem) : State :=
  s.setSpoke n (fun p => { p with items := p.items ++ [i] })

/-- A point request to a cell becomes due. -/
def State.dueReq (s : State) (c : Nat) (op point : Nat) (wtag : BitVec 6) (value : BitVec 40) : State :=
  s.due (c / 128) (.req { slot := c % 128, op := op, point := point, wtag := wtag, value := value, back := false })

/-- The read-back of the cell's outstanding write becomes due (R140). -/
def State.dueBack (s : State) (c point : Nat) : State :=
  s.due (c / 128) (.req { slot := c % 128, op := 0, point := point, wtag := 0, value := 0, back := true })

/-- Start the next write of a cell if none is outstanding: a due ARMBIND write first, once the cell is
available (R138, R160); its request becomes due. -/
def State.startWrite (s : State) (c : Nat) : State :=
  let x := s.cell c
  if x.out.isSome then s else
  let go := fun (w : PostedWrite) (x : Cell) (s : State) =>
    let tag := if x.ver = 3 then x.wtag else 0
    let s := s.setCell c (fun _ => { x with
      out := some { w := w, wtag := tag, first := none, mismatch := false, unknown := false }
      wtag := if x.ver = 3 then x.wtag + 1 else x.wtag })
    s.dueReq c 1 w.point tag w.value
  match x.bindDue with
  | some v =>
    if s.available c then go { fn := 0, tag := 0, own := true, orphan := false, point := 128, value := v } { x with bindDue := none } s
    else match x.queue with
      | w :: t => go w { x with queue := t } s
      | [] => s
  | none =>
    match x.queue with
    | w :: t => go w { x with queue := t } s
    | [] => s

/-- A failed write (R141): WR_FAIL and, for a host write, its event. -/
def State.writeFailed (s : State) (c : Nat) (w : PostedWrite) (cause : Nat) : State :=
  let s := s.raise Fld.VLY_EVT_WR_FAIL c
  if w.own then s
  else if w.orphan then s.bump (Fld.HIF_PORT_FLR_DROP_CNT (w.fn / 128))
  else s.postEvent w.fn w.tag (.writeFail c w.point cause w.value)

/-- Requests for a cell's writes that wait in its spoke's list are dropped. -/
def State.dropReqs (s : State) (c : Nat) : State :=
  s.setSpoke (c / 128) (fun p => { p with items := p.items.filter (fun i =>
    match i with | .req r => !(r.slot == c % 128 && (r.op != 0 || r.back)) | .mgmt _ => true) })

/-- A read-back on its way, in the serve assembled, sent or answered next, is no read-back of a later write (R140). -/
def State.dropBacks (s : State) (c : Nat) : State :=
  let s := s.setCell c (fun x => { x with asked := x.asked.map (fun q => { q with back := false }), answerTo := x.answerTo.map (fun q => { q with back := false }) })
  let plain := fun (x : Serve) => ({ x with preq := x.preq.map (fun q => if q.slot = c % 128 then { q with back := false } else q) } : Serve)
  s.setSpoke (c / 128) (fun p => { p with next := p.next.map plain, sent := p.sent.map plain })

/-- The outstanding write ends; the next one starts. -/
def State.endWrite (s : State) (c : Nat) : State :=
  (((s.setCell c (fun x => { x with out := none })).dropReqs c).dropBacks c).startWrite c

/-- Every write of the cell fails, queued or outstanding (causes 7 and 8 of R141). An ARMBIND write is due again unless a newer
one is (R160). -/
def State.failWrites (s : State) (c cause : Nat) : State :=
  let x := s.cell c
  let ws := (x.out.map (fun o => o.w)).toList ++ x.queue
  let again : Option (BitVec 40) := match x.bindDue, x.out with
    | some v, _ => some v
    | none, some o => if o.w.own then some o.w.value else none
    | none, none => none
  let s := ((s.setCell c (fun x => { x with out := none, queue := [], bindDue := again })).dropReqs c).dropBacks c
  (ws.foldl (fun s w => s.writeFailed c w cause) s).startWrite c

/-! ### Ranging (R134, R148) -/

/-- Where the slot of a cell begins, in UI from the opening of the return window: its own position, or its tail position after
the regular ones (R134, R148). -/
def State.slotPos (s : State) (n k : Nat) (tail : Option Nat) (g : Nat) : Nat :=
  match tail with
  | none => k * slotUi g
  | some j => (s.regularSlots n + 2 * j) * slotUi g

/-- O and E of a cell in slot position `k` (or tail position after the regular ones) at gear `g` (R134). -/
def State.ranged (s : State) (n k : Nat) (tail : Option Nat) (g : Nat) (d2 : Int) : Int × Int :=
  let t := s.timeline
  let pos : Nat := match tail with
    | none => k * slotTime g
    | some j => s.regularSlots n * slotTime g + j * 2 * slotTime g
  (nearestTick ((t.w * 125 + pos + guardTime g : Nat) - d2) 1, nearestTick ((2 * t.s * 125 : Nat) - d2) 2)

/-- A gear change is announced: the cell is sent its O for the new slot width as well (R134). -/
def State.adjustAtGc (s : State) (c : Nat) : State :=
  let n := c / 128
  let x := s.cell c
  match (s.spoke n).plan with
  | some (g, _) =>
    let (o, e) := s.ranged n (c % 128) x.tailPos g x.delay2
    s.due n (.mgmt (.adjust (c % 128) o e (c % 128) true))
  | none => s

/-- Send the cell its O and E (R132). -/
def State.adjust (s : State) (c : Nat) : State :=
  let n := c / 128
  let x := s.cell c
  let g := s.rd (Fld.SPK_STAT_GEAR n)
  let (o, e) := s.ranged n (c % 128) x.tailPos g x.delay2
  ((s.setCell c (fun x => { x with o := o, e := e, pos := s.slotPos n (c % 128) x.tailPos g })).due n
    (.mgmt (.adjust (c % 128) o e (c % 128) false))).adjustAtGc c

/-- Tail slots follow the last regular slot in the order in which the cells were moved: close up what a cell left, and send a
new O to every tail cell whose place has changed (R144, R148). -/
def State.retail (s : State) (n : Nat) : State :=
  let used := (s.cellsOf n).filterMap (fun p => p.2.tailPos)
  (s.cellsOf n).foldl (fun (s : State) p =>
    match p.2.tailPos with
    | none => s
    | some j =>
      let j' := (used.filter (fun i => decide (i < j))).length
      let s := s.setCell p.1 (fun x => { x with tailPos := some j' })
      if s.slotPos n (p.1 % 128) (some j') (s.rd (Fld.SPK_STAT_GEAR n)) = p.2.pos then s else s.adjust p.1) s

/-! ### Slots and members (R135, R159, R160) -/

/-- The lowest member number from 0 to 767 that is free in the arm. -/
def State.freeMember (s : State) (a : Nat) : Option Nat :=
  let used := s.membersUsed a
  (List.range 768).find? (fun m => !used.contains m)

/-- The members of an arm have changed: ROT stays below M_top (R172). -/
def State.showArm (s : State) (a : Nat) : State :=
  let top := s.mTop a
  s.setArm a (fun x => { x with rot := if top = 0 then 0 else x.rot % top })

/-- ARMBIND (R160): arm, member and VALID. -/
def armbindValue (a m : Nat) (valid : Bool) : BitVec 40 :=
  BitVec.ofNat 40 (if valid then a + m * 64 + 65536 else 0)

/-- The arm map entry of a cell: arm and VALID (R184). -/
def State.mapArm (s : State) (c : Nat) : Option Nat :=
  if s.flag (Fld.VLY_ARMMAP_VALID (c / 128) (c % 128)) then some (s.rd (Fld.VLY_ARMMAP_ARM (c / 128) (c % 128))) else none

/-- The binding an ARMBIND value stands for (R160). -/
def bindingOf (v : BitVec 40) : Option (Nat × Nat) := if bitOf v.toNat 16 then some (v.toNat % 64, v.toNat / 64 % 1024) else none

/-- Bring the arms of two bindings into line. -/
def State.showBound (s : State) (old new : Option (Nat × Nat)) : State :=
  let s := match old with | some (a, _) => s.showArm a | none => s
  match new with | some (a, _) => s.showArm a | none => s

/-- Bind a cell as the arm map now says (R159, R160, R184): a member number is assigned; a version-1 cell
takes it at once, any other by an ARMBIND write. A number assigned before stays reserved until the cell confirms. -/
def State.bindCell (s : State) (c : Nat) : State :=
  let x := s.cell c
  let n := c / 128
  let k := c % 128
  let want : Option (Nat × Nat) :=
    match s.mapArm c with
    | some a => (s.freeMember a).map (fun m => (a, m))
    | none => none
  let s := s.wrs [(Fld.VLY_ARMMAP_MEMBER n k, (want.map (·.2)).getD 0)]
  if x.ver = 1 then
    let s := (s.setCell c (fun x => { x with member := want, newMember := none, reserved := [] })).wr (Fld.VLY_ARMMAP_BIND_DONE n k) (if want.isSome then 1 else 0)
    s.showBound x.member want
  else
    let v := match want with | some (a, m) => armbindValue a m true | none => armbindValue 0 0 false
    ((s.setCell c (fun x => { x with newMember := want, bindDue := some v, reserved := x.reserved ++ x.newMember.toList })).wr
      (Fld.VLY_ARMMAP_BIND_DONE n k) 0).startWrite c

/-- The return that confirms the ARMBIND write `v` (R159, R160): its binding is in force, and the numbers of bindings that it
clears or moves are free. -/
def State.bindDone (s : State) (c : Nat) (v : BitVec 40) : State :=
  let x := s.cell c
  let now := bindingOf v
  let newest := x.bindDue.isNone
  let s := s.setCell c (fun x => { x with
    member := now, newMember := if newest then none else x.newMember, bindTold := false,
    reserved := if newest then [] else match now with | some b => (x.reserved.dropWhile (fun r => r != b)).drop 1 | none => [] })
  let s := s.wr (Fld.VLY_ARMMAP_BIND_DONE (c / 128) (c % 128)) (if now.isSome ∧ newest then 1 else 0)
  s.showBound x.member now

/-- Free a slot: writes fail with cause 7, the member numbers are free, and the spoke is brought into line. -/
def State.freeCell (s : State) (c : Nat) : State :=
  let s := s.failWrites c 7
  let x := s.cell c
  let s := s.setCell c (fun _ => Cell.reset)
  let s := s.setSpoke (c / 128) (fun p => { p with items := p.items.filter (fun i =>
    match i with | .req r => r.slot != c % 128 | .mgmt _ => true) })
  let s := s.showBound x.member none
  let s := s.wrs [(Fld.VLY_ARMMAP_BIND_DONE (c / 128) (c % 128), 0), (Fld.VLY_ARMMAP_MEMBER (c / 128) (c % 128), 0)]
  (((s.retail (c / 128)).showSpoke (c / 128)).showCells)

/-! ### Bring-up and gear changes (R97, R102 to R105) -/

/-- The CTLE step that CTLE_STEP asks for while CTLE_AUTO = 0 (R97): it enters the data path after the next return window. -/
def State.manualStep (s : State) (n : Nat) : State :=
  if s.flag (Fld.SPK_CFG_CTLE_AUTO n) then s else s.setSpoke n (fun p => { p with ctleNext := some (s.rd (Fld.SPK_CFG_CTLE_STEP n)) })

/-- The lanes run at gear `g` from now on: the data path starts at the initial step, and a sweep or the manual step follows
(R97, R98). -/
def State.gearSet (s : State) (n g : Nat) : State :=
  let s := s.wrs [(Fld.SPK_STAT_GEAR n, g), (Fld.SPK_STAT_CTLE_USED n, ctleInitial g), (Fld.SPK_STAT_SWEEP n, s.rd (Fld.SPK_CFG_CTLE_AUTO n))]
  (s.setSpoke n (fun p => { p with ctleNext := none })).manualStep n

/-- A spoke starts at G0 with discovery and ranging (R102); its slots are free. -/
def State.bringUp (s : State) (n : Nat) : State :=
  let s := (s.cellsOf n).foldl (fun s p => s.freeCell p.1) s
  let s := (s.wr (Fld.SPK_STAT_TRIAL n) 0).gearSet n 0
  (s.setSpoke n (fun p => { p with
    probe := .bringUp, discCount := 0, discOpen := none, plan := none, inB := false, noLock := 0,
    lost := false, restart := false, items := [], next := none, orders := [], refused := none, empty := none })).showSpoke n

/-- The target gear (R103). -/
def State.targetGear (s : State) (n : Nat) : Nat :=
  min (min (s.rd (Fld.SPK_CFG_GEAR_MAX n)) (s.rd (Fld.SPK_STAT_GEAR_CAP n))) (s.rd (Fld.SPK_STAT_RIDER_GEAR n))

/-- The timeline fits with the spoke at gear `g` (R103). -/
def State.gearFits (s : State) (n g : Nat) : Bool :=
  (s.wr (Fld.SPK_STAT_GEAR n) g).fits s.timeline &&
    ((s.cellsOf n).all (fun p => p.2.ver != 1) || (s.wr (Fld.SPK_STAT_GEAR n) g).v1Fits n s.timeline)

/-- Announce a gear change in the next 16 serves; each cell with a slot is sent its O for the new slot width (R104, R134). -/
def State.planGear (s : State) (n g : Nat) : State :=
  let s := s.setSpoke n (fun p => { p with plan := some (g, 16), refused := none })
  (s.cellsOf n).foldl (fun s p => if p.2.lstate = .free then s else s.adjustAtGc p.1) s

/-- Every converter that owns a cell on the spoke is blocked (R103): by a binding in force, one being written, or the arm map. -/
def State.spokeBlocked (s : State) (n : Nat) : Bool :=
  (s.cellsOf n).all (fun p =>
    ((p.2.member.toList ++ p.2.newMember.toList ++ p.2.reserved).map (·.1) ++ (s.mapArm p.1).toList).all
      (fun a => bitOf (s.rd Fld.LPW_BLK_STAT_BLOCKED) (a / 6)))

/-- What a refused automatic change depends on (R103). -/
def State.refusedMemo (s : State) (n : Nat) : RefusedMemo :=
  ⟨s.targetGear n, (s.admittedOf n).map (·.1), s.timeline⟩

/-- Plan a change to the target gear if the timeline fits, else set REFUSED; a refused automatic change is remembered (R103). -/
def State.tryStep (s : State) (n : Nat) (auto : Bool) : State :=
  let g := s.targetGear n
  if s.gearFits n g then s.planGear n g
  else ((s.noteNofit (s.wr (Fld.SPK_STAT_GEAR n) g) s.timeline).setSpoke n (fun p =>
    { p with refused := if auto then some (s.refusedMemo n) else p.refused })).raise (Fld.SPK_EVT_REFUSED n)

/-- The spoke can take a gear change now: Serving, its discovery over, and none announced. -/
def State.mayStep (s : State) (n : Nat) : Bool :=
  s.spokeState n == .serving && (s.spoke n).plan == none && (s.spoke n).probe == .none && !(s.spoke n).inB

/-- GEAR_STEP_AUTO (R103). -/
def execGearStepAuto (spoke : Fin 128) (s : State) : Host.Outcome State Fault Refusal :=
  let n := spoke.val
  .next (if s.flag (Fld.SPK_CFG_AUTO_UP n) ∧ s.mayStep n ∧ s.spokeBlocked n
      ∧ s.targetGear n ≠ s.rd (Fld.SPK_STAT_GEAR n) ∧ (s.spoke n).refused ≠ some (s.refusedMemo n)
    then s.tryStep n true else s)

/-- A RESTEP that waits is taken, refused, or cleared at the target gear; until the spoke can step it goes on waiting (R103,
R111). -/
def State.tryRestep (s : State) (n : Nat) : State :=
  if ¬ s.flag (Fld.SPK_CTL_RESTEP n) then s
  else if s.targetGear n = s.rd (Fld.SPK_STAT_GEAR n) then s.wr (Fld.SPK_CTL_RESTEP n) 0
  else if s.mayStep n then (s.tryStep n false).wr (Fld.SPK_CTL_RESTEP n) 0
  else s

/-- A write of RESTEP (R103, R111). -/
def State.restep (s : State) (n : Nat) : State := (s.wr (Fld.SPK_CTL_RESTEP n) 1).tryRestep n

def execSpkRestep (u : Core) (spoke : Fin 128) (s : State) : Host.Outcome State Fault Refusal :=
  .next (s.asWriter u 0 fun s => s.restep spoke.val)

/-- CLR_CAP clears GEAR_CAP to 4 (R105). -/
def execSpkClrCap (u : Core) (spoke : Fin 128) (s : State) : Host.Outcome State Fault Refusal :=
  .next (s.asWriter u 0 fun s => s.wr (Fld.SPK_STAT_GEAR_CAP spoke.val) 4)

/-- CNT_CLR clears the four burst counters of the spoke (R111). -/
def State.spkCntClear (s : State) (n : Nat) : State :=
  s.wrs [(Fld.SPK_CNT_LOCK_CNT n, 0), (Fld.SPK_CNT_NOLOCK_CNT n, 0), (Fld.SPK_CNT_CRC_CNT n, 0), (Fld.SPK_CNT_PLACE_CNT n, 0)]

def execSpkCntClr (u : Core) (spoke : Fin 128) (s : State) : Host.Outcome State Fault Refusal :=
  .next (s.asWriter u 0 fun s => s.spkCntClear spoke.val)

/-- GEAR_CHANGE_VOLLEY (R104): at the announced boundary the lanes run at the new gear, each cell with a slot has its O for
it, and a trial is to start at boundary B + 1 (R105). A discovery round of the old gear is over. -/
def execGearChangeVolley (spoke : Fin 128) (s : State) : Host.Outcome State Fault Refusal :=
  let n := spoke.val
  match (if (s.spoke n).inB then (s.spoke n).plan else none) with
  | some (g, 0) =>
    let was := s.rd (Fld.SPK_STAT_GEAR n)
    let s := (s.cellsOf n).foldl (fun s p => if p.2.lstate = .free then s else
      let (o, _) := s.ranged n (p.1 % 128) p.2.tailPos g p.2.delay2
      s.setCell p.1 (fun x => { x with o := o, pos := s.slotPos n (p.1 % 128) p.2.tailPos g, trialMiss := 0, last16 := [] })) s
    let s := (s.gearSet n g).wr (Fld.SPK_STAT_TRIAL n) 0
    let s := s.setSpoke n (fun p => { p with plan := none, inB := true, trialAge := 0, discOpen := none })
    .next (s.raise (if was < g then Fld.SPK_EVT_GEAR_UP n else Fld.SPK_EVT_GEAR_DOWN n))
  | _ => .next s

/-- GEAR_TRIAL_END (R105): after the 1,024 volleys from boundary B+1 on the trial passes, or fails when an admitted cell missed more than
4 of them. It is judged only then, not at the fifth missing return (DESIGN CHOICE, log 141). -/
def execGearTrialEnd (spoke : Fin 128) (s : State) : Host.Outcome State Fault Refusal :=
  let n := spoke.val
  if s.flag (Fld.SPK_STAT_TRIAL n) ∧ 1025 ≤ (s.spoke n).trialAge then
    let s := s.wr (Fld.SPK_STAT_TRIAL n) 0
    if (s.admittedOf n).any (fun p => decide (4 < p.2.trialMiss)) then
      let g := s.rd (Fld.SPK_STAT_GEAR n)
      let s := (s.raise (Fld.SPK_EVT_TRIAL_FAIL n)).wr (Fld.SPK_STAT_GEAR_CAP n) (max 1 (g - 1))
      .next (if 1 < g ∧ s.gearFits n (g - 1) then s.planGear n (g - 1) else s)
    else .next s
  else .next s

/-- The step with the largest product of eye margins, the lowest among equals (R98). -/
def bestEye : List (BitVec 8 × BitVec 8) → Nat → Nat × BitVec 8 × BitVec 8 → Nat × BitVec 8 × BitVec 8
  | [], _, b => b
  | p :: t, i, b =>
    bestEye t (i + 1) (if b.2.1.toNat * b.2.2.toNat < p.1.toNat * p.2.toNat then (i, p.1, p.2) else b)

/-- CTLE_SWEEP (R98): the best of the 16 steps enters the data path after the next return window. -/
def execCtleSweep (spoke : Fin 128) (eyes : List (BitVec 8 × BitVec 8)) (s : State) : Host.Outcome State Fault Refusal :=
  let n := spoke.val
  if s.flag (Fld.SPK_STAT_SWEEP n) then
    match eyes with
    | [] => .next s
    | e :: t =>
      let (i, h, v) := bestEye t 1 (0, e.1, e.2)
      let s := s.wrs [(Fld.SPK_STAT_SWEEP n, 0), (Fld.SPK_EYE_EYE_H n, h.toNat), (Fld.SPK_EYE_EYE_V n, v.toNat), (Fld.SPK_EYE_BEST n, i)]
      let s := if s.flag (Fld.SPK_CFG_CTLE_AUTO n) then s.setSpoke n (fun p => { p with ctleNext := some i }) else s
      .next (s.raiseIf (i == 0 || i == 15) (Fld.SPK_EVT_CTLE_EDGE n) i)
  else .next s

/-! ### Enable, disable, probes, discovery's end (R99 to R102, R106) -/

/-- ENABLE from 0 to 1 (R102, R105): bring-up at G0 with GEAR_CAP 4. -/
def State.enableSpoke (s : State) (n : Nat) : State :=
  if s.flag (Fld.SPK_CFG_ENABLE n) then s
  else ((s.wr (Fld.SPK_CFG_ENABLE n) 1).wr (Fld.SPK_STAT_GEAR_CAP n) 4).bringUp n

def execSpokeEnable (u : Core) (spoke : Fin 128) (s : State) : Host.Outcome State Fault Refusal :=
  .next (s.asWriter u 0 fun s => s.enableSpoke spoke.val)

/-- ENABLE to 0 puts both directions to sleep (R99); the spoke's slots are free. A trial in progress stands still until the next
bring-up ends it (DESIGN CHOICE, log 142). -/
def State.disableSpoke (s : State) (n : Nat) : State :=
  let s := s.wr (Fld.SPK_CFG_ENABLE n) 0
  let s := (s.cellsOf n).foldl (fun s p => s.freeCell p.1) s
  (s.setSpoke n (fun p => { p with probe := .none, plan := none, items := [], next := none, orders := [], discOpen := none, empty := none })).showSpoke n

def execSpokeDisable (u : Core) (spoke : Fin 128) (s : State) : Host.Outcome State Fault Refusal :=
  .next (s.asWriter u 0 fun s => s.disableSpoke spoke.val)

/-- PROBE_S seconds after the boundary at which it entered Empty the spoke wakes at G0 and offers discovery (R101). -/
def execSpokeProbeStart (spoke : Fin 128) (s : State) : Host.Outcome State Fault Refusal :=
  let n := spoke.val
  let due : Bool := match (s.spoke n).empty with
    | some (some t) => decide (t + s.rd (Fld.SPK_CFG_PROBE_S n) * 800000000 ≤ s.nowTick)
    | _ => false
  .next (if s.spokeState n = .empty ∧ s.mayServe ∧ s.rd (Fld.SPK_CFG_PROBE_S n) ≠ 0 ∧ due then
    (((s.wr (Fld.SPK_STAT_TRIAL n) 0).gearSet n 0).setSpoke n
      (fun p => { p with probe := .probe, discCount := 0, plan := none, inB := false, empty := none })).showSpoke n else s)

/-- A probe ends after 64 volleys (R101): with no admitted cell the spoke is Empty again, with one it stays awake. SHORT is of
bring-ups alone (DESIGN CHOICE, log 143). -/
def execSpokeProbeEnd (spoke : Fin 128) (s : State) : Host.Outcome State Fault Refusal :=
  let n := spoke.val
  .next (if (s.spoke n).probe = .probe ∧ 64 ≤ (s.spoke n).discCount then
    (s.setSpoke n (fun p => { p with
      probe := .none, discOpen := none, items := if s.rd (Fld.SPK_STAT_ADMITTED n) = 0 then [] else p.items })).showSpoke n else s)

/-- DISCOVERY_END (R102, R106): EXPECT is met, or 64 DISC_OPENs admitted no further cell; fewer cells than
EXPECT set SHORT. -/
def execDiscoveryEnd (spoke : Fin 128) (s : State) : Host.Outcome State Fault Refusal :=
  let n := spoke.val
  let adm := s.rd (Fld.SPK_STAT_ADMITTED n)
  let want := s.rd (Fld.SPK_CFG_EXPECT n)
  if (s.spoke n).probe = .bringUp ∧ ((want ≠ 0 ∧ want ≤ adm) ∨ 64 ≤ (s.spoke n).discCount) then
    let s := (s.setSpoke n (fun p => { p with probe := .none, discOpen := none })).showSpoke n
    .next (s.raiseIf (decide (adm < want)) (Fld.SPK_EVT_SHORT n) adm)
  else .next s

/-! ### Fences and lane tests (R108, R109, R526) -/

/-- FENCE is written (R108); it acts at the next boundary. -/
def State.hostFence (s : State) (n : Nat) (on : Bool) : State := s.wrB (Fld.SPK_CTL_FENCE n) on

def execHostFence (u : Core) (spoke : Fin 128) (fence : Bool) (s : State) : Host.Outcome State Fault Refusal :=
  .next (s.asWriter u 0 fun s => s.hostFence spoke.val fence)

/-- Order a module fence of a spoke, effective at the next boundary (R526). -/
def State.fenceSpoke (s : State) (n code : Nat) : State :=
  if (s.spoke n).fenceWant = none then s.setSpoke n (fun p => { p with fenceWant := some code }) else s

/-- KIND 2 log record of a fence or lift (R524, R526). -/
def State.logFence (s : State) (block unit code : Nat) (fence : Bool) : State :=
  s.logAppend 2 0 block unit (BitVec.ofNat 128 ((if fence then 1 else 0) + code * 256 + (s.ts32 3).toNat * 2 ^ 32))

/-- Fences of a spoke at a boundary (R108, R526): take effect, or lift and bring the spoke up. -/
def State.applyFence (s : State) (n : Nat) : State :=
  let p := s.spoke n
  let host := s.flag (Fld.SPK_CTL_FENCE n)
  let was := s.flag (Fld.SPK_STAT_FENCED n)
  let now := host || p.fenceWant.isSome
  -- Clearing FENCE sets MODE to 0 at the same boundary (R109).
  let s := if p.hostFenced ∧ ¬ host then s.wr (Fld.SPK_TEST_MODE n) 0 else s
  let s := match p.fenceWant, p.fenceCause with
    | some c, none => ((s.logFence 0 n c true).raise Fld.HKP_SVC_EVT_FENCE n)
    | none, some c => s.logFence 0 n c false
    | _, _ => s
  let s := s.wrBit (Fld.HKP_FENCE_SPK_SPOKES (n / 32)) (n % 32) p.fenceWant.isSome
  let s := s.wrs [(Fld.SPK_STAT_FENCED n, if now then 1 else 0), (Fld.SPK_STAT_FENCE_MOD n, if p.fenceWant.isSome then 1 else 0)]
  let s := s.setSpoke n (fun p => { p with hostFenced := host, fenceCause := p.fenceWant })
  if now ∧ ¬ was then
    -- The spoke's cells lose their posted writes (cause 7 of R141).
    ((s.cellsOf n).foldl (fun s p => s.failWrites p.1 7) s).showSpoke n
  else if was ∧ ¬ now then (if s.flag (Fld.SPK_CFG_ENABLE n) then s.bringUp n else s.showSpoke n)
  else s

/-- A write of SPK_TESTn (R109): a non-zero MODE on a spoke not fenced, a reserved MODE, and LIGHT = 1 on a
standby are refused; any other selects its MODE, which clears the checker. -/
def State.laneTest (s : State) (n mode : Nat) (light : Bool) : State :=
  if (mode ≠ 0 ∧ ¬ s.flag (Fld.SPK_STAT_FENCED n)) ∨ 5 ≤ mode ∨ (light ∧ s.standby) then
    s.raise Fld.SPK_GSTAT_INVALID_WR n
  else
    let s := s.wrs [(Fld.SPK_TEST_MODE n, mode), (Fld.SPK_TEST_LIGHT n, if light then 1 else 0)]
    (s.wrs [(Fld.SPK_PRBS_ERR_ERR n, 0), (Fld.SPK_PRBS_ERR_PRBS_LOCK n, 0)]).showSpoke n

def execLaneTestSelect (u : Core) (spoke : Fin 128) (mode : BitVec 3) (light : Bool) (s : State) :
    Host.Outcome State Fault Refusal :=
  .next (s.asWriter u 0 fun s => s.laneTest spoke.val mode.toNat light)

/-- The PRBS checker of a fenced spoke in MODE 3 or 4 locks or loses the pattern, with the errors it counted
(R109, R116). -/
def execPrbsLock (spoke : Fin 128) (locked : Bool) (errors : Nat) (s : State) : Host.Outcome State Fault Refusal :=
  let n := spoke.val
  .next (if s.flag (Fld.SPK_STAT_FENCED n) ∧ (s.rd (Fld.SPK_TEST_MODE n) = 3 ∨ s.rd (Fld.SPK_TEST_MODE n) = 4) then
    (s.wrB (Fld.SPK_PRBS_ERR_PRBS_LOCK n) locked).bump (Fld.SPK_PRBS_ERR_ERR n) errors else s)

/-- TRANSCEIVER_POLL (R87, R117, R526): the readings, XCVR_FAULT, or MS_FAIL without an answer; TX_FAULT in 3
consecutive readings fences the spoke with code 2. -/
def execTransceiverPoll (spoke : Fin 128) (reading : Option XcvrReading) (s : State) : Host.Outcome State Fault Refusal :=
  let n := spoke.val
  if s.flag Fld.SPK_GCFG_MS_EN ∧ s.flag (Fld.SPK_CFG_ENABLE n) then
    match reading with
    | none => .next ((s.wr (Fld.SPK_XCVR_B_VALID n) 0).raise (Fld.SPK_EVT_MS_FAIL n))
    | some r =>
      let s := s.wrs [(Fld.SPK_XCVR_A_RX_PWR n, r.rxPwr.toNat), (Fld.SPK_XCVR_A_TX_PWR n, r.txPwr.toNat),
        (Fld.SPK_XCVR_B_TEMP n, r.temp.toNat), (Fld.SPK_XCVR_B_TX_FAULT n, if r.txFault then 1 else 0),
        (Fld.SPK_XCVR_B_RX_LOS n, if r.rxLos then 1 else 0), (Fld.SPK_XCVR_B_VALID n, 1)]
      let s := s.setSpoke n (fun p => { p with txFaults := if r.txFault then p.txFaults + 1 else 0 })
      let s := s.raiseIf (r.txFault || r.rxLos) (Fld.SPK_EVT_XCVR_FAULT n)
      .next (if 3 ≤ (s.spoke n).txFaults ∧ s.flag Fld.HKP_SVC_CFG_TXF_FENCE then s.fenceSpoke n 2 else s)
  else .next s

/-- Yield condition 5 (R332): SPOKE_LOSS enabled spokes are lost while the twin's last STATUS frame shows a burst locked
on each of them. -/
def State.spokeLoss (s : State) : State :=
  let n := ((List.range 128).filter (fun n => s.flag (Fld.SPK_CFG_ENABLE n) && (s.spoke n).lost && s.tnd.twinLocked.getLsbD n)).length
  if s.rd Fld.TND_CFG_SPOKE_LOSS ≤ n then (if bitOf (s.rd Fld.TND_CAUSE_LIVE) 5 then s else s.raiseYield 5) else s.clearYield 5

/-- SPOKE_LOS (R96): an admitted spoke without a locked burst in 8 consecutive return windows. -/
def execSpokeLos (spoke : Fin 128) (s : State) : Host.Outcome State Fault Refusal :=
  let n := spoke.val
  .next (if 8 ≤ (s.spoke n).noLock ∧ ¬ (s.spoke n).lost ∧ 0 < s.rd (Fld.SPK_STAT_ADMITTED n) then
    ((s.setSpoke n (fun p => { p with lost := true })).raise (Fld.SPK_EVT_LOS n)).spokeLoss else s)

end Sys2Proof.Machine
end

