-- ==== Sys2Proof/Machine/RecOps.lean ====
section
/-! DEFINITION. Shared operations of the disturbance recorder (R509 to R516): segments, the storing of entries, the
staging store, and the firing of trigger sources. -/

namespace Sys2Proof.Machine

def State.recd (s : State) (d : Nat) : RecDef := FMap.get RecDef.reset s.recs d
def State.setRec (s : State) (d : Nat) (f : RecDef → RecDef) : State :=
  { s with recs := FMap.modify RecDef.reset s.recs d f }

/-- STATE of a definition (R512): 0 OFF, 1 FILLING, 2 ARMED, 3 POST, 4 FULL. -/
def State.recState (s : State) (d : Nat) : Nat := s.rd (Fld.REC_D_STAT_STATE d)

/-! ### Segments (R509) -/

def State.recSegs (s : State) (d : Nat) : Nat := s.rd (Fld.REC_D_CFG_NSEG_M1 d) + 1

/-- Bytes of a segment, in whole entries. -/
def State.segBytes (s : State) (d : Nat) : Nat :=
  s.rd (Fld.REC_D_REGION_SIZE_MB d) * 2 ^ 20 / s.recSegs d / 16 * 16

/-- Address of a segment in the ring. -/
def State.segAddr (s : State) (d k : Nat) : Nat := s.rd (Fld.REC_D_REGION_BASE_MB d) * 2 ^ 20 + k * s.segBytes d

/-- Entries a segment holds after its header. -/
def State.segCap (s : State) (d : Nat) : Nat := (s.segBytes d - 64) / 16

/-- The lowest segment without a finished capture. -/
def State.freeSeg (s : State) (d : Nat) : Option Nat :=
  (List.range (s.recSegs d)).find? (fun k => !bitOf (s.rd (Fld.REC_D_STAT_DONE d)) k)

/-- Start FILLING in the first free segment, or stand in FULL (R512). Captures whose header the segment covers are
overwritten. -/
def State.recFill (s : State) (d : Nat) : State :=
  match s.freeSeg d with
  | some k =>
    let a := s.segAddr d k
    let s := { s with captures := FMap.clearRange s.captures a (a + s.segBytes d) }
    (s.setRec d (fun r => { RecDef.reset with seg := a, cap := s.segCap d, armed := s.volley, volley := s.volley, crossed := r.crossed })).wrs
      [(Fld.REC_D_STAT_STATE d, 1), (Fld.REC_D_STAT_SEG d, k), (Fld.REC_D_PEAK_BYTES d, 0)]
  | none => ((s.setRec d (fun r => { RecDef.reset with crossed := r.crossed })).wr (Fld.REC_D_STAT_STATE d) 4).raise Fld.REC_EVT_FULL d

/-- A segment is freed; a FULL definition goes on in it (R512, R517). -/
def State.recFree (s : State) (d k : Nat) : State :=
  let s := (s.wrBit (Fld.REC_D_STAT_DONE d) k false).wrBit (Fld.REC_D_STAT_READING d) k false
  let s : State := { s with captures := FMap.set none s.captures (s.segAddr d k) none }
  if s.recState d = 4 then s.recFill d else s

/-! ### Entries (R510, R514) -/

/-- The definition records now; POST ends with the volley POST_V after the trigger's. -/
def State.recording (s : State) (d : Nat) : Bool :=
  let st := s.recState d
  st == 1 || st == 2 || (st == 3 && (match (s.recd d).trigger with
    | some g => decide ((s.volley - g.volley).toNat ≤ s.rd (Fld.REC_D_LEN_POST_V d))
    | none => false))

/-- Write an entry to the segment, over its oldest when it is full. -/
def RecDef.put (r : RecDef) (cap : Nat) (e : RecEntry) : RecDef :=
  match r.entries with
  | o :: t => if cap ≤ r.entries.length then { r with entries := t ++ [e], written := r.written + 1, overwritten := some o.volley }
    else { r with entries := r.entries ++ [e], written := r.written + 1 }
  | [] => { r with entries := [e], written := r.written + 1 }

/-- The staging store drains into the segment. -/
def RecDef.drain (r : RecDef) (cap : Nat) : RecDef := r.stage.foldl (fun r e => r.put cap e) { r with stage := [] }

/-- C3 traffic is not throttled, so the staging stores empty (R419). -/
def State.recDrains (s : State) : Bool := s.rd Fld.QOS_STAT_SHED == 0

/-- Store an entry (R514): up to GUAR bytes in a volley at once, beyond it through the staging store of 64 KiB, which
keeps 16 bytes for a gap entry; an entry that finds it full is lost. -/
def State.recPut (s : State) (d : Nat) (ts : BitVec 32) (kind index : Nat) (aux : Nat) (data : BitVec 64) : State :=
  if ¬ s.recording d then s
  else
    let e : RecEntry := { ts := ts, kind := BitVec.ofNat 8 kind, index := BitVec.ofNat 8 index, aux := BitVec.ofNat 16 aux,
                          data := data, volley := s.volley }
    let cap := s.segCap d
    let r := s.recd d
    let bytes := (if r.volley = s.volley then r.bytes else 0) + 16
    let r := { r with volley := s.volley, bytes := bytes }
    let s := s.wr (Fld.REC_D_PEAK_BYTES d) (max (s.rd (Fld.REC_D_PEAK_BYTES d)) bytes)
    if bytes ≤ s.rd (Fld.REC_D_GUAR_BYTES d) ∨ (s.recDrains ∧ r.gap = none) then
      let r := if s.recDrains then r.drain cap else r
      s.setRec d (fun _ => r.put cap e)
    else if r.gap = none ∧ 16 * r.stage.length + 32 ≤ 65536 then s.setRec d (fun _ => { r with stage := r.stage ++ [e] })
    else
      let g := match r.gap with | some g => { g with last := ts, count := g.count + 1 } | none => ⟨ts, ts, 1⟩
      (s.setRec d (fun _ => { r with gap := some g, lost := r.lost + 1 })).bump (Fld.REC_D_CNT_GAP_CNT d)

/-- Offer an entry to every definition that selects it: `bit` of SRC, and a selection of its own. -/
def State.recAll (s : State) (bit : Nat) (sel : Nat → Bool) (ts : BitVec 32) (kind index aux : Nat) (data : BitVec 64) : State :=
  (List.range 16).foldl (fun s d =>
    if bitOf (s.rd (Fld.REC_D_CFG_SRC d)) bit ∧ sel d then s.recPut d ts kind index aux data else s) s

/-- A definition selects subscription `k`. -/
def State.recSv (s : State) (k d : Nat) : Bool :=
  if k < 32 then bitOf (s.rd (Fld.REC_D_SVSEL_LO_SUB d)) k else bitOf (s.rd (Fld.REC_D_SVSEL_HI_SUB d)) (k - 32)

/-- A definition selects arm `a`. -/
def State.recArm (s : State) (a d : Nat) : Bool :=
  if a < 32 then bitOf (s.rd (Fld.REC_D_ARMSEL_LO_ARM d)) a else bitOf (s.rd (Fld.REC_D_ARMSEL_HI_ARM d)) (a - 32)

/-! ### Trigger sources (R513) -/

/-- A source fires: each definition whose TRIG selects it, outside OFF, notes it until it is marked. -/
def State.recFire (s : State) (source aux : Nat) (sel : Nat → Bool) : State :=
  (List.range 16).foldl (fun s d =>
    if s.recState d ≠ 0 ∧ bitOf (s.rd (Fld.REC_D_TRIG_SRC d)) source ∧ sel d then
      s.setRec d (fun r => { r with fires := r.fires ++ [⟨source, aux, s.ts32 3, s.volley, s.recState d⟩] })
    else s) s

/-- A block decision names converters (source 0). -/
def State.recBlock (s : State) (mask : BitVec 8) : State :=
  s.recFire 0 mask.toNat (fun d => (BitVec.ofNat 8 (s.rd (Fld.REC_D_TRIG_TRIG_CONV d)) &&& mask) != 0)

/-- A comparator of channel `k` enters trip (source 1). -/
def State.recTrip (s : State) (k : Nat) : State := s.recFire 1 k (fun d => bitOf (s.rd (Fld.REC_D_TCMP_CH d)) k)

end Sys2Proof.Machine
end

