-- ==== Sys2Proof/Machine/AdcOps.lean ====
section
/-! DEFINITION. Shared operations of the analogue inputs (R302 to R317): slices and their assignment, the granting of
conversions, urgent requests, and the codes of R304. Times are counter ticks. -/

namespace Sys2Proof.Machine

def State.chan (s : State) (k : Nat) : AdcChan := FMap.get AdcChan.reset s.adc k
def State.setChan (s : State) (k : Nat) (f : AdcChan → AdcChan) : State := { s with adc := FMap.modify AdcChan.reset s.adc k f }
def State.slice (s : State) (g j : Nat) : AdcSlice := FMap.get AdcSlice.reset s.slices (7 * g + j)
def State.setSlice (s : State) (g j : Nat) (f : AdcSlice → AdcSlice) : State :=
  { s with slices := FMap.modify AdcSlice.reset s.slices (7 * g + j) f }

/-! ### Slices (R302, R311, R312) -/

/-- Slices of a group that are assigned to a channel. -/
def State.assignedSlices (s : State) (g : Nat) : List Nat := (List.range 7).filterMap (fun j => (s.chan (7 * g + j)).slice)

/-- Idle slices of a group that are not fenced, lowest first. -/
def State.idleSlices (s : State) (g : Nat) : List Nat :=
  let used := s.assignedSlices g
  (List.range 7).filter (fun j => !used.contains j && !bitOf (s.rd (Fld.ADC_GRP_FENCED g)) j)

/-- The idle slice that has gone longest without calibration, the present spare before others of equal age; slices on their way to a
channel come last (R311, log 150). -/
def State.stalestIdle (s : State) (g : Nat) : Option Nat :=
  let leaving := fun (j : Nat) => (List.range 7).any (fun i => ((s.chan (7 * g + i)).swap.map (·.1)) == some j)
  let sp := s.rd (Fld.ADC_GRP_SPARE g)
  let idle := s.idleSlices g
  let rank := fun (j : Nat) => (if leaving j then 2 ^ 64 else 0) + 2 * (s.slice g j).when' + (if j = sp then 0 else 1)
  idle.foldl (fun (b : Option Nat) j => match b with
    | none => some j
    | some i => if rank j < rank i then some j else some i) none

/-- ADC_GRPg follows the group: a spare that is idle stays; else the lowest idle slice is it. -/
def State.showGroup (s : State) (g : Nat) : State :=
  let idle := s.idleSlices g
  let sp := s.rd (Fld.ADC_GRP_SPARE g)
  s.wrs [(Fld.ADC_GRP_FULL g, if idle = [] then 1 else 0), (Fld.ADC_GRP_SPARE g, if idle.contains sp then sp else idle.head?.getD 7)]

/-- A slice is no longer on its way to a channel. -/
def State.dropSwap (s : State) (g j : Nat) : State :=
  (List.range 7).foldl (fun (s : State) i =>
    if ((s.chan (7 * g + i)).swap.map (·.1)) = some j then s.setChan (7 * g + i) (fun x => { x with swap := none }) else s) s

/-- The slice an enabled channel takes: an idle one other than the spare, else the spare. -/
def State.takeSlice (s : State) (g : Nat) : Option Nat :=
  let idle := s.idleSlices g
  match idle.filter (fun j => j != s.rd (Fld.ADC_GRP_SPARE g)) with
  | j :: _ => some j
  | [] => idle.head?

/-! ### Granting (R306 to R310) -/

def State.adcMode (s : State) (k : Nat) : Nat := s.rd (Fld.ADC_CH_CFG_MODE k)

/-- Extra start-up of a conversion with PDN = 1. -/
def State.pdnDelay (s : State) (k : Nat) : Nat := if s.flag (Fld.ADC_CH_CFG_PDN k) then 48 else 0

/-- Ticks the slice is occupied before T_s of a triggered or urgent conversion (R306); of every other one they are 16, PDN ignored
(R307). -/
def State.adcLead (s : State) (k : Nat) : Nat := if s.flag (Fld.ADC_CH_CFG_PDN k) then 64 else 16

/-- Two conversions of a channel occupy the slice at once. -/
def overlaps (a b : AdcConv) : Bool := decide (a.ts < b.ts + 144 + a.lead) && decide (b.ts < a.ts + 144 + b.lead)

/-- Put a conversion in its place by sampling instant. -/
def insertConv (c : AdcConv) : List AdcConv → List AdcConv
  | [] => [c]
  | x :: t => if c.ts < x.ts then c :: x :: t else x :: insertConv c t

/-- The first instant from that of `f` on at which a fill conversion meets no granted one. -/
def fillAt (f : AdcConv) (cs : List AdcConv) : AdcConv :=
  cs.foldl (fun f c => if overlaps f c then { f with ts := c.ts + 144 + f.lead } else f) f

/-- Begin continuous or fill conversions at the next instant from `ts` on, if the mode has them and none is entered from there on. -/
def State.adcNext (s : State) (k ts : Nat) : State :=
  let x := s.chan k
  if s.adcMode k = 1 then
    if x.convs.any (fun c => c.kind == .continuous && decide (ts ≤ c.ts)) then s
    else s.setChan k (fun x => { x with convs := insertConv ⟨.continuous, ts, none, 16, ts⟩ x.convs })
  else if s.adcMode k = 3 then
    if x.convs.any (fun c => c.kind == .fill && decide (ts ≤ c.ts)) then s
    else s.setChan k (fun x => { x with convs := insertConv (fillAt ⟨.fill, ts, none, 16, ts⟩ x.convs) x.convs })
  else s

/-- A fill conversion that has left its slice is followed by the next. -/
def State.adcCatchUp (s : State) (k : Nat) : State :=
  (s.chan k).convs.foldl (fun s c => if c.kind = .fill ∧ c.ts + 144 ≤ s.nowTick then s.adcNext k (c.ts + 160) else s) s

/-- An urgent request is dropped (R310). -/
def State.urgDrop (s : State) (k : Nat) : State := (s.bump (Fld.ADC_CH_CNT_URG_DROP k)).raise Fld.ADC_EVT_URG_DROP k

/-- A trigger event reaches a channel (R307, R310): the conversion is granted and abandons an overlapping fill, or is lost against a
triggered or urgent one; an urgent request of the same tick comes after it and is dropped. -/
def State.adcTrigger (s : State) (k : Nat) : State :=
  let s := s.adcCatchUp k
  let now := s.nowTick
  let c : AdcConv := ⟨.triggered, now + s.rd (Fld.ADC_CH_CFG_DELAY k) + s.pdnDelay k, none, s.adcLead k, now⟩
  let later := fun (x : AdcConv) => x.kind == .urgent && x.req == now
  let x := s.chan k
  if x.convs.any (fun d => (d.kind == .triggered || (d.kind == .urgent && !later d)) && overlaps d c) then
    (s.bump (Fld.ADC_CH_CNT_TRIG_LOST k)).raise Fld.ADC_EVT_TRIG_LOST k
  else
    let keep := x.convs.filter (fun d => !((d.kind == .fill || later d) && overlaps d c))
    let drop := x.convs.any (fun d => later d && overlaps d c)
    let s := s.setChan k (fun x => { x with convs := insertConv c keep })
    let s := if drop then s.urgDrop k else s
    if keep.any (fun d => d.kind == .fill) then s else s.adcNext k (c.ts + 160)

/-- An urgent request for a channel (R309, R310). -/
def State.adcUrgent (s : State) (k : Nat) : State :=
  if s.adcMode k = 0 then s
  else
    let s := s.adcCatchUp k
    let now := s.nowTick
    let c : AdcConv := ⟨.urgent, now + 16 + s.pdnDelay k, none, s.adcLead k, now⟩
    if s.adcMode k = 1 ∨ (s.chan k).convs.any (fun d => overlaps d c) then s.urgDrop k
    else s.setChan k (fun x => { x with convs := insertConv c x.convs })

/-- The slice calibrated for a channel takes it over at the first sampling instant after its calibration, up to tick `now`; a conversion
begun before stays with the outgoing slice, which becomes the spare (R311). -/
def State.adcSwap (s : State) (k now : Nat) : State :=
  let x := s.chan k
  match x.swap, x.slice with
  | some (j, since), some old =>
    match x.convs.find? (fun c => decide (since < c.ts) && decide (c.ts ≤ now)) with
    | some at' =>
      (s.setChan k (fun x => { x with
        slice := some j, swap := none,
        convs := x.convs.map (fun c => if c.ts < at'.ts ∧ c.slice = none then { c with slice := some old } else c) })).wr (Fld.ADC_GRP_SPARE (k / 7)) old
    | none => s
  | _, _ => s

/-- The swaps of every channel that are due at the present tick. -/
def State.adcSwaps (s : State) : State := (List.range 28).foldl (fun s k => s.adcSwap k s.nowTick) s

/-- A block decision of a converter of URG_CONV requests every enabled channel (R309). -/
def State.adcBlocked (s : State) (mask : BitVec 8) : State :=
  if (BitVec.ofNat 8 (s.rd Fld.ADC_GCFG_URG_CONV) &&& mask) = 0 then s
  else (List.range 28).foldl (fun s k => s.adcUrgent k) s

/-! ### Codes (R304) -/

/-- A value held to the code range, and whether it had to be. -/
def clampCode (v : Int) : Int × Bool :=
  if 32767 < v then (32767, true) else if v < -32768 then (-32768, true) else (v, false)

/-- Round a fraction half up. -/
def roundHalfUp (n : Int) (d : Nat) : Int := (2 * n + d) / (2 * d)

/-- FS of a channel in microvolts. -/
def State.fullScale (s : State) (k : Nat) : Nat := if s.flag (Fld.ADC_CH_CFG_RANGE k) then 1250000 else 2500000

/-- A 16-bit field as a signed code. -/
def sint16 (v : Nat) : Int := (BitVec.ofNat 16 v).toInt

/-- The slice-corrected code of a differential voltage in nanovolts, and whether a stage clamped. How a slice's
coefficients correct the raw code is open; without a calibration they are the identity (R312). -/
def State.sliceCode (s : State) (k j : Nat) (nv : Int) : Int × Bool :=
  let (raw, a) := clampCode (roundHalfUp (nv * 32768) (s.fullScale k * 1000))
  match (s.slice (k / 7) j).coef with
  | none => (raw, a)
  | some (o, g) =>
    let (v, b) := clampCode (Config.sliceCorrect o g raw)
    (v, a || b)

/-- CODE: the channel's coefficients applied. -/
def State.channelCode (s : State) (k : Nat) (raw : Int) : Int × Bool :=
  clampCode (roundHalfUp ((raw - sint16 (s.rd (Fld.ADC_CH_CAL_OFFSET k))) * s.rd (Fld.ADC_CH_CAL_GAIN k)) 32768)

/-! ### System calibration (R313) -/

/-- A step ends without effect. -/
def State.sysCalFail (s : State) : State :=
  (({ s with sysCal := { s.sysCal with run := none } }).wr Fld.ADC_SYSCAL_BUSY 0).raise Fld.ADC_EVT_SYSCAL_FAIL

/-- A converter named for the channel under calibration is released. -/
def State.sysCalReleased (s : State) (rel : BitVec 8) : State :=
  match s.sysCal.run with
  | some r =>
    if (BitVec.ofNat 8 (s.rd (Fld.LPW_CMPMAP_MASK0 r.ch)) ||| BitVec.ofNat 8 (s.rd (Fld.LPW_CMPMAP_MASK1 r.ch))) &&& rel = 0 then s
    else s.sysCalFail
  | none => s

/-- A converter named by a channel's comparators is not blocked: the channel is guarded (R313, R316). -/
def State.adcGuarded (s : State) (k : Nat) : Bool :=
  (BitVec.ofNat 8 (s.rd (Fld.LPW_CMPMAP_MASK0 k)) ||| BitVec.ofNat 8 (s.rd (Fld.LPW_CMPMAP_MASK1 k))) &&&
    ~~~(BitVec.ofNat 8 (s.rd Fld.LPW_BLK_STAT_BLOCKED)) != 0

end Sys2Proof.Machine
end

