-- ==== Sys2Proof/Machine/EventQueue.lean ====
section
/-! DEFINITION. Event queues: items of cores and engines, the host forwarder and the log (R498 to R503). -/

namespace Sys2Proof.Machine

def State.queue (s : State) (q : Nat) : EventQ := FMap.get EventQ.reset s.eq q
def State.setQueue (s : State) (q : Nat) (f : EventQ → EventQ) : State :=
  { s with eq := FMap.modify EventQ.reset s.eq q f }

/-- Words a queue holds. -/
def EventQ.fill (x : EventQ) : Nat := (x.groups.map (·.length)).foldl (· + ·) 0

/-- Append one word: to the newest 32-byte word while it has room. -/
def EventQ.append (x : EventQ) (w : BitVec 32) : EventQ :=
  match x.groups.getLast? with
  | some g => if g.length < 8 then { x with groups := x.groups.dropLast ++ [g ++ [w]] } else { x with groups := x.groups ++ [[w]] }
  | none => { x with groups := [[w]] }

/-- Remove the newest `n` words. -/
def dropNewest : Nat → List (List (BitVec 32)) → List (List (BitVec 32))
  | 0, g => g
  | n + 1, g =>
    match g.getLast? with
    | none => g
    | some l => dropNewest n (if l.length ≤ 1 then g.dropLast else g.dropLast ++ [l.dropLast])

/-- STAT follows the queue (R508). -/
def State.showQueue (s : State) (q : Nat) : State :=
  let x := s.queue q
  s.wrs [(Fld.IRQ_EQ_STAT_FILL q, x.fill), (Fld.IRQ_EQ_STAT_IN_ITEM q, if 0 < x.left ∧ ¬ x.orphan then 1 else 0),
    (Fld.IRQ_EQ_STAT_LEFT q, x.left), (Fld.IRQ_EQ_STAT_ORPHANING q, if x.orphan then 1 else 0)]

/-- Converters of the arms an engine owns now. -/
def State.engineConv (s : State) (e : Nat) : BitVec 8 :=
  [(Fld.CE_ARMOWN_VALID0 e, Fld.CE_ARMOWN_ARM0 e), (Fld.CE_ARMOWN_VALID1 e, Fld.CE_ARMOWN_ARM1 e),
   (Fld.CE_ARMOWN_VALID2 e, Fld.CE_ARMOWN_ARM2 e), (Fld.CE_ARMOWN_VALID3 e, Fld.CE_ARMOWN_ARM3 e)].foldl
    (fun m p => if s.inForce p.1 = 1 then m ||| BitVec.ofNat 8 (2 ^ (s.inForce p.2 / 6)) else m) 0

/-- Append an item to the module log, four words to a record (R524). -/
def State.logItem (s : State) (q : Nat) (ws : List (BitVec 32)) : State :=
  let parts := (ws.length + 3) / 4
  (List.range parts).foldl (fun s i =>
    let b := (List.range 4).foldl (fun a j => a + (ws.getD (4 * i + j) 0).toNat * 2 ^ (32 * j)) 0
    s.logAppend 1 (i + 16 * (parts - 1)) 16 q (BitVec.ofNat 128 b)) s

/-- A whole item reaches its reader (R503). -/
def State.itemWhole (s : State) (q : Nat) (ws : List (BitVec 32)) : State :=
  let dest := s.rd (Fld.IRQ_EQ_CFG_DEST q)
  let take := fun (s : State) => s.setQueue q (fun x => { x with groups := dropNewest ws.length x.groups })
  if dest = 1 then
    let s := take s
    if ws.length = 3 then s.postScoped (s.engineConv q) (.program (ws.getD 1 0) (ws.getD 2 0) q)
    else s.bump (Fld.IRQ_EQ_CNT_NOFWD_CNT q)
  else if dest = 2 then (take s).logItem q ws
  else s

/-- One word arrives at a queue (R499, R502). -/
def State.eqWord (s : State) (q : Nat) (w : BitVec 32) : State :=
  let x := s.queue q
  if 0 < x.left then
    let left := x.left - 1
    if x.orphan then
      (s.setQueue q (fun x => { x with left := left, orphan := decide (left ≠ 0) })).bump (Fld.IRQ_EQ_CNT_ORPHAN_CNT q)
    else if x.ignore then s.setQueue q (fun x => { x with left := left, ignore := decide (left ≠ 0) })
    else
      let ws := x.item ++ [w]
      let s := s.setQueue q (fun x => { x.append w with left := left, item := if left = 0 then [] else ws })
      if left = 0 then s.itemWhole q ws else s
  else if w.toNat / 2 ^ 28 ≠ 0xA then s.bump (Fld.IRQ_EQ_CNT_BAD_CNT q)
  else
    let len := w.toNat / 2 ^ 24 % 16
    if 2048 < x.fill + 1 + len then
      ((s.setQueue q (fun x => { x with left := len, ignore := decide (len ≠ 0) })).bump (Fld.IRQ_EQ_CNT_OVR_CNT q)).raise (Fld.IRQ_EQ_STAT_OVR q) q
    else
      let s := s.setQueue q (fun x => { x.append w with left := len, item := if len = 0 then [] else [w] })
      if len = 0 then s.itemWhole q [w] else s

/-- Several words in order, with STAT brought into line. -/
def State.eqWords (s : State) (q : Nat) (ws : List (BitVec 32)) : State :=
  (ws.foldl (fun s w => s.eqWord q w) s).showQueue q

/-- Cut staged words into whole items and the words of an incomplete last one (R500); words without the mark are
items of their own, to be counted by the queue. -/
def wholeItems : Nat → List (BitVec 32) → List (BitVec 32) × Nat
  | 0, ws => ([], ws.length)
  | _ + 1, [] => ([], 0)
  | fuel + 1, w :: t =>
    let len := if w.toNat / 2 ^ 28 = 0xA then w.toNat / 2 ^ 24 % 16 else 0
    if t.length < len then ([], 1 + t.length)
    else
      let (a, n) := wholeItems fuel (t.drop len)
      (w :: t.take len ++ a, n)

/-- Staged words enter the queue of an engine (R500). -/
def State.eqStaged (s : State) (e : Nat) (ws : List (BitVec 32)) : State :=
  let (whole, torn) := wholeItems (ws.length + 1) ws
  let s := if torn = 0 then s else s.bump (Fld.IRQ_EQ_CNT_ORPHAN_CNT e) torn
  s.eqWords e whole

/-- EVQ_W: a core writes one word to its own queue; the safety cores have none (R498). -/
def execEvqW (u : Core) (word : Reg32) (s : State) : Host.Outcome State Fault Refusal :=
  match u with
  | .apc n => .next (s.eqWords (32 + n.val) [word])
  | .mgc n => .next (s.eqWords (56 + n.val) [word])
  | .sfc _ => .next s

/-- A read of IRQ_EQq_POP (R501): the oldest 32-byte word goes to HOLD, of a queue with DEST 0. -/
def State.eqPop (s : State) (k : Nat) : State :=
  if s.rd (Fld.IRQ_EQ_CFG_DEST k) ≠ 0 then s.wrs [(Fld.IRQ_EQ_POP_VALID k, 0), (Fld.IRQ_EQ_POP_MORE k, 0)]
  else match (s.queue k).groups with
    | [] => s.wrs [(Fld.IRQ_EQ_POP_VALID k, 0), (Fld.IRQ_EQ_POP_MORE k, 0)]
    | g :: t =>
      let s := s.setQueue k (fun x => { x with groups := t })
      let s := (List.range 8).foldl (fun s j => s.wr (Fld.IRQ_EQ_HOLD_WORD k j) (g.getD j 0).toNat) s
      (s.wrs [(Fld.IRQ_EQ_POP_VALID k, 4 * g.length), (Fld.IRQ_EQ_POP_MORE k, if t = [] then 0 else 1)]).showQueue k

/-- IRQ_EQ_POP: a core reads the register. -/
def execIrqEqPop (q : Fin 60) (s : State) : Host.Outcome State Fault Refusal := .next (s.eqPop q)

/-- A write of FLUSH empties the queue; the rest of an item being written is orphaned (R502). -/
def State.eqFlush (s : State) (q : Nat) : State :=
  (s.setQueue q (fun x => { x with groups := [], item := [], ignore := false, orphan := decide (0 < x.left) })).showQueue q

def execEqFlush (u : Core) (q : Fin 60) (s : State) : Host.Outcome State Fault Refusal :=
  .next (s.asWriter u 16 fun s => s.eqFlush q.val)

/-- CNT_CLR clears the four counters of the queue (R508). -/
def State.eqCntClear (s : State) (q : Nat) : State :=
  s.wrs [(Fld.IRQ_EQ_CNT_OVR_CNT q, 0), (Fld.IRQ_EQ_CNT_ORPHAN_CNT q, 0), (Fld.IRQ_EQ_CNT_BAD_CNT q, 0), (Fld.IRQ_EQ_CNT_NOFWD_CNT q, 0)]

def execEqCntClr (u : Core) (q : Fin 60) (s : State) : Host.Outcome State Fault Refusal :=
  .next (s.asWriter u 16 fun s => s.eqCntClear q.val)

end Sys2Proof.Machine
end

