-- ==== Sys2Proof/Machine/F40.lean ====
section
/-! DEFINITION. The arithmetic of the control engines (R229 to R247): saturating Q9.30 accumulation and F40 floating
point, computed exactly on integers and rounded once. -/

namespace Sys2Proof.Machine

/-! ### Fixed point (R229 to R232) -/

/-- The Q15 field of a word, as a signed integer (value x 2^15). -/
def q15 (w : W40) : Int := (w.setWidth 16).toInt

/-- Saturate an exact Q9.30 sum; the flag says that it saturated (R231). -/
def satQ (v : Int) : W40 × Bool :=
  if 2 ^ 39 - 1 < v then (0x7FFFFFFFFF#40, true)
  else if v < -(2 ^ 39) then (0x8000000000#40, true)
  else (BitVec.ofInt 40 v, false)

/-- The exact product of two Q15 operands in Q9.30 units. -/
def mulQ (a b : W40) : Int := q15 a * q15 b

/-- ARND (R232). -/
def roundQ (acc : W40) : W40 × Bool :=
  let r := (acc.toInt + 0x4000) / 2 ^ 15
  if 32767 < r then (BitVec.ofInt 40 32767, true)
  else if r < -32768 then (BitVec.ofInt 40 (-32768), true)
  else (BitVec.ofInt 40 r, false)

/-! ### F40 format (R236) -/

/-- FFLAGS bits (R189). -/
def NX : BitVec 5 := 1
def UF : BitVec 5 := 2
def OF : BitVec 5 := 4
def DZ : BitVec 5 := 8
def NV : BitVec 5 := 16

/-- Rounding modes (R237). -/
inductive RMode where
  | nearest | zero | down | up
deriving DecidableEq, Repr

/-- A result with its flags; `sat` is STATUS.SAT of FCVT.QF. -/
structure FRes where
  val   : W40
  flags : BitVec 5
  sat   : Bool
deriving DecidableEq, Repr

/-- Class of a value (R236). -/
inductive FClass where
  | inf | normal | subnormal | zero | snan | qnan
deriving DecidableEq, Repr

def fSign (w : W40) : Bool := w.getLsbD 39
def fExp (w : W40) : Nat := w.toNat / 2 ^ 31 % 256
def fFrac (w : W40) : Nat := w.toNat % 2 ^ 31

def fClass (w : W40) : FClass :=
  if fExp w = 255 then (if fFrac w = 0 then .inf else if fFrac w < 2 ^ 30 then .snan else .qnan)
  else if fExp w = 0 then (if fFrac w = 0 then .zero else .subnormal)
  else .normal

def isNaN (w : W40) : Bool := fClass w == .snan || fClass w == .qnan
def isSNaN (w : W40) : Bool := fClass w == .snan
def isInf (w : W40) : Bool := fClass w == .inf
def isZero (w : W40) : Bool := fClass w == .zero

/-- Magnitude of a finite value as mantissa and exponent: mantissa x 2^exponent. -/
def fMant (w : W40) : Nat := if fExp w = 0 then fFrac w else 2 ^ 31 + fFrac w
def fPow (w : W40) : Int := if fExp w = 0 then -157 else (fExp w : Int) - 158

/-- Sign and magnitude bits of a value. -/
def fPack (neg : Bool) (mag : Nat) : W40 := BitVec.ofNat 40 (mag + (if neg then 2 ^ 39 else 0))

def fInf (neg : Bool) : W40 := fPack neg (255 * 2 ^ 31)
/-- M, the largest finite value. -/
def fMax (neg : Bool) : W40 := fPack neg (255 * 2 ^ 31 - 1)
def fZero (neg : Bool) : W40 := fPack neg 0
/-- q, the canonical quiet NaN (R240). -/
def fNaN : W40 := 0x7FC0000000#40
def fOne : W40 := 0x3F80000000#40
def fNegOne : W40 := 0xBF80000000#40

/-- Round `m / 2^k` to an integer in a mode, for a value of the given sign; the flag says that it is inexact. -/
def roundShift (mode : RMode) (neg : Bool) (m k : Nat) : Nat × Bool :=
  let q := m / 2 ^ k
  let r := m % 2 ^ k
  let inc := match mode with
    | .nearest => decide (2 ^ k < 2 * r) || (decide (2 * r = 2 ^ k) && q % 2 == 1)
    | .zero => false
    | .down => neg && r != 0
    | .up => !neg && r != 0
  (if inc then q + 1 else q, r != 0)

/-- Round `m x 2^e` at quantum `2^q`: the integer multiple of the quantum and whether it is inexact. -/
def roundAt (mode : RMode) (neg : Bool) (m : Nat) (e q : Int) : Nat × Bool :=
  if q ≤ e then (m * 2 ^ (e - q).toNat, false) else roundShift mode neg m (q - e).toNat

/-- Deliver `m x 2^e` with a sign as F40, rounded once, with overflow and underflow (R237 to R239). -/
def deliver (mode : RMode) (neg : Bool) (m : Nat) (e : Int) : FRes :=
  if m = 0 then ⟨fZero neg, 0, false⟩ else
  -- Quantum of 32 significant bits, and the quantum allowed by the exponent range.
  let q : Int := (Nat.log2 m : Int) + e - 31
  let qb : Int := max q (-157)
  let (v, inexact) := roundAt mode neg m e qb
  let (u, _) := roundAt mode neg m e q
  let tiny := decide (q + (if u = 2 ^ 32 then 32 else 31) < -126)
  let (v, qb) := if v = 2 ^ 32 then (2 ^ 31, qb + 1) else (v, qb)
  if 2 ^ 31 ≤ v ∧ 255 ≤ qb + 158 then
    let toMax := match mode with | .nearest => false | .zero => true | .down => !neg | .up => neg
    ⟨if toMax then fMax neg else fInf neg, OF ||| NX, false⟩
  else
    let mag := if v < 2 ^ 31 then v else (qb + 158).toNat * 2 ^ 31 + (v - 2 ^ 31)
    ⟨fPack neg mag, if inexact then (if tiny then UF ||| NX else NX) else 0, false⟩

def fInvalid : FRes := ⟨fNaN, NV, false⟩
def fExact (w : W40) : FRes := ⟨w, 0, false⟩

/-- NaN operands: NV when one is signalling, and q (R238, R240). -/
def nanOf (ops : List W40) : Option FRes :=
  if ops.any isSNaN then some fInvalid else if ops.any isNaN then some (fExact fNaN) else none

/-- The exact sum of two signed magnitudes, `a x 2^ea + b x 2^eb`, as a signed integer and its exponent. -/
def exactSum (na : Bool) (a : Nat) (ea : Int) (nb : Bool) (b : Nat) (eb : Int) : Int × Int :=
  let e := min ea eb
  let x : Int := (a * 2 ^ (ea - e).toNat : Nat)
  let y : Int := (b * 2 ^ (eb - e).toNat : Nat)
  ((if na then -x else x) + (if nb then -y else y), e)

/-- Deliver a sum: an exact zero has the sign of equal-signed zeros, else + except in down (R240). -/
def deliverSum (mode : RMode) (na : Bool) (a : Nat) (ea : Int) (nb : Bool) (b : Nat) (eb : Int) : FRes :=
  let (v, e) := exactSum na a ea nb b eb
  if v = 0 then fExact (fZero (if na = nb then na else mode == .down))
  else deliver mode (decide (v < 0)) v.natAbs e

/-! ### Operations (R241 to R247) -/

def fNeg (w : W40) : W40 := w ^^^ 0x8000000000#40
def fAbs (w : W40) : W40 := w &&& 0x7FFFFFFFFF#40

def fAdd (mode : RMode) (a b : W40) : FRes :=
  match nanOf [a, b] with
  | some r => r
  | none =>
    if isInf a then (if isInf b ∧ fSign a ≠ fSign b then fInvalid else fExact a)
    else if isInf b then fExact b
    else deliverSum mode (fSign a) (fMant a) (fPow a) (fSign b) (fMant b) (fPow b)

/-- FSUB(a, b) is FADD(a, FNEG b) (R241). -/
def fSub (mode : RMode) (a b : W40) : FRes := fAdd mode a (fNeg b)

def fMul (mode : RMode) (a b : W40) : FRes :=
  let n := fSign a != fSign b
  match nanOf [a, b] with
  | some r => r
  | none =>
    if isInf a ∨ isInf b then (if isZero a ∨ isZero b then fInvalid else fExact (fInf n))
    else deliver mode n (fMant a * fMant b) (fPow a + fPow b)

def fDiv (mode : RMode) (a b : W40) : FRes :=
  let n := fSign a != fSign b
  match nanOf [a, b] with
  | some r => r
  | none =>
    if isInf a then (if isInf b then fInvalid else fExact (fInf n))
    else if isInf b then fExact (fZero n)
    else if isZero b then (if isZero a then fInvalid else ⟨fInf n, DZ, false⟩)
    else if isZero a then fExact (fZero n)
    else
      -- 100 extra bits, and a last bit for an inexact remainder.
      let x := fMant a * 2 ^ 100
      let q := x / fMant b
      deliver mode n (2 * q + (if x % fMant b = 0 then 0 else 1)) (fPow a - fPow b - 101)

/-- Integer square root, bit by bit from bit `k - 1` down. -/
def isqrt (m : Nat) : Nat → Nat → Nat
  | 0, r => r
  | k + 1, r => isqrt m k (if (r + 2 ^ k) * (r + 2 ^ k) ≤ m then r + 2 ^ k else r)

def fSqrt (mode : RMode) (a : W40) : FRes :=
  match nanOf [a] with
  | some r => r
  | none =>
    if isZero a then fExact a
    else if fSign a then fInvalid
    else if isInf a then fExact a
    else
      let k : Nat := if (fPow a) % 2 = 0 then 100 else 101
      let m := fMant a * 2 ^ k
      let r := isqrt m 70 0
      deliver mode false (2 * r + (if r * r = m then 0 else 1)) ((fPow a - k) / 2 - 1)

/-- FMA: rd + rs1 x rs2 with one rounding (R244). -/
def fFma (mode : RMode) (d a b : W40) : FRes :=
  let n := fSign a != fSign b
  let infp := isInf a || isInf b
  if isSNaN d ∨ isSNaN a ∨ isSNaN b then fInvalid
  else if (isInf a ∧ isZero b) ∨ (isZero a ∧ isInf b) then fInvalid
  else if isNaN d ∨ isNaN a ∨ isNaN b then fExact fNaN
  else if infp then (if isInf d ∧ fSign d ≠ n then fInvalid else fExact (fInf n))
  else if isInf d then fExact d
  else deliverSum mode (fSign d) (fMant d) (fPow d) n (fMant a * fMant b) (fPow a + fPow b)

/-- The order of two values that are not NaN: signed magnitudes, both zeros equal. -/
def fKey (w : W40) : Int := if fSign w then -((w.toNat % 2 ^ 39 : Nat) : Int) else ((w.toNat % 2 ^ 39 : Nat) : Int)

def boolWord (b : Bool) : W40 := if b then 1 else 0

def fEq (a b : W40) : FRes :=
  if isSNaN a ∨ isSNaN b then ⟨0, NV, false⟩ else if isNaN a ∨ isNaN b then ⟨0, 0, false⟩
  else fExact (boolWord (fKey a == fKey b))

def fLt (a b : W40) : FRes :=
  if isNaN a ∨ isNaN b then ⟨0, NV, false⟩ else fExact (boolWord (decide (fKey a < fKey b)))

def fLe (a b : W40) : FRes :=
  if isNaN a ∨ isNaN b then ⟨0, NV, false⟩ else fExact (boolWord (decide (fKey a ≤ fKey b)))

/-- FMIN and FMAX: -0 counts as less than +0 (R245). -/
def fMinMax (mx : Bool) (a b : W40) : FRes :=
  let fl := if isSNaN a ∨ isSNaN b then NV else 0
  if isNaN a ∧ isNaN b then ⟨fNaN, fl, false⟩
  else if isNaN a then ⟨b, fl, false⟩
  else if isNaN b then ⟨a, fl, false⟩
  else
    let less := decide (fKey a < fKey b) || (fKey a == fKey b && fSign a && !fSign b)
    ⟨if less != mx then a else b, fl, false⟩

/-- FCLASS (R246). -/
def fClassMask (w : W40) : W40 :=
  let n := fSign w
  match fClass w with
  | .inf => if n then 1 else 0x80
  | .normal => if n then 2 else 0x40
  | .subnormal => if n then 4 else 0x20
  | .zero => if n then 8 else 0x10
  | .snan => 0x100
  | .qnan => 0x200

/-- A conversion to a signed 40-bit integer of value x 2^k: rounded, then tested against the range (R247). -/
def fToInt (mode : RMode) (k : Int) (sat : Bool) (w : W40) : FRes :=
  if isNaN w then ⟨0, NV, false⟩
  else if isInf w then ⟨if fSign w then 0x8000000000#40 else 0x7FFFFFFFFF#40, NV, sat⟩
  else
    let (v, inexact) := roundAt mode (fSign w) (fMant w) (fPow w + k) 0
    let x : Int := if fSign w then -(v : Int) else v
    if 2 ^ 39 - 1 < x then ⟨0x7FFFFFFFFF#40, NV, sat⟩
    else if x < -(2 ^ 39) then ⟨0x8000000000#40, NV, sat⟩
    else ⟨BitVec.ofInt 40 x, if inexact then NX else 0, false⟩

/-- FCVT.FQ and FCVT.FI: a signed word x 2^-k as F40. -/
def fOfInt (mode : RMode) (k : Int) (w : W40) : FRes := deliver mode (decide (w.toInt < 0)) w.toInt.natAbs (-k)

end Sys2Proof.Machine
end

