-- ==== Sys2Proof/Machine/EngineOps.lean ====
section
/-! DEFINITION. Shared operations of the control engines: registers, data memory, stops and overruns, C0 events,
CSRs and the selection unit (R185 to R215). -/

namespace Sys2Proof.Machine

def State.eng (s : State) (e : Nat) : Engine := FMap.get Engine.reset s.engines e
def State.setEng (s : State) (e : Nat) (f : Engine → Engine) : State :=
  { s with engines := FMap.modify Engine.reset s.engines e f }

/-- CE_STATn.STATE (R185): 0 SPARE, 1 LOADED, 2 ACTIVE, 3 MIG_SRC, 4 MIG_TGT, 5 FENCED, 6 HALTED. -/
def State.engState (s : State) (e : Nat) : Nat := s.rd (Fld.CE_STAT_STATE e)

/-- The engine runs in the compute window. -/
def State.windowed (s : State) (e : Nat) : Bool := s.engState e == 2 || s.engState e == 3

/-- STATE, or for a HALTED engine the state it returns to (R185). -/
def State.engBelow (s : State) (e : Nat) : Nat := if s.engState e = 6 then (s.eng e).stateWas else s.engState e

/-- The engine runs in the compute window, or would but for a debug halt. -/
def State.dueWindow (s : State) (e : Nat) : Bool := s.engBelow e == 2 || s.engBelow e == 3

/-- Change STATE; a HALTED engine takes the new state when its halt ends. -/
def State.setEngState (s : State) (e st : Nat) : State :=
  if s.engState e = 6 then s.setEng e (fun g => { g with stateWas := st }) else s.wr (Fld.CE_STAT_STATE e) st

/-- The engine executes instructions: its program in the window, or its handler. -/
def State.executing (s : State) (e : Nat) : Bool := s.windowed e && ((s.eng e).running || (s.eng e).hnd)

/-- CE_STATn follows the engine: an engine outside the window's states executes nothing (R222). -/
def State.showEngine (s : State) (e : Nat) : State :=
  let g := s.eng e
  s.wrs [(Fld.CE_STAT_PROG_VALID e, if g.prog.isSome then 1 else 0), (Fld.CE_STAT_IN_HANDLER e, if g.hnd then 1 else 0),
    (Fld.CE_STAT_RUNNING e, if s.executing e then 1 else 0)]

/-! ### Registers and data memory -/

/-- A general register of the bank in use (R188). -/
def Engine.getX (g : Engine) (r : BitVec 4) : W40 := FMap.get 0 (if g.hnd then g.xh else g.x) r.toNat
def Engine.setX (g : Engine) (r : BitVec 4) (v : W40) : Engine :=
  if g.hnd then { g with xh := FMap.set 0 g.xh r.toNat v } else { g with x := FMap.set 0 g.x r.toNat v }
def Engine.getAcc (g : Engine) (a : Nat) : W40 := FMap.get 0 g.acc a
def Engine.setAcc (g : Engine) (a : Nat) (v : W40) : Engine := { g with acc := FMap.set 0 g.acc a v }

/-- A data-memory word. -/
def Engine.mem (g : Engine) (a : Nat) : W40 := FMap.get 0 g.dmem a

/-- Write a data-memory word; of a copying migration's source it is repeated into the target (R218). -/
def State.putMem (s : State) (e a : Nat) (v : W40) : State :=
  let s := s.setEng e (fun g => { g with dmem := FMap.set 0 g.dmem a v })
  match (s.eng e).mig with
  | some (t, true) => s.setEng t (fun g => { g with dmem := FMap.set 0 g.dmem a v })
  | _ => s

/-- Write consecutive words. -/
def State.putMems (s : State) (e a : Nat) : List W40 → State
  | [] => s
  | v :: t => (s.putMem e a v).putMems e (a + 1) t

/-- Write one value to `n` consecutive words. -/
def State.fillMem (s : State) (e a : Nat) (v : W40) : Nat → State
  | 0 => s
  | n + 1 => (s.putMem e a v).fillMem e (a + 1) v n

/-- Units executed, saturating at 20 bits (R189, R205). -/
def Engine.spend (g : Engine) (u : Nat) : Engine := { g with cycle := min (g.cycle + u) (2 ^ 20 - 1) }

/-- The next instruction index. -/
def Engine.next (g : Engine) : Engine := { g with pc := (g.pc + 1) % 16384 }

/-! ### Overruns and stops (R200, R201, R215) -/

/-- Count one overrun: outputs are held, RUN rises, and YIELD_RUN of them in a row raise yield condition 3, which is raised again at
each further overrun until RUN returns to 0 (R200). -/
def State.overrun (s : State) (e : Nat) : State :=
  let s := s.bump (Fld.CE_CNT_OVR_CNT e)
  let s := s.bump (Fld.CE_RUN_RUN e)
  let run := s.rd (Fld.CE_RUN_RUN e)
  let s := s.wrs [(Fld.CE_RUN_RUN_MAX e, max (s.rd (Fld.CE_RUN_RUN_MAX e)) run), (Fld.CE_DLSTAT_LAST_END e, 0x1FFFF)]
  let s := s.setEng e (fun g => { g with held := true, ended := true, prevOvr := true, staged := [] })
  let s := s.raise (Fld.CE_EVT_OVERRUN e) e
  if (s.eng e).yieldOn ∨ s.rd (Fld.CE_CFG_YIELD_RUN e) ≤ run then ((s.setEng e (fun g => { g with yieldOn := true })).raise (Fld.CE_EVT_YIELD_COND e) e).raiseYield 3 else s

/-- The window opens for an engine: registers are cleared by R188, and it starts at ENTRY (R198); a standard program reads SEL (R266). -/
def Engine.openWindow (g : Engine) (frm entry : Nat) : Engine :=
  { g with x := [], acc := [], pc := entry, sat := false, vr := false, abnd := false, rfail := false, frm := frm, fflags := 0,
           prog := none, resumed := false, epc := 0, vidx := 0, cycle := 0, sel := (FMap.get 0 g.dmem 0x2400).getLsbD 0, running := true, ended := false, waitC := false }

/-- The units engine `e` waits at window opening under a stall test (R537, kind 5). -/
def State.stallUnits (s : State) (e : Nat) : Nat :=
  if bitOf (s.rd Fld.HKP_PERT_CTL_ON) 5 ∧ s.inForce Fld.HKP_PERT_STALL_ENGINE = e then s.inForce Fld.HKP_PERT_STALL_UNITS else 0

/-- A window entry that waited for a handler entered while idle takes place (R198). CYCLE starts there: the handler's units between C
and this entry are not in it (DESIGN CHOICE, log 200). -/
def State.waitedEntry (s : State) (e : Nat) : State :=
  if (s.eng e).waitC then
    s.setEng e (fun g => (g.openWindow (s.rd (Fld.CE_CFG_FRM e)) ((g.container.map (·.entry)).getD 0)).spend (s.stallUnits e))
  else s

/-- A handler entered while idle ends: its staged words enter the queue (R500), and a window that waited for it opens. -/
def State.idleEnd (s : State) (e : Nat) : State :=
  let ws := (s.eng e).staged
  let s := s.setEng e (fun g => { g with hnd := false, prog := none, resumed := false, staged := [] })
  ((if ws = [] then s else s.eqStaged e ws).waitedEntry e).showEngine e

/-- Stop the engine for the rest of the volley (R215): a suspended instruction and a handler are discarded and the
stop counts as an overrun; a handler entered while idle only ends. -/
def State.stopEngine (s : State) (e : Nat) : State :=
  let g := s.eng e
  if g.hnd ∧ g.c0Idle then s.idleEnd e
  else
    let s := s.setEng e (fun g => { g with hnd := false, prog := none, resumed := false, running := false })
    (if g.ended then s else s.overrun e).showEngine e

/-- Illegal instruction (R204). -/
def State.illegal (s : State) (e : Nat) : State :=
  ((s.setEng e (·.spend 1)).raise (Fld.CE_EVT_ILLEGAL e) e).stopEngine e

/-- Access fault (R215), after `u` units. -/
def State.accFault (s : State) (e u : Nat) : State :=
  ((s.setEng e (·.spend u)).raise (Fld.CE_EVT_ACC_FAULT e) e).stopEngine e

/-! ### Ordinary instructions -/

/-- Execute an ordinary instruction of one effect on the engine: nothing when the engine does not execute, an
illegal instruction when a condition of R204 does not hold. -/
def State.instr (s : State) (e : Nat) (legal : Bool) (units : Nat) (k : Engine → Engine) : State :=
  if ¬ s.executing e then s
  else if ¬ legal then s.illegal e
  else s.setEng e (fun g => ((k g).next).spend units)

/-- The effective address of a load or store (R203, R215), as a signed value without wrapping. -/
def Engine.addr (g : Engine) (rs1 : BitVec 4) (imm : BitVec 18) : Int := (g.getX rs1).toInt + imm.toInt

/-- An address of data memory. -/
def addrOk (a : Int) : Bool := decide (0 ≤ a) && decide (a < 0x8000)

/-- Take a jump to a target, an access fault when it lies outside instruction memory (R215). -/
def State.jump (s : State) (e : Nat) (target : Int) (k : Engine → Engine) : State :=
  if target < 0 ∨ 16384 ≤ target then s.accFault e 1
  else s.setEng e (fun g => { (k g).spend 2 with pc := target.toNat })

/-- Rounding mode of an F40 instruction: its field, or FRM (R203, R237). -/
def rmOf (frm : Nat) (rm : BitVec 3) : RMode :=
  let m := if rm = 0 then frm else rm.toNat - 1
  if m = 0 then .nearest else if m = 1 then .zero else if m = 2 then .down else .up

/-- An F40 result goes to rd and its flags are ORed in (R238, R248). -/
def Engine.setF (g : Engine) (rd : BitVec 4) (r : FRes) : Engine :=
  let g := g.setX rd r.val
  { g with fflags := g.fflags ||| r.flags, sat := g.sat || r.sat }

/-- A saturating accumulator result (R231). -/
def Engine.setQ (g : Engine) (a : Nat) (r : W40 × Bool) : Engine :=
  let g := g.setAcc a r.1
  { g with sat := g.sat || r.2 }

/-! ### Long instructions (R206, R207, R209) -/

/-- Number of a kind (R203). -/
def VKind.num : VKind → Nat
  | .ordstat => 0 | .ordstatM => 1 | .ordstatm => 2 | .ordstatmM => 3 | .hist => 4 | .vdot => 5

/-- The .M forms. -/
def VKind.member : VKind → Bool
  | .ordstatM => true | .ordstatmM => true | .ordstat => false | .ordstatm => false | .hist => false | .vdot => false

/-- Fixed units before the scan (R205). -/
def VKind.fixed : VKind → Nat
  | .hist => 72 | .vdot => 4 | .ordstat => 16 | .ordstatM => 16 | .ordstatm => 16 | .ordstatmM => 16

/-- Scan units over n elements. -/
def VKind.scan (k : VKind) (n : Nat) : Nat := if k = .vdot then n else (n + 1) / 2

/-- Units of the whole instruction for n elements and j ranks (R205). -/
def VKind.total (k : VKind) (n j : Nat) : Nat := k.fixed + k.scan n + 8 * (j - 1)

/-- Elements read after `u` units. -/
def VKind.readAfter (k : VKind) (n u : Nat) : Nat :=
  if u ≤ k.fixed then 0 else min n (if k = .vdot then u - k.fixed else 2 * (u - k.fixed))

/-- PROG (R209). -/
def LongOp.prog (p : LongOp) : W40 :=
  let phase := if p.units ≤ p.kind.fixed then 0 else 1
  BitVec.ofNat 40 (2 ^ 39 + p.kind.num * 2 ^ 35 + phase * 2 ^ 34 + p.kind.readAfter p.n p.units * 2 ^ 24)

/-- The key of R163. -/
def keyOf (dir neg : Bool) (qs hbc rot vkey h m : Nat) : Nat :=
  let a := (if dir then 65535 - vkey else vkey) / 2 ^ qs
  let a := if h = (if neg then 2 else 1) then a - hbc else a
  a * 65536 + (m + 1024 - rot % 1024) % 1024

/-- The key of member word `w` of member `m` under a parameter word, if it takes part (R195, R207). -/
def memberKey (p w : W40) (m : Nat) : Option Nat :=
  let neg := p.getLsbD 1
  if w.getLsbD 10 ∧ w.getLsbD 11 ∧ (¬ neg ∨ w.getLsbD 14) then
    some (keyOf (p.getLsbD 0) neg (p.toNat / 4 % 16) (p.toNat / 64 % 64) (p.toNat / 4096 % 1024)
      (w.toNat / 2 ^ 24) (w.toNat / 2 ^ 22 % 4) m)
  else none

/-- Put a (key, index) pair in its place among pairs in ascending order. -/
def insertKey (x : Nat × Nat) : List (Nat × Nat) → List (Nat × Nat)
  | [] => [x]
  | y :: t => if x.1 < y.1 ∨ (x.1 = y.1 ∧ x.2 < y.2) then x :: y :: t else y :: insertKey x t

/-- (key, index) pairs in ascending order. -/
def sortKeys : List (Nat × Nat) → List (Nat × Nat)
  | [] => []
  | x :: t => insertKey x (sortKeys t)

/-- The (key, index) pairs of the elements that take part. -/
def LongOp.keys (p : LongOp) : List (Nat × Nat) :=
  sortKeys ((p.read.zipIdx).filterMap (fun x =>
    if p.kind.member then (memberKey p.param x.1 x.2).map (fun k => (k, x.2)) else some (x.1.toNat % 2 ^ 32, x.2)))

/-- The pair of rank `k`, counted from 1. -/
def rankOf (ks : List (Nat × Nat)) (k : Nat) : Option (Nat × Nat) := if k = 0 then none else ks[k - 1]?

/-- Histogram bin of an element (R206). -/
def histBin (param w : W40) : Nat :=
  let v := if param.getLsbD 20 then w.toNat / 2 ^ 24 else w.toNat % 2 ^ 16
  min ((v - param.toNat % 2 ^ 16) / 2 ^ (param.toNat / 2 ^ 16 % 16)) 63

/-- Read `k` further elements. -/
def State.scan (s : State) (e : Nat) (p : LongOp) : Nat → State × LongOp
  | 0 => (s, p)
  | k + 1 =>
    let w := (s.eng e).mem (p.base + p.read.length)
    match p.kind with
    | .hist =>
      let bin := (s.eng e).getX (BitVec.ofNat 4 p.rd)
      let a := bin.toNat + histBin p.param w
      let s := s.putMem e a ((s.eng e).mem a + 1)
      s.scan e { p with read := p.read ++ [w] } k
    | .vdot =>
      let y := (s.eng e).mem (p.param.toNat + p.read.length)
      let (v, sat) := satQ (p.acc.toInt + mulQ w y)
      s.scan e { p with read := p.read ++ [w], acc := v, sat := p.sat || sat } k
    | _ => s.scan e { p with read := p.read ++ [w] } k

/-- Deliver the ranks of an ORDSTATM from the `i`-th on; VIDX is the index of the first (R206, R207). -/
def Engine.deliverRanks (g : Engine) (ks : List (Nat × Nat)) (rd : Nat) : List W40 → Nat → Engine
  | [], _ => g
  | k :: t, i =>
    let g := match rankOf ks k.toNat with
      | some x => { g.setX (BitVec.ofNat 4 (rd + i)) (BitVec.ofNat 40 x.1) with vidx := if i = 0 then x.2 else g.vidx }
      | none => { g.setX (BitVec.ofNat 4 (rd + i)) 0xFFFFFFFFFF#40 with vr := true }
    g.deliverRanks ks rd t (i + 1)

/-- The results of a completed long instruction. -/
def Engine.finishLong (g : Engine) (p : LongOp) : Engine :=
  match p.kind with
  | .hist => g
  | .vdot => g.setQ p.rd (p.acc, p.sat)
  | _ => g.deliverRanks p.keys p.rd p.ranks 0

/-- Fields of a V-format instruction that R203, R204 and R206 forbid. -/
def vLegal (k : VKind) (rd rk rp : BitVec 4) (j : BitVec 2) : Bool :=
  match k with
  | .ordstat => j == 0 && rp == 0
  | .ordstatM => j == 0
  | .ordstatm => rp == 0 && decide (rd.toNat + j.toNat < 16) && decide (rk.toNat + j.toNat < 16)
  | .ordstatmM => decide (rd.toNat + j.toNat < 16) && decide (rk.toNat + j.toNat < 16)
  | .hist => j == 0 && rk == 0
  | .vdot => j == 0 && rk == 0 && decide (rd.toNat < 4)

/-- The operands of a long instruction as it starts; `none` when it is refused before its scan (R207). -/
def Engine.startLong (g : Engine) (k : VKind) (rd rs1 rs2 rk rp : BitVec 4) (j : BitVec 2) : Option LongOp :=
  let n := (g.getX rs2).toNat
  let param := g.getX rp
  if n < 1 ∨ 768 < n ∨ (k.member ∧ 9 ≤ param.toNat / 4 % 16) then none
  else some { kind := k, rd := rd.toNat, base := (g.getX rs1).toNat, n := n,
              ranks := if k = .hist ∨ k = .vdot then [] else (List.range (j.toNat + 1)).map (fun i => g.getX (BitVec.ofNat 4 (rk.toNat + i))),
              param := param, units := 0, read := [], acc := if k = .vdot then g.getAcc rd.toNat else 0, sat := false }

/-- Ranges of a long instruction that lie in data memory (R207). -/
def LongOp.inRange (p : LongOp) (g : Engine) : Bool :=
  decide (p.base + p.n ≤ 0x8000) &&
  (p.kind != .hist || decide ((g.getX (BitVec.ofNat 4 p.rd)).toNat + 64 ≤ 0x8000)) &&
  (p.kind != .vdot || decide (p.param.toNat + p.n ≤ 0x8000))

/-! ### C0 events (R208 to R212) -/

/-- A program with a handler is loaded. -/
def Engine.c0Entry (g : Engine) : Option Nat := g.container.bind (·.c0Entry)

/-- The handler may be entered now: a handler exists, none runs, and the allowance of R210 is not spent. An engine that a fault
stopped for the rest of the volley (R215) enters it as an idle one does (DESIGN CHOICE, log 201). -/
def State.canEnter (s : State) (e : Nat) : Bool :=
  let g := s.eng e
  s.windowed e && g.c0Entry.isSome && !g.hnd && decide (g.entries ≤ s.rd (Fld.CE_CFG_C0_MAX e))

/-- Run a long instruction. `stop` names the unit at whose end a C0 event enters the handler (R208): it is looked
at only while such an event waits and may enter, and before the last unit (R212). -/
def State.longInstr (s : State) (e : Nat) (k : VKind) (rd rs1 rs2 rk rp : BitVec 4) (j : BitVec 2) (stop : Option Nat) : State :=
  if ¬ s.executing e then s
  else if ¬ vLegal k rd rk rp j then s.illegal e
  else
    let g := s.eng e
    let cont : Option LongOp := if g.resumed then g.prog.bind (fun p => if p.kind = k then some p else none) else none
    -- A handler's long instruction abandons the suspended one (R212).
    let s := if g.hnd ∧ g.prog.isSome then
        (s.setEng e (fun g => { g with prog := none, resumed := false })).raise (Fld.CE_EVT_AUTO_ABANDON e) e
      else s
    let started : Option LongOp := match cont with | some p => some p | none => g.startLong k rd rs1 rs2 rk rp j
    match started with
    | none => (s.setEng e (fun g => ({ g with vr := true }.next).spend 2)).showEngine e
    | some p =>
      if cont.isNone ∧ ¬ p.inRange g then s.accFault e 2
      else
        let s := if cont.isNone ∧ k = .hist then s.fillMem e (g.getX rd).toNat 0 64 else s
        let total := k.total p.n (j.toNat + 1)
        let entering := s.canEnter e && (g.c0In != [] || g.nCoalesced != 0)
        let cut := match stop with | some u => if entering ∧ p.units < u ∧ u < total then some u else none | none => none
        match cut with
        | some u =>
          let (s, p') := s.scan e p (k.readAfter p.n u - p.read.length)
          (s.setEng e (fun g => { g.spend (u - p.units) with prog := some { p' with units := u }, resumed := false })).showEngine e
        | none =>
          let (s, p') := s.scan e p (p.n - p.read.length)
          (s.setEng e (fun g => { ((g.finishLong p').spend (total - p.units)).next with prog := none, resumed := false })).showEngine e

/-- A C0 event is coalesced (R210); of an engine that runs no window C0_CAUSE and PEND alone keep it, for no entry (R212). -/
def Engine.coalesce (g : Engine) (m : BitVec 8) (reason : Nat) (dormant : Bool) : Engine :=
  let g := { g with c0Conv := g.c0Conv ||| m, c0Reason := reason, c0Pend := min (g.c0Pend + 1) 15, dormant := g.dormant || dormant }
  if dormant then g else { g with coalesced := g.coalesced ||| m, nCoalesced := g.nCoalesced + 1 }

/-- The opening C: a new engine volley, with no handler entry and no staged word yet (R210, R500). PREV_OVR, which the header has
shown, ends (R193). -/
def Engine.newVolley (g : Engine) : Engine := { g with entries := 0, stagedN := 0, prevOvr := false }

/-- The first window an engine runs clears the events that C0_CAUSE and PEND kept while it ran none (R212); those coalesced since stay. -/
def Engine.wake (g : Engine) : Engine :=
  if g.dormant then
    { g with c0Conv := g.coalesced, c0Reason := if g.nCoalesced = 0 then 0 else g.c0Reason, c0Pend := min g.nCoalesced 15, dormant := false }
  else g

/-- Handler entry (R208): EPC, cause and handler bank, at C0_ENTRY. -/
def Engine.enter (g : Engine) (m : BitVec 8) (reason : Nat) (entry : Nat) : Engine :=
  let idle := !g.running
  { g with epc := g.pc, intLong := g.prog.isSome && !idle, hnd := true, xh := [], pc := entry, c0Idle := idle,
           c0Conv := g.coalesced ||| m, c0Reason := reason, c0Pend := min g.nCoalesced 15, coalesced := 0, nCoalesced := 0,
           dormant := false, entries := g.entries + 1, resumed := false }.spend 2

/-- C0_HANDLER_ENTRY: the oldest C0 event that reached the engine enters the handler or is coalesced; with none
waiting, events coalesced before cause their one entry (R208, R210, R212). -/
def State.handlerEntry (s : State) (e : Nat) : State :=
  let g := s.eng e
  match g.c0In with
  | (m, r) :: t =>
    let s := s.setEng e (fun g => { g with c0In := t })
    match g.container.isSome, g.c0Entry with
    | true, none => s.setEng e (fun g => { g with c0Pend := min (g.c0Pend + 1) 15, dormant := g.dormant || !s.windowed e })
    | false, _ => (s.setEng e (fun g => g.coalesce m r true)).raise (Fld.CE_EVT_C0_COALESCED e) e
    | true, some entry =>
      if s.canEnter e then (s.setEng e (fun g => g.enter m r entry)).showEngine e
      else (s.setEng e (fun g => g.coalesce m r (!s.windowed e))).raise (Fld.CE_EVT_C0_COALESCED e) e
  | [] =>
    match g.c0Entry with
    | some entry =>
      if g.nCoalesced ≠ 0 ∧ s.canEnter e then (s.setEng e (fun g => g.enter 0 g.c0Reason entry)).showEngine e else s
    | none => s

/-- A C0 event is sent to every engine that owns an arm of one of the converters (R208, R283). -/
def State.c0Event (s : State) (m : BitVec 8) (reason : Nat) : State :=
  (List.range 32).foldl (fun s e =>
    let own := s.engineConv e &&& m
    if own = 0 then s else s.setEng e (fun g => { g with c0In := g.c0In ++ [(own, reason)] })) s

/-- The handler ends (R211): a handler entered while idle returns to idle, its staged words enter the queue (R500),
and a window entry that waited for it takes place. -/
def State.endHandler (s : State) (e : Nat) (k : Engine → Engine) : State :=
  let g := s.eng e
  if g.c0Idle then (s.setEng e (·.spend 2)).idleEnd e
  else (s.setEng e (fun g => (k { g with hnd := false }).spend 2)).showEngine e

/-! ### CSRs (R189) -/

/-- STATUS. -/
def Engine.status (g : Engine) : W40 :=
  let b := fun (x : Bool) (i : Nat) => if x then 2 ^ i else 0
  BitVec.ofNat 40 (b g.sat 0 + b g.vr 1 + b g.abnd 2 + b g.rfail 3 + b g.hnd 4 + g.frm * 32)

/-- The value of a CSR; `none` for a number that is not listed. EVQ is write-only and reads 0. -/
def Engine.csr (g : Engine) (n : Nat) : Option W40 :=
  match n with
  | 0 => some g.status
  | 1 => some (g.fflags.setWidth 40)
  | 2 => some (match g.prog with | some p => p.prog | none => 0)
  | 3 => some (BitVec.ofNat 40 g.epc)
  | 4 => some (BitVec.ofNat 40 (g.c0Conv.toNat + g.c0Reason * 256 + g.c0Pend * 4096 + (if g.c0Idle then 65536 else 0)))
  | 5 => some (BitVec.ofNat 40 g.vidx)
  | 6 => some (BitVec.ofNat 40 g.cycle)
  | 7 => some 0
  | _ => none

/-- A CSRW: STATUS, FFLAGS and EVQ take values, every other listed CSR ignores them. -/
def State.putCsr (s : State) (e n : Nat) (v : W40) : State :=
  if n = 0 then
    s.setEng e (fun g => { g with sat := v.getLsbD 0, vr := v.getLsbD 1, abnd := v.getLsbD 2, rfail := v.getLsbD 3,
                                  frm := if v.toNat / 32 % 8 < 4 then v.toNat / 32 % 8 else g.frm })
  else if n = 1 then s.setEng e (fun g => { g with fflags := v.setWidth 5 })
  else if n = 7 then
    -- At most 64 words in an engine volley (R500).
    if 64 ≤ (s.eng e).stagedN then (s.bump (Fld.IRQ_EQ_CNT_OVR_CNT e)).raise (Fld.IRQ_EQ_STAT_OVR e) e
    else s.setEng e (fun g => { g with staged := g.staged ++ [v.setWidth 32], stagedN := g.stagedN + 1 })
  else s

end Sys2Proof.Machine
end

