-- ==== Sys2Proof/Machine/PulseOps.lean ====
section
/-! DEFINITION. Shared operations of the pulse outputs LP0 to LP15 (R290 to R295): the level a counter gives, the
output mask, the debug halt and the interlock, worked out together after every event. -/

namespace Sys2Proof.Machine

def State.lpc (s : State) (n : Nat) : LpChan := FMap.get LpChan.reset s.lp n
def State.setLp (s : State) (n : Nat) (f : LpChan → LpChan) : State :=
  { s with lp := FMap.modify LpChan.reset s.lp n f }

/-- A core or engine is halted by debug and the channels freeze (R295). -/
def State.lpFrozen (s : State) : Bool := s.halted != [] && !s.flag Fld.LPW_LP_GCFG_DBG_ACT

/-- The channel's counter runs: enabled, and in continuous mode or with a shot under way (R290, R292). -/
def State.lpRuns (s : State) (n : Nat) : Bool :=
  s.flag (Fld.LPW_LP_CFG_EN n) && (!s.flag (Fld.LPW_LP_CFG_ONESHOT n) || (s.lpc n).shot)

/-- The level the counter gives: on while below CMP; a CMP at or beyond PERIOD holds it on (R290). -/
def State.lpLevel (s : State) (n : Nat) : Bool :=
  s.lpRuns n && decide (s.rd (Fld.LPW_LP_STAT_CNT n) < (s.lpc n).cmp)

/-- A converter named in MCONV is blocked (R293). -/
def State.lpMasked (s : State) (n : Nat) : Bool :=
  (BitVec.ofNat 8 (s.rd Fld.LPW_BLK_STAT_BLOCKED) &&& BitVec.ofNat 8 (s.rd (Fld.LPW_LP_CFG_MCONV n))) != 0

/-- The level before the interlock: the mask's, else off in a halt with DBG_ACT = 1, else the counter's. -/
def State.lpWant (s : State) (n : Nat) : Bool :=
  if s.lpMasked n then s.flag (Fld.LPW_LP_CFG_MACT n)
  else if s.halted ≠ [] ∧ s.flag Fld.LPW_LP_GCFG_DBG_ACT then false
  else (s.lpc n).level

/-- The channel is on now. -/
def State.lpOut (s : State) (n : Nat) : Bool := s.flag (Fld.LPW_LP_STAT_OUT n)

/-- Whether channel `n` is on after the present tick (R294): held off while its partner is on, and in its dead time,
which starts as the partner turns off. Of a mutual pair the lower channel turns on; one already on stays. -/
def State.lpNow (s : State) : Nat → Nat → Bool
  | 0, n => s.lpOut n
  | fuel + 1, n =>
    if ¬ s.flag (Fld.LPW_LP_CFG_IL_EN n) then s.lpWant n
    else
      let p := s.rd (Fld.LPW_LP_CFG_PARTNER n)
      let pair := s.flag (Fld.LPW_LP_CFG_IL_EN p) && s.rd (Fld.LPW_LP_CFG_PARTNER p) == n
      let on := if pair ∧ n < p then s.lpOut p && s.lpWant p else s.lpNow fuel p
      let falls := s.lpOut p && !on && s.rd (Fld.LPW_LP_DEAD_DEAD n) != 0
      s.lpWant n && !(on || falls || (s.lpc n).dead)

/-- Bring one channel's level, dead time and status bits up to date, given the outputs of the tick. -/
def State.lpShow (s : State) (outs : List Bool) (n : Nat) : State :=
  let p := s.rd (Fld.LPW_LP_CFG_PARTNER n)
  let il := s.flag (Fld.LPW_LP_CFG_IL_EN n)
  let falls := il && s.lpOut p && !outs.getD p false && s.rd (Fld.LPW_LP_DEAD_DEAD n) != 0
  let dead := il && ((s.lpc n).dead || falls)
  (s.setLp n (fun x => { x with dead := dead })).wrs
    [(Fld.LPW_LP_STAT_MASKED n, if s.lpMasked n then 1 else 0), (Fld.LPW_LP_STAT_IL_HOLD n, if il ∧ (dead ∨ outs.getD p false) then 1 else 0),
     (Fld.LPW_LP_STAT_FROZEN n, if s.lpFrozen then 1 else 0)]

/-- The pulse events of the trigger generators as the outputs become `outs` (R308): EDGE 0 an output turning on, 1 one turning off. -/
def State.lpPulses (s : State) (outs : List Bool) : State :=
  let new := (List.range 4).filter (fun t =>
    let n := s.rd (Fld.ADC_TG_CFG_LPSEL t)
    s.rd (Fld.ADC_TG_CFG_KIND t) == 3 && s.lpOut n != outs.getD n false && s.lpOut n == s.flag (Fld.ADC_TG_CFG_EDGE t) &&
      !s.tgDue.contains t)
  { s with tgDue := s.tgDue ++ new }

/-- Work all channels out after an event. -/
def State.lpUpdate (s : State) : State :=
  let s := if s.lpFrozen then s
    else (List.range 16).foldl (fun s n => let l := s.lpLevel n; s.setLp n (fun x => { x with level := l })) s
  let outs := (List.range 16).map (fun n => s.lpNow 16 n)
  let s := s.lpPulses outs
  let s := (List.range 16).foldl (fun s n => s.lpShow outs n) s
  (List.range 16).foldl (fun s n => s.wrB (Fld.LPW_LP_STAT_OUT n) (outs.getD n false)) s

/-- Take the staged pair (R291). -/
def State.lpTake (s : State) (n : Nat) : State :=
  let per := s.rd (Fld.LPW_LP_PERIOD_PERIOD n)
  let cmp := s.rd (Fld.LPW_LP_CMP_CMP n)
  (s.setLp n (fun x => { x with period := per, cmp := cmp })).wr (Fld.LPW_LP_STAT_PEND n) 0

/-- Take the staged pair when it is pending. -/
def State.lpTakePend (s : State) (n : Nat) : State := if s.flag (Fld.LPW_LP_STAT_PEND n) then s.lpTake n else s

end Sys2Proof.Machine
end

