-- ==== Sys2Proof/Machine/Protection.lean ====
section
/-! DEFINITION. The protection path (R277 to R289) and the commands of the pulse outputs (R290 to R295). -/

namespace Sys2Proof.Machine

/-! ### Sources (R277) -/

/-- The cells with a valid arm map entry, with their arms. -/
def State.mapped (s : State) : List (Nat × Nat) :=
  s.regs.filterMap (fun p =>
    let a := p.1 / 32 - 0x8140000
    if 0x8140000 ≤ p.1 / 32 ∧ a < 0x10000 ∧ p.1 % 32 = 31 then
      some (a / 0x200 * 128 + a % 0x200 / 4, s.rd (Fld.VLY_ARMMAP_ARM (a / 0x200) (a % 0x200 / 4)))
    else none)

/-- Converters with a valid arm map entry on a spoke that satisfies `p`. -/
def State.convsOn (s : State) (p : Nat → Bool) : BitVec 8 :=
  s.mapped.foldl (fun m x => if p (x.1 / 128) then m ||| BitVec.ofNat 8 (2 ^ (x.2 / 6)) else m) 0

/-- A BLOCK_IN pin (0 A, 1 B) is active after its filter (R280). -/
def State.pinActive (s : State) (i : Nat) : Bool :=
  (if i = 0 then s.c0.levelA else s.c0.levelB) == s.flag (Fld.LPW_BIN_CFG_POL i)

/-- The sideband of transceiver die `d` is lost and its loss is a source (R282). -/
def State.sidebandSource (s : State) (d : Nat) : Bool :=
  if d = 0 then s.c0.lost0 && s.flag Fld.LPW_SB_CFG_SB_X0 else s.c0.lost1 && s.flag Fld.LPW_SB_CFG_SB_X1

/-- The spokes of a die. -/
def dieSpoke (d n : Nat) : Bool := n / 64 == d

/-- What a source names: its REASON, the converters, and the cell of a cell fault. -/
structure Source where
  reason : Nat
  mask   : BitVec 8
  cell   : Option Nat
deriving DecidableEq, Repr

/-- The sources that are levels: comparators, pins and sidebands, where active. -/
def State.levelSources (s : State) : List Source :=
  let cmp := (List.range 28).flatMap (fun k =>
    (if s.flag (Fld.ADC_CH_RES_CMP0_LIVE k) then [Source.mk 2 (BitVec.ofNat 8 (s.rd (Fld.LPW_CMPMAP_MASK0 k))) none] else []) ++
    (if s.flag (Fld.ADC_CH_RES_CMP1_LIVE k) then [Source.mk 2 (BitVec.ofNat 8 (s.rd (Fld.LPW_CMPMAP_MASK1 k))) none] else []))
  let pin := fun i => if s.pinActive i then [Source.mk (3 + i) (BitVec.ofNat 8 (s.rd (Fld.LPW_BIN_CFG_MASK i))) none] else []
  let sb := fun d => if s.sidebandSource d then [Source.mk 6 (s.convsOn (dieSpoke d)) none] else []
  (cmp ++ pin 0 ++ pin 1 ++ sb 0 ++ sb 1).filter (fun x => x.mask != 0)

/-- LPW_BLK_STAT.SRC_LIVE: converters named by a live source (R277). -/
def State.liveMask (s : State) : BitVec 8 := s.levelSources.foldl (fun m x => m ||| x.mask) s.c0.cellLive

/-! ### The decision (R283, R284, R289) -/

/-- Time of one 66-bit block, or at G0 of one code group, in units of 10 ps: an ordered set is inserted between two (R122). -/
def blockTime (g : Nat) : Nat := if g = 0 then 800 else if g = 1 then 2560 else if g = 2 then 1280 else if g = 3 then 640 else 256

/-- When a block ordered set requested now leaves a spoke, in units of 10 ps: at the next block boundary, counted from the volley
boundary, after the ordered sets of that boundary, and after the one before it (R284). -/
def State.blockLeaves (s : State) (n : Nat) : Nat :=
  let g := s.rd (Fld.SPK_STAT_GEAR n)
  let start := s.time.boundaryTick * 125
  let lead := (s.spoke n).osLead * (if g = 0 then 8 else 1)
  let next := start + max lead (ceilDiv (s.nowTick * 125 - start) (blockTime g)) * blockTime g
  match (s.spoke n).blkLeave with
  | some t => max next (t + (if g = 0 then 8 else 1) * blockTime g)
  | none => next

/-- A block ordered set on one spoke, sent again after the strobes of the next two serves (R122). A request that arrives while an
earlier set still waits, or in the tick in which one was requested, is merged into it, with the union of the masks and the lower
REASON (R283, R284). -/
def State.sendBlock (s : State) (n : Nat) (mask : BitVec 8) (reason : Nat) : State :=
  let e := BitVec.ofNat 16 (s.rd Fld.VLY_NOW2_EPOCH)
  let set := fun (m : BitVec 8) (r : Nat) => (⟨0xB1, e, m, ~~~m, BitVec.ofNat 8 r⟩ : OrderedSet)
  let waits : Bool := (s.spoke n).blkTick == some s.nowTick || (match (s.spoke n).blkLeave with | some t => decide (s.nowTick * 125 < t) | none => false)
  match (if waits then (s.spoke n).blkRepeat.getLast? else none) with
  | some (m, r, k) =>
    let m' := m ||| mask
    let r' := min r.toNat reason
    s.setSpoke n (fun p => { p with osSent := p.osSent.dropLast ++ [set m' r'], blkTick := some s.nowTick, blkRepeat := p.blkRepeat.dropLast ++ [(m', BitVec.ofNat 8 r', k)] })
  | none =>
    let t := s.blockLeaves n
    let at' := (t - s.time.boundaryTick * 125) / blockTime (s.rd (Fld.SPK_STAT_GEAR n))
    s.setSpoke n (fun p => { p with osSent := p.osSent ++ [set mask reason], osAt := p.osAt ++ [at'], blkTick := some s.nowTick, blkRepeat := p.blkRepeat ++ [(mask, BitVec.ofNat 8 reason, 2)], blkLeave := some t })

/-- A block ordered set leaves on every awake, unfenced spoke that carries one of the converters; a standby sends
none (R284, R286). -/
def State.sendBlocks (s : State) (mask : BitVec 8) (reason : Nat) : State :=
  if ¬ s.activeOrSolo then s
  else
    let carries := s.mapped.filter (fun x => bitOf mask.toNat (x.2 / 6))
    (List.range 128).foldl (fun s n =>
      if s.flag (Fld.SPK_STAT_TX_AWAKE n) ∧ ¬ s.flag (Fld.SPK_STAT_FENCED n) ∧ carries.any (fun x => x.1 / 128 == n) then s.sendBlock n mask reason
      else s) s

/-- What the decision of an earlier command of this tick blocked, and its REASON (R283). -/
def State.decided (s : State) : BitVec 8 × Nat :=
  match s.c0.last with
  | some (t, m, r) => if t = s.nowTick then (m, r) else (0, 15)
  | none => (0, 15)

/-- Record the sources of one tick for one converter (R283, R278): `new` when it is blocked by them; one that was blocked earlier in
the tick takes the lower REASON. -/
def State.recordSources (s : State) (src : List Source) (new : Bool) (c : Nat) : State :=
  let named := src.filter (fun x => bitOf x.mask.toNat c)
  if named = [] then s
  else
    let prev := s.rd (Fld.LPW_BLK_SRC_SRC c)
    let bits := named.foldl (fun b x => b ||| 2 ^ (x.reason - 1)) (BitVec.ofNat 6 prev).toNat
    let s := s.wr (Fld.LPW_BLK_SRC_SRC c) bits
    let s := if new then s.wrs [(Fld.LPW_BLK_SRC_REASON c, named.foldl (fun r x => min r x.reason) 15), (Fld.LPW_BLK_TS_TB3_NS c, (s.ts32 3).toNat)]
      else if bitOf s.decided.1.toNat c then s.wr (Fld.LPW_BLK_SRC_REASON c) (named.foldl (fun r x => min r x.reason) (s.rd (Fld.LPW_BLK_SRC_REASON c)))
      else s
    match (named.filterMap (·.cell)).head? with
    | some id => if bitOf prev 0 then s else s.wr (Fld.LPW_BLK_SRC_CELL_ID c) id
    | none => s

/-- Refuse waiting BLOCK_RELEASE descriptors the converters of `m` (R288). -/
def State.refuseReleases (s : State) (m : BitVec 8) : State :=
  if m = 0 then s
  else { s with host := FMap.mapVals HostFn.reset (fun _ (h : HostFn) => { h with inflight := h.inflight.map (fun x =>
    match x.at', x.d.body with
    | .release r, .blockRelease mask => { x with at' := .release (r ||| (mask &&& m)) }
    | _, _ => x) }) s.host }

/-- The C0 events of this tick that no engine has taken yet carry the REASON of the tick's decision. -/
def State.c0Lower (s : State) (m : BitVec 8) (reason : Nat) : State :=
  (List.range 32).foldl (fun s e => if s.engineConv e &&& m = 0 then s else
    s.setEng e (fun g => { g with c0In := match g.c0In.getLast? with
      | some x => g.c0In.dropLast ++ [(x.1, min x.2 reason)]
      | none => [] })) s

/-- One tick's decision over the sources that name a converter in it. Commands of one tick come one after the other; what a later one
names joins the decision of the tick: one ordered set with the union of the converters and the lowest REASON (R283). Its host
record and count are of the converters it newly names (log 196). -/
def State.blockDecision (s : State) (src : List Source) : State :=
  let union := src.foldl (fun m x => m ||| x.mask) (0 : BitVec 8)
  let blocked := BitVec.ofNat 8 (s.rd Fld.LPW_BLK_STAT_BLOCKED)
  let new := union &&& ~~~blocked
  let cancel := union &&& s.c0.releasing
  let s := (List.range 8).foldl (fun s c => s.recordSources src (bitOf new.toNat c) c) s
  let s := { s with c0 := { s.c0 with releasing := s.c0.releasing &&& ~~~cancel } }
  -- R289: a release requested in the tick of a new decision is refused.
  let late := BitVec.ofNat 8 (s.rd Fld.LPW_BLK_REL_REL) &&& new
  let s := s.raiseIf (late != 0) Fld.LPW_BLK_EVT_REL_REFUSED late.toNat
  let s := (s.wr Fld.LPW_BLK_REL_REL (BitVec.ofNat 8 (s.rd Fld.LPW_BLK_REL_REL) &&& ~~~(cancel ||| late)).toNat).refuseReleases (cancel ||| late)
  let before : BitVec 8 × Nat := s.decided
  let out := new ||| cancel
  let named := src.filter (fun x => x.mask &&& (out ||| before.1) != 0)
  let reason := named.foldl (fun r x => min r x.reason) before.2
  if out = 0 ∧ reason = before.2 then s
  else
    let s := if before.1 = 0 then s else s.c0Lower before.1 reason
    let s := { s with c0 := { s.c0 with last := some (s.nowTick, out ||| before.1, reason) } }
    let s := s.wr Fld.LPW_BLK_STAT_BLOCKED (blocked ||| new).toNat
    let s := if new = 0 then s
      else
        let cell := ((src.filter (fun x => x.mask &&& new != 0)).filterMap (·.cell)).head?.getD 0
        (((s.raise Fld.LPW_BLK_EVT_BLOCK new.toNat).bump Fld.LPW_CNT_BLOCK_CNT).c0Event new reason).postScoped new (.block new reason cell)
    let s := (s.sendBlocks (out ||| before.1) reason).lpUpdate
    if out = 0 then s else (s.recBlock out).adcBlocked out

/-- The island evaluates its level sources: those that name a converter not yet blocked block it. -/
def State.evaluate (s : State) : State :=
  let src := s.levelSources
  if src = [] then s else s.blockDecision src

/-! ### Releases (R288) -/

/-- Tick A: examine each requested release. -/
def State.examineReleases (s : State) : State :=
  let req := BitVec.ofNat 8 (s.rd Fld.LPW_BLK_REL_REL) &&& ~~~s.c0.releasing
  let blocked := BitVec.ofNat 8 (s.rd Fld.LPW_BLK_STAT_BLOCKED)
  let refused := req &&& blocked &&& s.liveMask
  let passed := req &&& blocked &&& ~~~refused
  let s := s.raiseIf (refused != 0) Fld.LPW_BLK_EVT_REL_REFUSED refused.toNat
  let s := (s.wr Fld.LPW_BLK_REL_REL (passed ||| s.c0.releasing).toNat).refuseReleases refused
  { s with c0 := { s.c0 with releasing := s.c0.releasing ||| passed } }

/-- The following boundary: releases that passed take effect. -/
def State.applyReleases (s : State) : State :=
  let rel := s.c0.releasing
  if rel = 0 then s
  else
    let s := { s with c0 := { s.c0 with releasing := 0 } }
    let keep := fun (f : Field) => (BitVec.ofNat 8 (s.rd f) &&& ~~~rel).toNat
    let s := s.wrs [(Fld.LPW_BLK_STAT_BLOCKED, keep Fld.LPW_BLK_STAT_BLOCKED), (Fld.LPW_BLK_REL_REL, keep Fld.LPW_BLK_REL_REL)]
    let s := (List.range 8).foldl (fun s c => if bitOf rel.toNat c then
      s.wrs [(Fld.LPW_BLK_SRC_SRC c, 0), (Fld.LPW_BLK_SRC_REASON c, 0), (Fld.LPW_BLK_SRC_CELL_ID c, 0), (Fld.LPW_BLK_TS_TB3_NS c, 0)] else s) s
    ((s.postScoped rel (.release rel)).lpUpdate).sysCalReleased rel

/-- BLK_MASK of serves assembled now, before R284 narrows it to a spoke (R288). -/
def State.serveMask (s : State) : BitVec 8 := BitVec.ofNat 8 (s.rd Fld.LPW_BLK_STAT_BLOCKED) &&& ~~~s.c0.releasing

/-! ### Cell faults (R131, R277, R278) -/

/-- LPW_FMAP action of FAULT bit `i`: 0 record, 1 exclude, 2 block. -/
def State.faultAction (s : State) (i : Nat) : Nat := s.rd Fld.LPW_FMAP_ACT / 4 ^ i % 4

/-- A FAULT bit with action exclude keeps the cell out of the rule (R166, R278). -/
def State.faultExcluded (s : State) (c : Nat) : Bool :=
  (s.cellConv c).isSome && (List.range 5).any (fun i => (s.cell c).fault.getLsbD i && s.faultAction i == 1)

/-- The FAULT bits of a return that passes its CRC reach the island, unless the die's sideband is lost (R282). -/
def State.faultTap (s : State) (c : Nat) (fault : BitVec 5) : State :=
  let lost := if c / 128 < 64 then s.c0.lost0 else s.c0.lost1
  match s.cellConv c with
  | none => s
  | some v =>
    if lost ∨ ¬ (List.range 5).any (fun i => fault.getLsbD i && s.faultAction i == 2) then s
    else
      let m := BitVec.ofNat 8 (2 ^ v)
      ({ s with c0 := { s.c0 with cellNow := s.c0.cellNow ||| m } }).blockDecision [⟨1, m, some c⟩]

/-- The return window closes: it is now the last completed one (R277). -/
def State.faultWindow (s : State) : State := { s with c0 := { s.c0 with cellLive := s.c0.cellNow, cellNow := 0 } }

/-! ### Commands of the protection path -/

/-- BLOCK_IN_ACTIVE: a pin was at its active level for FILT ticks (R280). -/
def execBlockInActive (pin : Fin 2) (s : State) : Host.Outcome State Fault Refusal :=
  let l := s.flag (Fld.LPW_BIN_CFG_POL pin)
  .next ({ s with c0 := if pin = 0 then { s.c0 with levelA := l } else { s.c0 with levelB := l } }).evaluate

/-- BLOCK_IN_INACTIVE: a pin was at its inactive level for FILT ticks (R280). -/
def execBlockInInactive (pin : Fin 2) (s : State) : Host.Outcome State Fault Refusal :=
  let l := !s.flag (Fld.LPW_BIN_CFG_POL pin)
  .next { s with c0 := if pin = 0 then { s.c0 with levelA := l } else { s.c0 with levelB := l } }

/-- PAIR_DISC: the filtered levels differ for longer than DISC_US, which is not 0; a diagnosis only (R280). -/
def execPairDisc (s : State) : Host.Outcome State Fault Refusal :=
  .next (s.raiseIf (s.rd Fld.LPW_BIN_DISC_DISC_US != 0 && s.c0.levelA != s.c0.levelB) Fld.LPW_BLK_EVT_PAIR_DISC)

/-- SIDEBAND_LOSS: no heartbeat of a die for 64 ticks (R282, R530). -/
def execSidebandLoss (die : Fin 2) (s : State) : Host.Outcome State Fault Refusal :=
  let s : State := { s with c0 := if die = 0 then { s.c0 with lost0 := true } else { s.c0 with lost1 := true } }
  let s := (s.raise Fld.LPW_BLK_EVT_SIDEBAND die).raise (if die = 0 then Fld.HKP_SVC_EVT_DIE_X0 else Fld.HKP_SVC_EVT_DIE_X1)
  .next s.evaluate

/-- SIDEBAND_RESTORE: heartbeats arrive again, and the source is no longer live (R277, R282). -/
def execSidebandRestore (die : Fin 2) (s : State) : Host.Outcome State Fault Refusal :=
  .next { s with c0 := if die = 0 then { s.c0 with lost0 := false } else { s.c0 with lost1 := false } }

/-- Converters whose block was decided in this tick. -/
def State.decidedNow (s : State) : BitVec 8 :=
  (List.range 8).foldl (fun m c => if bitOf (s.rd Fld.LPW_BLK_STAT_BLOCKED) c ∧ s.rd (Fld.LPW_BLK_TS_TB3_NS c) = (s.ts32 3).toNat
    then m ||| BitVec.ofNat 8 (2 ^ c) else m) 0

/-- Request releases (R288); those of converters blocked in this tick are refused (R289). -/
def State.requestRelease (s : State) (mask : BitVec 8) : State :=
  let late := mask &&& s.decidedNow
  let s := (s.raiseIf (late != 0) Fld.LPW_BLK_EVT_REL_REFUSED late.toNat).refuseReleases late
  s.wr Fld.LPW_BLK_REL_REL (BitVec.ofNat 8 (s.rd Fld.LPW_BLK_REL_REL) ||| (mask &&& ~~~late)).toNat

/-- LPW_BLK_REL written. -/
def execLpwBlkRel (u : Core) (mask : BitVec 8) (s : State) : Host.Outcome State Fault Refusal :=
  .next (s.asWriter u 4 (fun s => s.requestRelease mask))

/-- LPW_LOCK.LOCK set (R296). -/
def execLpwLock (u : Core) (s : State) : Host.Outcome State Fault Refusal :=
  .next (s.asWriter u 4 (fun s => s.wr Fld.LPW_LOCK_LOCK 1))

/-! ### Commands of the pulse outputs -/

/-- A COMMIT write: the pair is pending, or taken at once by a disabled or idle channel (R291). -/
def State.lpCommit (s : State) (n : Nat) : State :=
  if s.lpRuns n then s.wr (Fld.LPW_LP_STAT_PEND n) 1 else (s.lpTake n).lpUpdate

def execLpCommit (u : Core) (channel : Fin 16) (s : State) : Host.Outcome State Fault Refusal :=
  .next (s.asWriter u 4 (fun s => s.lpCommit channel))

/-- A FIRE write: an idle one-shot channel runs once; one that runs sets FIRE_LOST (R292). -/
def State.lpFire (s : State) (n : Nat) : State :=
  if ¬ (s.flag (Fld.LPW_LP_CFG_EN n) ∧ s.flag (Fld.LPW_LP_CFG_ONESHOT n)) then s
  else if (s.lpc n).shot then s.raise Fld.LPW_LP_GSTAT_FIRE_LOST n
  else ((s.setLp n (fun x => { x with shot := true })).wr (Fld.LPW_LP_STAT_CNT n) 0).lpUpdate

def execLpFire (u : Core) (channel : Fin 16) (s : State) : Host.Outcome State Fault Refusal :=
  .next (s.asWriter u 4 (fun s => s.lpFire channel))

/-- LP_PERIOD_WRAP: a continuous counter passes PERIOD - 1; a pending pair is taken (R290, R291). -/
def execLpPeriodWrap (channel : Fin 16) (s : State) : Host.Outcome State Fault Refusal :=
  let n : Nat := channel
  .next (if s.lpFrozen ∨ ¬ s.lpRuns n ∨ s.flag (Fld.LPW_LP_CFG_ONESHOT n) then s
    else ((s.wr (Fld.LPW_LP_STAT_CNT n) 0).lpTakePend n).lpUpdate)

/-- LP_CMP_MATCH: the counter of a running channel reaches CMP and the channel turns off (R290). -/
def execLpCmpMatch (channel : Fin 16) (s : State) : Host.Outcome State Fault Refusal :=
  let n : Nat := channel
  .next (if s.lpFrozen ∨ ¬ s.lpRuns n ∨ (s.lpc n).period ≤ (s.lpc n).cmp ∨ (s.lpc n).cmp < s.rd (Fld.LPW_LP_STAT_CNT n) then s
    else (s.wr (Fld.LPW_LP_STAT_CNT n) (s.lpc n).cmp).lpUpdate)

/-- LP_ONESHOT_END: the run reached PERIOD - 1 and stops off; the idle channel takes a pending pair (R291, R292). -/
def execLpOneshotEnd (channel : Fin 16) (s : State) : Host.Outcome State Fault Refusal :=
  let n : Nat := channel
  .next (if s.lpFrozen ∨ ¬ (s.lpc n).shot then s
    else (((s.setLp n (fun x => { x with shot := false })).wr (Fld.LPW_LP_STAT_CNT n) 0).lpTakePend n).lpUpdate)

/-- LP_DEAD_TIME_END: DEAD ticks have passed since the partner turned off (R294). -/
def execLpDeadTimeEnd (channel : Fin 16) (s : State) : Host.Outcome State Fault Refusal :=
  .next (s.setLp channel (fun x => { x with dead := false })).lpUpdate

/-- What a write of LPW_LPn_CFG changes beside its fields: a disabled channel stands at 0, ends its shot and takes a
pending pair at once; a change of ONESHOT ends a shot, and one that sets it stops the counter at 0 (R290 to R292). `was` is ONESHOT
before the write. -/
def State.lpConfigured (s : State) (n : Nat) (was : Bool) : State :=
  let off := !s.flag (Fld.LPW_LP_CFG_EN n)
  let one := s.flag (Fld.LPW_LP_CFG_ONESHOT n)
  let s := if off || one != was then s.setLp n (fun x => { x with shot := false }) else s
  let s := if off || (one && !was) then s.wr (Fld.LPW_LP_STAT_CNT n) 0 else s
  (if s.lpRuns n then s else s.lpTakePend n).lpUpdate

/-- A volley boundary: channels with SYNC = 1 restart at 0 and take a pending pair (R292). -/
def State.lpSync (s : State) : State :=
  if s.lpFrozen then s
  else
    ((List.range 16).foldl (fun s n =>
      if s.flag (Fld.LPW_LP_CFG_SYNC n) ∧ s.lpRuns n then (s.wr (Fld.LPW_LP_STAT_CNT n) 0).lpTakePend n else s) s).lpUpdate

end Sys2Proof.Machine
end

