-- ==== Sys2Proof/Machine/Adc.lean ====
section
/-! DEFINITION. The commands of the analogue inputs (R302 to R321): triggers, urgent requests, conversions with their
comparators, background and system calibration, and the reference monitor. -/

namespace Sys2Proof.Machine

/-! ### Comparators (R314, R315) -/

/-- The registers of comparator 0 or 1 of a channel: EN, SENSE, N, HYST, LO, HI and the live bit. -/
structure CmpSet where
  en    : Bool
  sense : Bool
  n     : Nat
  hyst  : Int
  lo    : Int
  hi    : Int
  live  : Bool
deriving DecidableEq, Repr

def State.cmpSet (s : State) (k : Nat) (one : Bool) : CmpSet :=
  if one then
    ⟨s.flag (Fld.ADC_CH_CMPCTL_EN1 k), s.flag (Fld.ADC_CH_CMPCTL_SENSE1 k), s.rd (Fld.ADC_CH_CMPCTL_N1 k), s.rd (Fld.ADC_CH_CMPCTL_HYST1 k),
     sint16 (s.rd (Fld.ADC_CH_CMP1_LO k)), sint16 (s.rd (Fld.ADC_CH_CMP1_HI k)), s.flag (Fld.ADC_CH_RES_CMP1_LIVE k)⟩
  else
    ⟨s.flag (Fld.ADC_CH_CMPCTL_EN0 k), s.flag (Fld.ADC_CH_CMPCTL_SENSE0 k), s.rd (Fld.ADC_CH_CMPCTL_N0 k), s.rd (Fld.ADC_CH_CMPCTL_HYST0 k),
     sint16 (s.rd (Fld.ADC_CH_CMP0_LO k)), sint16 (s.rd (Fld.ADC_CH_CMP0_HI k)), s.flag (Fld.ADC_CH_RES_CMP0_LIVE k)⟩

/-- The conversion meets the condition that would change the comparator's state. -/
def CmpSet.meets (c : CmpSet) (code : Int) (sat : Bool) : Bool :=
  let beyond := decide (c.hi < code) || decide (code < c.lo) || sat
  if c.live then
    (if c.sense then decide (code < c.lo - c.hyst) || decide (c.hi + c.hyst < code)
     else decide (c.lo + c.hyst ≤ code) && decide (code ≤ c.hi - c.hyst) && !sat)
  else (if c.sense then decide (c.lo ≤ code) && decide (code ≤ c.hi) else beyond)

/-- Evaluate a comparator: its state and count after a conversion. -/
def CmpSet.eval (c : CmpSet) (run : Nat) (code : Int) (sat : Bool) : Bool × Nat :=
  if ¬ c.en then (false, 0)
  else if c.meets code sat then (if c.n ≤ run + 1 then (!c.live, 0) else (c.live, run + 1))
  else (c.live, 0)

/-- A comparator entered trip: its bit, its event and its trigger source. -/
def State.cmpTripped (s : State) (k : Nat) (one : Bool) : State :=
  ((s.wrBit (if one then Fld.ADC_TRIP1_TRIP else Fld.ADC_TRIP0_TRIP) k true).raise Fld.ADC_EVT_TRIP k).recTrip k

/-! ### Conversions (R304 to R306, R314, R317, R318) -/

/-- Deliver the conversion `c` of channel `k`, of a differential voltage in nanovolts, stamped with TB3 at T_s: it counts 1.25 ns at each
tick. -/
def State.deliver (s : State) (k : Nat) (c : AdcConv) (nv : Int) : State :=
  let j := (c.slice.getD ((s.chan k).slice.getD 0))
  let (raw, satA) := s.sliceCode k j nv
  let (code, satB) := s.channelCode k raw
  let sat := satA || satB
  let x := s.chan k
  let nv' := !(x.calSet || s.rd (Fld.ADC_CH_CAL_OFFSET k) != 0 || s.rd (Fld.ADC_CH_CAL_GAIN k) != 0x8000) || !s.flag (Fld.ADC_GRP_VREF_OK (k / 7))
  let c0 := s.cmpSet k false
  let c1 := s.cmpSet k true
  let (t0, n0) := c0.eval x.run0 code sat
  let (t1, n1) := c1.eval x.run1 code sat
  let stamp := BitVec.ofNat 32 (c.ts * 5 / 4)
  let res : AdcResult := { ts := c.ts, code := code, sat := sat, cmp0 := t0, cmp1 := t1, calNv := nv' }
  let s := s.setChan k (fun x => { x with results := res :: x.results, run0 := n0, run1 := n1 })
  let s := s.wrs [(Fld.ADC_CH_RES_CODE k, (BitVec.ofInt 16 code).toNat), (Fld.ADC_CH_RES_SAT k, if sat then 1 else 0),
    (Fld.ADC_CH_RES_CMP0_LIVE k, if t0 then 1 else 0), (Fld.ADC_CH_RES_CMP1_LIVE k, if t1 then 1 else 0),
    (Fld.ADC_CH_RES_CAL_NV k, if nv' then 1 else 0), (Fld.ADC_CH_RES_SLICE k, j), (Fld.ADC_CH_TS_TB3_NS k, stamp.toNat)]
  let data := (BitVec.ofInt 16 code).toNat + (if sat then 2 ^ 16 else 0) + (if t0 then 2 ^ 17 else 0) + (if t1 then 2 ^ 18 else 0) + (if nv' then 2 ^ 19 else 0)
  let s := if s.flag (Fld.ADC_CH_CFG_REC k) then s.recAll 0 (fun d => bitOf (s.rd (Fld.REC_D_ADCSEL_CH d)) k) stamp 1 k 0 (BitVec.ofNat 64 data) else s
  let s := match s.sysCal.run with
    | some r => if r.ch = k ∧ r.n < 1024 then { s with sysCal := { s.sysCal with run := some { r with n := r.n + 1, sum := r.sum + raw } } } else s
    | none => s
  let trip0 := t0 && !c0.live
  let trip1 := t1 && !c1.live
  let s := if trip0 then s.cmpTripped k false else s
  let s := if trip1 then s.cmpTripped k true else s
  if trip0 ∨ trip1 then s.evaluate else s

/-- CONVERSION_COMPLETE: the conversion of the channel that was sampled first is ready (R306). -/
def execConversionComplete (channel : Fin 28) (nanovolts : Int) (s : State) : Host.Outcome State Fault Refusal :=
  let k : Nat := channel
  .next (match (s.chan k).convs with
    | [] => s
    | c :: _ =>
      let s := s.adcSwap k (max s.nowTick c.ts)
      let c := ((s.chan k).convs.head?).getD c
      let s := s.setChan k (fun x => { x with convs := x.convs.tail })
      let s := if c.kind = .continuous ∨ c.kind = .fill then s.adcNext k (c.ts + 160) else s
      s.deliver k c nanovolts)

/-- TRIGGER_GENERATOR_EVENT (R308): every channel in MODE 2 or 3 that names the generator is triggered; with KIND 3 a change of its pulse
channel in its direction is what triggers, once. -/
def execTriggerGeneratorEvent (tg : Fin 4) (s : State) : Host.Outcome State Fault Refusal :=
  let t : Nat := tg
  let kind := s.rd (Fld.ADC_TG_CFG_KIND t)
  .next (if kind = 0 ∨ (kind = 1 ∧ s.timeline.p10 * 8 ≤ s.rd (Fld.ADC_TG_PARAM_VALUE t)) ∨ (kind = 3 ∧ ¬ s.tgDue.contains t) then s
    else (List.range 28).foldl (fun s k => if 2 ≤ s.adcMode k ∧ s.rd (Fld.ADC_CH_CFG_TSEL k) = t then s.adcTrigger k else s)
      { s with tgDue := s.tgDue.filter (· != t) })

/-- TG_SKIP of each volley-locked generator whose OFFSET the period in force does not reach (R308). -/
def State.tgSkips (s : State) : State :=
  (List.range 4).foldl (fun s t =>
    s.raiseIf (s.rd (Fld.ADC_TG_CFG_KIND t) == 1 && decide (s.timeline.p10 * 8 ≤ s.rd (Fld.ADC_TG_PARAM_VALUE t))) Fld.ADC_EVT_TG_SKIP t) s

/-- A write of ADC_URG (R309). -/
def State.adcUrg (s : State) (mask : Nat) : State := (List.range 28).foldl (fun s k => if bitOf mask k then s.adcUrgent k else s) s

def execAdcUrg (u : Core) (mask : BitVec 28) (s : State) : Host.Outcome State Fault Refusal :=
  .next (s.asWriter u 3 (fun s => s.adcUrg mask.toNat))

/-! ### Background calibration (R311, R312) -/

/-- The enabled channel of a group whose slice has gone longest without calibration, of those to which no slice is on its way. -/
def State.stalest (s : State) (g : Nat) : Option Nat :=
  ((List.range 7).foldl (fun (b : Option (Nat × Nat)) i =>
    match (s.chan (7 * g + i)).slice, (s.chan (7 * g + i)).swap, b with
    | some j, none, none => some (7 * g + i, j)
    | some j, none, some (k', j') => if (s.slice g j).when' < (s.slice g j').when' then some (7 * g + i, j) else some (k', j')
    | _, _, _ => b) none).map (·.1)

/-- BACKGROUND_CAL_STEP: the spare, of the idle slices the one longest without calibration, has measured its offset in raw codes and its
gain in units of 1 / 32,768; within limits it takes over a channel at its next sampling instant, outside them it is fenced. -/
def execBackgroundCalStep (group : Fin 4) (offset : Int) (gain : Nat) (s : State) : Host.Outcome State Fault Refusal :=
  let g : Nat := group
  let s := s.showGroup g
  .next (match s.stalestIdle g with
    | none => s
    | some sp =>
      let s := s.wr (Fld.ADC_GRP_SPARE g) sp
      if offset < -512 ∨ 512 < offset ∨ 10 * gain < 9 * 32768 ∨ 11 * 32768 < 10 * gain then
        (((s.wr (Fld.ADC_GRP_FENCED g) (s.rd (Fld.ADC_GRP_FENCED g) + 2 ^ sp)).raise Fld.ADC_EVT_SLICE_FAULT (7 * g + sp)).dropSwap g sp).showGroup g
      else
        let held := (List.range 7).any (fun i => ((s.chan (7 * g + i)).swap.map (·.1)) == some sp)
        let s := s.setSlice g sp (fun _ => ⟨some (offset, gain), s.nowTick⟩)
        match s.stalest g with
        | some k => if held then s else let now := s.nowTick; s.setChan k (fun x => { x with swap := some (sp, now) })
        | none => s)

/-! ### System calibration (R313) -/

/-- A START write of ADC_SYSCAL, given the CH and STEP it carries. -/
def State.sysCalStart (s : State) (ch step : Nat) : State :=
  if s.adcGuarded ch ∨ 28 ≤ ch ∨ s.adcMode ch = 0 ∨ s.sysCal.run.isSome ∨ ¬ (step = 1 ∨ step = 2) ∨
      (step = 2 ∧ (s.sysCal.zero.map (·.1)) ≠ some ch) then s.raise Fld.ADC_GSTAT_INVALID_WR ch
  else
    ({ s with sysCal := { run := some ⟨ch, step, 0, 0⟩, zero := if step = 1 then none else s.sysCal.zero } }).wrs
      [(Fld.ADC_SYSCAL_CH, ch), (Fld.ADC_SYSCAL_STEP, step), (Fld.ADC_SYSCAL_BUSY, 1)]

def execSyscalStart (u : Core) (ch : BitVec 5) (step : BitVec 2) (s : State) : Host.Outcome State Fault Refusal :=
  .next (s.asWriter u 3 (fun s => s.sysCalStart ch.toNat step.toNat))

/-- A step completes: Z after step 1, the coefficients of the channel after step 2. -/
def State.sysCalDone (s : State) (r : SysCalRun) : State :=
  let mean := roundHalfUp r.sum 1024
  let free := fun (s : State) (z : Option (Nat × Int)) => ({ s with sysCal := { run := none, zero := z } }).wr Fld.ADC_SYSCAL_BUSY 0
  if r.step = 1 then (free s (some (r.ch, mean))).raise Fld.ADC_EVT_SYSCAL_DONE r.ch
  else
    let z := (s.sysCal.zero.map (·.2)).getD 0
    let e := roundHalfUp ((BitVec.ofNat 32 (s.rd Fld.ADC_SYSCAL_V_V_APP)).toInt * 32768) (s.fullScale r.ch)
    let d := mean - z
    let gain : Int := if d = 0 then -1 else if 0 < d then roundHalfUp (32768 * e) d.toNat else roundHalfUp (-(32768 * e)) (-d).toNat
    if e.natAbs < 16384 ∨ z < -2048 ∨ 2047 < z ∨ gain < 0x6000 ∨ 0xA000 < gain then s.sysCalFail
    else
      let s := s.wrs [(Fld.ADC_CH_CAL_OFFSET r.ch, (BitVec.ofInt 16 z).toNat), (Fld.ADC_CH_CAL_GAIN r.ch, gain.toNat)]
      let s := s.setChan r.ch (fun x => { x with calSet := x.calSet || z != 0 || gain != 0x8000 })
      -- The coefficients are written to the settings (R552).
      ((free s s.sysCal.zero).raise Fld.ADC_EVT_SYSCAL_DONE r.ch).saveSettings

/-- SYSCAL_STEP_DONE: 1,024 results of the channel have been taken. -/
def execSyscalStepDone (s : State) : Host.Outcome State Fault Refusal :=
  .next (match s.sysCal.run with
    | some r => if r.n < 1024 then s else s.sysCalDone r
    | none => s)

/-! ### Reference monitor and counters (R305, R319) -/

/-- VREF_OUT_OF_WINDOW: a reference was outside ±0.5 % for more than 10 µs. -/
def execVrefOutOfWindow (group : Fin 4) (s : State) : Host.Outcome State Fault Refusal :=
  .next ((s.wr (Fld.ADC_GRP_VREF_OK group) 0).raise Fld.ADC_EVT_VREF group)

/-- VREF_RECOVER: it has been back inside for 10 µs. -/
def execVrefRecover (group : Fin 4) (s : State) : Host.Outcome State Fault Refusal := .next (s.wr (Fld.ADC_GRP_VREF_OK group) 1)

/-- CNT_CLR clears every ADC_CHk_CNT. -/
def State.adcCntClear (s : State) : State :=
  (List.range 28).foldl (fun s k => s.wrs [(Fld.ADC_CH_CNT_URG_DROP k, 0), (Fld.ADC_CH_CNT_TRIG_LOST k, 0)]) s

def execAdcCntClr (u : Core) (s : State) : Host.Outcome State Fault Refusal := .next (s.asWriter u 3 (fun s => s.adcCntClear))

/-! ### Writes of a channel's registers (R302, R307, R314 to R316) -/

/-- What a write of ADC_CHk_CFG changes beside its fields, given the MODE before it: a slice is taken or released, and
continuous and fill conversions begin or end with their mode. -/
def State.adcConfigured (s : State) (k was : Nat) : State :=
  let g := k / 7
  let now := s.adcMode k
  if now = 0 then
    (((s.setChan k (fun x => { x with slice := none, convs := [], results := [], run0 := 0, run1 := 0, swap := none })).wrs
      [(Fld.ADC_CH_RES_CMP0_LIVE k, 0), (Fld.ADC_CH_RES_CMP1_LIVE k, 0)]).showGroup g)
  else
    let s := if was = 0 then
        let j := s.takeSlice g
        let s := match j with | some j => s.dropSwap g j | none => s
        (s.setChan k (fun x => { x with slice := j, convs := [], results := [] })).showGroup g
      else s
    let s := s.setChan k (fun x => { x with convs := x.convs.filter (fun c =>
      (c.kind != .continuous || now == 1) && (c.kind != .fill || now == 3) && (c.kind != .triggered || now != 1)) })
    if (s.chan k).convs.any (fun c => c.kind == .continuous || c.kind == .fill) then s else s.adcNext k (s.nowTick + 16)

/-- What a write of ADC_CHk_CMPCTL changes beside its fields: a comparator with EN = 0 is clear. -/
def State.cmpConfigured (s : State) (k : Nat) : State :=
  let s := if s.flag (Fld.ADC_CH_CMPCTL_EN0 k) then s else (s.wr (Fld.ADC_CH_RES_CMP0_LIVE k) 0).setChan k (fun x => { x with run0 := 0 })
  if s.flag (Fld.ADC_CH_CMPCTL_EN1 k) then s else (s.wr (Fld.ADC_CH_RES_CMP1_LIVE k) 0).setChan k (fun x => { x with run1 := 0 })

/-- What a write of ADC_CHk_CAL changes beside its fields (R313). -/
def State.calWritten (s : State) (k : Nat) : State :=
  s.setChan k (fun x => { x with calSet := x.calSet || s.rd (Fld.ADC_CH_CAL_OFFSET k) != 0 || s.rd (Fld.ADC_CH_CAL_GAIN k) != 0x8000 })

/-! ### Delivery to the engines (R317) -/

/-- t_in in ticks after the boundary, and whether IN_TICK is the larger. -/
def State.inTick (s : State) : Nat := min (s.rd Fld.ADC_GCFG_IN_TICK) (s.timeline.c - 200)
def State.inClip (s : State) : Bool := decide (s.timeline.c - 200 < s.rd Fld.ADC_GCFG_IN_TICK)

/-- Measured word 0x40 + k at the input instant `tin`, a counter tick. -/
def State.adcWord (s : State) (k tin : Nat) : W40 :=
  match (s.chan k).results.find? (fun r => decide (r.ts ≤ tin)) with
  | none => 0
  | some r =>
    BitVec.ofNat 40 ((BitVec.ofInt 16 r.code).toNat + min (tin - r.ts) 65535 * 2 ^ 16 + 2 ^ 32 + (if r.sat then 2 ^ 33 else 0)
      + (if r.cmp0 then 2 ^ 34 else 0) + (if r.cmp1 then 2 ^ 35 else 0) + (if r.calNv then 2 ^ 36 else 0))

/-- At a volley boundary only the newest result of a channel is still of use. -/
def State.adcBoundary (s : State) : State :=
  { s with adc := FMap.mapVals AdcChan.reset (fun _ (x : AdcChan) => { x with results := x.results.take 1 }) s.adc }

end Sys2Proof.Machine
end

