-- ==== Sys2Proof/Machine/Bus.lean ====
section
/-! DEFINITION. The internal address map and the memories behind it (R19 to R21, R64, R411 to R415): the banks of the cycle
SRAM, the regions of the stacked DRAM, and what each of them reads as. -/

namespace Sys2Proof.Machine

/-! ### Byte order (R6) -/

/-- A number of `n` bytes in little-endian order, byte 0 first. -/
def leBytes : Nat → Nat → List (BitVec 8)
  | 0, _ => []
  | n + 1, v => BitVec.ofNat 8 v :: leBytes n (v / 256)

/-- The number that bytes in little-endian order stand for. -/
def leValue : List (BitVec 8) → Nat
  | [] => 0
  | b :: t => b.toNat + 256 * leValue t

/-- The bytes of 8-byte words in memory order. -/
def leWords (ws : List (BitVec 64)) : List (BitVec 8) := ws.flatMap (fun w => leBytes 8 w.toNat)

/-! ### CRC-32C (R120) -/

/-- One bit of CRC-32C: polynomial 0x1EDC6F41, reflected. -/
def crc32cBit (c : BitVec 32) : BitVec 32 := if c.getLsbD 0 then (c >>> 1) ^^^ 0x82F63B78 else c >>> 1

/-- One byte of CRC-32C. -/
def crc32cByte (c : BitVec 32) (b : BitVec 8) : BitVec 32 :=
  crc32cBit (crc32cBit (crc32cBit (crc32cBit (crc32cBit (crc32cBit (crc32cBit (crc32cBit (c ^^^ b.setWidth 32))))))))

/-- CRC-32C of bytes: initial value and final XOR 0xFFFFFFFF. -/
def crc32c (bs : List (BitVec 8)) : BitVec 32 := bs.foldl crc32cByte 0xFFFFFFFF ^^^ 0xFFFFFFFF

/-! ### Cell image, link records, log and ring as they lie in DRAM (R414, R415) -/

def imageKey (c p : Nat) : Nat := 512 * c + p

/-- The 8-byte slot of a point in the cell image (R415). -/
def State.imageSlot (s : State) (c p : Nat) : BitVec 64 :=
  let e := FMap.get ImagePoint.reset s.image (imageKey c p)
  BitVec.ofNat 64 (e.value.toNat + (if e.valid then 2 ^ 40 else 0) + e.volley.toNat * 2 ^ 48)

/-- LSTATE as byte 6 of the link record codes it (R150). -/
def LState.code : LState → Nat
  | .free => 0 | .assigned => 1 | .admitted => 2 | .tail => 3 | .exception => 4 | .lost => 5 | .muted => 6 | .lol => 7

/-- The two 8-byte halves of a link record, byte 0 lowest (R150). -/
def State.linkRecord (s : State) (c : Nat) : List (BitVec 64) :=
  let x := s.cell c
  [BitVec.ofNat 64 (x.uid.toNat + (x.ver + 4 * x.lstate.code) * 2 ^ 48),
   BitVec.ofNat 64 (min x.miss 65535 + min x.stale 65535 * 2 ^ 16 + min x.place 65535 * 2 ^ 32 + min x.rerange 255 * 2 ^ 48)]

/-- The four 8-byte words of a log record (R524). -/
def LogRec.words (r : LogRec) : List (BitVec 64) :=
  [r.seq, BitVec.ofNat 64 (r.kind + r.part * 2 ^ 8 + r.block * 2 ^ 16 + r.unit * 2 ^ 32), r.body.setWidth 64, (r.body >>> 64).setWidth 64]

/-- The two 8-byte halves of a recorder entry (R511). -/
def RecEntry.words (e : RecEntry) : List (BitVec 64) :=
  [BitVec.ofNat 64 (e.ts.toNat + e.kind.toNat * 2 ^ 32 + e.index.toNat * 2 ^ 40 + e.aux.toNat * 2 ^ 48), e.data]

/-- The first 60 bytes of the header of a capture (R515); bytes 36 to 59 are 0. -/
def captureHead (c : Capture) : List (BitVec 8) :=
  leBytes 4 0x7EC00001 ++ leBytes 4 (c.d + c.seg * 2 ^ 8 + ((if c.preShort then 1 else 0) + (if c.gaps then 2 else 0)) * 2 ^ 16 + c.source * 2 ^ 24) ++
    leBytes 4 c.trigVolley.toNat ++ leBytes 4 c.trigTs.toNat ++ leBytes 4 c.firstVolley.toNat ++ leBytes 4 c.lastVolley.toNat ++
    leBytes 4 c.bytes ++ leBytes 4 c.first ++ leBytes 28 c.lost

/-- The 64-byte header of a capture, with its CRC-32C in bytes 60 to 63 (R515). -/
def captureHeader (c : Capture) : List (BitVec 8) := captureHead c ++ leBytes 4 (crc32c (captureHead c)).toNat

/-- The byte at offset `o` of a segment of `cap` entries, of which `es` are the newest and end before ring place `next`
(R514): the entries lie circularly from offset 64 on. -/
def ringByte (cap next : Nat) (es : List RecEntry) (o : Nat) : Option (BitVec 8) :=
  let k := (o - 64) / 16
  -- Places back from the newest entry.
  let back := (next + cap - 1 - k) % cap
  if cap ≤ k ∨ es.length ≤ back then none
  else (es[es.length - 1 - back]?).bind (fun e => (leWords e.words)[o % 16]?)

/-- The byte at offset `o` of the segment of a finished capture: its header, then its entries (R515). -/
def Capture.byteAt (c : Capture) (o : Nat) : Option (BitVec 8) :=
  if o < 64 then (captureHeader c)[o]? else ringByte c.cap ((c.first - 64) / 16 + c.entries.length) c.entries o

/-- A byte of the recorder ring that the recorder has written (R509, R514): in a finished capture, or in a segment that is
being filled. -/
def State.ringAt (s : State) (o : Nat) : Option (BitVec 8) :=
  match s.captures.findSome? (fun p => match p.2 with
      | some c => if p.1 ≤ o ∧ o < p.1 + 64 + 16 * c.cap then c.byteAt (o - p.1) else none
      | none => none) with
  | some b => some b
  | none => s.recs.findSome? (fun p =>
      if p.2.seg ≤ o ∧ 64 ≤ o - p.2.seg then ringByte p.2.cap p.2.written p.2.entries (o - p.2.seg) else none)

/-! ### The banks (R20, R411, R412, R414) -/

/-- Entry `i` of a list, and the list without it. -/
def pickAt : Nat → List Nat → Nat × List Nat
  | _, [] => (0, [])
  | 0, x :: t => (x, t)
  | n + 1, x :: t => ((pickAt n t).1, x :: (pickAt n t).2)

/-- A permutation of a list drawn from one number: each entry is picked by the next digit. -/
def shuffle : Nat → Nat → List Nat → List Nat
  | 0, _, _ => []
  | n + 1, d, l => (pickAt (d % l.length) l).1 :: shuffle n (d / l.length) (pickAt (d % l.length) l).2

/-- The permutation of row `q` under the bank hash key (R412). How it is drawn from the key is not given. -/
def State.bankRow (s : State) (q : Nat) : List Nat := shuffle 60 (Config.bankDraw s.bankKey q) (List.range 60)

/-- Logical bank of a logical SRAM address (R412): granule g = 60q + r lies in bank π_q(r). -/
def State.sramBank (s : State) (a : Nat) : Nat := (s.bankRow (a / 64 / 60)).getD (a / 64 % 60) 0

/-- Channel and bank of a DRAM offset, as one number: the keyed interleave is not given (R414). -/
def State.dramBank (s : State) (o : Nat) : Nat := Config.dramBank s.dramKey (o / 64)

/-! ### Memory bytes (R20, R411, R414) -/

/-- First addresses of the cycle SRAM, of the engine windows and of the stacked DRAM (R20). -/
def sramBase : Nat := 0x10000000
def windowBase : Nat := 0x20000000
def dramBase : Nat := 0x100000000

/-- The byte at a DRAM offset: the stores that the module keeps stand in their own form, the rest as bytes. -/
def State.dramByte (s : State) (o : Nat) : BitVec 8 :=
  if o < 0x4000000 then
    ((s.imageSlot (o / 8 % 16384) (o / 8 / 16384) >>> (8 * (o % 8))).setWidth 8)
  else if o < 0x4040000 then
    ((s.linkRecord ((o - 0x4000000) / 16)).getD (o / 8 % 2) 0 >>> (8 * (o % 8))).setWidth 8
  else if 0x5080000 ≤ o ∧ o < 0x5FFF000 then
    (((FMap.get LogRec.reset s.log ((o - 0x5080000) / 32)).words.getD (o / 8 % 4) 0) >>> (8 * (o % 8))).setWidth 8
  else if 0x40000000 ≤ o ∧ o < 0x80000000 then
    (s.ringAt (o - 0x40000000)).getD (FMap.get 0 s.mem (dramBase + o))
  else FMap.get 0 s.mem (dramBase + o)

/-- The 8-byte slot at a DRAM offset. -/
def State.dramSlot (s : State) (o : Nat) : BitVec 64 :=
  BitVec.ofNat 64 (leValue ((List.range 8).map (fun i => s.dramByte (o + i))))

/-- Store bytes of the cycle SRAM or of the DRAM at a physical address. -/
def State.putBytes (s : State) (a : Nat) (bs : List (BitVec 8)) : State := { s with mem := FMap.setRange 0 s.mem a bs }

/-- A 32-bit store into the cell image changes one half of a slot (R415); bits [47:41] of a slot stay 0. -/
def State.imageStore (s : State) (o : Nat) (v : BitVec 32) : State :=
  let c := o / 8 % 16384
  let p := o / 8 / 16384
  let e := FMap.get ImagePoint.reset s.image (imageKey c p)
  let x : ImagePoint :=
    if o % 8 < 4 then { e with value := (e.value >>> 32 <<< 32) ||| v.setWidth 40 }
    else { value := (e.value.setWidth 32).setWidth 40 ||| ((v.setWidth 40) <<< 32), valid := v.getLsbD 8, volley := (v >>> 16).setWidth 16 }
  { s with image := FMap.set ImagePoint.reset s.image (imageKey c p) x }

/-- A 32-bit store into the DRAM. Into a store that the module keeps in its own form it has no effect here. -/
def State.dramStore (s : State) (o : Nat) (v : BitVec 32) : State :=
  if o < 0x4000000 then s.imageStore o v
  else if o < 0x4040000 ∨ (0x5080000 ≤ o ∧ o < 0x5FFF000) then s
  else s.putBytes (dramBase + o) (leBytes 4 v.toNat)

end Sys2Proof.Machine
end

