-- ==== Sys2Proof/Machine/HostWire.lean ====
section
/-! DEFINITION. What host software and the module write for one another, byte by byte in little-endian order (R6): descriptors
(R363, R364, R366, R367), program containers (R216), grants (R386, R387), custodian objects (R381, R392, R394, R400),
completion and event records (R368, R371, R372), bulk entries (R374) and data (R367). What only cryptography can tell of bytes
comes with them. -/

namespace Sys2Proof.Machine

/-! ### Fields of bytes -/

/-- The number in `n` bytes from byte `i` on; bytes that are not there are 0. -/
def leAt (bs : List (BitVec 8)) (i n : Nat) : Nat := leValue ((bs.drop i).take n)

/-- Byte `i`. -/
def byteAt (bs : List (BitVec 8)) (i : Nat) : Nat := (bs.getD i 0).toNat

/-- Bytes `lo` to `hi` are 0. -/
def zeroBytes (bs : List (BitVec 8)) (lo hi : Nat) : Bool := leAt bs lo (hi + 1 - lo) == 0

/-- `n` words of 4 bytes from byte `i` on. -/
def leWords32 (bs : List (BitVec 8)) (i : Nat) : Nat → List (BitVec 32)
  | 0 => []
  | n + 1 => BitVec.ofNat 32 (leAt bs i 4) :: leWords32 bs (i + 4) n

/-- `n` data words, each in the low 40 bits of a slot of 8 bytes, from byte `i` on. -/
def leWords40 (bs : List (BitVec 8)) (i : Nat) : Nat → List (BitVec 40)
  | 0 => []
  | n + 1 => BitVec.ofNat 40 (leAt bs i 8) :: leWords40 bs (i + 8) n

/-! ### Containers (R216) -/

/-- A program container. -/
def readContainer (bs : List (BitVec 8)) : Container :=
  let im := leAt bs 24 4
  let dn := leAt bs 28 4
  let whole := bs.length == 64 + 4 * im + 8 * dn
  let c0 := leAt bs 12 4
  { magic := BitVec.ofNat 32 (leAt bs 0 4), fmt := BitVec.ofNat 16 (leAt bs 4 2), standard := bitOf (leAt bs 6 2) 0,
    wellFormed := whole && decide (leAt bs 6 2 < 2) && byteAt bs 35 == 0 && zeroBytes bs 36 63,
    entry := leAt bs 8 4, c0Entry := if c0 = 0xFFFFFFFF then none else some c0, wcetUnits := leAt bs 16 4, c0Units := leAt bs 20 4,
    armsMax := leAt bs 32 2, minStep := BitVec.ofNat 8 (byteAt bs 34),
    imem := if whole then leWords32 bs 64 im else [], dinit := if whole then leWords40 bs (64 + 4 * im) dn else [] }

/-! ### Images (R544) -/

/-- An image, from its header. -/
def readImage (x : ImageRead) : Image :=
  let h := x.header
  { magic := BitVec.ofNat 32 (leAt h 0 4), fmt := BitVec.ofNat 16 (leAt h 4 2),
    resvZero := decide (leAt h 6 2 < 2) && zeroBytes h 33 63 && zeroBytes h 184 191 && (bitOf (byteAt h 6) 0 || zeroBytes h 96 183), enc := bitOf (byteAt h 6) 0,
    version := BitVec.ofNat 32 (leAt h 8 4), setfmt := BitVec.ofNat 16 (leAt h 12 2), tverLo := byteAt h 14, tverHi := byteAt h 15,
    minStep := BitVec.ofNat 16 (leAt h 16 2), rollback := leAt h 18 2, nblk := leAt h 20 4, target := BitVec.ofNat 64 (leAt h 24 8),
    keySlot := byteAt h 32, length := x.length, signerHash := x.signerHash, sigOk := x.sigOk, hashesOk := x.hashesOk,
    wrapOk := x.wrapOk, tagsOk := x.tagsOk, programs := x.programs }

/-! ### Grants (R386, R387) -/

/-- The offsets of a grant that R387 checks first, each with whether its bytes are right: MAGIC, FMT, FLAGS and the reserved bytes. -/
def grantFormat (bs : List (BitVec 8)) : List (Nat × Bool) :=
  [(0, leAt bs 0 4 == 0x96A70001), (4, leAt bs 4 2 == 1), (9, decide (byteAt bs 9 < 2))] ++
    (([10, 11] ++ (List.range 24).map (72 + ·)).map (fun i => (i, byteAt bs i == 0)))

/-- The 208-byte object of SESSION_OPEN; `sigOk` and `secretOk` are what its signature and the key exchange give. -/
def readGrant (bs : List (BitVec 8)) (sigOk secretOk : Bool) : Grant :=
  { formatAt := ((grantFormat bs).find? (fun p => !p.2)).map (·.1), authSlot := byteAt bs 6, sigOk := sigOk, target := BitVec.ofNat 64 (leAt bs 16 8), function := byteAt bs 7, verbs := bs.getD 8 0,
    openedOk := bitOf (byteAt bs 9) 0, grantId := leAt bs 12 4, notBefore := leAt bs 24 8, notAfter := leAt bs 32 8,
    cfgKey := BitVec.ofNat 256 (leAt bs 40 32), secretOk := secretOk, object := bs }

/-! ### Custodian objects (R392, R394, R400) -/

/-- `n` records of 16 words from byte `i` on. -/
def records (bs : List (BitVec 8)) (i : Nat) : Nat → List (List (BitVec 32))
  | 0 => []
  | n + 1 => leWords32 bs i 16 :: records bs (i + 64) n

/-- A custodian object; `x` holds what hashing and verifying give. Sections lie in the body in the order CAP, AUTH, GLOBAL. -/
def readObject (bs : List (BitVec 8)) (x : Checked) : CustObject :=
  let kind := byteAt bs 6
  let len := leAt bs 36 4
  let nsig := leAt bs (64 + len) 4
  let secs := byteAt bs 41
  let cap := kind == 1 && bitOf secs 0
  let auth := kind == 1 && bitOf secs 1
  let glob := kind == 1 && bitOf secs 2
  let at1 := if cap then 16384 else 0
  let at2 := at1 + if auth then 256 else 0
  let body := if kind = 1 then len == at2 + (if glob then 64 else 0) && (!glob || zeroBytes bs (65 + at2) (127 + at2))
    else if kind = 0 then len == 8 + 32 * byteAt bs 64 && zeroBytes bs 66 71 else true
  let header := byteAt bs 7 == 0 && zeroBytes bs 42 63 &&
    (if kind = 0 then zeroBytes bs 16 35 && zeroBytes bs 40 41
     else if kind = 1 then zeroBytes bs 24 31 && decide (secs < 8)
     else if kind = 2 then zeroBytes bs 16 23 && len == 0 && decide (byteAt bs 40 < 2) && secs == 0
     else len == 0 && decide (byteAt bs 40 < 128) && secs == 0)
  let e := fun (k : Nat) => 68 + len + 128 * k
  { kind := kind,
    formatOk := leAt bs 0 4 == 0x5C0B0001 && leAt bs 4 2 == 1 && header && bs.length == 68 + len + 128 * nsig &&
      (List.range nsig).all (fun k => zeroBytes bs (e k + 1) (e k + 31)),
    bodyOk := body, length := 68 + len + 128 * nsig,
    sigs := (List.range (min nsig 6)).map (fun k => ⟨byteAt bs (e k), (x.sigs.getD k (0, false)).1, (x.sigs.getD k (0, false)).2⟩),
    target := BitVec.ofNat 64 (leAt bs 8 8), time0 := leAt bs 16 8, time1 := leAt bs 24 8, serial := leAt bs 32 4,
    move := if kind = 1 then byteAt bs 40 else 0, force := kind == 2 && bitOf (byteAt bs 40) 0, mask := BitVec.ofNat 7 (byteAt bs 40),
    cap := if cap then some (records bs 64 256) else none, auth := if auth then some (records bs (64 + at1) 4) else none,
    tamperAct := if glob then some (byteAt bs (64 + at2)) else none, hash := x.hash,
    provK := byteAt bs 65, provKeys := if kind = 0 then (List.range (min (byteAt bs 64) 6)).map (fun k => x.keys.getD k 0) else [] }

/-! ### Descriptors (R363 to R367, R547) -/

/-- The bytes from 16 on that the body of an opcode uses: first, last and the bits used of each. Every other is reserved (R364). -/
def bodyBytes : Nat → List (Nat × Nat × Nat)
  | 0x01 => [(16, 35, 0xFF), (36, 36, 1)]
  | 0x02 => [(16, 16, 0xFF), (20, 25, 0xFF), (32, 39, 0xFF)]
  | 0x03 => [(16, 19, 0xFF), (24, 35, 0xFF)]
  | 0x04 => [(16, 17, 0xFF), (20, 27, 0xFF)]
  | 0x05 => [(16, 16, 0xFF)]
  | 0x06 => [(16, 17, 0xFF)]
  | 0x10 => [(16, 17, 0xFF), (24, 28, 0xFF)]
  | 0x11 => [(16, 16, 0xFF)]
  | 0x12 => [(16, 19, 0xFF), (24, 28, 0xFF)]
  | 0x20 => [(16, 28, 0xFF), (32, 35, 0xFF)]
  | 0x21 => [(16, 28, 0xFF), (32, 33, 0xFF)]
  | 0x22 => [(16, 28, 0xFF)]
  | 0x23 => [(16, 30, 0xFF)]
  | 0x24 => [(16, 28, 0xFF)]
  | 0x25 => [(16, 27, 0xFF), (28, 28, 1)]
  | 0x26 => [(16, 31, 0xFF), (32, 32, 7)]
  | 0x30 => [(16, 27, 0xFF), (32, 39, 0xFF)]
  | 0x31 => [(16, 27, 0xFF)]
  | 0x32 => [(16, 27, 0xFF)]
  | 0x33 => [(16, 27, 0xFF)]
  | _ => []

/-- The bits of byte `i` of a descriptor that are not reserved: the header, the body of its opcode, and the MAC of AUTH 1. -/
def usedBits (op auth i : Nat) : Nat :=
  if i = 1 then 0x1F else if i < 16 then 0xFF else if auth = 1 ∧ 48 ≤ i then 0xFF
  else (bodyBytes op).foldl (fun a r => if r.1 ≤ i ∧ i ≤ r.2.1 then a ||| r.2.2 else a) 0

/-- The first byte up to 63 with a reserved bit that is not 0. -/
def reservedAt (bs : List (BitVec 8)) : Option Nat :=
  (List.range 64).find? (fun i => byteAt bs i &&& (255 - usedBits (byteAt bs 0) (byteAt bs 1 % 4) i) != 0)

/-- The body of a descriptor with the buffer or object it names (R367). -/
def readBody (bs : List (BitVec 8)) (b : Buffer) : Body :=
  let obj := b.bytes.take (leAt bs 24 4)
  match byteAt bs 0 with
  | 0x00 => .nop
  | 0x01 => .readPoints (leAt bs 16 2) (leAt bs 18 2) (leAt bs 20 2) (leAt bs 22 2) (BitVec.ofNat 64 (leAt bs 24 8)) (leAt bs 32 4) (bitOf (byteAt bs 36) 0)
  | 0x02 => .readReg (byteAt bs 16) (leAt bs 20 4) (leAt bs 24 2) (BitVec.ofNat 64 (leAt bs 32 8))
  | 0x03 => .readLink (leAt bs 16 2) (leAt bs 18 2) (BitVec.ofNat 64 (leAt bs 24 8)) (leAt bs 32 4)
  | 0x04 => .streamOpen (byteAt bs 16) (byteAt bs 17) (BitVec.ofNat 64 (leAt bs 20 8))
  | 0x05 => .streamClose (byteAt bs 16)
  | 0x06 => .sessionClose (BitVec.ofNat 16 (leAt bs 16 2))
  | 0x10 => .setpoint (byteAt bs 16) (byteAt bs 17) (BitVec.ofNat 40 (leAt bs 24 5))
  | 0x11 => .emergencyBlock (bs.getD 16 0)
  | 0x12 => .pointWrite (leAt bs 16 2) (leAt bs 18 2) (BitVec.ofNat 40 (leAt bs 24 5))
  | 0x20 => .cfgWrite (byteAt bs 28) (leAt bs 32 4) (leWords32 obj 0 (obj.length / 4))
  | 0x21 => .cfgDmem (byteAt bs 28) (leAt bs 32 2) (leWords40 obj 0 (obj.length / 8))
  | 0x22 => .ceLoad (byteAt bs 28) (readContainer obj)
  | 0x23 => .cellCtl (leAt bs 28 2) (byteAt bs 30)
  | 0x24 => .blockRelease (bs.getD 28 0)
  | 0x25 => .reset (bitOf (byteAt bs 28) 0)
  | 0x26 => .fwStage (leAt bs 28 4) (bitOf (byteAt bs 32) 0) (bitOf (byteAt bs 32) 1) (bitOf (byteAt bs 32) 2) (readImage b.checked.image)
  | 0x30 => .sessionOpen (BitVec.ofNat 64 (leAt bs 32 8)) (readGrant obj b.checked.sigOk b.checked.secretOk)
  | 0x31 => .policy (readObject obj b.checked)
  | 0x32 => .debugOpen (readObject obj b.checked)
  | 0x33 => .testPermit (readObject obj b.checked)
  | n => .unknown (BitVec.ofNat 8 n)

/-- A descriptor from the bytes of its slots (R363, R364). -/
def readDescr (x : SlotRead) : Descr :=
  let bs := x.bytes
  { body := readBody bs x.buffer, auth := BitVec.ofNat 2 (byteAt bs 1), cirq := bitOf (byteAt bs 1) 2, order := bitOf (byteAt bs 1) 3,
    csup := bitOf (byteAt bs 1) 4, session := BitVec.ofNat 16 (leAt bs 2 2), tag := BitVec.ofNat 32 (leAt bs 4 4),
    seq := BitVec.ofNat 64 (leAt bs 8 8), resvAt := reservedAt bs, bufLen := if 2 ≤ byteAt bs 1 % 4 then leAt bs 24 4 else 0,
    buf := x.read, macOk := x.macOk }

/-- A bulk entry from its 16 bytes: ADDR and LEN (R374). -/
def readBulk (bs : List (BitVec 8)) : BulkEntry := ⟨BitVec.ofNat 64 (leAt bs 0 8), leAt bs 8 4⟩

/-! ### Records the module writes (R368, R371, R372, R374, R388) -/

/-- A completion record. -/
def CplRec.bytes (r : CplRec) : List (BitVec 8) :=
  leBytes 4 r.tag.toNat ++ leBytes 2 r.status.toNat ++ [r.opcode, BitVec.ofNat 8 (r.phase.toNat + 2 * r.stby.toNat)] ++
    leBytes 4 r.tVerify.toNat ++ leBytes 2 r.index.toNat ++ leBytes 2 r.session.toNat ++ leBytes 8 r.result.toNat ++
    leBytes 4 r.volley.toNat ++ leBytes 4 r.detail.toNat

/-- DATA of an event record, bytes 16 to 31. -/
def eventData : EventBody → List (BitVec 8)
  | .writeFail c p k v => leBytes 2 c ++ leBytes 2 p ++ leBytes 4 k ++ leBytes 8 v.toNat
  | .evtLost n w => leBytes 4 n ++ leBytes 4 w ++ leBytes 8 0
  | .block m r c => leBytes 1 m.toNat ++ leBytes 1 r ++ leBytes 2 c ++ leBytes 12 0
  | .release m => leBytes 16 m.toNat
  | .tandem st e => leBytes 2 st ++ leBytes 2 e.toNat ++ leBytes 12 0
  | .program a b e => leBytes 4 a.toNat ++ leBytes 4 b.toNat ++ leBytes 8 e
  | .sessionEnd h r => leBytes 2 h ++ leBytes 14 r
  | .stream h r n => leBytes 1 h ++ leBytes 3 r ++ leBytes 4 n ++ leBytes 8 0
  | .cell c k => leBytes 2 c ++ leBytes 14 k

/-- An event record. -/
def EvtRec.bytes (r : EvtRec) : List (BitVec 8) :=
  leBytes 2 r.body.type ++ [BitVec.ofNat 8 r.phase.toNat, 0] ++ leBytes 4 r.tag.toNat ++ leBytes 4 r.tb3.toNat ++ leBytes 4 r.volley.toNat ++ eventData r.body

/-- Bytes 12 to 15 of a bulk entry as the module writes them back. -/
def BulkRec.bytes (r : BulkRec) : List (BitVec 8) :=
  leBytes 4 (r.used % 2 ^ 24 + r.stream % 8 * 2 ^ 24 + r.last.toNat * 2 ^ 27 + r.phase.toNat * 2 ^ 31)

/-- Data in host memory. -/
def HostData.bytes (d : HostData) : List (BitVec 8) := d.words.flatMap (fun w => leBytes d.size w.toNat)

/-- Entry `i` of ring `r` of function `f` (1 CPL, 2 EVT, 3 BLK) as the module has written it (R360); none where no record stands. -/
def State.ringBytes (s : State) (f r i : Nat) : Option (List (BitVec 8)) :=
  if r = 1 then (FMap.get none s.hostMem.cpl (65536 * f + i)).map CplRec.bytes
  else if r = 2 then (FMap.get none s.hostMem.evt (65536 * f + i)).map EvtRec.bytes
  else (FMap.get none s.hostMem.blk (65536 * f + i)).map BulkRec.bytes

end Sys2Proof.Machine
end

