-- ==== Sys2Proof/Machine/EngineCtl.lean ====
section
/-! DEFINITION. Engines as the module handles them: errors in their memories, demand and admission, loading, enabling,
arm ownership, migration, fences and debug halts (R186, R190, R213 to R220, R225, R295, R399, R526, R528). -/

namespace Sys2Proof.Machine

/-! ### Errors in engine memories (R190, R215) -/

/-- Seconds of TB3. -/
def State.secondsNow (s : State) : Nat := (s.base 3).sec

/-- The times of the last hour. -/
def lastHour (now : Nat) (ts : List Nat) : List Nat := ts.filter (fun t => decide (now < t + 3600))

/-- An uncorrectable data word: rewritten as 0, flagged, yield condition 1; it stops an executing engine. -/
def State.ueccData (s : State) (e a : Nat) : State :=
  let now := s.secondsNow
  let s := (s.putMem e a 0).setEng e (fun g => { g with ueccAt := now :: lastHour now g.ueccAt })
  let s := (s.raise (Fld.CE_EVT_UECC_D e) a).raiseYield 1
  if s.executing e then s.stopEngine e else s

/-- An uncorrectable instruction: as above, and the engine is fenced at the next boundary, with code 3 where no fence is ordered; the
instruction is to be rewritten from the container. -/
def State.ueccInstr (s : State) (e a : Nat) : State :=
  let s := s.setEng e (fun g => { g with imem := FMap.set 0 g.imem (a % 16384) 0, repair := (a % 16384) :: g.repair, fenceWant := some (g.fenceWant.getD 3) })
  let s := (s.raise (Fld.CE_EVT_UECC_I e) a).raiseYield 1
  if s.executing e then s.stopEngine e else s

/-- ENGINE_ECC_SCRUB: an error the scrub or an access finds in instruction or data memory (R190, R215). -/
def execEngineEccScrub (e : Fin 32) (instr : Bool) (addr : Fin 32768) (corrected : Bool) (s : State) : Host.Outcome State Fault Refusal :=
  .next (if corrected then
      let now := s.secondsNow
      (s.bump (Fld.CE_ECC_CORR e)).setEng e (fun g => { g with corrAt := now :: lastHour now g.corrAt })
    else if instr then s.ueccInstr e addr
    else s.ueccData e addr)

/-! ### Demand (R213) -/

/-- Demand in ticks: ceil(16 U / 17). -/
def demandTicks (wcet c0max c0units : Nat) : Nat := ceilDiv (16 * (wcet + (c0max + 1) * c0units)) 17

/-- Demand of a container on engine `e`. -/
def State.demandOf (s : State) (e : Nat) (c : Container) : Nat := demandTicks c.wcetUnits (s.rd (Fld.CE_CFG_C0_MAX e)) c.c0Units

/-- Demand of an engine as loaded. -/
def State.demand (s : State) (e : Nat) : Nat :=
  match (s.eng e).container with | some c => s.demandOf e c | none => 0

/-- The admitted demand: engines in ACTIVE or MIG_SRC, and targets about to hand over (R213). -/
def State.admittedDemand (s : State) : Nat :=
  (List.range 32).foldl (fun d e =>
    let st := s.engState e
    if st = 2 ∨ st = 3 ∨ st = 4 then max d (s.demand e) else d) 0

/-- CE_DEMANDn and CE_GDEMAND. -/
def State.showDemand (s : State) : State :=
  let s := (List.range 32).foldl (fun s e => s.wr (Fld.CE_DEMAND_DEMAND e) (s.demand e)) s
  s.wr Fld.CE_GDEMAND_DEMAND s.admittedDemand

/-- The engines about to become ACTIVE as if they were: their sync regions enter the SHADOW frame (R331). -/
def State.withEnabled (s : State) : State :=
  (List.range 32).foldl (fun s e => if (s.eng e).enable = some true then s.wr (Fld.CE_STAT_STATE e) 2 else s) s

/-- The checks of R145 pass with the demand that a change brings (R145, R213, R331, R417). -/
def State.admits (s : State) (k : State → State) : Bool :=
  let t := (k s).showDemand
  t.withEnabled.fits t.timeline

/-- Make a change when the checks of R145 pass with the demand it brings, else ignore it and set NOFIT (R145, R213, R331, R417). -/
def State.admitDemand (s : State) (k : State → State) : State × Bool :=
  let t := (k s).showDemand
  if s.admits k then (t, true) else (s.refuseFit t.withEnabled t.timeline, false)

/-- The configuration with a further engine of demand `d` in the window. -/
def State.withDemand (s : State) (d : Nat) : State := (s.wr Fld.CE_GDEMAND_DEMAND (max s.admittedDemand d)).withEnabled

/-- The checks of R145 pass with a further engine of demand `d` in the window (R144, R213, R331, R417). -/
def State.demandFits (s : State) (d : Nat) : Bool := (s.withDemand d).fits s.timeline

/-! ### Loading (R216, R217) -/

/-- The ranges of R216. -/
def containerOk (c : Container) : Bool :=
  c.magic == 0xCE400C01 && c.fmt == 1 && c.wellFormed && decide (1 ≤ c.imem.length) && decide (c.imem.length ≤ 16384) &&
    decide (c.entry < c.imem.length) && (match c.c0Entry with | some a => decide (a < c.imem.length) | none => c.c0Units == 0) &&
    decide (1 ≤ c.wcetUnits) && decide (c.wcetUnits ≤ 85000) && decide (c.c0Units ≤ 4096) && decide (c.dinit.length ≤ 23552) &&
    decide (c.armsMax ≤ 4)

/-- Slots and arms of an engine in a register file: slot, VALID and ARM. -/
def ownSlots (r : RegFile) (e : Nat) : List (Nat × Bool × Nat) :=
  [(0, r.get (Fld.CE_ARMOWN_VALID0 e) == 1, r.get (Fld.CE_ARMOWN_ARM0 e)), (1, r.get (Fld.CE_ARMOWN_VALID1 e) == 1, r.get (Fld.CE_ARMOWN_ARM1 e)),
   (2, r.get (Fld.CE_ARMOWN_VALID2 e) == 1, r.get (Fld.CE_ARMOWN_ARM2 e)), (3, r.get (Fld.CE_ARMOWN_VALID3 e) == 1, r.get (Fld.CE_ARMOWN_ARM3 e))]

/-- The slots and arms an engine owns now. -/
def State.ownsNow (s : State) (e : Nat) : List (Nat × Nat) :=
  (ownSlots s.force e).filterMap (fun x => if x.2.1 then some (x.1, x.2.2) else none)

/-- A valid slot, staged or committed, lies at or beyond `m`. -/
def State.ownsBeyond (s : State) (e m : Nat) : Bool :=
  (ownSlots s.force e ++ ownSlots s.regs e).any (fun x => x.2.1 && decide (m ≤ x.1))

/-- A container may be loaded into engine `e` (R216, R217). -/
def State.mayLoad (s : State) (e : Nat) (c : Container) : Bool :=
  containerOk c && decide (c.minStep.toNat ≤ s.stepping) && (s.engState e == 0 || s.engState e == 1) && !s.ownsBeyond e c.armsMax

/-- A list of words as a memory from address `a` on. -/
def memOf {w : Nat} (a : Nat) : List (BitVec w) → FMap (BitVec w) → FMap (BitVec w)
  | [], m => m
  | v :: t, m => memOf (a + 1) t (FMap.set 0 m a v)

/-- Instruction memory, the initial image, every other word 0: the engine holds the container, in state `st`. -/
def State.install (s : State) (e : Nat) (c : Container) (st : Nat) : State :=
  let s := s.setEng e (fun g => { g with container := some c, imem := memOf 0 c.imem [], dmem := memOf 0x2400 c.dinit [], enable := none, committed := [], held := true, staged := [], prevOvr := false })
  s.wrs [(Fld.CE_STAT_STATE e, st), (Fld.CE_CFG_ENABLE e, 0), (Fld.CE_PROG_WCET_UNITS e, c.wcetUnits), (Fld.CE_PROG_C0_UNITS e, c.c0Units),
    (Fld.CE_PROG_LOADED e, 1), (Fld.CE_PROG_STANDARD e, if c.standard then 1 else 0)]

/-- The engine is SPARE again, its memories cleared. -/
def State.uninstall (s : State) (e : Nat) : State :=
  let s := s.setEng e (fun g => { g with container := none, imem := [], dmem := [], enable := none, committed := [], held := true })
  (s.setEngState e 0).wrs [(Fld.CE_PROG_WCET_UNITS e, 0), (Fld.CE_PROG_C0_UNITS e, 0), (Fld.CE_PROG_LOADED e, 0), (Fld.CE_PROG_STANDARD e, 0)]

/-- Load a container that passes R216 and R217 when its demand passes R213: `false` when it does not. -/
def State.loadContainer (s : State) (e : Nat) (c : Container) : State × Bool :=
  if s.demandFits (s.demandOf e c) then ((s.install e c 1).showDemand, true)
  else (s.refuseFit (s.withDemand (s.demandOf e c)) s.timeline, false)

/-- The engine with ENABLE = 1: a LOADED engine becomes ACTIVE at the next boundary. -/
def State.enabling (s : State) (e : Nat) : State :=
  (s.wr (Fld.CE_CFG_ENABLE e) 1).setEng e (fun g => { g with enable := if s.engBelow e = 1 then some true else none })

/-- ENABLE = 1 on an engine that holds a container, checked under R213 in every state: a LOADED engine becomes ACTIVE at the next
boundary. -/
def State.turnOn (s : State) (e : Nat) : State :=
  let u := s.enabling e
  if u.demandFits (s.demand e) then u else s.refuseFit (u.withDemand (s.demand e)) s.timeline

/-- The loads of a start (R217): a container refused leaves its engine SPARE; ENABLE is as the settings left it. -/
def State.startLoads (s : State) (ps : List (Nat × Container)) : State :=
  let s := ps.foldl (fun s p =>
    let on := s.flag (Fld.CE_CFG_ENABLE p.1)
    if s.engState p.1 = 0 ∧ p.1 < 32 ∧ s.mayLoad p.1 p.2 then
      let (s, ok) := s.loadContainer p.1 p.2
      if ok ∧ on then s.turnOn p.1 else s
    else s) s
  (List.range 32).foldl (fun s e => if s.engState e = 0 then s.wr (Fld.CE_CFG_ENABLE e) 0 else s) s

/-! ### ENABLE and ownership (R186, R219, R220) -/

/-- A write of ENABLE (R213, R219). -/
def State.ceEnable (s : State) (e : Nat) (on : Bool) : State :=
  let st := s.engBelow e
  let bad := s.raise Fld.CE_GSTAT_INVALID_WR e
  if st = 3 ∨ st = 4 then bad
  else if on then (if (s.eng e).container.isNone then bad else s.turnOn e)
  else (s.wr (Fld.CE_CFG_ENABLE e) 0).setEng e (fun g => { g with enable := if st = 2 then some false else none })

def execCeEnable (u : Core) (e : Fin 32) (on : Bool) (s : State) : Host.Outcome State Fault Refusal :=
  .next (s.asWriter u 2 (fun s => s.ceEnable e on))

/-- The slots of a CE_ARMOWN word: slot, VALID and ARM. -/
def ownOf (v : Nat) : List (Nat × Bool × Nat) :=
  (List.range 4).map (fun a => (a, bitOf v (8 * a + 7), v / 2 ^ (8 * a) % 64))

/-- The write is refused (R186, R220): an arm beyond 47, a slot beyond ARMS_MAX, an arm named twice or owned by another
engine, staged or in force. -/
def State.ownRefused (s : State) (e v : Nat) : Bool :=
  let own := ownOf v
  let arms := (own.filter (·.2.1)).map (·.2.2)
  let most := match (s.eng e).container with | some c => c.armsMax | none => 0
  own.any (fun x => decide (48 ≤ x.2.2) || (x.2.1 && decide (most ≤ x.1))) || arms.dedup.length != arms.length ||
    (List.range 32).any (fun n => n != e && (ownSlots s.force n ++ ownSlots s.regs n).any (fun x => x.2.1 && arms.contains x.2.2))

/-- A write of CE_ARMOWNn, staged. -/
def State.ceArmown (s : State) (e v : Nat) : State :=
  if s.ownRefused e v then s.raise Fld.CE_GSTAT_INVALID_WR e
  else
    let f := fun (a : Nat) => v / 2 ^ (8 * a) % 64
    let b := fun (a : Nat) => if bitOf v (8 * a + 7) then 1 else 0
    { s.wrs [(Fld.CE_ARMOWN_ARM0 e, f 0), (Fld.CE_ARMOWN_VALID0 e, b 0), (Fld.CE_ARMOWN_ARM1 e, f 1), (Fld.CE_ARMOWN_VALID1 e, b 1),
        (Fld.CE_ARMOWN_ARM2 e, f 2), (Fld.CE_ARMOWN_VALID2 e, b 2), (Fld.CE_ARMOWN_ARM3 e, f 3), (Fld.CE_ARMOWN_VALID3 e, b 3)] with
      seqr := { s.seqr with staged := true } }

def execCeArmownWrite (u : Core) (e : Fin 32) (value : Reg32) (s : State) : Host.Outcome State Fault Refusal :=
  .next (s.asWriter u 2 (fun s => s.ceArmown e value.toNat))

/-! ### Migration (R218) -/

/-- A migration ends without hand-over: the source is ACTIVE again, a COPY = 1 target SPARE with its memories cleared. -/
def State.migFail (s : State) (e : Nat) : State :=
  match (s.eng e).mig with
  | none => s
  | some (t, copy) =>
    let s := ((s.wrs [(Fld.CE_MIG_COPYING e, 0), (Fld.CE_MIG_COPIED e, 0)]).setEng e (fun g => { g with autoMig := false, mig := none })).setEngState e 2
    let s := if copy then s.uninstall t else s.setEngState t 1
    (s.raise (Fld.CE_EVT_MIG_FAIL e) e).showDemand

/-- A migration begins (R218): source MIG_SRC, target MIG_DST, with COPY = 1 the container installed there and the data to be copied. -/
def State.migrating (s : State) (e t : Nat) (copy : Bool) (c : Container) : State :=
  let s := if copy then (s.install t c 4).setEng t (fun g => { g with dmem := [] }) else s.wr (Fld.CE_STAT_STATE t) 4
  (s.wrs [(Fld.CE_STAT_STATE e, 3), (if copy then Fld.CE_MIG_COPYING e else Fld.CE_MIG_COPIED e, 1)]).setEng e (fun g => { g with mig := some (t, copy) })

/-- A write of START: TARGET and COPY as written with it count for the whole migration. -/
def State.migStart (s : State) (e t : Nat) (copy : Bool) : State :=
  let c := (s.eng (if copy then e else t)).container
  match c with
  | none => s.raise (Fld.CE_EVT_MIG_FAIL e) e
  | some c =>
    if s.engState e ≠ 2 ∨ t = e ∨ s.engState t ≠ (if copy then 0 else 1) ∨ (¬ copy ∧ (s.ownsNow e).any (fun x => decide (c.armsMax ≤ x.1))) then
      s.raise (Fld.CE_EVT_MIG_FAIL e) e
    else
      let (s', ok) := s.admitDemand (fun s => s.migrating e t copy c)
      if ok then s' else s'.raise (Fld.CE_EVT_MIG_FAIL e) e

/-- CE_MIGn: TARGET and COPY are stored, and START and ABORT act (R225). -/
def State.migWrite (s : State) (e t : Nat) (copy start abort : Bool) : State :=
  let s := s.wrs [(Fld.CE_MIG_TARGET e, t), (Fld.CE_MIG_COPY e, if copy then 1 else 0)]
  let s := if start then s.migStart e t copy else s
  if abort then s.migFail e else s

def execMigrationStart (u : Core) (e target : Fin 32) (copy : Bool) (s : State) : Host.Outcome State Fault Refusal :=
  .next (s.asWriter u 2 (fun s => s.migWrite e target copy true false))

/-- MIGRATION_COPIED: with its mirror, the target now holds every word of the source. -/
def execMigrationCopied (e : Fin 32) (s : State) : Host.Outcome State Fault Refusal :=
  .next (match (s.eng e).mig with
    | some (t, true) =>
      let d := (s.eng e).dmem
      (s.setEng t (fun g => { g with dmem := d })).wrs [(Fld.CE_MIG_COPYING e, 0), (Fld.CE_MIG_COPIED e, 1)]
    | _ => s)

/-- ABORT before the hand-over (R218). -/
def execMigrationAbort (u : Core) (e : Fin 32) (s : State) : Host.Outcome State Fault Refusal :=
  .next (s.asWriter u 2 (fun s => s.migFail e))

/-- A fence of engine `e` is ordered. -/
def State.fencing (s : State) (e : Nat) : Bool := s.flag (Fld.CE_CTL_FENCE e) || (s.eng e).fenceWant.isSome

/-- MIGRATION_HANDOVER at a boundary: arms, committed outputs and ENABLE pass to the target. -/
def State.handOver (s : State) (e t : Nat) : State :=
  let src := s.eng e
  let pairs := [(Fld.CE_ARMOWN_ARM0 e, Fld.CE_ARMOWN_ARM0 t), (Fld.CE_ARMOWN_VALID0 e, Fld.CE_ARMOWN_VALID0 t), (Fld.CE_ARMOWN_ARM1 e, Fld.CE_ARMOWN_ARM1 t),
    (Fld.CE_ARMOWN_VALID1 e, Fld.CE_ARMOWN_VALID1 t), (Fld.CE_ARMOWN_ARM2 e, Fld.CE_ARMOWN_ARM2 t), (Fld.CE_ARMOWN_VALID2 e, Fld.CE_ARMOWN_VALID2 t),
    (Fld.CE_ARMOWN_ARM3 e, Fld.CE_ARMOWN_ARM3 t), (Fld.CE_ARMOWN_VALID3 e, Fld.CE_ARMOWN_VALID3 t)]
  let s := pairs.foldl (fun (s : State) p => ({ s with
    regs := (s.regs.set p.2 (s.regs.get p.1)).set p.1 0, force := (s.force.set p.2 (s.force.get p.1)).set p.1 0 } : State)) s
  let s := s.setEng t (fun g => { g with committed := src.committed, held := src.held, enable := none, prevOvr := false })
  let s := s.setEng e (fun g => { g with committed := [], held := true, enable := none, prevOvr := false, autoMig := false, mig := none, running := false, hnd := false, prog := none, resumed := false, ended := true, staged := [], fenceWant := if src.autoMig then some (g.fenceWant.getD 4) else g.fenceWant })
  let s := ((s.setEngState t 2).setEngState e 1).showEngine e
  let s := s.wrs [(Fld.CE_CFG_ENABLE t, 1), (Fld.CE_CFG_ENABLE e, 0), (Fld.CE_MIG_COPIED e, 0)]
  s.raise (Fld.CE_EVT_MIG_DONE e) t

/-! ### Fences (R215, R225, R526) -/

/-- The instructions that were rewritten as 0 are rewritten from the stored container (R215). -/
def Engine.repaired (g : Engine) : Engine :=
  let c := (g.container.map (·.imem)).getD []
  { g with repair := [], imem := g.repair.foldl (fun m a => FMap.set 0 m a (c.getD a 0)) g.imem }

/-- Fences of an engine at a boundary: they take effect, or lift to the state its container and ENABLE give. At the boundary after the
one at which a fence for an uncorrectable instruction took effect, the instruction is rewritten and the fence of code 3 is lifted. -/
def State.applyEngineFence (s : State) (e : Nat) : State :=
  let s := if (s.eng e).fenceCause ≠ none then
      s.setEng e (fun g => { g.repaired with fenceWant := if g.fenceCause = some 3 ∧ g.fenceWant = some 3 then none else g.fenceWant })
    else s
  let g := s.eng e
  let want := g.fenceWant
  let now := s.flag (Fld.CE_CTL_FENCE e) || want.isSome
  let was := s.engBelow e == 5
  let s : State := match want, g.fenceCause with
    | some c, none => ((s.logFence 2 e c true).raise Fld.HKP_SVC_EVT_FENCE e)
    | none, some c => s.logFence 2 e c false
    | _, _ => s
  let s := (s.wrBit Fld.HKP_FENCE_CE_ENGINES e want.isSome).setEng e (fun g => { g with fenceCause := want })
  if now ∧ ¬ was then
    let s := s.setEng e (fun g => { g with running := false, hnd := false, prog := none, resumed := false, enable := none, ended := true })
    (s.setEngState e 5).showEngine e
  else if was ∧ ¬ now then
    s.setEngState e (if (s.eng e).container.isNone then 0 else if s.flag (Fld.CE_CFG_ENABLE e) then 2 else 1)
  else s

/-- The engines at a volley boundary: fences end migrations not yet copied, hand-overs, ENABLE, fences, in that order. An ENABLE = 0
written before the START ends such a migration too, and the source becomes LOADED (R219; log 203). -/
def State.enginesAtBoundary (s : State) : State :=
  let es := List.range 32
  let s := es.foldl (fun (s : State) e => match (s.eng e).mig with
    | some (t, _) => if ¬ s.flag (Fld.CE_MIG_COPIED e) ∧ (s.fencing e ∨ s.fencing t ∨ (s.eng e).enable = some false) then s.migFail e else s
    | none => s) s
  let s := es.foldl (fun (s : State) e => match (s.eng e).mig with
    | some (t, _) => if s.flag (Fld.CE_MIG_COPIED e) then s.handOver e t else s
    | none => s) s
  let s := es.foldl (fun s e =>
    match (s.eng e).enable with
    | some on =>
      let s := s.setEng e (fun g => { g with enable := none })
      if on ∧ s.engBelow e = 1 then s.setEngState e 2
      else if ¬ on ∧ s.engBelow e = 2 then ((s.setEng e (fun g => { g with running := false, hnd := false, prog := none })).setEngState e 1).showEngine e
      else s
    | none => s) s
  let order := es.filter (fun e => (s.eng e).fenceWant ≠ none ∨ (s.eng e).fenceCause ≠ none ∨ s.flag (Fld.CE_CTL_FENCE e) ∨ s.engBelow e = 5)
  (order.foldl (fun s e => s.applyEngineFence e) s).showDemand

/-- CE_CTLn.FENCE written (R225); it acts at the next boundary. -/
def State.ceFence (s : State) (e : Nat) (on : Bool) : State := s.wrB (Fld.CE_CTL_FENCE e) on

def execCeHostFence (u : Core) (e : Fin 32) (on : Bool) (s : State) : Host.Outcome State Fault Refusal :=
  .next (s.asWriter u 2 (fun s => s.ceFence e on))

/-- CE_CTLn.CNT_CLR. -/
def State.ceCntClr (s : State) (e : Nat) : State := s.wrs [(Fld.CE_CNT_OVR_CNT e, 0), (Fld.CE_RUN_RUN_MAX e, 0), (Fld.CE_ECC_CORR e, 0)]

def execCeCntClr (u : Core) (e : Fin 32) (s : State) : Host.Outcome State Fault Refusal := .next (s.asWriter u 2 (fun s => s.ceCntClr e))

/-- CE_CTLn.DLMAX_CLR. -/
def execDlmaxClr (u : Core) (e : Fin 32) (s : State) : Host.Outcome State Fault Refusal :=
  .next (s.asWriter u 2 (fun s => s.wr (Fld.CE_DLMAX_MAX_END e) 0))

/-! ### Debug halts (R79, R185, R295, R399) -/

/-- Halt a core or engine by debug: an engine becomes HALTED and executes nothing. -/
def State.haltUnit (s : State) (k : Nat) : State :=
  if s.halted.contains k then s
  else
    let s := { s with halted := s.halted ++ [k] }
    let s := if k < 32 then s
      else
        let e := k - 32
        let st := s.engState e
        (((s.setEng e (fun g => { g with stateWas := st })).wr (Fld.CE_STAT_STATE e) 6).showEngine e).showDemand
    s.lpUpdate

/-- End one debug halt: an engine takes the state it would have without the halt. -/
def State.resumeUnit (s : State) (k : Nat) : State :=
  if ¬ s.halted.contains k then s
  else
    let s := { s with halted := s.halted.filter (· != k) }
    let s := if k < 32 then s
      else
        let e := k - 32
        ((s.wr (Fld.CE_STAT_STATE e) (s.engBelow e)).showEngine e).showDemand
    s.lpUpdate

/-- Core debug of unit `k` is enabled: in OPENED once its zeroisation is verified, and never of SFC0 to SFC3 (units 28 to 31). -/
def State.mayDebug (s : State) (k : Nat) : Bool :=
  s.sec.debug && s.rd Fld.SEC_LC_STATE == 4 && !s.flag Fld.SEC_LC_HOLD && !(decide (28 ≤ k) && decide (k < 32))

/-- DEBUG_HALT: a core (0 to 31) or engine (32 + n) is halted by debug. -/
def execDebugHalt (unit : Fin 64) (s : State) : Host.Outcome State Fault Refusal :=
  .next (if s.mayDebug unit then s.haltUnit unit else s)

/-- DEBUG_HALT_END (R295). -/
def execDebugHaltEnd (unit : Fin 64) (s : State) : Host.Outcome State Fault Refusal := .next (s.resumeUnit unit)

/-- TRAP halts to debug where core debug is enabled, which the model takes as the debug session of R204 (log 148); else it is illegal. -/
def execCeTrap (e : Fin 32) (rd rs1 rs2 : BitVec 4) (s : State) : Host.Outcome State Fault Refusal :=
  .next <|
    if ¬ s.executing e then s
    else if ¬ (rd = 0 ∧ rs1 = 0 ∧ rs2 = 0 ∧ s.mayDebug (32 + e.val)) then s.illegal e
    else (s.setEng e (fun g => g.next.spend 1)).haltUnit (32 + e.val)

end Sys2Proof.Machine
end

