-- ==== Sys2Proof/Machine/Island.lean ====
section
/-! DEFINITION. The safety island (R457 to R482): its cycle, inputs, functions, outputs, lock-outs and deliberate reset, the
parameter set, and the black channel. Times inside the island count samples of 50 us. -/

namespace Sys2Proof.Machine

/-! ### Messages and sets as bytes (R459, R475, R476) -/

/-- One bit of the message CRC: polynomial 0xF4ACFB13, not reflected. -/
def crcSafBit (c : BitVec 32) : BitVec 32 := if c.getLsbD 31 then (c <<< 1) ^^^ 0xF4ACFB13 else c <<< 1

def crcSafByte (c : BitVec 32) (b : BitVec 8) : BitVec 32 :=
  crcSafBit (crcSafBit (crcSafBit (crcSafBit (crcSafBit (crcSafBit (crcSafBit (crcSafBit (c ^^^ (b.setWidth 32 <<< 24)))))))))

/-- The message CRC with `seed` as initial value and no final XOR. -/
def crcSaf (seed : BitVec 32) (bs : List (BitVec 8)) : BitVec 32 := bs.foldl crcSafByte seed

/-- A parameter set (R459). -/
def readSet (bs : List (BitVec 8)) : ParamSet :=
  let crc := BitVec.ofNat 32 (leAt bs 8 4)
  { headerOk := bs.length == 304 && leAt bs 0 4 == 0x5AFE0001 && leAt bs 6 2 == 288 && zeroBytes bs 12 15,
    ver := BitVec.ofNat 16 (leAt bs 4 2), crc := crc, crcOk := crcSaf 0xFFFFFFFF (bs.take 8 ++ bs.drop 16) == crc,
    image := leWords32 bs 16 72 }

/-- The CRC of a message stands behind its data and matches under a seed. -/
def msgCrcOk (seed : BitVec 32) (p : List (BitVec 8)) : Bool :=
  let n := 16 + leAt p 14 2
  decide (n + 4 ≤ p.length) && crcSaf seed (p.take n) == BitVec.ofNat 32 (leAt p n 4)

/-- A message on the parameter channel, whose CRC seed is the low half of the serial, or all ones where that is 0 (R461). -/
def readParam (serial : BitVec 64) (p : List (BitVec 8)) : ParamMsg :=
  let seed := serial.setWidth 32
  { connId := BitVec.ofNat 32 (leAt p 4 4), mtype := p.getD 2 0, len := leAt p 14 2,
    crcOk := msgCrcOk (if seed = 0 then 0xFFFFFFFF else seed) p, wdMs := BitVec.ofNat 16 (leAt p 12 2), seq := BitVec.ofNat 32 (leAt p 8 4),
    set := readSet ((p.drop 16).take (leAt p 14 2)) }

/-- A consumed message from `src` on a connection of the given seed. -/
def readData (seed : BitVec 32) (src : BitVec 48) (p : List (BitVec 8)) : SafetyMsg :=
  { connId := BitVec.ofNat 32 (leAt p 4 4), src := src, mtype := p.getD 2 0, len := leAt p 14 2, crcOk := msgCrcOk seed p,
    wdMs := BitVec.ofNat 16 (leAt p 12 2), byte16 := p.getD 16 0, byte17 := p.getD 17 0, seq := BitVec.ofNat 32 (leAt p 8 4) }

/-- A produced message of connection `c` as it is sent. -/
def State.producedBytes (s : State) (c : Nat) (x : Produced) : List (BitVec 8) :=
  let bs := [2, 1, 1, 0] ++ leBytes 4 (s.rd (Fld.SAF_CONN_ID_CONN_ID c)) ++ leBytes 4 x.seq.toNat ++ leBytes 2 (s.rd (Fld.SAF_CONN_CFG_WD_MS c)) ++
    leBytes 2 12 ++ [x.enable, ~~~x.enable, x.outs, x.flags] ++ leBytes 4 x.crc.toNat ++ leBytes 2 x.ver.toNat ++ [0, 0]
  bs ++ leBytes 4 (crcSaf (BitVec.ofNat 32 (s.rd (Fld.SAF_CONN_SEED_SEED c))) bs).toNat

/-! ### Records -/

def State.land (s : State) (i : Nat) : SafLand := FMap.get SafLand.reset s.saf.lands i
def State.safPair (s : State) (p : Nat) : SafPair := FMap.get SafPair.reset s.saf.pairs p
def State.setPair (s : State) (p : Nat) (f : SafPair → SafPair) : State :=
  { s with saf := { s.saf with pairs := FMap.modify SafPair.reset s.saf.pairs p f } }
def State.safFn (s : State) (f : Nat) : SafFn := FMap.get SafFn.reset s.saf.fns f
def State.setSafFn (s : State) (f : Nat) (k : SafFn → SafFn) : State :=
  { s with saf := { s.saf with fns := FMap.modify SafFn.reset s.saf.fns f k } }
def State.safOut (s : State) (i : Nat) : SafOut := FMap.get SafOut.reset s.saf.outs i
def State.setOut (s : State) (i : Nat) (f : SafOut → SafOut) : State :=
  { s with saf := { s.saf with outs := FMap.modify SafOut.reset s.saf.outs i f } }
def State.safConn (s : State) (c : Nat) : SafConn := FMap.get SafConn.reset s.saf.conns c
def State.setConn (s : State) (c : Nat) (f : SafConn → SafConn) : State :=
  { s with saf := { s.saf with conns := FMap.modify SafConn.reset s.saf.conns c f } }

/-- The island runs: no fault or hold stands (R458). -/
def State.islandRuns (s : State) : Bool := !s.flag Fld.SAF_STAT_ISL_FAULT && !s.flag Fld.SAF_STAT_ISL_HOLD

/-- More than `d` samples have passed since an instant, if there is one. -/
def longer (since : Option Nat) (d now : Nat) : Bool := match since with | some t => decide (t + d < now) | none => false

/-! ### Outputs and lock-outs (R468, R472) -/

def State.outOn (s : State) (i : Nat) : Bool := s.flag (Fld.SAF_SO_STAT_ON i)

/-- Registers of the outputs and functions. -/
def State.showIsland (s : State) : State :=
  let s := (List.range 4).foldl (fun s i =>
    let on := s.outOn i
    let lock := (s.safOut i).locks != []
    ((s.wrBit Fld.SAF_STAT_SO_ON i on).wrBit Fld.SAF_STAT_SO_LOCKOUT i lock).wrB (Fld.SAF_SO_STAT_LOCKOUT i) lock) s
  (List.range 8).foldl (fun s f => s.wrBit Fld.SAF_STAT_FN_ENABLE f (s.safFn f).enable) s

/-- The HS control of an output toggles, driven by channel 1 (R457, R468, R469); else it is static. -/
def State.hsToggles (s : State) (i : Nat) : Bool := s.outOn i && s.rd (Fld.SAF_SO_STAT_TEST i) != 1

/-- The LS control toggles, driven by channel 2. -/
def State.lsToggles (s : State) (i : Nat) : Bool := s.outOn i && s.rd (Fld.SAF_SO_STAT_TEST i) != 2

/-- The read-back R469 expects of the two controls: RBA and RBB. -/
def expectedReadback (hs ls : Bool) : Bool × Bool := (hs, hs && !ls)

/-- Turn an output on or off; a change restarts its read-back check. -/
def State.switchOut (s : State) (i : Nat) (on : Bool) : State :=
  if s.outOn i = on then s
  else
    let now := s.saf.now
    ((s.wrB (Fld.SAF_SO_STAT_ON i) on).wr (Fld.SAF_SO_STAT_TEST i) 0).setOut i (fun o => { o with changed := now, matched := false, bad := none, tested := now })

/-- Lock an output out and turn it off. -/
def State.lockOut (s : State) (i : Nat) (c : LockCause) : State :=
  (s.setOut i (fun o => { o with locks := if o.locks.contains c then o.locks else o.locks ++ [c] })).switchOut i false

/-- The pairs a function names: PAIR_B of TYPE 2 and 3, REQ_PAIR of TYPE 2 (R466, R482). -/
def State.namedPairs (s : State) (f : Nat) : List Nat :=
  let t := s.rd (Fld.SAF_FN_CFG_TYPE f)
  let a := s.rd (Fld.SAF_FN_CFG_PAIR_A f)
  let b := s.rd (Fld.SAF_FN_CFG_PAIR_B f)
  if t = 2 then [a, b, s.rd (Fld.SAF_FN_CFG_REQ_PAIR f)] else if t = 3 then [a, b] else [a]

/-- The function is in use and uses pair `p` (R472, R482). -/
def State.usesPair (s : State) (f p : Nat) : Bool := s.flag (Fld.SAF_FN_CFG_EN f) && (s.namedPairs f).contains p

/-- A pair fault is raised: it latches DEMAND and locks out the outputs that depend on the pair (R464, R472). -/
def State.pairFault (s : State) (p cause : Nat) : State :=
  let s := ((s.setPair p (fun x => { x with fault := some cause, gone := false })).raise Fld.SAF_EVT_PAIR_FAULT p).wrs
    [(Fld.SAF_PAIR_STAT_FAULT p, 1), (Fld.SAF_PAIR_STAT_CAUSE p, cause)]
  (List.range 4).foldl (fun s i =>
    if (List.range 8).any (fun f => bitOf (s.rd (Fld.SAF_SO_CFG_FN_MASK i)) f && s.usesPair f p) then s.lockOut i (.pair p) else s) s

/-! ### Inputs (R462 to R465) -/

/-- One sample of a land under its filter of `filt` x 0.1 ms. -/
def SafLand.sample (l : SafLand) (now filt : Nat) (v : Bool) : SafLand :=
  let l := if v = l.level then l
    else if v = l.taken then { l with level := v, since := now, bounces := now :: l.bounces.filter (fun t => decide (now < t + 20000)) }
    else { l with level := v, since := now }
  if l.level ≠ l.taken ∧ l.since + 2 * filt ≤ now then { l with taken := l.level } else l

/-- One sample of all lands. -/
def State.sampleLands (s : State) (v : BitVec 16) : State :=
  let now := s.saf.now + 1
  let s : State := { s with saf := { s.saf with now := now } }
  (List.range 16).foldl (fun s i =>
    let filt := s.rd (Fld.SAF_PAIR_CFG_FILT (i / 2))
    { s with saf := { s.saf with lands := FMap.modify SafLand.reset s.saf.lands i (fun l => l.sample now filt (v.getLsbD i)) } }) s

/-- A pair is in use: its EN, or for a virtual pair an enabled consumed connection. -/
def State.pairUsed (s : State) (p : Nat) : Bool :=
  if p < 8 then s.flag (Fld.SAF_PAIR_CFG_EN p) else s.flag (Fld.SAF_CONN_CFG_EN (p - 8)) && !s.flag (Fld.SAF_CONN_CFG_DIR (p - 8))

/-- The channels of a pair, true at the operate level. -/
def State.pairLevels (s : State) (p : Nat) : Bool × Bool :=
  if p < 8 then ((s.land (2 * p)).taken, (s.land (2 * p + 1)).taken != s.flag (Fld.SAF_PAIR_CFG_ANTI p))
  else if s.flag (Fld.SAF_CONN_STAT_ALIVE (p - 8)) then ((s.safConn (p - 8)).a, (s.safConn (p - 8)).b) else (false, false)

/-- The lands of a pair have held one level for 1 s. -/
def State.pairQuiet (s : State) (p : Nat) : Bool :=
  [2 * p, 2 * p + 1].all (fun i => decide ((s.land i).since + 20000 ≤ s.saf.now))

/-- A channel of the pair bounced more than CHAT_N times within 1 s (R463). -/
def State.chatters (s : State) (p : Nat) : Bool :=
  decide (p < 8) && [2 * p, 2 * p + 1].any (fun i =>
    decide (s.rd (Fld.SAF_PAIR_CFG_CHAT_N p) < ((s.land i).bounces.filter (fun t => decide (s.saf.now < t + 20000))).length))

/-- One pair in a cycle. -/
def State.pairCycle (s : State) (p : Nat) : State :=
  if ¬ s.pairUsed p then s
  else
    let now := s.saf.now
    let (a, b) := s.pairLevels p
    let cfg := p % 8
    let s := s.wrs [(Fld.SAF_PAIR_STAT_A p, if a then 1 else 0), (Fld.SAF_PAIR_STAT_B p, if b then 1 else 0)]
    let s := s.setPair p (fun x => { x with
      differ := if a = b then none else some (x.differ.getD now), operate := if a ∧ b then some (x.operate.getD now) else none })
    let x := s.safPair p
    let s := match x.fault with
      | some 1 => s.setPair p (fun x => { x with gone := x.gone || (!a && !b) })
      | some 2 => s.setPair p (fun x => { x with gone := s.pairQuiet p })
      | some _ => s.setPair p (fun x => { x with gone := !(a && b) })
      | none =>
        if longer x.differ (20 * s.rd (Fld.SAF_PAIR_CFG_DISC_MS cfg)) now then s.pairFault p 1
        else if s.chatters p then s.pairFault p 2
        else if s.rd (Fld.SAF_PAIR_PLAUS_PLAUS_S cfg) ≠ 0 ∧ longer x.operate (20000 * s.rd (Fld.SAF_PAIR_PLAUS_PLAUS_S cfg)) now then
          s.pairFault p 3
        else s
    s.wrB (Fld.SAF_PAIR_STAT_OPERATE p) (a && b && (s.safPair p).fault.isNone)

/-- A pair is OPERATE. -/
def State.pairOk (s : State) (p : Nat) : Bool := s.flag (Fld.SAF_PAIR_STAT_OPERATE p)

/-! ### Functions (R466, R467) -/

/-- The condition for ENABLE but for the reset. -/
def State.fnCondition (s : State) (f : Nat) : Bool :=
  let a := s.pairOk (s.rd (Fld.SAF_FN_CFG_PAIR_A f))
  if s.rd (Fld.SAF_FN_CFG_TYPE f) = 2 then
    a && s.pairOk (s.rd (Fld.SAF_FN_CFG_PAIR_B f)) && !s.pairOk (s.rd (Fld.SAF_FN_CFG_REQ_PAIR f))
  else a

/-- Two hands (TYPE 3). -/
def SafFn.twoHand (x : SafFn) (now limit : Nat) (a b : Bool) : SafFn :=
  if ¬ a ∧ ¬ b then { x with enable := false, armed := true, first := none }
  else if x.enable then (if a ∧ b then x else { x with enable := false, armed := false, first := none })
  else if ¬ x.armed then x
  else
    let t := x.first.getD now
    if t + limit < now then { x with armed := false, first := none }
    else if a ∧ b then { x with enable := true, armed := false, first := none }
    else { x with first := some t }

/-- The outputs a guard-door function guards are off and read back so (R467). -/
def State.guardedOff (s : State) (f : Nat) : Bool :=
  (List.range 4).all (fun i => !bitOf (s.rd (Fld.SAF_SO_CFG_FN_MASK i)) f ||
    (!s.outOn i && !s.flag (Fld.SAF_SO_STAT_RBA i) && !s.flag (Fld.SAF_SO_STAT_RBB i)))

/-- One function in a cycle. -/
def State.fnCycle (s : State) (f : Nat) : State :=
  if ¬ s.flag (Fld.SAF_FN_CFG_EN f) then s.setSafFn f (fun x => { x with enable := true })
  else if ¬ (s.namedPairs f).all (fun p => s.pairUsed p) then s.setSafFn f (fun x => { x with enable := false, waiting := true })
  else
    let t := s.rd (Fld.SAF_FN_CFG_TYPE f)
    let now := s.saf.now
    if t = 3 then
      let a := s.pairOk (s.rd (Fld.SAF_FN_CFG_PAIR_A f))
      let b := s.pairOk (s.rd (Fld.SAF_FN_CFG_PAIR_B f))
      s.setSafFn f (fun x => x.twoHand now (20 * s.rd (Fld.SAF_FN_TIME_T_MS f)) a b)
    else
      let ok := s.fnCondition f
      let auto := s.flag (Fld.SAF_FN_CFG_AUTO f) && t != 1
      s.setSafFn f (fun x => { x with enable := ok && (auto || !x.waiting), waiting := !ok || (x.waiting && !auto) })

/-- The lock of a guard-door function in a cycle: it turns off with REQ_PAIR at DEMAND, and the time off is watched. -/
def State.guardCycle (s : State) (f : Nat) : State :=
  if s.flag (Fld.SAF_FN_CFG_EN f) ∧ s.rd (Fld.SAF_FN_CFG_TYPE f) = 2 then
    let req := s.pairOk (s.rd (Fld.SAF_FN_CFG_REQ_PAIR f))
    let off := s.guardedOff f
    let now := s.saf.now
    s.setSafFn f (fun x => { x with unlock := x.unlock && req, offFrom := if off then some (x.offFrom.getD now) else none })
  else s.setSafFn f (fun x => { x with unlock := false, offFrom := none })

/-- What calls for output `i` to be on (R468). -/
def State.outWanted (s : State) (i : Nat) : Bool :=
  s.flag (Fld.SAF_SO_CFG_EN i) && (s.safOut i).locks == [] &&
  (if s.flag (Fld.SAF_SO_CFG_LOCK i) then
    (List.range 8).any (fun f => s.rd (Fld.SAF_FN_CFG_LOCK_SO f) == i && (s.safFn f).unlock && s.pairOk (s.rd (Fld.SAF_FN_CFG_REQ_PAIR f)))
  else (List.range 8).all (fun f => !bitOf (s.rd (Fld.SAF_SO_CFG_FN_MASK i)) f || (s.safFn f).enable))

/-- The read-back of an output matches its row (R469). -/
def State.rowMatches (s : State) (i : Nat) : Bool :=
  (s.flag (Fld.SAF_SO_STAT_RBA i), s.flag (Fld.SAF_SO_STAT_RBB i)) == expectedReadback (s.hsToggles i) (s.lsToggles i)

/-- One output in a cycle: its read-back is watched, then it takes its state. -/
def State.outCycle (s : State) (rb : BitVec 8) (i : Nat) : State :=
  let now := s.saf.now
  let s := s.wrs [(Fld.SAF_SO_STAT_RBA i, if rb.getLsbD i then 1 else 0), (Fld.SAF_SO_STAT_RBB i, if rb.getLsbD (4 + i) then 1 else 0)]
  let s := if s.rd (Fld.SAF_SO_STAT_TEST i) ≠ 0 then s
    else if s.rowMatches i then s.setOut i (fun o => { o with matched := true, bad := none })
    else s.setOut i (fun o => { o with bad := some (o.bad.getD now) })
  s.switchOut i (s.outWanted i)

/-- SAFETY_CYCLE: the five samples of the lands, the read-back of the outputs (RBA in [3:0], RBB in [7:4]), the level of
SRST_IN, and whether the channels' images agree (R457, R458). -/
def execSafetyCycle (samples : List (BitVec 16)) (rb : BitVec 8) (srstLow agree : Bool) (s : State) : Host.Outcome State Fault Refusal :=
  .next (if ¬ s.islandRuns then s
  else
    let s := (s.wrB Fld.SAF_STAT_SRST_LOW srstLow)
    let s : State := { s with saf := { s.saf with
      differ := if agree then 0 else s.saf.differ + 1, lowFrom := if srstLow then some (s.saf.lowFrom.getD s.saf.now) else none } }
    let s := samples.foldl (fun s v => s.sampleLands v) s
    if ¬ s.flag Fld.SAF_STAT_PSET_OK then s
    else
      let s := (List.range 16).foldl (fun s p => s.pairCycle p) s
      let s := (List.range 8).foldl (fun s f => s.fnCycle f) s
      let s := (List.range 4).foldl (fun s i => s.outCycle rb i) s
      ((List.range 8).foldl (fun s f => s.guardCycle f) s).showIsland)

/-- GUARD_LOCK_RELEASE (R467). -/
def execGuardLockRelease (fn : Fin 8) (s : State) : Host.Outcome State Fault Refusal :=
  let f : Nat := fn
  .next (if s.islandRuns ∧ s.flag Fld.SAF_STAT_PSET_OK ∧ s.flag (Fld.SAF_FN_CFG_EN f) ∧ s.rd (Fld.SAF_FN_CFG_TYPE f) = 2 ∧
      s.pairOk (s.rd (Fld.SAF_FN_CFG_REQ_PAIR f)) ∧
      longer (s.safFn f).offFrom (20 * s.rd (Fld.SAF_FN_TIME_T_MS f)) (s.saf.now + 1) then
    let s := s.setSafFn f (fun x => { x with unlock := true })
    let i := s.rd (Fld.SAF_FN_CFG_LOCK_SO f)
    (s.switchOut i (s.outWanted i)).showIsland
  else s)

/-! ### Off-pulse tests and read-back (R470, R471) -/

/-- OFF_PULSE_TEST: 250 ms after an output was turned on or last tested its next switch is tested. -/
def execOffPulseTest (out : Fin 4) (s : State) : Host.Outcome State Fault Refusal :=
  let i : Nat := out
  .next (if s.islandRuns ∧ s.outOn i ∧ s.rd (Fld.SAF_SO_STAT_TEST i) = 0 ∧ (s.safOut i).tested + 5000 ≤ s.saf.now then
    (s.wr (Fld.SAF_SO_STAT_TEST i) (if (s.safOut i).lowNext then 2 else 1)).setOut i (fun o => { o with lowNext := !o.lowNext, tested := s.saf.now, pulseAt := s.nowTick })
  else s)

/-- A fault of an output: flagged, and locked out. -/
def State.outFault (s : State) (i cause : Nat) : State :=
  ((((s.raise Fld.SAF_EVT_SO_FAULT i).wr (Fld.SAF_SO_STAT_FCAUSE i) cause).setOut i (fun o => { o with faultAt := s.saf.now })).lockOut i .output).showIsland

/-- The last 5 us of the off pulse have come (R470). -/
def State.pulseEnds (s : State) (i : Nat) : Bool := decide ((s.safOut i).pulseAt + (s.rd (Fld.SAF_SO_CFG_OPT_US i) - 5) * 800 ≤ s.nowTick)

/-- OFF_PULSE_SAMPLE: the read-back in the last 5 us of the pulse (R469, R470). -/
def execOffPulseSample (out : Fin 4) (rba rbb : Bool) (s : State) : Host.Outcome State Fault Refusal :=
  let i : Nat := out
  let t := s.rd (Fld.SAF_SO_STAT_TEST i)
  .next (if ¬ s.islandRuns ∨ t = 0 ∨ ¬ s.pulseEnds i then s
  else
    let s := s.wrs [(Fld.SAF_SO_STAT_RBA i, if rba then 1 else 0), (Fld.SAF_SO_STAT_RBB i, if rbb then 1 else 0)]
    let ok := s.rowMatches i
    let s := s.wr (Fld.SAF_SO_STAT_TEST i) 0
    if ok then s else s.outFault i (t + 1))

/-- READBACK_FAULT: no match within RB_MS of a change, or a mismatch of more than 1 ms after one. -/
def execReadbackFault (out : Fin 4) (s : State) : Host.Outcome State Fault Refusal :=
  let i : Nat := out
  let o := s.safOut i
  let late := if o.matched then longer o.bad 20 s.saf.now
    else o.bad.isSome && decide (o.changed + 20 * s.rd (Fld.SAF_SO_CFG_RB_MS i) < s.saf.now)
  .next (if s.islandRuns ∧ s.flag Fld.SAF_STAT_PSET_OK ∧ late then s.outFault i 1 else s)

/-! ### Island faults (R458) -/

/-- An island fault: every output off and locked out; the third in 24 h holds the island until a cold reset. -/
def State.islandFault (s : State) (cause : IslandCause) : State :=
  if ¬ s.islandRuns ∨ (cause = .cross ∧ s.saf.differ < 3) then s
  else
    let now := s.secondsNow
    let s := match cause with
      | .lockstep => s.raise Fld.SAF_EVT_LOCKSTEP
      | .cross => s.raise Fld.SAF_EVT_CROSS
      | .clock => s.raise Fld.SAF_EVT_CLOCK
      | .vsaf => s.raise Fld.SAF_EVT_VSAF
      | .ecc => s
    let faults := now :: s.saf.faults.filter (fun t => decide (now < t + 86400))
    let s : State := { s with saf := { s.saf with faults := faults, differ := 0, faultAt := s.nowTick, vsaf := cause == .vsaf } }
    let s := (List.range 4).foldl (fun s i => s.lockOut i .island) s
    (s.wrs [(Fld.SAF_STAT_ISL_FAULT, 1), (Fld.SAF_STAT_ISL_HOLD, if 3 ≤ faults.length then 1 else 0)]).showIsland

def execIslandFault (cause : IslandCause) (s : State) : Host.Outcome State Fault Refusal := .next (s.islandFault cause)

/-- ISLAND_RESTART, 100 ms after the fault, or after one of VSAF once that has been back in its window for 10 ms (R458): the set in force stands; functions wait for a reset, and sequence numbers begin again. -/
def execIslandRestart (s : State) : Host.Outcome State Fault Refusal :=
  .next (if s.flag Fld.SAF_STAT_ISL_FAULT ∧ ¬ s.flag Fld.SAF_STAT_ISL_HOLD ∧ (s.saf.vsaf ∨ s.saf.faultAt + 80000000 ≤ s.nowTick) then
    let s := (s.wr Fld.SAF_STAT_ISL_FAULT 0).bump Fld.SAF_CNT_ISLRST_CNT
    let s : State := { s with saf := { s.saf with fns := [], lands := [], paramSeq := none, ignore := false, conns := FMap.mapVals SafConn.reset (fun _ (c : SafConn) => { c with seq := none }) s.saf.conns } }
    let s := (List.range 8).foldl (fun s c => s.wr (Fld.SAF_CONN_STAT_ALIVE c) 0) s
    s.showIsland
  else s)

/-! ### The parameter set (R459 to R461) -/

/-- Write a whole word over the fields of the register at an address, whatever their access. -/
def State.loadWord (s : State) (addr v : Nat) : State :=
  match findReg regTable addr with
  | some (d, i, j) => d.fields.foldl (fun s fd => s.wr (fd.fld i j) (v / 2 ^ (fd.fld i j).lsb % 2 ^ (fd.fld i j).width)) s
  | none => s

/-- The image of a set in the configuration registers. -/
def State.loadImage (s : State) (ws : List (BitVec 32)) : State :=
  (ws.zipIdx).foldl (fun s x => s.loadWord (0x8500100 + 4 * x.2) x.1.toNat) s

/-- Every enabled field of the configuration registers lies in its range (R467, R474, R482). -/
def State.imageOk (s : State) : Bool :=
  let inR := fun (f : Field) (lo hi : Nat) => decide (lo ≤ s.rd f) && decide (s.rd f ≤ hi)
  (List.range 8).all (fun p => !s.flag (Fld.SAF_PAIR_CFG_EN p) ||
    (inR (Fld.SAF_PAIR_CFG_FILT p) 1 255 && inR (Fld.SAF_PAIR_CFG_DISC_MS p) 10 1000 && inR (Fld.SAF_PAIR_CFG_CHAT_N p) 1 15)) &&
  (List.range 8).all (fun f => !s.flag (Fld.SAF_FN_CFG_EN f) ||
    (inR (Fld.SAF_FN_CFG_TYPE f) 1 4 &&
     (s.rd (Fld.SAF_FN_CFG_TYPE f) != 2 || (inR (Fld.SAF_FN_TIME_T_MS f) 100 65535 && s.flag (Fld.SAF_SO_CFG_LOCK (s.rd (Fld.SAF_FN_CFG_LOCK_SO f))))) &&
     (s.rd (Fld.SAF_FN_CFG_TYPE f) != 3 || inR (Fld.SAF_FN_TIME_T_MS f) 1 500))) &&
  (List.range 4).all (fun i => !s.flag (Fld.SAF_SO_CFG_EN i) || (inR (Fld.SAF_SO_CFG_OPT_US i) 20 120 && inR (Fld.SAF_SO_CFG_RB_MS i) 1 50)) &&
  (List.range 8).all (fun c => !s.flag (Fld.SAF_CONN_CFG_EN c) ||
    (s.rd (Fld.SAF_CONN_ID_CONN_ID c) != 0 && s.rd (Fld.SAF_CONN_SEED_SEED c) != 0 && inR (Fld.SAF_CONN_CFG_WD_MS c) 1 1000))

/-- Adopt a set that passes R459, or refuse it whole. -/
def State.adoptSet (s : State) (p : ParamSet) : State :=
  let t := (s.resetRange 0x8500100 0x8500220).loadImage p.image
  if ¬ (p.headerOk ∧ p.crcOk ∧ p.image.length = 72 ∧ t.imageOk) then s.raise Fld.SAF_EVT_PSET_BAD
  else
    let t := t.wrs [(Fld.SAF_STAT_PSET_OK, 1), (Fld.SAF_PSET_VER, p.ver.toNat), (Fld.SAF_PSET_CRC_CRC, p.crc.toNat)]
    -- A connection that the set enables begins anew (R476).
    let fresh := fun (c : Nat) => !s.flag (Fld.SAF_CONN_CFG_EN c)
    let t := (List.range 8).foldl (fun (t : State) c => if fresh c then t.wr (Fld.SAF_CONN_STAT_ALIVE c) 0 else t) t
    ({ t with saf := { t.saf with inForce := some p, fns := [], conns := FMap.mapVals SafConn.reset (fun c x => if fresh c then SafConn.reset else x) t.saf.conns } } : State)

/-- The 304 bytes of a set (R459). -/
def paramBytes (p : ParamSet) : List (BitVec 8) :=
  leBytes 4 0x5AFE0001 ++ leBytes 2 p.ver.toNat ++ leBytes 2 288 ++ leBytes 4 p.crc.toNat ++ leBytes 4 0 ++ p.image.flatMap (fun w => leBytes 4 w.toNat)

/-- The stored set at a start: MGC0 places it in the offer area, and the island adopts it (R460). -/
def State.offeredSet (s : State) (p : Option ParamSet) : State :=
  match p with
  | some p => (s.putBytes (dramBase + 0x5FFF000) (paramBytes p)).adoptSet p
  | none => s

/-- At most 8,000 safety messages in a second of TB3 are taken (R476). -/
def State.countMsg (s : State) : State × Bool :=
  let sec := s.secondsNow
  let n := if s.saf.msgSec = sec then s.saf.msgCount + 1 else 1
  ({ s with saf := { s.saf with msgSec := sec, msgCount := n } }, decide (n ≤ 8000))

/-- A message is discarded. -/
def State.msgBad (s : State) : State := (s.bump Fld.SAF_CNT_MSGBAD_CNT).raise Fld.SAF_EVT_MSG_BAD

/-- The sequence rule: the first message, or 1 to 65,535 ahead of the last accepted. -/
def seqOk (last : Option (BitVec 32)) (q : BitVec 32) : Bool :=
  match last with
  | none => true
  | some l => decide (1 ≤ (q - l).toNat) && decide ((q - l).toNat ≤ 65535)

/-- PARAM_MESSAGE (R460, R461). -/
def execParamMessage (payload : List (BitVec 8)) (s : State) : Host.Outcome State Fault Refusal :=
  let m := readParam s.serial payload
  .next (if ¬ s.islandRuns then s
  else
    let (s, room) := s.countMsg
    if room ∧ m.connId = 0 ∧ m.mtype = 2 ∧ m.len = 304 ∧ m.crcOk ∧ m.wdMs = 0 ∧ seqOk s.saf.paramSeq m.seq ∧ s.rd Fld.SAF_STAT_SO_ON = 0 then
      let s := s.wrs [(Fld.SAF_STAT_PSET_PEND, 1), (Fld.SAF_PEND_CRC_CRC, m.set.crc.toNat)]
      { s with saf := { s.saf with pend := some m.set, paramSeq := some m.seq, pendAt := s.saf.now } }
    else s.msgBad)

/-- No set is pending any more. -/
def State.dropPending (s : State) : State :=
  { s.wrs [(Fld.SAF_STAT_PSET_PEND, 0), (Fld.SAF_PEND_CRC_CRC, 0)] with saf := { s.saf with pend := none } }

/-- 60 s have passed since the pending set came (R460). -/
def State.pendingOld (s : State) : Bool := decide (s.saf.pendAt + 1200000 ≤ s.saf.now)

/-- PENDING_SET_DISCARD: 60 s without a deliberate reset (R460). -/
def execPendingSetDiscard (s : State) : Host.Outcome State Fault Refusal :=
  .next (if s.saf.pend.isSome ∧ s.pendingOld then s.dropPending else s)

/-! ### Deliberate reset (R473) -/

/-- The cause of a lock-out is gone. -/
def State.lockGone (s : State) (i : Nat) : LockCause → Bool
  | .island => !s.flag Fld.SAF_STAT_ISL_FAULT
  | .pair p => (s.safPair p).gone
  -- A fault raised in the cycle of the edge stands (R473).
  | .output => !s.flag (Fld.SAF_SO_STAT_RBA i) && !s.flag (Fld.SAF_SO_STAT_RBB i) && (s.safOut i).faultAt != s.saf.now
  | .reset => s.saf.inForce.isSome

/-- Clear the lock-outs of an output whose cause is gone; each that stands is counted (R473). -/
def State.clearLocks (s : State) (i : Nat) : State :=
  let keep := (s.safOut i).locks.filter (fun c => !s.lockGone i c)
  let s := s.setOut i (fun o => { o with locks := keep })
  let s := if keep.contains .output then s else s.wr (Fld.SAF_SO_STAT_FCAUSE i) 0
  if keep = [] then s else s.bump Fld.SAF_CNT_SRSTIGN_CNT keep.length

/-- A pair fault whose cause is gone ends. -/
def State.clearPair (s : State) (p : Nat) : State :=
  if (s.safPair p).fault.isSome ∧ (s.safPair p).gone then
    let s := (s.setPair p (fun x => { x with fault := none, gone := false })).wrs [(Fld.SAF_PAIR_STAT_FAULT p, 0), (Fld.SAF_PAIR_STAT_CAUSE p, 0)]
    s.wrB (Fld.SAF_PAIR_STAT_OPERATE p) (s.flag (Fld.SAF_PAIR_STAT_A p) && s.flag (Fld.SAF_PAIR_STAT_B p))
  else s

/-- The deliberate reset itself. -/
def State.deliberate (s : State) : State :=
  let s := if s.saf.pend.isSome ∧ s.pendingOld then s.dropPending else s
  match s.saf.pend with
  | some p =>
    let was := s.saf.inForce
    let s := s.dropPending.adoptSet p
    if s.saf.inForce = some p ∧ was ≠ some p then s.saveSettings else s
  | none =>
    let s := (List.range 4).foldl (fun s i => s.clearLocks i) s
    let s := (List.range 16).foldl (fun s p => s.clearPair p) s
    let s := (List.range 8).foldl (fun s f =>
      if s.flag (Fld.SAF_FN_CFG_EN f) ∧ s.rd (Fld.SAF_FN_CFG_TYPE f) ≠ 3 ∧ (s.safFn f).waiting ∧ s.fnCondition f ∧ (s.namedPairs f).all (fun p => s.pairUsed p) then
        s.setSafFn f (fun x => { x with waiting := false, enable := true }) else s) s
    (s.resetRange 0x8500004 0x8500008).showIsland

/-- DELIBERATE_RESET: a falling edge of the filtered SRST_IN after it was high for `highMs`. -/
def execDeliberateReset (highMs : Nat) (s : State) : Host.Outcome State Fault Refusal :=
  .next (if ¬ s.islandRuns then s
  else
    let s : State := { s.wr Fld.SAF_STAT_SRST_LOW 1 with saf := { s.saf with lowFrom := some (s.saf.lowFrom.getD s.saf.now) } }
    if s.saf.ignore then { s with saf := { s.saf with ignore := false } }
    else if highMs < 200 then (s.raise Fld.SAF_EVT_SRST_IGN).bump Fld.SAF_CNT_SRSTIGN_CNT
    else s.deliberate)

/-- SRST_STUCK: SRST_IN low for more than 5 s; the next falling edge is ignored. -/
def execSrstStuck (s : State) : Host.Outcome State Fault Refusal :=
  .next (if s.islandRuns ∧ s.flag Fld.SAF_STAT_SRST_LOW ∧ longer s.saf.lowFrom 100000 s.saf.now then
    ({ s with saf := { s.saf with ignore := true } } : State).raise Fld.SAF_EVT_SRST_STUCK else s)

/-! ### The black channel (R474 to R477) -/

/-- The enabled consumed connection with an identity. -/
def State.connOf (s : State) (id : BitVec 32) : Option Nat :=
  (List.range 8).find? (fun c => s.flag (Fld.SAF_CONN_CFG_EN c) && !s.flag (Fld.SAF_CONN_CFG_DIR c) && s.rd (Fld.SAF_CONN_ID_CONN_ID c) == id.toNat)

/-- Every other check of R476. -/
def State.dataOk (s : State) (c : Nat) (port : Nat) (m : SafetyMsg) : Bool :=
  bitOf (s.rd (Fld.SAF_CONN_CFG_PORTS c)) port && s.rd (Fld.SAF_CONN_MAC_LO_MAC c) + 2 ^ 32 * s.rd (Fld.SAF_CONN_CFG_MAC_HI c) == m.src.toNat &&
    m.mtype == 1 && m.len == 8 && m.crcOk && m.wdMs.toNat == s.rd (Fld.SAF_CONN_CFG_WD_MS c) && m.byte17 == ~~~m.byte16 &&
    seqOk (s.safConn c).seq m.seq

/-- DATA_MESSAGE (R476). -/
def execDataMessage (port : Fin 4) (src : BitVec 48) (payload : List (BitVec 8)) (s : State) : Host.Outcome State Fault Refusal :=
  .next (if ¬ s.islandRuns then s
  else
    let (s, room) := s.countMsg
    match (if room then s.connOf (BitVec.ofNat 32 (leAt payload 4 4)) else none) with
    | none => s.msgBad
    | some c =>
      let m := readData (BitVec.ofNat 32 (s.rd (Fld.SAF_CONN_SEED_SEED c))) src payload
      if s.dataOk c port m then
        (s.setConn c (fun x => { x with a := m.byte16.getLsbD 0, b := m.byte16.getLsbD 1, seq := some m.seq, at' := s.saf.now })).wrs
          [(Fld.SAF_CONN_SEQ_SEQ c, m.seq.toNat), (Fld.SAF_CONN_STAT_ALIVE c, 1)]
      else s.msgBad)

/-- CONNECTION_TIMEOUT: WD_MS without an accepted message (R477). -/
def execConnectionTimeout (conn : Fin 8) (s : State) : Host.Outcome State Fault Refusal :=
  .next (if s.islandRuns ∧ s.flag (Fld.SAF_CONN_CFG_EN conn) ∧ ¬ s.flag (Fld.SAF_CONN_CFG_DIR conn) ∧ s.flag (Fld.SAF_CONN_STAT_ALIVE conn) ∧
      (s.safConn conn).at' + 20 * s.rd (Fld.SAF_CONN_CFG_WD_MS conn) < s.saf.now then
    ((s.wr (Fld.SAF_CONN_STAT_ALIVE conn) 0).raise Fld.SAF_EVT_CONN_TMO conn).bump (Fld.SAF_CONN_STAT_TMO conn) else s)

/-- A quarter of WD_MS has passed since a produced connection last sent (R474). -/
def State.sendDue (s : State) (c : Nat) : Bool :=
  (s.safConn c).seq.isNone || decide ((s.safConn c).at' + 20 * max 1 (s.rd (Fld.SAF_CONN_CFG_WD_MS c) / 4) ≤ s.saf.now)

/-- PRODUCED_MESSAGE_SEND (R474, R475). -/
def execProducedMessageSend (conn : Fin 8) (s : State) : Host.Outcome State Fault Refusal :=
  let c : Nat := conn
  .next (if s.islandRuns ∧ s.flag (Fld.SAF_CONN_CFG_EN c) ∧ s.flag (Fld.SAF_CONN_CFG_DIR c) ∧ s.sendDue c then
    let q := match (s.safConn c).seq with | some q => q + 1 | none => 1
    let p : Produced := ⟨q, BitVec.ofNat 8 (s.rd Fld.SAF_STAT_FN_ENABLE), BitVec.ofNat 8 (s.rd Fld.SAF_STAT_SO_ON + 16 * s.rd Fld.SAF_STAT_SO_LOCKOUT),
      BitVec.ofNat 8 (s.rd Fld.SAF_STAT_PSET_OK + 2 * s.rd Fld.SAF_STAT_ISL_FAULT), BitVec.ofNat 32 (s.rd Fld.SAF_PSET_CRC_CRC),
      BitVec.ofNat 16 (s.rd Fld.SAF_PSET_VER)⟩
    let s := (s.setConn c (fun x => { x with seq := some q, at' := s.saf.now })).wrs [(Fld.SAF_CONN_SEQ_SEQ c, q.toNat), (Fld.SAF_CONN_STAT_ALIVE c, 1)]
    { s with saf := { s.saf with sent := FMap.set none s.saf.sent c (some p) } }
  else s)

end Sys2Proof.Machine
end

