-- ==== Sys2Proof/Machine/Power.lean ====
section
/-! DEFINITION. Feeds, rails and temperatures (R38 to R59). The live fields of HKP_FEED_STAT are the state of
the feeds themselves: usable, and switch closed. -/

namespace Sys2Proof.Machine

def feedOk : Feed → Field
  | .a => Fld.HKP_FEED_STAT_A_OK | .b => Fld.HKP_FEED_STAT_B_OK
def feedCarry : Feed → Field
  | .a => Fld.HKP_FEED_STAT_A_CARRY | .b => Fld.HKP_FEED_STAT_B_CARRY
def feedLow : Feed → Field
  | .a => Fld.HKP_FEED_STAT_A_LOW | .b => Fld.HKP_FEED_STAT_B_LOW
def feedOv : Feed → Field
  | .a => Fld.HKP_FEED_STAT_A_OV | .b => Fld.HKP_FEED_STAT_B_OV
def feedRev : Feed → Field
  | .a => Fld.HKP_FEED_STAT_A_REV | .b => Fld.HKP_FEED_STAT_B_REV
def otherFeed : Feed → Feed
  | .a => .b | .b => .a
/-- 0 for PWR_A, 1 for PWR_B: the detail of a feed event. -/
def feedNum : Feed → Nat
  | .a => 0 | .b => 1

/-! ### The feeds (R38 to R40) -/

def State.feed (s : State) (f : Feed) : FeedUnit := FMap.get FeedUnit.reset s.feeds (feedNum f)
def State.setFeed (s : State) (f : Feed) (k : FeedUnit → FeedUnit) : State :=
  { s with feeds := FMap.modify FeedUnit.reset s.feeds (feedNum f) k }

/-- The feed is usable: above its threshold and not in over-voltage (R39). -/
def FeedUnit.usable (x : FeedUnit) : Bool := x.up && !x.ov

/-- The feed's switch may be closed: usable, and not held open by a reverse-current trip (R39, R40). -/
def FeedUnit.closable (x : FeedUnit) : Bool := x.usable && !x.trip

/-- The switch conducts: of two feeds that may carry, the higher does, and both within 30 mV of each other (R38). -/
def State.conducts (s : State) (f : Feed) : Bool :=
  (s.feed f).closable && (!(s.feed (otherFeed f)).closable || decide ((s.feed (otherFeed f)).mv ≤ (s.feed f).mv + 30))

/-- The OK and CARRY fields of HKP_FEED_STAT follow the feeds (R54). -/
def State.feedBits (s : State) : State :=
  [Feed.a, Feed.b].foldl (fun (s : State) f => (s.wrB (feedOk f) (s.feed f).usable).wrB (feedCarry f) (s.conducts f)) s

/-- Exactly one feed is usable. -/
def State.oneFeed (s : State) : Bool := (s.feed .a).usable != (s.feed .b).usable

/-- The live fields of HKP_FEED_STAT follow the feeds; the rise of SINGLE is an event when EVT_SINGLE is set (R54, R56). The
register gives SINGLE no flag of its own, so the event is a history entry at its place. -/
def State.showFeeds (s : State) : State :=
  let s := s.feedBits
  let was := s.flag Fld.HKP_FEED_STAT_SINGLE
  if s.oneFeed ∧ !was ∧ s.flag Fld.HKP_FEED_CFG_EVT_SINGLE then s.raise Fld.HKP_FEED_STAT_SINGLE
  else s.wrB Fld.HKP_FEED_STAT_SINGLE s.oneFeed

/-- FEED_USABLE: a feed of `mv` mV has been above 2.65 V for 100 us. It is usable unless it is in over-voltage (R39). -/
def execFeedUsable (f : Feed) (mv : BitVec 16) (s : State) : Host.Outcome State Fault Refusal :=
  .next (s.setFeed f (fun x => { x with up := true, mv := mv.toNat })).showFeeds

/-- A feed below WARN_MV sets A_LOW or B_LOW (R39). -/
def execFeedWarning (f : Feed) (mv : BitVec 16) (s : State) : Host.Outcome State Fault Refusal :=
  .next ((s.setFeed f (fun x => { x with mv := mv.toNat })).showFeeds.raiseIf (decide (mv.toNat < s.rd Fld.HKP_FEED_CFG_WARN_MV))
    (feedLow f) (feedNum f))

/-- A feed lost: its switch opens, it is no longer usable, and a usable other feed takes the load (R39, R40, R42). -/
def execFeedLost (f : Feed) (s : State) : Host.Outcome State Fault Refusal :=
  .next (s.setFeed f (fun x => { x with up := false })).showFeeds

/-- Over-voltage opens the switch and sets the OV flag; the feed is not usable (R39). -/
def execFeedOverVoltage (f : Feed) (s : State) : Host.Outcome State Fault Refusal :=
  .next ((s.setFeed f (fun x => { x with ov := true })).showFeeds.raise (feedOv f) (feedNum f))

/-- 100 ms below 16.0 V after an over-voltage, at `mv` mV: usable again, unless the feed was lost meanwhile (R39). -/
def execFeedOvRecover (f : Feed) (mv : BitVec 16) (s : State) : Host.Outcome State Fault Refusal :=
  .next (s.setFeed f (fun x => { x with ov := false, mv := mv.toNat })).showFeeds

/-- Reverse current opens the switch and sets the REV flag (R39). -/
def execReverseCurrent (f : Feed) (s : State) : Host.Outcome State Fault Refusal :=
  .next ((s.setFeed f (fun x => { x with trip := true })).showFeeds.raise (feedRev f) (feedNum f))

/-- A reverse-tripped feed that leads by 50 mV again is reclosed (R39). -/
def execReverseReclose (f : Feed) (s : State) : Host.Outcome State Fault Refusal :=
  .next (s.setFeed f (fun x => { x with trip := false, mv := max x.mv ((s.feed (otherFeed f)).mv + 50) })).showFeeds

/-- VBAT_LOW is set when VBAT reads below 2.2 V (R54). -/
def execVbatCheck (mv : Nat) (s : State) : Host.Outcome State Fault Refusal :=
  .next (s.raiseIf (decide (mv < 2200)) Fld.HKP_FEED_STAT_VBAT_LOW)

/-- A rail outside its window: CORE_OOR for identifier 0, else AUX_OOR with AUX_ID, and yield condition 4; VSAF outside its
window is an island fault as well (R44, R57, R458). -/
def execRailOutOfRange (rail : Fin 8) (s : State) : Host.Outcome State Fault Refusal :=
  let s := if rail.val = 0 then s.raise Fld.HKP_RAIL_STAT_CORE_OOR 0
    else (s.wr Fld.HKP_RAIL_STAT_AUX_ID rail.val).raise Fld.HKP_RAIL_STAT_AUX_OOR rail.val
  let s := if rail.val = 5 then s.islandFault .vsaf else s
  .next (s.raiseYield 4)

/-- A junction of 110 C sets TJ_HOT and of 125 C also TJ_CRIT (R52). -/
def execJunctionTempFlag (tj : BitVec 8) (s : State) : Host.Outcome State Fault Refusal :=
  let s := s.wr Fld.HKP_THERM_TJ tj.toNat
  .next ((s.raiseIf (decide (110 ≤ tj.toInt)) Fld.HKP_THERM_TJ_HOT).raiseIf (decide (125 ≤ tj.toInt)) Fld.HKP_THERM_TJ_CRIT)

end Sys2Proof.Machine
end

