-- ==== Sys2Proof/Machine/Recorder.lean ====
section
/-! DEFINITION. The commands of the disturbance recorder (R509 to R519). -/

namespace Sys2Proof.Machine

/-! ### ENABLE (R509, R512) -/

/-- The region of a definition in MiB: first, and one past the last. -/
def State.recRegion (s : State) (d : Nat) : Nat × Nat :=
  let b := s.rd (Fld.REC_D_REGION_BASE_MB d)
  (b, b + s.rd (Fld.REC_D_REGION_SIZE_MB d))

/-- The definition may be enabled by R509: no overlap, inside the ring, segments large enough. -/
def State.recMayEnable (s : State) (d : Nat) : Bool :=
  let (lo, hi) := s.recRegion d
  let need := 64 + (s.rd (Fld.REC_D_LEN_PRE_V d) + s.rd (Fld.REC_D_LEN_POST_V d) + 1) * s.rd (Fld.REC_D_GUAR_BYTES d)
  decide (hi ≤ 1024) && decide (need ≤ s.segBytes d) &&
    (List.range 16).all (fun e => e == d || !s.flag (Fld.REC_D_CFG_ENABLE e) ||
      (let (a, b) := s.recRegion e; decide (hi ≤ a) || decide (b ≤ lo)))

/-- A write of ENABLE = 1; of an enabled definition it is refused as every other write is. -/
def State.recEnable (s : State) (d : Nat) : State :=
  if s.flag (Fld.REC_D_CFG_ENABLE d) ∨ ¬ s.recMayEnable d then s.raise Fld.REC_EVT_INVALID_WR d
  else
    let u := s.wr (Fld.REC_D_CFG_ENABLE d) 1
    if ¬ u.memoryFits u.timeline then (s.noteNofit u u.timeline).raise Fld.REC_EVT_NOFIT d
    else u.recFill d

def execRecEnable (u : Core) (d : Fin 16) (s : State) : Host.Outcome State Fault Refusal :=
  .next (s.asWriter u 14 (fun s => s.recEnable d))

/-- A write of ENABLE = 0: the segment being filled ends without a header. -/
def State.recDisable (s : State) (d : Nat) : State :=
  (s.setRec d (fun _ => RecDef.reset)).wrs [(Fld.REC_D_CFG_ENABLE d, 0), (Fld.REC_D_STAT_STATE d, 0)]

def execRecDisable (u : Core) (d : Fin 16) (s : State) : Host.Outcome State Fault Refusal :=
  .next (s.asWriter u 14 (fun s => s.recDisable d))

/-- REC_ARMED: PRE_V volleys have been recorded since the arming (R512). -/
def execRecArmed (d : Fin 16) (s : State) : Host.Outcome State Fault Refusal :=
  .next (if s.recState d = 1 ∧ s.rd (Fld.REC_D_LEN_PRE_V d) ≤ (s.volley - (s.recd d).armed).toNat then s.wr (Fld.REC_D_STAT_STATE d) 2 else s)

/-! ### Triggers (R512, R513) -/

/-- Put a fired source in its place: by instant, and on equal instants by source code. -/
def insertFire (x : RecFire) : List RecFire → List RecFire
  | [] => [x]
  | y :: t => if y.ts = x.ts ∧ x.source < y.source then x :: y :: t else y :: insertFire x t

/-- Mark one fired source: the first that fired while the definition was ARMED is honoured; one that fired in FILLING or FULL
counts as ignored. -/
def State.recMark (s : State) (d : Nat) (x : RecFire) : State :=
  let hon := s.recState d == 2 && x.state == 2
  let data := BitVec.ofNat 64 (x.volley.toNat + if hon then 2 ^ 32 else 0)
  let s := s.recPut d x.ts 0xF1 x.source x.aux data
  let s := if x.state = 1 ∨ x.state = 4 then s.bump (Fld.REC_D_CNT_IGN_CNT d) else s
  if ¬ hon then s
  else
    let s := s.setRec d (fun r => { r with trigger := some x, crossed := if x.source = 4 then some x.volley else r.crossed })
    let s := s.wr (Fld.REC_D_STAT_STATE d) 3
    -- An honoured trigger is a cross source for others, unless it was a cross trigger itself.
    if x.source = 4 then s
    else (List.range 16).foldl (fun s e =>
      if e ≠ d ∧ s.recState e ≠ 0 ∧ bitOf (s.rd (Fld.REC_D_TRIG_SRC e)) 4 ∧ bitOf (s.rd (Fld.REC_D_TCROSS_DEF e)) d then
        s.setRec e (fun r => { r with fires := r.fires ++ [⟨4, d, x.ts, x.volley, s.recState e⟩] })
      else s) s

/-- REC_TRIGGER: the sources of a definition that have fired are marked, and an ARMED definition honours the first. -/
def execRecTrigger (d : Fin 16) (s : State) : Host.Outcome State Fault Refusal :=
  let fs := (s.recd d).fires.foldl (fun l x => insertFire x l) []
  let s := s.setRec d (fun r => { r with fires := [] })
  .next (fs.foldl (fun s x => s.recMark d x) s)

/-- A write of REC_CTL.TRIG: the host source of each definition named (R513). -/
def State.recHost (s : State) (mask : Nat) : State := s.recFire 3 0 (fun d => bitOf mask d)

def execRecHostTrig (u : Core) (mask : BitVec 16) (s : State) : Host.Outcome State Fault Refusal :=
  .next (s.asWriter u 14 (fun s => s.recHost mask.toNat))

/-! ### The end of a capture (R514, R515) -/

/-- REC_POST_END: POST_V volleys after the trigger volley the capture is trimmed, its header written, and the next free
segment taken. -/
def execRecPostEnd (d : Fin 16) (s : State) : Host.Outcome State Fault Refusal :=
  let r := (s.recd d).drain (s.segCap d)
  .next (match r.trigger with
    | none => s
    | some g =>
      let post := s.rd (Fld.REC_D_LEN_POST_V d)
      if s.recState d ≠ 3 ∨ (s.volley - g.volley).toNat ≤ post then s
      else
        -- Volleys are counted from the arming.
        let age := fun (v : BitVec 32) => (v - r.armed).toNat
        let from' := age g.volley - s.rd (Fld.REC_D_LEN_PRE_V d)
        let kept := r.entries.filter (fun e => decide (from' ≤ age e.volley))
        let k := s.rd (Fld.REC_D_STAT_SEG d)
        let first := 64 + 16 * ((r.written - kept.length) % max (s.segCap d) 1)
        let short := match r.overwritten with | some v => decide (from' ≤ age v) | none => false
        let c : Capture := { d := d, seg := k, preShort := short, gaps := decide (0 < r.lost), source := 2 ^ g.source,
                             trigVolley := g.volley, trigTs := g.ts,
                             firstVolley := match kept with | e :: _ => e.volley | [] => g.volley,
                             lastVolley := g.volley + BitVec.ofNat 32 post, bytes := 16 * kept.length, first := first,
                             lost := r.lost, cap := s.segCap d, entries := kept }
        let s : State := { s with captures := FMap.set none s.captures (s.segAddr d k) (some c) }
        ((s.wrBit (Fld.REC_D_STAT_DONE d) k true).raise Fld.REC_EVT_DONE d).recFill d)

/-- GAP_ENTRY_WRITE: the staging store has room again, and the lost entries become one gap entry (R511, R514). -/
def execGapEntryWrite (d : Fin 16) (s : State) : Host.Outcome State Fault Refusal :=
  let r := s.recd d
  .next (match r.gap with
    | none => s
    | some g =>
      if ¬ s.recDrains then s
      else
        let e : RecEntry := { ts := g.first, kind := 0xF0, index := 0, aux := 0,
                              data := BitVec.ofNat 64 (g.count + g.last.toNat * 2 ^ 32), volley := s.volley }
        let cap := s.segCap d
        (s.setRec d (fun r => { (r.drain cap).put cap e with gap := none })).raise Fld.REC_EVT_GAP d)

/-- CNT_CLR clears the counters of every definition (R519). -/
def State.recCntClear (s : State) : State :=
  (List.range 16).foldl (fun s d => s.wrs [(Fld.REC_D_CNT_GAP_CNT d, 0), (Fld.REC_D_CNT_IGN_CNT d, 0)]) s

def execRecCntClr (u : Core) (s : State) : Host.Outcome State Fault Refusal := .next (s.asWriter u 14 (fun s => s.recCntClear))

/-- The recorder at a start (R516): segments of each region that hold a finished capture are marked, and an enabled
definition starts FILLING. -/
def State.recStart (s : State) : State :=
  (List.range 16).foldl (fun s d =>
    let done := (List.range (s.recSegs d)).foldl (fun m k =>
      match FMap.get none s.captures (s.segAddr d k) with
      | some c => if c.d = d ∧ c.seg = k then m + 2 ^ k else m
      | none => m) 0
    let s := s.wr (Fld.REC_D_STAT_DONE d) done
    if s.flag (Fld.REC_D_CFG_ENABLE d) then s.recFill d else s) s

end Sys2Proof.Machine
end

