-- ==== Sys2Proof/Machine/SecTime.lean ====
section
/-! DEFINITION. Security time (R385) and the window of the permit in force (R402). -/

namespace Sys2Proof.Machine

/-- TB0 is synchronised (R446). -/
def State.tb0Sync (s : State) : Bool := s.flag (Fld.TBS_TB_STAT_SYNC_LOCK 0)

/-- The seconds counter of the backup domain. -/
def State.seconds (s : State) : Nat := s.rd Fld.RST_BACKUP_SEC_SECONDS

/-- The floor of T_sec. -/
def State.secFloor (s : State) : Nat :=
  match s.sec.floor with
  | some (t, at') => t + (s.seconds - at')
  | none => 0

/-- T_sec before the floor is applied. -/
def State.secRaw (s : State) : Nat :=
  if s.tb0Sync then (s.base 0).sec
  else match s.sec.lastSync with
    | some (t, at') => t + (s.seconds - at')
    | none => 0

/-- T_sec, and whether the floor is in use. -/
def State.tSec (s : State) : Nat := max s.secRaw s.secFloor
def State.floorUsed (s : State) : Bool := decide (s.secRaw < s.secFloor)

/-- While TB0 is synchronised its value is the last synchronised one. -/
def State.noteSync (s : State) : State :=
  if s.tb0Sync then { s with sec := { s.sec with lastSync := some ((s.base 0).sec, s.seconds) } } else s

/-- A permit is in force: NOT_BEFORE <= T_sec < NOT_AFTER (R402). -/
def State.permitNow (s : State) : Bool :=
  s.flag Fld.SEC_PERMIT_IN_FORCE && (match s.sec.permit with | some (a, b) => decide (a ≤ s.tSec ∧ s.tSec < b) | none => false)

end Sys2Proof.Machine
end

