-- ==== Sys2Proof/Machine/Housekeeping.lean ====
section
/-! DEFINITION. Housekeeping on MGC2 and service on MGC3: cadence and margin actions (R532 to R534), fans
(R535, R536), perturbation tests (R537, R538), fences and lifts (R526 to R529) and the measured values. -/

namespace Sys2Proof.Machine

/-! ### Cadence (R532 to R534) -/

/-- The lowest reading with its sensor, EMU subtracted from every one (R532); `k` counts sensors. -/
def lowestReading (emu : Nat) : List (BitVec 10) → Nat → Nat × Nat → Nat × Nat
  | [], _, best => best
  | r :: t, k, best =>
    let v := r.toNat - emu
    lowestReading emu t (k + 1) (if v < best.1 then (v, k) else best)

/-- HKP_CAD_STAT.STEP: the highest margin step in force (R533, R540). -/
def State.marginStep (s : State) : Nat :=
  if s.cad.yieldLive then 5
  else if s.cad.shed = 2 then 4
  else if s.cad.shed = 1 then 3
  else if s.cad.raised = 0 then 0
  else if s.rd Fld.HKP_RAIL_CFG_CORE_CEIL_MV ≤ s.rd Fld.HKP_RAIL_STAT_CORE_SET_MV then 2
  else 1

/-- QOS_STAT.SHED shows the deeper of cadence and bandwidth shedding (R419); `dram` is the latter. -/
def State.showShed (s : State) : State :=
  (s.wr Fld.QOS_STAT_SHED (max s.cad.shed s.dramShed)).wrB Fld.QOS_STAT_SHED_CAD (s.cad.shed != 0)

/-- Record a margin step: STEP, a KIND 3 log record and CAD_STEP (R533). -/
def State.marginTaken (s : State) : State :=
  let s := s.wr Fld.HKP_CAD_STAT_STEP s.marginStep
  let stat := s.rd Fld.HKP_CAD_STAT_K + s.rd Fld.HKP_CAD_STAT_KMIN * 2 ^ 10
    + s.rd Fld.HKP_CAD_STAT_SLOWEST * 2 ^ 20 + s.rd Fld.HKP_CAD_STAT_STEP * 2 ^ 24
  (s.logAppend 3 0 13 0xFFFF (BitVec.ofNat 128 (stat + (s.ts32 3).toNat * 2 ^ 32))).raise Fld.HKP_SVC_EVT_CAD_STEP

/-- The margin actions at one update (R533): rail, then shedding, then yield. DESIGN CHOICE (log 134): a last step of less than
5 mV ends on the ceiling. -/
def State.marginActions (s : State) : State :=
  let k := s.rd Fld.HKP_CAD_STAT_K
  let set := s.rd Fld.HKP_RAIL_STAT_CORE_SET_MV
  let ceil := s.rd Fld.HKP_RAIL_CFG_CORE_CEIL_MV
  let kShed := s.rd Fld.HKP_CAD_CFG_K_SHED
  let kYield := s.rd Fld.HKP_CAD_CFG_K_YIELD
  if k < s.rd Fld.HKP_CAD_CFG_K_RAIL ∧ set < ceil then
    -- Step 1: raise the set point by 5 mV, at most to the ceiling.
    let s := s.wr Fld.HKP_RAIL_STAT_CORE_SET_MV (min (set + 5) ceil)
    { s with cad := { s.cad with raised := s.cad.raised + 1, belowShed := 0, belowYield := 0 } }.marginTaken
  else if k < kShed ∧ s.cad.shed = 0 then
    -- Step 2: shed C3.
    { s with cad := { s.cad with shed := 1, belowShed := 0 } }.showShed.marginTaken
  else if k < kShed ∧ s.cad.shed = 1 then
    -- After 10 further updates below K_SHED: shed C2 as well.
    if s.cad.belowShed + 1 < 10 then
      { s with cad := { s.cad with belowShed := s.cad.belowShed + 1 } }
    else { s with cad := { s.cad with shed := 2, belowShed := 0, belowYield := 0 } }.showShed.marginTaken
  else if s.cad.shed = 2 ∧ k < kYield then
    -- Step 3: yield condition 2 after 4 consecutive updates below K_YIELD.
    if s.cad.belowYield + 1 < 4 ∨ s.cad.yieldLive then
      { s with cad := { s.cad with belowYield := s.cad.belowYield + 1 } }
    else ({ s with cad := { s.cad with belowYield := 4, yieldLive := true } }.raiseYield 2).marginTaken
  else { s with cad := { s.cad with belowShed := if s.cad.shed = 1 then 0 else s.cad.belowShed, belowYield := 0 } }

/-- CADENCE_UPDATE (R532, R533): K is the lowest reading; the yield condition clears at K ≥ K_YIELD (R534). -/
def execCadenceUpdate (readings : List (BitVec 10)) (s : State) : Host.Outcome State Fault Refusal :=
  let emu := if bitOf (s.rd Fld.HKP_PERT_CTL_ON) 6 then s.rd Fld.HKP_PERT_CADEMU_EMU else 0
  let s := (readings.zipIdx).foldl (fun s p => s.wr (Fld.HKP_CAD_S_K p.2) p.1.toNat) s
  let (k, i) := lowestReading emu readings 0 (1023, 0)
  let s := s.wrs [(Fld.HKP_CAD_STAT_K, k), (Fld.HKP_CAD_STAT_SLOWEST, i),
    (Fld.HKP_CAD_STAT_KMIN, min (s.rd Fld.HKP_CAD_STAT_KMIN) k)]
  let high := s.rd Fld.HKP_CAD_CFG_K_SHED + s.rd Fld.HKP_CAD_CFG_HYST ≤ k
  let s : State := { s with cad := { s.cad with calm := if high then s.cad.calm + 1 else 0 } }
  let s := if s.cad.yieldLive ∧ s.rd Fld.HKP_CAD_CFG_K_YIELD ≤ k then
      let s := { s with cad := { s.cad with yieldLive := false, belowYield := 0 } }.clearYield 2
      s.wr Fld.HKP_CAD_STAT_STEP s.marginStep
    else s
  .next s.marginActions

/-- MARGIN_UNDO, every 10 ms (R534): after 10 ms, 100 updates, with K restored one shedding level is removed, C2 first; with none
in force and K > K_LOWER the set point falls by 5 mV, down to the floor. -/
def execMarginUndo (s : State) : Host.Outcome State Fault Refusal :=
  if 0 < s.cad.shed then
    if 100 ≤ s.cad.calm then
      let s := { s with cad := { s.cad with shed := s.cad.shed - 1, belowShed := 0, belowYield := 0, calm := 0 } }.showShed
      .next (s.wr Fld.HKP_CAD_STAT_STEP s.marginStep)
    else .next s
  else
    let set := s.rd Fld.HKP_RAIL_STAT_CORE_SET_MV
    let floor := s.rd Fld.HKP_RAIL_CFG_CORE_FLOOR_MV
    if s.rd Fld.HKP_CAD_CFG2_K_LOWER < s.rd Fld.HKP_CAD_STAT_K ∧ floor < set then
      let s := s.wr Fld.HKP_RAIL_STAT_CORE_SET_MV (max (set - 5) floor)
      let s := { s with cad := { s.cad with raised := s.cad.raised - 1 } }
      .next (s.wr Fld.HKP_CAD_STAT_STEP s.marginStep)
    else .next s

/-- KMIN_CLR sets KMIN to K (R540). -/
def execKminClr (u : Core) (s : State) : Host.Outcome State Fault Refusal :=
  .next (s.asWriter u 13 fun s => s.wr Fld.HKP_CAD_STAT_KMIN (s.rd Fld.HKP_CAD_STAT_K))

/-! ### Fans (R535, R536) -/

/-- A signed 8-bit register value. -/
def sint8 (v : Nat) : Int := (BitVec.ofNat 8 v).toInt

/-- Some enabled channel is BLOCKED (R536). -/
def State.fanBoost (s : State) : Bool :=
  (List.range 8).any (fun f => s.flag (Fld.HKP_FAN_CFG_EN f) && s.rd (Fld.HKP_FAN_STAT_STATE f) == 4)

/-- The duty channel `f` requests (R536), with BOOST or without. -/
def State.fanRequest (s : State) (boost : Bool) (f : Nat) : Nat :=
  if !s.flag (Fld.HKP_FAN_CFG_EN f) then 0
  else if boost then 100
  else if s.flag (Fld.HKP_FAN_CFG_AUTO f) then
    let t := max (sint8 (s.rd Fld.HKP_THERM_TJ)) (sint8 (s.rd Fld.HKP_THERM_TDRAM))
    let lo := sint8 (s.rd Fld.HKP_FAN_CURVE_T_LO)
    let hi := sint8 (s.rd Fld.HKP_FAN_CURVE_T_HI)
    let mn := s.rd Fld.HKP_FAN_CURVE_MIN_PCT
    -- MIN_PCT + (100 - MIN_PCT)(T - T_LO)/(T_HI - T_LO), clamped, rounded up to 1 %.
    let num : Int := (100 - mn) * (t - lo)
    let d : Int := mn + (-((-num) / (hi - lo)))
    (max (mn : Int) (min 100 d)).toNat
  else s.rd (Fld.HKP_FAN_CFG_DUTY f)

/-- Channel `f` enters state `st` of R535. -/
def State.fanEnter (s : State) (f st : Nat) : State :=
  { s.wr (Fld.HKP_FAN_STAT_STATE f) st with fans := FMap.set FanTime.reset s.fans f ⟨s.nowTick, s.nowTick⟩ }

/-- Channel `f` has been in state `st` for `sec` seconds of 800,000,000 ticks. -/
def State.fanIn (s : State) (f st sec : Nat) : Bool :=
  s.rd (Fld.HKP_FAN_STAT_STATE f) == st && decide ((FMap.get FanTime.reset s.fans f).since + sec * 800000000 ≤ s.nowTick)

/-- Bring one channel into line with its requested duty: OFF starts when a duty is requested, RUNNING stops
at 0, and DUTY_OUT is that of the state (R535). -/
def State.fanUpdate (s : State) (boost : Bool) (f : Nat) : State :=
  let req := s.fanRequest boost f
  let st := s.rd (Fld.HKP_FAN_STAT_STATE f)
  let st' := if st = 0 ∧ 0 < req then 1 else if st = 2 ∧ req = 0 then 0 else st
  let out := if st' = 1 then 100 else if st' = 2 then req else 0
  (if st' = st then s else s.fanEnter f st').wr (Fld.HKP_FAN_STAT_DUTY_OUT f) out

/-- The duty at the FANf_PWM land in percent: full until the module is configured, as its pull-up reads (R47), then DUTY_OUT. -/
def State.fanPin (s : State) (f : Nat) : Nat := if s.started then s.rd (Fld.HKP_FAN_STAT_DUTY_OUT f) else 100

/-- Bring every channel into line; BOOST shows a blocked one (R536). -/
def State.fansUpdate (s : State) : State :=
  let boost := s.fanBoost
  ((List.range 8).foldl (fun s f => s.fanUpdate boost f) s).wrB Fld.HKP_FAN_GSTAT_BOOST boost

/-- A failed start (R535): RETRY_WAIT with RETRIES one higher, or BLOCKED when RETRIES is already 3. -/
def State.fanFailed (s : State) (f : Nat) : State :=
  if s.rd (Fld.HKP_FAN_STAT_RETRIES f) = 3 then
    ((s.fanEnter f 4).raise Fld.HKP_SVC_EVT_FAN_BLOCKED f).fansUpdate
  else ((s.fanEnter f 3).wr (Fld.HKP_FAN_STAT_RETRIES f) (s.rd (Fld.HKP_FAN_STAT_RETRIES f) + 1)).fansUpdate

/-- Two tachometer edges `periodUs` apart: a starting fan runs; RPM is 60 s / (PPR x period), 0 below 60. -/
def execFanTachEdges (fan : Fin 8) (periodUs : Nat) (s : State) : Host.Outcome State Fault Refusal :=
  let f := fan.val
  let rpm := if periodUs = 0 then 0 else 60000000 / ((s.rd (Fld.HKP_FAN_CFG_PPR_M1 f) + 1) * periodUs)
  let s := s.wr (Fld.HKP_FAN_STAT_RPM f) (if rpm < 60 then 0 else min rpm 65535)
  .next (if s.rd (Fld.HKP_FAN_STAT_STATE f) = 1 then (s.fanEnter f 2).fansUpdate
    else { s with fans := FMap.modify FanTime.reset s.fans f (fun x => { x with edge := s.nowTick }) })

/-- 3 s without edges while starting is a failed start (R535). -/
def execFanStartTimeout (fan : Fin 8) (s : State) : Host.Outcome State Fault Refusal :=
  .next (if s.fanIn fan.val 1 3 then
    (s.wrs [(Fld.HKP_FAN_STAT_STALL fan.val, 0), (Fld.HKP_FAN_STAT_RPM fan.val, 0)]).fanFailed fan.val else s)

/-- 1 s without an edge while running: STALL, FAN_STALL and a failed start (R535). -/
def execFanStall (fan : Fin 8) (s : State) : Host.Outcome State Fault Refusal :=
  .next (if s.rd (Fld.HKP_FAN_STAT_STATE fan.val) = 2 ∧ (FMap.get FanTime.reset s.fans fan.val).edge + 800000000 ≤ s.nowTick then
    ((s.wrs [(Fld.HKP_FAN_STAT_STALL fan.val, 1), (Fld.HKP_FAN_STAT_RPM fan.val, 0)]).raise
      Fld.HKP_SVC_EVT_FAN_STALL fan.val).fanFailed fan.val else s)

/-- After 10 s in RETRY_WAIT the fan starts again (R535). -/
def execFanRetry (fan : Fin 8) (s : State) : Host.Outcome State Fault Refusal :=
  .next (if s.fanIn fan.val 3 10 then (s.fanEnter fan.val 1).fansUpdate else s)

/-- 60 s in RUNNING returns RETRIES to 0 (R535). -/
def execFanRecovered (fan : Fin 8) (s : State) : Host.Outcome State Fault Refusal :=
  .next (if s.fanIn fan.val 2 60 then s.wr (Fld.HKP_FAN_STAT_RETRIES fan.val) 0 else s)

/-- CLR restarts a blocked fan with RETRIES 0, and a waiting one at once (R535). -/
def State.fanClear (s : State) (f : Nat) : State :=
  let st := s.rd (Fld.HKP_FAN_STAT_STATE f)
  if st = 4 then ((s.fanEnter f 1).wr (Fld.HKP_FAN_STAT_RETRIES f) 0).fansUpdate
  else if st = 3 then (s.fanEnter f 1).fansUpdate
  else s

def execFanClr (u : Core) (fan : Fin 8) (s : State) : Host.Outcome State Fault Refusal :=
  .next (s.asWriter u 13 fun s => s.fanClear fan.val)

/-! ### Perturbation tests (R537, R538, R542) -/

/-- Whether perturbation kind `i` is on. -/
def State.pert (s : State) (i : Nat) : Bool := bitOf (s.rd Fld.HKP_PERT_CTL_ON) i

/-- Every perturbation returns to its reset value, with PERT_END (R538). -/
def State.pertEnd (s : State) : State :=
  let s := s.resetRange 0x8d00400 0x8d00420
  ({ s with force := FMap.clearRange s.force (0x8d00400 * 32) (0x8d00420 * 32) }).raise Fld.HKP_SVC_EVT_PERT_END

/-- A value of perturbation register `r` lies in its ranges (R542). -/
def pertValueOk (r v : Nat) : Bool :=
  if r = 1 then decide (1 ≤ v % 128 ∧ v % 128 ≤ 100)
  else if r = 2 then decide (1 ≤ v % 128 ∧ v % 128 ≤ 90)
  else if r = 3 then decide (v / 128 % 128 ≤ 95)
  else if r = 4 then decide ((v / 128 % 128 ≤ 95 ∨ v / 128 % 128 = 127) ∧ 1 ≤ v / 65536)
  else if r = 5 ∨ r = 6 then decide (1 ≤ v / 65536)
  else true

/-- Writing a perturbation register is permitted (R538, R402): freely in COMMISSIONING and OPENED; in FIELD
only under a permit in force with the MASK bits set, on a standby. -/
def State.pertAllowed (s : State) (mask : Nat) : Bool :=
  let lc := s.rd Fld.SEC_LC_STATE
  if lc = 2 ∨ lc = 4 then true
  else if lc = 3 then
    s.permitNow && s.standby &&
      decide (mask &&& s.rd Fld.SEC_PERMIT_MASK = mask)
  else false

/-- The fields of perturbation register `r` take a value. -/
def State.pertPut (s : State) (r v : Nat) : State :=
  if r = 0 then s.wr Fld.HKP_PERT_CTL_ON v
  else if r = 1 then s.wr Fld.HKP_PERT_STRETCH_PCT v
  else if r = 2 then s.wr Fld.HKP_PERT_BP_PCT v
  else if r = 3 then s.wrs [(Fld.HKP_PERT_SLOT_SPOKE, v), (Fld.HKP_PERT_SLOT_SLOT, v / 128), (Fld.HKP_PERT_SLOT_DELAY_UI, v / 65536)]
  else if r = 4 then s.wrs [(Fld.HKP_PERT_DROP_SPOKE, v), (Fld.HKP_PERT_DROP_SLOT, v / 128), (Fld.HKP_PERT_DROP_EVERY, v / 65536)]
  else if r = 5 then s.wrs [(Fld.HKP_PERT_CRC_SPOKE, v), (Fld.HKP_PERT_CRC_DIR, v / 128), (Fld.HKP_PERT_CRC_EVERY, v / 65536)]
  else if r = 6 then s.wrs [(Fld.HKP_PERT_STALL_ENGINE, v), (Fld.HKP_PERT_STALL_UNITS, v / 65536)]
  else s.wr Fld.HKP_PERT_CADEMU_EMU v

/-- A write of perturbation register `r` (0 HKP_PERT_CTL, 1 to 7 the parameters of kinds 0 to 6). The mask
bits a permit must hold are those the write turns on, or the parameter's own kind. -/
def State.pertWrite (s : State) (r v : Nat) : State :=
  let need := if r = 0 then v % 128 else 2 ^ (r - 1)
  if s.pertAllowed need ∧ pertValueOk r v then
    let s := s.pertPut r v
    -- A parameter of a kind that is on waits for the next boundary; else it is in force at once.
    if r = 0 ∨ s.pert (r - 1) then s
    else { s with force := s.regs.copyRange s.force (0x8d00400 + 4 * r) (0x8d00404 + 4 * r) }
  else s.raise Fld.HKP_SVC_EVT_INVALID_WR

def execPertCtlWrite (u : Core) (reg : Fin 8) (value : Reg32) (s : State) : Host.Outcome State Fault Refusal :=
  .next (s.asWriter u 13 fun s => s.pertWrite reg.val value.toNat)

end Sys2Proof.Machine
end

