-- ==== Sys2Proof/Machine/SecOps.lean ====
section
/-! DEFINITION. Shared operations of the key store: zeroisation and the identity key
(R398), the reaction to a tamper entry (R401), and the key store at a start. -/

namespace Sys2Proof.Machine

/-! ### Zeroisation (R398) -/

/-- A free 32-bit word: a value drawn from the random source, or one only cryptography could give. -/
def State.freeReg (s : State) : Nat × State :=
  let (v, s) := s.freeNat
  (v % 2 ^ 32, s)

/-- A free 64-bit word. -/
def State.free64 (s : State) : BitVec 64 × State :=
  let (v, s) := s.freeNat
  (BitVec.ofNat 64 v, s)

/-- `n` free 64-bit words. -/
def State.free64s (s : State) : Nat → List (BitVec 64) × State
  | 0 => ([], s)
  | n + 1 =>
    let (v, s) := s.free64
    let (t, s) := s.free64s n
    (v :: t, s)

/-- A private key drawn from the random source. -/
def State.drawKey (s : State) : BitVec 256 × State :=
  let (ws, s) := s.free64s 4
  (BitVec.ofNat 256 (ws.foldr (fun w a => w.toNat + 2 ^ 64 * a) 0), s)

/-- Draw an identity key pair (X25519, base point 9); its public part is in SEC_IDPUB. -/
def State.drawIdentity (s : State) : State :=
  let (k, s) := s.drawKey
  let pub := (Config.x25519 k 9).toNat
  let s := (List.range 8).foldl (fun (s : State) i => s.wr (Fld.SEC_IDPUB_KEY i) (pub / 2 ^ (32 * i))) s
  { s with sec := { s.sec with idKey := true, idPriv := k } }

/-- The identity key pair is zeroised. -/
def State.dropIdentity (s : State) : State :=
  { (List.range 8).foldl (fun s i => s.wr (Fld.SEC_IDPUB_KEY i) 0) s with sec := { s.sec with idKey := false, idPriv := 0 } }

/-- Every image key slot of a flash is emptied. -/
def Flash.dropKeys (x : Flash) : Flash :=
  { x with slot0 := { x.slot0 with key := false }, slot1 := { x.slot1 with key := false }, stagingKey := false }

/-- No permit is in force. -/
def State.dropPermit (s : State) : State :=
  { s.wrs [(Fld.SEC_PERMIT_IN_FORCE, 0), (Fld.SEC_PERMIT_MASK, 0)] with sec := { s.sec with permit := none } }

/-- Step 2 of R398: identity key, session keys, image key slots and permit are zeroised; the debug port is not enabled. -/
def State.zeroise (s : State) : State :=
  let s := s.dropIdentity.dropPermit
  { s with sec := { s.sec with sessions := s.sec.sessions.map (fun x => { x with key := 0 }), debug := false }, flash := FMap.mapVals Flash.reset (fun _ x => Flash.dropKeys x) s.flash }

/-- Step 3 of R398 failed: ZEROISE_FAIL and HOLD. -/
def State.zeroiseFailed (s : State) : State :=
  ({ s with sec := { s.sec with hold := true } }.wr Fld.SEC_LC_HOLD 1).raise Fld.SEC_EVT_ZEROISE_FAIL

/-- The key store at a start (R398): a module in OPENED, and at a cold start one in HOLD, zeroises and verifies; in OPENED a temporary
identity key is drawn, and then the IEEE 1149.1 port and core debug are enabled. -/
def State.secureStart (s : State) (zeroised : Bool) : State :=
  let s := s.wrB Fld.SEC_LC_HOLD s.sec.hold
  let opened := s.rd Fld.SEC_LC_STATE == 4
  if opened ∨ (s.sec.hold ∧ s.flag Fld.RST_CAUSE_COLD) then
    let s := s.zeroise
    if ¬ zeroised then s.zeroiseFailed
    else
      let s := { s with sec := { s.sec with hold := false } }.wr Fld.SEC_LC_HOLD 0
      if opened then ({ s.drawIdentity with sec := { s.drawIdentity.sec with debug := true } } : State) else s
  else s

/-- A started module of role A or B whose lifecycle lets it serve takes part in a tandem (R322, R395): it enters INIT, and passes on
to SYNCING while TKOV_IN shows HOLD. -/
def State.joinTandem (s : State) : State :=
  let role := s.rd Fld.TND_CFG_ROLE
  if (role = 1 ∨ role = 2) ∧ s.mayServe ∧ s.tndState = 0 then
    let st := if s.tnd.holdIn then 2 else 1
    let s := s.wrs [(Fld.TND_STAT_STATE, st), (Fld.TND_STAT_TWIN_HOLD, if s.tnd.holdIn then 1 else 0)]
    ({ s with tnd := { s.tnd with waitFrom := s.nowTick } } : State).postAll (.tandem st (BitVec.ofNat 16 (s.rd Fld.TND_EPOCH_EPOCH)))
  else s

/-! ### Tamper (R401) -/

/-- The module's reaction to a tamper entry, by TAMPER_ACT of the policy in force (R401). -/
def State.tamperReact (s : State) : State :=
  let a := s.sec.tamperAct
  let s := s.raise Fld.SEC_EVT_TAMPER
  let s := if 1 ≤ a then s.endAllSessions 2 else s
  let s := { s with sec := { s.sec with tamperLock := s.sec.tamperLock || decide (2 ≤ a) } }
  if a = 3 then s.dropIdentity else s

end Sys2Proof.Machine
end

