-- ==== Sys2Proof/Machine/Reset.lean ====
section
/-! DEFINITION. Resets and the start (R60 to R82): taking a reset, what it clears, the start sequence, the
watchdogs, the backup domain, and the resets that firmware and signed commands order. -/

namespace Sys2Proof.Machine

/-! ### Taking a reset (R60 to R65) -/

/-- A source whose class is cold (R60). -/
def ResetSource.cold : ResetSource → Bool
  | .powerOn => true | .porst => true
  | .undervoltage => false | .resetn => false | .wdtRun => false | .wdtStart => false
  | .cmdHost _ => false | .cmdStation _ => false | .partner => false | .self _ => false

/-- A start is running: reset is released and the start is not complete (R62). -/
def Phase.starting? : Phase → Bool
  | .waitClock => true | .starting => true | .configured => true | .held => false | .hold _ => false | .started => false

/-- The start ended in start-hold. -/
def Phase.held? : Phase → Bool
  | .hold _ => true | .waitClock => false | .starting => false | .configured => false | .held => false | .started => false

/-- CMD_SRC of a source (R77). -/
def ResetSource.cmdSrc : ResetSource → Option Nat
  | .cmdHost f => some f | .cmdStation p => some p
  | .powerOn => none | .porst => none | .undervoltage => none | .resetn => none | .wdtRun => none | .wdtStart => none
  | .partner => none | .self _ => none

/-- SELF_WHY of a source (R77). -/
def ResetSource.why : ResetSource → Option Nat
  | .self w => some w
  | .powerOn => none | .porst => none | .undervoltage => none | .resetn => none | .wdtRun => none | .wdtStart => none
  | .cmdHost _ => none | .cmdStation _ => none | .partner => none

/-- RST_CAUSE of the start that follows: every source present (R62, R77). -/
def State.writeCause (s : State) (srcs : List ResetSource) (cold restart heldStrap heldStorm : Bool) : State :=
  let b := fun (c : Bool) => if c then 1 else 0
  s.wrs [
    (Fld.RST_CAUSE_POR, b (srcs.contains .powerOn)), (Fld.RST_CAUSE_PORST, b (srcs.contains .porst)),
    (Fld.RST_CAUSE_UV, b (srcs.contains .undervoltage)), (Fld.RST_CAUSE_RESETN, b (srcs.contains .resetn)),
    (Fld.RST_CAUSE_WDT_RUN, b (srcs.contains .wdtRun)), (Fld.RST_CAUSE_WDT_START, b (srcs.contains .wdtStart)),
    (Fld.RST_CAUSE_CMD_HOST, b (srcs.any (fun x => match x with | .cmdHost _ => true | _ => false))),
    (Fld.RST_CAUSE_CMD_STN, b (srcs.any (fun x => match x with | .cmdStation _ => true | _ => false))),
    (Fld.RST_CAUSE_PARTNER, b (srcs.contains .partner)),
    (Fld.RST_CAUSE_STRAP_FAULT, b heldStrap), (Fld.RST_CAUSE_STORM, b heldStorm),
    (Fld.RST_CAUSE_RESTART, b restart), (Fld.RST_CAUSE_SELF, b (srcs.any (fun x => x.why.isSome))),
    (Fld.RST_CAUSE_COLD, b cold),
    (Fld.RST_CAUSE_CMD_SRC, (srcs.findSome? (fun x => x.cmdSrc)).getD 0),
    (Fld.RST_CAUSE_SELF_WHY, (srcs.findSome? (fun x => x.why)).getD 0)]

/-- The registers a reset leaves alone: the backup domain (R82), the sticky fuse record and the policy of the key
store (R394), which reference clocks are good (R456; live), and after a warm reset the sequence of the module log (R64, R524) and
the hold of the island (R458). No field of the manual has access code RWS. -/
def RegFile.kept (r : RegFile) (cold : Bool) : RegFile :=
  r.filter (fun p =>
    let a := p.1 / 32
    decide (a = 0x8c00014 ∨ a = 0x8c00018 ∨ a = 0x8c0001c ∨ (0x8c00020 ≤ a ∧ a < 0x8c00040) ∨ a = 0x8c00060
      ∨ (0x8a00020 ≤ a ∧ a < 0x8a00040) ∨ (0x8900008 ≤ a ∧ a < 0x8900030) ∨ (0x8900040 ≤ a ∧ a < 0x8900060)
      ∨ (0x8901000 ≤ a ∧ a < 0x8905100) ∨ p.1 = Fld.TBS_REF_A_OK.key ∨ p.1 = Fld.TBS_REF_B_OK.key ∨ p.1 = Fld.TBS_REF_HOLDOVER.key)
    || (!cold && decide (a = 0x8d00530 ∨ a = 0x8d00534 ∨ p.1 = Fld.SAF_STAT_ISL_HOLD.key)))

/-- What a reset keeps of the state: flash, fuses and key store, the backup domain, and after a warm reset
the DRAM regions of R64; everything else is at its reset value, every pin in the state of R47 and R65. -/
def State.cleared (s : State) (cold : Bool) : State :=
  { State.reset with
    regs := s.regs.kept cold
    flash := s.flash
    fuses := s.fuses
    keyLc := s.keyLc
    feeds := s.feeds
    sec := { s.sec with sessions := [], permit := none, debug := false }
    hostMem := s.hostMem
    log := if cold then [] else s.log
    captures := if cold then [] else s.captures
    mem := if cold then [] else s.mem.filter (fun p => decide (0x140000000 ≤ p.1 ∧ p.1 < 0x180000000))
    dramKey := s.dramKey
    rst := { State.reset.rst with backupIntact := s.rst.backupIntact, tamperDue := s.rst.tamperDue, porstLow := s.rst.porstLow, resetnLow := s.rst.resetnLow }
    c0 := { C0Unit.reset with levelA := s.c0.levelA, levelB := s.c0.levelB }
    freeCtr := s.freeCtr
    pending := s.pending }

/-- The sources present when `src` is taken (R62): a pin that is held low, and a reset that MGC0 has ordered, are present too. -/
def State.sources (s : State) (src : ResetSource) : List ResetSource :=
  src :: ((if s.rst.porstLow then [.porst] else []) ++ (if s.rst.resetnLow then [.resetn] else []) ++
    (match s.rst.ordered with | some w => [.self w] | none => []))

/-- The hold record names the one hold in which the start that is left ended (R74). -/
def State.holdRecord (s : State) (k : Option HoldKind) : State :=
  s.wrs [(Fld.RST_BACKUP_STAT_HELD_STRAP, if k = some .strapFault then 1 else 0), (Fld.RST_BACKUP_STAT_HELD_STORM, if k = some .storm then 1 else 0)]

/-- Carry a reset out (R60 to R65). The hold record names the hold in which the previous start ended (R74): it falls only when a
start that was complete is left. A source taken while a pin still holds an earlier reset finds no start running: RST_CAUSE is
written anew from the sources present then, with RESTART = 0 and the class they give, and names no source of the earlier
handshake that is gone (DESIGN CHOICE, log 187; R62 does not say). -/
def State.doReset (s : State) (src : ResetSource) : State :=
  let running := s.rst.phase.starting?
  let srcs := s.sources src
  let cold := srcs.any (·.cold) || (running && s.flag Fld.RST_CAUSE_COLD)
  let keepHold := !s.started
  let strap := keepHold && s.flag Fld.RST_BACKUP_STAT_HELD_STRAP
  let storm := keepHold && s.flag Fld.RST_BACKUP_STAT_HELD_STORM
  let t := (s.cleared cold).feedBits
  let t := t.wrB Fld.HKP_FEED_STAT_SINGLE t.oneFeed
  let t := t.holdRecord (if strap then some .strapFault else if storm then some .storm else none)
  let t := t.writeCause srcs cold running strap storm
  let pinHeld := t.rst.porstLow || t.rst.resetnLow
  { t with rst := { t.rst with phase := if pinHeld then .held else .waitClock, startWdt := !pinHeld } }

/-- Take a reset from one source. Only a cold reset leaves the storm hold (R76). -/
def State.takeReset (s : State) (src : ResetSource) : State :=
  if s.rst.phase = .hold .storm ∧ (s.sources src).all (fun x => !x.cold) then s else s.doReset src

/-- POWER_ON (R60): `retained` says whether the backup content was retained (R43). -/
def execPowerOn (retained : Bool) (s : State) : Host.Outcome State Fault Refusal :=
  let s := { s with rst := { s.rst with backupIntact := s.rst.backupIntact && retained } }
  .next (s.takeReset .powerOn)

/-- A pin pulse of `ns` is taken: not below the lower bound, always from the upper bound on, and between them
either ignored or taken in full, which the manual leaves open (R60, R61). -/
def State.pulseTaken (s : State) (lo hi ns : Nat) : Bool × State :=
  if ns < lo then (false, s) else if hi ≤ ns then (true, s) else s.freeBit

/-- PORST_N low: a cold reset that holds while the pin is low (R60, R61). -/
def execPorstNAssert (ns : Nat) (s : State) : Host.Outcome State Fault Refusal :=
  let (taken, s) := s.pulseTaken 500 1000 ns
  if taken then .next ({ s with rst := { s.rst with porstLow := true } }.takeReset .porst) else .next s

/-- RESET_N low: a warm reset that holds while the pin is low (R60, R61). -/
def execResetNAssert (ns : Nat) (s : State) : Host.Outcome State Fault Refusal :=
  let (taken, s) := s.pulseTaken 2000 2200 ns
  if taken then .next ({ s with rst := { s.rst with resetnLow := true } }.takeReset .resetn) else .next s

/-- 2 us after the pin has returned high its hold ends; with no other pin low the start begins (R61). -/
def execResetPinRelease (pin : ResetPin) (s : State) : Host.Outcome State Fault Refusal :=
  let r := match pin with
    | .porst => { s.rst with porstLow := false }
    | .resetn => { s.rst with resetnLow := false }
  if r.phase = .held ∧ ¬ r.porstLow ∧ ¬ r.resetnLow then
    .next { s with rst := { r with phase := .waitClock, startWdt := true, startFor := 0 } }
  else .next { s with rst := r }

/-- The OR-ed input below 2.50 V for 2 us (R39, R60). -/
def execSupervisorUndervoltage (s : State) : Host.Outcome State Fault Refusal := .next (s.takeReset .undervoltage)

/-- MGC0 is halted by debug: both watchdogs pause (R79). -/
def State.debugHalted (s : State) : Bool := s.halted.contains (coreKey (.mgc 0))

/-- WDT_RUN_MS has passed since the last kick or START_DONE, without the time halted by debug (R60, R79). -/
def State.runElapsed (s : State) : Bool := decide (s.rd Fld.RST_CFG_WDT_RUN_MS * 800000 ≤ s.rst.runFor)

/-- WDT_START_S has passed since reset release, without the time halted by debug (R60, R71, R79). -/
def State.startElapsed (s : State) : Bool := decide (s.rd Fld.RST_CFG_WDT_START_S * 800000000 ≤ s.rst.startFor)

/-- The run watchdog expires: it runs from START_DONE and from each kick (R60, R79). -/
def execRunWatchdogExpire (s : State) : Host.Outcome State Fault Refusal :=
  .next (if s.rst.runWdt ∧ ¬ s.debugHalted ∧ s.runElapsed then s.takeReset .wdtRun else s)

/-- The start watchdog expires: it runs from reset release to START_DONE, also through a strap-fault hold,
and is stopped in a storm hold (R68, R71, R76). -/
def execStartWatchdogExpire (s : State) : Host.Outcome State Fault Refusal :=
  .next (if s.rst.startWdt ∧ ¬ s.debugHalted ∧ s.startElapsed then s.takeReset .wdtStart else s)

/-- MODULE_ORDERED_RESET: MGC0 carries out the warm reset it has ordered (R60). -/
def execModuleOrderedReset (s : State) : Host.Outcome State Fault Refusal :=
  match s.rst.ordered with
  | some why => .next (s.takeReset (.self why))
  | none => .next s

/-- RECOVERY_RESET: 1 s after a recovery staging with STAGED in the start-hold of R73 (R548). -/
def execRecoveryReset (s : State) : Host.Outcome State Fault Refusal :=
  match s.rst.recoveryDone with
  | some t => .next (if s.rst.phase = .hold .recovery ∧ t + 800000000 ≤ s.nowTick then s.takeReset (.self 4) else s)
  | none => .next s

/-- A signed reset command or station reset frame (R63): `none` when it is refused. -/
def State.signedReset (s : State) (force : Bool) (src : ResetSource) : Option State :=
  let at' := fun (y : Bool) => some { s with rst := { s.rst with atBoundary := some { src := src, yield := y, since := s.nowTick } } }
  if s.tndState = 4 then
    if s.flag Fld.TND_STAT_TWIN_READY then at' true else if force then at' false else none
  else if s.tndState ≠ 0 then at' false
  else if s.anyServing then (if force then at' false else none)
  else at' false

/-- TANDEM_PARTNER_RESET (R60): a non-active module with PARTNER_EN set resets. -/
def execTandemPartnerReset (s : State) : Host.Outcome State Fault Refusal :=
  .next (if s.flag Fld.RST_CFG_PARTNER_EN ∧ ¬ s.activeOrSolo then s.takeReset .partner else s)

/-! ### The start sequence (R66 to R76) -/

/-- The counter clock locks to the first reference present, REFCLK_A where both are; with neither the step waits (step 1 of
R69). -/
def execStartRefclkLocked (s : State) : Host.Outcome State Fault Refusal :=
  let a := s.flag Fld.TBS_REF_A_OK
  .next (if s.rst.phase = .waitClock ∧ (a || s.flag Fld.TBS_REF_B_OK) then
    { s with rst := { s.rst with phase := .starting } }.wrs [(Fld.TBS_REF_SEL, if a then 0 else 1), (Fld.TBS_REF_HOLDOVER, 0)]
  else s)

/-- CODE of a strap reading: floor(17 RAW / 4096 - 0.5) (R66). -/
def strapCode (raw : Nat) : Nat := (34 * raw - 4096) / 8192

/-- A strap fault: the readings disagree, or one lies at a short or an open (R68). -/
def strapFault (rs : List (BitVec 12)) : Bool :=
  rs.any (fun r => decide (r.toNat ≤ 120 ∨ 3976 ≤ r.toNat)) ||
  match rs with
  | [] => true
  | r :: t => t.any (fun x => strapCode x.toNat != strapCode r.toNat)

/-- Role (R345): 0 Solo, 1 A, 2 B, 3 Recovery or Hold, by strap code (R67). -/
def strapRole (c : Nat) : Nat :=
  if c ≤ 3 ∨ c = 12 then 0 else if c ≤ 7 then 1 else if c ≤ 11 then 2 else 3

/-- Primary boot flash by strap code (R67): 0 BFA, 1 BFB. -/
def strapFlash (c : Nat) : Nat := if c = 2 ∨ c = 3 ∨ c = 7 ∨ c = 11 then 1 else 0

/-- Host ports enabled by strap code (R67): H0, H1. -/
def strapPorts (c : Nat) : Bool × Bool :=
  if c = 15 then (false, false)
  else if c = 0 ∨ c = 2 ∨ c = 4 ∨ c = 7 ∨ c = 8 ∨ c = 11 then (true, true)
  else if c = 6 ∨ c = 10 ∨ c = 12 ∨ c = 14 then (false, true)
  else (true, false)

/-- The backup domain at step 2 (R74): an intact pattern advances the start counter; a lost one restarts it. -/
def State.backupCheck (s : State) : State :=
  if s.rst.backupIntact then
    (s.bump Fld.RST_BACKUP_CNT_STARTS).wr Fld.RST_BACKUP_STAT_LOST 0
  else
    let s := s.resetRange 0x8c00020 0x8c00040
    let s := s.wrs [(Fld.RST_BACKUP_CNT_STARTS, 1), (Fld.RST_BACKUP_SEC_SECONDS, 0), (Fld.RST_BACKUP_WIN_WIN_START, 0),
      (Fld.RST_BACKUP_STAT_LOST, 1), (Fld.RST_BACKUP_STAT_TAMP_NEXT, 0), (Fld.RST_BACKUP_STAT_TAMP_TOTAL, 0),
      (Fld.RST_BACKUP_STAT_STORM_CNT, 0), (Fld.RST_BACKUP_STAT_HELD_STRAP, 0), (Fld.RST_BACKUP_STAT_HELD_STORM, 0),
      (Fld.RST_CAUSE_STRAP_FAULT, 0), (Fld.RST_CAUSE_STORM, 0)]
    let s := { s with sec := { s.sec with lastSync := none, floor := s.sec.floor.map (fun (x : Nat × Nat) => (x.1, 0)) } }
    { s with rst := { s.rst with backupIntact := true } }.tamperReact

/-- The storm window at step 2 (R76): the count of starts within 600 s. STORM_CNT stays at 9 when a cold reset leaves the storm
hold, so that a further start in the same window holds again (DESIGN CHOICE, log 188; R76 names the ninth start). -/
def State.stormCount (s : State) : State :=
  let now := s.rd Fld.RST_BACKUP_SEC_SECONDS
  let n := s.rd Fld.RST_BACKUP_STAT_STORM_CNT
  if n = 0 ∨ 600 ≤ now - s.rd Fld.RST_BACKUP_WIN_WIN_START then
    s.wrs [(Fld.RST_BACKUP_WIN_WIN_START, now), (Fld.RST_BACKUP_STAT_STORM_CNT, 1)]
  else s.wr Fld.RST_BACKUP_STAT_STORM_CNT (min (n + 1) 9)

/-- Enter start-hold with its record in the backup domain: every pin keeps its reset state (R68, R74, R76). -/
def State.enterHold (s : State) (k : HoldKind) : State :=
  let s := s.holdRecord (some k)
  { s with rst := { s.rst with phase := .hold k } }

/-- Steps 8 and 9: the blocks are configured from the registers as restored (R69). Staged registers are in force, TB0 counts
with its increment, the island is offered the stored set (R460), the containers of the settings and then those of the
image are loaded (R217), pulse pairs are taken, enabled channels have slices, configured tasks are DORMANT, and the
recorder finds its captures (R516). -/
def State.configureBlocks (s : State) (st : Option Settings) (im : Image) : State :=
  let s : State := { s with force := copyStaged s.regs s.force,
                            time := { s.time with inc := some (s.rd (Fld.TBS_TB_INC_NS_INC_NS 0), s.rd (Fld.TBS_TB_INC_FRAC_INC_FRAC 0)) } }
  let s := s.offeredSet (st.bind (·.safety))
  let s := s.startLoads (((st.map (·.programs)).getD []) ++ im.programs)
  let s := ((List.range 16).foldl (fun (s : State) n => s.lpTake n) s).lpUpdate
  let s := (List.range 28).foldl (fun (s : State) k => (if s.adcMode k ≠ 0 then s.adcConfigured k 0 else s).calWritten k) s
  let s := s.regs.foldl (fun (s : State) p =>
    let t := (p.1 / 32 - 0x8f10000) / 16
    if p.1 = (Fld.SCH_TASK_CFG_CONFIGURED t).key ∧ p.2 = 1 then s.wr (Fld.SCH_TASK_CFG_STATE t) 1 else s) s
  let s := s.recStart.fansUpdate.showDemand
  (s.wr Fld.TND_SHBYTES_BYTES s.shadowBytes).showFits

/-- START_DONE (R79): the start is complete; a trial image's health time runs (R551), a tandem module enters
INIT (R322), and every enabled spoke is to be brought up (R102). -/
def State.startComplete (s : State) : State :=
  let s := { s with rst := { s.rst with phase := .started, startWdt := false, runWdt := true, runFor := 0, doneAt := s.nowTick, healthEnd := s.nowTick + s.rd Fld.RST_FW_CFG_HEALTH_S * 800000000 } }
  let s := if s.flag Fld.RST_FW_STAT_TRIAL then s.wr Fld.RST_FW_HEALTH_REMAIN (s.rd Fld.RST_FW_CFG_HEALTH_S) else s
  (List.range 128).foldl (fun s n =>
    if s.flag (Fld.SPK_CFG_ENABLE n) then s.setSpoke n (fun p => { p with restart := true }) else s) s.joinTandem

/-- A write of RST_WDT_KICK (R79): it acts only under the key. START_DONE completes a start whose blocks are configured (R69);
in a started module it only stops the start watchdog and starts the run watchdog once more. -/
def State.kickWrite (s : State) (kick done : Bool) (key : Nat) : State :=
  if key ≠ 0x5AC3 then s.raise Fld.RST_STAT_INVALID_WR
  else
    let s := if kick ∧ s.started then { s with rst := { s.rst with runWdt := true, runFor := 0 } } else s
    if done ∧ s.rst.phase = .configured then s.startComplete
    else if done ∧ s.started then { s with rst := { s.rst with startWdt := false, runWdt := true, runFor := 0 } }
    else s

/-- Steps 6 to 9 (R69): choose and start an image, read its settings, complete the start; `none` of the
flashes passing is the recovery hold of R73. -/
def State.startImage (s : State) : State :=
  let p := s.rst.primary
  let s := s.setFlash p Flash.copyStaged
  let (c, f, fell) := s.chooseIn (s.flashOf p)
  let s := s.setFlash p (fun _ => f)
  let pick : Option (Nat × Nat × Bool) × State :=
    match c with
    | some i => (some (p, i, fell), s)
    | none =>
      let (c', f', _) := s.chooseIn (s.flashOf (1 - p))
      let s := s.setFlash (1 - p) (fun _ => f')
      match c' with
      | some i => (some (1 - p, i, true), s)
      | none => (none, s)
  match pick with
  | (none, s) => s.enterHold .recovery
  | (some (fl, i, fellBack), s) =>
    let x := (s.flashOf fl).slot i
    match x.image with
    | none => s.enterHold .recovery
    | some im =>
      let att := if x.trial then x.attempts + 1 else x.attempts
      let s := s.setFlash fl (fun f => f.setSlot i { x with attempts := att })
      let s := s.wrs [(Fld.RST_FW_STAT_FLASH, fl), (Fld.RST_FW_STAT_SLOT, i), (Fld.RST_FW_STAT_TRIAL, if x.trial then 1 else 0),
        (Fld.RST_FW_STAT_FALLBACK, if fellBack then 1 else 0), (Fld.RST_FW_STAT_ATTEMPTS, if x.trial then att else 0),
        (Fld.RST_FW_STAT_ENC, if im.enc then 1 else 0),
        (Fld.RST_FW_STAT_STAGED, if (s.flashOf s.rst.primary).staged then 1 else 0),
        (Fld.RST_FW_VER_VERSION, im.version.toNat), (Fld.RST_FW_INFO_SETFMT, im.setfmt.toNat),
        (Fld.RST_FW_INFO_TVER_LO, im.tverLo), (Fld.RST_FW_INFO_TVER_HI, im.tverHi), (Fld.RST_FW_INFO_FMT, im.fmt.toNat),
        (Fld.RST_FW_RB_ROLLBACK, im.rollback)]
      let st := ((s.flashOf fl).settingsFor im.setfmt).map (·.2)
      let s := (s.readSettings (s.flashOf fl) im.setfmt).configureBlocks st im
      ({ s with rst := { s.rst with phase := .configured } } : State).kickWrite false true 0x5AC3

/-- Step 2 of R69: fuses, backup domain, a tamper entry that waits (R401), storm window and what the key store does at a start. -/
def State.startStep2 (s : State) (fuses : List FuseRead) (seconds : BitVec 32) (keys : KeyStoreRead) : State :=
  let s := if keys.checkOk then s else { s with keyLc := 1 }
  let s := (s.readFuses fuses).showLifecycle
  let s := if s.rst.backupIntact then s.wr Fld.RST_BACKUP_SEC_SECONDS seconds.toNat else s
  let due := s.rst.tamperDue && s.rst.backupIntact
  let s := s.backupCheck
  let s := if due then s.tamperReact else s
  (({ s with rst := { s.rst with tamperDue := false } } : State).stormCount).secureStart keys.zeroised

/-- START_SEQUENCE (R69): fuses, backup domain and storm window, strap, host ports, memories, image, settings
and START_DONE, in that order; a hold ends it where R68, R73 or R76 lay down. `keys` is what the
start finds of the key store (R398, R403). After a strap fault RST_STRAP shows RAW of the last reading and CODE 0
(DESIGN CHOICE, log 189; the eight readings may give several codes). -/
def execStartSequence (fuses : List FuseRead) (strap : List (BitVec 12)) (seconds : BitVec 32)
    (keys : KeyStoreRead) (s : State) :
    Host.Outcome State Fault Refusal :=
  if s.rst.phase ≠ .starting then .next s else
  let s := s.startStep2 fuses seconds keys
  if s.flag Fld.RST_CFG_STORM_EN ∧ 9 ≤ s.rd Fld.RST_BACKUP_STAT_STORM_CNT then
    .next ({ s with rst := { s.rst with startWdt := false } }.enterHold .storm)
  else
  -- Step 3: the strap.
  let raw := (strap.getLast?.getD 0).toNat
  let s := s.wr Fld.RST_STRAP_RAW raw
  if strapFault strap then
    .next ((s.wr Fld.RST_STRAP_FAULT 1).enterHold .strapFault)
  else
  let code := strapCode raw
  let ports := strapPorts code
  let s := s.wrs [(Fld.RST_STRAP_CODE, code), (Fld.TND_CFG_ROLE, strapRole code),
    (Fld.HIF_PORT_STAT_ENABLED 0, if ports.1 then 1 else 0), (Fld.HIF_PORT_STAT_ENABLED 1, if ports.2 then 1 else 0)]
  let s := { s with rst := { s.rst with primary := strapFlash code } }
  if code = 15 then .next (s.enterHold .bench) else
  -- Step 5: a new bank hash key.
  let (k, s) := s.freeWord
  let s := { s with bankKey := k }
  -- The interleave key is drawn at a cold start alone (R414).
  let (dk, s) := if s.flag Fld.RST_CAUSE_COLD then s.freeWord else (s.dramKey, s)
  let s := { s with dramKey := dk }
  if code = 13 ∨ code = 14 then .next (s.enterHold .recoveryStrap)
  else .next s.startImage

/-- 600 s after a start complete without a reset the storm count is cleared (R76). -/
def execStormWindowClear (s : State) : Host.Outcome State Fault Refusal :=
  .next (if s.started ∧ s.rst.doneAt + 600 * 800000000 ≤ s.nowTick then s.wr Fld.RST_BACKUP_STAT_STORM_CNT 0 else s)

/-! ### Watchdog and configuration registers (R78, R79) -/

def execWdtKick (u : Core) (key : BitVec 16) (s : State) : Host.Outcome State Fault Refusal :=
  .next (s.asWriter u 12 fun s => s.kickWrite true false key.toNat)

def execStartDone (u : Core) (key : BitVec 16) (s : State) : Host.Outcome State Fault Refusal :=
  .next (s.asWriter u 12 fun s => s.kickWrite false true key.toNat)

/-- RST_CFG.LOCK locks the RWL fields until the next reset (R78). -/
def execRstCfgLock (u : Core) (s : State) : Host.Outcome State Fault Refusal :=
  .next (s.asWriter u 12 fun s => s.wr Fld.RST_CFG_LOCK 1)

/-- The module can react to a tamper entry at once: a feed supplies it, and its start has read the policy (step 2 of R69). -/
def State.tamperAwake (s : State) : Bool :=
  ((s.feed .a).usable || (s.feed .b).usable) &&
    match s.rst.phase with
    | .held => false | .waitClock => false | .starting => false
    | .configured => true | .hold _ => true | .started => true

/-- TAMP0 or TAMP1 low for 100 us (R75): one entry of the tamper record, and the reaction of R401, at once or, for an entry written
while the module was unpowered or before step 2 of a start, at that step (log 190). -/
def execTamperInput (input : Fin 2) (seconds : BitVec 32) (s : State) : Host.Outcome State Fault Refusal :=
  let i := s.rd Fld.RST_BACKUP_STAT_TAMP_NEXT
  let s := s.wrs [(Fld.RST_BACKUP_SEC_SECONDS, seconds.toNat), (Fld.RST_TAMPER_SEC i, seconds.toNat), (Fld.RST_TAMPER_INPUT i, input.val),
    (Fld.RST_BACKUP_STAT_TAMP_NEXT, i + 1),
    (if input.val = 0 then Fld.RST_BACKUP_STAT_TAMP0_NOW else Fld.RST_BACKUP_STAT_TAMP1_NOW, 1)]
  let s := s.bump Fld.RST_BACKUP_STAT_TAMP_TOTAL
  .next (if s.tamperAwake then s.tamperReact else { s with rst := { s.rst with tamperDue := true } })

/-! ### The fall-back of a failed trial (R551) -/

/-- Every converter with a cell on a Serving spoke is blocked. -/
def State.allServedBlocked (s : State) : Bool :=
  s.cells.all (fun p =>
    !s.serving (p.1 / 128) ||
    match p.2.member with
    | some (a, _) => bitOf (s.rd Fld.LPW_BLK_STAT_BLOCKED) (a / 6)
    | none => true)

/-- The image has failed (R551): it is marked BAD, PREVIOUS becomes CURRENT, and the module resets at once,
after a yield, or defers. -/
def State.imageFailed (s : State) : State :=
  let s := s.setFlash (s.rd Fld.RST_FW_STAT_FLASH) (fun f => f.fallBack (s.rd Fld.RST_FW_STAT_SLOT))
  let s := s.wrs [(Fld.RST_FW_STAT_TRIAL, 0), (Fld.RST_FW_HEALTH_REMAIN, 0)]
  if s.tndState = 4 then
    if s.flag Fld.TND_STAT_TWIN_READY then
      { s with rst := { s.rst with atBoundary := some { src := .self 5, yield := true, since := s.nowTick } } }
    else { s.wr Fld.RST_FW_STAT_DEFER 1 with rst := { s.rst with deferred := true } }
  else if s.tndState = 0 ∧ s.anyServing then
    { s.wr Fld.RST_FW_STAT_DEFER 1 with rst := { s.rst with deferred := true } }
  else s.takeReset (.self 5)

/-- Write of REJECT (R551). -/
def execFwReject (u : Core) (s : State) : Host.Outcome State Fault Refusal :=
  .next (s.asWriter u 12 fun s => if s.flag Fld.RST_FW_STAT_TRIAL then s.imageFailed else s)

/-- HEALTH_S seconds after start complete without confirmation (R551). -/
def execHealthExpire (s : State) : Host.Outcome State Fault Refusal :=
  .next (if s.flag Fld.RST_FW_STAT_TRIAL ∧ s.started ∧ s.rst.healthEnd ≤ s.nowTick then s.imageFailed else s)

end Sys2Proof.Machine
end

