-- ==== Sys2Proof/Machine/TimeBases.lean ====
section
/-! DEFINITION. The time bases and reference clocks (R441 to R450). -/

namespace Sys2Proof.Machine

/-! ### Counting (R443) -/

/-- The whole value of a base in units of 2^-32 ns. -/
def TimeBase.total (b : TimeBase) : Int := (b.count * 2 ^ 32 + b.frac : Nat)

/-- A base from its whole value; SEC is 48 bits wide. -/
def TimeBase.ofTotal (v : Int) : TimeBase :=
  let n := (v % (2 ^ 48 * 1000000000 * 2 ^ 32 : Nat)).toNat
  let ns := n / 2 ^ 32
  ⟨ns / 1000000000, ns % 1000000000, n % 2 ^ 32⟩

/-- The full count of a base from a 32-bit field `ts` and any value `ref` of the base within 2.147 s of it (R449). -/
def extend32 (ref : Nat) (ts : BitVec 32) : Int := (ref : Int) + (ts - BitVec.ofNat 32 ref).toInt

def State.setBase (s : State) (n : Nat) (b : TimeBase) : State := { s with tb := FMap.set TimeBase.reset s.tb n b }

/-- The increment in force of a base, in units of 2^-32 ns; that of TB3 is fixed (R444). -/
def State.baseInc (s : State) (n : Nat) : Nat :=
  if n = 0 then s.inForce (Fld.TBS_TB_INC_NS_INC_NS 0) * 2 ^ 32 + s.inForce (Fld.TBS_TB_INC_FRAC_INC_FRAC 0)
  else if n = 3 then 5 * 2 ^ 30
  else s.rd (Fld.TBS_TB_INC_NS_INC_NS n) * 2 ^ 32 + s.rd (Fld.TBS_TB_INC_FRAC_INC_FRAC n)

/-- The increment of a servo's base. -/
def State.setInc (s : State) (n : Nat) (inc : Int) : State :=
  let v := inc.toNat
  s.wrs [(Fld.TBS_TB_INC_NS_INC_NS n, v / 2 ^ 32), (Fld.TBS_TB_INC_FRAC_INC_FRAC n, v % 2 ^ 32)]

/-! ### Servos (R447) -/

/-- The error of TB1 or TB2 against its reference in units of 2^-32 ns; none while a standby has no measurement. -/
def State.servoError (s : State) (n : Nat) : Option Int :=
  if n = 1 ∧ s.standby then (if s.flag Fld.TND_STAT_LINK_UP then s.tnd.tb1Error else none)
  else some ((s.base n).total - (s.base (n - 1)).total)

/-- The rate of a servo's reference; of the twin only the nominal rate is known. -/
def State.refRate (s : State) (n : Nat) : Nat := if n = 1 ∧ s.standby then 5 * 2 ^ 30 else s.baseInc (n - 1)

/-- A signed 32-bit register value that saturates. -/
def sat32 (v : Int) : Nat := (BitVec.ofInt 32 (max (-(2 ^ 31)) (min v (2 ^ 31 - 1)))).toNat

/-- One servo step: the error, LOCK, and the increment. The size of the correction toward e = 0 is a free value within
SLEW_PPM and the error. Beyond JUMP_MAX_NS the base steps to its reference, or is held while a spoke serves. -/
def State.servo (s : State) (n : Nat) : State :=
  match s.servoError n with
  | none => s
  | some e =>
    let ns := e.natAbs / 2 ^ 32
    let far := decide (s.rd Fld.TBS_CFG_JUMP_MAX_NS * 2 ^ 32 < e.natAbs)
    let s := s.wr (Fld.TBS_TB_ERR_ERR n) (sat32 (e * 16 / 2 ^ 32))
    let s := if e.natAbs ≤ 2 * 2 ^ 32 then s.wr (Fld.TBS_TB_STAT_SYNC_LOCK n) 1
      else if 10 ≤ ns ∧ 10 * 2 ^ 32 < e.natAbs then s.wr (Fld.TBS_TB_STAT_SYNC_LOCK n) 0 else s
    if far ∧ ¬ s.anyServing then
      (({ s with tnd := { s.tnd with tb1Error := if n = 1 then s.tnd.tb1Error.map (fun _ => 0) else s.tnd.tb1Error } }).setBase n
        (TimeBase.ofTotal ((s.base n).total - e))).setInc n (s.refRate n)
    else
      let s := s.raiseIf far Fld.TBS_EVT_STEP_HELD n
      if e = 0 then s.setInc n (s.refRate n)
      else
        let limit := min (5 * 2 ^ 30 * s.rd Fld.TBS_CFG_SLEW_PPM / 1000000) e.natAbs
        let (v, s) := s.freeNat
        let c : Int := (min (v % limit + 1) limit : Nat)
        s.setInc n (s.refRate n + (if 0 < e then -c else c))

/-- SERVO_STEP of TB1 (0) or TB2 (1). -/
def execServoStep (base : Fin 2) (s : State) : Host.Outcome State Fault Refusal := .next (s.servo (base + 1))

/-! ### Steering TB0 (R444 to R446) -/

/-- A write of INC_NS commits the pair at the next tick, unless it is more than 1,000 ppm off. -/
def State.incWrite (s : State) (ns : Nat) : State :=
  let frac := s.rd (Fld.TBS_TB_INC_FRAC_INC_FRAC 0)
  let off : Int := (ns * 2 ^ 32 + frac : Nat) - (5 * 2 ^ 30 : Nat)
  if 5368709 < off.natAbs then s.raise Fld.TBS_EVT_INVALID_WR
  else ({ s with time := { s.time with inc := some (ns, frac) } }).wr (Fld.TBS_TB_INC_NS_INC_NS 0) ns

def execTb0IncNsWrite (u : Core) (ns : BitVec 8) (s : State) : Host.Outcome State Fault Refusal :=
  .next (s.asWriter u 6 (fun s => s.incWrite ns.toNat))

/-- A write of ADJ (R445). -/
def State.adjWrite (s : State) (v : BitVec 32) : State :=
  if s.rd Fld.TBS_CFG_JUMP_MAX_NS < v.toInt.natAbs then s.raise Fld.TBS_EVT_JUMP_REFUSED
  else { s with time := { s.time with adj := s.time.adj + v.toInt } }

def execTb0Adj (u : Core) (adj : BitVec 32) (s : State) : Host.Outcome State Fault Refusal :=
  .next (s.asWriter u 6 (fun s => s.adjWrite adj))

/-- SYNC becomes 0. -/
def State.syncLost (s : State) : State :=
  if s.tb0Sync then (s.wr (Fld.TBS_TB_STAT_SYNC_LOCK 0) 0).raise Fld.TBS_EVT_SYNC_LOST else s

/-- A write of SET_NS loads TB0 at the next tick while it is not synchronised (R445). -/
def State.setWrite (s : State) (ns : Nat) : State :=
  if 999999999 < ns then s.raise Fld.TBS_EVT_INVALID_WR
  else if s.tb0Sync then s.raise Fld.TBS_EVT_JUMP_REFUSED
  else
    let sec := s.rd Fld.TBS_TB0_SET_SEC_LO_SEC + 2 ^ 32 * s.rd Fld.TBS_TB0_SET_SEC_HI_SEC
    ({ s with time := { s.time with set := some (sec, ns) } }).syncLost

def execTb0Set (u : Core) (ns : BitVec 32) (s : State) : Host.Outcome State Fault Refusal :=
  .next (s.asWriter u 6 (fun s => s.setWrite ns.toNat))

/-- A write of SYNC_DECL (R446). -/
def State.syncDecl (s : State) (on : Bool) : State :=
  let s := s.wrB Fld.TBS_TB0_CTL_SYNC_DECL on
  if on then (({ s with time := { s.time with syncAt := s.nowTick } }).wr (Fld.TBS_TB_STAT_SYNC_LOCK 0) 1).noteSync
  else s.noteSync.syncLost

def execSyncDecl (u : Core) (on : Bool) (s : State) : Host.Outcome State Fault Refusal :=
  .next (s.asWriter u 6 (fun s => s.syncDecl on))

/-- SYNC_HOLD_EXPIRE: HOLD_MS has passed since the last SYNC_DECL = 1 (R446). -/
def execSyncHoldExpire (s : State) : Host.Outcome State Fault Refusal :=
  .next (if s.time.syncAt + s.rd Fld.TBS_TB0_CTL_HOLD_MS * 800000 ≤ s.nowTick then s.noteSync.syncLost else s)

/-! ### Reference clocks (R441) -/

def refOk (r : Nat) : Field := if r = 0 then Fld.TBS_REF_A_OK else Fld.TBS_REF_B_OK

/-- REFERENCE_FAIL: the counter clock leaves a selected reference for the other, or holds over. -/
def execReferenceFail (ref : Fin 2) (s : State) : Host.Outcome State Fault Refusal :=
  let r : Nat := ref
  let s := s.wr (refOk r) 0
  .next (if s.rd Fld.TBS_REF_SEL ≠ r ∨ s.flag Fld.TBS_REF_HOLDOVER then s
    else if s.flag (refOk (1 - r)) then (s.wr Fld.TBS_REF_SEL (1 - r)).raise Fld.TBS_EVT_REF_SWITCH
    else (s.wr Fld.TBS_REF_HOLDOVER 1).raise Fld.TBS_EVT_REF_BOTH)

/-- REFERENCE_REVERT: REFCLK_A has been good for 1 s; with REVERT = 1 it is selected again. -/
def execReferenceRevert (s : State) : Host.Outcome State Fault Refusal :=
  let s := s.wr Fld.TBS_REF_A_OK 1
  .next (if s.flag Fld.TBS_REF_REVERT ∧ ¬ s.flag Fld.TBS_REF_HOLDOVER then s.wr Fld.TBS_REF_SEL 0 else s)

/-- REFERENCE_RESELECT: a reference has been good for 10 ms; after both failed the first such is selected. -/
def execReferenceReselect (ref : Fin 2) (s : State) : Host.Outcome State Fault Refusal :=
  let s := s.wr (refOk ref) 1
  .next (if s.flag Fld.TBS_REF_HOLDOVER then s.wrs [(Fld.TBS_REF_SEL, ref), (Fld.TBS_REF_HOLDOVER, 0)] else s)

/-! ### PPS pins (R450) -/

/-- PPS_OUT: in the first tick of a whole second of the base named by SRC the pin goes high, for WIDTH_US. -/
def execPpsOut (s : State) : Host.Outcome State Fault Refusal :=
  let b := s.base (s.rd Fld.TBS_PPS_SRC)
  .next (if s.baseInc (s.rd Fld.TBS_PPS_SRC) ≤ b.ns * 2 ^ 32 + b.frac then s else { s with time := { s.time with ppsUntil := s.nowTick + s.rd Fld.TBS_PPS_WIDTH_US * 800 } })

/-- PPS_IN_EDGE: TB0 and TB3 are captured; an edge within 100 µs of the previous one is ignored. -/
def execPpsInEdge (s : State) : Host.Outcome State Fault Refusal :=
  let now := s.nowTick
  let soon := match s.time.ppsIn with | some t => decide (now < t + 80000) | none => false
  let s := { s with time := { s.time with ppsIn := some now } }
  .next (if soon then s.raise Fld.TBS_EVT_PPS_IGN
    else (s.wrs [(Fld.TBS_PPS_TS0_TS, (s.ts32 0).toNat), (Fld.TBS_PPS_TS3_TS, (s.ts32 3).toNat)]).bumpWrap Fld.TBS_PPS_CNT_CNT)

end Sys2Proof.Machine
end

