-- ==== Sys2Proof/Machine/Station.lean ====
section
/-! DEFINITION. The station ports (R426 to R440): classification, the bridge and its transparent clock, sampled values,
GOOSE, and reset frames. -/

namespace Sys2Proof.Machine

def State.port (s : State) (n : Nat) : StpPort := FMap.get StpPort.reset s.ports n
def State.setPort (s : State) (n : Nat) (f : StpPort → StpPort) : State := { s with ports := FMap.modify StpPort.reset s.ports n f }
def State.sub (s : State) (k : Nat) : SvSub := FMap.get SvSub.reset s.subs k
def State.setSub (s : State) (k : Nat) (f : SvSub → SvSub) : State := { s with subs := FMap.modify SvSub.reset s.subs k f }
def State.gooseOf (s : State) (k : Nat) : GooseFilter := FMap.get GooseFilter.reset s.goose k
def State.setGoose (s : State) (k : Nat) (f : GooseFilter → GooseFilter) : State := { s with goose := FMap.modify GooseFilter.reset s.goose k f }

/-- A 48-bit address held in two registers. -/
def mac48 (lo hi : Nat) : BitVec 48 := BitVec.ofNat 48 (lo + hi * 2 ^ 32)

/-- A frame goes to the PTP queue of MGC3, with its TB0 value in full (R428, R432). -/
def State.toPtp (s : State) (n : Nat) (f : StationFrame) : State :=
  { s with stp := { s.stp with ptpQueue := s.stp.ptpQueue ++ [⟨n, f, s.base 0⟩] } }

/-- A frame goes to the station queue of the application cores. -/
def State.toApc (s : State) (n : Nat) (f : StationFrame) : State :=
  { s with stp := { s.stp with apcQueue := s.stp.apcQueue ++ [⟨n, f, s.base 0⟩] } }

/-- Rule 5 of R428. -/
def State.otherFrame (s : State) (n : Nat) (f : StationFrame) : State :=
  if s.flag (Fld.STP_ST_CFG_TO_APC n) then s.toApc n f else s.bump (Fld.STP_ST_CNT_DROP_CNT n)

/-! ### Bridge and transparent clock (R429 to R431) -/

/-- L_ct of a speed in ns. -/
def cutThrough (speed : Nat) : Nat := if speed = 1 then 640 else if speed = 2 then 120 else 60

/-- correctionField with a sum in units of 2^-16 ns added, held to its largest value. -/
def addCorrection (c : BitVec 64) (sum : Int) : Int := min (c.toInt + sum) 0x7FFFFFFFFFFFFFFF

/-- The correctionField of a forwarded PTP frame for a residence time in units of 2^-16 ns; `none` when the message is
not forwarded (R431). -/
def State.transparent (s : State) (n : Nat) (r16 : Int) : StationBody → Option (Option Int) × State
  | .ptp k dom src sq c =>
    let sum := r16 + (s.rd (Fld.STP_ST_LINKDLY_LD n) : Int) * 4096
    (match k with
    | .sync false => (some (some (addCorrection c sum)), s)
    | .sync true =>
      let tc := s.stp.tc.filter (fun e => !(e.domain == dom && e.source == src && e.seq == sq))
      let tc := if tc.length < 8 then tc else tc.drop 1
      (some (some c.toInt), { s with stp := { s.stp with tc := tc ++ [⟨dom, src, sq, sum⟩] } })
    | .followUp =>
      (match s.stp.tc.find? (fun e => e.domain == dom && e.source == src && e.seq == sq) with
      | some e => (some (some (addCorrection c e.sum)), { s with stp := { s.stp with tc := s.stp.tc.filter (fun x => x != e) } })
      | none => (some (some c.toInt), (s.bump Fld.STP_CNT_TCUNM_CNT).raise Fld.STP_EVT_TC_UNMATCHED))
    | .delayReq => (some (some (addCorrection c r16)), s)
    | .peerDelay => (none, s)
    | .other => (some (some c.toInt), s))
  | .sv _ _ => (some none, s)
  | .goose _ _ _ _ _ => (some none, s)
  | .own _ _ => (some none, s)
  | .other => (some none, s)

/-- A residence time in units of 2^-16 ns, in whole ticks. -/
def residenceTicks (r16 : Nat) : Nat := ceilDiv (4 * r16) (5 * 65536)

/-- A port leads a frame into its store, or drops it where the store's 32 KiB are full; frames that have left are gone (R430). -/
def StpPort.waiting (p : StpPort) (now : Nat) : List (Nat × Nat) := p.store.filter (fun x => decide (now < x.1))
def StpPort.full (p : StpPort) (now bytes : Nat) : Bool := decide (32768 < ((p.waiting now).map (·.2)).sum + bytes)

/-- A frame that the bridge forwards. `wait` is none while the egress port is idle; else the residence time the frame will have, in
units of 2^-16 ns. -/
def State.forward (s : State) (n : Nat) (f : StationFrame) (wait : Option Nat) : State :=
  let out := 1 - n
  if ¬ s.flag Fld.STP_BRIDGE_EN ∨ 2 ≤ n ∨ f.dst = mac48 (s.rd (Fld.STP_ST_MAC_LO_MAC n)) (s.rd (Fld.STP_ST_MAC_HI_MAC n)) ∨ f.dst = 0x0180C200000E then s
  else
    let send := fun (s : State) (r16 : Nat) (stomp : Bool) =>
      (match s.transparent n r16 (if f.etype = 0x88F7 then f.body else .other) with
      | (none, s) => s
      | (some c, s) => s.setPort out (fun p => { p with forwarded := some ⟨f, c, stomp⟩ }))
    match wait with
    | none =>
      let s := send s (cutThrough (s.rd (Fld.STP_ST_STAT_SPEED n)) * 65536) (!f.fcsOk)
      if f.fcsOk then s else s.bump (Fld.STP_ST_CNT_STOMP_CNT out)
    | some r16 =>
      if ¬ f.fcsOk then s
      else if (s.port out).full s.nowTick f.length then (s.bump (Fld.STP_ST_CNT_FWDDROP_CNT out)).raise Fld.STP_EVT_FWD_DROP n
      else (send s r16 false).setPort out (fun p => { p with store := p.waiting s.nowTick ++ [(s.nowTick + residenceTicks r16, f.length)] })

/-! ### Sampled values (R433 to R436) -/

/-- An enabled subscription that the frame matches, up to its ASDUs. -/
def State.svMatches (s : State) (n k : Nat) (f : StationFrame) (appid : BitVec 16) : Bool :=
  s.inForce (Fld.STP_SV_CFG_EN k) == 1 && bitOf (s.inForce (Fld.STP_SV_CFG_PORTS k)) n &&
    f.dst == mac48 (s.inForce (Fld.STP_SV_DMAC_LO_DMAC k)) (s.inForce (Fld.STP_SV_DMAC_HI_DMAC k)) &&
    appid.toNat == s.inForce (Fld.STP_SV_CFG_APPID k)

/-- The svID of an ASDU is the subscription's. -/
def State.svidMatches (s : State) (k : Nat) (a : Asdu) : Bool :=
  s.inForce (Fld.STP_SV_SVID_SVID_CRC k) == 0 || s.inForce (Fld.STP_SV_SVID_SVID_CRC k) == (crc32c a.svId).toNat

/-- One recorder entry of a value (R511). -/
def svData (v : SvValue) (cnt : Nat) (synced : Bool) : BitVec 64 :=
  BitVec.ofNat 64 (v.value.toNat + cnt * 2 ^ 32 + (if v.bad then 2 ^ 48 else 0) + (if v.test then 2 ^ 49 else 0) + (if synced then 2 ^ 50 else 0))

/-- Of two copies that complete in the same tick the one from the lower-numbered port is used (R434). -/
def State.svSameTick (s : State) (k : Nat) (x : SvSample) : State :=
  match (s.sub k).samples with
  | y :: t => if y.cnt = x.cnt ∧ y.done = x.done ∧ x.port < y.port then s.setSub k (fun u => { u with samples := x :: t }) else s
  | [] => s

/-- One ASDU of a matching frame is one sample: too short, a duplicate, or new. -/
def State.svSample (s : State) (n k : Nat) (f : StationFrame) (a : Asdu) : State :=
  let nval := s.inForce (Fld.STP_SV_CFG_NVAL_M1 k) + 1
  if a.seqBytes < 8 * nval then s.bump (Fld.STP_SV_CNT_FMT_CNT k)
  else
    let x : SvSample := { cnt := a.smpCnt.toNat, synced := a.synced, values := a.values.take nval, stamp := (s.base 2).count, done := s.nowTick, port := n }
    let m := s.inForce (Fld.STP_SV_CNT_CFG_SMPMAX k) + 1
    let d := ((a.smpCnt.toNat : Int) - s.rd (Fld.STP_SV_STAT_SMPCNT k)) % m
    if s.flag (Fld.STP_SV_STAT_VALID k) ∧ ¬ (1 ≤ d ∧ d ≤ (m + 1) / 2) then (s.bump (Fld.STP_SV_CNT_DUP_CNT k)).svSameTick k x
    else
      let s := (s.setSub k (fun u => { u with samples := x :: u.samples })).wrs [(Fld.STP_SV_STAT_SMPCNT k, a.smpCnt.toNat), (Fld.STP_SV_STAT_VALID k, 1)]
      let s := if s.inForce (Fld.STP_SV_CFG_REC k) = 1 then
          ((a.values.take nval).zipIdx).foldl (fun s p => s.recAll 1 (fun d => s.recSv k d) (s.ts32 3) 2 k p.2 (svData p.1 x.cnt x.synced)) s
        else s
      if s.inForce (Fld.STP_SV_CFG_APC k) = 1 then s.toApc n f else s

/-- The sampled-value frames the parser takes in a second at the present cadence (R436). -/
def State.svLimit (s : State) : Nat := 1000000 * s.rd Fld.HKP_CAD_STAT_K / 256

/-- A sampled-value frame: every subscription it matches takes its ASDUs; with none it is an other frame. -/
def State.svFrame (s : State) (n : Nat) (f : StationFrame) (appid : BitVec 16) (asdus : List Asdu) : State :=
  let ks := (List.range 64).filter (fun k => s.svMatches n k f appid && asdus.any (fun a => s.svidMatches k a))
  if ks = [] then s.otherFrame n f
  else
    let sec := (s.base 3).count / 1000000000
    let count := if s.stp.svSec = sec then s.stp.svCount else 0
    if s.svLimit ≤ count then (s.bump Fld.STP_CNT_SVDROP_CNT).raise Fld.STP_EVT_SV_DROP
    else
      let s : State := { s with stp := { s.stp with svSec := sec, svCount := count + 1 } }
      ks.foldl (fun s k => (asdus.filter (fun a => s.svidMatches k a)).foldl (fun s a => s.svSample n k f a) s) s

/-- The newest sample of a subscription whose parse completed by the counter tick `tin`. -/
def State.svNewest (s : State) (k tin : Nat) : Option SvSample := (s.sub k).samples.find? (fun x => decide (x.done ≤ tin))

/-- No new sample within STALE_US before the input instant, whose TB2 count is `tb2`. -/
def State.svStale (s : State) (k tin tb2 : Nat) : Bool :=
  match s.svNewest k tin with
  | none => true
  | some x => decide (x.stamp + 1000 * s.inForce (Fld.STP_SV_CNT_CFG_STALE_US k) < tb2)

/-- Measured word 0x60 + w (R435). -/
def State.svWord (s : State) (w tin tb2 : Nat) : W40 :=
  let k := s.inForce (Fld.STP_SVMAP_STREAM w)
  let item := s.inForce (Fld.STP_SVMAP_ITEM w)
  if s.inForce (Fld.STP_SVMAP_EN w) = 0 then 0
  else
    match s.svNewest k tin with
    | none => if s.svStale k tin tb2 then 2 ^ 35 else 0
    | some x =>
      let v := x.values.getD item ⟨0, false, false⟩
      let low := if item = 16 then x.cnt + min ((tb2 - x.stamp) / 1000) 65535 * 2 ^ 16 else v.value.toNat
      let q := if item = 16 then ⟨0, x.values.any (·.bad), x.values.any (·.test)⟩ else v
      BitVec.ofNat 40 (low + 2 ^ 32 + (if q.bad then 2 ^ 33 else 0) + (if q.test then 2 ^ 34 else 0)
        + (if s.svStale k tin tb2 then 2 ^ 35 else 0) + (if x.synced then 2 ^ 36 else 0))

/-- At a volley boundary only the newest sample is still of use; a subscription that is not enabled has none. -/
def State.svBoundary (s : State) : State :=
  let s := (List.range 64).foldl (fun s k => if s.inForce (Fld.STP_SV_CFG_EN k) = 0 ∧ s.flag (Fld.STP_SV_STAT_VALID k) then s.wr (Fld.STP_SV_STAT_VALID k) 0 else s) s
  { s with subs := FMap.mapVals SvSub.reset (fun k (u : SvSub) =>
      if s.inForce (Fld.STP_SV_CFG_EN k) = 0 then SvSub.reset else { u with samples := u.samples.take 1 }) s.subs }

/-! ### GOOSE (R437) -/

/-- An enabled filter that the frame matches. -/
def State.gooseMatches (s : State) (n g : Nat) (f : StationFrame) (appid : BitVec 16) (ref : List (BitVec 8)) : Bool :=
  s.flag (Fld.STP_GF_CFG_EN g) && bitOf (s.rd (Fld.STP_GF_CFG_PORTS g)) n &&
    f.dst == mac48 (s.rd (Fld.STP_GF_DMAC_LO_DMAC g)) (s.rd (Fld.STP_GF_DMAC_HI_DMAC g)) && appid.toNat == s.rd (Fld.STP_GF_CFG_APPID g) &&
    (s.rd (Fld.STP_GF_GOCB_GOCB_CRC g) == 0 || s.rd (Fld.STP_GF_GOCB_GOCB_CRC g) == (crc32c ref).toNat)

/-- A frame that matches a filter: passed on a new stNum, or dropped. -/
def State.gooseFrame (s : State) (n : Nat) (f : StationFrame) (appid : BitVec 16) (ref : List (BitVec 8)) (st : BitVec 32) (sim : Bool) (tal : Nat) : State :=
  let gs := (List.range 64).filter (fun g => s.gooseMatches n g f appid ref)
  if gs = [] then s.otherFrame n f
  else gs.foldl (fun s g =>
    if sim ∧ ¬ s.flag (Fld.STP_GF_CFG_SIM g) then s
    else
      let x := s.gooseOf g
      let s := s.setGoose g (fun _ => ⟨some st, some (s.nowTick, tal)⟩)
      if x.stNum = some st then s else s.toApc n f) s

/-- GOOSE_TAL_EXPIRE: twice the timeAllowedToLive of the last matching frame has passed. -/
def execGooseTalExpire (filter : Fin 64) (s : State) : Host.Outcome State Fault Refusal :=
  let g : Nat := filter
  .next (match (s.gooseOf g).last with
    | some (t, tal) =>
      if s.flag (Fld.STP_GF_CFG_EN g) ∧ t + 2 * tal * 800000 ≤ s.nowTick then
        ((s.setGoose g (fun _ => GooseFilter.reset)).wrBit (Fld.STP_GOOSE_TAL_TAL (g / 32)) (g % 32) true).raise Fld.STP_EVT_GOOSE_TAL g
      else s
    | none => s)

/-! ### Reset frames (R439, R440) -/

/-- The payload of a reset frame (R439), and whether its signature verifies. -/
def readReset (p : List (BitVec 8)) (sigOk : Bool) : ResetFrame :=
  { formatOk := p.length == 92 && decide (byteAt p 2 < 2), force := bitOf (byteAt p 2) 0, slot := p.getD 3 0, target := BitVec.ofNat 64 (leAt p 4 8),
    counter := BitVec.ofNat 64 (leAt p 12 8), notAfter := BitVec.ofNat 64 (leAt p 20 8), sigOk := sigOk }

/-- The payload of an answer (R440). -/
def ResetReply.bytes (r : ResetReply) : List (BitVec 8) :=
  [0x81, 1] ++ leBytes 2 r.status.code.toNat ++ leBytes 8 r.counter.toNat ++ leBytes 8 r.serial.toNat

/-- The checks of a reset frame before its signature, in their order. -/
def State.resetFrameChecks (s : State) (n : Nat) (r : ResetFrame) : List (Bool × Status) :=
  let slot := r.slot.toNat
  [
    (s.flag (Fld.STP_ST_CFG_RST_EN n), .notPermitted), (r.formatOk, .format),
    (decide (slot < 4) && bitOf (s.rd Fld.STP_RST_AUTH_MASK) slot && bitOf (s.rd (Fld.SEC_AUTH_WORD slot 8)) 0, .auth),
    (s.serialOk && r.target == s.serial, .scope),
    (decide (s.tSec < r.notAfter.toNat) && decide (r.notAfter.toNat ≤ s.tSec + 300), .notPermitted),
    (decide (s.sec.rstCounter.toNat < r.counter.toNat), .replay)]

/-- All checks of a reset frame; the first that fails names the status. -/
def State.checkResetFrame (s : State) (n : Nat) (r : ResetFrame) : Option Status :=
  let lc := s.rd Fld.SEC_LC_STATE
  let late : List (Bool × Status) := [(r.sigOk, .auth), (lc == 2 || lc == 3, .notPermitted)]
  ((s.resetFrameChecks n r ++ late).find? (fun c => !c.1)).map (·.2)

/-- The signature engine counts the signature of a reset frame, if the checks before it pass (R387, R439). -/
def State.countResetSig (s : State) (n : Nat) (r : ResetFrame) : State :=
  if (s.resetFrameChecks n r).all (·.1) then s.bump (if r.sigOk then Fld.SEC_CNT_SIGOK_CNT else Fld.SEC_CNT_SIGFAIL_CNT) else s

/-- The answer to a reset frame. -/
def State.answerReset (s : State) (n : Nat) (f : StationFrame) (r : ResetFrame) (st : Status) : State :=
  s.setPort n (fun p => { p with reply := some ⟨f.src, st, r.counter, s.serial⟩ })

/-- RESET_FRAME: at most 16 in a second and port, checked, answered, and taken as R63 lays down. -/
def State.resetFrame (s : State) (n : Nat) (f : StationFrame) (r : ResetFrame) : State :=
  let sec := (s.base 3).count / 1000000000
  let count := if (s.port n).rstSec = sec then (s.port n).rstCount else 0
  if 16 ≤ count then s.bump Fld.STP_CNT_RSTFAIL_CNT
  else
    let s := s.setPort n (fun p => { p with rstSec := sec, rstCount := count + 1 })
    let verdict := s.checkResetFrame n r
    let s := s.countResetSig n r
    match verdict with
    | some st => ((s.answerReset n f r st).bump Fld.STP_CNT_RSTFAIL_CNT).raise Fld.STP_EVT_RST_FAIL n
    | none =>
      match s.signedReset r.force (.cmdStation n) with
      | none => (s.answerReset n f r .notPermitted).raise Fld.STP_EVT_RST_REFUSED n
      | some t => { t with sec := { t.sec with rstCounter := r.counter } }.answerReset n f r .ok

/-! ### Receiving a frame (R426, R428, R438) -/

/-- The module's own protocol, routed by subtype (R438). A safety message reaches the island as a command of its own (R474). -/
def State.ownFrame (s : State) (n : Nat) (f : StationFrame) : State :=
  match f.body with
  | .own p sig =>
    let sub := byteAt p 0
    if byteAt p 1 ≠ 1 then s.bump Fld.STP_CNT_OWNDROP_CNT
    else if sub = 1 then s.resetFrame n f (readReset p sig)
    else if sub = 2 then s
    else if sub = 3 then s.toApc n f
    else s.bump Fld.STP_CNT_OWNDROP_CNT
  | _ => s.bump Fld.STP_CNT_OWNDROP_CNT

/-- The frame's copy inside the module, by the first rule of R428 that matches. -/
def State.classify (s : State) (n : Nat) (f : StationFrame) : State :=
  if f.etype = 0x88F7 then s.toPtp n f
  else if f.etype = 0x88BA then
    match f.body with
    | .sv appid asdus => s.svFrame n f appid asdus
    | _ => s.otherFrame n f
  else if f.etype = 0x88B8 then
    match f.body with
    | .goose appid ref st sim tal => s.gooseFrame n f appid ref st sim tal
    | _ => s.otherFrame n f
  else if f.etype.toNat = s.rd Fld.STP_ETYPE_ETYPE then s.ownFrame n f
  else s.otherFrame n f

/-- STATION_FRAME_RECEIVE. `wait` describes the bridge's egress port (see `State.forward`). -/
def execStationFrameReceive (port : Fin 4) (f : StationFrame) (wait : Option Nat) (s : State) : Host.Outcome State Fault Refusal :=
  let n : Nat := port
  .next (if ¬ s.flag (Fld.STP_ST_STAT_LINK_UP n) then s
    else if 2048 < f.length ∨ f.twoTags ∨ f.pause then
      if f.fcsOk then (s.bump (Fld.STP_ST_CNT_RX_CNT n)).bump (Fld.STP_ST_CNT_DROP_CNT n) else s.bump (Fld.STP_ST_CNT_FCS_CNT n)
    else
      let s := s.forward n f wait
      if ¬ f.fcsOk then s.bump (Fld.STP_ST_CNT_FCS_CNT n)
      else (s.bump (Fld.STP_ST_CNT_RX_CNT n)).classify n f)

/-! ### Port and global registers -/

/-- STATION_LINK_CHANGE: a port's link comes up at the speed set, or goes down. -/
def execStationLinkChange (port : Fin 4) (up : Bool) (s : State) : Host.Outcome State Fault Refusal :=
  let sp := s.rd (Fld.STP_ST_CFG_SPEED port)
  .next (if up ∧ sp ≠ 0 then s.wrs [(Fld.STP_ST_STAT_LINK_UP port, 1), (Fld.STP_ST_STAT_SPEED port, sp)]
    else s.wrs [(Fld.STP_ST_STAT_LINK_UP port, 0), (Fld.STP_ST_STAT_SPEED port, 0)])

/-- A write of STP_BRIDGE.EN: 1 is refused while the two ports run at different speeds (R429). -/
def State.bridgeWrite (s : State) (on : Bool) : State :=
  if on ∧ s.rd (Fld.STP_ST_CFG_SPEED 0) ≠ s.rd (Fld.STP_ST_CFG_SPEED 1) then s.raise Fld.STP_EVT_INVALID_WR
  else s.wrB Fld.STP_BRIDGE_EN on

def execStpBridgeEnable (u : Core) (on : Bool) (s : State) : Host.Outcome State Fault Refusal :=
  .next (s.asWriter u 7 (fun s => s.bridgeWrite on))

/-- STP_LOCK. -/
def execStpLock (u : Core) (s : State) : Host.Outcome State Fault Refusal :=
  .next (s.asWriter u 7 (fun s => s.wr Fld.STP_LOCK_LOCK 1))

/-- CNT_CLR clears every STP counter (R452). -/
def State.stpCntClear (s : State) : State :=
  let s := (List.range 4).foldl (fun s n => s.wrs [(Fld.STP_ST_CNT_RX_CNT n, 0), (Fld.STP_ST_CNT_FCS_CNT n, 0), (Fld.STP_ST_CNT_DROP_CNT n, 0),
    (Fld.STP_ST_CNT_FWDDROP_CNT n, 0), (Fld.STP_ST_CNT_STOMP_CNT n, 0)]) s
  let s := (List.range 64).foldl (fun s k => s.wrs [(Fld.STP_SV_CNT_DUP_CNT k, 0), (Fld.STP_SV_CNT_FMT_CNT k, 0)]) s
  s.wrs [(Fld.STP_CNT_SVDROP_CNT, 0), (Fld.STP_CNT_OWNDROP_CNT, 0), (Fld.STP_CNT_RSTFAIL_CNT, 0), (Fld.STP_CNT_TCUNM_CNT, 0)]

def execStpCntClr (u : Core) (s : State) : Host.Outcome State Fault Refusal := .next (s.asWriter u 7 (fun s => s.stpCntClear))

end Sys2Proof.Machine
end

