-- ==== Sys2Proof/Machine/Angles.lean ====
section
/-! DEFINITION. Cosine of an angle and the angle of a vector, as the standard program uses them (R258, R269): computed on integers, and
free in their last bits only, since the spec gives the program's method no name (log 56). -/

namespace Sys2Proof.Machine

/-- Pi in units of 2^-96. -/
def piQ : Nat := 0x3243F6A8885A308D313198A2E

/-- Of the series of a cosine (`odd` 0) or of a sine over its argument (`odd` 1), with the square `x2` of the argument: `n` terms from
term `j` on, over term `j`; in units of 2^-96. -/
def trigSeries (x2 odd : Nat) : Nat → Nat → Int
  | _, 0 => 2 ^ 96
  | j, n + 1 => 2 ^ 96 - (x2 : Int) * trigSeries x2 odd (j + 1) n / 2 ^ 96 / ((2 * j + 1 + odd) * (2 * j + 2 + odd) : Nat)

/-- An angle of at most a quarter turn, in units of 2^-32 turn, as radians in units of 2^-96. -/
def radians (t : Nat) : Nat := t * 2 * piQ / 2 ^ 32

/-- Cosine and sine of an angle of at most a quarter turn, in units of 2^-96. -/
def cosQ (t : Nat) : Int := trigSeries (radians t * radians t / 2 ^ 96) 0 0 16
def sinQ (t : Nat) : Int := (radians t : Int) * trigSeries (radians t * radians t / 2 ^ 96) 1 0 16 / 2 ^ 96

/-- A value with its last bits replaced by free ones: at most 4 units of the last place away. -/
def lastBits (w : W40) (free : Nat) : W40 := w + BitVec.ofInt 40 ((free % 9 : Nat) - 4)

/-- Cosine of an angle in units of 2^-32 turn: exact at the quarter turns, elsewhere free in its last bits. -/
def cosT (a : BitVec 32) : W40 :=
  let q := a.toNat / 2 ^ 30
  let t := a.toNat % 2 ^ 30
  if t = 0 then (if q = 0 then fOne else if q = 2 then fNegOne else fZero false)
  else
    let v := if q % 2 = 0 then cosQ t else sinQ t
    lastBits (deliver .nearest (q == 1 || q == 2) v.natAbs (-96)).val (Config.cosLast a)

/-- Sine: the cosine of the angle less a quarter turn. -/
def sinT (a : BitVec 32) : W40 := cosT (a - 0x40000000)

/-- A finite value as an integer multiple of 2^-157. -/
def fUnits (w : W40) : Int := (if fSign w then -1 else 1) * (fMant w * 2 ^ (fPow w + 157).toNat : Nat)

/-- The angle of a vector of the first quarter turn: the greatest from `a` on, looked for over `n` bits, at which `y / x` is not below the
tangent. -/
def angleBits (y x : Int) : Nat → Nat → Nat
  | 0, a => a
  | n + 1, a => angleBits y x n (if x * sinQ (a + 2 ^ n) ≤ y * cosQ (a + 2 ^ n) then a + 2 ^ n else a)

/-- The angle of (x, y) in units of 2^-32 turn: exact on the axes, elsewhere free in its last bits; free as a whole for no direction, an
infinity or a NaN. -/
def atan2T (y x : W40) : BitVec 32 :=
  let fin := fun (w : W40) => fExp w != 255
  let b := fUnits y
  let a := fUnits x
  if ¬ fin y ∨ ¬ fin x ∨ (a = 0 ∧ b = 0) then Config.atan2Open y x
  else if b = 0 then (if 0 < a then 0 else 0x80000000)
  else if a = 0 then (if 0 < b then 0x40000000 else 0xC0000000)
  else
    let t := if 0 < a ∧ 0 < b then angleBits b a 30 0
      else if 0 < b then 2 ^ 30 + angleBits (-a) b 30 0
      else if a < 0 then 2 ^ 31 + angleBits (-b) (-a) 30 0
      else 3 * 2 ^ 30 + angleBits a (-b) 30 0
    BitVec.ofNat 32 t + BitVec.ofInt 32 ((Config.atan2Last y x % 9 : Nat) - 4)

end Sys2Proof.Machine
end

