-- ==== Sys2Proof/Machine/StdProgram.lean ====
section
/-! DEFINITION. The standard control program (R249 to R276): what one volley of it does to the data memory and the event
words of the leg engine it runs on. Its work takes effect at its counted DONE: a volley that overruns is one it missed (R255). It keeps its state in 0x2800 to 0x2BFF: profile q (x, v, a, target) at 0x2800 + 4q;
0x2810 the last volley run; 0x2811 flags; 0x2812 to 0x2815 the integrators of both arms, the sum and the difference loop;
0x2816 + i the energy observers; 0x2818 + i the edge residuals; 0x281A the tracker's f_i; 0x281C + k the supervision of the
checks, and 0x2830 + 2k the ACCEPT words of P and Q at their record; 0x2822 to 0x2826 the references i_d, i_q, i_dc, i_cs, i_cd;
0x2828 + i ROT; 0x2900 + 384 i the VKEYs held of arm i, two to a word. -/

namespace Sys2Proof.Machine

/-! ### Arithmetic in the engine's rounding mode -/

/-- A word of the engine's data memory. -/
def State.w (s : State) (e a : Nat) : W40 := (s.eng e).mem a

/-- FRM at window opening. -/
def State.frmOf (s : State) (e : Nat) : RMode := rmOf (s.rd (Fld.CE_CFG_FRM e)) 0

/-- An integer as F40. -/
def fInt (m : RMode) (v : Int) : W40 := (deliver m (decide (v < 0)) v.natAbs 0).val
/-- The quotient of two integers. -/
def fRat (m : RMode) (a b : Int) : W40 := (fDiv m (fInt m a) (fInt m b)).val
/-- An F40 value times 2^k as an integer, rounded in a mode. -/
def fRound (m : RMode) (k : Int) (v : W40) : Int := (fToInt m k false v).val.toInt
def addF (m : RMode) (a b : W40) : W40 := (fAdd m a b).val
def subF (m : RMode) (a b : W40) : W40 := (fSub m a b).val
def mulF (m : RMode) (a b : W40) : W40 := (fMul m a b).val
def divF (m : RMode) (a b : W40) : W40 := (fDiv m a b).val
def sqrtF (m : RMode) (a : W40) : W40 := (fSqrt m a).val
def minF (a b : W40) : W40 := (fMinMax false a b).val
def maxF (a b : W40) : W40 := (fMinMax true a b).val
def ltF (a b : W40) : Bool := (fLt a b).val == 1
def leF (a b : W40) : Bool := (fLe a b).val == 1
/-- A value held between -l and l. -/
def clampF (l a : W40) : W40 := maxF (fNeg l) (minF l a)

/-- The period in seconds: PERIOD x 1.25 ns (R253). -/
def stepOf (m : RMode) (period : Nat) : W40 := divF m (fInt m period) (fInt m 800000000)

/-! ### The engine's inputs -/

/-- Base of the parameter bank in use, and a parameter word of it (R250, R266). -/
def State.bankBase (s : State) (e b : Nat) : Nat := if (s.w e b).getLsbD 0 then 0x2510 else 0x2410
def State.par (s : State) (e i : Nat) : W40 := s.w e (s.bankBase e 0x2401 + i)

/-- A measured input as its signed value (R305, R435): a code of 16 bits from the analogue words, 32 bits from the
sampled-value words. -/
def State.inputOf (s : State) (e off : Nat) : Int :=
  let w := s.w e off
  if off < 0x60 then (w.setWidth 16).toInt else (w.setWidth 32).toInt

/-- Byte `i` of a channel word. -/
def chanOf (w : W40) (i : Nat) : Nat := w.toNat / 2 ^ (8 * i) % 256

/-- A measured voltage or current in V or A. -/
def State.volts (s : State) (e i : Nat) : W40 := mulF (s.frmOf e) (fInt (s.frmOf e) (s.inputOf e (chanOf (s.par e 1) i))) (s.par e 3)
def State.amps (s : State) (e i : Nat) : W40 := mulF (s.frmOf e) (fInt (s.frmOf e) (s.inputOf e (chanOf (s.par e 2) i))) (s.par e 4)

/-- The volley of the window, the period in ticks, and whether converter `c` is blocked (R193). -/
def State.hdrVolley (s : State) (e : Nat) : BitVec 32 := (s.w e 0).setWidth 32
def State.hdrPeriod (s : State) (e : Nat) : Nat := (s.w e 2).toNat % 2 ^ 17
def State.hdrBlocked (s : State) (e : Nat) : Bool := (s.w e 0x400).getLsbD 28

/-- One volley number is later than another. -/
def laterV (a b : BitVec 32) : Bool := decide (1 ≤ (a - b).toNat) && decide ((a - b).toNat < 2 ^ 31)

/-- Bits of the flag word. -/
def State.pflag (s : State) (e i : Nat) : Bool := (s.w e 0x2811).getLsbD i
def State.setPflag (s : State) (e i : Nat) (b : Bool) : State :=
  let w := s.w e 0x2811
  s.putMem e 0x2811 (if b then w ||| (1#40 <<< i) else w &&& ~~~(1#40 <<< i))

/-- A record: an item of two words through EVQ (R275, R498). -/
def State.stdRecord (s : State) (e type arm i detail : Nat) : State :=
  let s := s.putCsr e 7 0xA2000000
  let s := s.putCsr e 7 (BitVec.ofNat 40 (type * 2 ^ 24 + arm % 64 * 2 ^ 18 + i % 64 * 2 ^ 12 + min detail 4095))
  s.putCsr e 7 ((s.hdrVolley e).setWidth 40)

/-- The number of the arm in a slot (R194). -/
def State.slotArm (s : State) (e a : Nat) : Nat := (s.w e (0x400 + a * 0x400)).toNat % 64

/-! ### Parameter banks (R266, R268) -/

/-- A word lies in 0 to 1. -/
def unitF (w : W40) : Bool := leF (fZero false) w && leF w fOne

/-- The offset of the first word of a bank that fails R268; `mode` is the CMODE in use while the converter runs. -/
def bankFault (b : Nat → W40) (mode : Option Nat) : Option Nat :=
  let w0 := (b 0).toNat
  let bad := fun (i : Nat) =>
    if i = 0 then w0 % 4 == 3 || w0 / 2 ^ 14 % 4 == 3 || w0 / 2 ^ 18 % 4 == 3 || w0 / 2 ^ 20 % 4 == 3 || w0 / 2 ^ 22 != 0
        || (match mode with | some c => c != w0 % 4 | none => false)
    else if i = 1 then (List.range 4).any (fun k => decide (chanOf (b 1) k < 0x40)) || (b 1).toNat / 2 ^ 32 != 0
    else if i = 2 then (List.range 3).any (fun k => decide (chanOf (b 2) k < 0x40)) || (b 2).toNat / 2 ^ 24 != 0
    else if i = 7 ∨ i = 8 ∨ i = 31 ∨ i = 43 then !unitF (b i)
    else if i = 9 then (b 9).toNat / 2 ^ 17 != 0
    else if i = 35 then !ltF (b 37) (b 35)
    else if i = 36 then !ltF (b 35) (b 36) || !leF (b 36) (fInt .nearest 100)
    else if i = 37 then !ltF (fZero false) (b 37)
    else if i = 42 then (b 42).toNat == 0 || decide (255 < (b 42).toNat)
    else decide (44 ≤ i) && b i != 0
  (List.range 256).find? bad

/-- SEL, as the window's first data access read it, against ACK (R266, R267): the bank is adopted, or rejected once for that SEL. The flag
says that CMODE changed. -/
def State.stdBank (s : State) (e : Nat) : State × Bool :=
  let sel := (s.eng e).sel
  if sel = (s.w e 0x2401).getLsbD 0 then (s.setPflag e 2 false, false)
  else
    let was := (s.par e 0).toNat % 4
    let base := if sel then 0x2510 else 0x2410
    match bankFault (fun i => s.w e (base + i)) (if s.hdrBlocked e then none else some was) with
    | some i => (if s.pflag e 2 then s else (s.stdRecord e 2 (s.slotArm e 0) 0 i).setPflag e 2 true, false)
    | none =>
      let s := (s.putMem e 0x2401 (boolWord sel)).setPflag e 2 false
      (s.stdRecord e 1 (s.slotArm e 0) 0 (if sel then 1 else 0), (s.par e 0).toNat % 4 != was)

/-! ### Angle tracker (R269) -/

/-- What the tracker did in a volley: the angle before and after, and whether the volley has a defined step. -/
structure TrackStep where
  before : BitVec 32
  after  : BitVec 32
  moved  : Bool
  /-- FADED was entered in this volley. -/
  faded  : Bool
deriving DecidableEq, Repr

/-- One volley of the tracker. -/
def State.stdTracker (s : State) (e : Nat) : State × TrackStep :=
  let m := s.frmOf e
  let va := s.volts e 0; let vb := s.volts e 1; let vc := s.volts e 2
  let al := divF m (subF m (subF m (mulF m (fInt m 2) va) vb) vc) (fInt m 3)
  let be := divF m (subF m vb vc) (sqrtF m (fInt m 3))
  let v := sqrtF m (addF m (mulF m al al) (mulF m be be))
  let a : BitVec 32 := (s.w e 0x2E00).setWidth 32
  let st := (s.w e 0x2E04).toNat % 4
  let s := s.putMem e 0x2E03 v
  let arm := s.slotArm e 0
  if ltF v (s.par e 38) then
    let s := if st = 0 then s else (s.putMem e 0x2E04 0).stdRecord e 0x14 arm 0 0
    (s, ⟨a, a, false, false⟩)
  else if st = 0 then
    let a' := atan2T be al
    let s := s.putMems e 0x2E00 [a'.setWidth 40, s.par e 35, s.par e 35]
    let s := (s.putMem e 0x281A (s.par e 35)).putMem e 0x2E04 1
    (s.stdRecord e 0x14 arm 0 17, ⟨a, a', false, false⟩)
  else
    let h := stepOf m (s.hdrPeriod e)
    let err := divF m (subF m (mulF m be (cosT a)) (mulF m al (sinT a))) v
    let fi := s.w e 0x281A
    let f := clampF (s.par e 36) (addF m fi (mulF m (s.par e 33) err))
    let a' := a + BitVec.ofInt 32 (fRound m 32 (mulF m f h))
    let fb := s.w e 0x2E02
    let fb := addF m fb (divF m (mulF m (subF m f fb) h) (s.par e 39))
    let s := s.putMems e 0x2E00 [a'.setWidth 40, f, fb]
    let s := s.putMem e 0x281A (addF m fi (mulF m (mulF m (s.par e 34) err) h))
    let st' := if st = 1 then (if ltF fb (s.par e 37) then 2 else 1)
               else (if leF (addF m (s.par e 37) fOne) fb then 1 else 2)
    let s := if st' = st then s else (s.putMem e 0x2E04 (BitVec.ofNat 40 st')).stdRecord e 0x14 arm 0 st'
    (s, ⟨a, a', true, st' == 2 && st == 1⟩)

/-! ### Angle events (R271 to R274) -/

/-- The record of an event. -/
def State.evRecord (s : State) (e type i detail : Nat) : State := s.stdRecord e type (s.slotArm e 0) i detail

/-- Words 4 to 7 of an entry. -/
def evWord4 (state : Nat) (c : Int) (seen : Bool) : W40 :=
  BitVec.ofNat 40 (state + (BitVec.ofInt 4 c).toNat * 8 + (if seen then 128 else 0))

/-- Net crossings after a step (R272). -/
def crossings (c : Int) (phi : BitVec 32) (t : TrackStep) : Int :=
  let d : Int := (t.after - t.before).toInt
  let u := (phi - t.before).toNat
  let w := (t.before - phi).toNat
  let c := if 0 < d ∧ 1 ≤ u ∧ (u : Int) ≤ d then c + 1 else c
  if d < 0 ∧ (w : Int) < -d then max (c - 1) (-8) else c

/-- One entry in one volley; the trigger bits collected so far are passed on. -/
def State.stdEvent (s : State) (e : Nat) (t : TrackStep) (trig : Nat) (i : Nat) : State × Nat :=
  let b := 0x2C00 + 8 * i
  let w0 := s.w e b
  let en := w0.getLsbD 0
  let act := w0.toNat / 4 % 16
  let arg := w0.toNat / 64 % 256
  let w4 := s.w e (b + 4)
  let st := w4.toNat % 8
  let seen := w4.getLsbD 7
  let c : Int := (BitVec.ofNat 4 (w4.toNat / 8)).toInt
  let v := s.hdrVolley e
  let faded := (s.w e 0x2E04).toNat % 4 == 2
  if ¬ en then (if w4 = 0 then s else s.putMem e (b + 4) 0, trig)
  else if ¬ seen then
    if 3 ≤ act ∨ (act = 1 ∧ 4 ≤ arg) ∨ (act = 2 ∧ 16 ≤ arg) then
      ((s.putMem e (b + 4) (evWord4 6 0 true)).evRecord e 0x13 i act, trig)
    else if faded then (s, trig)
    else ((s.putMem e (b + 4) (evWord4 1 0 true)).putMem e (b + 5) (v.setWidth 40), trig)
  else if st ≠ 1 ∧ st ≠ 2 then (s, trig)
  else if t.faded then ((s.putMem e (b + 4) (evWord4 5 c true)).evRecord e 0x12 i 0, trig)
  else
    let c' := if t.moved then crossings c ((s.w e (b + 1)).setWidth 32) t else c
    if c' = 1 then
      let tick := ((s.w e (b + 1)).setWidth 32 - t.before).toNat * s.hdrPeriod e / (t.after - t.before).toNat
      let s := s.putMems e (b + 6) [v.setWidth 40, BitVec.ofNat 40 (tick % 2 ^ 17)]
      let s := if w0.getLsbD 1 then (s.putMem e (b + 4) (evWord4 1 0 true)).putMem e (b + 5) (v.setWidth 40)
        else s.putMem e (b + 4) (evWord4 3 c' true)
      (s.evRecord e 0x10 i tick, if act = 2 ∧ ¬ bitOf trig arg then trig + 2 ^ arg else trig)
    else
      let tmo := (s.w e (b + 2)).toNat % 2 ^ 24
      if tmo ≠ 0 ∧ tmo ≤ (v - (s.w e (b + 5)).setWidth 32).toNat then
        ((s.putMem e (b + 4) (evWord4 4 c' true)).evRecord e 0x11 i 0, trig)
      else (s.putMem e (b + 4) (evWord4 (if c' < 0 then 2 else 1) c' true), trig)

/-- All entries, ascending. -/
def State.stdEvents (s : State) (e : Nat) (t : TrackStep) : State × Nat :=
  (List.range 64).foldl (fun (x : State × Nat) i => x.1.stdEvent e t x.2 i) (s, 0)

/-- A value of quantity `q` accepted at `acc` waits for an angle event (R274). -/
def State.stdHeld (s : State) (e q : Nat) (acc : BitVec 32) : Bool :=
  (List.range 64).any (fun i =>
    let b := 0x2C00 + 8 * i
    let st := (s.w e (b + 4)).toNat % 8
    (st == 1 || st == 2) && (s.w e b).toNat / 4 % 16 == 1 && (s.w e b).toNat / 64 % 256 == q &&
      laterV acc ((s.w e (b + 5)).setWidth 32))

/-! ### Profiles (R253 to R255) -/

/-- One step of the profile generator: x, v and a toward a target. -/
def profileStep (m : RMode) (h vm am jm : W40) (p : W40 × W40 × W40) (tgt : W40) : W40 × W40 × W40 :=
  let z := fZero false
  let (x, v, a) := p
  if ¬ ltF z vm ∨ ¬ ltF z am ∨ ¬ ltF z jm then (tgt, z, z) else
  let d := subF m tgt x
  let s := if leF z d then fOne else fNeg fOne
  let ease := if jm = fInf false then z else divF m (mulF m (fAbs v) am) jm
  let vc := mulF m s (minF vm (sqrtF m (mulF m (mulF m (fInt m 2) am) (maxF (subF m (fAbs d) ease) z))))
  let ac := maxF (fNeg am) (minF am (divF m (subF m vc v) h))
  let a := addF m a (maxF (mulF m (fNeg jm) h) (minF (mulF m jm h) (subF m ac a)))
  let v := maxF (fNeg vm) (minF vm (addF m v (mulF m a h)))
  let x := addF m x (mulF m v h)
  if leF (mulF m (subF m tgt x) s) z then (tgt, z, z) else (x, v, a)

/-- SUP_ACT 2 is in force on some check (R264). -/
def State.supForced (s : State) (e : Nat) : Bool :=
  (List.range 3).any (fun k => (s.w e (0x281C + k)).getLsbD 21)

/-- The steps of quantity `q` up to this volley: its target at each, then the step. `held` says whether its value waited for an angle
event before this volley: an event fired now changes the targets from this volley on (R274). -/
def State.profileSteps (s : State) (e q : Nat) (held : Bool) : Nat → State
  | 0 => s
  | n + 1 =>
    let m := s.frmOf e
    let b := 0x2800 + 4 * q
    let v := s.hdrVolley e - BitVec.ofNat 32 n
    let set := s.w e (0x400 + 17 + 2 * q)
    let acc : BitVec 32 := set.setWidth 32
    let wait := if n = 0 then s.stdHeld e q acc else held
    let tgt := if set.getLsbD 39 ∧ ¬ laterV acc v ∧ ¬ wait then s.w e (0x400 + 16 + 2 * q) else s.w e (b + 3)
    let tgt := if q < 2 ∧ s.supForced e then fZero false else tgt
    let p := profileStep m (stepOf m (s.hdrPeriod e)) (s.par e (19 + 3 * q)) (s.par e (20 + 3 * q)) (s.par e (21 + 3 * q))
      (s.w e b, s.w e (b + 1), s.w e (b + 2)) tgt
    (s.putMems e b [p.1, p.2.1, p.2.2, tgt]).profileSteps e q held n

/-- Every quantity is at rest on its target. -/
def State.atRest (s : State) (e : Nat) : Bool :=
  (List.range 4).all (fun q => s.w e (0x2801 + 4 * q) == 0 && s.w e (0x2802 + 4 * q) == 0 && s.w e (0x2800 + 4 * q) == s.w e (0x2803 + 4 * q))

/-- Volleys since the last run, 1 for the first. -/
def State.stdGone (s : State) (e : Nat) : Nat :=
  let last := s.w e 0x2810
  if last.getLsbD 39 then (s.hdrVolley e - last.setWidth 32).toNat else 1

/-- Whether the value of each quantity waits for an angle event (R274). -/
def State.stdWaits (s : State) (e : Nat) : List Bool := (List.range 4).map (fun q => s.stdHeld e q ((s.w e (0x400 + 17 + 2 * q)).setWidth 32))

/-- The profiles of a volley: one step for each volley since the last run, at most 8; after 9 or more missed volleys one
step without catching up, and PROF_LAG. -/
def State.stdProfiles (s : State) (e : Nat) (held : List Bool) : State :=
  let gone := s.stdGone e
  let n := if 10 ≤ gone then 1 else min gone 8
  let s := (List.range 4).foldl (fun (s : State) q => s.profileSteps e q (held.getD q false) n) s
  let s := s.putMem e 0x2810 ((s.hdrVolley e).setWidth 40 ||| (1#40 <<< 39))
  if 10 ≤ gone then (s.stdRecord e 6 (s.slotArm e 0) 0 (gone - 1)).setPflag e 11 true
  else if s.atRest e then s.setPflag e 11 false else s

/-! ### Arm energies (R257) -/

/-- Member words of the arm in slot `i`, with their numbers. -/
def State.memberWords (s : State) (e i : Nat) : List (Nat × W40) :=
  let b := 0x400 + i * 0x400
  (List.range ((s.w e b).toNat / 2 ^ 16 % 1024)).map (fun m => (m, s.w e (b + 0x40 + m)))

def mVkey (w : W40) : Nat := w.toNat / 2 ^ 24
def mHb (w : W40) : Nat := w.toNat / 2 ^ 20 % 4
def mCase (w : W40) : Nat := w.toNat / 2 ^ 17 % 8
def mVer (w : W40) : Nat := w.toNat / 2 ^ 15 % 4
def mFb (w : W40) : Bool := w.getLsbD 14
/-- VALID and AVAIL. -/
def mUsable (w : W40) : Bool := w.getLsbD 10 && w.getLsbD 13
/-- In R_0: CASE 0, or 4 ranked on its converted key. -/
def mRanked (w : W40) : Bool := mCase w == 0 || mCase w == 4

/-- Keep the VKEYs of the members of CASE 0 and 4. -/
def State.holdKeys (s : State) (e i : Nat) : State :=
  (s.memberWords e i).foldl (fun (s : State) p =>
    if p.2.getLsbD 10 ∧ mRanked p.2 then
      let a := 0x2900 + 384 * i + p.1 / 2
      let sh := 20 * (p.1 % 2)
      s.putMem e a ((s.w e a &&& ~~~(0xFFFFF#40 <<< sh)) ||| (BitVec.ofNat 40 (mVkey p.2 + 0x10000) <<< sh))
    else s) s

/-- The VKEYs that count toward the energy of an arm. -/
def State.energyKeys (s : State) (e i : Nat) : List Nat :=
  (s.memberWords e i).filterMap (fun p =>
    if ¬ mUsable p.2 then none
    else
      let held := (s.w e (0x2900 + 384 * i + p.1 / 2)).toNat / 2 ^ (20 * (p.1 % 2))
      if held / 65536 % 2 = 1 then some (held % 65536) else none)

/-- LSB_REF in V. -/
def State.lsbVolts (s : State) (e i : Nat) : W40 := fRat (s.frmOf e) ((s.w e (0x404 + i * 0x400)).toNat : Int) 1000000

/-- The energy of an arm and its mean cell voltage. -/
def State.armEnergy (s : State) (e i : Nat) : W40 × W40 :=
  let m := s.frmOf e
  let ks := s.energyKeys e i
  let u := s.lsbVolts e i
  let sum : Nat := ks.foldl (· + ·) 0
  let squares : Nat := ks.foldl (fun a k => a + k * k) 0
  (divF m (mulF m (mulF m (s.par e 17) (fInt m squares)) (mulF m u u)) (fInt m 2), mulF m (fRat m sum ks.length) u)

/-! ### References and loops (R256 to R259) -/

/-- The integrators are held (R257, R264). -/
def State.stdHold (s : State) (e : Nat) : Bool :=
  (List.range 2).any (fun i => (s.w e (0x401 + i * 0x400)).toNat / 2 ^ 10 % 16 != 0 || s.pflag e (4 + i)) ||
    (List.range 3).any (fun k => (s.w e (0x281C + k)).getLsbD 20)

/-- A PI loop over `dt`: its output, its integrator at `a` advanced unless held. -/
def State.piLoop (s : State) (e a : Nat) (kp ki err dt : W40) (hold : Bool) : State × W40 :=
  let m := s.frmOf e
  let s := if hold then s else s.putMem e a (addF m (s.w e a) (mulF m (mulF m ki err) dt))
  (s, addF m (mulF m kp err) (s.w e a))

/-- The tracked amplitude, at least V_MIN (R256). -/
def State.vHat (s : State) (e : Nat) : W40 := maxF (s.w e 0x2E03) (s.par e 38)

/-- The angle of the leg's phase (R258). -/
def State.legAngle (s : State) (e : Nat) : BitVec 32 :=
  (s.w e 0x2E00).setWidth 32 - BitVec.ofNat 32 ((s.par e 0).toNat / 2 ^ 20 % 4 * 2 ^ 32 / 3)

/-- E_ARM_REF, or E_ARM_NOM while none was set (R252). -/
def State.energyRef (s : State) (e : Nat) : W40 := if (s.w e (0x400 + 25)).getLsbD 39 then s.w e (0x400 + 24) else s.par e 18

/-- The outer loops in the volleys in which they run (R256, R257). -/
def State.stdOuter (s : State) (e : Nat) (eUp eLo : W40) : State :=
  let m := s.frmOf e
  let w0 := (s.par e 0).toNat
  let dOut := w0 / 4 % 64 + 1
  if (s.hdrVolley e).toNat % dOut ≠ w0 / 2 ^ 8 % 64 % dOut then s else
  let vd := s.volts e 3
  let vh := s.vHat e
  let droop := addF m (s.w e 0x2800) (divF m (subF m vd (s.w e 0x2808)) (s.par e 10))
  let pc := if w0 % 4 = 0 then s.w e 0x2800 else droop
  let qc := if w0 % 4 = 2 then mulF m (s.par e 11) (subF m (s.w e 0x280C) (mulF m (sqrtF m (fRat m 3 2)) vh)) else s.w e 0x2804
  let base := mulF m (fRat m 3 2) vh
  let iMax := s.par e 12
  let id := clampF iMax (divF m pc base)
  let iq := clampF (sqrtF m (subF m (mulF m iMax iMax) (mulF m id id))) (divF m (fNeg qc) base)
  let idc := divF m pc (mulF m (fInt m 3) vd)
  let dt := mulF m (fInt m dOut) (stepOf m (s.hdrPeriod e))
  let hold := s.stdHold e
  let (s, ps) := s.piLoop e 0x2814 (s.par e 13) (s.par e 14) (subF m (subF m (mulF m (fInt m 2) (s.energyRef e)) eUp) eLo) dt hold
  let (s, pd) := s.piLoop e 0x2815 (s.par e 15) (s.par e 16) (subF m eLo eUp) dt hold
  s.putMems e 0x2822 [id, iq, idc, divF m ps vd, divF m (mulF m (fInt m 2) pd) vh]

/-- The first volley unblocked, or a change of CMODE (R259). A quantity that was never set takes its value as its target too (R252). -/
def State.stdDeblock (s : State) (e : Nat) (eUp eLo : W40) : State :=
  let m := s.frmOf e
  let z := fZero false
  let vd := s.volts e 3
  let va := mulF m (sqrtF m (fRat m 3 2)) (s.vHat e)
  let s := s.putMems e 0x2812 [0, 0, 0, 0, eUp, eLo, 0, 0]
  [(0, z), (1, z), (2, vd), (3, va)].foldl (fun (s : State) p =>
    let s := s.putMems e (0x2800 + 4 * p.1) [p.2, z, z]
    if (s.w e (0x411 + 2 * p.1)).getLsbD 39 then s else s.putMem e (0x2803 + 4 * p.1) p.2) s

/-- Current reference, voltage reference and measured current of the arm in slot `i` (R258). -/
def State.stdArm (s : State) (e i : Nat) : State × W40 × W40 × W40 :=
  let m := s.frmOf e
  let up := i == 0
  let half := fRat m 1 2
  let th := s.legAngle e
  let iac := subF m (mulF m (s.w e 0x2822) (cosT th)) (mulF m (s.w e 0x2823) (sinT th))
  let dc := addF m (addF m (s.w e 0x2824) (s.w e 0x2825)) (mulF m (s.w e 0x2826) (cosT th))
  let iref := (if up then addF m else subF m) dc (mulF m half iac)
  let imeas := s.amps e i
  let err := subF m iref imeas
  let (s, pi) := s.piLoop e (0x2812 + i) (s.par e 5) (s.par e 6) err (stepOf m (s.hdrPeriod e)) (s.stdHold e)
  let w0 := s.par e 0
  let kAc := if w0.getLsbD 16 then s.par e 7 else fZero false
  let kDc := if w0.getLsbD 17 then s.par e 8 else fZero false
  let lead := fRound m 32 (mulF m (s.w e 0x2E01) (stepOf m ((s.par e 9).toNat % 2 ^ 17)))
  let leg := w0.toNat / 2 ^ 20 % 4
  let vff := addF m (s.volts e leg) (mulF m (s.vHat e) (subF m (cosT (th + BitVec.ofInt 32 lead)) (cosT th)))
  let dcPart := mulF m (mulF m kDc (s.volts e 3)) half
  let u := subF m ((if up then subF m else addF m) dcPart (mulF m kAc vff)) pi
  (s, iref, u, imeas)

/-! ### Edges (R260 to R263) -/

/-- Remove the first pair of edges less than 160 ticks apart, as step 3 of R262 does; `none` when there is none. -/
def spaceOnce : Bool → List (Nat × Int) → Option (List (Nat × Int))
  | first, x :: y :: t =>
    if y.1 < x.1 + 160 then some (if first then x :: t else t)
    else (spaceOnce false (y :: t)).map (x :: ·)
  | _, _ => none

/-- Step 3 repeated. -/
def spaceEdges : Nat → List (Nat × Int) → List (Nat × Int)
  | 0, l => l
  | n + 1, l => match spaceOnce true l with | some t => spaceEdges n t | none => l

/-- The shaped plan of R262 as times and counts. -/
def edgePlan (mode ta late pt w : Nat) (n0 rnd : Int) (low : Bool) : List (Nat × Int) :=
  let plan : List (Nat × Int) :=
    if mode = 0 then [(ta, rnd)]
    else if mode = 1 then
      (if w < 160 then [(ta, n0)] else if pt - w < 160 then [(ta, n0 + 1)] else [(ta, n0 + 1), (ta + w, n0)])
    else if low then
      (if w < 160 then [(ta, n0)] else [(ta, n0), (ta + (pt - w) / 2, n0 + 1), (ta + (pt + w) / 2, n0)])
    else (if pt - w < 160 then [(ta, n0 + 1)] else [(ta, n0 + 1), (ta + w / 2, n0), (ta + (2 * pt - w) / 2, n0 + 1)])
  spaceEdges 4 (plan.map (fun p => (if late < p.1 then late else p.1, p.2)))

/-- Ticks times level over a plan up to `stop`. -/
def planArea (stop : Nat) : List (Nat × Int) → Int
  | [] => 0
  | [x] => x.2 * ((stop : Int) - x.1)
  | x :: y :: t => x.2 * ((y.1 : Int) - x.1) + planArea stop (y :: t)

/-- A member that can insert at an edge's polarity. -/
def mAble (neg : Bool) (w : W40) : Bool := mUsable w && (!neg || mFb w)

/-- The state code of a member inserted at a polarity. -/
def insCode (neg : Bool) : Nat := if neg then 2 else 1

/-- Members of the fixed set of edge 0 that are ordered inserted by their held belief (R166, R167). -/
def heldIns (neg : Bool) (w : W40) : Bool := !mRanked w && mCase w != 5 && mCase w != 7 && mHb w == insCode neg

/-- Held-belief members changed to bring q into range: `k` of them, in ascending number (R167). -/
def flips (neg want : Bool) : Nat → List (Nat × W40) → List Nat
  | 0, _ => []
  | _ + 1, [] => []
  | k + 1, p :: t =>
    if mAble neg p.2 ∧ ¬ mRanked p.2 ∧ mCase p.2 ≠ 5 ∧ mCase p.2 ≠ 7 ∧ heldIns neg p.2 ≠ want then p.1 :: flips neg want k t
    else flips neg want (k + 1) t

/-- θ and the members inserted at an edge: `ranked` are the members that follow the keys, `fixed` the others, with the ones
already inserted that cannot be changed in `stuck` (R165, R167). -/
def chooseTheta (neg : Bool) (param : W40) (count : Nat) (ranked fixed : List (Nat × W40)) (stuck : List Nat) :
    Nat × List Nat :=
  let held := (fixed.filter (fun p => heldIns neg p.2)).map (·.1)
  let x := held.length + stuck.length
  let ks := sortKeys (ranked.filterMap (fun p => (memberKey param p.2 p.1).map (fun k => (k, p.1))))
  let held : List Nat :=
    if count < x then held.filter (fun m => !(flips neg false (x - count) fixed).contains m)
    else held ++ flips neg true (count - x - ks.length) fixed
  let q := min (count - (held.length + stuck.length)) ks.length
  let theta := match rankOf ks q with | some k => k.1 + 1 | none => 0
  (theta, stuck ++ held ++ (ks.take q).map (·.2))

/-- The four words of an edge (R196). -/
def edgeWords (time n theta tie : Nat) : List W40 := [BitVec.ofNat 40 time, BitVec.ofNat 40 n, BitVec.ofNat 40 theta, BitVec.ofNat 40 tie]

/-- The whole output area of an arm for a plan (R196, R262): edges with their θ, and the orders of R166 and R169. -/
def State.writePlan (s : State) (e i : Nat) (neg dir : Bool) (rot : Nat) (plan : List (Nat × Int)) : State :=
  let b := 0x1400 + i * 0x400
  let hdr := (s.w e (0x403 + i * 0x400)).toNat
  let qs := hdr / 2 ^ 20 % 16
  let hbc := hdr / 2 ^ 24 % 64
  let all := s.memberWords e i
  let able := all.filter (fun p => mAble neg p.2)
  let param := BitVec.ofNat 40 ((if dir then 1 else 0) + (if neg then 2 else 0) + qs * 4 + hbc * 64 + rot * 4096)
  let count := fun (k : Nat) => (max 0 ((plan.getD k (0, 0)).2)).toNat
  let young := fun (p : Nat × W40) => mVer p.2 == 3
  let c0 := chooseTheta neg param (count 0) (able.filter (fun p => mRanked p.2)) (able.filter (fun p => !mRanked p.2)) []
  let old := c0.2.filter (fun m => able.any (fun p => p.1 == m && !young p))
  let ch := (List.range plan.length).map (fun k => if k = 0 then c0 else
    chooseTheta neg param (count k) (able.filter (fun p => young p && mRanked p.2)) (able.filter (fun p => young p && !mRanked p.2)) old)
  let s := (plan.zipIdx).foldl (fun (s : State) x =>
    s.putMems e (b + 1 + 4 * x.2) (edgeWords x.1.1 ((if neg then 32768 else 0) + (if dir then 16384 else 0) + qs * 1024 + min (count x.2) 1023)
      (ch.getD x.2 (0, [])).1 (hbc * 1024 + rot))) s
  let s := s.putMem e b (BitVec.ofNat 40 (8 + plan.length))
  all.foldl (fun (s : State) p =>
    let bits := (ch.zipIdx).foldl (fun a x => if x.1.2.contains p.1 then a + 2 ^ x.2 else a) 0
    let v := if ¬ mUsable p.2 then 0
      else if mVer p.2 = 3 then (if mCase p.2 = 0 then 0 else 16 + bits)
      else if mVer p.2 = 1 ∨ mCase p.2 ≠ 0 then 16 + bits % 2 + (if neg then 32 else 0)
      else 0
    if s.w e (b + 0x40 + p.1) = BitVec.ofNat 40 v then s else s.putMem e (b + 0x40 + p.1) (BitVec.ofNat 40 v)) s

/-- ROT of the arm in this volley (R172). -/
def State.stdRot (s : State) (e i : Nat) : State × Nat :=
  let top := (s.w e (0x400 + i * 0x400)).toNat / 2 ^ 16 % 1024
  let step := (s.w e (0x403 + i * 0x400)).toNat / 2 ^ 10 % 1024
  let r := (s.w e (0x2828 + i)).toNat
  let r := if top = 0 then 0 else (if (s.w e 1).getLsbD 16 then r + step else r) % top
  (s.putMem e (0x2828 + i) (BitVec.ofNat 40 r), r)

/-- From the voltage reference of an arm to its edges (R260 to R263); a COUNT that the residual lifts above the members able to insert is
written as it is, and serve assembly clamps it (R167). The results are u as R260 takes it and n of R261. With V1_PIN = 1
the plan's edge at t_a is the one edge written (log 149). -/
def State.stdEdges (s : State) (e i : Nat) (rot : Nat) (u imeas vbar : W40) : State × W40 × W40 :=
  let m := s.frmOf e
  let z := fZero false
  let all := s.memberWords e i
  let fb := all.any (fun p => p.2.getLsbD 10 && mFb p.2)
  let neg := ltF u z && fb
  let u := if ltF u z ∧ ¬ fb then z else u
  let si := if neg then fNeg imeas else imeas
  let dir := if ltF (s.par e 32) si then false else if ltF si (fNeg (s.par e 32)) then true else s.pflag e (6 + i)
  let s := s.setPflag e (6 + i) dir
  let nPol := (all.filter (fun p => mAble neg p.2)).length
  let most := fInt m (fRound .down 0 (mulF m (s.par e 31) (fInt m nPol)))
  let raw := divF m (fAbs u) vbar
  let clamped := ltF most raw
  let n := maxF z (minF most raw)
  let s := if clamped ∧ ¬ s.pflag e (4 + i) then s.stdRecord e 5 (s.slotArm e i) 0 nPol else s
  let s := s.setPflag e (4 + i) clamped
  let nStar := addF m n (s.w e (0x2818 + i))
  let n0 := fRound .down 0 nStar
  let rnd := fRound .nearest 0 nStar
  let phi := subF m nStar (fInt m n0)
  let pt := s.hdrPeriod e
  let w := (fRound .nearest 0 (mulF m phi (fInt m pt))).toNat
  let hdr := (s.w e (0x402 + i * 0x400)).toNat
  let pin := (s.w e (0x400 + i * 0x400)).getLsbD 26
  let ta := if pin then 3200 else hdr % 2 ^ 17
  let late := hdr / 2 ^ 17 % 2 ^ 17
  let plan := edgePlan ((s.par e 0).toNat / 2 ^ 14 % 4) ta late pt w n0 rnd (leF phi (fRat m 1 2))
  let plan := (if pin then plan.take 1 else plan).map (fun p => (p.1, max 0 p.2))
  let area := planArea (ta + pt) plan
  let s := s.putMem e (0x2818 + i) (clampF fOne (subF m nStar (fRat m area pt)))
  let now := (s.w e (0x401 + i * 0x400)).toNat % 1024
  let same : Bool := match plan with | [p] => decide (p.2 = (now : Int)) && decide (rnd = (now : Int)) | _ => false
  (s.writePlan e i neg dir rot (if same ∧ ¬ pin then [] else plan), u, n)

/-! ### Supervision (R264, R265) -/

/-- One check `k` (0, 1 the arm energies, 2 the current balance): failures and passes in a row, the record at SUP_N
failures, once in a run of failures, the action from the next volley on, and its end. Word 0x281C + k holds [7:0] failures,
[18:8] passes, [20] an action in force, [21] of SUP_ACT 2, [22] the record of this run raised. -/
def State.stdCheck (s : State) (e k arm : Nat) (fails : Bool) : State :=
  let w := (s.w e (0x281C + k)).toNat
  let f := if fails then min (w % 256 + 1) 255 else 0
  let p := if fails then 0 else min (w / 256 % 2048 + 1) 1024
  let act := (s.par e 0).toNat / 2 ^ 18 % 4
  let raised := fails && decide ((s.par e 42).toNat % 256 ≤ f) && !bitOf w 22
  let fresh := (List.range 2).any (fun q => s.w e (0x411 + 2 * q) != s.w e (0x2830 + 2 * k + q))
  let s := if raised then
      (s.stdRecord e (if k = 2 then 4 else 3) arm 0 act).putMems e (0x2830 + 2 * k) [s.w e 0x411, s.w e 0x413] else s
  let on := bitOf w 20
  let forced := bitOf w 21
  let ends := decide (1024 ≤ p) && (!forced || fresh)
  let on' := (raised && decide (1 ≤ act)) || (on && !ends)
  let forced' := (raised && act == 2) || (forced && !ends)
  s.putMem e (0x281C + k) (BitVec.ofNat 40 (f + p * 256 + (if on' then 2 ^ 20 else 0) + (if forced' then 2 ^ 21 else 0)
    + (if fails && (raised || bitOf w 22) then 2 ^ 22 else 0)))

/-- A volley without checks breaks the runs of failures and of passes; actions in force stay (R264, R265). -/
def State.stdBreakRuns (s : State) (e : Nat) : State :=
  (List.range 3).foldl (fun (s : State) k => s.putMem e (0x281C + k) (s.w e (0x281C + k) &&& 0x300000#40)) s

/-- The energy observer of an arm (R264); the result says that the check fails. -/
def State.stdObserve (s : State) (e i : Nat) (u imeas emeas : W40) : State × Bool :=
  let m := s.frmOf e
  let em := s.w e (0x2816 + i)
  let r := subF m emeas em
  let em := addF m (addF m em (mulF m (mulF m u imeas) (stepOf m (s.hdrPeriod e)))) (mulF m (s.par e 43) r)
  (s.putMem e (0x2816 + i) em, ltF (s.par e 40) (fAbs r))

/-! ### One volley (R249 to R276) -/

/-- The arm summary of slot `i` (R276). -/
def State.stdSummary (s : State) (e i trig : Nat) (emeas iref u n : W40) (eFail kFail : Bool) : State :=
  let b := fun (x : Bool) (k : Nat) => if x then 2 ^ k else 0
  s.putMems e (0x1420 + i * 0x400)
    [if i = 0 then BitVec.ofNat 40 trig else 0, emeas, iref, u, n,
     BitVec.ofNat 40 (b eFail 0 + b kFail 1 + b (s.pflag e (4 + i)) 2 + b (s.pflag e 11) 3), s.w e 0x2E00, s.w e 0x2E02]

/-- The engine owns the two arms of a leg in slots 0 and 1, and no other (R249). -/
def State.stdOwnership (s : State) (e : Nat) : Bool :=
  match s.ownsNow e with
  | [(0, a), (1, b)] => a % 6 == 2 * ((s.par e 0).toNat / 2 ^ 20 % 4) && b == a + 1
  | _ => false

/-- Both arms request nothing; of the loops the summary then shows zeros. -/
def State.stdIdle (s : State) (e trig : Nat) (eUp eLo : W40) : State :=
  let z := fZero false
  (((s.putMem e 0x1400 0).putMem e 0x1800 0).stdSummary e 0 trig eUp z z z false false).stdSummary e 1 trig eLo z z z false false

/-- One volley of the standard program, up to its DONE. -/
def State.stdVolley (s : State) (e : Nat) : State :=
  let (s, cmode) := s.stdBank e
  if ¬ s.stdOwnership e then
    let s := if s.pflag e 1 then s else (s.stdRecord e 2 (s.slotArm e 0) 0 0).setPflag e 1 true
    s.stdIdle e 0 (fZero false) (fZero false)
  else
    let s := s.setPflag e 1 false
    let m := s.frmOf e
    let (s, t) := s.stdTracker e
    let waits := s.stdWaits e
    let (s, trig) := s.stdEvents e t
    let s := (s.holdKeys e 0).holdKeys e 1
    let (eUp, vUp) := s.armEnergy e 0
    let (eLo, vLo) := s.armEnergy e 1
    let blocked := s.hdrBlocked e
    let s := if (¬ blocked ∧ ¬ s.pflag e 0) ∨ cmode then s.stdDeblock e eUp eLo else s
    let s := s.setPflag e 0 (!blocked)
    let s := if blocked ∨ s.stdGone e ≠ 1 then s.stdBreakRuns e else s
    -- While blocked no modulation limit acts (R257, R261).
    let s := if blocked then (s.setPflag e 4 false).setPflag e 5 false else s
    let s := (s.stdProfiles e waits).stdOuter e eUp eLo
    let (s, rotUp) := s.stdRot e 0
    let (s, rotLo) := s.stdRot e 1
    if blocked then s.stdIdle e trig eUp eLo
    else
      let (s, rUp, uUp, iUp) := s.stdArm e 0
      let (s, rLo, uLo, iLo) := s.stdArm e 1
      let (s, uUp, nUp) := s.stdEdges e 0 rotUp uUp iUp vUp
      let (s, uLo, nLo) := s.stdEdges e 1 rotLo uLo iLo vLo
      let (s, fUp) := s.stdObserve e 0 uUp iUp eUp
      let (s, fLo) := s.stdObserve e 1 uLo iLo eLo
      let kcl := subF m (subF m iUp iLo) (s.amps e 2)
      let fK := ltF (s.par e 41) (fAbs kcl)
      let s := ((s.stdCheck e 0 (s.slotArm e 0) fUp).stdCheck e 1 (s.slotArm e 1) fLo).stdCheck e 2 (s.slotArm e 0) fK
      (s.stdSummary e 0 trig eUp rUp uUp nUp fUp fK).stdSummary e 1 trig eLo rLo uLo nLo fLo fK

end Sys2Proof.Machine
end

