-- ==== Sys2Proof/Machine/Wire.lean ====
section
/-! DEFINITION. The cell link on the wire: bit order and checks (R119, R120), line coding (R90, IEEE 802.3 clauses 36 and 49),
delimiters (R93), return and discovery payloads (R129, R130), ordered sets (R121), management entries (R132) and serves
(R124 to R126). -/

namespace Sys2Proof.Machine

/-! ### Bits and bytes, most significant first (R119) -/

/-- The bits of a number of `n` bits, most significant first. -/
def msbBits : Nat → Nat → List Bool
  | 0, _ => []
  | n + 1, v => v.testBit n :: msbBits n v

/-- The number that bits stand for, most significant first. -/
def bitsNum (bs : List Bool) : Nat := bs.foldl (fun a b => 2 * a + b.toNat) 0

/-- The bytes of a number of `n` bytes, most significant first. -/
def beBytes : Nat → Nat → List (BitVec 8)
  | 0, _ => []
  | n + 1, v => BitVec.ofNat 8 (v / 256 ^ n) :: beBytes n v

/-- The number that bytes stand for, most significant first. -/
def beNum (bs : List (BitVec 8)) : Nat := bs.foldl (fun a b => 256 * a + b.toNat) 0

/-- The bits of bytes in the order in which they are sent. -/
def byteBits (bs : List (BitVec 8)) : List Bool := bs.flatMap (fun b => msbBits 8 b.toNat)

/-- `n` bytes read from bits in the order in which they are sent. -/
def bitsBytes : Nat → List Bool → List (BitVec 8)
  | 0, _ => []
  | n + 1, bs => BitVec.ofNat 8 (bitsNum (bs.take 8)) :: bitsBytes n (bs.drop 8)

/-- Bits [hi:lo] of a number. -/
def fieldOf (v hi lo : Nat) : Nat := v / 2 ^ lo % 2 ^ (hi + 1 - lo)

/-- Bit `i` of a number as a number. -/
def bitNum (b : Bool) (i : Nat) : Nat := if b then 2 ^ i else 0

/-- CHECK of an ordered set: CRC-8 with polynomial x^8 + x^2 + x + 1, initial value 0 (R120). -/
def crc8Bit (c : BitVec 8) : BitVec 8 := if c.getLsbD 7 then (c <<< 1) ^^^ 0x07 else c <<< 1

def crc8Byte (c b : BitVec 8) : BitVec 8 :=
  crc8Bit (crc8Bit (crc8Bit (crc8Bit (crc8Bit (crc8Bit (crc8Bit (crc8Bit (c ^^^ b))))))))

def crc8 (bs : List (BitVec 8)) : BitVec 8 := bs.foldl crc8Byte 0

/-! ### 8b/10b (R90, IEEE 802.3 clause 36) -/

/-- The 5b/6b code at negative running disparity, bits abcdei. -/
def code6 : List Nat :=
  [0b100111, 0b011101, 0b101101, 0b110001, 0b110101, 0b101001, 0b011001, 0b111000, 0b111001, 0b100101, 0b010101, 0b110100,
   0b001101, 0b101100, 0b011100, 0b010111, 0b011011, 0b100011, 0b010011, 0b110010, 0b001011, 0b101010, 0b011010, 0b111010,
   0b110011, 0b100110, 0b010110, 0b110110, 0b001110, 0b101110, 0b011110, 0b101011]

/-- The 3b/4b code of data at negative running disparity, bits fghj; 8 is the alternate D.x.7. -/
def code4 : List Nat := [0b1011, 0b1001, 0b0101, 0b1100, 0b1101, 0b1010, 0b0110, 0b1110, 0b0111]

/-- The 3b/4b code of special code groups after a positive 6-bit part. -/
def codeK4 : List Nat := [0b0100, 0b1001, 0b0101, 0b0011, 0b0010, 0b1010, 0b0110, 0b1000]

/-- The ones in the lowest `n` bits of a number. -/
def ones : Nat → Nat → Nat
  | 0, _ => 0
  | n + 1, v => v % 2 + ones n (v / 2)

/-- A code group: special (K) or data (D), and its byte HGF EDCBA. -/
structure CodeGroup where
  k : Bool
  b : BitVec 8
deriving DecidableEq, Repr

/-- The ten bits of a code group at a running disparity (`true` positive), and the disparity after it. -/
def encode10 (rd : Bool) (c : CodeGroup) : Nat × Bool :=
  let x := c.b.toNat % 32
  let y := c.b.toNat / 32
  let n6 := if c.k ∧ x = 28 then 0b001111 else code6.getD x 0
  let six := if rd && (ones 6 n6 != 3 || x == 7) then 63 - n6 else n6
  let rd6 := if ones 6 n6 ≠ 3 then !rd else rd
  let alt := !c.k && y == 7 && (if rd6 then x == 11 || x == 13 || x == 14 else x == 17 || x == 18 || x == 20)
  let n4 := if c.k then codeK4.getD y 0 else code4.getD (if alt then 8 else y) 0
  let four := if c.k then (if rd6 then n4 else 15 - n4) else if rd6 && (ones 4 n4 != 2 || y == 3) then 15 - n4 else n4
  (six * 16 + four, if ones 4 n4 ≠ 2 then !rd6 else rd6)

/-- The code group that ten bits stand for at a running disparity, with the disparity after it. -/
def decode10 (rd : Bool) (v : Nat) : Option (CodeGroup × Bool) :=
  (List.range 32).findSome? (fun x => [false, true].findSome? (fun k =>
    if (encode10 rd ⟨k, BitVec.ofNat 8 x⟩).1 / 16 ≠ v / 16 ∨ (k ∧ ¬ (x = 28 ∨ x = 23 ∨ x = 27 ∨ x = 29 ∨ x = 30)) then none
    else (List.range 8).findSome? (fun y =>
      if k ∧ x ≠ 28 ∧ y ≠ 7 then none
      else
        let c : CodeGroup := ⟨k, BitVec.ofNat 8 (32 * y + x)⟩
        if (encode10 rd c).1 = v then some (c, (encode10 rd c).2) else none)))

/-- The bits of code groups, with the running disparity carried on. -/
def sendGroups : Bool → List CodeGroup → List Bool
  | _, [] => []
  | rd, c :: t => msbBits 10 (encode10 rd c).1 ++ sendGroups (encode10 rd c).2 t

/-- The bytes of `n` data code groups; none where a group is invalid or special, or the bits end early or late. -/
def readGroups : Nat → Bool → List Bool → Option (List (BitVec 8))
  | 0, _, bs => if bs = [] then some [] else none
  | n + 1, rd, bs =>
    if bs.length < 10 then none
    else match decode10 rd (bitsNum (bs.take 10)) with
      | some (c, rd') => if c.k then none else (readGroups n rd' (bs.drop 10)).map (c.b :: ·)
      | none => none

/-- The G0 delimiter: K28.5, D16.2, K28.1, D16.2 (R93). -/
def delimiter0 : List CodeGroup := [⟨true, 0xBC⟩, ⟨false, 0x50⟩, ⟨true, 0x3C⟩, ⟨false, 0x50⟩]

/-! ### 64b/66b and its scrambler (R90, IEEE 802.3 clause 49) -/

/-- The scrambler x^58 + x^39 + 1 preset to all ones. -/
def scramblerPreset : BitVec 58 := BitVec.allOnes 58

/-- Scramble bits; the register holds the last 58 bits sent. -/
def scramble : BitVec 58 → List Bool → List Bool × BitVec 58
  | st, [] => ([], st)
  | st, b :: t =>
    let o := (b ^^ st.getLsbD 38) ^^ st.getLsbD 57
    let r := scramble ((st <<< 1) ||| (BitVec.ofBool o).setWidth 58) t
    (o :: r.1, r.2)

/-- Descramble bits; the register holds the last 58 bits received. -/
def descramble : BitVec 58 → List Bool → List Bool × BitVec 58
  | st, [] => ([], st)
  | st, b :: t =>
    let r := descramble ((st <<< 1) ||| (BitVec.ofBool b).setWidth 58) t
    (((b ^^ st.getLsbD 38) ^^ st.getLsbD 57) :: r.1, r.2)

/-- `n` data blocks of 66 bits: sync header 0b01 and 64 scrambled bits. -/
def sendBlocks66 : Nat → BitVec 58 → List Bool → List Bool
  | 0, _, _ => []
  | n + 1, st, bs =>
    let r := scramble st (bs.take 64)
    false :: true :: (r.1 ++ sendBlocks66 n r.2 (bs.drop 64))

/-- The bits that `n` data blocks carry; none where a header is not that of a data block, or the bits end early or late. -/
def readBlocks66 : Nat → BitVec 58 → List Bool → Option (List Bool)
  | 0, _, bs => if bs = [] then some [] else none
  | n + 1, st, bs =>
    if bs.length < 66 ∨ bs.take 2 ≠ [false, true] then none
    else
      let r := descramble st ((bs.drop 2).take 64)
      (readBlocks66 n r.2 (bs.drop 66)).map (r.1 ++ ·)

/-- The delimiter of G1 to G4: sync header 0b10 and the 64-bit body, most significant bit first (R93). -/
def delimiter66 : List Bool := true :: false :: msbBits 64 0x5F0AC36D92B1E487

/-- Places in which two bit strings differ. -/
def differ : List Bool → List Bool → Nat
  | a :: s, b :: t => (if a = b then 0 else 1) + differ s t
  | s, t => s.length + t.length

/-! ### A burst from its delimiter on (R92, R93) -/

/-- The bits a cell sends from the delimiter on: at G0 with the running disparity `rd` of the preamble's end. -/
def sendBurst (g : Nat) (rd : Bool) (bs : List (BitVec 8)) : List Bool :=
  if g = 0 then sendGroups rd (delimiter0 ++ bs.map (fun b => ⟨false, b⟩))
  else delimiter66 ++ sendBlocks66 4 scramblerPreset (byteBits bs)

/-- The delimiter that a burst begins with is accepted: at most 4 of 66 bits wrong, or at G0 exactly its four code groups
(R93). -/
def delimiterOk (g : Nat) (bits : List Bool) : Bool :=
  if g = 0 then bits.take 40 == sendGroups false delimiter0 || bits.take 40 == sendGroups true delimiter0
  else decide (differ (bits.take 66) delimiter66 ≤ 4)

/-- The 32 bytes of the payload; none where a code group or a block is invalid. -/
def burstBytes (g : Nat) (bits : List Bool) : Option (List (BitVec 8)) :=
  if g = 0 then readGroups 32 (bits.take 40 == sendGroups true delimiter0) (bits.drop 40)
  else (readBlocks66 4 scramblerPreset (bits.drop 66)).map (bitsBytes 32)

/-- The CRC-32C in bytes 28 to 31 matches bytes 0 to 27 (R120); `inv` inverts it on receipt (R537). -/
def payloadOk (inv : Bool) (bs : List (BitVec 8)) : Bool :=
  beNum ((bs.drop 28).take 4) == ((crc32c (bs.take 28)) ^^^ (if inv then 0xFFFFFFFF else 0)).toNat

/-! ### The return payload (R129) -/

/-- Bytes 4 to 11 of a return as one number. -/
def returnSample (r : Return) : BitVec 64 :=
  BitVec.ofNat 64 (r.vkey.toNat * 2 ^ 48 + r.temp.toNat * 2 ^ 38 + r.cstate * 2 ^ 34 + bitNum r.svalid 33 + bitNum r.sat 32
    + r.swcnt.toNat * 2 ^ 16 + r.resv.toNat)

/-- Bytes 0 to 27 of a return; the reserved bits of bytes 12 to 19 are 0. -/
def returnHead (r : Return) : List (BitVec 8) :=
  beBytes 4 (r.rver * 2 ^ 28 + r.slot * 2 ^ 21 + r.sid.toNat * 2 ^ 13 + r.fault.toNat * 2 ^ 8 + bitNum r.sok 7 + bitNum r.fw 6
    + bitNum r.blk 5 + bitNum r.prq 4 + r.epochLo.toNat) ++
  beBytes 8 (returnSample r).toNat ++
  beBytes 8 (r.point.val * 2 ^ 55 + r.value.toNat * 2 ^ 15 + r.wtag.toNat * 2 ^ 9 + r.pstat.val * 2 ^ 6) ++
  beBytes 8 (r.fdetail.toNat * 2 ^ 48 + r.aux0.toNat * 2 ^ 32 + r.aux1.toNat * 2 ^ 16 + r.scrc.toNat * 2 ^ 8 + r.lostv.toNat)

/-- A payload with its CRC, inverted when `ok` is false. -/
def withCrc (ok : Bool) (bs : List (BitVec 8)) : List (BitVec 8) :=
  bs ++ beBytes 4 (crc32c bs ^^^ (if ok then 0 else 0xFFFFFFFF)).toNat

/-- The return that 32 bytes stand for. -/
def returnOf (inv : Bool) (bs : List (BitVec 8)) : Return :=
  let w0 := beNum (bs.take 4)
  let w1 := beNum ((bs.drop 4).take 8)
  let w2 := beNum ((bs.drop 12).take 8)
  let w3 := beNum ((bs.drop 20).take 8)
  { crcOk := payloadOk inv bs, rver := fieldOf w0 31 28, slot := fieldOf w0 27 21, sid := BitVec.ofNat 8 (w0 / 2 ^ 13),
    fault := BitVec.ofNat 5 (w0 / 2 ^ 8), sok := w0.testBit 7, fw := w0.testBit 6, blk := w0.testBit 5, prq := w0.testBit 4,
    epochLo := BitVec.ofNat 4 w0, vkey := BitVec.ofNat 16 (w1 / 2 ^ 48), temp := BitVec.ofNat 10 (w1 / 2 ^ 38),
    cstate := fieldOf w1 37 34, svalid := w1.testBit 33, sat := w1.testBit 32, swcnt := BitVec.ofNat 16 (w1 / 2 ^ 16),
    resv := BitVec.ofNat 16 w1, point := ⟨w2 / 2 ^ 55 % 512, Nat.mod_lt _ (by decide)⟩, value := BitVec.ofNat 40 (w2 / 2 ^ 15),
    wtag := BitVec.ofNat 6 (w2 / 2 ^ 9), pstat := ⟨w2 / 2 ^ 6 % 8, Nat.mod_lt _ (by decide)⟩, fdetail := BitVec.ofNat 16 (w3 / 2 ^ 48),
    aux0 := BitVec.ofNat 16 (w3 / 2 ^ 32), aux1 := BitVec.ofNat 16 (w3 / 2 ^ 16), scrc := BitVec.ofNat 8 (w3 / 2 ^ 8),
    lostv := BitVec.ofNat 8 w3 }

/-- A burst of a slot as the module hears it at gear `g`: none without a delimiter it accepts. A payload with an invalid
code group or block fails its check. -/
def hearReturn (g : Nat) (inv : Bool) (bits : List Bool) : Option Return :=
  if ¬ delimiterOk g bits then none
  else match burstBytes g bits with
    | some bs => some (returnOf inv bs)
    | none => some { returnOf inv [] with crcOk := false }

/-- The bits of a return from its delimiter on. -/
def returnBurst (g : Nat) (rd : Bool) (r : Return) : List Bool := sendBurst g rd (withCrc r.crcOk (returnHead r))

/-! ### The discovery payload (R130) -/

/-- Bytes 0 to 27 of a discovery burst. -/
def discoveryHead (d : Discovery) : List (BitVec 8) :=
  beBytes 4 (d.rver * 2 ^ 28 + d.slot * 2 ^ 21) ++ beBytes 6 d.uid.toNat ++ [d.verMask.setWidth 8, d.gearMask.setWidth 8] ++
    beBytes 2 d.r ++ beBytes 2 d.ctype.toNat ++ beBytes 12 0

/-- The discovery burst that 32 bytes stand for. -/
def discoveryOf (bs : List (BitVec 8)) : Discovery :=
  let w0 := beNum (bs.take 4)
  { crcOk := payloadOk false bs, rver := fieldOf w0 31 28, slot := fieldOf w0 27 21, uid := BitVec.ofNat 48 (beNum ((bs.drop 4).take 6)),
    verMask := (bs.getD 10 0).setWidth 3, gearMask := (bs.getD 11 0).setWidth 5, r := beNum ((bs.drop 12).take 2),
    ctype := BitVec.ofNat 16 (beNum ((bs.drop 14).take 2)) }

/-- A burst of the discovery interval as the module hears it. -/
def hearDiscovery (g : Nat) (bits : List Bool) : Option Discovery :=
  if ¬ delimiterOk g bits then none
  else match burstBytes g bits with
    | some bs => some (discoveryOf bs)
    | none => some { discoveryOf [] with crcOk := false }

/-- The bits of a discovery burst from its delimiter on. -/
def discoveryBurst (g : Nat) (rd : Bool) (d : Discovery) : List Bool := sendBurst g rd (withCrc d.crcOk (discoveryHead d))

/-! ### Ordered sets (R121) -/

/-- Bytes 1 to 6 of an ordered set. -/
def OrderedSet.head (o : OrderedSet) : List (BitVec 8) := o.osid :: beBytes 2 o.epoch.toNat ++ [o.byte4, o.byte5, o.byte6]

/-- Bytes 1 to 7: the head and its CHECK. -/
def OrderedSet.bytes (o : OrderedSet) : List (BitVec 8) := o.head ++ [crc8 o.head]

/-! ### Serves (R124 to R126, R132) -/

def V1Order.bytes (x : V1Order) : List (BitVec 8) := beBytes 2 (x.slot * 2 ^ 9 + bitNum x.ins 8 + bitNum x.neg 7)

def Edge.bytes (x : Edge) : List (BitVec 8) :=
  beBytes 12 (x.time.toNat * 2 ^ 72 + x.n.toNat * 2 ^ 56 + x.theta.toNat * 2 ^ 24 + x.tiekey.toNat * 2 ^ 8)

def ArmRec.bytes (x : ArmRec) : List (BitVec 8) :=
  beBytes 4 (x.arm * 2 ^ 26 + x.edges.length * 2 ^ 23) ++ x.edges.flatMap Edge.bytes

def Exception.bytes (x : Exception) : List (BitVec 8) := beBytes 2 (x.slot * 2 ^ 9 + x.eord.toNat)

def PointReq.bytes (x : PointReq) : List (BitVec 8) :=
  beBytes 8 (x.slot * 2 ^ 57 + x.op * 2 ^ 55 + x.point * 2 ^ 46 + x.wtag.toNat * 2 ^ 40 + x.value.toNat)

/-- A signed offset in ticks as a field of 20 bits (O and E of R132). -/
def offset20 (v : Int) : Nat := (v % 2 ^ 20).toNat

/-- MTYPE, SLOT, UID and PAYLOAD of a management entry (R132). DISC_OPEN goes to every unbound cell and carries SLOT 0x7F and UID 0,
which the manual does not give for it (DESIGN CHOICE, log 194). -/
def Mgmt.parts : Mgmt → Nat × Nat × Nat × Nat
  | .discOpen r doff => (0x01, 0x7F, 0, r * 2 ^ 48 + doff % 2 ^ 24 * 2 ^ 24)
  | .assign uid slot o e ver gear f lol => (0x02, slot, uid.toNat,
      offset20 o * 2 ^ 44 + offset20 e * 2 ^ 24 + ver % 4 * 2 ^ 22 + gear % 8 * 2 ^ 19 + (f - 1) % 8 * 2 ^ 16 + bitNum lol 15)
  | .adjust slot o e newSlot atGc => (0x03, slot, 0, offset20 o * 2 ^ 44 + offset20 e * 2 ^ 24 + newSlot % 128 * 2 ^ 17 + bitNum atGc 16)
  | .refuse uid reason hold => (0x04, 0x7F, uid.toNat, reason * 2 ^ 56 + hold * 2 ^ 40)
  | .release slot => (0x05, slot, 0, 0)
  | .resume slot => (0x06, slot, 0, 0)
  | .silence slot => (0x07, slot, 0, 0)
  | .poll slot o => (0x08, slot, 0, offset20 o * 2 ^ 44)

def Mgmt.bytes (m : Mgmt) : List (BitVec 8) :=
  let p := m.parts
  beBytes 1 p.1 ++ beBytes 1 p.2.1 ++ beBytes 6 p.2.2.1 ++ beBytes 8 p.2.2.2

/-- Body bytes 0 to 19: FMT 1, KIND and the other header fields (R125). -/
def Serve.header (x : Serve) : List (BitVec 8) :=
  beBytes 1 (0x10 + x.kind % 16) ++ beBytes 1 (x.gcGear % 8 * 32 + x.gcCnt % 32) ++ beBytes 2 x.epoch.toNat ++ beBytes 4 x.volley.toNat ++
    [x.sidNow, x.sidRef, x.blkMask] ++ [x.v1.length, x.arms.length, x.exc.length, x.preq.length, x.mgmt.length].flatMap (beBytes 1) ++
    beBytes 3 x.period ++ beBytes 1 0

/-- The protected bytes of a serve: header and sections in their order (R126). -/
def Serve.covered (x : Serve) : List (BitVec 8) :=
  x.header ++ x.v1.flatMap V1Order.bytes ++ x.arms.flatMap ArmRec.bytes ++ x.exc.flatMap Exception.bytes ++
    x.preq.flatMap PointReq.bytes ++ x.mgmt.flatMap Mgmt.bytes

/-- The body of a serve: the protected bytes and their CRC (R126), which leaves inverted under R537 kind 4. -/
def Serve.bytes (x : Serve) : List (BitVec 8) := withCrc (!x.badCrc) x.covered

/-! ### Framing (R121, R124) -/

/-- A 66-bit block before scrambling: a data block (sync header 0b01) or a control block (0b10) of 8 bytes, the block type
first. -/
structure Block66 where
  data  : Bool
  bytes : List (BitVec 8)
deriving DecidableEq, Repr

/-- An ordered set as one control block of type 0x4B. -/
def OrderedSet.block (o : OrderedSet) : Block66 := ⟨false, 0x4B :: o.bytes⟩

/-- An ordered set at G0: K28.1 and bytes 1 to 7. -/
def OrderedSet.groups (o : OrderedSet) : List CodeGroup := ⟨true, 0x3C⟩ :: o.bytes.map (fun b => ⟨false, b⟩)

/-- An idle block: type 0x1E and eight idle characters. -/
def idleBlock : Block66 := ⟨false, 0x1E :: List.replicate 7 0⟩

/-- /I/ at G0: K28.5, D16.2. -/
def idleGroups : List CodeGroup := [⟨true, 0xBC⟩, ⟨false, 0x50⟩]

/-- The type of the terminate block that carries `n` bytes. -/
def terminateType (n : Nat) : BitVec 8 := [0x87, 0x99, 0xAA, 0xB4, 0xCC, 0xD2, 0xE1, 0xFF].getD n 0xFF

/-- Data blocks of 8 bytes, then a terminate block with what is left. -/
def bodyBlocks : Nat → List (BitVec 8) → List Block66
  | 0, bs => [⟨false, terminateType bs.length :: (bs ++ List.replicate (7 - bs.length) 0)⟩]
  | n + 1, bs => ⟨true, bs.take 8⟩ :: bodyBlocks n (bs.drop 8)

/-- The blocks of a serve body after the strobe: a start block with 7 bytes, data blocks, a terminate block. -/
def serveBlocks (bs : List (BitVec 8)) : List Block66 :=
  ⟨false, 0x78 :: bs.take 7⟩ :: bodyBlocks ((bs.length - 7) / 8) (bs.drop 7)

/-- A serve body at G0: /S/, the bytes, /T/R/. -/
def serveGroups (bs : List (BitVec 8)) : List CodeGroup :=
  ⟨true, 0xFB⟩ :: bs.map (fun b => ⟨false, b⟩) ++ [⟨true, 0xFD⟩, ⟨true, 0xF7⟩]

/-- Put pieces into a line, each behind as many elements as it names, in their order (R122). -/
def insertAll {α : Type} (line : List α) (late : List (List α × Nat)) : List α :=
  late.foldl (fun l x => l.take x.2 ++ x.1 ++ l.drop x.2) line

/-- What a spoke sends from a volley boundary on at G1 to G4, before scrambling: the ordered sets of the boundary with the strobe
first, its serve, and idle blocks up to `total` blocks (R90); a block ordered set requested later stands where it was inserted, be it
between two blocks of the serve (R122). -/
def Spoke.blocks (p : Spoke) (total : Nat) : List Block66 :=
  let late := p.osSent.drop p.osLead
  let line := (p.osSent.take p.osLead).map OrderedSet.block ++ (match p.sent with | some x => serveBlocks x.bytes | none => [])
  insertAll (line ++ List.replicate (total - line.length - late.length) idleBlock) ((late.map (fun o => [o.block])).zip p.osAt)

/-- The same at G0, as code groups, filled up with /I/. -/
def Spoke.groups (p : Spoke) (total : Nat) : List CodeGroup :=
  let late := p.osSent.drop p.osLead
  let line := (p.osSent.take p.osLead).flatMap OrderedSet.groups ++ (match p.sent with | some x => serveGroups x.bytes | none => [])
  let fill := (total - line.length - 8 * late.length) / 2
  insertAll (line ++ (List.replicate fill idleGroups).flatten) ((late.map OrderedSet.groups).zip p.osAt)

/-- Blocks as they leave: the sync header, and the scrambled bits of the body; the scrambler runs on from block to block (R90). -/
def scrambleBlocks : BitVec 58 → List Block66 → List Bool
  | _, [] => []
  | st, b :: t =>
    let r := scramble st (byteBits b.bytes)
    (if b.data then [false, true] else [true, false]) ++ r.1 ++ scrambleBlocks r.2 t

/-- The bits a spoke at gear `g` sends in a volley of `total` blocks or code groups, from the scrambler state or running disparity
it begins with. -/
def Spoke.lineBits (p : Spoke) (g total : Nat) : List Bool :=
  if g = 0 then sendGroups p.rd (p.groups total) else scrambleBlocks p.scr (p.blocks total)

end Sys2Proof.Machine
end

