-- ==== Sys2Proof/Machine/Returns.lean ====
section
/-! DEFINITION. Returns of cells and what follows from them: the checks of R131, point answers and posted writes
(R138 to R142), admission, loss-of-link, re-ranging and drops (R143 to R149), discovery (R133 to R135), the binding
table and the arm map (R158, R184). -/

namespace Sys2Proof.Machine

/-! ### The cell image (R138, R415) -/

/-- A point received: it is valid, with the volley of receipt. -/
def State.imagePut (s : State) (c p : Nat) (v : BitVec 40) : State :=
  { s with image := FMap.set ImagePoint.reset s.image (imageKey c p) ⟨v, true, s.volley.setWidth 16⟩ }

/-- The 8 bytes READ_POINTS delivers for a point (R367). -/
def State.imageWord (s : State) (c p : Nat) : BitVec 64 :=
  let e := FMap.get ImagePoint.reset s.image (imageKey c p)
  let age := s.volley.setWidth 16 - e.volley
  BitVec.ofNat 64 (e.value.toNat + (if e.valid then 2 ^ 40 else 0) + age.toNat * 2 ^ 48)

/-- Admission clears the VALID of every point of the cell (R367). -/
def State.imageForget (s : State) (c : Nat) : State :=
  { s with image := FMap.mapVals ImagePoint.reset (fun k p => if k / 512 = c then { p with valid := false } else p) s.image }

/-! ### FRESH reads (R367) -/

/-- A FRESH read completes; the image value is written to DST. -/
def State.freshDone (s : State) (c : Nat) (r : FreshRead) (st : Status) (detail : Nat) : State :=
  let s := s.setCell c (fun x => { x with fresh := x.fresh.filter (fun y => y != r) })
  match s.inflightBy r.fn r.serial with
  | some x =>
    (match x.d.body with
    | .readPoints _ _ _ _ dst _ _ => (s.dma r.fn dst 8 [s.imageWord c r.point]).done r.fn x st 8 detail
    | _ => s)
  | none => s

/-- The FRESH reads of a cell that wait are answered from the image: the module is no longer ACTIVE (R344). -/
def State.freshFromImage (s : State) (c : Nat) : State := (s.cell c).fresh.foldl (fun s r => s.freshDone c r .ok 0) s

/-- Every FRESH read of a point whose request has been sent. -/
def State.freshOf (s : State) (c p : Nat) : List FreshRead := (s.cell c).fresh.filter (fun r => r.point == p && r.sent)

/-! ### Posted writes (R139 to R141, R160) -/

/-- The outstanding write fails: WR_FAIL, the event of a host write, and an ARMBIND write is due again unless a newer
one is. -/
def State.failOut (s : State) (c cause : Nat) : State :=
  match (s.cell c).out with
  | none => s
  | some o =>
    let s := s.writeFailed c o.w cause
    -- A failed ARMBIND write is started again (R160).
    let s := if o.w.own then s.setCell c (fun x => { x with bindDue := some (x.bindDue.getD o.w.value) }) else s
    s.endWrite c

/-- The outstanding write is done: the image takes the value, and an ARMBIND write puts its binding in force. -/
def State.writeDone (s : State) (c : Nat) (o : OutWrite) : State :=
  let s := s.imagePut c o.w.point o.w.value
  let s := if o.w.own then s.bindDone c o.w.value else s
  s.endWrite c

/-- The request is the read-back of the outstanding write of a version-1 or version-2 cell (R140). -/
def isReadBack (x : Cell) (q : PointReq) : Bool :=
  match x.out with
  | some o => x.ver != 3 && q.back && q.point == o.w.point
  | none => false

/-- The request belongs to the outstanding write of a version-3 cell (R139). -/
def isWriteQuery (x : Cell) (q : PointReq) : Bool :=
  match x.out with
  | some o => x.ver == 3 && q.op != 0 && q.wtag == o.wtag
  | none => false

/-- A request came back with no answer (R139, R140, R171, R367). -/
def State.pointMissing (s : State) (c : Nat) (q : PointReq) : State :=
  let x := s.cell c
  if isWriteQuery x q then s.dueReq c 2 q.point q.wtag 0
  else if isReadBack x q then s.dueBack c q.point
  else if q.op = 0 ∧ ((q.point = 386 ∧ x.lsb = none) ∨ s.freshOf c q.point ≠ []) then s.dueReq c 0 q.point 0 0
  else s

/-- UNKNOWN_TAG (R139): the status query goes out once more, and when that too is answered so, the write again with its tag. -/
def State.unknownTag (s : State) (c : Nat) (o : OutWrite) : State :=
  let s := s.setCell c (fun x => { x with out := some { o with unknown := !o.unknown } })
  if o.unknown then s.dueReq c 1 o.w.point o.wtag o.w.value else s.dueReq c 2 o.w.point o.wtag 0

/-- The answer to a request (R139, R140, R367). -/
def State.pointAnswer (s : State) (c : Nat) (q : PointReq) (r : Return) : State :=
  let x := s.cell c
  if isWriteQuery x q then
    (match x.out with
    | none => s
    | some o =>
      if r.wtag ≠ o.wtag then s.dueReq c 2 q.point q.wtag 0
      else if r.pstat = 1 then s.writeDone c o
      else if r.pstat = 3 then s.failOut c 1
      else if r.pstat = 4 then s.failOut c 2
      else if r.pstat = 5 then s.failOut c 3
      else if r.pstat = 6 then s.failOut c 4
      else if r.pstat = 7 then s.unknownTag c o
      else s.dueReq c 2 q.point q.wtag 0)
  else if isReadBack x q then
    (match x.out with
    | none => s
    | some o =>
      if r.pstat ≠ 0 ∨ r.point.val ≠ q.point then s.dueBack c q.point
      else if r.value = o.w.value then s.writeDone c o
      else if o.mismatch then s.failOut c 5
      else (s.setCell c (fun x => { x with out := some { o with mismatch := true } })).dueReq c 1 o.w.point o.wtag o.w.value)
  else if q.op ≠ 0 then s
  else if r.pstat = 6 then (s.freshOf c q.point).foldl (fun s f => s.freshDone c f .invalidAddr 20) s
  else if r.pstat ≠ 0 then s.pointMissing c q
  else s

/-- The point part of a return that is used (R131, R138). -/
def State.pointPart (s : State) (c : Nat) (r : Return) : State :=
  let s := if r.pstat = 0 then
      let s := s.imagePut c r.point r.value
      let s := if r.point = 386 then s.setCell c (fun x => { x with lsb := some r.value.toNat }) else s
      (s.freshOf c r.point).foldl (fun s f => s.freshDone c f .ok 0) s
    else s
  match (s.cell c).answerTo with
  | none => s
  | some q =>
    let s := s.setCell c (fun x => { x with answerTo := none })
    if r.prq then s.pointAnswer c q r else s.pointMissing c q

/-- WRITE_TIMEOUT: WR_TMO volleys have passed since the first send (R139, R140; cause 6 of R141). -/
def execWriteTimeout (spoke : Fin 128) (slot : Fin 96) (s : State) : Host.Outcome State Fault Refusal :=
  let c := cellId spoke slot
  .next (match (s.cell c).out with
    | some o => (match o.first with
      | some v => if s.rd Fld.VLY_CFG_WR_TMO ≤ (s.volley - v).toNat then s.failOut c 6 else s
      | none => s)
    | none => s)

/-- The oldest FRESH read in flight at a command slot of a function. -/
def State.waitsFresh (s : State) (f index : Nat) : Option InFlight :=
  (s.fn f).inflight.find? (fun x => x.index == index && x.at' == .fresh)

/-- FRESH_READ_TIMEOUT: no value within WR_TMO volleys of the first send (R367). -/
def execFreshReadTimeout (fn : Fin 256) (index : BitVec 16) (s : State) : Host.Outcome State Fault Refusal :=
  .next (match s.waitsFresh fn.val index.toNat with
    | some x =>
      (match x.d.body with
      | .readPoints cell _ _ _ _ _ _ =>
        (match (s.cell cell).fresh.find? (fun r => r.fn == fn.val && r.serial == x.serial) with
        | some r => if r.sent ∧ s.rd Fld.VLY_CFG_WR_TMO ≤ (s.volley - r.since).toNat then s.freshDone cell r .cellTimeout 0 else s
        | none => s)
      | _ => s)
    | none => s)

/-! ### Cells: states, drops and re-ranging (R143, R147 to R149) -/

/-- LSTATE of an admitted cell that is not in loss-of-link. -/
def Cell.normal (x : Cell) : LState := if x.wasLost then .lost else if x.dropped then .exception else if x.tailPos.isSome then .tail else .admitted

/-- Drop a cell to exceptions: with a tail slot it goes on returning, without one it is sent SILENCE (R148). -/
def State.dropCell (s : State) (c : Nat) : State :=
  let n := c / 128
  let s := s.setCell c (fun x => { x with dropped := true, sampleOk := false, last16 := [], reranges := [] })
  let s := (s.raise Fld.VLY_EVT_DROP_EXC c).postCell c 1
  if (s.cell c).tailPos.isSome then s.setCell c (fun x => { x with lstate := .exception })
  else
    let s := (s.setCell c (fun x => { x with lstate := .muted })).failWrites c 7
    (((s.due n (.mgmt (.silence (c % 128)))).raise Fld.VLY_EVT_SILENCED c).postCell c 2).showSpoke n

/-- Re-range a cell out of place in 2 or more of its last 16 returns: the mean measured offset corrects its delay;
the third within 4,096 volleys moves it to a tail slot or drops it (R148, R145). -/
def State.rerangeCell (s : State) (c : Nat) : State :=
  let n := c / 128
  let x := s.cell c
  let outs := (x.last16.filter (·.1)).map (·.2)
  if outs.length < 2 ∨ x.dropped ∨ ¬ (x.lstate = .admitted ∨ x.lstate = .tail ∨ x.lstate = .lost ∨ x.lstate = .lol) then s
  else
    let g := s.rd (Fld.SPK_STAT_GEAR n)
    let shift := uiTime g (outs.foldl (· + ·) 0) / outs.length
    let recent := s.volley :: x.reranges.filter (fun v => decide ((s.volley - v).toNat < 4096))
    let t := s.setCell c (fun x => { x with delay2 := x.delay2 + shift, last16 := [], reranges := recent, rerange := min (x.rerange + 1) 255 })
    if 0 < shift ∧ ¬ t.fits t.timeline then (s.noteNofit t t.timeline).dropCell c
    else if recent.length < 3 then (t.adjust c).showCells
    else
      let j := t.tailSlots n
      let u := (t.setCell c (fun x => { x with tailPos := some j, lstate := if x.lstate = .admitted then .tail else x.lstate, reranges := [] }))
      if x.tailPos = none ∧ s.tailSlots n < s.rd Fld.VLY_CFG_TAIL_MAX ∧ u.fits u.timeline then
        (((u.adjust c).retail n).raise Fld.VLY_EVT_TAIL c).showCells
      else ((if x.tailPos = none ∧ s.tailSlots n < s.rd Fld.VLY_CFG_TAIL_MAX then t.noteNofit u u.timeline else t).dropCell c).showCells

/-- Note the place of a return: its offset from nominal in UI (R95, R147). `good` says that it is neither stale nor missing: only
such a return in place counts toward the 16 of R143 and R149, and a missing one goes on with the run of R149. -/
def State.notePlace (s : State) (c : Nat) (off : Int) (good missing : Bool) : State :=
  let g := s.rd (Fld.SPK_STAT_GEAR (c / 128))
  let out := decide (inPlaceUi g < off.natAbs)
  s.setCell c (fun x => { x with
    last16 := ((out, off) :: x.last16).take 16, place := if out then min (x.place + 1) 65535 else x.place,
    inPlaceRun := if out ∨ ¬ good then 0 else x.inPlaceRun + 1, missRun := if missing then x.missRun else 0 })

/-- The first return in place admits an assigned cell (R135): point 386 is requested, and its arm binding starts. -/
def State.admitCell (s : State) (c : Nat) : State :=
  let n := c / 128
  let s := (s.setCell c (fun x => { x with lstate := .admitted, missRun := 0 })).imageForget c
  let s := (s.setSpoke n (fun p => { p with discCount := if p.probe = .probe then p.discCount else 0 })).dueReq c 0 386 0 0
  let s := if (s.mapArm c).isSome then s.bindCell c else s
  (s.showSpoke n).showCells

/-- Count a cell's transitions toward its arm's budget; at the budget it is held, to the end of the window also where BUDGET is set to 0
meanwhile (R173; DESIGN CHOICE, log 192). -/
def State.countSwitch (s : State) (c : Nat) (sw : BitVec 16) : State :=
  let x := s.cell c
  let delta := match x.swLast with | some p => (sw - p).toNat | none => 0
  let n := x.budCount + delta
  match x.member with
  | none => s.setCell c (fun x => { x with swLast := some sw })
  | some (a, _) =>
    let bud := s.inForce (Fld.VLY_ARMBUD_BUDGET a)
    let held := bud != 0 && decide (bud ≤ n)
    let s := if held ∧ ¬ x.budHeld then s.bump (Fld.VLY_ARMCNT_HELD_CNT a) else s
    s.setCell c (fun x => { x with swLast := some sw, budCount := n, budHeld := x.budHeld || held })

/-- Loss-of-link as a return shows it (R143): FW with an accepted serve, or with more lost volleys than F. A cell that leaves it
is available again, and an ARMBIND write that was held starts (R160). -/
def State.loss (s : State) (c : Nat) (r : Return) : State :=
  let x := s.cell c
  let f := s.rd Fld.VLY_CFG_FW + 1
  if x.lstate.admitted? ∧ x.lstate ≠ .muted ∧ r.fw ∧ (r.sok ∨ f < r.lostv.toNat) then
    s.setCell c (fun x => { x with lstate := .lol, belief := .bypassed })
  else if x.lstate = .lol ∧ ¬ r.fw then (s.setCell c (fun x => { x with lstate := x.normal })).startWrite c
  else s

/-- The sample and the states of a return in order (R131), and a lost cell's return to service (R149). -/
def State.useReturn (s : State) (c : Nat) (r : Return) (stale : Bool) : State :=
  let s := s.setCell c (fun x => { x with
    cstate := r.cstate, blk := r.blk, sok := r.sok,
    sid := if stale then x.sid else r.sid, vkey := if stale then x.vkey else r.vkey,
    sat := if stale then x.sat else r.sat, sampleOk := !stale && !x.dropped })
  let s := s.countSwitch c r.swcnt
  let s := s.loss c r
  let x := s.cell c
  if x.wasLost ∧ 16 ≤ x.inPlaceRun then
    s.setCell c (fun x => let y := { x with wasLost := false }; { y with lstate := if y.lstate = .lost then y.normal else y.lstate })
  else s

/-- DLIM in units of 10 ps. -/
def State.dlim (s : State) : Nat := s.rd Fld.VLY_DLIM_DLIM_10NS * 1000

/-! ### What a standby hears (R91, R326, R344), and the watch of R340 -/

/-- A module that became active by the start rule watches its returns: `other` says that this one carries SOK = 0 with a
foreign EPOCH_LO. -/
def State.countHunt (s : State) (other : Bool) : State :=
  match s.tnd.hunt with
  | some h => if h.left = 0 then s else
    { s with tnd := { s.tnd with hunt := some { h with total := h.total + 1, other := if other then h.other + 1 else h.other } } }
  | none => s

/-- A Listening spoke notes the offset of a return in time (R326). -/
def State.hear (s : State) (n : Nat) (off : Int) : State :=
  if s.standby then s.setSpoke n (fun p => { p with heard := some (uiTime (s.rd (Fld.SPK_STAT_GEAR n)) off) }) else s

/-- A standby takes the cell of a return it hears in a slot it holds no cell for into its own records: the UID of the
slot's binding, and a delay that the manual gives it no means to know, a free value up to DLIM. -/
def State.adoptCell (s : State) (c : Nat) (r : Return) : State :=
  if ¬ s.standby ∨ (s.cell c).lstate ≠ .free then s
  else
    let n := c / 128
    let k := c % 128
    let uid : Nat := if s.flag (Fld.VLY_BIND_HI_VALID n k) then s.rd (Fld.VLY_BIND_LO_UID_LO n k) + 2 ^ 32 * s.rd (Fld.VLY_BIND_HI_UID_HI n k) else 0
    let (d, s) := s.freeNat
    let d2 : Int := ((d % (2 * s.dlim + 1) : Nat) : Int)
    let s := s.setCell c (fun _ => { Cell.reset with
      uid := BitVec.ofNat 48 uid, ver := r.rver, lstate := .admitted, delay2 := d2, topGear := 4
      pos := s.slotPos n k none (s.rd (Fld.SPK_STAT_GEAR n)) })
    (s.showSpoke n).showCells

/-- A standby reads the arm binding of a cell from its point 128 (R160). -/
def State.hearBinding (s : State) (c : Nat) (v : BitVec 40) : State :=
  if ¬ s.standby then s
  else
    let m := bindingOf v
    let old := (s.cell c).member
    let s := (s.setCell c (fun x => { x with member := m })).wr (Fld.VLY_ARMMAP_BIND_DONE (c / 128) (c % 128)) (if m.isSome then 1 else 0)
    let s := match m with
      | some (_, k) => s.wr (Fld.VLY_ARMMAP_MEMBER (c / 128) (c % 128)) k
      | none => s
    s.showBound old m

/-! ### The burst of a slot (R92 to R96, R131, R537) -/

/-- How far from its nominal position a delimiter is found, in UI: a quarter guard and the spare of R94 (R96). -/
def searchUi (g : Nat) : Nat := inPlaceUi g + (if g = 0 then 80 else if g = 4 then 38 else 32)

/-- The returns of the present volley are taken: its window has opened, W after the boundary, and has not closed (R25). -/
def State.hearing (s : State) : Bool := s.seqr.windowOpen && decide (s.time.boundaryTick + s.timeline.w ≤ s.nowTick)

/-- The receiver of the spoke takes returns now: awake, not fenced, not in a gear-change volley, in its return window. -/
def State.hears (s : State) (n : Nat) : Bool :=
  s.flag (Fld.SPK_STAT_RX_AWAKE n) && !s.flag (Fld.SPK_STAT_FENCED n) && !(s.spoke n).inB && s.hearing

/-- The offset of a burst with the signed delay of perturbation 2 (R537, R542). -/
def State.pertOff (s : State) (n k : Nat) (off : Int) : Int :=
  if s.pert 2 ∧ s.inForce Fld.HKP_PERT_SLOT_SPOKE = n ∧ s.inForce Fld.HKP_PERT_SLOT_SLOT = k then
    off + (BitVec.ofNat 16 (s.inForce Fld.HKP_PERT_SLOT_DELAY_UI)).toInt else off

/-- Perturbation 3 drops one burst of the slot in EVERY: whether it drops this one (R537). -/
def State.pertDrop (s : State) (n k : Nat) : Bool × State :=
  let named := s.pert 3 && s.inForce Fld.HKP_PERT_DROP_SPOKE == n &&
    (s.inForce Fld.HKP_PERT_DROP_SLOT == k || s.inForce Fld.HKP_PERT_DROP_SLOT == 127)
  let now := named && decide (s.inForce Fld.HKP_PERT_DROP_EVERY ≤ (s.spoke n).dropCount + 1)
  (now, if named then s.setSpoke n (fun p => { p with dropCount := if now then 0 else p.dropCount + 1 }) else s)

/-- Perturbation 4 inverts the CRC of one return in EVERY on receipt: whether of this one (R537). -/
def State.pertCrc (s : State) (n : Nat) : Bool × State :=
  let on := s.pert 4 && s.inForce Fld.HKP_PERT_CRC_SPOKE == n && s.inForce Fld.HKP_PERT_CRC_DIR == 0
  let now := on && decide (s.inForce Fld.HKP_PERT_CRC_EVERY ≤ (s.spoke n).crcCount + 1)
  (now, if on then s.setSpoke n (fun p => { p with crcCount := if now then 0 else p.crcCount + 1 }) else s)

/-- No delimiter was found for the slot of cell `c` (R96). -/
def State.noLockAt (s : State) (c : Nat) : State :=
  if (s.cell c).lstate.admitted? ∧ (s.cell c).lstate ≠ .muted ∧ (s.cell c).outcome = .awaited ∧ s.hears (c / 128) then
    (s.bump (Fld.SPK_CNT_NOLOCK_CNT (c / 128))).setCell c (fun x => { x with outcome := .noLock })
  else s

/-- A burst of the spoke has locked (R96). -/
def State.burstLocked (s : State) (n : Nat) : State :=
  let was := (s.spoke n).lost
  let s := (s.setSpoke n (fun p => { p with lockedNow := true, lost := false, sinceLock := 0 })).bumpWrap (Fld.SPK_CNT_LOCK_CNT n)
  if was then s.spokeLoss else s

/-- The FAULT bits of a return whose CRC passes are never dropped (R131): beside reaching the island they stand for cell `c` until the
next return window, where LPW_FMAP may exclude it by them (R166, R278). -/
def State.noteFault (s : State) (c : Nat) (fault : BitVec 5) : State :=
  (if (s.cell c).lstate = .free then s else s.setCell c (fun x => { x with fault := x.fault ||| fault })).faultTap c fault

/-- A return whose SLOT is not the one it arrived in (R131, R147): its fault bits act as from the cell it names, the samples of
both cells are missing, and it is out of place for the named one, measured against that slot's nominal position. -/
def State.misplaced (s : State) (c : Nat) (off : Int) (r : Return) : State :=
  let n := c / 128
  let c' := cellId n r.slot
  let here := if (s.cell c).lstate = .free then c % 128 * slotUi (s.rd (Fld.SPK_STAT_GEAR n)) else (s.cell c).pos
  let s := (s.bump Fld.VLY_CNT_MISPLACED_CNT).noteFault c' r.fault
  let s := s.setCell c (fun x => if x.lstate = .free then x else { x with outcome := .displaced })
  if r.slot < 96 ∧ (s.cell c').lstate ≠ .free then
    let s := s.setCell c' (fun x => { x with outcome := .misplaced, sampleOk := false })
    (s.notePlace c' (off + ((here : Int) - (s.cell c').pos)) false false).rerangeCell c'
  else s

/-- A return in its own slot with the module's EPOCH_LO: sample, point response and place are used; a stale one gives no sample
(R131). The first in place admits an assigned cell (R135). -/
def State.ownReturn (s : State) (c : Nat) (off : Int) (r : Return) : State :=
  let outOf := decide (inPlaceUi (s.rd (Fld.SPK_STAT_GEAR (c / 128))) < off.natAbs)
  let stale := r.sid.toNat != s.rd Fld.VLY_NOW2_SID_NOW || !r.svalid
  let s := if outOf then s else s.adoptCell c r
  let s := if stale then s.bump Fld.VLY_CNT_STALE_CNT else s
  if (s.cell c).lstate = .free then s
  else
    let s := s.notePlace c off (!stale) false
    let s := if (s.cell c).lstate = .assigned ∧ ¬ outOf then s.admitCell c else s
    let s := s.setCell c (fun x => { x with
      outcome := if stale then .stale else if outOf then .outOfPlace else .inPlace, stale := if stale then min (x.stale + 1) 65535 else x.stale })
    let s := (s.useReturn c r stale).pointPart c r
    let s := if r.pstat = 0 ∧ r.point.val = 128 then s.hearBinding c r.value else s
    s.rerangeCell c

/-- A return with a foreign EPOCH_LO in the slot of cell `c`: its fault bits act, the rest is discarded and the return is missing
(R131). -/
def State.foreignReturn (s : State) (c : Nat) (off : Int) : State :=
  let s := (s.bump Fld.VLY_CNT_EPOCH_CNT).raise Fld.VLY_EVT_EPOCH_MISMATCH c
  if (s.cell c).lstate = .free then s else (s.notePlace c off false true).setCell c (fun x => { x with outcome := .epoch })

/-- A burst that locked in the slot of cell `c` (R131, R96). -/
def State.lockedReturn (s : State) (c : Nat) (off : Int) (r : Return) : State :=
  let n := c / 128
  let s := s.burstLocked n
  if ¬ r.crcOk then
    (s.bump (Fld.SPK_CNT_CRC_CNT n)).setCell c (fun x => if x.lstate = .free then x else { x with outcome := .crcFail })
  else
    let epochOk := r.epochLo.toNat == s.rd Fld.VLY_NOW2_EPOCH % 16
    let named := cellId n r.slot
    let s := if r.slot < 96 ∧ (s.cell named).lstate ≠ .free then s.setCell named (fun x => { x with sample := some (returnSample r) }) else s
    let s := s.countHunt (!epochOk && !r.sok)
    let outOf := decide (inPlaceUi (s.rd (Fld.SPK_STAT_GEAR n)) < off.natAbs)
    if epochOk ∧ r.slot ≠ c % 128 then s.misplaced c off r
    else
      let s := (s.noteFault c r.fault).hear n off
      let s := if outOf then s.bump (Fld.SPK_CNT_PLACE_CNT n) else s
      if epochOk then s.ownReturn c off r else s.foreignReturn c off

/-- RETURN_BURST_RECEIVE: `bits` is a burst from its delimiter on, `off` the offset of the delimiter from its nominal position in
UI (R92 to R96, R131). A burst whose delimiter is not accepted, or not found near enough, gives no lock. -/
def execReturnBurstReceive (spoke : Fin 128) (slot : Fin 96) (off : Int) (bits : List Bool) (s : State) : Host.Outcome State Fault Refusal :=
  let n := spoke.val
  let c := cellId n slot.val
  if ¬ s.hears n then .next s
  else
    let off := s.pertOff n slot.val off
    let (dropNow, s) := s.pertDrop n slot.val
    let g := s.rd (Fld.SPK_STAT_GEAR n)
    if dropNow ∨ searchUi g < off.natAbs then .next (s.noLockAt c)
    else
      let (inv, t) := s.pertCrc n
      .next (match hearReturn g inv bits with
        | none => s.noLockAt c
        | some r => t.lockedReturn c off r)

/-- SLOT_NO_LOCK: no delimiter was found for the slot of an admitted cell (R96). -/
def execSlotNoLock (spoke : Fin 128) (slot : Fin 96) (s : State) : Host.Outcome State Fault Refusal :=
  .next (s.noLockAt (cellId spoke slot))

/-- The return of a cell is missing for the volley (R28, R131, R147). -/
def RetOutcome.missing : RetOutcome → Bool
  | .late => true | .awaited => true | .noLock => true | .crcFail => true | .epoch => true | .displaced => true
  | .inPlace => false | .outOfPlace => false | .stale => false | .misplaced => false

/-- The close of the return window for one cell (R28, R105, R147). -/
def State.closeCell (s : State) (c : Nat) : State :=
  let x := s.cell c
  if x.lstate = .muted ∨ x.lstate = .free then s
  else
    let age := (s.spoke (c / 128)).trialAge
    let trial := s.flag (Fld.SPK_STAT_TRIAL (c / 128)) && decide (1 ≤ age) && decide (age ≤ 1024) && x.lstate.admitted?
    let s := if x.outcome.missing then
        s.setCell c (fun x => { x with
          miss := if x.lstate = .assigned then x.miss else min (x.miss + 1) 65535, missRun := x.missRun + 1, inPlaceRun := 0, sampleOk := false,
          trialMiss := if trial ∧ (x.outcome = .awaited ∨ x.outcome = .noLock ∨ x.outcome = .crcFail) then x.trialMiss + 1 else x.trialMiss })
      else s
    match x.answerTo with
    | some q => (s.setCell c (fun x => { x with answerTo := none })).pointMissing c q
    | none => s

/-- The close of the return window for one spoke: bursts without lock are counted toward LOS (R96), and a chosen CTLE
step enters the data path (R98). -/
def State.closeSpoke (s : State) (n : Nat) : State :=
  let p := s.spoke n
  let s := if p.inB ∨ s.flag (Fld.SPK_STAT_FENCED n) ∨ ¬ s.flag (Fld.SPK_STAT_RX_AWAKE n) then s
    else s.setSpoke n (fun p => { p with noLock := if p.lockedNow ∨ s.rd (Fld.SPK_STAT_ADMITTED n) = 0 then 0 else p.noLock + 1, sinceLock := if p.lockedNow then 0 else p.sinceLock + 1, lockedNow := false })
  match p.ctleNext with
  | some i => (s.setSpoke n (fun p => { p with ctleNext := none })).wr (Fld.SPK_STAT_CTLE_USED n) i
  | none => s

/-- The recorder takes the sample of a cell at the close of the window (R510, R511). -/
def State.recCell (s : State) (c : Nat) : State :=
  match (s.cell c).sample with
  | none => s
  | some bits =>
    let s := match (s.cell c).member with
      | some (a, _) => s.recAll 3 (fun d => s.recArm a d && s.rd Fld.VLY_NOW_VOLLEY % s.rd (Fld.REC_D_CFG_CELL_EVERY d) == 0)
          (BitVec.ofNat 32 (s.time.boundaryTick * 5 / 4)) 4 0 c bits
      | none => s
    s.setCell c (fun x => { x with sample := none })

/-- The sample record of a cell that is not complete at the close: a late transfer of class C1, and a missing return (R410). -/
def State.sampleLate (s : State) (c : Nat) : State :=
  if (s.cell c).lstate = .free ∨ (s.cell c).outcome.missing then s
  else ((s.bump Fld.QOS_CNT_C1MISS_CNT).raise Fld.QOS_STAT_C1_MISS c).setCell c (fun x => { x with outcome := .late, sampleOk := false, sample := none })

/-- The cells whose sample records still wait for a grant, and the granules of these records once nobody waits for them (R410). -/
def State.lateSamples (s : State) : List Nat := ((s.qos.waiting.filterMap (fun x => x.1.sample)).map (·.val)).dedup
def State.forgetLate (s : State) : State :=
  { s with qos := { s.qos with waiting := s.qos.waiting.map (fun x => ({ x.1 with sample := none }, x.2)) } }

/-- RETURN_WINDOW_CLOSE (R28): every return not checked is missing, also one of a cell whose sample record is not complete
(R410), and the samples now stand for SID_REF (R162). -/
def execReturnWindowClose (s : State) : Host.Outcome State Fault Refusal :=
  if ¬ s.hearing then .next s
  else
    let s := (s.lateSamples.foldl (fun s c => s.sampleLate c) s).forgetLate
    let cells := s.cells.map (·.1)
    let s := cells.foldl (fun s c => (s.closeCell c).recCell c) s
    let s := (s.spokes.map (·.1)).foldl (fun s n => s.closeSpoke n) s
    .next ({ s with seqr := { s.seqr with windowOpen := false, sidRef := BitVec.ofNat 8 (s.rd Fld.VLY_NOW2_SID_NOW) } }).faultWindow

/-- CELL_LOST: missing in MISS_LIMIT consecutive volleys (R149). -/
def execCellLost (spoke : Fin 128) (slot : Fin 96) (s : State) : Host.Outcome State Fault Refusal :=
  let c := cellId spoke slot
  let x := s.cell c
  .next (if s.rd Fld.VLY_CFG_MISS_LIMIT ≤ x.missRun ∧ x.lstate.admitted? ∧ x.lstate ≠ .muted ∧ x.lstate ≠ .lost then
    (((s.setCell c (fun x => { x with lstate := .lost, wasLost := true, inPlaceRun := 0 })).raise Fld.VLY_EVT_LOST c).failWrites c 7).postCell c 0
  else s)

/-- CELL_AUTO_RESUME: after 16 consecutive in-place returns from a cell in LOL, RESUME is sent (R143). -/
def execCellAutoResume (spoke : Fin 128) (slot : Fin 96) (s : State) : Host.Outcome State Fault Refusal :=
  let c := cellId spoke slot
  let x := s.cell c
  .next (if s.flag Fld.VLY_CFG_AUTO_RESUME ∧ x.lstate = .lol ∧ 16 ≤ x.inPlaceRun then
    (s.setCell c (fun x => { x with inPlaceRun := 0 })).due spoke (.mgmt (.resume slot)) else s)

/-- ADMISSION_TIMEOUT: no in-place return within 8 volleys of the serve that carried ASSIGN; RELEASE is sent and the slot freed
(R135). -/
def execAdmissionTimeout (spoke : Fin 128) (slot : Fin 96) (s : State) : Host.Outcome State Fault Refusal :=
  let c := cellId spoke slot
  let x := s.cell c
  let late : Bool := match x.assignAge with
    | some v => decide (8 < v) || (v == 8 && !s.seqr.windowOpen)
    | none => false
  .next (if x.lstate = .assigned ∧ late then (s.due spoke (.mgmt (.release slot))).freeCell c else s)

/-! ### Budget windows (R173) -/

/-- BUDGET_WINDOW_END: at a volley number that is a multiple of the window length the counts start afresh. -/
def execBudgetWindowEnd (arm : Fin 48) (s : State) : Host.Outcome State Fault Refusal :=
  .next (if s.rd Fld.VLY_NOW_VOLLEY % 2 ^ s.inForce (Fld.VLY_ARMBUD_WIN_LOG2 arm) ≠ 0 then s
    else { s with cells := FMap.mapVals Cell.reset (fun _ (x : Cell) =>
      match x.member with
      | some (a, _) => if a = arm then { x with budCount := 0, budHeld := false } else x
      | none => x) s.cells })

/-! ### Discovery (R133 to R135) -/

/-- The offer fits: at G0 always; at a service gear only between two return windows, and only each VLY_DISC.EVERY
volleys (R133). -/
def State.mayOffer (s : State) (n doff : Nat) : Bool :=
  let g := s.rd (Fld.SPK_STAT_GEAR n)
  let t := s.timeline
  let stop := doff * 125 + 2 * s.dlim + s.rd Fld.VLY_DISC_R * slotTime g
  if g = 0 then (s.spoke n).probe != .none || s.flag Fld.VLY_DISC_EN
  else s.flag Fld.VLY_DISC_EN && decide (s.rd Fld.VLY_DISC_EVERY ≤ (s.spoke n).discAge) &&
    (decide (stop ≤ t.w * 125) || (decide (t.w * 125 + s.windowNeed n ≤ doff * 125) && decide (stop ≤ t.p10 * 1000 + t.w * 125)))

/-- A DISC_OPEN waits for its serve. -/
def Spoke.offering (p : Spoke) : Bool :=
  p.items.any (fun i => match i with | .mgmt (.discOpen ..) => true | _ => false) ||
    (match p.next with | some x => x.mgmt.any (fun m => match m with | .discOpen .. => true | _ => false) | none => false)

/-- DISCOVERY_OFFER: a DISC_OPEN becomes due with DOFF, one at a time (R132, R133). -/
def execDiscoveryOffer (spoke : Fin 128) (doff : Nat) (s : State) : Host.Outcome State Fault Refusal :=
  let n := spoke.val
  .next (if (s.spokeState n = .probing ∨ s.spokeState n = .serving) ∧ (s.spoke n).offering = false ∧ s.mayOffer n doff then
    (s.setSpoke n (fun p => { p with discAge := 0 })).due n
      (.mgmt (.discOpen (s.rd Fld.VLY_DISC_R) doff))
  else s)

/-- The highest bit of a mask, if any. -/
def topBit (m : Nat) : Nat → Option Nat
  | 0 => none
  | i + 1 => if bitOf m i then some i else topBit m i

/-- The slot of a valid binding of the UID on the spoke (R158). -/
def State.boundSlot (s : State) (n : Nat) (uid : BitVec 48) : Option Nat :=
  (List.range 96).find? (fun k => s.flag (Fld.VLY_BIND_HI_VALID n k) &&
    s.rd (Fld.VLY_BIND_LO_UID_LO n k) + 2 ^ 32 * s.rd (Fld.VLY_BIND_HI_UID_HI n k) == uid.toNat)

/-- The slot an unbound UID takes: the lowest neither bound nor held. -/
def State.freeSlot (s : State) (n : Nat) : Option Nat :=
  (List.range 96).find? (fun k => !s.flag (Fld.VLY_BIND_HI_VALID n k) && (s.cell (cellId n k)).lstate == .free)

/-- REFUSE with a reason, EXCESS and its events; HOLD is 60 s (R135). The CELL of the event names the slot that was
tried; with no slot free the manual states none: a free value. -/
def State.refuseCell (s : State) (n : Nat) (slot : Option Nat) (uid : BitVec 48) (reason : Nat) : State :=
  let s := (s.due n (.mgmt (.refuse uid reason 60))).raise (Fld.SPK_EVT_EXCESS n) reason
  let s := s.raise Fld.VLY_EVT_REFUSE_SENT n
  match slot with
  | some k => s.postCell (cellId n k) 3
  | none =>
    let (v, s) := s.freeNat
    s.fns.foldl (fun s f => if s.capValid f ∧ s.capConv f = 0xFF then s.postEvent f 0 (.cell (cellId n (v % 128)) 3) else s) s

/-- LOL of an ASSIGN: the VLY_LOL bit of the converter of the cell's valid map entry, else block (R132). -/
def State.lolBit (s : State) (c : Nat) : Bool :=
  match s.cellConv c with
  | some v => bitOf (s.rd Fld.VLY_LOL_LOL) v
  | none => true

/-- The end of the interval in which the module listens after DISC_OPEN, in units of 10 ps from the boundary of the volley that
carried it (R133). -/
def State.listenEnd (s : State) (n doff r : Nat) : Nat := doff * 125 + 2 * s.dlim + r * slotTime (s.rd (Fld.SPK_STAT_GEAR n))

/-- The slot a UID gets: the one it is bound to, or, for a UID bound to none, the lowest neither bound nor held (R135). A UID bound to
a slot that another cell still holds finds no slot free and is refused with reason 1 (DESIGN CHOICE, log 193). -/
def State.slotFor (s : State) (n : Nat) (uid : BitVec 48) : Option Nat :=
  match s.boundSlot n uid with
  | some k => if (s.cell (cellId n k)).lstate = .free then some k else none
  | none => s.freeSlot n

/-- Admission of a cell ranged at the doubled delay `d2` (R135, R169): it is assigned a slot or refused. -/
def State.assignCell (s : State) (n : Nat) (d : Discovery) (d2 : Int) : State :=
  let g := s.rd (Fld.SPK_STAT_GEAR n)
  -- A UID that holds a slot on the spoke has lost its binding: the slot is freed.
  let s := (s.cellsOf n).foldl (fun s p => if p.2.lstate ≠ .free ∧ p.2.uid = d.uid then s.freeCell p.1 else s) s
  let ver := topBit (d.verMask.toNat &&& s.rd Fld.VLY_CFG_VER_ALLOW) 3
  let top := (topBit d.gearMask.toNat 5).getD 0
  match s.slotFor n d.uid with
  | none => s.refuseCell n none d.uid 1
  | some k =>
    let c := cellId n k
    let t := s.setCell c (fun _ => { Cell.reset with uid := d.uid, ver := (ver.map (· + 1)).getD 0, lstate := .assigned, delay2 := d2, topGear := top })
    -- The check of R144 counts the cell as admitted.
    let u := t.setCell c (fun x => { x with lstate := .admitted })
    if ¬ u.fits u.timeline ∨ (ver = some 0 ∧ ¬ u.v1Fits n u.timeline) then (s.noteNofit u u.timeline).refuseCell n (some k) d.uid 2
    else if 2 * (s.dlim : Int) < d2 then s.refuseCell n (some k) d.uid 3
    else match ver with
    | none => s.refuseCell n (some k) d.uid 4
    | some v =>
      let (o, e) := t.ranged n k none g d2
      let t := t.setCell c (fun x => { x with o := o, e := e, pos := t.slotPos n k none g })
      (((t.due n (.mgmt (.assign d.uid k o e (v + 1) top (s.rd Fld.VLY_CFG_FW + 1) (t.lolBit c)))).adjustAtGc c).retail n).showSpoke n

/-- DISCOVERY_BURST: `bits` is a burst from its delimiter on, `tp` the offset of its preamble start from the boundary of the volley
whose serve carried DISC_OPEN, in units of 10 ps (R133 to R135). Bursts that collide give no lock or fail their CRC; one that
cannot come from this round is ignored too; both set DISC_COLL. A burst that passes its CRC and carries a SLOT other than 0x7F is no
discovery burst and is ignored without it (DESIGN CHOICE, log 164). Discovery bursts do not count in SPK_CNT_LOCK (DESIGN CHOICE, log 145). -/
def execDiscoveryBurst (spoke : Fin 128) (tp : Int) (bits : List Bool) (s : State) : Host.Outcome State Fault Refusal :=
  let n := spoke.val
  let g := s.rd (Fld.SPK_STAT_GEAR n)
  .next (match (s.spoke n).discOpen with
    | none => s
    | some (doff, r, _) =>
      if (s.listenEnd n doff r : Int) < tp ∨ ¬ s.flag (Fld.SPK_STAT_RX_AWAKE n) ∨ s.flag (Fld.SPK_STAT_FENCED n) ∨ (s.spoke n).inB then s
      else match hearDiscovery g bits with
        | none => s.raise Fld.VLY_EVT_DISC_COLL n
        | some d =>
          let d2 := tp - (doff * 125 + d.r * slotTime g : Nat)
          if ¬ d.crcOk then s.raise Fld.VLY_EVT_DISC_COLL n
          else if d.slot ≠ 0x7F then s
          else if d2 < -200 ∨ r ≤ d.r then s.raise Fld.VLY_EVT_DISC_COLL n
          else s.assignCell n d (max d2 0))

/-! ### Binding table and arm map (R158, R184) -/

/-- A write of one word of a VLY_BIND entry: an entry left valid with the UID of another valid one is refused. -/
def State.bindWrite (s : State) (n k : Nat) (high : Bool) (v : Nat) : State :=
  let t := if high then s.wrs [(Fld.VLY_BIND_HI_UID_HI n k, v), (Fld.VLY_BIND_HI_VALID n k, v / 2 ^ 31)] else s.wr (Fld.VLY_BIND_LO_UID_LO n k) v
  let uid := fun (j : Nat) => (t.rd (Fld.VLY_BIND_LO_UID_LO n j), t.rd (Fld.VLY_BIND_HI_UID_HI n j))
  if t.flag (Fld.VLY_BIND_HI_VALID n k) ∧ (List.range 96).any (fun j => j != k && t.flag (Fld.VLY_BIND_HI_VALID n j) && uid j == uid k)
  then s.raise Fld.VLY_STAT_INVALID_WR else t

def execVlyBindWrite (u : Core) (spoke : Fin 128) (slot : Fin 96) (high : Bool) (value : Reg32) (s : State) : Host.Outcome State Fault Refusal :=
  .next (s.asWriter u 1 fun s => s.bindWrite spoke slot high value.toNat)

/-- The member numbers a cell holds in any arm: in force, being written, or not yet confirmed as released (R159). -/
def Cell.numbers (x : Cell) : List (Nat × Nat) := (x.member.toList ++ x.newMember.toList ++ x.reserved).dedup

/-- The arms a cell has to do with: that of its valid map entry, and those in which it holds a number. -/
def State.armsWith (s : State) (c : Nat) : List Nat := (s.mapArm c).toList ++ (s.cell c).numbers.map (·.1)

/-- The member numbers that arm `a` must have for cell `c`: the ones it holds, and one for a valid entry of a cell not yet bound. -/
def State.loadOf (s : State) (a c : Nat) : Nat :=
  max (if s.mapArm c = some a then 1 else 0) ((s.cell c).numbers.filter (fun x => x.1 == a)).length

/-- Whether the arm map may name arm `a` for a cell: an arm below 48, at most 768 members, at most 8 arms on the spoke (R159). A cell
whose binding is being cleared or moved counts in both arms until it confirms (log 163). -/
def State.mayBind (s : State) (c a : Nat) : Bool :=
  let others := ((s.mapped.map (·.1)) ++ s.cells.map (·.1)).dedup.filter (fun x => x != c)
  let arms := ((others.filter (fun x => x / 128 == c / 128)).flatMap s.armsWith).dedup
  let held := ((s.cell c).numbers.filter (fun x => x.1 == a)).length
  decide (a < 48) && (s.mapArm c == some a ||
    (decide (others.foldl (fun k x => k + s.loadOf a x) held < 768) && (arms.contains a || decide (arms.length < 8))))

/-- A write of an arm map entry (R184): the binding changes with the arm or VALID; FB alone changes no binding. -/
def State.mapWrite (s : State) (n k a : Nat) (fb valid : Bool) : State :=
  let c := cellId n k
  if ¬ (a < 48) ∨ (valid ∧ ¬ s.mayBind c a) then s.raise Fld.VLY_STAT_INVALID_WR
  else
    let was := s.mapArm c
    let s := s.wrs [(Fld.VLY_ARMMAP_ARM n k, a), (Fld.VLY_ARMMAP_FB n k, if fb then 1 else 0), (Fld.VLY_ARMMAP_VALID n k, if valid then 1 else 0)]
    let s := if was = (if valid then some a else none) ∨ ¬ (s.cell c).lstate.admitted? then s else s.bindCell c
    -- A sideband that is lost already may name the cell's converter (R283).
    s.evaluate

def execVlyArmmapWrite (u : Core) (spoke : Fin 128) (slot : Fin 96) (arm : BitVec 6) (fb valid : Bool) (s : State) :
    Host.Outcome State Fault Refusal :=
  .next (s.asWriter u 1 fun s => s.mapWrite spoke slot arm.toNat fb valid)

end Sys2Proof.Machine
end

