-- ==== Sys2Proof/Machine/HostCheck.lean ====
section
/-! DEFINITION. The checks a descriptor passes before it is carried out (R363 to R366, R381 to R384, R390), in the
order of R365; each answers the status and DETAIL of the first failure. -/

namespace Sys2Proof.Machine

/-- A refusal: status and the byte offset of the first offending field. -/
abbrev Refused := Option (Status × Nat)

/-- The first refusal of a list of checks: each is a condition that must hold. -/
def firstOf : List (Bool × Status × Nat) → Refused
  | [] => none
  | c :: t => if c.1 then firstOf t else some (c.2.1, c.2.2)

/-- Cell IDs covered by CELL and NCELL, without those of slots 96 to 127 (R367). -/
def covered (cell ncell : Nat) : List Nat :=
  ((List.range ncell).map (· + cell)).filter (fun c => decide (c % 128 < 96))

/-- The first and last ID are cell IDs (R10). -/
def idsOk (cell ncell : Nat) : Bool :=
  decide (cell % 128 < 96) && decide ((cell + ncell - 1) % 128 < 96) && decide (cell + ncell ≤ 16384)

/-- The session a descriptor names, if it is open for the function. -/
def State.sessionOf (s : State) (f : Nat) (h : BitVec 16) : Option Session :=
  s.sec.sessions.find? (fun x => x.handle == h && x.fn == f)

/-- Change an open session. -/
def State.setSession (s : State) (h : BitVec 16) (k : Session → Session) : State :=
  { s with sec := { s.sec with sessions := s.sec.sessions.map (fun x => if x.handle = h then k x else x) } }

/-- An engine owns no arm of a converter outside the mask (R383). -/
def State.engineInScope (s : State) (e : Nat) (mask : BitVec 8) : Bool :=
  [(Fld.CE_ARMOWN_VALID0 e, Fld.CE_ARMOWN_ARM0 e), (Fld.CE_ARMOWN_VALID1 e, Fld.CE_ARMOWN_ARM1 e),
   (Fld.CE_ARMOWN_VALID2 e, Fld.CE_ARMOWN_ARM2 e), (Fld.CE_ARMOWN_VALID3 e, Fld.CE_ARMOWN_ARM3 e)].all
    (fun p => s.inForce p.1 == 0 || bitOf mask.toNat (s.inForce p.2 / 6))

/-- A data-memory address that a standard program owns (R250). -/
def programOwned (a : Nat) : Bool :=
  a == 0x2401 || (decide (0x2800 ≤ a) && decide (a < 0x2C00)) ||
  (decide (0x2C00 ≤ a) && decide (a < 0x2E00) && decide (4 ≤ a % 8)) || (decide (0x2E00 ≤ a) && decide (a < 0x2E10))

/-- Address of an offset in a block (R22). -/
def blockAddr (blk offset : Nat) : Nat := 0x8000000 + blk * 0x100000 + offset

/-- The word of a history queue at an offset of a block (R521): the unit, and the offset in its queue. -/
def histAt (blk offset : Nat) : Option (Nat × Nat) :=
  if blk = 0 ∧ 0xF0000 ≤ offset ∧ offset < 0xF8000 ∧ offset % 0x100 ≤ 0x80 then some (100 + (offset - 0xF0000) / 0x100, offset % 0x100)
  else if blk = 2 ∧ 0xF0000 ≤ offset ∧ offset < 0xF2000 ∧ offset % 0x100 ≤ 0x80 then some (300 + (offset - 0xF0000) / 0x100, offset % 0x100)
  else if 0xFF000 ≤ offset ∧ offset ≤ 0xFF080 then some (blk, offset - 0xFF000)
  else none

/-- A register occupies the offset. -/
def registerMapped (blk offset : Nat) : Bool :=
  decide (blk < 19) && decide (offset < 0x100000) && ((findReg regTable (blockAddr blk offset)).isSome || (histAt blk offset).isSome)

/-- The point is writable by host software (R138, R160). -/
def hostWritable (p : Nat) : Bool := (decide (129 ≤ p) && decide (p < 256)) || (decide (388 ≤ p) && decide (p < 512))

/-- Converters named by the arms and the block trigger of a capture definition (R517). -/
def State.recConverters (s : State) (d : Nat) : BitVec 8 :=
  let arms := s.rd (Fld.REC_D_ARMSEL_LO_ARM d) + s.rd (Fld.REC_D_ARMSEL_HI_ARM d) * 2 ^ 32
  BitVec.ofNat 8 ((List.range 8).foldl (fun a c =>
    if arms / 2 ^ (6 * c) % 64 ≠ 0 ∨ bitOf (s.rd (Fld.REC_D_TRIG_TRIG_CONV d)) c then a + 2 ^ c else a) 0)

/-- Step 1 of R365: opcode, header, reserved bytes, level, counts and lengths. -/
def State.checkForm (s : State) (f index : Nat) (d : Descr) : Refused :=
  let lvl := s.rd (Fld.HIF_FN_STAT_LEVEL f)
  let head := [
    ((match d.body with | .unknown _ => false | _ => true), Status.opcode, 0),
    (d.auth.toNat == d.body.auth, .format, 1),
    (d.auth ≠ 2 || index + 1 ≠ s.ringSize f 0, .format, 0),
    (d.resvAt.isNone, .format, d.resvAt.getD 0),
    (!d.csup || decide (2 ≤ lvl), .format, 1),
    (d.body.auth == 1 || d.body.auth == 2 || d.session == 0, .format, 2),
    (d.body.auth == 1 || d.body.auth == 2 || d.seq == 0, .format, 8)]
  let body : List (Bool × Status × Nat) := match d.body with
    | .readPoints _ n p k _ _ fresh => [
        (decide (1 ≤ n ∧ n ≤ 12288), .size, 18), (decide (1 ≤ k ∧ p + k ≤ 512), .size, 22),
        (!fresh || decide (n = 1 ∧ k = 1), .size, 36)]
    | .readReg _ _ n _ => [(decide (1 ≤ n ∧ n ≤ 1024), .size, 24)]
    | .readLink _ n _ _ => [(decide (1 ≤ n ∧ n ≤ 12288), .size, 18)]
    | .streamOpen .. => [(decide (2 ≤ lvl), .format, 0)]
    | .streamClose .. => [(decide (2 ≤ lvl), .format, 0)]
    | .cfgWrite _ _ ws => [(d.bufLen == 4 * ws.length, .size, 24)]
    | .cfgDmem _ _ ws => [(d.bufLen == 8 * ws.length, .size, 24)]
    | .fwStage _ _ _ fl _ => [
        (!fl || s.rst.phase == .hold .recoveryStrap, .format, 32),
        (decide (d.bufLen % 4096 = 0 ∧ 4096 ≤ d.bufLen ∧ d.bufLen ≤ 16777216), .size, 24)]
    | .sessionOpen _ _ => [(d.bufLen == 208, .size, 24)]
    | .policy o => [(d.bufLen == o.length && decide (d.bufLen ≤ 32768), .size, 24)]
    | .debugOpen o => [(d.bufLen == o.length && decide (d.bufLen ≤ 32768), .size, 24)]
    | .testPermit o => [(d.bufLen == o.length && decide (d.bufLen ≤ 32768), .size, 24)]
    | _ => []
  let fit : List (Bool × Status × Nat) := match d.body with
    | .readPoints c n _ k _ len _ => [(decide (8 * k * (covered c n).length ≤ len), .size, 32)]
    | .readLink c n _ len => [(decide (16 * (covered c n).length ≤ len), .size, 32)]
    | _ => []
  let buf := [(d.auth ≠ 2 || decide (d.bufLen ≤ 16777216), Status.size, 24)]
  firstOf (head ++ body ++ fit ++ buf)

/-- The verb a descriptor needs, as its bit in byte 1 of R381; `none` for those that need none (R366, R382). -/
def bodyVerb : Body → Option Nat
  | .nop => none | .streamClose .. => none | .sessionClose .. => none | .sessionOpen .. => none
  | .policy .. => none | .debugOpen .. => none | .testPermit .. => none | .unknown _ => none
  | .readPoints .. => some 0 | .readReg .. => some 0 | .readLink .. => some 0
  | .streamOpen _ src _ => if src = 0 then some 3 else some 0
  | .setpoint .. => some 1 | .pointWrite .. => some 1
  | .emergencyBlock .. => some 4 | .blockRelease .. => some 4
  | .cfgWrite .. => some 2 | .cfgDmem .. => some 2 | .ceLoad .. => some 2 | .cellCtl .. => some 2
  | .reset .. => some 2 | .fwStage .. => some 2

/-- V_REGREAD is needed in addition (R382, R525). -/
def bodyRegRead : Body → Bool
  | .readReg .. => true
  | .streamOpen _ src _ => src == 1
  | _ => false

/-- READ_REG needs no record on a physical function of a module in a state without sessions (R395), and NOP,
READ_REG and FW_STAGE none in recovery (R366). -/
def State.recordFree (s : State) (f : Nat) (b : Body) : Bool :=
  match b with
  | .readReg .. => isPF f && (s.inRecovery || s.rd Fld.SEC_LC_STATE == 0 || s.rd Fld.SEC_LC_STATE == 1 || s.rd Fld.SEC_LC_STATE == 5)
  | .fwStage .. => isPF f && s.inRecovery
  | _ => false

/-- Step 5 of R365, verbs (R382): record, session grant and class. -/
def State.checkVerb (s : State) (f : Nat) (d : Descr) : Refused :=
  match bodyVerb d.body with
  | none =>
    -- The objects need no verb and no session; they are of class C2, and a record that stands bars that class with CLASS_MAX 3.
    let obj : Bool := match d.body with | .policy _ => true | .debugOpen _ => true | .testPermit _ => true | _ => false
    if obj ∧ s.capValid f ∧ s.capClassMax f = 3 then some (.noVerb, 0) else none
  | some v =>
    if s.recordFree f d.body then none else
    let mask := match s.sessionOf f d.session with
      | some x => if d.body.auth = 1 ∨ d.body.auth = 2 then x.verbs else 0xFF
      | none => 0xFF
    let verbs := s.capVerbs f &&& mask
    firstOf [(s.capValid f, .noVerb, 0), (verbs.getLsbD v, .noVerb, 0), (!bodyRegRead d.body || verbs.getLsbD 5, .noVerb, 0),
      (bodyClass3 d.body || s.capClassMax f ≠ 3, .noVerb, 0)]

/-- Step 5 of R365: scope, address, writability, value, in that order (R367, R383). -/
def State.checkBody (s : State) (f : Nat) (d : Descr) : Refused :=
  let conv := s.capConv f
  match d.body with
  | .readPoints c n p k _ _ _ => firstOf [
      ((covered c n).all (fun x => s.cellInScope f x), .scope, 16),
      (((List.range k).all (fun i => s.capPoint f (p + i) 18)), .scope, 20),
      (idsOk c n, .invalidAddr, 16)]
  | .readReg b o n _ => firstOf [
      (decide (o % 4 = 0) && (List.range n).all (fun i => registerMapped b (o + 4 * i)), .invalidAddr, 20)]
  | .readLink c n _ _ => firstOf [((covered c n).all (fun x => s.cellInScope f x), .scope, 16), (idsOk c n, .invalidAddr, 16)]
  | .streamOpen k src a => firstOf [
      (src ≠ 0 || (let m := s.recConverters (a.toNat % 16)
                   if m = 0 then conv == 0xFF else m &&& conv == m), .scope, 20),
      (decide (k < 8), .range, 16), (decide (src < 2), .range, 17),
      (src ≠ 0 || decide (a.toNat / 16 % 8 ≤ s.rd (Fld.REC_D_CFG_NSEG_M1 (a.toNat % 16))), .range, 20)]
  | .streamClose k => firstOf [(decide (k < 8), .range, 16)]
  | .setpoint c q _ => firstOf [(decide (c < 8) && bitOf conv.toNat c, .scope, 16), (decide (q < 5), .range, 17)]
  | .emergencyBlock m => firstOf [(m &&& conv == m, .scope, 16), (m ≠ 0, .range, 16)]
  | .blockRelease m => firstOf [(m &&& conv == m, .scope, 28), (m ≠ 0, .range, 28)]
  | .pointWrite c p _ => firstOf [
      (s.cellInScope f c && s.capPoint f p 19, .scope, 16), (idsOk c 1, .invalidAddr, 16), (hostWritable p, .readOnly, 18)]
  | .cellCtl c a => firstOf [(s.cellInScope f c, .scope, 28), (idsOk c 1, .invalidAddr, 28), (decide (a < 2), .range, 30)]
  | .ceLoad e _ => firstOf [(s.engineInScope e conv, .scope, 28), (decide (e < 32), .invalidAddr, 28)]
  | .cfgDmem e a ws => firstOf [
      (s.engineInScope e conv, .scope, 28), (decide (e < 32), .invalidAddr, 28), (decide (a + ws.length ≤ 0x8000), .range, 32)]
  | .cfgWrite b o ws => firstOf [
      (decide (o % 4 = 0) && (List.range ws.length).all (fun i => registerMapped b (o + 4 * i)), .invalidAddr, 32)]
  | _ => none

/-- Step 6 of R365: the state of the module and of the target. -/
def State.checkState (s : State) (f : Nat) (d : Descr) : Refused :=
  let vf : Bool := match d.body with | .policy _ => isPF f | .debugOpen _ => isPF f | .testPermit _ => isPF f | _ => true
  let rec' : Bool := !s.inRecovery || (isPF f && (match d.body with | .nop => true | .readReg .. => true | .fwStage .. => true | _ => false))
  let standby : Bool := match d.body with | .setpoint .. => s.activeOrSolo | .pointWrite .. => s.activeOrSolo | _ => true
  firstOf ([(rec', Status.notPermitted, 0), (vf, .notPermitted, 0), (standby, .standby, 0)] ++
    match d.body with
    | .pointWrite c _ _ => [(decide ((s.cell c).queue.length + (match (s.cell c).out with | some o => if o.w.own then 0 else 1 | none => 0) < 4), .busy, 16)]
    | .cfgWrite b _ _ => [(b ≠ 9 && b ≠ 10, .notPermitted, 28)]
    | .cfgDmem e a ws => [(!s.flag (Fld.CE_PROG_STANDARD e) || (List.range ws.length).all (fun i => !programOwned (a + i)), .notPermitted, 32)]
    | _ => [])

/-- Count the outcome of a MAC or signature check (R390). -/
def State.countAuth (s : State) (d : Descr) (ok : Bool) : State :=
  if d.auth = 1 then s.bump (if ok then Fld.SEC_CNT_MACOK_CNT else Fld.SEC_CNT_MACFAIL_CNT)
  else s.bump (if ok then Fld.SEC_CNT_SIGOK_CNT else Fld.SEC_CNT_SIGFAIL_CNT)

/-- A refusal with AUTH in a session: AUTH_FAIL_MAX consecutive ones end it (R390). -/
def State.authFailed (s : State) (f : Nat) (h : BitVec 16) : State :=
  let s := s.setSession h (fun x => { x with fails := x.fails + 1 })
  match s.sessionOf f h with
  | some x => if s.capAuthFailMax f ≠ 0 ∧ s.capAuthFailMax f ≤ x.fails then s.endSession h 2 else s
  | none => s

/-- Steps 3 and 4 of R365 for AUTH 1 and 2: the MAC or signature, then SEQ. -/
def State.checkAuth (s : State) (f : Nat) (d : Descr) (x : Session) : State × Refused :=
  let s := s.countAuth d d.macOk
  if ¬ d.macOk then (s.authFailed f d.session, some (.auth, if d.auth = 1 then 48 else 64))
  else
    let s := s.setSession d.session (fun x => { x with fails := 0 })
    if x.seq < d.seq then (s.setSession d.session (fun x => { x with seq := d.seq }), none)
    else (s.bump Fld.SEC_CNT_REPLAY_CNT, some (.replay, 8))

/-- Steps 5 and 6 of R365. -/
def State.checkRest (s : State) (f : Nat) (d : Descr) : Refused :=
  match s.checkVerb f d with
  | some r => some r
  | none => match s.checkBody f d with
    | some r => some r
    | none => s.checkState f d

/-- A descriptor with a MAC or signature of a session, unless it needs no record (R366). -/
def State.inSession (s : State) (f : Nat) (d : Descr) : Bool := (d.body.auth == 1 || d.body.auth == 2) && !s.recordFree f d.body

/-- Step 2 of R365: the session is the function's and open, and for AUTH 2 its grant carries a CFG_KEY. -/
def State.checkSession (s : State) (f : Nat) (d : Descr) : Refused :=
  if ¬ s.inSession f d then none
  else match s.sessionOf f d.session with
    | none => some (.noSession, 2)
    | some x => if d.auth = 2 ∧ x.cfgKey = 0 then some (.noVerb, 2) else none

/-- Step 3 of R365: the read of the buffer brought nothing. -/
def checkBuffer (d : Descr) (p : Bool) : Refused :=
  if p ∧ d.buf = .timeout then some (.hostTimeout, 16) else if p ∧ d.buf = .error then some (.hostError, 16) else none

/-- R365 whole: the state after the counters of the checks, and the refusal if any. -/
def State.checkDescr (s : State) (f index : Nat) (d : Descr) : State × Refused :=
  match s.checkForm f index d with
  | some r => (s, some r)
  | none =>
    match s.checkSession f d with
    | some r => (s, some r)
    | none =>
      match if s.inSession f d then s.sessionOf f d.session else none with
      | none =>
        match checkBuffer d (d.body.auth == 3 || d.auth == 2) with
        | some r => (s, some r)
        | none => (s, s.checkRest f d)
      | some x =>
        match checkBuffer d (d.auth == 2 && d.bufLen != 0) with
        | some r => (s, some r)
        | none =>
          let (s, r) := s.checkAuth f d x
          match r with
          | some r => (s, some r)
          | none => (s, s.checkRest f d)

end Sys2Proof.Machine
end

