-- ==== Sys2Proof/Machine/Sec.lean ====
section
/-! DEFINITION. Sessions, custodian objects, the lifecycle moves, permits and the background fuse re-read (R386 to
R406). -/

namespace Sys2Proof.Machine

/-! ### Sessions (R386 to R389) -/

/-- The checks of R387, in order. DETAIL where no field of the object is at fault names FUNCTION, 7, whose record stands against it (DESIGN
CHOICE, log 205). -/
def State.checkGrant (s : State) (f : Nat) (g : Grant) : Refused :=
  let lc := s.rd Fld.SEC_LC_STATE
  firstOf [
    (g.formatAt.isNone, .format, g.formatAt.getD 0),
    (decide (g.authSlot < 4) && bitOf (s.rd (Fld.SEC_AUTH_WORD g.authSlot 8)) 0, .auth, 6),
    (g.sigOk, .auth, 96),
    (s.serialOk && g.target == s.serial, .scope, 16), (g.function == f, .scope, 7),
    (lc == 2 || lc == 3 || (lc == 4 && g.openedOk), .notPermitted, 9),
    (!s.sec.hold && !s.sec.tamperLock, .notPermitted, 9),
    (decide (g.notBefore ≤ s.tSec), .notPermitted, 24), (decide (s.tSec < g.notAfter), .notPermitted, 32),
    (decide (s.capFloor f ≤ g.grantId), .notPermitted, 12),
    (s.capValid f, .notPermitted, 7),
    (decide ((s.sec.sessions.filter (fun x => x.fn == f)).length < s.capMaxSess f), .notPermitted, 7),
    (g.secretOk && s.sec.idKey, .auth, 160)]

/-- A non-zero handle that no open session has, drawn at random. -/
def State.drawHandle (s : State) : BitVec 16 × State :=
  let (v, s) := s.freeNat
  let used := s.sec.sessions.map (fun x => x.handle.toNat)
  let h := ((List.range 1025).map (fun i => (v + i) % 65535 + 1)).find? (fun h => !used.contains h)
  (BitVec.ofNat 16 (h.getD 1), s)

/-- K of a session (R388): HKDF over both shared secrets, with the host's nonce as salt and "SYRIC-SESSION", the serial, the function and the
handle as info. -/
def sessionKey (object : List (BitVec 8)) (me mid : BitVec 256) (serial : BitVec 64) (f : Nat) (h : BitVec 16) : BitVec 256 :=
  let he := BitVec.ofNat 256 (leAt object 160 32)
  Config.hkdfSha256 ((object.drop 192).take 16) (leBytes 32 (Config.x25519 me he).toNat ++ leBytes 32 (Config.x25519 mid he).toNat)
    ([0x53, 0x59, 0x52, 0x49, 0x43, 0x2D, 0x53, 0x45, 0x53, 0x53, 0x49, 0x4F, 0x4E].map (BitVec.ofNat 8) ++ leBytes 8 serial.toNat ++
      leBytes 1 f ++ leBytes 2 h.toNat)

/-- A 256-bit value as four 64-bit words, least significant first. -/
def words64 (v : BitVec 256) : List (BitVec 64) := (List.range 4).map (fun i => BitVec.ofNat 64 (v.toNat / 2 ^ (64 * i)))

/-- SESSION_OPEN (R387, R388): on success a session with a drawn handle, its key in a MAC register and highest SEQ 0, and the reply in host
memory before the completion: M_e, HANDLE, the seconds left, the serial and CONFIRM. -/
def State.openSession (s : State) (f : Nat) (x : InFlight) (reply : BitVec 64) (g : Grant) : State :=
  let slotOk := decide (g.authSlot < 4) && bitOf (s.rd (Fld.SEC_AUTH_WORD g.authSlot 8)) 0
  let r := s.checkGrant f g
  let s := if g.formatAt.isNone ∧ slotOk then s.bump (if g.sigOk then Fld.SEC_CNT_SIGOK_CNT else Fld.SEC_CNT_SIGFAIL_CNT) else s
  match r with
  | some (st, o) => ((s.bump Fld.SEC_CNT_GRANTFAIL_CNT).raise Fld.SEC_EVT_GRANT_FAIL).done f x st 0 o
  | none =>
    let (h, s) := s.drawHandle
    let (me, s) := s.drawKey
    let key := sessionKey g.object me s.sec.idPriv s.serial f h
    let left := min (g.notAfter - s.tSec) 0xFFFFFFFF
    let words := words64 (Config.x25519 me 9) ++ [BitVec.ofNat 64 (h.toNat + left * 2 ^ 32), s.serial]
    let s := s.dma f reply 8 (words ++ (words64 (Config.hmacSha256 key (g.object ++ leWords words))).take 2)
    let new : Session := ⟨h, f, 0, key, g.cfgKey, g.verbs, g.authSlot, g.notAfter, 0⟩
    let s : State := { s with sec := { s.sec with sessions := s.sec.sessions ++ [new] } }
    s.showSessions.done f x .ok h.toNat

/-- Run `k` on an eligible descriptor in flight; without one nothing happens. -/
def State.withDescr (s : State) (f : Nat) (index : BitVec 16) (k : InFlight → State) : State :=
  match s.runnable f index.toNat with
  | some x => k x
  | none => s

def execSessionOpen (fn : Fin 256) (index : BitVec 16) (s : State) : Host.Outcome State Fault Refusal :=
  .next (s.withDescr fn.val index fun x =>
    match x.d.body with
    | .sessionOpen r g => s.openSession fn.val x r g
    | _ => s)

/-- SESSION_CLOSE ends a session of the function (R389). -/
def execSessionClose (fn : Fin 256) (index : BitVec 16) (s : State) : Host.Outcome State Fault Refusal :=
  .next (s.withDescr fn.val index fun x =>
    match x.d.body with
    | .sessionClose h => if (s.sessionOf fn.val h).isSome then (s.endSession h 0).done fn.val x .ok else s.done fn.val x .noSession 0 16
    | _ => s)

/-- SESSION_EXPIRY: T_sec has reached NOT_AFTER (R389). -/
def execSessionExpiry (handle : BitVec 16) (s : State) : Host.Outcome State Fault Refusal :=
  match s.sec.sessions.find? (fun x => x.handle == handle) with
  | some x => .next (if x.notAfter ≤ s.tSec then s.endSession handle 1 else s)
  | none => .next s

/-! ### Custodian objects (R392, R393) -/

/-- A capability record keeps its ranges (R381); a record with VALID 0 is not in force and is not looked at. -/
def recordOk (ws : List (BitVec 32)) : Bool :=
  let w := fun (j : Nat) => (ws.getD j 0).toNat
  ws.length == 16 &&
  (w 0 % 2 == 0 ||
    ((w 0 / 2 ^ 16 % 256 == 2 || w 0 / 2 ^ 16 % 256 == 3) && w 0 / 2 % 128 == 0 && w 0 / 2 ^ 14 % 4 == 0 &&
     (List.range 4).all (fun r => decide (w (1 + r) % 512 ≤ w (1 + r) / 512 % 512) && w (1 + r) / 2 ^ 20 == 0) &&
     decide (1 ≤ w 6 / 2 ^ 16) && decide (1 ≤ w 7 / 2 ^ 16 % 256) && decide (1 ≤ w 7 / 2 ^ 24 ∧ w 7 / 2 ^ 24 ≤ 4) &&
     w 9 / 2 ^ 16 == 0 && (List.range 6).all (fun j => w (10 + j) == 0)))

/-- An authority slot holds a key, VALID and zeros (R394). -/
def authSlotOk (ws : List (BitVec 32)) : Bool :=
  ws.length == 16 && decide ((ws.getD 8 0).toNat < 2) && (List.range 7).all (fun j => ws.getD (9 + j) 0 == 0)

/-- The sections of a body are well formed and in range (item 4 of R393). -/
def State.sectionsOk (s : State) (o : CustObject) : Bool :=
  if o.kind = 0 then decide (2 ≤ o.provKeys.length ∧ o.provKeys.length ≤ 5 ∧ 2 ≤ o.provK ∧ o.provK ≤ o.provKeys.length)
  else if o.kind = 1 then
    (match o.cap with | some rs => rs.length == 256 && rs.all recordOk | none => true) &&
    (match o.auth with | some as => as.length == 4 && as.all authSlotOk | none => true) &&
    (match o.tamperAct with | some a => decide (a ≤ 3) | none => true) &&
    !(o.move == 1 && s.rd Fld.SEC_LC_STATE == 1 && (o.cap.isNone || o.auth.isNone))
  else if o.kind = 3 then decide (o.time1 ≤ o.time0 + 86400)
  else true

/-- One signature entry passes (item 2 of R393). -/
def State.sigEntryOk (s : State) (e : SigEntry) : Bool :=
  decide (e.index < 5) && bitOf (s.rd Fld.SEC_CUST_SLOT_OK) e.index && e.keyHash == s.fuseHash (17 + 8 * e.index) && e.sigOk

/-- Whether a move is allowed from a lifecycle state (R395, R396). -/
def moveAllowed (lc move : Nat) : Bool :=
  if lc = 1 then move == 1 || move == 4
  else if lc = 2 then move == 0 || move == 2 || move == 4 || move == 5
  else if lc = 3 then move == 0 || move == 1 || move == 4 || move == 5
  else if lc = 4 then move == 3 || move == 4
  else false

/-- The kind-specific rule (item 5 of R393). -/
def State.kindRule (s : State) (o : CustObject) : Bool :=
  let lc := s.rd Fld.SEC_LC_STATE
  if o.kind = 0 then lc == 0
  else if o.kind = 1 then decide (s.rd Fld.SEC_POL_SERIAL_SERIAL < o.serial) && moveAllowed lc o.move && (o.move ≠ 3 || decide (s.reprovs < 32))
  else if o.kind = 2 then
    (lc == 1 || lc == 2 || lc == 3) && o.serial == s.opens + 1 && decide (s.opens < 32) && decide (s.tSec < o.time1)
  else (lc == 2 || lc == 3) && decide (o.time0 ≤ s.tSec ∧ s.tSec < o.time1)

/-- R393 in order; `kinds` are the kinds that fit the opcode. -/
def State.checkObject (s : State) (kinds : List Nat) (o : CustObject) : Refused :=
  firstOf [
    (o.formatOk && kinds.contains o.kind && (if o.kind = 0 then o.sigs.length == 0 else decide (1 ≤ o.sigs.length ∧ o.sigs.length ≤ 5))
      && decide ((o.sigs.map (·.index)).dedup.length = o.sigs.length), .format, 0),
    -- A bundle in BLANK (R400).
    (!(o.kind == 1 && s.rd Fld.SEC_LC_STATE == 0), .notPermitted, 32),
    (o.kind == 0 || (decide (s.rd Fld.SEC_CUST_K ≤ o.sigs.length) && o.sigs.all (fun e => s.sigEntryOk e)), .auth, 64),
    (s.serialOk && (o.target == s.serial || (o.target == 0 && o.kind == 1 && o.move == 0)), .scope, 8),
    (o.bodyOk && s.sectionsOk o, .range, 64),
    (s.kindRule o, .notPermitted, 32)]

/-- Count the signatures of an object that were checked: none of one that item 1, or R400 before item 2, refuses. -/
def State.countSigs (s : State) (r : Refused) (o : CustObject) : State :=
  if (match r with | some (.format, _) => true | _ => false) || (o.kind == 1 && s.rd Fld.SEC_LC_STATE == 0) then s else o.sigs.foldl (fun s e => s.bump (if s.sigEntryOk e then Fld.SEC_CNT_SIGOK_CNT else Fld.SEC_CNT_SIGFAIL_CNT)) s

/-- A refused object is counted and changes nothing else. -/
def State.refuseObject (s : State) (f : Nat) (x : InFlight) (r : Status × Nat) : State :=
  ((s.bump Fld.SEC_CNT_OBJFAIL_CNT).raise Fld.SEC_EVT_OBJ_FAIL).done f x r.1 0 r.2

/-! ### Applying a bundle (R394, R396) -/

/-- Write the 16 words of a record or slot. -/
def State.putWords (s : State) (g : Nat → Field) (ws : List (BitVec 32)) : State :=
  (List.range 16).foldl (fun s j => s.wr (g j) (ws.getD j 0).toNat) s

/-- Words in force of a record or slot. -/
def State.wordsOf (s : State) (g : Nat → Field) : List Nat := (List.range 16).map (fun j => s.rd (g j))

/-- The CAP section: changed records end the function's sessions and refill its buckets. -/
def State.applyCap (s : State) (rs : List (List (BitVec 32))) : State :=
  (List.range 256).foldl (fun s f =>
    let ws := rs.getD f []
    if s.wordsOf (Fld.SEC_CAP_WORD f) = ws.map (·.toNat) then s else
    let s := s.putWords (Fld.SEC_CAP_WORD f) ws
    let s := s.endSessions (fun x => x.fn == f) 2
    if s.fnOpen f then
      s.setFn f (fun h => { h with tokens := s.capDescBurst f * 1000000000, sigTokens := 64000000000, refilled := (s.base 3).count })
    else s) s

/-- The AUTH section: changed slots end the sessions whose grant they signed. -/
def State.applyAuth (s : State) (as : List (List (BitVec 32))) : State :=
  (List.range 4).foldl (fun s a =>
    let ws := as.getD a []
    if s.wordsOf (Fld.SEC_AUTH_WORD a) = ws.map (·.toNat) then s else
    (s.putWords (Fld.SEC_AUTH_WORD a) ws).endSessions (fun x => x.authSlot == a) 2) s

/-- Sections, hash, serial and floor of an accepted bundle. -/
def State.applyBundle (s : State) (o : CustObject) : State :=
  let s := match o.cap with | some rs => s.applyCap rs | none => s
  let s := match o.auth with | some as => s.applyAuth as | none => s
  let s := match o.tamperAct with | some a => { s with sec := { s.sec with tamperAct := a } } | none => s
  let s := (List.range 8).foldl (fun s i => s.wr (Fld.SEC_POL_HASH_HASH i) (o.hash / 2 ^ (32 * i))) s
  let s := s.wr Fld.SEC_POL_SERIAL_SERIAL o.serial
  { s with sec := { s.sec with floor := some (o.time0, s.seconds) } }.raise Fld.SEC_EVT_BUNDLE

/-- A move to a state held in the key store. -/
def State.moveTo (s : State) (lc : Nat) : State :=
  ((({ s with keyLc := lc }.endAllSessions 2).showLifecycle).joinTandem).raise Fld.SEC_EVT_MOVE lc

/-- The tamper record is cleared (R75, R401), and an identity key that the reaction dropped is drawn again. -/
def State.clearTamper (s : State) : State :=
  let s := s.resetRange 0x8c00020 0x8c00040
  let s := s.wrs [(Fld.RST_BACKUP_STAT_TAMP_NEXT, 0), (Fld.RST_BACKUP_STAT_TAMP_TOTAL, 0)]
  let redraw := s.sec.tamperLock && !s.sec.idKey
  let s := { s with sec := { s.sec with tamperLock := false } }
  if redraw then s.drawIdentity else s

/-- Burn words up to a roll-back count (R554): the lowest `n` bits of words 76 to 79. -/
def State.burnRollback (s : State) (n : Nat) (verified : Bool) : State :=
  (List.range 4).foldl (fun s i =>
    let bits := min (n - 32 * i) 32
    if bits = 0 then s else s.burn (76 + i) (BitVec.ofNat 32 (2 ^ bits - 1)) verified) s

/-- The CURRENT image of the running flash, if it is confirmed. -/
def State.confirmedImage (s : State) : Option Image :=
  let fl := s.flashOf (s.rd Fld.RST_FW_STAT_FLASH)
  match fl.find .current with
  | some i => if (fl.slot i).trial then none else (fl.slot i).image
  | none => none

/-- MOVE 2: the roll-back count is raised to that of the confirmed CURRENT image; a burn that fails verification
completes the move with NOT_PERMITTED (R405, R554). -/
def State.moveToField (s : State) (verified : Bool) : State × Bool :=
  match s.confirmedImage with
  | some im =>
    if s.rd Fld.RST_FW_RB_FUSED < im.rollback then
      let s := (s.burnRollback im.rollback verified).showLifecycle
      (s, verified)
    else (s, true)
  | none => (s, true)

/-- Order the warm reset that follows a completion (R60). -/
def State.orderReset (s : State) (why : Nat) : State := { s with rst := { s.rst with ordered := some why } }

/-- MOVE 3: the next LC_REPROV bit is burnt, the policy cleared, a new identity key drawn (R396), and with it no
content key opens any more (R546). -/
def State.reprovision (s : State) (verified : Bool) : State × Bool :=
  let s := s.burn 58 (BitVec.ofNat 32 (2 ^ s.reprovs)) verified
  if ¬ verified then (s, false) else
  let s := s.resetRange 0x8901000 0x8905100
  let s := s.resetRange 0x8900010 0x8900030
  let s := { s with keyLc := 1, sec := { s.sec with tamperAct := 0 }, flash := FMap.mapVals Flash.reset (fun _ x => Flash.dropKeys x) s.flash }
  let s := (s.endAllSessions 2).drawIdentity
  ((s.raise Fld.SEC_EVT_MOVE 1).orderReset 2, true)

/-- MOVE 4: zeroised as R398 lays down, LC_RETIRE burnt; a failed burn is reported and the move goes ahead (R405). A
zeroisation that cannot be verified holds the module and burns nothing. -/
def State.retire (s : State) (verified zeroised : Bool) : State × Bool :=
  let s := (s.endAllSessions 2).zeroise
  if ¬ zeroised then (s.zeroiseFailed, false) else
  let s := s.burn 59 1 verified
  ((s.raise Fld.SEC_EVT_MOVE 5).orderReset 3, true)

/-- A serving module (R397). -/
def State.isServing (s : State) : Bool := s.tndState == 4 || (s.tndState == 0 && s.anyServing)

/-- A serving module with a READY twin yields at the next boundary, and the descriptor waits (R397). -/
def State.yieldFirst (s : State) (f serial : Nat) : State :=
  (s.wantYield true false).setProgress f serial .yield

/-- Provisioning (R400): the identity key is drawn, CUST_CFG and the slot hashes are burnt and verified, and the module is PROVISIONED. A burn
that fails verification, of every word alike (log 206), leaves CUST_CFG at its safe value: PROV reads 1 and every slot is disabled. -/
def State.provision (s : State) (o : CustObject) (verified : Bool) : State × Bool :=
  let n := o.provKeys.length
  let s := s.drawIdentity
  let s := (List.range n).foldl (fun s i =>
    (List.range 8).foldl (fun s j => s.burn (17 + 8 * i + j) (BitVec.ofNat 32 (o.provKeys.getD i 0 / 2 ^ (32 * j))) verified) s) s
  let s := s.burn 16 (BitVec.ofNat 32 (n + 8 * o.provK + 64 * (2 ^ n - 1) + 2 ^ 31)) verified
  let s := { s with keyLc := 1 }
  if verified then ((s.showLifecycle).raise Fld.SEC_EVT_MOVE 1, true)
  else
    let s := { s with fuses := { s.fuses with unsafeW := 16 :: s.fuses.unsafeW } }
    ((s.wr (Fld.FUS_WORD_VALUE 16) (FMap.get 0 s.fuses.stored 16).toNat).showLifecycle, false)

/-- Carry out an accepted POLICY object by its move; the flag says whether the move went well. -/
def State.applyMove (s : State) (o : CustObject) (verified zeroised : Bool) : State × Bool :=
  if o.kind = 0 then s.provision o verified
  else if o.move = 3 then
    let (s, ok) := s.reprovision verified
    if ok then (({ s with sec := { s.sec with floor := some (o.time0, s.seconds) } }.wr Fld.SEC_POL_SERIAL_SERIAL o.serial).raise Fld.SEC_EVT_BUNDLE, true)
    else (s, false)
  else if o.move = 4 then
    let (s, ok) := s.retire verified zeroised
    (if ok then s.applyBundle o else s, ok)
  else if o.move = 2 then
    let (s, ok) := s.moveToField verified
    if ok then ((s.applyBundle o).moveTo 3, true) else (s, false)
  else if o.move = 1 then ((s.applyBundle o).moveTo 2, true)
  else if o.move = 5 then (((s.applyBundle o).clearTamper).raise Fld.SEC_EVT_MOVE, true)
  else (s.applyBundle o, true)

/-- The oldest descriptor in flight at a command slot that may be carried out, or that waited under R397 and is due. -/
def State.actable (s : State) (f index : Nat) : Option InFlight :=
  (s.fn f).inflight.find? (fun x => x.index == index && (x.at' == .due || s.eligible f x))

/-- A POLICY descriptor (R393): checked, then applied, or a retire bundle yields first (R397). `want` limits the
objects taken to one kind and move. -/
def State.policy (s : State) (f : Nat) (index : BitVec 16) (want : CustObject → Bool) (verified zeroised : Bool) : State :=
  match s.actable f index.toNat with
  | none => s
  | some x =>
    match x.d.body with
    | .policy o =>
      if ¬ want o then s
      else if x.at' = .due then
        let (s, ok) := s.applyMove o verified zeroised
        s.done f x (if ok then .ok else .notPermitted)
      else
        let r := s.checkObject [0, 1] o
        let s := s.countSigs r o
        match r with
        | some r => s.refuseObject f x r
        | none =>
          if o.kind = 1 ∧ o.move = 4 ∧ s.isServing then
            if s.tndState = 4 ∧ s.flag Fld.TND_STAT_TWIN_READY then s.yieldFirst f x.serial
            else s.refuseObject f x (.notPermitted, 40)
          else
            let (s, ok) := s.applyMove o verified zeroised
            s.done f x (if ok then .ok else .notPermitted)
    | _ => s

/-- SEC_POLICY: any custodian object in a POLICY descriptor. -/
def execSecPolicy (fn : Fin 256) (index : BitVec 16) (verified : Bool) (s : State) : Host.Outcome State Fault Refusal :=
  .next (s.policy fn.val index (fun _ => true) verified true)

def execSecProvision (fn : Fin 256) (index : BitVec 16) (verified : Bool) (s : State) : Host.Outcome State Fault Refusal :=
  .next (s.policy fn.val index (fun o => o.kind == 0) verified true)

def execMove0PolicyOnly (fn : Fin 256) (index : BitVec 16) (s : State) : Host.Outcome State Fault Refusal :=
  .next (s.policy fn.val index (fun o => o.kind == 1 && o.move == 0) true true)

def execMove1 (fn : Fin 256) (index : BitVec 16) (s : State) : Host.Outcome State Fault Refusal :=
  .next (s.policy fn.val index (fun o => o.kind == 1 && o.move == 1) true true)

def execMove2 (fn : Fin 256) (index : BitVec 16) (verified : Bool) (s : State) : Host.Outcome State Fault Refusal :=
  .next (s.policy fn.val index (fun o => o.kind == 1 && o.move == 2) verified true)

def execMove3Reprovision (fn : Fin 256) (index : BitVec 16) (verified : Bool) (s : State) : Host.Outcome State Fault Refusal :=
  .next (s.policy fn.val index (fun o => o.kind == 1 && o.move == 3) verified true)

def execMove4Retire (fn : Fin 256) (index : BitVec 16) (verified zeroised : Bool) (s : State) : Host.Outcome State Fault Refusal :=
  .next (s.policy fn.val index (fun o => o.kind == 1 && o.move == 4) verified zeroised)

def execMove5ClearTamper (fn : Fin 256) (index : BitVec 16) (s : State) : Host.Outcome State Fault Refusal :=
  .next (s.policy fn.val index (fun o => o.kind == 1 && o.move == 5) true true)

/-! ### Open tokens and permits (R397, R398, R402) -/

/-- An accepted open token (R398): sessions end and tests stop, secrets are zeroised and verified, the next LC_OPEN
bit is burnt, and a warm reset follows the completion. -/
def State.carryOpen (s : State) (f : Nat) (x : InFlight) (verified zeroised : Bool) : State :=
  let s := s.endAllSessions 2
  let s := if s.rd Fld.HKP_PERT_CTL_ON ≠ 0 then s.pertEnd else s
  let s := s.zeroise
  if ¬ zeroised then s.zeroiseFailed.done f x .notPermitted
  else
    let s := s.burn 57 (BitVec.ofNat 32 (2 ^ s.opens)) verified
    ((s.raise Fld.SEC_EVT_MOVE 4).done f x .ok).orderReset 1

/-- DEBUG_OPEN: a serving module yields first to a READY twin; without one FORCE makes the token take effect at the
next boundary, and otherwise it is refused (R397). -/
def State.debugOpen (s : State) (f : Nat) (index : BitVec 16) (verified zeroised : Bool) : State :=
  match s.actable f index.toNat with
  | none => s
  | some x =>
    match x.d.body with
    | .debugOpen o =>
      if x.at' = .due then s.carryOpen f x verified zeroised
      else
        let r := s.checkObject [2] o
        let s := s.countSigs r o
        match r with
        | some r => s.refuseObject f x r
        | none =>
          if s.isServing then
            if s.tndState = 4 ∧ s.flag Fld.TND_STAT_TWIN_READY then s.yieldFirst f x.serial
            else if o.force then s.setProgress f x.serial .yield
            else s.refuseObject f x (.notPermitted, 40)
          else s.carryOpen f x verified zeroised
    | _ => s

def execDebugOpen (fn : Fin 256) (index : BitVec 16) (verified zeroised : Bool) (s : State) : Host.Outcome State Fault Refusal :=
  .next (s.debugOpen fn.val index verified zeroised)

/-- At a volley boundary the descriptors that wait under R397 become due: a yield has taken place, or FORCE or the module no longer serving
lets them go on. Any other for which no yield is due any more, as the twin is not READY, is refused. -/
def State.wakeOpens (s : State) : State :=
  let serving := s.isServing
  let due := s.tnd.yieldDue.isSome
  let wakes := fun (x : InFlight) => x.at' == .yield && (!serving || (!due && (match x.d.body with | .debugOpen o => o.force | _ => false)))
  let s := { s with host := FMap.mapVals HostFn.reset (fun _ (h : HostFn) =>
    { h with inflight := h.inflight.map (fun x => if wakes x then { x with at' := .due } else x) }) s.host }
  if ¬ serving ∨ due then s else
  (s.host.map (·.1)).foldl (fun (s : State) f => (s.fn f).inflight.foldl (fun (s : State) x =>
    if x.at' = .yield then s.refuseObject f x (.notPermitted, 40) else s) s) s

/-- TEST_PERMIT: the permit is in force and replaces the one before it (R402). -/
def execTestPermit (fn : Fin 256) (index : BitVec 16) (s : State) : Host.Outcome State Fault Refusal :=
  .next (s.withDescr fn.val index fun x =>
    match x.d.body with
    | .testPermit o =>
      let r := s.checkObject [3] o
      let s := s.countSigs r o
      match r with
      | some r => s.refuseObject fn.val x r
      | none =>
        let s := s.wrs [(Fld.SEC_PERMIT_IN_FORCE, 1), (Fld.SEC_PERMIT_MASK, o.mask.toNat), (Fld.SEC_PERMIT_ID_ID, o.serial), (Fld.SEC_PERMIT_END_END, o.time1)]
        { s with sec := { s.sec with permit := some (o.time0, o.time1) } }.done fn.val x .ok
    | _ => s)

/-- PERMIT_LAPSE: at NOT_AFTER the permit lapses and every perturbation returns to its reset value (R402). -/
def execPermitLapse (s : State) : Host.Outcome State Fault Refusal :=
  match s.sec.permit with
  | some (_, t) =>
    if t ≤ s.tSec then
      let s := s.dropPermit.raise Fld.SEC_EVT_PERMIT_END
      .next (if s.rd Fld.HKP_PERT_CTL_ON ≠ 0 then s.pertEnd else s)
    else .next s
  | none => .next s

/-- FUSE_REREAD (R404): every word whose three reads disagree is flagged and made sticky; values in force stay. -/
def execFuseReread (reads : List FuseRead) (s : State) : Host.Outcome State Fault Refusal :=
  .next (reads.foldl (fun s r =>
    if r.normal = r.low ∧ r.normal = r.high then s else
    let w := r.word.val
    let s := s.wrBit (Fld.FUS_REREAD_WORDS (w / 32)) (w % 32) true
    (s.addSticky w r.normal [r.low, r.high]).raise Fld.FUS_STAT_REREAD_FLAG w) s)

end Sys2Proof.Machine
end

