-- ==== Sys2Proof/Machine/Tandem.lean ====
section
/-! DEFINITION. Tandem operation (R322 to R350): the twin's signals and frames, readiness, the start rule, yield and
takeover, the epoch, and the writes of the TND registers. -/

namespace Sys2Proof.Machine

/-! ### Epochs (R340) -/

/-- Epoch `e` is newer than `t`. -/
def epochNewer (e t : BitVec 16) : Bool := decide (1 ≤ (e - t).toNat) && decide ((e - t).toNat ≤ 32767)

/-- The newer of two epochs. -/
def epochMax (e t : BitVec 16) : BitVec 16 := if epochNewer e t then e else t

/-- The module's own epoch. -/
def State.epoch (s : State) : BitVec 16 := BitVec.ofNat 16 (s.rd Fld.TND_EPOCH_EPOCH)

/-- The twin's epoch as the last STATUS frame gave it. -/
def State.twinEpoch (s : State) : BitVec 16 := BitVec.ofNat 16 (s.rd Fld.TND_EPOCH_TWIN)

/-- Every change of the epoch is written to the settings. -/
def State.setEpoch (s : State) (e : BitVec 16) : State :=
  (s.wrs [(Fld.TND_EPOCH_EPOCH, e.toNat), (Fld.VLY_NOW2_EPOCH, e.toNat)]).saveSettings

/-! ### State and what it shows -/

/-- Enter a tandem state; every function is told (R372). -/
def State.enterTnd (s : State) (st : Nat) : State :=
  let up := s.tndState == 3 || s.tndState == 4
  let s : State := if up then s else { s with tnd := { s.tnd with upAt := s.nowTick } }
  (s.wr Fld.TND_STAT_STATE st).postAll (.tandem st s.epoch)

/-- Bring every enabled spoke into line with the module's state. -/
def State.showSpokes (s : State) : State :=
  (List.range 128).foldl (fun s n => if s.flag (Fld.SPK_CFG_ENABLE n) then s.showSpoke n else s) s

/-- TWIN_READY (R325), which a link too narrow for the running configuration withholds (R331). -/
def State.showTwin (s : State) : State :=
  s.wrB Fld.TND_STAT_TWIN_READY (s.tnd.readyIn && (match s.tnd.twin with | some f => f.state == 3 | none => false)
    && s.shadowFits s.timeline)

/-- What breaks the wait of the start rule: HOLD, or a link that is up and has not reported the twin in a state other than
ACTIVE (R323). -/
def State.waitBroken (s : State) : Bool :=
  s.flag Fld.TND_STAT_TWIN_HOLD ||
    (s.flag Fld.TND_STAT_LINK_UP && (match s.tnd.twin with | some f => f.state == 4 | none => true))

/-- Carry out an event; the wait counts from the last instant at which a condition was broken. -/
def State.watching (s : State) (k : State → State) : State :=
  let t := k s
  if s.waitBroken ∨ t.waitBroken then { t with tnd := { t.tnd with waitFrom := t.nowTick } } else t

/-! ### The configuration digest (R329) -/

/-- The fields that shape the volley: VLY timeline, CFG and LOL, bindings, the arm map without what the module reports in
it, arms, spokes, engines and their arms, sync regions, the protection registers, and the ADC channels and comparators. -/
def digestField (key : Nat) : Bool :=
  let a := key / 32
  let b := key % 32
  decide ((0x8100000 ≤ a ∧ a < 0x810001C) ∨ (0x8102000 ≤ a ∧ a < 0x8102600 ∧ a % 0x20 < 8) ∨ (0x8110000 ≤ a ∧ a < 0x8130000)
    ∨ (0x8140000 ≤ a ∧ a < 0x8150000 ∧ (b = 0 ∨ b = 30 ∨ b = 31))
    ∨ (0x8000000 ≤ a ∧ a < 0x8008000 ∧ a % 0x100 < 4) ∨ (0x8200000 ≤ a ∧ a < 0x8202000 ∧ a % 0x100 < 8)
    ∨ (0x8B00040 ≤ a ∧ a < 0x8B000C0) ∨ (0x840000C ≤ a ∧ a < 0x8400020) ∨ (0x8400100 ≤ a ∧ a < 0x8400200)
    ∨ (0x8300100 ≤ a ∧ a < 0x8300480 ∧ a % 0x20 < 0x14))

/-- The own digest. -/
def State.digest (s : State) : BitVec 128 := Config.configDigest (s.regs.filter (fun p => digestField p.1)) s.loaded

/-! ### TKOV_IN (R325, R336) -/

/-- A READY module that has lost HOLD decides to take over once a YIELD frame has arrived or the link is down (R336). -/
def State.takeoverDecision (s : State) : State :=
  if s.tndState = 3 ∧ s.tnd.holdLost.isSome ∧ s.tnd.decided.isNone ∧ (s.tnd.yieldIn.isSome ∨ ¬ s.flag Fld.TND_STAT_LINK_UP) then
    -- Every perturbation returns to its reset value in this tick (R402).
    let s := if s.rd Fld.HKP_PERT_CTL_ON ≠ 0 then s.pertEnd else s
    { s with tnd := { s.tnd with decided := some s.nowTick } }
  else s

/-- The module takes part in a tandem: any state but Solo, Recovery or Hold (R322). -/
def State.inTandem (s : State) : Bool := s.tndState != 0

/-- The patterns of R325. -/
inductive Tkov where
  | hold | ready | static
deriving DecidableEq, Repr

/-- What TKOV_OUT carries: HOLD in ACTIVE, READY in READY, static in every other state and in a Solo module (R322, R325). -/
def State.tkovOut (s : State) : Tkov := if s.tndState = 4 then .hold else if s.tndState = 3 then .ready else .static

/-- TKOV_HOLD_RECOGNISED: INIT passes to SYNCING (R322). -/
def execTkovHoldRecognised (s : State) : Host.Outcome State Fault Refusal :=
  let s : State := { s with tnd := { s.tnd with holdIn := true, readyIn := false } }
  .next (if ¬ s.inTandem then s else s.watching (fun s =>
    let s := (s.wr Fld.TND_STAT_TWIN_HOLD 1).wr Fld.TND_STAT_TWIN_READY 0
    let s : State := { s with tnd := { s.tnd with readyIn := false, holdLost := none } }
    if s.tndState = 1 then s.enterTnd 2 else s))

/-- TKOV_HOLD_LOST: t_h of R337, and with it perhaps the takeover decision. -/
def execTkovHoldLost (s : State) : Host.Outcome State Fault Refusal :=
  let s : State := { s with tnd := { s.tnd with holdIn := false } }
  .next (if ¬ s.inTandem ∨ ¬ s.flag Fld.TND_STAT_TWIN_HOLD then s else s.watching (fun s =>
    let s := s.wr Fld.TND_STAT_TWIN_HOLD 0
    ({ s with tnd := { s.tnd with holdLost := some s.nowTick } } : State).takeoverDecision))

/-- TKOV_READY_CHANGE: the READY pattern is recognised or lost (R325). -/
def execTkovReadyChange (ready : Bool) (s : State) : Host.Outcome State Fault Refusal :=
  let s : State := { s with tnd := { s.tnd with readyIn := ready } }
  .next (if ¬ s.inTandem then s else s.showTwin)

/-- TKOV_FAULT: HOLD lost for 300 ns with the link up and no YIELD frame (R336). -/
def execTkovFault (s : State) : Host.Outcome State Fault Refusal :=
  .next (match s.tnd.holdLost with
    | some t => s.raiseIf (s.tndState == 3 && s.flag Fld.TND_STAT_LINK_UP && s.tnd.yieldIn.isNone && decide (t + 240 ≤ s.nowTick)) Fld.TND_EVT_TKOV_FAULT
    | none => s)

/-! ### Becoming active (R323, R336 to R338) -/

/-- Spokes with no admitted cell are brought up at the next boundary; the cells a standby has found stay. -/
def State.keepFound (s : State) : State :=
  (List.range 128).foldl (fun s n => if s.flag (Fld.SPK_CFG_ENABLE n) then
    s.setSpoke n (fun p => { p with restart := p.restart && s.rd (Fld.SPK_STAT_ADMITTED n) == 0 }) else s) s

/-- The wait time of the role in ticks (R323, R346). -/
def State.startWait (s : State) : Nat :=
  800000 * (if s.rd Fld.TND_CFG_ROLE = 2 then s.rd Fld.TND_START_B_WAIT_MS else s.rd Fld.TND_START_A_WAIT_MS)

/-- START_RULE_ACTIVE (R323, R340): in INIT or SYNCING, once the wait has passed unbroken. -/
def execStartRuleActive (s : State) : Host.Outcome State Fault Refusal :=
  .next (if (s.tndState = 1 ∨ s.tndState = 2) ∧ ¬ s.waitBroken ∧ s.tnd.waitFrom + s.startWait ≤ s.nowTick then
    let e := match s.tnd.twin with
      | some _ => epochMax s.epoch s.twinEpoch
      | none => s.epoch
    let s := ((s.setEpoch (e + 1)).enterTnd 4).wr Fld.TND_STAT_CLEAN 0
    ({ s with tnd := { s.tnd with hunt := some ⟨17, 0, 0⟩ } } : State).keepFound.showSpokes
  else s)

/-- TAKEOVER_TX_ENABLE: at t_TX = max(t_d, t_h + 500 ns) the transmitters wake and the protection path is active (R337). -/
def execTakeoverTxEnable (s : State) : Host.Outcome State Fault Refusal :=
  .next (match s.tnd.decided, s.tnd.holdLost with
    | some d, some h =>
      if s.tndState = 3 ∧ max d (h + 400) ≤ s.nowTick then
        let s := (s.enterTnd 4).wr Fld.TND_STAT_CLEAN 0
        ({ s with tnd := { s.tnd with decided := some s.nowTick, holdLost := none, taking := true } } : State).keepFound.showSpokes
      else s
    | _, _ => s)

/-- The first serve of a takeover may leave at this boundary: 2.2 us after t_TX (R337). -/
def State.takeoverDue (s : State) : Bool :=
  s.tnd.taking && (match s.tnd.decided with | some t => decide (t + 1760 ≤ s.nowTick) | none => true)

/-- The REASON of the block ordered set of a takeover: the lowest one that the module has recorded itself for a converter of the mask;
for a mask that came from the twin alone the manual gives none: a free value among the codes of R277 (log 199). -/
def State.takeoverReason (s : State) (m : BitVec 8) : Nat × State :=
  let own := (List.range 8).filterMap (fun c => let r := s.rd (Fld.LPW_BLK_SRC_REASON c); if bitOf m.toNat c ∧ 1 ≤ r ∧ r ≤ 6 then some r else none)
  match own with
  | r :: t => (t.foldl min r, s)
  | [] => let (v, s) := s.freeNat; (1 + v % 6, s)

/-- TAKEOVER_FIRST_SERVE (R338, R340): the epoch follows the twin's, the mask is the own ORed with that of the last SHADOW
frame and of the YIELD frame, and its block ordered set is due after the strobes of this serve and the next two, on the spokes
of R284. -/
def State.takeOver (s : State) : State :=
  let m := BitVec.ofNat 8 (s.rd Fld.LPW_BLK_STAT_BLOCKED)
    ||| (match s.tnd.shadow, s.tnd.applied with | some f, _ => f.blocked | none, some f => f.blocked | none, none => 0)
    ||| (match s.tnd.yieldIn with | some y => y.2 | none => 0)
  let s := (s.setEpoch (s.twinEpoch + 1)).wr Fld.LPW_BLK_STAT_BLOCKED m.toNat
  let s := if m = 0 then s else
    let (r, s) := s.takeoverReason m
    let carries := s.mapped.filter (fun x => bitOf m.toNat (x.2 / 6))
    (List.range 128).foldl (fun s n =>
      if s.flag (Fld.SPK_STAT_TX_AWAKE n) ∧ ¬ s.flag (Fld.SPK_STAT_FENCED n) ∧ carries.any (fun x => x.1 / 128 == n) then
        s.setSpoke n (fun p => { p with blkRepeat := p.blkRepeat ++ [(m, BitVec.ofNat 8 r, 3)] }) else s) s
  -- The serves assembled with the own mask go out with this one (R286).
  let s := (List.range 128).foldl (fun (s : State) n =>
    let conv := s.convsOn (fun k => k == n)
    s.setSpoke n (fun p => { p with next := p.next.map (fun x => { x with blkMask := x.blkMask ||| (m &&& conv) }) })) s
  let s := { s with tnd := { s.tnd with taking := false, decided := none, yieldIn := none, firstMask := some m, shadow := none, hunt := none } }
  (s.raise Fld.TND_EVT_TOOK_OVER).bump Fld.TND_CNT_TAKEOVER_CNT

/-! ### Yield (R332 to R335) -/

/-- YIELD_CONDITION: one of the causes of R332. Of an active module without a READY twin, a mismatch of the serve assembler keeps
strobe and serve from the next boundary, and a mismatch of the decision logic, of which one copy alone has decided to block
converters, acts on the OR of the two decisions: it blocks them (R334). -/
def execYieldCondition (cond : Fin 6) (found : Mismatch) (s : State) : Host.Outcome State Fault Refusal :=
  let on := s.tndState == 4 && bitOf (s.rd Fld.TND_CFG_YIELD_EN) cond
  let held := on && !s.flag Fld.TND_STAT_TWIN_READY
  let s := s.raiseYield cond
  .next (if cond ≠ 0 ∨ ¬ on then s
    else match found with
      | .assembler => { s with tnd := { s.tnd with mute := s.tnd.mute || held, muteHeld := s.tnd.muteHeld || !held } }
      | .decision mask reason => if held then s.blockDecision [⟨reason.val + 1, mask, none⟩] else s)

/-- The yield at boundary Y (R333, R344): in place of the strobe the block ordered sets due at Y and then the yield ordered set,
every transmitter dark, a YIELD frame, and the causes recorded; FRESH reads that wait are answered from the image. VOLLEY_NOW is still Y - 1. -/
def State.yieldNow (s : State) (cmd dual : Bool) : State :=
  let live := s.rd Fld.TND_CAUSE_LIVE
  let v := s.rd Fld.VLY_NOW_VOLLEY
  let os : OrderedSet := ⟨0x7E, s.epoch, 0, BitVec.ofNat 8 (v / 256), BitVec.ofNat 8 v⟩
  let s := (List.range 128).foldl (fun s n =>
    if s.flag (Fld.SPK_STAT_TX_AWAKE n) then s.setSpoke n (fun p => { p with
      osSent := p.blkRepeat.map (fun b => (⟨0xB1, s.epoch, b.1, ~~~b.1, b.2.1⟩ : OrderedSet)) ++ [os], osLead := p.blkRepeat.length + 1, osAt := [], items := [], next := none, orders := [], sent := none, blkRepeat := [], blkLeave := none }) else s) s
  let s := { s with tnd := { s.tnd with
    yieldDue := none, mute := false, muteHeld := false, hunt := none, taking := false, decided := none, holdLost := none, yieldIn := none,
    yieldSent := some (s.epoch, BitVec.ofNat 8 (s.rd Fld.LPW_BLK_STAT_BLOCKED)) } }
  let s := (s.cells.map (·.1)).foldl (fun s c => (s.failWrites c 8).freshFromImage c) s
  let s := (s.wrs [(Fld.TND_CAUSE_LAST, live), (Fld.TND_CAUSE_CMD, if cmd then 1 else 0), (Fld.TND_CAUSE_DUAL_LOSS, if dual then 1 else 0)]).enterTnd 5
  let s := ((s.raise Fld.TND_EVT_YIELDED live).bump Fld.TND_CNT_YIELD_CNT).showSpokes
  s.wakeOpens

/-- A yield takes place at a boundary behind the tick in which it was wanted (R333). Without a READY twin there the module does not
yield but under R341, and acts as R334 lays down. -/
def State.yieldIfDue (s : State) : State :=
  match s.tnd.yieldDue with
  | some (cmd, dual) =>
    if s.tndState ≠ 4 then { s with tnd := { s.tnd with yieldDue := none, muteHeld := false } }
    else if s.tnd.yieldAt < s.nowTick then
      if dual ∨ s.flag Fld.TND_STAT_TWIN_READY then s.yieldNow cmd dual
      else ({ s with tnd := { s.tnd with yieldDue := none, mute := s.tnd.mute || s.tnd.muteHeld, muteHeld := false } } : State).raise Fld.TND_EVT_HELD_NO_TWIN
    else s
  | none => s

/-- TND_CTL.SWITCH (R335). -/
def State.tndSwitch (s : State) : State :=
  if s.tndState = 4 ∧ s.flag Fld.TND_STAT_TWIN_READY then s.wantYield true false
  else s.raise Fld.TND_EVT_REFUSED

def execTndSwitch (u : Core) (s : State) : Host.Outcome State Fault Refusal := .next (s.asWriter u 11 fun s => s.tndSwitch)

/-- TND_CTL.REJOIN (R342). -/
def State.tndRejoin (s : State) : State :=
  if s.tndState = 5 ∧ s.rd Fld.TND_CAUSE_LIVE = 0 then
    (s.enterTnd 2).wr Fld.TND_STAT_CLEAN 0
  else s.raise Fld.TND_EVT_REFUSED

def execTndRejoin (u : Core) (s : State) : Host.Outcome State Fault Refusal := .next (s.asWriter u 11 fun s => s.tndRejoin)

/-- TND_CTL.PARTNER_RST: a RESET frame leaves on an ACTIVE module, else the write is refused (R346). -/
def State.tndPartnerRst (s : State) : State :=
  if s.tndState = 4 then { s with tnd := { s.tnd with resetsSent := s.tnd.resetsSent + 1 } } else s.raise Fld.TND_EVT_INVALID_WR

def execTndPartnerRst (u : Core) (s : State) : Host.Outcome State Fault Refusal := .next (s.asWriter u 11 fun s => s.tndPartnerRst)

/-- TND_CTL.CNT_CLR (R346). -/
def State.tndCntClr (s : State) : State :=
  s.wrs [(Fld.TND_CNT_YIELD_CNT, 0), (Fld.TND_CNT_TAKEOVER_CNT, 0), (Fld.TND_CNT_SHLATE_CNT, 0)]

def execTndCntClr (u : Core) (s : State) : Host.Outcome State Fault Refusal := .next (s.asWriter u 11 fun s => s.tndCntClr)

/-- TND_CTL.LOCK (R346). -/
def execTndLock (u : Core) (s : State) : Host.Outcome State Fault Refusal := .next (s.asWriter u 11 fun s => s.wr Fld.TND_CTL_LOCK 1)

/-- A write of TND_SYNCn (R331, R350). -/
def State.tndSync (s : State) (n base len : Nat) : State :=
  if 1024 < len ∨ (0 < len ∧ ¬ (0x2400 ≤ base ∧ base + len ≤ 0x8000)) then s.raise Fld.TND_EVT_INVALID_WR
  else
    let t := s.wrs [(Fld.TND_SYNC_BASE n, base), (Fld.TND_SYNC_LEN n, len)]
    if t.shadowFits t.timeline then t.wr Fld.TND_SHBYTES_BYTES t.shadowBytes else s.raise Fld.TND_EVT_NOFIT

def execTndSyncWrite (u : Core) (n : Fin 32) (base : BitVec 15) (len : BitVec 11) (s : State) : Host.Outcome State Fault Refusal :=
  .next (s.asWriter u 11 fun s => s.tndSync n base.toNat len.toNat)

/-! ### The link (R327) -/

/-- Lanes in use, and with them the capacity of R331. -/
def State.setLanes (s : State) (v : BitVec 4) : State :=
  let s : State := { s with tnd := { s.tnd with lanes := v } }
  let n := ((List.range 4).filter (fun i => v.getLsbD i)).length
  let s := s.wrs [(Fld.TND_STAT_LANES, n), (Fld.TND_STAT_LINK_UP, if n = 0 then 0 else 1)]
  s.wr Fld.TND_SHCAP_CAP (s.shadowCap s.timeline)

/-- TANDEM_LANE_LOST: the link goes down with the last lane; a running configuration that no longer fits sets NOFIT (R331). -/
def execTandemLaneLost (lane : Fin 4) (s : State) : Host.Outcome State Fault Refusal :=
  .next (if ¬ s.inTandem ∨ ¬ s.tnd.lanes.getLsbD lane then s else s.watching (fun s =>
    let v := s.tnd.lanes &&& ~~~(1#4 <<< lane.val)
    let s := (s.setLanes v).raise Fld.TND_EVT_LANE_LOST lane
    let s := s.raiseIf (v == 0) Fld.TND_EVT_LINK_DOWN
    let s := s.raiseIf (!s.shadowFits s.timeline) Fld.TND_EVT_NOFIT
    (s.showTwin).takeoverDecision))

/-- TANDEM_LANE_REJOIN: 1 ms of valid heartbeats. -/
def execTandemLaneRejoin (lane : Fin 4) (s : State) : Host.Outcome State Fault Refusal :=
  .next (if ¬ s.inTandem then s else s.watching (fun s => (s.setLanes (s.tnd.lanes ||| (1#4 <<< lane.val))).showTwin))

/-! ### Frames (R326, R328, R330) -/

/-- Bound of the delay difference of a spoke at gear `g`, in units of 10 ps, for twice its value (R326). -/
def skewBound2 (g : Nat) : Nat := if g = 0 then 5600 else if g = 1 then 620 else if g = 2 then 310 else if g = 3 then 155 else 93

/-- The delay difference of a Listening spoke from the last return heard (R326). -/
def State.skew (s : State) (n : Nat) (delta : Int) : State :=
  match (if s.spokeState n = .listening then (s.spoke n).heard else none) with
  | some m =>
    let d := m + delta
    let s := s.wrs [(Fld.TND_SKEW_DELTA n, (BitVec.ofInt 16 d).toNat), (Fld.TND_SKEW_VALID n, 1)]
    s.raiseIf (decide (skewBound2 (s.rd (Fld.SPK_STAT_GEAR n)) < 2 * d.natAbs)) Fld.TND_EVT_SKEW n
  | none => s

/-- STATUS_FRAME_RECEIVE (R325, R326, R328 to R330, R343). -/
def execStatusFrameReceive (f : StatusFrame) (s : State) : Host.Outcome State Fault Refusal :=
  .next (if ¬ s.inTandem ∨ ¬ s.flag Fld.TND_STAT_LINK_UP ∨ ¬ f.crcOk then s else s.watching (fun s =>
    let own := s.digest
    let same := own == f.digest
    let hi := min (s.rd Fld.RST_FW_INFO_TVER_HI) f.tverHi
    let verOk := decide (max (s.rd Fld.RST_FW_INFO_TVER_LO) f.tverLo ≤ hi)
    let s := s.wrs [(Fld.TND_EPOCH_TWIN, f.epoch.toNat), (Fld.TND_DIGEST_OWN, own.toNat), (Fld.TND_TDIGEST_TWIN, f.digest.toNat),
      (Fld.TND_STAT_DIGEST_OK, if same then 1 else 0), (Fld.TND_STAT_VER_OK, if verOk then 1 else 0),
      (Fld.TND_STAT_TVER, if verOk then hi else 0), (Fld.TND_STAT_TIME_OK, if f.timeOk then 1 else 0), (Fld.TND_DELTA_DELTA, f.delta.toNat)]
    let s := ((s.raiseIf (!same) Fld.TND_EVT_DIGEST).raiseIf (!verOk) Fld.TND_EVT_VERSION).raiseIf
      (f.role == s.rd Fld.TND_CFG_ROLE) Fld.TND_EVT_ROLE_CONFLICT
    let s : State := { s with tnd := { s.tnd with twin := some f, twinLocked := f.locked, tb1Error := some f.tb1Error } }
    let s := if s.standby then ((List.range 128).foldl (fun s n => s.skew n f.delta.toInt) s).wr Fld.VLY_NOW2_EPOCH f.epoch.toNat else s
    (s.showTwin).spokeLoss))

/-- SHADOW_FRAME_RECEIVE (R328 to R330): a standby holds a frame whose CRC passes for its next compute window, follows
its volley and sample number, and runs each spoke at the gear the twin serves it. -/
def execShadowFrameReceive (f : ShadowFrame) (s : State) : Host.Outcome State Fault Refusal :=
  .next (if ¬ (s.tndState = 2 ∨ s.tndState = 3 ∨ s.tndState = 5) ∨ ¬ s.flag Fld.TND_STAT_LINK_UP ∨ ¬ f.crcOk then s else
    let s : State := { s with tnd := { s.tnd with shadow := some f, strobes := 0, twinTb1 := some f.tb1 } }
    let next := s.volley == f.volley + 1
    let s := s.wrs [(Fld.VLY_NOW_VOLLEY, if next then s.rd Fld.VLY_NOW_VOLLEY else f.volley.toNat),
      (Fld.VLY_NOW2_SID_NOW, if next ∧ s.seqr.strobe then (f.sidNow + 1).toNat else f.sidNow.toNat), (Fld.VLY_NOW2_EPOCH, f.epoch.toNat)]
    let s : State := { s with tnd := { s.tnd with strobes := if next ∧ s.seqr.strobe then 1 else 0 } }
    (List.range 128).foldl (fun s n =>
      let g := f.gears.getD n (0, 0)
      if ¬ s.flag (Fld.SPK_CFG_ENABLE n) then s
      else if g.2 = 0 then (if g.1 = s.rd (Fld.SPK_STAT_GEAR n) then s else s.gearSet n g.1).setSpoke n (fun p => { p with plan := none })
      else s.setSpoke n (fun p => { p with plan := some (g.1, g.2 - (if next then 2 else 1)), inB := next && g.2 == 1 })) s)

/-- YIELD_FRAME_RECEIVE (R336): the strobe of the boundary at which the twin yielded was not sent. -/
def execYieldFrameReceive (crcOk : Bool) (epoch : BitVec 16) (mask : BitVec 8) (s : State) : Host.Outcome State Fault Refusal :=
  .next (if ¬ s.standby ∨ ¬ s.flag Fld.TND_STAT_LINK_UP ∨ ¬ crcOk then s else
    let undo := s.seqr.strobe && s.tnd.yieldIn.isNone
    let s := if undo then s.wr Fld.VLY_NOW2_SID_NOW ((s.rd Fld.VLY_NOW2_SID_NOW + 255) % 256) else s
    let s : State := { s with
      tnd := { s.tnd with yieldIn := some (epoch, mask), strobes := if undo then s.tnd.strobes - 1 else s.tnd.strobes }
      seqr := if undo then { s.seqr with strobe := false, windowOpen := false } else s.seqr }
    s.takeoverDecision)

/-! ### Readiness (R330) -/

/-- Every condition of R330 holds. -/
def State.mayBeReady (s : State) : Bool :=
  s.flag Fld.TND_STAT_LINK_UP && s.flag Fld.TND_STAT_VER_OK && s.flag Fld.TND_STAT_DIGEST_OK && s.flag Fld.TND_STAT_TIME_OK &&
    (match s.tnd.twin with | some f => f.role != s.rd Fld.TND_CFG_ROLE | none => false) && decide (2 ≤ s.rd Fld.VLY_CFG_FW)

/-- A volley has passed: CLEAN counts the consecutive ones in which every condition held. -/
def State.countClean (s : State) : State :=
  if s.tndState = 2 ∨ s.tndState = 3 then
    if s.mayBeReady ∧ s.tnd.missing < 3 then s.bump Fld.TND_STAT_CLEAN else s.wr Fld.TND_STAT_CLEAN 0
  else s

/-- READY_REACHED: 256 consecutive volleys. -/
def execReadyReached (s : State) : Host.Outcome State Fault Refusal :=
  .next (if s.tndState = 2 ∧ s.mayBeReady ∧ 256 ≤ s.rd Fld.TND_STAT_CLEAN then
    ({ s with tnd := { s.tnd with holdLost := none, yieldIn := none, decided := none } } : State).enterTnd 3 else s)

/-- READINESS_LOST: a condition fails, or 3 consecutive SHADOW frames are missing. -/
def execReadinessLost (s : State) : Host.Outcome State Fault Refusal :=
  .next (if s.tndState = 3 ∧ s.tnd.decided.isNone ∧ (¬ s.mayBeReady ∨ 3 ≤ s.tnd.missing) then
    (s.enterTnd 2).wr Fld.TND_STAT_CLEAN 0 else s)

/-! ### Two active modules, and the hunt for the epoch (R340, R341) -/

/-- HOLD at TKOV_IN, or a STATUS frame that reports the twin ACTIVE (R341). -/
def State.twinActive (s : State) : Bool :=
  s.flag Fld.TND_STAT_TWIN_HOLD || (s.flag Fld.TND_STAT_LINK_UP && (match s.tnd.twin with | some f => f.state == 4 | none => false))

/-- DUAL_ACTIVE_DETECT: an ACTIVE module that sees HOLD or an ACTIVE twin sets DUAL, and the one that must yields. -/
def execDualActiveDetect (s : State) : Host.Outcome State Fault Refusal :=
  .next (if s.tndState = 4 ∧ s.twinActive then
    let s := s.raise Fld.TND_EVT_DUAL
    let roleB := s.rd Fld.TND_CFG_ROLE == 2
    let lose : Bool := (s.tnd.twin.isSome && (epochNewer s.twinEpoch s.epoch || (s.twinEpoch == s.epoch && roleB))) ||
      (!s.flag Fld.TND_STAT_LINK_UP && roleB)
    if lose then s.wantYield false true else s
  else s)

/-- EPOCH_HUNT: more than half of the returns of 16 volleys carry SOK = 0 with another EPOCH_LO. -/
def execEpochHunt (s : State) : Host.Outcome State Fault Refusal :=
  .next (match s.tnd.hunt with
    | some h =>
      if s.tndState = 4 ∧ h.left = 0 then
        if h.total < 2 * h.other then
          let s := (s.setEpoch (s.epoch + 16384)).raise Fld.TND_EVT_EPOCH_HUNT
          { s with tnd := { s.tnd with hunt := some ⟨17, 0, 0⟩ } }
        else { s with tnd := { s.tnd with hunt := none } }
      else s
    | none => s)

end Sys2Proof.Machine
end

