-- ==== Sys2Proof/Machine/Window.lean ====
section
/-! DEFINITION. The compute window: the input streamer's blocks, the opening C, and DONE (R27, R191 to R201, R226, R252,
R317, R330, R410). -/

namespace Sys2Proof.Machine

/-! ### Members of an arm as the module sees them (R159, R171) -/

/-- The cell is ordered bypassed for its binding (R160, R166): from the first serve that carries an ARMBIND write until the cell
confirms it, and, without a binding in force, from the assignment of its member number on. -/
def Cell.binding (x : Cell) : Bool :=
  x.bindTold || (x.member.isNone && (x.newMember.isSome || x.bindDue.isSome))

/-- The member number a cell holds in arm `a`, and whether it takes its orders there: a cell on its way from another arm
takes them under that one (R160). -/
def Cell.memberOf (x : Cell) (a : Nat) : Option (Nat × Bool) :=
  match x.member, x.newMember with
  | some (b, m), w => if b = a then some (m, true) else (match w with | some (b', m') => if b' = a then some (m', false) else none | none => none)
  | none, some (b, m) => if b = a then some (m, true) else none
  | none, none => none

/-- The members of an arm: cell ID, member number, whether it takes orders here, and the cell. -/
def State.members (s : State) (a : Nat) : List (Nat × Nat × Bool × Cell) :=
  s.cells.filterMap (fun p => (p.2.memberOf a).map (fun x => (p.1, x.1, x.2, p.2)))

/-- The reference of VKEY_LSB values: the most frequent one, the smallest among equals (R171). -/
def lsbReference (vs : List Nat) : Nat :=
  vs.foldl (fun b v => if vs.count b < vs.count v ∨ (vs.count b = vs.count v ∧ v < b) then v else b) (vs.headD 0)

/-- LSB_REF of an arm in uV, 0 while no member has reported it. -/
def State.lsbRef (s : State) (a : Nat) : Nat := lsbReference ((s.members a).filterMap (fun p => p.2.2.2.lsb))

/-- Some member differs from the reference. -/
def State.lsbMix (s : State) (a : Nat) : Bool :=
  (s.members a).any (fun p => match p.2.2.2.lsb with | some v => v != s.lsbRef a | none => false)

/-- VKEY_conv (R171), and whether it was clamped. -/
def convertKey (vkey lsb ref : Nat) : Nat × Bool :=
  let v := (2 * vkey * lsb + ref) / (2 * ref)
  (min v 65535, decide (65535 < v))

def Held.code : Held → Nat
  | .bypassed => 0 | .insPos => 1 | .insNeg => 2

/-- The full-bridge bit of a cell's map entry (R184). -/
def State.fullBridge (s : State) (c : Nat) : Bool := s.flag (Fld.VLY_ARMMAP_FB (c / 128) (c % 128))

/-- The sample of the cell stands for SID_REF (R131, R162). -/
def State.sampleUsed (s : State) (x : Cell) : Bool := x.sampleOk && x.sid == s.seqr.sidRef

/-- CASE of a member (R166, R195), the first in the order 5, 7, 3, 2, 6, 1, 4. -/
def State.caseOf (s : State) (c ref : Nat) : Nat :=
  let x := s.cell c
  if x.binding ∨ x.lsb = none then 5
  else if s.faultExcluded c then 7
  else if x.dropped then 3
  else if x.lstate = .lost then 2
  else if x.budHeld then 6
  else if ¬ s.sampleUsed x ∨ ¬ x.sok then 1
  else if x.lsb ≠ some ref then 4
  else 0

/-- The member word of a cell (R195): H shows a block only when a return confirms the state, else the belief. -/
def State.memberWord (s : State) (c ref : Nat) (here blocked : Bool) : W40 :=
  let x := s.cell c
  let used := s.sampleUsed x
  let cs := s.caseOf c ref
  let lsb := x.lsb.getD ref
  let (vkey, clip) := if lsb = ref ∨ ref = 0 then (x.vkey.toNat, false) else convertKey x.vkey.toNat lsb ref
  let hb := x.belief.code
  let h := if used ∧ x.sok ∧ (blocked ∨ x.blk) then 3 else hb
  let avail := here && s.available c
  let b := fun (p : Bool) (i : Nat) => if p then 2 ^ i else 0
  BitVec.ofNat 40 ((if used then vkey else 0) * 2 ^ 24 + h * 2 ^ 22 + hb * 2 ^ 20 + cs * 2 ^ 17 + x.ver * 2 ^ 15
    + b (s.fullBridge c) 14 + b avail 13 + b (used && (x.sat || clip)) 12 + b (avail && (cs == 0 || cs == 4)) 11 + 2 ^ 10)

/-! ### Edge limits (R175) -/

/-- The arm has a version-1 member: edge 0 is pinned (R169). -/
def State.v1Pin (s : State) (a : Nat) : Bool := (s.members a).any (fun p => p.2.2.2.ver == 1)

/-- Earliest TIME: the latest serve-complete offset of the spokes that carry a member, in ticks, less S. -/
def State.tEarly (s : State) (a : Nat) : Nat :=
  let spokes := ((s.members a).map (fun p => p.1 / 128)).dedup
  let sc : Int := spokes.foldl (fun x n => max x (s.serveComplete n (s.mandLength n))) 0
  (((sc + 124) / 125) - (s.timeline.s : Int)).toNat

/-- Latest TIME: 80 ticks before the end of the period, less S. -/
def State.tLate (s : State) : Nat := s.timeline.p10 * 8 - 80 - s.timeline.s

/-! ### The input streamer (R191 to R195, R226, R252, R317) -/

/-- Write consecutive words through the streamer's port; a copying migration repeats them into the target (R218). -/
def State.stream (s : State) (e a : Nat) (ws : List W40) : State :=
  let put := fun (g : Engine) => { g with dmem := FMap.setRange 0 g.dmem a ws }
  let s := s.setEng e put
  match (s.eng e).mig with
  | some (t, true) => s.setEng t put
  | _ => s

/-- The spokes on which a gear-change volley B begins at the next boundary (R104). -/
def State.gcNext (s : State) (n : Nat) : Bool := match (s.spoke n).plan with | some (_, 0) => !(s.spoke n).inB | _ => false

/-- The volley header (R193). -/
def State.volleyHeader (s : State) (e : Nat) : List W40 :=
  let t := s.timeline
  let gc := (s.ownsNow e).any (fun p => (s.members p.2).any (fun x => s.gcNext (x.1 / 128)))
  let b := fun (p : Bool) (i : Nat) => if p then 2 ^ i else 0
  [s.rd Fld.VLY_NOW_VOLLEY, s.seqr.sidRef.toNat + s.rd Fld.VLY_NOW2_SID_NOW * 256 + b s.seqr.strobe 16 + b gc 17, t.p10 * 8,
   t.c + t.a * 2 ^ 17, s.time.boundaryTb2 % 2 ^ 32, s.rd Fld.HKP_CAD_STAT_K, s.rd Fld.LPW_BLK_STAT_BLOCKED,
   b (s.eng e).prevOvr 0 + s.rd (Fld.CE_RUN_RUN e) * 2].map (BitVec.ofNat 40) ++ List.replicate 56 0

/-- The measured words 0x40 to 0xFF: analogue channels, four zeros, sampled values. -/
def State.measuredWords (s : State) : List W40 :=
  let tin := s.time.boundaryTick + s.inTick
  let tb2 := s.time.boundaryTb2 + s.inTick * 5 / 4
  (List.range 28).map (fun k => s.adcWord k tin) ++ List.replicate 4 0 ++ (List.range 160).map (fun w => s.svWord w tin tb2)

/-- Words 16 to 47 of an arm header: the set-point snapshot of converter `c` (R252). -/
def State.snapshotWords (s : State) (c : Nat) : List W40 :=
  (List.range 5).flatMap (fun q => let p := FMap.get SetPoint.reset s.setSnap (5 * c + q); [p.value, p.accept]) ++ List.replicate 22 0

/-- The input block of an arm: header and member words (R194, R195). -/
def State.armBlock (s : State) (a : Nat) : List W40 :=
  let ms := s.members a
  let top := s.mTop a
  let ref := s.lsbRef a
  let blocked := bitOf (s.rd Fld.LPW_BLK_STAT_BLOCKED) (a / 6)
  let x := s.arm a
  let words := ms.foldl (fun (m : FMap W40) p => FMap.set 0 m p.2.1 (s.memberWord p.1 ref p.2.2.1 blocked)) []
  let out := ms.filter (fun p => !(FMap.get 0 words p.2.1).getLsbD 11)
  let incl := ms.length - out.length
  let hbins := (out.filter (fun p => p.2.2.1 && s.available p.1 && p.2.2.2.belief != .bypassed)).length
  let b := fun (p : Bool) (i : Nat) => if p then 2 ^ i else 0
  [a + ms.length * 64 + top * 2 ^ 16 + b (s.v1Pin a) 26 + b (s.flag (Fld.VLY_ARMSTAT_LSB_MIX a)) 27 + b blocked 28,
   x.countNow + x.clamped.toNat * 2 ^ 10 + x.dropped.toNat * 2 ^ 14 + x.moved.toNat * 2 ^ 18,
   min (s.tEarly a) (2 ^ 17 - 1) + min s.tLate (2 ^ 17 - 1) * 2 ^ 17,
   x.rot + s.inForce (Fld.VLY_ARMCFG_ROT_STEP a) * 2 ^ 10 + s.inForce (Fld.VLY_ARMCFG_QS a) * 2 ^ 20 + s.inForce (Fld.VLY_ARMCFG_HBC a) * 2 ^ 24,
   ref, incl + hbins * 2 ^ 10].map (BitVec.ofNat 40) ++ List.replicate 10 0 ++ s.snapshotWords (a / 6) ++ List.replicate 16 0 ++
    FMap.getRange 0 words 0 768

/-- The extracts due in this volley: each word is the low 40 bits of an 8-byte DRAM slot (R226). -/
def State.extracts (s : State) (e : Nat) : State :=
  (List.range 4).foldl (fun (s : State) i =>
    let len := s.rd (Fld.CE_EXT_LEN_LEN e i)
    let every := s.rd (Fld.CE_EXT_EVERY_EVERY e i)
    if len = 0 ∨ every = 0 ∨ s.rd Fld.VLY_NOW_VOLLEY % every ≠ 0 then s
    else
      let ws := (List.range len).map (fun k => (s.dramSlot (s.rd (Fld.CE_EXT_SRC_SRC e i) + 8 * k)).setWidth 40)
      s.stream e (s.rd (Fld.CE_EXT_DST_DST e i)) ws) s

/-- Everything the streamer writes for an engine before its window. -/
def State.streamInputs (s : State) (e : Nat) (measured : List W40) : State :=
  let s := (s.stream e 0 (s.volleyHeader e)).stream e 0x40 measured
  let s := (s.ownsNow e).foldl (fun (s : State) p =>
    (s.stream e (0x400 + p.1 * 0x400) (s.armBlock p.2)).setArm p.2 (fun y => { y with block := (s.members p.2).map (fun x => (x.1, x.2.1)) })) s
  s.extracts e

/-! ### The state shadow on a standby (R330) -/

/-- H of a SHADOW frame as a belief. -/
def heldOfCode (h : Nat) : Held := if h = 1 then .insPos else if h = 2 then .insNeg else .bypassed

/-- A SHADOW frame is missing or late: counted, and with the link up a late transfer of class C1 (R328, R410). -/
def State.shadowLate (s : State) : State :=
  let s := ({ s with tnd := { s.tnd with missing := s.tnd.missing + 1 } } : State).bump Fld.TND_CNT_SHLATE_CNT
  if s.flag Fld.TND_STAT_LINK_UP then (s.bump Fld.QOS_CNT_C1MISS_CNT).raise Fld.QOS_STAT_C1_MISS 0 else s

/-- SHADOW n is applied on a standby before the compute window of volley n + 1; another or none counts as late. A return of volley
n that it does not mark as used is missing, where that volley's samples still stand for SID_REF: in a volley n + 1 without a
return window. A late frame is a late input of class C1 (R410). -/
def State.applyShadow (s : State) : State :=
  if ¬ s.standby then s
  else
    match s.tnd.shadow with
    | some f =>
      if f.volley + 1 = s.volley then
        let set : FMap SetPoint := (f.setpoints.zipIdx).foldl (fun m p => FMap.set SetPoint.reset m p.2 ⟨p.1.1, p.1.2⟩) []
        let s := { s with
          setNow := set, setSnap := set
          cells := FMap.mapVals Cell.reset (fun c (x : Cell) => { x with
            belief := heldOfCode ((f.beliefs.find? (fun b => b.1 == c)).map (·.2) |>.getD 0)
            sampleOk := x.sampleOk && (x.sid != f.sidNow || f.used.contains c) }) s.cells
          tnd := { s.tnd with shadow := none, applied := some f, missing := 0 } }
        f.sync.foldl (fun (s : State) p => s.stream p.1 (s.rd (Fld.TND_SYNC_BASE p.1)) p.2) s
      else ({ s with tnd := { s.tnd with shadow := none } } : State).shadowLate
    | none => s.shadowLate

/-! ### The opening of the window (R198) -/

/-- VALID of every working area is cleared (R196). -/
def State.clearValid (s : State) (e : Nat) : State :=
  (List.range 4).foldl (fun (s : State) a =>
    let w := s.w e (0x1400 + a * 0x400)
    if w.getLsbD 3 then s.putMem e (0x1400 + a * 0x400) (w &&& ~~~8#40) else s) s

/-- C for one engine. An engine that runs no window only begins a new engine volley, and one that is HALTED where it would run has a DONE
to count (R200; log 202). An engine whose inputs are late does not start (R410); any other starts at ENTRY. -/
def State.openEngine (s : State) (e : Nat) (measured : List W40) (late : Bool) : State :=
  if ¬ s.windowed e then
    let due := s.dueWindow e
    s.setEng e (fun g => { g.newVolley with ended := g.ended && !due })
  else if late then
    let s := s.setEng e (fun g => { g.newVolley.wake with running := false, ended := false, staged := if g.hnd && g.c0Idle then g.staged else [] })
    ((s.bump Fld.QOS_CNT_C1MISS_CNT).raise Fld.QOS_STAT_C1_MISS 0).showEngine e
  else
    let s := (s.streamInputs e measured).clearValid e
    let entry := ((s.eng e).container.map (·.entry)).getD 0
    let frm := s.rd (Fld.CE_CFG_FRM e)
    let wait := s.stallUnits e
    let s := s.setEng e (fun g =>
      let g := g.newVolley.wake
      if g.hnd ∧ g.c0Idle then { g with waitC := true, ended := false } else { (g.openWindow frm entry).spend wait with hnd := false, staged := [] })
    s.showEngine e

/-- COMPUTE_WINDOW_OPEN: from tick C on, once the return window is closed (R25), the set-point snapshot, the inputs, and the start
of every ACTIVE and MIG_SRC engine (R27, R198). -/
def execComputeWindowOpen (late : BitVec 32) (s : State) : Host.Outcome State Fault Refusal :=
  .next <|
    if ¬ s.started ∨ s.seqr.phase ≠ 0 ∨ s.seqr.windowOpen ∨ s.nowTick < s.time.boundaryTick + s.timeline.c then s
    else
      let s := ({ s with setSnap := s.setNow, seqr := { s.seqr with phase := 1 } } : State).applyShadow
      let s := s.wrB Fld.ADC_GSTAT_IN_CLIP s.inClip
      let measured := s.measuredWords
      (List.range 32).foldl (fun (s : State) e => s.openEngine e measured (late.getLsbD e)) s

/-! ### DONE (R197, R199, R200) -/

/-- Words 0x20 to 0x27 of the arms of an engine go to the recorder, and its program trigger bits fire (R510, R513). -/
def State.recArms (s : State) (e : Nat) : State :=
  let g := s.eng e
  let ts := BitVec.ofNat 32 (s.time.boundaryTick * 5 / 4)
  let s := (s.ownsNow e).foldl (fun (s : State) p =>
    (List.range 8).foldl (fun (s : State) i =>
      s.recAll 2 (s.recArm p.2) ts 3 p.2 i ((FMap.get 0 g.committed (p.1 * 0x400 + 0x20 + i)).setWidth 64)) s) s
  let bits := (FMap.get 0 g.committed 0x20).toNat % 65536
  (List.range 16).foldl (fun (s : State) i =>
    if bitOf bits i then s.recFire 2 i (fun d => bitOf (s.rd (Fld.REC_D_TRIG_TBITS d)) i && (s.ownsNow e).any (fun p => s.recArm p.2 d))
    else s) s

/-- A counted DONE: outputs and event words are committed in one step, and RUN returns to 0; yield condition 3 ends with the last
engine that raised it (R197, R200). -/
def State.commitEngine (s : State) (e tick : Nat) : State :=
  let g := s.eng e
  let ws := g.staged
  let area := (FMap.getRange 0 g.dmem 0x1400 4096)
  let s := s.setEng e (fun g => { g with committed := FMap.setRange 0 [] 0 area, held := false,
                                         syncWords := FMap.getRange 0 g.dmem (s.rd (Fld.TND_SYNC_BASE e)) (s.rd (Fld.TND_SYNC_LEN e)), ended := true, running := false,
                                         staged := [], prog := none, resumed := false, yieldOn := false })
  let s := s.wrs [(Fld.CE_RUN_RUN e, 0), (Fld.CE_DLSTAT_LAST_END e, tick), (Fld.CE_DLMAX_MAX_END e, max tick (s.rd (Fld.CE_DLMAX_MAX_END e)))]
  let s := if (List.range 32).any (fun n => (s.eng n).yieldOn) then s else s.clearYield 3
  (if ws = [] then s else s.eqStaged e ws).recArms e

/-- DONE ends the program's volley, at `tick` ticks after C; in the tick of A or later it is an overrun. The work of a standard program
is counted here, as a whole. -/
def execCeDone (e : Fin 32) (rd rs1 rs2 : BitVec 4) (tick : BitVec 17) (s : State) : Host.Outcome State Fault Refusal :=
  .next <|
    if ¬ s.executing e then s
    else if ¬ (rd = 0 ∧ rs1 = 0 ∧ rs2 = 0 ∧ ¬ (s.eng e).hnd) then s.illegal e
    else
      let s := s.setEng e (fun g => g.next.spend 8)
      if tick.toNat < s.timeline.a - s.timeline.c then
        let std := match (s.eng e).container with | some c => c.standard | none => false
        ((if std then s.stdVolley e else s).commitEngine e tick.toNat).showEngine e
      else s.stopEngine e

end Sys2Proof.Machine
end

