-- ==== Sys2Proof/Machine/Assembly.lean ====
section
/-! DEFINITION. Serve assembly at tick A: the deadline stops, the edges and orders of every arm, the serve of every spoke,
and the state shadow (R29, R124 to R128, R138 to R140, R165 to R175, R186, R197 to R201, R284, R329). -/

namespace Sys2Proof.Machine

/-! ### Edge rules (R175) -/

/-- An edge as arm control requested it. -/
structure ReqEdge where
  idx    : Nat
  time   : Nat
  n      : Nat
  theta  : Nat
  tiekey : Nat
deriving DecidableEq, Repr

/-- What the rules did: the edges left, and the masks of moved, merged and late ones. -/
structure EdgeResult where
  kept   : List ReqEdge
  moved  : List Nat
  merged : List Nat
  late   : List Nat
deriving DecidableEq, Repr

/-- The edge that becomes edge 0 of a pinned arm: one at 3,200, else the last before it, else the first after it. -/
def pinOf (es : List ReqEdge) : Option ReqEdge :=
  match es.find? (fun x => x.time == 3200) with
  | some x => some x
  | none =>
    match (es.filter (fun x => decide (x.time < 3200))).getLast? with
    | some x => some x
    | none => es.head?

/-- The pinned-edge rule: edge 0 at 3,200, the others before it dropped. -/
def pinEdges (es : List ReqEdge) : EdgeResult :=
  match pinOf es with
  | none => ⟨es, [], [], []⟩
  | some p =>
    let rest := es.filter (fun x => x.idx != p.idx)
    ⟨{ p with time := 3200 } :: rest.filter (fun x => decide (3200 ≤ x.time)), if p.time = 3200 then [] else [p.idx],
     (rest.filter (fun x => decide (x.time < 3200))).map (·.idx), []⟩

/-- Put an edge behind the edges kept so far, newest first: of two that are too close the earlier one is dropped, however many that
takes, but for a pinned one, before which the later edge is dropped. Also the edges dropped. -/
def placeEdge (pin : Option Nat) (x : ReqEdge) : List ReqEdge → List ReqEdge × List Nat
  | [] => ([x], [])
  | k :: ks =>
    if k.time + 160 ≤ x.time then (x :: k :: ks, [])
    else if pin = some k.idx then (k :: ks, [x.idx])
    else let r := placeEdge pin x ks; (r.1, k.idx :: r.2)

/-- The spacing rule: the edges left, and those dropped. -/
def spaceRule (pin : Option Nat) (es : List ReqEdge) : List ReqEdge × List Nat :=
  let r := es.foldl (fun (a : List ReqEdge × List Nat) x => let p := placeEdge pin x a.1; (p.1, a.2 ++ p.2)) ([], [])
  (r.1.reverse, r.2)

/-- The rules of R175 in their order. -/
def edgeRules (es : List ReqEdge) (pin : Bool) (early late : Nat) : EdgeResult :=
  let p := if pin then pinEdges es else ⟨es, [], [], []⟩
  let fixed : Option Nat := if pin then p.kept.head?.map (·.idx) else none
  let moved := (p.kept.filter (fun x => decide (some x.idx ≠ fixed ∧ x.time < early))).map (·.idx)
  let es := p.kept.map (fun x => if some x.idx ≠ fixed ∧ x.time < early then { x with time := early } else x)
  let (es, merged) := spaceRule fixed es
  let isLate := fun (x : ReqEdge) => decide (some x.idx ≠ fixed ∧ late < x.time)
  ⟨es.filter (fun x => !isLate x), p.moved ++ moved, p.merged ++ merged, (es.filter isLate).map (·.idx)⟩

/-- A list of edge numbers as a mask. -/
def edgeMask (l : List Nat) : BitVec 4 := l.foldl (fun m i => m ||| BitVec.ofNat 4 (2 ^ i)) 0

/-! ### The committed copy (R196, R197) -/

/-- A word of the committed output area of slot `a` of engine `e`. -/
def State.outWord (s : State) (e a i : Nat) : W40 := FMap.get 0 (s.eng e).committed (a * 0x400 + i)

/-- The engine in ACTIVE or MIG_SRC that owns arm `a`, with the slot (R186). -/
def State.ownerOf (s : State) (a : Nat) : Option (Nat × Nat) :=
  (List.range 32).findSome? (fun e =>
    if s.windowed e then ((s.ownsNow e).find? (fun p => p.2 == a)).map (fun p => (e, p.1)) else none)

/-- The outputs of an arm may be used: the engine's DONE counted and VALID is 1 (R197, R201). -/
def State.outputsValid (s : State) (e a : Nat) : Bool := !(s.eng e).held && (s.outWord e a 0).getLsbD 3

/-- The edges an engine requests for a slot (R196). -/
def State.requested (s : State) (e a : Nat) : List ReqEdge :=
  let ne := (s.outWord e a 0).toNat % 8
  (List.range (if 4 < ne then 0 else ne)).map (fun k =>
    ⟨k, (s.outWord e a (1 + 4 * k)).toNat % 2 ^ 17, (s.outWord e a (2 + 4 * k)).toNat % 2 ^ 16,
     (s.outWord e a (3 + 4 * k)).toNat % 2 ^ 32, (s.outWord e a (4 + 4 * k)).toNat % 2 ^ 16⟩)

/-! ### What a member does under the serve (R164 to R171) -/

/-- A member's order in the serve. -/
inductive Order where
  | none
  | v1 (ins neg : Bool)
  | exc (eord : Nat)
deriving DecidableEq, Repr

/-- A member as assembly sees it: its cell, its number, its word, whether it is ordered bypassed in any case, whether its
spoke is in a gear-change volley B, and the program's order for it (EORD, V1NEG), if any. -/
structure Follower where
  cell   : Nat
  m      : Nat
  word   : W40
  forced : Bool
  inB    : Bool
  order  : Option (Nat × Bool)
deriving DecidableEq, Repr

def ReqEdge.neg (x : ReqEdge) : Bool := bitOf x.n 15
def ReqEdge.count (x : ReqEdge) : Nat := x.n % 1024

/-- The state an order gives; a half-bridge cell never inserts with negative polarity. -/
def orderedState (fb ins neg : Bool) : Held := if !ins || (neg && !fb) then .bypassed else if neg then .insNeg else .insPos

/-- The state a belief has under edges: kept. -/
def Held.inserted (h : Held) : Bool := h != .bypassed

/-- A held belief at an edge (R167): inserted only under the polarity with which it was inserted, and never a half-bridge cell at an
edge with NEG = 1. An order says insert or bypass for the polarity of its edge, so a belief of the other polarity is ordered
bypassed, as N_HBINS counts it (DESIGN CHOICE, log 60). -/
def heldAt (fb : Bool) (belief : Held) (neg : Bool) : Bool := belief == (if neg then .insNeg else .insPos) && (fb || !neg)

/-- The state of a cell that follows the threshold rule at an edge (R163, R164); without a sample it keeps its belief. -/
def ruleState (w : W40) (m : Nat) (belief : Held) (x : ReqEdge) : Held :=
  if x.neg ∧ ¬ mFb w then .bypassed
  else if ¬ w.getLsbD 11 then belief
  else orderedState (mFb w) (decide (keyOf (bitOf x.n 14) x.neg (x.n / 2 ^ 10 % 16) (x.tiekey / 2 ^ 10) (x.tiekey % 1024) (mVkey w)
    (w.toNat / 2 ^ 22 % 4) m < x.theta)) x.neg

/-- The states of a member after each edge and its order (R164, R166, R169, R170, R197, R201). In the serve after a gear change a cell
that the program does not order is ordered to its held belief; the program, which finds its sample missing, may change a held
belief there to reach COUNT as anywhere (R104, R167). -/
def follow (f : Follower) (belief : Held) (es : List ReqEdge) : List Held × Order :=
  let w := f.word
  let fb := mFb w
  let rank := es.map (ruleState w f.m belief)
  let named : Option (Nat × Bool) := if f.forced then some (0, false) else f.order
  if mVer w = 1 then
    let st := match named with
      | some (eord, neg) => orderedState fb (bitOf eord 0) neg
      | none => if f.inB ∨ ¬ w.getLsbD 11 then belief else rank.headD belief
    (es.map (fun _ => st), .v1 st.inserted (st == .insNeg))
  else if es = [] then ([], if f.inB then (if mVer w = 2 then .v1 belief.inserted (belief == .insNeg) else .exc 0) else .none)
  else if mVer w = 2 then
    match named with
    | some (eord, neg) => let st := orderedState fb (bitOf eord 0) neg; (es.map (fun _ => st), .v1 (bitOf eord 0) neg)
    | none => if f.inB then (es.map (fun _ => belief), .v1 belief.inserted (belief == .insNeg)) else (es.map (fun _ => rank.headD belief), .none)
  else
    match named with
    | some (eord, _) => ((es.zipIdx).map (fun x => orderedState fb (bitOf eord x.2) x.1.neg), .exc (eord % 2 ^ es.length))
    | none =>
      if f.inB then
        (es.map (fun x => orderedState fb (heldAt fb belief x.neg) x.neg),
          .exc ((es.zipIdx).foldl (fun b x => if heldAt fb belief x.1.neg then b + 2 ^ x.2 else b) 0))
      else (rank, .none)

/-- The lowest and highest COUNT an edge can reach (R165, R167): at edges after the first the members of version 1 and 2
keep the state they took at edge 0; a held belief can be changed. -/
def reach (fs : List (Follower × List Held)) (e : Nat) (x : ReqEdge) : Nat × Nat :=
  let able := fun (p : Follower × List Held) => !x.neg || mFb p.1.word
  let stuck := fun (p : Follower × List Held) => decide (0 < e) && mVer p.1.word != 3
  let lo := (fs.filter (fun p => stuck p && (p.2.getD e .bypassed).inserted)).length
  (lo, lo + (fs.filter (fun p => !stuck p && able p && !p.1.forced)).length)

/-! ### One arm -/

/-- What an arm adds to the serves: its record, the orders of cells, none for a disabled arm (R179). -/
structure ArmOut where
  record : ArmRec
  orders : List (Nat × Order)
  /-- The state each of them leaves its cell in. -/
  states : List (Nat × Held)
deriving DecidableEq, Repr

/-- The members that can be ordered, as assembly sees them. -/
def State.followers (s : State) (a : Nat) (own : Option (Nat × Nat)) (valid : Bool) : List Follower :=
  let ref := s.lsbRef a
  let blocked := bitOf (s.rd Fld.LPW_BLK_STAT_BLOCKED) (a / 6)
  (s.members a).filterMap (fun p =>
    if ¬ p.2.2.1 ∨ ¬ s.available p.1 then none
    else
      let w := s.memberWord p.1 ref true blocked
      let listed := own.isNone || (s.arm a).block.contains (p.1, p.2.1)
      let order : Option (Nat × Bool) := match own with
        | some (e, k) => if valid then (let o := s.outWord e k (0x40 + p.2.1); if o.getLsbD 4 then some (o.toNat % 16, o.getLsbD 5) else none) else none
        | none => none
      some ⟨p.1, p.2.1, w, decide (mCase w = 5 ∨ mCase w = 7) || !listed, (s.spoke (p.1 / 128)).inB, order⟩)

/-- What every assembly shows of an arm, in use or not (R171, R181): the cells bound to it, those in R_0 and X_0, the pin, and whether VKEY_LSB values
differ, of which the first to differ sets LSB_MIX. -/
def State.armShown (s : State) (a rule fixed : Nat) : State :=
  let mix := s.lsbMix a
  let s := s.raiseIf (mix && !s.flag (Fld.VLY_ARMSTAT_LSB_MIX a)) (Fld.VLY_ARM_EVT_LSB_MIX a) a
  s.wrs [(Fld.VLY_ARMSTAT_MEMBERS a, (s.members a).length), (Fld.VLY_ARMSTAT_RULE a, rule), (Fld.VLY_ARMSTAT_FIXED a, fixed),
    (Fld.VLY_ARMSTAT_V1_PIN a, if s.v1Pin a then 1 else 0), (Fld.VLY_ARMSTAT_LSB_MIX a, if mix then 1 else 0)]

/-- A serve is assembled for spoke `n` at the next boundary: Serving or Probing, no gear-change volley B, and lit long enough by then
(R100, R104). A standby assembles the serves of its Listening spokes with cells too and sends nothing, unless it takes over
(R330, R337). -/
def State.serveNext (s : State) (n : Nat) : Bool :=
  !s.gcNext n &&
    (((s.spokeState n == .serving || s.spokeState n == .probing) && s.litBy n (s.time.boundaryTick + s.timeline.p10 * 8)) ||
      (s.standby && s.spokeState n == .listening && decide (0 < s.rd (Fld.SPK_STAT_ADMITTED n))))

/-- A held cell was changed at some edge (R173). A version-1 or version-2 cell has the one state of edge 0. -/
def brokeBudget (w : W40) (belief : Held) (es : List ReqEdge) (states : List Held) : Bool :=
  ((es.zip states).take (if mVer w = 3 then es.length else 1)).any (fun p => p.2.inserted != heldAt (mFb w) belief p.1.neg)

/-- The record and orders of an enabled arm, the states they leave the cells in, its flags and counters, and what the next header
shows. -/
def State.assembleArm (s : State) (a : Nat) : State × Option ArmOut :=
  if s.inForce (Fld.VLY_ARMCFG_ENABLE a) = 0 then (s.armShown a 0 0, none)
  else
    let own := s.ownerOf a
    let s := s.raiseIf own.isNone Fld.CE_GSTAT_ORPHAN a
    let valid := match own with | some (e, k) => s.outputsValid e k | none => false
    let raw := match own with | some (e, k) => if valid then s.requested e k else [] | none => []
    let pin := s.v1Pin a
    let r := edgeRules raw pin (s.tEarly a) s.tLate
    let s := ((s.raiseIf (r.late != []) (Fld.VLY_ARM_EVT_LATE a) a).raiseIf (r.merged != []) (Fld.VLY_ARM_EVT_MERGED a) a).raiseIf
      (r.moved != []) (Fld.VLY_ARM_EVT_MOVED a) a
    let s := s.bump (Fld.VLY_ARMCNT_EDGE_CNT a) (r.merged.length + r.late.length)
    let fs := s.followers a own valid
    let done := fs.map (fun f => (f, follow f (s.cell f.cell).belief r.kept))
    let states := done.map (fun p => (p.1, p.2.1))
    let limits := (r.kept.zipIdx).map (fun x => reach states x.2 x.1)
    let counts := (r.kept.zipIdx).map (fun x => let l := limits.getD x.2 (0, 0); max l.1 (min l.2 x.1.count))
    let clamps := ((r.kept.zipIdx).filter (fun x => counts.getD x.2 0 != x.1.count)).map (·.2)
    let s := (s.raiseIf (clamps != []) (Fld.VLY_ARM_EVT_CLAMP a) a).bump (Fld.VLY_ARMCNT_CLAMP_CNT a) clamps.length
    let broke := done.any (fun p => mCase p.1.word == 6 && brokeBudget p.1.word (s.cell p.1.cell).belief r.kept p.2.1)
    let s := s.raiseIf broke (Fld.VLY_ARM_EVT_BUDGET_BREAK a) a
    let blocked := s.serveMask.getLsbD (a / 6)
    let left : List (Nat × Held) := done.map (fun p => (p.1.cell,
      if blocked then .bypassed
      else match p.2.1.getLast?, p.2.2 with
        | some h, _ => h
        | none, .v1 ins neg => orderedState (mFb p.1.word) ins neg
        | none, _ => (s.cell p.1.cell).belief))
    -- A cell outside the polarity of edge 0 is in neither set (R165).
    let sets := fs.filter (fun f => match r.kept.head? with | some x => !x.neg || mFb f.word | none => true)
    let ranked := (sets.filter (fun f => f.word.getLsbD 11 && !f.forced && !f.inB)).length
    let s := s.armShown a ranked (sets.length - ranked)
    let edges : List Edge := (r.kept.zipIdx).map (fun x =>
      ⟨BitVec.ofNat 24 x.1.time, BitVec.ofNat 16 (x.1.n / 1024 * 1024 + counts.getD x.2 0), BitVec.ofNat 32 x.1.theta, BitVec.ofNat 16 x.1.tiekey⟩)
    let s := s.setArm a (fun y => { y with
      countNow := (counts.getLast?).getD y.countNow, rot := (r.kept.head?.map (fun x => x.tiekey % 1024)).getD y.rot,
      dropped := edgeMask (r.merged ++ r.late), moved := edgeMask r.moved, clamped := edgeMask clamps })
    (s, some ⟨⟨a, edges⟩, done.map (fun p => (p.1.cell, p.2.2)), left⟩)

/-- All arms, ascending. -/
def State.assembleArms (s : State) : State × List ArmOut :=
  (List.range 48).foldl (fun (x : State × List ArmOut) a =>
    let (s, o) := x.1.assembleArm a
    (s, match o with | some o => x.2 ++ [o] | none => x.2)) (s, [])

/-! ### One spoke's serve (R124 to R128, R138 to R140) -/

/-- Length of a serve body in bytes. -/
def Serve.length (x : Serve) : Nat :=
  24 + 2 * x.v1.length + (x.arms.map (fun a => 4 + 12 * a.edges.length)).foldl (· + ·) 0 + 2 * x.exc.length + 8 * x.preq.length + 16 * x.mgmt.length

/-- A serve of this length is allowed: at most 1,720 bytes, ending in time (R124, R128). -/
def State.serveFits (s : State) (n : Nat) (x : Serve) : Bool :=
  decide (x.length ≤ 1720) && decide ((serveTime (s.rd (Fld.SPK_STAT_GEAR n)) x.length : Int) ≤ s.serveLimit s.timeline)

/-- A serve with an entry added, `none` where its limits exclude the entry. -/
def Serve.add (x : Serve) : ServeItem → Option Serve
  | .mgmt m => if 8 ≤ x.mgmt.length then none else some { x with mgmt := x.mgmt ++ [m] }
  | .req r => if 96 ≤ x.preq.length ∨ x.preq.any (fun q => q.slot == r.slot) then none else some { x with preq := x.preq ++ [r] }

/-- Fill a serve with the entries due, oldest first: the serve, and the entries that wait on. -/
def State.fillServe (s : State) (n : Nat) : List ServeItem → Serve → List ServeItem → Serve × List ServeItem
  | [], x, left => (x, left)
  | i :: t, x, left =>
    match x.add i with
    | none => s.fillServe n t x (left ++ [i])
    | some y => if s.serveFits n y then s.fillServe n t y left else (x, left ++ i :: t)

/-- POLLs of a spoke at G0 (R132, R134): the cells in turn, as many as the return window has room for, each with the O of its
place in the window. -/
def State.polls (s : State) (n : Nat) : List (Nat × Mgmt) :=
  let cells := (s.cellsOf n).filter (fun p => p.2.lstate ≠ .free ∧ p.2.lstate ≠ .muted)
  let t := s.timeline
  let room := min 8 (((t.c - t.w) * 125 - 5600) / slotTime 0)
  let len := cells.length
  (List.range (min room len)).filterMap (fun j =>
    (cells[(s.rd Fld.VLY_NOW_VOLLEY * room + j) % len]?).map (fun p =>
      (p.1, .poll (p.1 % 128) (nearestTick ((t.w * 125 + j * slotTime 0 + guardTime 0 : Nat) - p.2.delay2) 1))))

/-- The requests and management entries of a serve go out with it (R138 to R140): first sends, read-backs that become due,
fresh reads under way. -/
def State.noteSent (s : State) (n : Nat) (x : Serve) : State :=
  let v := s.volley + 1
  let s := x.preq.foldl (fun (s : State) q =>
    let c := cellId n q.slot
    let y := s.cell c
    let s := s.setCell c (fun y => { y with
      out := y.out.map (fun o => if q.op = 1 ∧ o.first = none then { o with first := some v } else o)
      bindTold := y.bindTold || (match y.out with | some o => o.w.own && q.op == 1 | none => false)
      fresh := if q.op = 0 then y.fresh.map (fun r => if r.point = q.point ∧ ¬ r.sent then { r with sent := true, since := v } else r) else y.fresh })
    if q.op = 1 ∧ y.ver ≠ 3 then s.dueBack c q.point else s) s
  (x.mgmt.foldl (fun (a : State × Nat) m => match m with
    | .poll k o => (a.1.setCell (cellId n k) (fun y => { y with o := o, pos := a.2 * slotUi 0 }), a.2 + 1)
    | _ => a) (s, 0)).1

/-- Assemble the serve of one spoke; none on a spoke that sends none at the next boundary. The serve of a standby carries no
requests and management entries, which its twin sends (R330, R344). -/
def State.assembleSpoke (s : State) (outs : List ArmOut) (n : Nat) : State :=
  if ¬ s.serveNext n then s.setSpoke n (fun p => { p with next := none, orders := [] })
  else
    let g := s.rd (Fld.SPK_STAT_GEAR n)
    let mine := s.armsOf n
    let orders := (outs.flatMap (·.orders)).filter (fun o => o.1 / 128 == n)
    let (gg, gk) : Nat × Nat := match (s.spoke n).plan with | some (gear, k) => if 1 ≤ k ∧ k ≤ 16 then (gear, k) else (g, 0) | none => (g, 0)
    let conv := s.convsOn (fun k => k == n)
    let base : Serve :=
      { kind := if g = 0 then 1 else 0, gcGear := gg, gcCnt := gk, epoch := 0, volley := s.volley + 1, sidNow := 0,
        sidRef := s.seqr.sidRef, blkMask := s.serveMask &&& conv, period := 0,
        v1 := if g = 0 then [] else orders.filterMap (fun o => match o.2 with | .v1 i m => some ⟨o.1 % 128, i, m⟩ | _ => none),
        arms := if g = 0 then [] else (outs.filter (fun o => mine.contains o.record.arm)).map (·.record),
        exc := if g = 0 then [] else orders.filterMap (fun o => match o.2 with | .exc b => some ⟨o.1 % 128, BitVec.ofNat 4 b⟩ | _ => none),
        preq := [], mgmt := [], badCrc := false }
    let (x, left) := if s.standby then (base, (s.spoke n).items) else s.fillServe n (s.spoke n).items base []
    let (x, _) := if g = 0 ∧ ¬ s.standby then s.fillServe n ((s.polls n).map (fun p => .mgmt p.2)) x [] else (x, [])
    let states := if g = 0 then [] else (outs.flatMap (·.states)).filter (fun o => o.1 / 128 == n)
    let s := s.setSpoke n (fun p => { p with items := left, next := some x, orders := states })
    s.noteSent n x

/-! ### The state shadow (R328, R329) -/

/-- The SHADOW frame of the present volley: beliefs and gear announcements as they stand after its serve, sync regions as they stood
at the counted DONE; those of an engine without one in this volley, at its last (DESIGN CHOICE, log 195). -/
def State.shadowFrame (s : State) : ShadowFrame :=
  { crcOk := true, volley := s.volley, epoch := BitVec.ofNat 16 (s.rd Fld.VLY_NOW2_EPOCH), sidNow := BitVec.ofNat 8 (s.rd Fld.VLY_NOW2_SID_NOW),
    blocked := BitVec.ofNat 8 (s.rd Fld.LPW_BLK_STAT_BLOCKED), tb1 := s.time.boundaryTb1, digest := s.digest,
    tver := s.rd Fld.TND_STAT_TVER,
    gears := (List.range 128).map (fun n => match (s.spoke n).sent with | some x => (x.gcGear, x.gcCnt) | none => (s.rd (Fld.SPK_STAT_GEAR n), 0)),
    setpoints := (List.range 40).map (fun k => let p := FMap.get SetPoint.reset s.setSnap k; (p.value, p.accept)),
    beliefs := s.cells.filterMap (fun p => if p.2.belief = .bypassed then none else some (p.1, p.2.belief.code)),
    used := s.cells.filterMap (fun p => match p.2.member with
      | some (a, _) => (let k := s.caseOf p.1 (s.lsbRef a); if k = 0 ∨ k = 4 then some p.1 else none)
      | none => none),
    -- A link too narrow for the sync regions carries the other parts (R331).
    sync := if ¬ s.shadowFits s.timeline then [] else (List.range 32).filterMap (fun e => if s.windowed e ∧ 0 < s.rd (Fld.TND_SYNC_LEN e) then
      some (e, (s.eng e).syncWords) else none) }

/-- An ACTIVE module with the link up sends the shadow. -/
def State.sendShadow (s : State) : State :=
  if s.tndState = 4 ∧ s.flag Fld.TND_STAT_LINK_UP then { s with tnd := { s.tnd with shadowSent := some s.shadowFrame } } else s

/-! ### Tick A (R29, R200) -/

/-- The deadline (R200): an engine whose DONE has not counted is stopped, with its handler and a suspended instruction, and the stop
counts one overrun, unless a stop of this volley has counted already (R215). An engine that debug holds HALTED is stopped with the
others (log 202). The outputs of the last counted DONE are held exactly while no DONE has counted since the window. -/
def State.deadline (s : State) (e : Nat) : State :=
  let g := s.eng e
  if ¬ s.dueWindow e ∨ (g.ended ∧ ¬ g.held) then s
  else
    let s := s.setEng e (fun g => { g with hnd := false, prog := none, resumed := false, running := false, waitC := false, staged := [] })
    (if g.ended then s else s.overrun e).showEngine e

/-- Edges, orders and serves (R29). -/
def State.assembleAll (s : State) : State :=
  let (s, outs) := s.assembleArms
  (List.range 128).foldl (fun (s : State) n => s.assembleSpoke outs n) s

/-- The cells whose ARMBIND write the assembled serves carry for the first time: `s` as it stood before. -/
def State.firstTold (s t : State) : List Nat :=
  t.spokes.flatMap (fun p => match p.2.next with
    | some x => (x.preq.filter (fun q => q.op == 1 && q.point == 128)).filterMap (fun q =>
        let c := cellId p.1 q.slot
        if (s.cell c).bindTold then none else some c)
    | none => [])

/-- The assembly in two passes: a cell is bypassed from the very serve that first carries its ARMBIND write (R160), so the orders are
formed anew where a serve carries one for the first time. -/
def State.assembleServes (s : State) : State :=
  let t := s.assembleAll
  match s.firstTold t with
  | [] => t
  | cs => (cs.foldl (fun (s : State) c => s.setCell c (fun x => { x with bindTold := true })) s).assembleAll

/-- SERVE_ASSEMBLY_START: from tick A on (R25). -/
def execServeAssemblyStart (s : State) : Host.Outcome State Fault Refusal :=
  .next <|
    if ¬ s.started ∨ s.seqr.phase ≠ 1 ∨ s.nowTick < s.time.boundaryTick + s.timeline.a then s
    else
      let s : State := { s with seqr := { s.seqr with phase := 2 } }
      let s := (List.range 32).foldl (fun (s : State) e => s.deadline e) s
      s.examineReleases.sendShadow.assembleServes

end Sys2Proof.Machine
end

