-- ==== Sys2Proof/Machine/Opcodes.lean ====
section
/-! DEFINITION. What descriptors do once they have passed R365 (R366 to R368), and the bulk ring (R374). READ_REG and
CFG_WRITE stand with the registers. -/

namespace Sys2Proof.Machine

/-- NOP completes OK. -/
def execHostNop (fn : Fin 256) (index : BitVec 16) (s : State) : Host.Outcome State Fault Refusal :=
  .next (s.withDescr fn.val index fun x =>
    match x.d.body with
    | .nop => s.done fn.val x .ok
    | _ => s)

/-! ### Reads (R367) -/

/-- READ_POINTS: image words to DST, cell by cell and point by point; a FRESH read sends a point request and waits, where the module may
send one: a module that is not ACTIVE answers it from its image too (R344). -/
def execReadPoints (fn : Fin 256) (index : BitVec 16) (s : State) : Host.Outcome State Fault Refusal :=
  .next (s.withDescr fn.val index fun x =>
    match x.d.body with
    | .readPoints c n p k dst _ fresh =>
      if fresh ∧ s.activeOrSolo then
        let s := s.setProgress fn.val x.serial .fresh
        let s := s.setCell c (fun y => { y with fresh := y.fresh ++ [⟨fn.val, x.serial, p, 0, false⟩] })
        s.dueReq c 0 p 0 0
      else
        let ws := (covered c n).flatMap (fun c => (List.range k).map (fun i => s.imageWord c (p + i)))
        (s.dma fn.val dst 8 ws).done fn.val x .ok (8 * ws.length)
    | _ => s)

/-- READ_LINK. -/
def execReadLink (fn : Fin 256) (index : BitVec 16) (s : State) : Host.Outcome State Fault Refusal :=
  .next (s.withDescr fn.val index fun x =>
    match x.d.body with
    | .readLink c n dst _ =>
      let ws := (covered c n).flatMap (fun c => s.linkRecord c)
      (s.dma fn.val dst 8 ws).done fn.val x .ok (8 * ws.length)
    | _ => s)

/-! ### Streams (R374, R517, R525) -/

/-- Open a stream whose source has accepted it. -/
def State.putStream (s : State) (f k : Nat) (st : Stream) : State :=
  s.setFn f (fun h => { h with streams := FMap.set none h.streams k (some st) })

/-- The oldest log record held. -/
def State.logOldest (s : State) : Nat := max 1 (s.logSeq + 1 - logSize)

/-- STREAM_OPEN: SOURCE 0 reads a finished capture, SOURCE 1 the module log. -/
def execStreamOpen (fn : Fin 256) (index : BitVec 16) (s : State) : Host.Outcome State Fault Refusal :=
  let f := fn.val
  .next (s.withDescr f index fun x =>
    match x.d.body with
    | .streamOpen k src a =>
      if (FMap.get none (s.fn f).streams k).isSome then s.done f x .busy 0 16
      else if src = 0 then
        let d := a.toNat % 16
        let g := a.toNat / 16 % 8
        if 256 ≤ a.toNat % 65536 then s.done f x .range 0 20
        else if ¬ bitOf (s.rd (Fld.REC_D_STAT_DONE d)) g ∨ bitOf (s.rd (Fld.REC_D_STAT_READING d)) g then s.done f x .busy 0 20
        else ((s.wrBit (Fld.REC_D_STAT_READING d) g true).putStream f k ⟨0, a, 0, 0, 0⟩).done f x .ok
      else
        let q := a.toNat
        (s.putStream f k ⟨1, a, if q < s.logOldest then s.logOldest else q, 0, 0⟩).done f x .ok
    | _ => s)

/-- STREAM_CLOSE ends a stream of the function; a capture it has not read to the end stays finished. -/
def execStreamClose (fn : Fin 256) (index : BitVec 16) (s : State) : Host.Outcome State Fault Refusal :=
  let f := fn.val
  .next (s.withDescr f index fun x =>
    match x.d.body with
    | .streamClose k => (s.endStream f k 0).done f x .ok
    | _ => s)

/-- The 8-byte words that bytes in memory order stand for. -/
def wordsOf : Nat → List (BitVec 8) → List (BitVec 64)
  | 0, _ => []
  | n + 1, bs => BitVec.ofNat 64 (leValue (bs.take 8)) :: wordsOf n (bs.drop 8)

/-- What a capture sends: header, then entries from FIRST in ring order. -/
def captureWords (c : Capture) : List (BitVec 64) := wordsOf 8 (captureHeader c) ++ c.entries.flatMap (·.words)

/-- Write a bulk entry back: USED, STREAM, END and PHASE; vector 2. -/
def State.bulkBack (s : State) (f used stream : Nat) (last : Bool) : State :=
  let n := s.ringSize f 3
  let h := s.rd (Fld.HIF_FN_BLK_PTR_HEAD f)
  let p := (s.fn f).blkPhase
  let s := ({ s with hostMem := { s.hostMem with blk := FMap.set none s.hostMem.blk (65536 * f + h) (some ⟨used, stream, last, p⟩) } } : State)
  let h' := (h + 1) % n
  let s := s.wr (Fld.HIF_FN_BLK_PTR_HEAD f) h'
  (if h' = 0 then s.setFn f (fun h => { h with blkPhase := !p }) else s).signal f 2

/-- The bytes a stream has to send now. -/
def State.streamReady (s : State) (st : Stream) : Bool :=
  if st.source = 0 then (FMap.get none s.captures (s.segAddr (st.arg.toNat % 16) (st.arg.toNat / 16 % 8))).isSome
  else decide (st.next ≤ s.logSeq)

/-- Fill a buffer from a capture; the last one ends the stream, and with FREE frees the segment. -/
def State.fillCapture (s : State) (f k : Nat) (st : Stream) (e : BulkEntry) : State :=
  let d := st.arg.toNat % 16
  let g := st.arg.toNat / 16 % 8
  match FMap.get none s.captures (s.segAddr d g) with
  | none => s
  | some c =>
    let ws := captureWords c
    let out := (ws.drop (st.done / 8)).take (e.len / 8)
    let last := decide (8 * ws.length ≤ st.done + e.len)
    let s := (s.dma f e.addr 8 out).bulkBack f (8 * out.length) k last
    if last then
      let s := s.endStream f k 0
      if bitOf st.arg.toNat 7 then s.recFree d g else s
    else s.putStream f k { st with done := st.done + 8 * out.length }

/-- Fill a buffer from the log; records overwritten before they were sent are reported lost. -/
def State.fillLog (s : State) (f k : Nat) (st : Stream) (e : BulkEntry) : State :=
  let first := max st.next s.logOldest
  let lost := 32 * (first - st.next)
  let s := if lost = 0 then s else s.postEvent f 0 (.stream k 1 lost)
  let n := min (e.len / 32) (s.logSeq + 1 - first)
  let ws := (List.range n).flatMap (fun i => (FMap.get LogRec.reset s.log ((first + i - 1) % logSize)).words)
  ((s.dma f e.addr 8 ws).bulkBack f (32 * n) k false).putStream f k { st with next := first + n, lost := st.lost + lost }

/-- BULK_BUFFER_FILL: the next posted buffer, the 16 bytes `entry` of the bulk ring, is filled for the lowest open stream that has something to send; one
with LEN out of range is written back unfilled. While C3 granules of the function wait, so does its fill (R419). -/
def execBulkBufferFill (fn : Fin 256) (entry : List (BitVec 8)) (s : State) : Host.Outcome State Fault Refusal :=
  let f := fn.val
  let entry := readBulk entry
  let posted := s.rd (Fld.HIF_FN_BLK_PTR_HEAD f) != s.rd (Fld.HIF_FN_BLK_PTR_TAIL f)
  if ¬ (s.fnOpen f ∧ 2 ≤ s.rd (Fld.HIF_FN_STAT_LEVEL f) ∧ posted ∧ ¬ s.throttled f .c3) then .next s
  else if entry.len < 4096 ∨ 1048576 < entry.len ∨ entry.len % 64 ≠ 0 then .next (s.bulkBack f 0 0 false)
  else
    match (List.range 8).find? (fun k => match FMap.get none (s.fn f).streams k with | some st => s.streamReady st | none => false) with
    | none => .next s
    | some k =>
      match FMap.get none (s.fn f).streams k with
      | none => .next s
      | some st => .next (if st.source = 0 then s.fillCapture f k st entry else s.fillLog f k st entry)

/-! ### Set-point class (R27, R251, R281, R138) -/

/-- SETPOINT: the value staged for its converter at the verification completes with the volley whose snapshot takes it (R27, R368); one that
had to wait for earlier descriptors is staged now. -/
def execSetpoint (fn : Fin 256) (index : BitVec 16) (s : State) : Host.Outcome State Fault Refusal :=
  .next (s.withDescr fn.val index fun x =>
    match x.d.body with
    | .setpoint c q v =>
      match x.staged with
      | some w => s.complete fn.val x .ok 0 w 0
      | none =>
        if s.activeOrSolo then (s.putSetpoint fn.val x.serial c q v).complete fn.val x .ok 0 s.snapVolley 0 else s.done fn.val x .standby
    | _ => s)

/-- EMERGENCY_BLOCK: the decision at once; a standby takes it into its own mask (R281, R286). One that was verified before its function was
reset stands: it acts, and nothing completes (R377). -/
def execEmergencyBlock (fn : Fin 256) (index : BitVec 16) (s : State) : Host.Outcome State Fault Refusal :=
  let f := fn.val
  .next (match (s.fn f).standing.find? (fun x => x.index == index.toNat) with
  | some x =>
    match x.d.body with
    | .emergencyBlock m => (s.setFn f (fun h => { h with standing := h.standing.erase x })).blockDecision [⟨5, m, none⟩]
    | _ => s
  | none => s.withDescr f index fun x =>
    match x.d.body with
    | .emergencyBlock m =>
      let new := m &&& ~~~BitVec.ofNat 8 (s.rd Fld.LPW_BLK_STAT_BLOCKED)
      let s := s.blockDecision [⟨5, m, none⟩]
      s.done f x (if s.activeOrSolo then .ok else .okStandby) new.toNat
    | _ => s)

/-- POINT_WRITE: the write joins the cell's queue, and its outcome comes later. -/
def execPointWrite (fn : Fin 256) (index : BitVec 16) (s : State) : Host.Outcome State Fault Refusal :=
  .next (s.withDescr fn.val index fun x =>
    match x.d.body with
    | .pointWrite c p v =>
      if ¬ s.activeOrSolo then s.done fn.val x .standby
      else
        let w : PostedWrite := { fn := fn.val, tag := x.d.tag, own := false, orphan := false, point := p, value := v }
        let held := (s.cell c).queue.length + (match (s.cell c).out with | some o => if o.w.own then 0 else 1 | none => 0)
        if 4 ≤ held then s.done fn.val x .busy 0 16
        else if (s.cell c).lstate.admitted? then
          ((s.setCell c (fun y => { y with queue := y.queue ++ [w] })).startWrite c).done fn.val x .ok
        else (s.done fn.val x .ok).writeFailed c w 7
    | _ => s)

/-! ### Configuration class (R192, R217, R288, R63, R547) -/

/-- CFG_DMEM: words through the second port of an engine's data memory. -/
def execCfgDmem (fn : Fin 256) (index : BitVec 16) (s : State) : Host.Outcome State Fault Refusal :=
  .next (s.withDescr fn.val index fun x =>
    match x.d.body with
    | .cfgDmem e a ws =>
      let s := (List.range ws.length).foldl (fun (s : State) i => s.putMem e (a + i) (ws.getD i 0)) s
      s.done fn.val x .ok ws.length
    | _ => s)

/-- CE_LOAD: RANGE for an engine neither SPARE nor LOADED and for a container that fails R216 or R217 (R217; log 147); NOFIT by R213. -/
def execCeLoad (fn : Fin 256) (index : BitVec 16) (s : State) : Host.Outcome State Fault Refusal :=
  .next (s.withDescr fn.val index fun x =>
    match x.d.body with
    | .ceLoad e c =>
      if ¬ s.mayLoad e c then s.done fn.val x .range 0 28
      else
        let (s, ok) := s.loadContainer e c
        if ok then s.done fn.val x .ok (s.engState e) else s.done fn.val x .nofit
    | _ => s)

/-- CELL_CTL with its ACTION: on a module that is not active the link records alone change. -/
def State.cellCtl (s : State) (f : Nat) (index : BitVec 16) (want : Nat) : State :=
  s.withDescr f index fun x =>
    match x.d.body with
    | .cellCtl c a =>
      if a ≠ want then s
      else
        let held := decide ((s.cell c).lstate ≠ .free)
        let send := fun (m : Mgmt) (s : State) => if held ∧ s.activeOrSolo then s.due (c / 128) (.mgmt m) else s
        if a = 0 then (send (.release (c % 128)) (if held then s.freeCell c else s)).done f x .ok
        else (send (.resume (c % 128)) s).done f x .ok
    | _ => s

def execCellCtlRelease (fn : Fin 256) (index : BitVec 16) (s : State) : Host.Outcome State Fault Refusal := .next (s.cellCtl fn.val index 0)

def execCellCtlResume (fn : Fin 256) (index : BitVec 16) (s : State) : Host.Outcome State Fault Refusal := .next (s.cellCtl fn.val index 1)

/-- BLOCK_RELEASE: the release is requested; the descriptor completes at the boundary after the next tick A. -/
def execBlockRelease (fn : Fin 256) (index : BitVec 16) (s : State) : Host.Outcome State Fault Refusal :=
  .next (s.withDescr fn.val index fun x =>
    match x.d.body with
    | .blockRelease m => (s.requestRelease m).setProgress fn.val x.serial (.release (m &&& s.decidedNow))
    | _ => s)

/-- RESET: by the table of R63. -/
def execResetCmd (fn : Fin 256) (index : BitVec 16) (s : State) : Host.Outcome State Fault Refusal :=
  .next (s.withDescr fn.val index fun x =>
    match x.d.body with
    | .reset force =>
      match s.signedReset force (.cmdHost fn.val) with
      | none => s.done fn.val x .notPermitted
      | some t => t.done fn.val x .ok
    | _ => s)

/-- The flash a FW_STAGE piece goes to. -/
def State.stageFlash (s : State) (flash : Bool) : Nat := if s.rst.phase = .hold .recoveryStrap then (if flash then 1 else 0) else s.rst.primary

/-- Erase a staging area. -/
def State.eraseStaging (s : State) (fl : Nat) : State :=
  let s := s.setFlash fl (fun x => { x with staged := false, stagedLen := 0, staging := none, stagingKey := false })
  if fl = s.rst.primary then s.wr Fld.RST_FW_STAT_STAGED 0 else s

/-- A piece has been written; FINAL checks the staged image (R545). -/
def State.stagePiece (s : State) (f fl got : Nat) (final : Bool) (im : Image) : State × Status :=
  -- The image is as long as what has been received.
  let im : Image := { im with length := got }
  let s : State := ({ s with staging := some ⟨f, fl, got, s.nowTick⟩ }).setFlash fl (fun x => { x with stagedLen := got, staging := some im })
  if ¬ final then (s, .ok)
  else
    let s := s.endStaging
    let st := s.checkImage im
    if st = .ok then
      let s := s.setFlash fl (fun x => { x with staged := true, stagingKey := im.enc })
      let s := if fl = s.rst.primary then s.wr Fld.RST_FW_STAT_STAGED 1 else s
      ({ s with rst := { s.rst with recoveryDone := if s.rst.phase = .hold .recovery then some s.nowTick else none } }, .ok)
    else (s.eraseStaging fl, st)

/-- FW_STAGE by the cases of R547. -/
def execFwStage (fn : Fin 256) (index : BitVec 16) (s : State) : Host.Outcome State Fault Refusal :=
  let f := fn.val
  .next (s.withDescr f index fun x =>
    match x.d.body with
    | .fwStage off first final flash im =>
      let fl := s.stageFlash flash
      let other := match s.staging with | some g => g.owner != f | none => false
      let got := match s.staging with | some g => g.received | none => 0
      if other then s.done f x .busy
      else if ¬ first ∧ s.staging = none then s.done f x .notPermitted
      else if off ≠ (if first then 0 else got) then s.done f x .range 0 28
      else if 33554432 < off + x.d.bufLen then s.done f x .size 0 24
      else
        let s := if first then s.eraseStaging fl else s
        let (s, st) := s.stagePiece f fl (off + x.d.bufLen) final im
        s.done f x st
    | _ => s)

end Sys2Proof.Machine
end

