-- ==== Sys2Proof/Machine/Irq.lean ====
section
/-! DEFINITION. The interrupt hub (R491 to R497): the input lines, pending sources, candidates, claims and their end,
vectored entry, and auto-masking. -/

namespace Sys2Proof.Machine

def State.irqCore (s : State) (t : Nat) : IrqCore := FMap.get IrqCore.reset s.irqCores t
def State.setIrqCore (s : State) (t : Nat) (f : IrqCore → IrqCore) : State :=
  { s with irqCores := FMap.modify IrqCore.reset s.irqCores t f }

/-! ### Input lines (R491, R520) -/

/-- A listed register value is a W1C flag. -/
def flagKey (k : Nat) : Bool :=
  match findReg regTable (k / 32) with
  | some (d, i, j) => d.fields.any (fun f => decide (f.acc = .w1c ∧ (f.fld i j).lsb = k % 32))
  | none => false

/-- A unit's interrupt line: some event flag of the unit is 1 (R520). -/
def State.unitLine (s : State) (u : Nat) : Bool :=
  s.regs.any (fun p => p.2 != 0 && (unitOf ⟨p.1 / 32, p.1 % 32, 1, 0⟩ == u) && flagKey p.1)

/-- The source is internal: it has no input line (R492). -/
def internalSource (n : Nat) : Bool := n == 1 || (256 ≤ n && n ≤ 279) || (288 ≤ n && n ≤ 315)

/-- The source exists in the list of R491. -/
def knownSource (n : Nat) : Bool :=
  n == 0 || internalSource n || (2 ≤ n && n ≤ 20) || (32 ≤ n && n ≤ 251) || (512 ≤ n && n ≤ 767)

/-- The input line of a source. -/
def State.irqLine (s : State) (n : Nat) : Bool :=
  if 2 ≤ n ∧ n ≤ 20 then s.unitLine (n - 2)
  else if 32 ≤ n ∧ n ≤ 159 then s.unitLine (100 + (n - 32))
  else if 160 ≤ n ∧ n ≤ 191 then s.unitLine (300 + (n - 160))
  else if 192 ≤ n ∧ n ≤ 251 then
    decide (s.rd (Fld.IRQ_EQ_CFG_THRESH (n - 192)) ≤ s.rd (Fld.IRQ_EQ_STAT_FILL (n - 192))) || s.flag (Fld.IRQ_EQ_STAT_OVR (n - 192))
  else if 512 ≤ n ∧ n ≤ 767 then
    s.flag (Fld.HIF_FN_STAT_ERROR (n - 512)) || s.flag (Fld.HIF_FN_STAT_DB_ERR (n - 512)) ||
      s.flag (Fld.HIF_FN_STAT_ACC_ERR (n - 512)) || s.flag (Fld.HIF_FN_STAT_EVT_OVF (n - 512))
  else false

/-- The input is at its active level (POL; STAT.RAW). -/
def State.irqRaw (s : State) (n : Nat) : Bool :=
  !internalSource n && knownSource n && n != 0 && (s.irqLine n != s.flag (Fld.IRQ_SRC_CFG_POL n))

/-! ### Pending sources (R492) -/

/-- The pending bit of a source is set, and counted in its 1 ms window (R497). -/
def State.irqPend (s : State) (n : Nat) : State :=
  if s.flag (Fld.IRQ_SRC_STAT_PENDING n) then s else
  let w := (s.base 3).count / 1000000
  let s := s.wr (Fld.IRQ_SRC_STAT_PENDING n) 1
  { s with irqRates := FMap.modify IrqRate.reset s.irqRates n (fun r => if r.win = w then { r with n := r.n + 1 } else ⟨w, 1⟩) }

/-- IRQ_SOURCE_PENDING: the input of a source meets its sensing mode. -/
def execIrqSourcePending (source : Fin 1024) (s : State) : Host.Outcome State Fault Refusal :=
  let n := source.val
  let pend := s.flag (Fld.IRQ_SRC_STAT_PENDING n)
  let act := s.flag (Fld.IRQ_SRC_STAT_ACTIVE n)
  let mode := s.rd (Fld.IRQ_SRC_CFG_MODE n)
  if internalSource n ∨ ¬ knownSource n ∨ n = 0 then .next s
  else if mode = 0 then .next (if s.irqRaw n ∧ ¬ pend ∧ ¬ act then s.irqPend n else s)
  else if mode = 1 then .next (if s.irqRaw n ∧ ¬ act then s.irqPend n else s)
  else if mode = 2 ∧ s.irqLine n = s.flag (Fld.IRQ_SRC_CFG_POL n) then .next s
  else .next (if pend then s.bump (Fld.IRQ_SRC_STAT_LOST n) else s.irqPend n)

/-- IRQ_SWI: a write of t makes source 288 + t pending; above 27 it is ignored. -/
def execIrqSwi (core : Fin 28) (value : Reg32) (s : State) : Host.Outcome State Fault Refusal :=
  let _ := core
  .next (if value.toNat ≤ 27 then s.irqPend (288 + value.toNat) else s)

/-! ### Candidates (R493) -/

/-- Priority of a source: that of 256 to 279 is SCH_CFG.PRE_PRI (R504). -/
def State.irqPri (s : State) (n : Nat) : Nat :=
  if 256 ≤ n ∧ n ≤ 279 then s.rd Fld.SCH_CFG_PRE_PRI else s.rd (Fld.IRQ_SRC_CFG_PRI n)

/-- A source is pending: its bit, or in MODE 1 the active level of its input while it is not active (R492, R494). -/
def State.irqPending (s : State) (n : Nat) : Bool :=
  if !internalSource n && s.rd (Fld.IRQ_SRC_CFG_MODE n) == 1 then s.irqRaw n && !s.flag (Fld.IRQ_SRC_STAT_ACTIVE n)
  else s.flag (Fld.IRQ_SRC_STAT_PENDING n)

/-- The conditions of R493 on a source for core `t`. -/
def State.irqEligible (s : State) (t n : Nat) : Bool :=
  s.irqPending n && s.flag (Fld.IRQ_SRC_CFG_EN n) && !s.flag (Fld.IRQ_SRC_STAT_ACTIVE n) && bitOf (s.rd (Fld.IRQ_SRC_TGT_TGT n)) t &&
    (match (s.irqCore t).stack with
     | [] => true
     | top :: _ => decide (top.1 < s.irqPri n))

/-- The candidate of core `t`: highest priority, then lowest number. -/
def State.irqCandidate (s : State) (t : Nat) : Option Nat :=
  (List.range 1024).foldl (fun (best : Option Nat) n =>
    if s.irqEligible t n then
      match best with
      | none => some n
      | some b => if s.irqPri b < s.irqPri n then some n else best
    else best) none

/-! ### Claim and end of interrupt (R494 to R496) -/

/-- IRQ_RUNPRI (R484): [4:0] the stack's depth, [8:5] its top priority, [18:9] its top source. -/
def State.irqRunpri (s : State) (t : Nat) : Nat :=
  let top := (s.irqCore t).stack.headD (0, 0)
  (s.irqCore t).stack.length + top.1 * 32 + top.2 * 512

/-- IRQ_COREt follows the core's stack. -/
def State.showIrqCore (s : State) (t : Nat) : State :=
  let top := (s.irqCore t).stack.headD (0, 0)
  s.wrs [(Fld.IRQ_CORE_DEPTH t, (s.irqCore t).stack.length), (Fld.IRQ_CORE_TOP_PRI t, top.1), (Fld.IRQ_CORE_TOP_SRC t, top.2)]

/-- Claim source `n` for core `t`: pending clears, active sets, (PRI, SOURCE) is pushed. -/
def State.irqTake (s : State) (t n : Nat) : State :=
  let p := s.irqPri n
  let s := s.wrs [(Fld.IRQ_SRC_STAT_PENDING n, 0), (Fld.IRQ_SRC_STAT_ACTIVE n, 1), (Fld.IRQ_SRC_STAT_CORE n, t)]
  (s.setIrqCore t (fun k => { k with stack := (p, n) :: k.stack })).showIrqCore t

/-- What a read of IRQ_CLAIM returns: [9:0] SOURCE, [13:10] PRI, [31] NONE. -/
def claimWord (pri : Nat) (n : Nat) : Nat := n + pri * 1024

/-- IRQ_CLAIM: the core reads the claim register. -/
def execIrqClaim (core : Fin 28) (s : State) : Host.Outcome State Fault Refusal :=
  let t := core.val
  match s.irqCandidate t with
  | some n => .next ((s.irqTake t n).setIrqCore t (fun k => { k with claim := claimWord (s.irqPri n) n }))
  | none => .next (s.setIrqCore t (fun k => { k with claim := 2 ^ 31 }))

/-- VECTORED_ENTRY: the core takes its trap; a candidate with VEC_EN is claimed and gives the vector. -/
def execVectoredEntry (core : Fin 28) (s : State) : Host.Outcome State Fault Refusal :=
  let t := core.val
  match s.irqCandidate t with
  | some n =>
    if s.flag (Fld.IRQ_SRC_CFG_VEC_EN n) then
      .next ((s.irqTake t n).setIrqCore t (fun k => { k with
        claimed := claimWord (s.irqPri n) n, entry := some (s.rd (Fld.IRQ_SRC_VEC_LO_ADDR n) + s.rd (Fld.IRQ_SRC_VEC_HI_ADDR n) * 2 ^ 32) }))
    else .next (s.setIrqCore t (fun k => { k with entry := none }))
  | none => .next (s.setIrqCore t (fun k => { k with entry := none }))

/-- End of interrupt of source `n` on core `t` (R495). -/
def State.irqEnd (s : State) (t n : Nat) : State :=
  match (s.irqCore t).stack with
  | (_, top) :: rest =>
    if top = n then ((s.wr (Fld.IRQ_SRC_STAT_ACTIVE n) 0).setIrqCore t (fun k => { k with stack := rest })).showIrqCore t
    else s.raise Fld.IRQ_EVT_EOI_MISMATCH n
  | [] => s.raise Fld.IRQ_EVT_EOI_MISMATCH n

/-- IRQ_EOI. -/
def execIrqEoi (core : Fin 28) (source : BitVec 10) (s : State) : Host.Outcome State Fault Refusal :=
  .next (s.irqEnd core.val source.toNat)

/-! ### Storms (R497) -/

/-- A source is auto-masked. -/
def State.irqMask (s : State) (n : Nat) (stuck : Bool) : State :=
  let s := s.wrs [(Fld.IRQ_SRC_CFG_EN n, 0), (if stuck then Fld.IRQ_SRC_STAT_M_STUCK n else Fld.IRQ_SRC_STAT_M_RATE n, 1)]
  ((s.wrBit (Fld.IRQ_STORMED_SRC (n / 32)) (n % 32) true).raise Fld.IRQ_EVT_STORM n).irqPend 1

/-- IRQ_STORM_MASK: `stuck` when the active level of the source has lasted longer than STUCK_MS; else its pending bit was set
more than RATE_CAP times in the present window. -/
def execIrqStormMask (source : Fin 1024) (stuck : Bool) (s : State) : Host.Outcome State Fault Refusal :=
  let n := source.val
  let r := FMap.get IrqRate.reset s.irqRates n
  let past := decide (r.win = (s.base 3).count / 1000000 ∧ s.rd Fld.IRQ_STORM_RATE_CAP < r.n)
  let held := decide (s.rd (Fld.IRQ_SRC_CFG_MODE n) ≤ 1) && s.irqRaw n
  .next (if n ≠ 1 ∧ s.flag (Fld.IRQ_SRC_CFG_EN n) ∧ s.flag (Fld.IRQ_SRC_CFG_STORM_EN n) ∧ (if stuck then held else past) = true
    then s.irqMask n stuck else s)

/-- A write of EN = 1 clears the masking and starts the count again. -/
def State.irqEnabled (s : State) (n : Nat) : State :=
  let s := s.wrs [(Fld.IRQ_SRC_STAT_M_STUCK n, 0), (Fld.IRQ_SRC_STAT_M_RATE n, 0)]
  let s := s.wrBit (Fld.IRQ_STORMED_SRC (n / 32)) (n % 32) false
  { s with irqRates := FMap.set IrqRate.reset s.irqRates n IrqRate.reset }

end Sys2Proof.Machine
end

