-- ==== Sys2Proof/Machine/Scheduler.lean ====
section
/-! DEFINITION. The task scheduler of the application cores (R485 to R490, R504, R505, R529). -/

namespace Sys2Proof.Machine

/-! ### Tasks and cores (R485) -/

def State.task (s : State) (t : Nat) : Task := FMap.get Task.reset s.sch.tasks t
def State.setTask (s : State) (t : Nat) (f : Task → Task) : State :=
  { s with sch := { s.sch with tasks := FMap.modify Task.reset s.sch.tasks t f } }
def State.readyList (s : State) (p : Nat) : List Nat := FMap.get [] s.sch.ready p
def State.setReady (s : State) (p : Nat) (f : List Nat → List Nat) : State :=
  { s with sch := { s.sch with ready := FMap.modify [] s.sch.ready p f } }

/-- The idle task of a core. -/
def idleTask (c : Nat) : Nat := 4072 + c

/-- STATE of a task: 0 FREE, 1 DORMANT, 2 READY, 3 RUNNING, 4 DELAYED, 5 WAITING, 6 WAIT_TMO. -/
def State.taskState (s : State) (t : Nat) : Nat := s.rd (Fld.SCH_TASK_CFG_STATE t)
def State.taskPri (s : State) (t : Nat) : Nat := s.rd (Fld.SCH_TASK_CFG_PRI t)
def State.running (s : State) (c : Nat) : Nat := s.rd (Fld.SCH_CORE_RUN c)
def State.idle (s : State) (c : Nat) : Bool := s.flag (Fld.SCH_CORE_IDLE c)

/-- The core is fenced (R529). -/
def State.coreFenced (s : State) (c : Nat) : Bool := bitOf (s.rd Fld.HKP_FENCE_APC_CORES) c

/-! ### Selection and slots (R486, R487) -/

/-- The slot of a core. -/
def State.slotOf (s : State) (c : Nat) : Option Nat :=
  if s.flag (Fld.SCH_CORE_SLOT_VALID c) then some (s.rd (Fld.SCH_CORE_SLOT c)) else none

/-- A task sits in the slot of a core other than `c`. -/
def State.slottedElsewhere (s : State) (c t : Nat) : Bool :=
  (List.range 24).any (fun d => d != c && decide (s.slotOf d = some t))

/-- Among the tasks of one ready list that may run on core `c`: the oldest whose LAST is c and that is young enough, else
the oldest. -/
def State.selectAt (s : State) (c : Nat) (ok : Nat → Bool) (l : List Nat) : Option Nat :=
  let e := l.filter (fun t => bitOf (s.rd (Fld.SCH_TASK_AFF_AFF t)) c && ok t)
  let young := fun t => s.rd (Fld.SCH_TASK_CFG_LAST t) == c && decide (s.nowTick - (s.task t).readyAt < s.rd Fld.SCH_CFG_AFF_WAIT_US * 800)
  match e.find? young with
  | some t => some t
  | none => e.head?

/-- The selection of R486 for core `c` among the ready tasks that satisfy `ok`. -/
def State.selectFor (s : State) (c : Nat) (ok : Nat → Bool) : Option Nat :=
  if ¬ s.flag Fld.SCH_CFG_EN ∨ s.coreFenced c then none else
  (List.range 32).foldl (fun (best : Option Nat) p =>
    match s.selectAt c ok (s.readyList p) with
    | some t => some t
    | none => best) none

/-- Put a task into a core's slot, or empty it; whether its context has been loaded by the time anyone looks is open. -/
def State.putSlot (s : State) (c : Nat) (t : Option Nat) : State :=
  if s.slotOf c = t then s else
  let s := match s.slotOf c with
    | some o => s.wr (Fld.SCH_TASK_CFG_SLOTTED o) 0
    | none => s
  match t with
  | some t =>
    let (b, s) := s.freeBit
    s.wrs [(Fld.SCH_CORE_SLOT c, t), (Fld.SCH_CORE_SLOT_VALID c, 1), (Fld.SCH_CORE_SLOT_LOADED c, if b then 1 else 0), (Fld.SCH_TASK_CFG_SLOTTED t, 1)]
  | none => s.wrs [(Fld.SCH_CORE_SLOT c, 0), (Fld.SCH_CORE_SLOT_VALID c, 0), (Fld.SCH_CORE_SLOT_LOADED c, 0)]

/-- A slot whose task is no longer READY is emptied. -/
def State.dropSlots (s : State) (t : Nat) : State :=
  (List.range 24).foldl (fun s c => if s.slotOf c = some t then s.putSlot c none else s) s

/-- Every slot holds the task R486 gives its core next. -/
def State.reslot (s : State) : State :=
  (List.range 24).foldl (fun s c => s.putSlot c (s.selectFor c (fun t => !s.slottedElsewhere c t))) s

/-! ### Becoming ready (R490) -/

/-- The core on which a task that becomes READY preempts: idle first, then the lowest running priority, then LAST, then the
lowest number. -/
def State.preemptCore (s : State) (t : Nat) : Option Nat :=
  let rank := fun c => (if s.idle c then 0 else 1 + s.rd (Fld.SCH_CORE_RUN_PRI c)) * 2 + (if s.rd (Fld.SCH_TASK_CFG_LAST t) = c then 0 else 1)
  (List.range 24).foldl (fun (best : Option Nat) c =>
    if bitOf (s.rd (Fld.SCH_TASK_AFF_AFF t)) c ∧ ¬ s.coreFenced c ∧ (s.idle c ∨ s.rd (Fld.SCH_CORE_RUN_PRI c) < s.taskPri t) then
      match best with
      | none => some c
      | some b => if rank c < rank b then some c else best
    else best) none

/-- TASK_READY_PLACE: the task goes to a core's slot and the core's preemption source becomes pending. -/
def State.placeReady (s : State) (t : Nat) : State :=
  if ¬ s.flag Fld.SCH_CFG_EN then s else
  match s.preemptCore t with
  | none => s
  | some c =>
    let keep := match s.slotOf c with
      | some o => decide (s.taskPri t ≤ s.taskPri o)
      | none => false
    (if keep then s else s.putSlot c (some t)).irqPend (256 + c)

/-- A task leaves the ready and delay lists and the slots. -/
def State.unlist (s : State) (t : Nat) : State :=
  let s := (s.setReady (s.taskPri t) (·.filter (· != t))).dropSlots t
  { s with sch := { s.sch with us := s.sch.us.filter (·.2 != t), vol := s.sch.vol.filter (·.2 != t) } }

/-- A task becomes READY at the tail of its list. -/
def State.becomeReady (s : State) (t : Nat) : State :=
  let now := s.nowTick
  let s := (s.unlist t).setTask t (fun k => { k with readyAt := now })
  let s := (s.wrs [(Fld.SCH_TASK_CFG_STATE t, 2), (Fld.SCH_TASK_WAKE_TICK t, 0)]).setReady (s.taskPri t) (· ++ [t])
  (s.placeReady t).reslot

/-! ### Switching (R487, R488) -/

/-- A command's result: [0] OK, [3:1] CODE, [15:4] the task concerned, [23:16] its NOTE. -/
def State.schResult (s : State) (c code t : Nat) : State :=
  let v := (if code = 0 then 1 else 0) + code * 2 + t * 16 + s.rd (Fld.SCH_TASK_CFG_NOTE t) * 2 ^ 16
  { s with sch := { s.sch with result := FMap.set 0 s.sch.result c v } }

/-- Core `c` runs task `t`: the command it waits for returns. -/
def State.runTask (s : State) (c t : Nat) : State :=
  let s := (s.unlist t).wrs [(Fld.SCH_TASK_CFG_STATE t, 3), (Fld.SCH_TASK_CFG_LAST t, c), (Fld.SCH_CORE_RUN c, t),
    (Fld.SCH_CORE_RUN_PRI c, s.taskPri t), (Fld.SCH_CORE_IDLE c, 0)]
  match (s.task t).ret with
  | some code => (s.setTask t (fun k => { k with ret := none })).schResult c code t
  | none => s

/-- Core `c` runs its idle task. -/
def State.runIdle (s : State) (c : Nat) : State :=
  s.wrs [(Fld.SCH_CORE_RUN c, idleTask c), (Fld.SCH_CORE_RUN_PRI c, 0), (Fld.SCH_CORE_IDLE c, 1)]

/-- A core runs the task it has taken; with none it takes one from another core's slot, counted as a steal; with none at all
it runs its idle task. -/
def State.switchTo (s : State) (c : Nat) (take : Option Nat) : State :=
  let was := s.running c
  let s := match take with
    | some t => s.runTask c t
    | none =>
      match s.selectFor c (fun _ => true) with
      | some t => (s.runTask c t).bump Fld.SCH_CNT_STEAL_CNT
      | none => s.runIdle c
  (if s.running c = was then s else s.bump Fld.SCH_CNT_SWITCH_CNT).reslot

/-- The task a core that must switch takes (R487): its slot task; with none, a task that sits in no other core's slot. -/
def State.nextTask (s : State) (c : Nat) : Option Nat :=
  if s.flag Fld.SCH_CFG_EN ∧ ¬ s.coreFenced c then
    match s.slotOf c with
    | some t => some t
    | none => s.selectFor c (fun t => !s.slottedElsewhere c t)
  else none

def State.switch (s : State) (c : Nat) : State := s.switchTo c (s.nextTask c)

/-- SCH_SELF (R484): [11:0] the current task, [16:12] its priority. -/
def State.schSelf (s : State) (c : Nat) : Nat := s.running c + s.rd (Fld.SCH_CORE_RUN_PRI c) * 4096

/-! ### Commands (R488, R490) -/

/-- CODE 2: no effect but the flag and the result. -/
def State.badOp (s : State) (c : Nat) (t : Nat) : State := (s.raise Fld.SCH_EVT_BAD_OP c).schResult c 2 t

/-- A switching command is accepted: not from the idle task, not from a handler. -/
def State.switching (s : State) (c : Nat) (high : BitVec 23) (bad : Bool) (k : Nat → State → State) : State :=
  let t := s.running c
  if high ≠ 0 ∨ bad ∨ s.idle c then s.badOp c t
  else if (s.irqCore c).stack ≠ [] then (s.raise Fld.SCH_EVT_REFUSED_IN_IRQ c).schResult c 3 t
  else k t s

/-- YIELD. -/
def execSchYield (core : Fin 24) (task : BitVec 12) (list : Bool) (arg : BitVec 24) (high : BitVec 23) (s : State) :
    Host.Outcome State Fault Refusal :=
  let _ := (task, list, arg)
  .next (s.switching core high false fun t s =>
    let now := s.nowTick
    let s := (s.wr (Fld.SCH_TASK_CFG_STATE t) 2).setTask t (fun k => { k with ret := some 0, readyAt := now })
    let s := s.setReady (s.taskPri t) (· ++ [t])
    s.switchTo core (s.selectFor core (fun t => !s.slottedElsewhere core t)))

/-- Insert into a delay list by wake tick, then task number (R489). -/
def delayInsert (w t : Nat) : List (Nat × Nat) → List (Nat × Nat)
  | [] => [(w, t)]
  | p :: l => if w < p.1 ∨ (w = p.1 ∧ t < p.2) then (w, t) :: p :: l else p :: delayInsert w t l

/-- The present tick of a delay list: TB3 microseconds, or volley boundaries. -/
def State.listNow (s : State) (volley : Bool) : Nat := if volley then s.sch.volleys else (s.base 3).count / 1000

/-- The task enters a delay list for `n` ticks. -/
def State.delayTask (s : State) (t n : Nat) (volley : Bool) : State :=
  let w := s.listNow volley + n
  let s := s.wr (Fld.SCH_TASK_WAKE_TICK t) w
  if volley then { s with sch := { s.sch with vol := delayInsert w t s.sch.vol } }
  else { s with sch := { s.sch with us := delayInsert w t s.sch.us } }

/-- DELAY for ARG ticks, 1 to 2^24 - 1. -/
def execSchDelay (core : Fin 24) (task : BitVec 12) (list : Bool) (arg : BitVec 24) (high : BitVec 23) (s : State) :
    Host.Outcome State Fault Refusal :=
  let _ := task
  .next (s.switching core high (decide (arg = 0)) fun t s =>
    (((s.wr (Fld.SCH_TASK_CFG_STATE t) 4).setTask t (fun k => { k with ret := some 0 })).delayTask t arg.toNat list).switch core)

/-- WAIT: take a note, or wait for a signal with or without timeout. -/
def execSchWait (core : Fin 24) (task : BitVec 12) (list : Bool) (arg : BitVec 24) (high : BitVec 23) (s : State) :
    Host.Outcome State Fault Refusal :=
  let _ := task
  let t := s.running core
  let n := s.rd (Fld.SCH_TASK_CFG_NOTE t)
  if high = 0 ∧ ¬ s.idle core ∧ 0 < n then .next ((s.wr (Fld.SCH_TASK_CFG_NOTE t) (n - 1)).schResult core 0 t)
  else .next (s.switching core high false fun t s =>
    let s := s.setTask t (fun k => { k with ret := some 1 })
    if arg = 0 then (s.wr (Fld.SCH_TASK_CFG_STATE t) 5).switch core
    else ((s.wr (Fld.SCH_TASK_CFG_STATE t) 6).delayTask t arg.toNat list).switch core)

/-- SIGNAL: TASK's note is incremented; a waiting task takes one and becomes READY with CODE 0. -/
def execSchSignal (core : Fin 24) (task : BitVec 12) (list : Bool) (arg : BitVec 24) (high : BitVec 23) (s : State) :
    Host.Outcome State Fault Refusal :=
  let _ := (list, arg)
  let t := task.toNat
  if high ≠ 0 ∨ s.taskState t ≤ 1 ∨ 4072 ≤ t then .next (s.badOp core t)
  else
    let n := s.rd (Fld.SCH_TASK_CFG_NOTE t)
    let s := if n = 255 then s.raise Fld.SCH_EVT_NOTE_SAT t else s.wr (Fld.SCH_TASK_CFG_NOTE t) (n + 1)
    let s := if s.taskState t = 5 ∨ s.taskState t = 6 then
        let s := (s.wr (Fld.SCH_TASK_CFG_NOTE t) (s.rd (Fld.SCH_TASK_CFG_NOTE t) - 1)).setTask t (fun k => { k with ret := some 0 })
        s.becomeReady t
      -- A timeout in the same tick gives way to the signal (R489).
      else if s.taskState t = 2 ∧ (s.task t).ret = some 1 ∧ (s.task t).readyAt = s.nowTick then
        (s.wr (Fld.SCH_TASK_CFG_NOTE t) (s.rd (Fld.SCH_TASK_CFG_NOTE t) - 1)).setTask t (fun k => { k with ret := some 0 })
      else s
    .next (s.schResult core 0 t)

/-- EXIT: the current task becomes DORMANT. -/
def execSchExit (core : Fin 24) (task : BitVec 12) (list : Bool) (arg : BitVec 24) (high : BitVec 23) (s : State) :
    Host.Outcome State Fault Refusal :=
  let _ := (task, list, arg)
  .next (s.switching core high false fun t s => (s.wr (Fld.SCH_TASK_CFG_STATE t) 1).switch core)

/-- The priority of a task changes at once; a READY task moves to the tail of its new list. -/
def State.setPri (s : State) (t p : Nat) : State :=
  if s.taskState t = 2 then
    let s := (s.unlist t).wr (Fld.SCH_TASK_CFG_PRI t) p
    s.becomeReady t
  else
    let s := s.wr (Fld.SCH_TASK_CFG_PRI t) p
    (List.range 24).foldl (fun s c => if s.running c = t then s.wr (Fld.SCH_CORE_RUN_PRI c) p else s) s

/-- PRIO: own priority = ARG[4:0]. -/
def execSchPrio (core : Fin 24) (task : BitVec 12) (list : Bool) (arg : BitVec 24) (high : BitVec 23) (s : State) :
    Host.Outcome State Fault Refusal :=
  let _ := (task, list)
  let t := s.running core
  if high ≠ 0 ∨ s.idle core then .next (s.badOp core t)
  else .next ((s.setPri t (arg.toNat % 32)).schResult core 0 t)

/-- PREEMPT: ends the core's own preemption interrupt; a slot task of higher priority runs in place of the current one, which
goes to the head of its list unless it is idle. -/
def execSchPreempt (core : Fin 24) (task : BitVec 12) (list : Bool) (arg : BitVec 24) (high : BitVec 23) (s : State) :
    Host.Outcome State Fault Refusal :=
  let _ := (task, list, arg)
  let c := core.val
  let t := s.running c
  let own : Bool := match (s.irqCore c).stack with
    | [top] => top.2 == 256 + c
    | _ => false
  if high ≠ 0 then .next (s.badOp c t)
  else if ¬ own then .next (s.schResult c 3 t)
  else
    let s := s.irqEnd c (256 + c)
    let better : Bool := match s.slotOf c with
      | some n => s.idle c || decide (s.taskPri t < s.taskPri n)
      | none => false
    match better, s.slotOf c with
    | true, some n =>
      let now := s.nowTick
      let s := if s.idle c then s else
        ((s.wr (Fld.SCH_TASK_CFG_STATE t) 2).setTask t (fun k => { k with ret := some 0, readyAt := now })).setReady (s.taskPri t) (t :: ·)
      .next ((((s.runTask c n).bump Fld.SCH_CNT_SWITCH_CNT).bump Fld.SCH_CNT_PREEMPT_CNT).reslot)
    | _, _ => .next (s.schResult c 0 t)

/-- DELAY_WAKE (R489): the tasks of a delay list whose wake tick has come become READY in order. -/
def execDelayWake (volley : Bool) (s : State) : Host.Outcome State Fault Refusal :=
  let now := s.listNow volley
  let due := (if volley then s.sch.vol else s.sch.us).filter (fun p => decide (p.1 ≤ now))
  .next (due.foldl (fun s p => s.becomeReady p.2) s)

/-! ### SCH registers (R504, R505) -/

/-- A write to a task's registers that is refused (R9). -/
def State.schRefuse (s : State) (t : Nat) : State := s.raise Fld.SCH_EVT_INVALID_WR t

/-- START: DORMANT to READY. -/
def State.taskStart (s : State) (t : Nat) : State :=
  if 4072 ≤ t ∨ s.taskState t ≠ 1 then s.schRefuse t else s.becomeReady t

/-- STOP: a configured task that does not run becomes DORMANT. -/
def State.taskStop (s : State) (t : Nat) : State :=
  if 4072 ≤ t ∨ s.taskState t = 3 ∨ s.taskState t = 0 then s.schRefuse t
  else (((s.unlist t).wrs [(Fld.SCH_TASK_CFG_STATE t, 1), (Fld.SCH_TASK_WAKE_TICK t, 0)]).setTask t (fun k => { k with ret := none })).reslot

/-- A write of SCH_TASKt_CFG: priority, and CONFIGURED between FREE and DORMANT. -/
def State.taskCfg (s : State) (t pri : Nat) (configured : Bool) : State :=
  let st := s.taskState t
  if 4072 ≤ t ∨ (¬ configured ∧ 2 ≤ st) then s.schRefuse t
  else
    let s := s.wrs [(Fld.SCH_TASK_CFG_CONFIGURED t, if configured then 1 else 0),
      (Fld.SCH_TASK_CFG_STATE t, if configured ∧ st = 0 then 1 else if ¬ configured then 0 else st)]
    if s.taskPri t = pri then s else s.setPri t pri

/-- A write of SCH_TASKt_AFF; 0 is refused. -/
def State.taskAff (s : State) (t aff : Nat) : State :=
  if 4072 ≤ t ∨ aff = 0 then s.schRefuse t else (s.wr (Fld.SCH_TASK_AFF_AFF t) aff).reslot

def execTaskStart (u : Core) (task : Fin 4096) (s : State) : Host.Outcome State Fault Refusal :=
  .next (s.asWriter u 15 (fun s => s.taskStart task))

def execTaskStop (u : Core) (task : Fin 4096) (s : State) : Host.Outcome State Fault Refusal :=
  .next (s.asWriter u 15 (fun s => s.taskStop task))

def execTaskConfigure (u : Core) (task : Fin 4096) (pri : BitVec 5) (configured : Bool) (s : State) : Host.Outcome State Fault Refusal :=
  .next (s.asWriter u 15 (fun s => s.taskCfg task pri.toNat configured))

/-- SCH_CTL.CNT_CLR. -/
def State.schCntClear (s : State) : State :=
  s.wrs [(Fld.SCH_CNT_SWITCH_CNT, 0), (Fld.SCH_CNT_STEAL_CNT, 0), (Fld.SCH_CNT_PREEMPT_CNT, 0)]

def execSchCntClr (u : Core) (s : State) : Host.Outcome State Fault Refusal := .next (s.asWriter u 15 (fun s => s.schCntClear))

/-- A fenced core stops at once: its current task becomes DORMANT, its slot task goes back (R529). -/
def State.coreStops (s : State) (c : Nat) : State :=
  let s := if s.idle c then s else
    ((s.wr (Fld.SCH_TASK_CFG_STATE (s.running c)) 1).setTask (s.running c) (fun k => { k with ret := none })).runIdle c
  (s.putSlot c none).reslot

end Sys2Proof.Machine
end

