-- ==== Sys2Proof/Machine/Service.lean ====
section
/-! DEFINITION. In-service maintenance: lifting module fences, migration of an engine with errors, fenced application
cores, and the clear of the security counters (R406, R526 to R529). -/

namespace Sys2Proof.Machine

/-- A spoke's module fence is in force and its cause gone: the check of R169 passes, or a valid reading shows no fault. -/
def State.spokeHealed (s : State) (n : Nat) : Bool :=
  match (s.spoke n).fenceCause with
  | some 1 => (s.cellsOf n).all (fun p => p.2.ver != 1) || s.v1Fits n s.timeline
  | some 2 => s.flag (Fld.SPK_XCVR_B_VALID n) && !s.flag (Fld.SPK_XCVR_B_TX_FAULT n)
  | _ => false

/-- HKP_LIFT.GO (R527): the fence of the unit is lifted at the next boundary when its cause is gone. -/
def State.lift (s : State) (kind index : Nat) (testPassed : Bool) : State :=
  let no := s.raise Fld.HKP_SVC_EVT_LIFT_REFUSED index
  if kind = 0 then
    if index < 128 ∧ s.spokeHealed index then s.setSpoke index (fun p => { p with fenceWant := none }) else no
  else if kind = 1 then
    if index < 32 ∧ (s.eng index).fenceCause = some 4 then s.setEng index (fun g => { g with fenceWant := none }) else no
  else if index < 24 ∧ s.coreFenced index ∧ testPassed then { s with sch := { s.sch with lifting := index :: s.sch.lifting.filter (· != index) } }
  else no

/-- A write of HKP_LIFT with GO; `testPassed` is the outcome of MGC3's self-test of the core. KIND 3 is refused. -/
def execHkpLift (u : Core) (kind : BitVec 2) (index : BitVec 7) (testPassed : Bool) (s : State) : Host.Outcome State Fault Refusal :=
  .next (s.asWriter u 13 fun s =>
    if kind = 3 then s.raise Fld.HKP_SVC_EVT_INVALID_WR
    else (s.wrs [(Fld.HKP_LIFT_KIND, kind.toNat), (Fld.HKP_LIFT_INDEX, index.toNat)]).lift kind.toNat index.toNat testPassed)

/-- The lifts of core fences at a boundary, each with its KIND 2 record; the cores select again. -/
def State.applyLifts (s : State) : State :=
  let l := s.sch.lifting
  let s := l.foldl (fun s c => (s.wrBit Fld.HKP_FENCE_APC_CORES c false).logFence 15 c 5 false) s
  if l = [] then s else ({ s with sch := { s.sch with lifting := [] } } : State).reslot

/-- An engine's errors exceed the limits of R528. -/
def State.engineAiling (s : State) (e : Nat) : Bool :=
  decide (s.rd Fld.HKP_SVC_CFG_CE_CORR_LIMIT < (lastHour s.secondsNow (s.eng e).corrAt).length) ||
    decide (2 ≤ (lastHour s.secondsNow (s.eng e).ueccAt).length)

/-- AUTO_MIGRATION (R528): MGC3 starts the migration of an ailing ACTIVE engine to the lowest SPARE engine with its data, as a write of
CE_MIGn does (R218). -/
def execAutoMigration (engine : Fin 32) (s : State) : Host.Outcome State Fault Refusal :=
  let e := engine.val
  if s.flag Fld.HKP_SVC_CFG_AUTO_MIG ∧ s.engState e = 2 ∧ s.engineAiling e then
    match (List.range 32).find? (fun t => s.engState t == 0) with
    | none => .next (s.raise Fld.HKP_SVC_EVT_NO_SPARE_CE e)
    | some t =>
      let s := s.migWrite e t true true false
      .next (if s.engState e = 3 then (s.setEng e (fun g => { g with autoMig := true })).raise Fld.HKP_SVC_EVT_MIGRATE e
        else s.raise Fld.HKP_SVC_EVT_NO_SPARE_CE e)
  else .next s

/-- APC_FENCE (R526, R529): the core stops at once. -/
def execApcFence (core : Fin 24) (s : State) : Host.Outcome State Fault Refusal :=
  let c := core.val
  if s.coreFenced c then .next s
  else
    let s := s.wrBit Fld.HKP_FENCE_APC_CORES c true
    let s := ({ s with sch := { s.sch with lifting := s.sch.lifting.filter (· != c) } } : State)
    .next (((s.coreStops c).logFence 15 c 5 true).raise Fld.HKP_SVC_EVT_FENCE c)

/-- SEC_CTL.CNT_CLR (R406). -/
def State.secCntClear (s : State) : State :=
  s.wrs [(Fld.SEC_CNT_MACOK_CNT, 0), (Fld.SEC_CNT_MACFAIL_CNT, 0), (Fld.SEC_CNT_SIGOK_CNT, 0), (Fld.SEC_CNT_SIGFAIL_CNT, 0),
    (Fld.SEC_CNT_REPLAY_CNT, 0), (Fld.SEC_CNT_GRANTFAIL_CNT, 0), (Fld.SEC_CNT_OBJFAIL_CNT, 0)]

def execSecCntClr (u : Core) (s : State) : Host.Outcome State Fault Refusal := .next (s.asWriter u 9 fun s => s.secCntClear)

end Sys2Proof.Machine
end

