-- ==== Sys2Proof/Machine/Boundary.lean ====
section
/-! DEFINITION. The volley boundary (R25, R26): what is staged takes effect, the serves leave, and every rule that names
"the next volley boundary" acts. -/

namespace Sys2Proof.Machine

/-! ### Staged registers (R26, R145, R179, R186, R434) -/

/-- What is staged is committed together; a set that fails the checks is discarded whole (R145). The flag says that it
failed. -/
def State.commitStaged (s : State) : State × Bool :=
  if ¬ s.seqr.staged then (s, false)
  else
    let s : State := { s with seqr := { s.seqr with staged := false } }
    let t := s.stagedTimeline
    let u : State := { s with force := copyStaged s.regs s.force }
    if u.fits t then
      -- R169: version-1 cells that no longer fit fence their spoke.
      ((List.range 128).foldl (fun (u : State) n =>
        if (u.cellsOf n).any (fun p => p.2.ver == 1 && p.2.lstate.admitted?) ∧ ¬ u.v1Fits n t then u.fenceSpoke n 1 else u) u, false)
    else (({ s with regs := copyStaged s.force s.regs } : State).refuseFit u t, true)

/-- CFG_WRITEs that wrote staged registers complete (R367). -/
def State.completeStaged (s : State) (failed : Bool) : State :=
  s.fns.foldl (fun (s : State) f => (s.fn f).inflight.foldl (fun (s : State) x =>
    match x.at' with
    | .boundary n => if failed then s.done f x .nofit else s.done f x .ok n
    | _ => s) s) s

/-! ### Releases (R288, R369) -/

/-- BLOCK_RELEASEs whose converters have all been examined complete. -/
def State.completeReleases (s : State) : State :=
  let open' := BitVec.ofNat 8 (s.rd Fld.LPW_BLK_REL_REL)
  s.fns.foldl (fun (s : State) f => (s.fn f).inflight.foldl (fun (s : State) x =>
    match x.at', x.d.body with
    | .release refused, .blockRelease m =>
      if m &&& open' ≠ 0 then s
      else s.done f x (if refused = 0 then .ok else .releaseRefused) ((m &&& ~~~refused).toNat + refused.toNat * 256)
    | _, _ => s) s) s

/-! ### Spokes (R98, R102 to R105, R108) -/

/-- Version-1 cells whose serve no longer completes in time fence their spoke with code 1 (R169). -/
def State.v1Check (s : State) (n : Nat) : State :=
  if (s.cellsOf n).any (fun p => p.2.ver == 1 && p.2.lstate.admitted?) ∧ ¬ s.v1Fits n s.timeline then s.fenceSpoke n 1 else s

/-- A spoke enters Empty at a boundary; there PROBE_S = 0 keeps it so (R101). -/
def State.noteEmpty (s : State) (n : Nat) : State :=
  if s.spokeState n = .empty then
    s.setSpoke n (fun p => { p with empty := some (match p.empty with
      | none => if s.rd (Fld.SPK_CFG_PROBE_S n) = 0 then none else some s.nowTick
      | some x => if s.rd (Fld.SPK_CFG_PROBE_S n) = 0 then none else x) })
  else s.setSpoke n (fun p => { p with empty := none })

/-- A discovery round one volley later: it is over once its listening interval has ended (R133). -/
def State.roundOn (s : State) (n : Nat) : Option (Nat × Nat × Nat) :=
  match (s.spoke n).discOpen with
  | some (doff, r, age) => if s.listenEnd n doff r ≤ (age + 1) * (s.timeline.p10 * 1000) then none else some (doff, r, age + 1)
  | none => none

/-- Fences, restarts, an announced gear change, the sweep, a probe and a waiting RESTEP of a spoke. Sweeps run at every volley
number that is a multiple of 2^20 (DESIGN CHOICE, log 146). -/
def State.spokeAtBoundary (s : State) (n : Nat) : State :=
  let s := (s.v1Check n).applyFence n
  if ¬ s.flag (Fld.SPK_CFG_ENABLE n) then s
  else
    let s := if (s.spoke n).restart ∧ s.activeOrSolo ∧ s.mayServe ∧ ¬ s.flag (Fld.SPK_STAT_FENCED n) then s.bringUp n else s
    let p := s.spoke n
    let told := s.standby || s.tnd.taking || (match p.next with | some x => x.gcCnt != 0 | none => false)
    let round := s.roundOn n
    -- Boundary B + 1: the trial begins (R105).
    let s := if p.inB ∧ p.plan = none then s.wr (Fld.SPK_STAT_TRIAL n) 1 else s
    let s := s.setSpoke n (fun p => { p with
      inB := (match p.plan with | some (_, 0) => true | _ => false)
      plan := (match p.plan with | some (g, k + 1) => some (g, if told then k else k + 1) | other => other)
      trialAge := p.trialAge + 1, discAge := p.discAge + 1, lockedNow := false, discOpen := round
      -- A probe counts volleys (R101), a bring-up the DISC_OPENs whose round is over (R102).
      discCount := if p.probe = .probe ∨ (p.probe = .bringUp ∧ p.discOpen.isSome ∧ round.isNone) then p.discCount + 1 else p.discCount })
    let s := if s.flag (Fld.SPK_CFG_CTLE_AUTO n) ∧ s.rd Fld.VLY_NOW_VOLLEY % 2 ^ 20 = 0 then s.wr (Fld.SPK_STAT_SWEEP n) 1 else s
    (s.noteEmpty n).tryRestep n

/-- The spoke sends the strobe of this volley: an awake transmitter lit for 2.2 us, not fenced, not in volley B (R100, R104, R108,
R122). -/
def State.sendsStrobe (s : State) (n : Nat) : Bool :=
  s.flag (Fld.SPK_STAT_TX_AWAKE n) && s.litBy n s.nowTick && !s.flag (Fld.SPK_STAT_FENCED n) && !(s.spoke n).inB

/-- The strobe of the volley, and the block ordered sets due after it (R122). -/
def State.sendStrobe (s : State) (n : Nat) : State :=
  let v := s.rd Fld.VLY_NOW_VOLLEY
  let e := BitVec.ofNat 16 (s.rd Fld.VLY_NOW2_EPOCH)
  let os : OrderedSet := ⟨0x5A, e, BitVec.ofNat 8 (s.rd Fld.VLY_NOW2_SID_NOW), BitVec.ofNat 8 (v / 256), BitVec.ofNat 8 v⟩
  s.setSpoke n (fun p =>
    let lead := os :: p.blkRepeat.map (fun b => (⟨0xB1, e, b.1, ~~~b.1, b.2.1⟩ : OrderedSet))
    { p with osSent := lead, osLead := lead.length, osAt := [], blkLeave := none,
             blkRepeat := p.blkRepeat.filterMap (fun b => if b.2.2 ≤ 1 then none else some (b.1, b.2.1, b.2.2 - 1)) })

/-- The DISC_OPEN a serve carries: DOFF and R. -/
def Serve.offer (x : Serve) : Option (Nat × Nat) := x.mgmt.findSome? (fun m => match m with | .discOpen r doff => some (doff, r) | _ => none)

/-- What a serve that does not leave carried is due again, before everything else, but for POLLs, which are formed anew; a first
send that did not take place is none (R139; log 197). -/
def State.unsent (s : State) (n : Nat) : State :=
  match (s.spoke n).next with
  | none => s.setSpoke n (fun p => { p with sent := none, orders := [] })
  | some x =>
    let mgmt := x.mgmt.filter (fun m => match m with | .poll .. => false | _ => true)
    let s := x.preq.foldl (fun (s : State) q => s.setCell (cellId n q.slot) (fun y => { y with
      out := y.out.map (fun o => if q.op = 1 ∧ o.first = some x.volley then { o with first := none } else o)
      fresh := if q.op = 0 then y.fresh.map (fun r => if r.point = q.point ∧ r.since = x.volley then { r with sent := false } else r) else y.fresh })) s
    -- The read-back of a version-1 or version-2 write that waits behind its write is made due again by it.
    let again := fun (i : ServeItem) => match i with
      | .req r => !(r.back && x.preq.any (fun q => q.op == 1 && q.slot == r.slot))
      | .mgmt _ => true
    let back := x.preq.map ServeItem.req ++ mgmt.map ServeItem.mgmt
    s.setSpoke n (fun p => { p with sent := none, next := none, orders := [], items := back ++ p.items.filter again })

/-- The states the serve gives the cells are what the module last ordered (R167). -/
def State.orderCells (s : State) (n : Nat) : State :=
  ((s.spoke n).orders.foldl (fun (s : State) o => s.setCell o.1 (fun x => { x with belief := o.2 })) s).setSpoke n (fun p => { p with orders := [] })

/-- The serve of the volley leaves (R125); a late one does not (R410), and its cells keep the states they were ordered before (R167). A
DISC_OPEN in it opens a discovery round (R133); a round still open is over. -/
def State.sendServe (s : State) (n : Nat) (late : Bool) : State :=
  match (s.spoke n).next with
  | none => s.setSpoke n (fun p => { p with sent := none, orders := [] })
  | some x =>
    if late then ((s.bump Fld.QOS_CNT_C1MISS_CNT).raise Fld.QOS_STAT_C1_MISS n).unsent n
    else
      let s := s.orderCells n
      let crcOn := s.pert 4 && s.inForce Fld.HKP_PERT_CRC_SPOKE == n && s.inForce Fld.HKP_PERT_CRC_DIR == 1
      let flip := crcOn && decide (s.inForce Fld.HKP_PERT_CRC_EVERY ≤ (s.spoke n).crcCount + 1)
      let y : Serve := { x with epoch := BitVec.ofNat 16 (s.rd Fld.VLY_NOW2_EPOCH), volley := s.volley,
                                sidNow := BitVec.ofNat 8 (s.rd Fld.VLY_NOW2_SID_NOW), period := s.timeline.p10 * 8, badCrc := flip }
      s.setSpoke n (fun p => { p with sent := some y, next := none, crcCount := if flip then 0 else if crcOn then p.crcCount + 1 else p.crcCount,
                                      discCount := if y.offer.isSome ∧ p.probe = .bringUp ∧ p.discOpen.isSome then p.discCount + 1 else p.discCount,
                                      discOpen := match y.offer with | some (doff, r) => some (doff, r, 0) | none => p.discOpen })

/-- A volley without strobe and serve on a spoke: it carries idle, but for the ordered sets of a yield at this boundary, of which the
yield ordered set is the last (R333). On a standby the twin sends the serve, and with it the orders. -/
def State.sendIdle (s : State) (n : Nat) : State :=
  let s := if s.standby ∧ s.seqr.strobe then s.orderCells n else s
  let yields := fun (p : Spoke) => decide (0 < p.osLead) && (match p.osSent.getLast? with | some o => o.osid == 0x7E | none => false)
  (s.unsent n).setSpoke n (fun p => { p with osSent := if yields p then p.osSent else [], osLead := 0, osAt := [], blkLeave := none })

/-- The strobe and the serve of every spoke that sends them; without them the spokes carry idle. -/
def State.sendAll (s : State) (on : Bool) (late : BitVec 128) : State :=
  let k := s.freeCtr
  let s := if on then { s with freeCtr := s.freeCtr + 1 } else s
  (List.range 128).foldl (fun (s : State) n =>
    let s := if on then s.setSpoke n (fun p => { p with scr := Config.lineScrambler k n, rd := Config.lineDisparity k n }) else s
    if on ∧ s.sendsStrobe n then (s.sendStrobe n).sendServe n (late.getLsbD n) else s.sendIdle n) s

/-- The 66-bit blocks, or at G0 the code groups, of a volley. -/
def State.volleyBlocks (s : State) (n : Nat) : Nat := s.timeline.p10 * 1000 / blockTime (s.rd (Fld.SPK_STAT_GEAR n))

/-- The bits that spoke `n` sends from the present boundary to the next: its ordered sets and its serve, filled up with idle (R90,
R121 to R124). -/
def State.lineBits (s : State) (n : Nat) : List Bool := (s.spoke n).lineBits (s.rd (Fld.SPK_STAT_GEAR n)) (s.volleyBlocks n)

/-- The requests carried by the serves that have just left, by cell. -/
def State.carried (s : State) : List (Nat × PointReq) :=
  s.spokes.flatMap (fun p => match p.2.sent with | some x => x.preq.map (fun q => (cellId p.1 q.slot, q)) | none => [])

/-- Volleys since the serve that carried the cell's ASSIGN, which may be the one just sent (R135). -/
def State.assignAge (s : State) (c : Nat) (x : Cell) : Option Nat :=
  if x.lstate ≠ .assigned then none
  else if (match (s.spoke (c / 128)).sent with
      | some y => y.mgmt.any (fun m => match m with | .assign uid k .. => uid == x.uid && k == c % 128 | _ => false)
      | none => false) then some 0
  else x.assignAge.map (· + 1)

/-- A new volley for every cell. With a return window to come, no return yet; without one the samples of the last window go on
standing for SID_REF (R147, R162). The request of the last serve is answered in the first return whose strobe follows it: in this
volley where its spoke sends a strobe, else later (R138). -/
def State.cellsAtBoundary (s : State) (sends : Bool) : State :=
  let carried := s.carried
  { s with cells := FMap.mapVals Cell.reset (fun c (x : Cell) => if x.lstate = .free then x else
      let asked := (carried.find? (fun p => p.1 == c)).map (·.2)
      let x : Cell := { x with assignAge := s.assignAge c x }
      let x : Cell := if sends ∧ s.sendsStrobe (c / 128) then { x with answerTo := x.asked, asked := asked } else { x with asked := asked <|> x.asked }
      if s.seqr.windowOpen then { x with outcome := .awaited, sampleOk := false, sok := false, fault := 0, sample := none } else x) s.cells }

/-! ### The tandem at a boundary (R328, R337, R340) -/

/-- The STATUS frame. -/
def State.sendStatus (s : State) : State :=
  if ¬ s.inTandem ∨ ¬ s.flag Fld.TND_STAT_LINK_UP then s
  else
    let locked := (List.range 128).foldl (fun (m : BitVec 128) n => if (s.spoke n).sinceLock < 8 then m ||| (1#128 <<< n) else m) 0
    let f : StatusFrame := ⟨true, s.tndState, s.rd Fld.TND_CFG_ROLE, s.epoch, s.rd Fld.RST_FW_INFO_TVER_LO, s.rd Fld.RST_FW_INFO_TVER_HI,
      s.digest, locked, BitVec.ofNat 16 (s.rd Fld.TND_DELTA_DELTA), s.flag Fld.TND_STAT_TIME_OK, (s.tnd.tb1Error.getD 0)⟩
    { s with tnd := { s.tnd with statusSent := some f } }

/-- Whether strobes leave at this boundary, or, seen from a standby, left the twin. -/
def State.strobeNow (s : State) (sends : Bool) : Bool :=
  if s.standby then s.flag Fld.TND_STAT_TWIN_HOLD && s.tnd.yieldIn.isNone
  else sends && (List.range 128).any (fun n => s.sendsStrobe n)

/-- Perturbations end in FIELD without a permit in force, and on a module that is no standby (R538). -/
def State.pertGuard (s : State) : State :=
  if s.rd Fld.HKP_PERT_CTL_ON ≠ 0 ∧ s.rd Fld.SEC_LC_STATE = 3 ∧ ¬ (s.permitNow ∧ s.standby) then s.pertEnd else s

/-! ### The boundary -/

/-- The new volley of a started module. -/
def State.newVolley (s : State) (late : BitVec 128) : State :=
  let mute := s.tnd.mute
  let s := (s.applyLifts).enginesAtBoundary
  let (s, failed) := s.commitStaged
  let s := (s.bumpWrap Fld.VLY_NOW_VOLLEY).completeStaged failed
  let s := if s.takeoverDue then s.takeOver else s
  let s := (List.range 128).foldl (fun (s : State) n => s.spokeAtBoundary n) s
  let sends := s.activeOrSolo && !mute && !s.tnd.taking
  let strobe := s.strobeNow sends
  let s := if strobe then s.bumpWrap Fld.VLY_NOW2_SID_NOW else s
  let s : State := { s with
    tnd := { s.tnd with mute := false, strobes := if strobe ∧ s.standby then s.tnd.strobes + 1 else s.tnd.strobes,
                        hunt := s.tnd.hunt.map (fun h => { h with left := h.left - 1 }) }
    seqr := { s.seqr with strobe := strobe, windowOpen := strobe, phase := 0 }
    time := { s.time with boundaryTick := s.nowTick, boundaryTb2 := (s.base 2).count, boundaryTb1 := (s.base 1).count } }
  let s := (s.sendAll sends late).cellsAtBoundary sends
  let s := s.applyReleases.completeReleases.lpSync.wakeOpens
  let s : State := { s with force := s.regs.copyRange s.force 0x8d00404 0x8d00420 }
  let s := (s.pertGuard).tgSkips.adcBoundary.svBoundary
  s.countClean.sendStatus.showFits.showSpokes

/-- A reset ordered for the boundary is taken, or yields first; `none` when the module goes on with the volley as it is. -/
def State.boundaryReset (s : State) : Option State :=
  match s.rst.atBoundary with
  | some o => if o.yield ∧ s.tndState = 4 then none else some (s.takeReset o.src)
  | none => none

/-- The yield of a reset that yields first, at a boundary behind the tick in which it was ordered (R333, R335), or a yield that is due.
Without a READY twin at the boundary the module does not yield, and the reset goes on waiting (R334; log 198). -/
def State.boundaryYield (s : State) : State :=
  match s.rst.atBoundary with
  | some o =>
    if s.nowTick ≤ o.since then s.yieldIfDue
    else if s.flag Fld.TND_STAT_TWIN_READY then
      ({ s with rst := { s.rst with atBoundary := some { o with yield := false } } } : State).yieldNow true false
    else (s.raise Fld.TND_EVT_HELD_NO_TWIN).yieldIfDue
  | none => s.yieldIfDue

/-- TB2, or TB1 on a standby that knows the twin's boundaries, stands at the first tick at which its distance from `from'` is a
multiple of `p` ns: at the multiple, or, where a tick of 1.25 ns steps over it, at the first tick behind it. -/
def State.onMultiple (s : State) (n : Nat) (from' : Nat) (p : Nat) : Bool :=
  let d : Int := (s.base n).total - (from' * 2 ^ 32 : Nat)
  decide (d % ((p * 2 ^ 32 : Nat) : Int) < s.baseInc n)

/-- This tick is a volley boundary (R448): on a standby a boundary of the twin by TB1; else at a multiple of P on TB2, and once a
spoke serves, where TB2 has advanced by P since the last boundary. -/
def State.boundaryDue (s : State) : Bool :=
  let p := s.timeline.p10 * 10
  let now := (s.base 2).count
  match (if s.standby then s.tnd.twinTb1 else none) with
  | some b => s.onMultiple 1 b p
  | none => if s.anyServing then decide (s.time.boundaryTb2 + p ≤ now) else s.onMultiple 2 0 p

/-- Whether a new volley can begin (R25, R448): the present one is in its assembly phase, its return window is closed, and the
tick is a boundary. -/
def State.mayBegin (s : State) : Bool := s.seqr.phase == 2 && !s.seqr.windowOpen && s.boundaryDue

/-- TANDEM_YIELD: the boundary at which a due yield takes effect (R333). -/
def execTandemYield (s : State) : Host.Outcome State Fault Refusal := .next (if s.mayBegin then s.yieldIfDue else s)

/-- The deferred fall-back reset (R551), at a volley boundary: with a READY twin the module yields first;
otherwise every converter it serves must be blocked. -/
def execDeferredFallbackReset (s : State) : Host.Outcome State Fault Refusal :=
  if ¬ s.rst.deferred ∨ ¬ s.mayBegin then .next s
  else if s.tndState = 4 ∧ s.flag Fld.TND_STAT_TWIN_READY then
    .next { s with rst := { s.rst with deferred := false, atBoundary := some { src := .self 5, yield := true, since := s.nowTick } } }
  else if s.allServedBlocked then .next (s.takeReset (.self 5))
  else .next s

/-- VOLLEY_BOUNDARY (R25, R448); `late` names the spokes whose serve is not complete (R410). -/
def execVolleyBoundary (late : BitVec 128) (s : State) : Host.Outcome State Fault Refusal :=
  .next <|
    if s.started ∧ ¬ s.mayBegin then s
    else match s.boundaryReset with
    | some t => t
    | none =>
      if ¬ s.started then s
      else
        let s : State := { s with sch := { s.sch with volleys := s.sch.volleys + 1 } }
        s.boundaryYield.newVolley late

end Sys2Proof.Machine
end

