-- ==== Sys2Proof/Machine/Engine.lean ====
section
/-! DEFINITION. The instructions of the control engines (R202 to R215, R231 to R247). A command carries the engine
and the fields of the instruction word fetched at its PC; on an engine that does not execute it has no effect. -/

namespace Sys2Proof.Machine

/-! ### Forms -/

/-- ALU: rd = op(rs1, rs2). -/
def State.alu (s : State) (e : Nat) (rd rs1 rs2 : BitVec 4) (f : W40 → W40 → W40) : State :=
  s.instr e true 1 (fun g => g.setX rd (f (g.getX rs1) (g.getX rs2)))

/-- Immediate forms: rd = op(rs1). -/
def State.aluI (s : State) (e : Nat) (legal : Bool) (rd rs1 : BitVec 4) (f : W40 → W40) : State :=
  s.instr e legal 1 (fun g => g.setX rd (f (g.getX rs1)))

/-- The shift amount rs2[5:0] or imm18[5:0]. -/
def shiftOf (w : Nat) : Nat := w % 64

/-- Leading zeros of a word. -/
def clz40 (w : W40) : Nat := ((List.range 40).find? (fun i => w.getLsbD (39 - i))).getD 40

/-- A load or store: an access fault outside data memory, else one effect. -/
def State.memOp (s : State) (e : Nat) (legal : Bool) (rs1 : BitVec 4) (imm : BitVec 18) (k : Nat → State → State) : State :=
  if ¬ s.executing e then s
  else if ¬ legal then s.illegal e
  else
    let a := (s.eng e).addr rs1 imm
    if addrOk a then (k a.toNat s).setEng e (fun g => g.next.spend 1) else s.accFault e 1

/-- F40 with two operands: the rounding field must be 0 to 4 (R204). -/
def State.f40 (s : State) (e : Nat) (rd rs1 rs2 : BitVec 4) (rm : BitVec 3) (units : Nat)
    (f : RMode → W40 → W40 → FRes) : State :=
  s.instr e (decide (rm.toNat ≤ 4)) units (fun g => g.setF rd (f (rmOf g.frm rm) (g.getX rs1) (g.getX rs2)))

/-! ### System -/

/-- NOP. -/
def execCeNop (e : Fin 32) (rd rs1 rs2 : BitVec 4) (s : State) : Host.Outcome State Fault Refusal :=
  .next (s.instr e (rd == 0 && rs1 == 0 && rs2 == 0) 1 id)

/-- RESUME (R211): back to EPC; a long instruction the handler interrupted goes on, or runs again with RFAIL. -/
def execCeResume (e : Fin 32) (rd rs1 rs2 : BitVec 4) (s : State) : Host.Outcome State Fault Refusal :=
  .next <|
    if ¬ s.executing e then s
    else if ¬ ((s.eng e).hnd ∧ rd = 0 ∧ rs1 = 0 ∧ rs2 = 0) then s.illegal e
    else s.endHandler e (fun g =>
      { g with pc := g.epc, resumed := g.intLong && g.prog.isSome, rfail := g.rfail || (g.intLong && g.prog.isNone) })

/-- ABANDON (R211): the suspended instruction is discarded and skipped. -/
def execCeAbandon (e : Fin 32) (rd rs1 rs2 : BitVec 4) (s : State) : Host.Outcome State Fault Refusal :=
  .next <|
    if ¬ s.executing e then s
    else if ¬ ((s.eng e).hnd ∧ rd = 0 ∧ rs1 = 0 ∧ rs2 = 0) then s.illegal e
    else (s.setEng e (fun g => { g with abnd := true, prog := none, resumed := false })).endHandler e (fun g =>
      { g with pc := if g.intLong then (g.epc + 1) % 16384 else g.epc })

/-! ### ALU -/

/-- ADD: rd = rs1 + rs2 (R203). -/
def execCeAdd (e : Fin 32) (rd rs1 rs2 : BitVec 4) (s : State) : Host.Outcome State Fault Refusal :=
  .next (s.alu e rd rs1 rs2 (fun a b => a + b))

/-- SUB: rd = rs1 - rs2 (R203). -/
def execCeSub (e : Fin 32) (rd rs1 rs2 : BitVec 4) (s : State) : Host.Outcome State Fault Refusal :=
  .next (s.alu e rd rs1 rs2 (fun a b => a - b))

/-- AND: rd = rs1 AND rs2 (R203). -/
def execCeAnd (e : Fin 32) (rd rs1 rs2 : BitVec 4) (s : State) : Host.Outcome State Fault Refusal :=
  .next (s.alu e rd rs1 rs2 (fun a b => a &&& b))

/-- OR: rd = rs1 OR rs2 (R203). -/
def execCeOr (e : Fin 32) (rd rs1 rs2 : BitVec 4) (s : State) : Host.Outcome State Fault Refusal :=
  .next (s.alu e rd rs1 rs2 (fun a b => a ||| b))

/-- XOR: rd = rs1 XOR rs2 (R203). -/
def execCeXor (e : Fin 32) (rd rs1 rs2 : BitVec 4) (s : State) : Host.Outcome State Fault Refusal :=
  .next (s.alu e rd rs1 rs2 (fun a b => a ^^^ b))

/-- SHL: rd = rs1 << rs2[5:0] (R203). -/
def execCeShl (e : Fin 32) (rd rs1 rs2 : BitVec 4) (s : State) : Host.Outcome State Fault Refusal :=
  .next (s.alu e rd rs1 rs2 (fun a b => a <<< shiftOf b.toNat))

/-- SHR: rd = rs1 >> rs2[5:0], logical (R203). -/
def execCeShr (e : Fin 32) (rd rs1 rs2 : BitVec 4) (s : State) : Host.Outcome State Fault Refusal :=
  .next (s.alu e rd rs1 rs2 (fun a b => a >>> shiftOf b.toNat))

/-- SAR: rd = rs1 >> rs2[5:0], arithmetic (R203). -/
def execCeSar (e : Fin 32) (rd rs1 rs2 : BitVec 4) (s : State) : Host.Outcome State Fault Refusal :=
  .next (s.alu e rd rs1 rs2 (fun a b => a.sshiftRight (shiftOf b.toNat)))

/-- SLT: rd = 1 when rs1 < rs2, signed (R203). -/
def execCeSlt (e : Fin 32) (rd rs1 rs2 : BitVec 4) (s : State) : Host.Outcome State Fault Refusal :=
  .next (s.alu e rd rs1 rs2 (fun a b => boolWord (a.slt b)))

/-- SLTU: rd = 1 when rs1 < rs2, unsigned (R203). -/
def execCeSltu (e : Fin 32) (rd rs1 rs2 : BitVec 4) (s : State) : Host.Outcome State Fault Refusal :=
  .next (s.alu e rd rs1 rs2 (fun a b => boolWord (a.ult b)))

/-- MIN: rd = signed minimum (R203). -/
def execCeMin (e : Fin 32) (rd rs1 rs2 : BitVec 4) (s : State) : Host.Outcome State Fault Refusal :=
  .next (s.alu e rd rs1 rs2 (fun a b => if b.slt a then b else a))

/-- MAX: rd = signed maximum (R203). -/
def execCeMax (e : Fin 32) (rd rs1 rs2 : BitVec 4) (s : State) : Host.Outcome State Fault Refusal :=
  .next (s.alu e rd rs1 rs2 (fun a b => if a.slt b then b else a))

/-- MINU: rd = unsigned minimum (R203). -/
def execCeMinu (e : Fin 32) (rd rs1 rs2 : BitVec 4) (s : State) : Host.Outcome State Fault Refusal :=
  .next (s.alu e rd rs1 rs2 (fun a b => if b.ult a then b else a))

/-- MAXU: rd = unsigned maximum (R203). -/
def execCeMaxu (e : Fin 32) (rd rs1 rs2 : BitVec 4) (s : State) : Host.Outcome State Fault Refusal :=
  .next (s.alu e rd rs1 rs2 (fun a b => if a.ult b then b else a))

/-- MUL: rd = low 40 bits of rs1 x rs2 (R203). -/
def execCeMul (e : Fin 32) (rd rs1 rs2 : BitVec 4) (s : State) : Host.Outcome State Fault Refusal :=
  .next (s.alu e rd rs1 rs2 (fun a b => a * b))

/-- CLZ: leading zeros of rs1; the rs2 field must be 0 (R203). -/
def execCeClz (e : Fin 32) (rd rs1 rs2 : BitVec 4) (s : State) : Host.Outcome State Fault Refusal :=
  .next (s.aluI e (rs2 == 0) rd rs1 (fun a => BitVec.ofNat 40 (clz40 a)))

/-! ### Immediates -/

/-- ADDI: rd = rs1 + sext(imm18) (R203). -/
def execCeAddi (e : Fin 32) (rd rs1 : BitVec 4) (imm : BitVec 18) (s : State) : Host.Outcome State Fault Refusal :=
  .next (s.aluI e true rd rs1 (fun a => a + imm.signExtend 40))

/-- ANDI: rd = rs1 AND zext(imm18) (R203). -/
def execCeAndi (e : Fin 32) (rd rs1 : BitVec 4) (imm : BitVec 18) (s : State) : Host.Outcome State Fault Refusal :=
  .next (s.aluI e true rd rs1 (fun a => a &&& imm.setWidth 40))

/-- ORI: rd = rs1 OR zext(imm18) (R203). -/
def execCeOri (e : Fin 32) (rd rs1 : BitVec 4) (imm : BitVec 18) (s : State) : Host.Outcome State Fault Refusal :=
  .next (s.aluI e true rd rs1 (fun a => a ||| imm.setWidth 40))

/-- XORI: rd = rs1 XOR zext(imm18) (R203). -/
def execCeXori (e : Fin 32) (rd rs1 : BitVec 4) (imm : BitVec 18) (s : State) : Host.Outcome State Fault Refusal :=
  .next (s.aluI e true rd rs1 (fun a => a ^^^ imm.setWidth 40))

/-- SHLI: shift left by imm18[5:0]; imm18[17:6] must be 0 (R203). -/
def execCeShli (e : Fin 32) (rd rs1 : BitVec 4) (imm : BitVec 18) (s : State) : Host.Outcome State Fault Refusal :=
  .next (s.aluI e (decide (imm.toNat < 64)) rd rs1 (fun a => a <<< shiftOf imm.toNat))

/-- SHRI: logical shift right by imm18[5:0]; imm18[17:6] must be 0 (R203). -/
def execCeShri (e : Fin 32) (rd rs1 : BitVec 4) (imm : BitVec 18) (s : State) : Host.Outcome State Fault Refusal :=
  .next (s.aluI e (decide (imm.toNat < 64)) rd rs1 (fun a => a >>> shiftOf imm.toNat))

/-- SARI: arithmetic shift right by imm18[5:0]; imm18[17:6] must be 0 (R203). -/
def execCeSari (e : Fin 32) (rd rs1 : BitVec 4) (imm : BitVec 18) (s : State) : Host.Outcome State Fault Refusal :=
  .next (s.aluI e (decide (imm.toNat < 64)) rd rs1 (fun a => a.sshiftRight (shiftOf imm.toNat)))

/-- LIL: rd = sext(imm22) (R203). -/
def execCeLil (e : Fin 32) (rd : BitVec 4) (imm : BitVec 22) (s : State) : Host.Outcome State Fault Refusal :=
  .next (s.aluI e true rd rd (fun _ => imm.signExtend 40))

/-- LIH: rd[39:22] = imm22[17:0]; imm22[21:18] must be 0 (R203). -/
def execCeLih (e : Fin 32) (rd : BitVec 4) (imm : BitVec 22) (s : State) : Host.Outcome State Fault Refusal :=
  .next (s.aluI e (decide (imm.toNat < 2 ^ 18)) rd rd (fun a => (imm.setWidth 40 <<< 22) ||| (a &&& 0x3FFFFF#40)))

/-! ### Loads and stores -/

/-- LD (R203). -/
def execCeLd (e : Fin 32) (rd rs1 : BitVec 4) (imm : BitVec 18) (s : State) : Host.Outcome State Fault Refusal :=
  .next (s.memOp e true rs1 imm (fun a s => s.setEng e (fun g => g.setX rd (g.mem a))))

/-- ST (R203). -/
def execCeSt (e : Fin 32) (rd rs1 : BitVec 4) (imm : BitVec 18) (s : State) : Host.Outcome State Fault Refusal :=
  .next (s.memOp e true rs1 imm (fun a s => s.putMem e a ((s.eng e).getX rd)))

/-- LDA: ACC(rd[1:0]) from memory; rd[3:2] must be 0 (R203). -/
def execCeLda (e : Fin 32) (rd rs1 : BitVec 4) (imm : BitVec 18) (s : State) : Host.Outcome State Fault Refusal :=
  .next (s.memOp e (decide (rd.toNat < 4)) rs1 imm (fun a s => s.setEng e (fun g => g.setAcc rd.toNat (g.mem a))))

/-- STA: ACC(rd[1:0]) to memory; rd[3:2] must be 0 (R203). -/
def execCeSta (e : Fin 32) (rd rs1 : BitVec 4) (imm : BitVec 18) (s : State) : Host.Outcome State Fault Refusal :=
  .next (s.memOp e (decide (rd.toNat < 4)) rs1 imm (fun a s => s.putMem e a ((s.eng e).getAcc rd.toNat)))

/-! ### Multiply-accumulate (R231 to R233) -/

/-- MPY: the exact product; it never saturates (R231). -/
def execCeMpy (e : Fin 32) (rx rs1 rs2 : BitVec 4) (acc : BitVec 2) (s : State) : Host.Outcome State Fault Refusal :=
  .next (s.instr e true 1 (fun g => g.setQ acc.toNat (satQ (mulQ (g.getX rs1) (g.getX rs2)))))

/-- MAC (R231). -/
def execCeMac (e : Fin 32) (rx rs1 rs2 : BitVec 4) (acc : BitVec 2) (s : State) : Host.Outcome State Fault Refusal :=
  .next (s.instr e true 1 (fun g => g.setQ acc.toNat (satQ ((g.getAcc acc.toNat).toInt + mulQ (g.getX rs1) (g.getX rs2)))))

/-- MSU (R231). -/
def execCeMsu (e : Fin 32) (rx rs1 rs2 : BitVec 4) (acc : BitVec 2) (s : State) : Host.Outcome State Fault Refusal :=
  .next (s.instr e true 1 (fun g => g.setQ acc.toNat (satQ ((g.getAcc acc.toNat).toInt - mulQ (g.getX rs1) (g.getX rs2)))))

/-- ACLR (R233). -/
def execCeAclr (e : Fin 32) (rx rs1 rs2 : BitVec 4) (acc : BitVec 2) (s : State) : Host.Outcome State Fault Refusal :=
  .next (s.instr e true 1 (fun g => g.setAcc acc.toNat 0))

/-- AMOV: the raw register value (R233). -/
def execCeAmov (e : Fin 32) (rx rs1 rs2 : BitVec 4) (acc : BitVec 2) (s : State) : Host.Outcome State Fault Refusal :=
  .next (s.instr e true 1 (fun g => g.setAcc acc.toNat (g.getX rs1)))

/-- ARND (R232). -/
def execCeArnd (e : Fin 32) (rx rs1 rs2 : BitVec 4) (acc : BitVec 2) (s : State) : Host.Outcome State Fault Refusal :=
  .next (s.instr e true 1 (fun g => { g.setX rx (roundQ (g.getAcc acc.toNat)).1 with sat := g.sat || (roundQ (g.getAcc acc.toNat)).2 }))

/-- AEXT: the raw accumulator (R233). -/
def execCeAext (e : Fin 32) (rx rs1 rs2 : BitVec 4) (acc : BitVec 2) (s : State) : Host.Outcome State Fault Refusal :=
  .next (s.instr e true 1 (fun g => g.setX rx (g.getAcc acc.toNat)))

/-- AADD: ACC += ACC(rs2[1:0]) (R231). -/
def execCeAadd (e : Fin 32) (rx rs1 rs2 : BitVec 4) (acc : BitVec 2) (s : State) : Host.Outcome State Fault Refusal :=
  .next (s.instr e true 1 (fun g => g.setQ acc.toNat (satQ ((g.getAcc acc.toNat).toInt + (g.getAcc (rs2.toNat % 4)).toInt))))

/-! ### F40 (R236 to R247) -/

/-- FADD (R241). -/
def execCeFadd (e : Fin 32) (rd rs1 rs2 : BitVec 4) (rm : BitVec 3) (s : State) : Host.Outcome State Fault Refusal :=
  .next (s.f40 e rd rs1 rs2 rm 1 fAdd)

/-- FSUB (R241). -/
def execCeFsub (e : Fin 32) (rd rs1 rs2 : BitVec 4) (rm : BitVec 3) (s : State) : Host.Outcome State Fault Refusal :=
  .next (s.f40 e rd rs1 rs2 rm 1 fSub)

/-- FMUL (R242). -/
def execCeFmul (e : Fin 32) (rd rs1 rs2 : BitVec 4) (rm : BitVec 3) (s : State) : Host.Outcome State Fault Refusal :=
  .next (s.f40 e rd rs1 rs2 rm 1 fMul)

/-- FDIV: 12 units (R242, R205). -/
def execCeFdiv (e : Fin 32) (rd rs1 rs2 : BitVec 4) (rm : BitVec 3) (s : State) : Host.Outcome State Fault Refusal :=
  .next (s.f40 e rd rs1 rs2 rm 12 fDiv)

/-- FSQRT: 16 units (R243, R205). -/
def execCeFsqrt (e : Fin 32) (rd rs1 rs2 : BitVec 4) (rm : BitVec 3) (s : State) : Host.Outcome State Fault Refusal :=
  .next (s.f40 e rd rs1 rs2 rm 16 (fun m a _ => fSqrt m a))

/-- FMA: rd = rd + rs1 x rs2, rounded once (R244). -/
def execCeFma (e : Fin 32) (rd rs1 rs2 : BitVec 4) (rm : BitVec 3) (s : State) : Host.Outcome State Fault Refusal :=
  .next (s.instr e (decide (rm.toNat ≤ 4)) 1 (fun g => g.setF rd (fFma (rmOf g.frm rm) (g.getX rd) (g.getX rs1) (g.getX rs2))))

/-- FMIN (R245). -/
def execCeFmin (e : Fin 32) (rd rs1 rs2 : BitVec 4) (rm : BitVec 3) (s : State) : Host.Outcome State Fault Refusal :=
  .next (s.f40 e rd rs1 rs2 rm 1 (fun _ a b => fMinMax false a b))

/-- FMAX (R245). -/
def execCeFmax (e : Fin 32) (rd rs1 rs2 : BitVec 4) (rm : BitVec 3) (s : State) : Host.Outcome State Fault Refusal :=
  .next (s.f40 e rd rs1 rs2 rm 1 (fun _ a b => fMinMax true a b))

/-- FEQ (R245). -/
def execCeFeq (e : Fin 32) (rd rs1 rs2 : BitVec 4) (rm : BitVec 3) (s : State) : Host.Outcome State Fault Refusal :=
  .next (s.f40 e rd rs1 rs2 rm 1 (fun _ a b => fEq a b))

/-- FLT (R245). -/
def execCeFlt (e : Fin 32) (rd rs1 rs2 : BitVec 4) (rm : BitVec 3) (s : State) : Host.Outcome State Fault Refusal :=
  .next (s.f40 e rd rs1 rs2 rm 1 (fun _ a b => fLt a b))

/-- FLE (R245). -/
def execCeFle (e : Fin 32) (rd rs1 rs2 : BitVec 4) (rm : BitVec 3) (s : State) : Host.Outcome State Fault Refusal :=
  .next (s.f40 e rd rs1 rs2 rm 1 (fun _ a b => fLe a b))

/-- FCVT.QF (R247). -/
def execCeFcvtQf (e : Fin 32) (rd rs1 rs2 : BitVec 4) (rm : BitVec 3) (s : State) : Host.Outcome State Fault Refusal :=
  .next (s.f40 e rd rs1 rs2 rm 1 (fun m a _ => fToInt m 30 true a))

/-- FCVT.FQ (R247). -/
def execCeFcvtFq (e : Fin 32) (rd rs1 rs2 : BitVec 4) (rm : BitVec 3) (s : State) : Host.Outcome State Fault Refusal :=
  .next (s.f40 e rd rs1 rs2 rm 1 (fun m a _ => fOfInt m 30 a))

/-- FCVT.IF (R247). -/
def execCeFcvtIf (e : Fin 32) (rd rs1 rs2 : BitVec 4) (rm : BitVec 3) (s : State) : Host.Outcome State Fault Refusal :=
  .next (s.f40 e rd rs1 rs2 rm 1 (fun m a _ => fToInt m 0 false a))

/-- FCVT.FI (R247). -/
def execCeFcvtFi (e : Fin 32) (rd rs1 rs2 : BitVec 4) (rm : BitVec 3) (s : State) : Host.Outcome State Fault Refusal :=
  .next (s.f40 e rd rs1 rs2 rm 1 (fun m a _ => fOfInt m 0 a))

/-- FCLASS (R246). -/
def execCeFclass (e : Fin 32) (rd rs1 rs2 : BitVec 4) (rm : BitVec 3) (s : State) : Host.Outcome State Fault Refusal :=
  .next (s.f40 e rd rs1 rs2 rm 1 (fun _ a _ => fExact (fClassMask a)))

/-- FNEG (R240). -/
def execCeFneg (e : Fin 32) (rd rs1 rs2 : BitVec 4) (rm : BitVec 3) (s : State) : Host.Outcome State Fault Refusal :=
  .next (s.f40 e rd rs1 rs2 rm 1 (fun _ a _ => fExact (fNeg a)))

/-- FABS (R240). -/
def execCeFabs (e : Fin 32) (rd rs1 rs2 : BitVec 4) (rm : BitVec 3) (s : State) : Host.Outcome State Fault Refusal :=
  .next (s.f40 e rd rs1 rs2 rm 1 (fun _ a _ => fExact (fAbs a)))

/-! ### Jumps and CSRs -/

/-- The condition of a BR (R203); 6 and 7 are unlisted. -/
def branchTaken (cond : BitVec 3) (a b : W40) : Option Bool :=
  if cond = 0 then some (a == b) else if cond = 1 then some (a != b)
  else if cond = 2 then some (a.slt b) else if cond = 3 then some (!a.slt b)
  else if cond = 4 then some (a.ult b) else if cond = 5 then some (!a.ult b) else none

/-- BR: taken, PC + sext(off15), 2 units; not taken, 1 unit (R203, R205). -/
def execCeBr (e : Fin 32) (rs1 rs2 : BitVec 4) (cond : BitVec 3) (off : BitVec 15) (s : State) : Host.Outcome State Fault Refusal :=
  .next (
    if ¬ s.executing e then s
    else
      let g := s.eng e
      match branchTaken cond (g.getX rs1) (g.getX rs2) with
      | none => s.illegal e
      | some true => s.jump e ((g.pc : Int) + off.toInt) id
      | some false => s.setEng e (fun g => g.next.spend 1))

/-- JAL: rd = PC + 1, PC + sext(off22) (R203). -/
def execCeJal (e : Fin 32) (rd : BitVec 4) (off : BitVec 22) (s : State) : Host.Outcome State Fault Refusal :=
  .next (
    if ¬ s.executing e then s
    else s.jump e (((s.eng e).pc : Int) + off.toInt) (fun g => g.setX rd (BitVec.ofNat 40 (g.pc + 1))))

/-- JALR: rd = PC + 1, PC = rs1 + sext(imm18) (R203). -/
def execCeJalr (e : Fin 32) (rd rs1 : BitVec 4) (imm : BitVec 18) (s : State) : Host.Outcome State Fault Refusal :=
  .next (
    if ¬ s.executing e then s
    else s.jump e ((s.eng e).addr rs1 imm) (fun g => g.setX rd (BitVec.ofNat 40 (g.pc + 1))))

/-- CSRR: rd = CSR(imm18[11:0]); rs1 must be 0, and the number listed (R189, R203). -/
def execCeCsrr (e : Fin 32) (rd rs1 : BitVec 4) (imm : BitVec 18) (s : State) : Host.Outcome State Fault Refusal :=
  .next (
    if ¬ s.executing e then s
    else match (s.eng e).csr (imm.toNat % 4096) with
      | none => s.illegal e
      | some v => s.instr e (rs1 == 0) 1 (fun g => g.setX rd v))

/-- CSRW: CSR(imm18[11:0]) = rs1; rd must be 0, and the number listed (R189, R203). -/
def execCeCsrw (e : Fin 32) (rd rs1 : BitVec 4) (imm : BitVec 18) (s : State) : Host.Outcome State Fault Refusal :=
  .next (
    if ¬ s.executing e then s
    else if rd ≠ 0 ∨ ((s.eng e).csr (imm.toNat % 4096)).isNone then s.illegal e
    else (s.putCsr e (imm.toNat % 4096) ((s.eng e).getX rs1)).setEng e (fun g => g.next.spend 1))

/-! ### Long instructions (R206, R207) -/

/-- ORDSTAT. -/
def execCeOrdstat (e : Fin 32) (rd rs1 rs2 rk rp : BitVec 4) (j : BitVec 2) (stop : Option Nat) (s : State) : Host.Outcome State Fault Refusal :=
  .next (s.longInstr e .ordstat rd rs1 rs2 rk rp j stop)

/-- ORDSTAT.M. -/
def execCeOrdstatM (e : Fin 32) (rd rs1 rs2 rk rp : BitVec 4) (j : BitVec 2) (stop : Option Nat) (s : State) : Host.Outcome State Fault Refusal :=
  .next (s.longInstr e .ordstatM rd rs1 rs2 rk rp j stop)

/-- ORDSTATM. -/
def execCeOrdstatm (e : Fin 32) (rd rs1 rs2 rk rp : BitVec 4) (j : BitVec 2) (stop : Option Nat) (s : State) : Host.Outcome State Fault Refusal :=
  .next (s.longInstr e .ordstatm rd rs1 rs2 rk rp j stop)

/-- ORDSTATM.M. -/
def execCeOrdstatmM (e : Fin 32) (rd rs1 rs2 rk rp : BitVec 4) (j : BitVec 2) (stop : Option Nat) (s : State) : Host.Outcome State Fault Refusal :=
  .next (s.longInstr e .ordstatmM rd rs1 rs2 rk rp j stop)

/-- HIST. -/
def execCeHist (e : Fin 32) (rd rs1 rs2 rk rp : BitVec 4) (j : BitVec 2) (stop : Option Nat) (s : State) : Host.Outcome State Fault Refusal :=
  .next (s.longInstr e .hist rd rs1 rs2 rk rp j stop)

/-- VDOT (R234). -/
def execCeVdot (e : Fin 32) (rd rs1 rs2 rk rp : BitVec 4) (j : BitVec 2) (stop : Option Nat) (s : State) : Host.Outcome State Fault Refusal :=
  .next (s.longInstr e .vdot rd rs1 rs2 rk rp j stop)

/-- C0_HANDLER_ENTRY. -/
def execC0HandlerEntry (e : Fin 32) (s : State) : Host.Outcome State Fault Refusal := .next (s.handlerEntry e)

end Sys2Proof.Machine
end

