-- ==== Sys2Proof/Machine/Host.lean ====
section
/-! DEFINITION. Host rings: opening and closing, doorbells, the fetch of descriptors, events, interrupts and
resets of functions and ports (R351 to R380). -/

namespace Sys2Proof.Machine

/-! ### Opening and closing (R357, R359) -/

/-- ERR_CAUSE of an open, 0 when every check passes (R357). -/
def State.openCause (s : State) (f : Nat) : Nat :=
  let rings := if s.rd (Fld.HIF_FN_CTL_LEVEL_MAX f) = 1 then [0, 1, 2] else [0, 1, 2, 3]
  if ¬ s.fnReady f then 1
  else if ¬ rings.all (fun r => s.rd (Fld.HIF_FN_RING_BASE_LO_ADDR f r) % 4096 == 0) then 2
  else if ¬ rings.all (fun r => decide (4 ≤ s.rd (Fld.HIF_FN_RING_SIZE_LOG2 f r) ∧ s.rd (Fld.HIF_FN_RING_SIZE_LOG2 f r) ≤ 16)) then 3
  else if s.rd (Fld.HIF_FN_CTL_LEVEL_MAX f) = 0 then 4
  else 0

/-- A write of OPEN (R357). It has no effect while a function-level reset runs (R356), on a disabled port, and on
rings that are open. -/
def State.openFn (s : State) (f : Nat) : State :=
  if s.flag (Fld.HIF_FN_STAT_FLR_BUSY f) ∨ ¬ s.flag (Fld.HIF_PORT_STAT_ENABLED (f / 128)) ∨ s.fnOpen f then s
  else if s.openCause f ≠ 0 then s.fnError f (s.openCause f)
  else
    let s := s.resetRange (fnBase f + 0x80) (fnBase f + 0xB4)
    let s := s.wrs [(Fld.HIF_FN_STAT_LEVEL f, min (s.rd (Fld.HIF_FN_CTL_LEVEL_MAX f)) 3), (Fld.HIF_FN_STAT_OPEN f, 1),
      (Fld.HIF_FN_STAT_ERROR f, 0), (Fld.HIF_FN_STAT_ERR_CAUSE f, 0), (Fld.HIF_FN_STAT_THROTTLED f, 0)]
    let s : State := { s with qos := { s.qos with
      waiting := s.qos.waiting.filter (fun x => match x.1.who with | .fn g => g.val != f | .dma _ => true), bulk := FMap.set (0, 0) s.qos.bulk f (0, 0) } }
    s.setFn f (fun h => { HostFn.reset with tokens := s.capDescBurst f * 1000000000, sigTokens := 64000000000,
                                            refilled := (s.base 3).count, vectors := h.vectors, held := h.held, standing := h.standing })

def execHifOpen (fn : Fin 256) (s : State) : Host.Outcome State Fault Refusal := .next (s.openFn fn.val)

/-- A write of CLOSE stops fetching; accepted descriptors complete first (R359). -/
def State.closeFn (s : State) (f : Nat) : State :=
  if ¬ s.fnOpen f ∨ s.flag (Fld.HIF_FN_STAT_FLR_BUSY f) then s
  else
    let s := s.setFn f (fun h => { h with closing := true })
    if (s.fn f).inflight = [] then s.finishClose f else s

def execHifClose (fn : Fin 256) (s : State) : Host.Outcome State Fault Refusal := .next (s.closeFn fn.val)

/-- 100 ms after CLOSE what is not complete is abandoned as at a function-level reset, without completion. -/
def execHifCloseAbandon (fn : Fin 256) (s : State) : Host.Outcome State Fault Refusal :=
  let f := fn.val
  let orphan := fun (s : State) => { s with cells := FMap.mapVals Cell.reset (fun _ x => { x with fresh := x.fresh.filter (fun r => r.fn != f) }) s.cells }
  .next (if (s.fn f).closing then
    let n := ((s.fn f).inflight.filter (fun x => x.at' == .reading)).length
    (((orphan s).holdTags f n).setFn f (fun h => { h with inflight := [], held := h.held + n, standing := h.blocks })).finishClose f else s)

/-! ### Doorbells (R361) -/

/-- A doorbell write is looked at only while the function is ready and not in reset (R356). -/
def State.doorbell (s : State) (f : Nat) (ok : Bool) (k : State → State) : State :=
  if ¬ s.fnReady f ∨ s.flag (Fld.HIF_FN_STAT_FLR_BUSY f) then s
  else if s.fnOpen f ∧ ok then (k s).showFn f else s.dbErr f

def State.dbCmd (s : State) (f v : Nat) : State :=
  s.doorbell f (decide (v < s.ringSize f 0)) (fun s => s.wr (Fld.HIF_FN_CMD_PTR_TAIL f) v)

/-- A head lies from the head in force forward to the module's tail. -/
def headOk (n head tail v : Nat) : Bool := decide (v < n) && decide (ringUsed n head v ≤ ringUsed n head tail)

def State.dbCpl (s : State) (f v : Nat) : State :=
  s.doorbell f (headOk (s.ringSize f 1) (s.rd (Fld.HIF_FN_CPL_PTR_HEAD f)) (s.rd (Fld.HIF_FN_CPL_PTR_TAIL f)) v)
    (fun s => s.wr (Fld.HIF_FN_CPL_PTR_HEAD f) v)

def State.dbEvt (s : State) (f v : Nat) : State :=
  s.doorbell f (headOk (s.ringSize f 2) (s.rd (Fld.HIF_FN_EVT_PTR_HEAD f)) (s.rd (Fld.HIF_FN_EVT_PTR_TAIL f)) v)
    (fun s => s.wr (Fld.HIF_FN_EVT_PTR_HEAD f) v)

/-- The bulk ring belongs to level 2 and up (R358). -/
def State.dbBlk (s : State) (f v : Nat) : State :=
  s.doorbell f (decide (v < s.ringSize f 3) && decide (2 ≤ s.rd (Fld.HIF_FN_STAT_LEVEL f)))
    (fun s => s.wr (Fld.HIF_FN_BLK_PTR_TAIL f) v)

def execHifDbCmd (fn : Fin 256) (value : Reg32) (s : State) : Host.Outcome State Fault Refusal := .next (s.dbCmd fn.val value.toNat)
def execHifDbCpl (fn : Fin 256) (value : Reg32) (s : State) : Host.Outcome State Fault Refusal := .next (s.dbCpl fn.val value.toNat)
def execHifDbEvt (fn : Fin 256) (value : Reg32) (s : State) : Host.Outcome State Fault Refusal := .next (s.dbEvt fn.val value.toNat)
def execHifDbBlk (fn : Fin 256) (value : Reg32) (s : State) : Host.Outcome State Fault Refusal := .next (s.dbBlk fn.val value.toNat)

/-- A read of host memory was not answered within the completion timeout (R376, R380). -/
def State.cto (s : State) (f : Nat) : State := s.bump (Fld.HIF_PORT_CNT_CTO_CNT (f / 128))

/-- SHADOW_TAIL_POLL at level 3: a valid value counts as a write of HIF_DB_CMD, an invalid one sets DB_ERR, and a failed read sets ERROR
with cause 6. While the port has 256 reads outstanding the poll waits (R351). -/
def execShadowTailPoll (fn : Fin 256) (tail : TailRead) (s : State) : Host.Outcome State Fault Refusal :=
  let f := fn.val
  .next (if s.fnOpen f ∧ s.rd (Fld.HIF_FN_STAT_LEVEL f) = 3 ∧ s.tagFree f then
    match tail with
    | .error => s.fnError f 6
    | .timeout => (s.cto f).fnError f 6
    | .tail v => s.dbCmd f (v.toNat % 65536)
  else s)

/-! ### The fetch (R362, R370, R376, R384) -/

/-- Refill both buckets of a function to the present TB3 (R384), in units of 10^-9 token. -/
def State.refill (s : State) (f : Nat) : State :=
  let now := (s.base 3).count
  s.setFn f (fun h =>
    let dt := now - h.refilled
    { h with tokens := min (s.capDescBurst f * 1000000000) (h.tokens + dt * s.capDescRate f * 1000),
             sigTokens := min 64000000000 (h.sigTokens + dt * s.capSigRate f), refilled := now })

/-- The tokens a descriptor takes are there; a function without a valid record has no allowance to spend. -/
def State.allowed (s : State) (f : Nat) (d : Descr) : Bool :=
  !s.capValid f || (decide (0 < s.capDescRate f) && decide (1000000000 ≤ (s.fn f).tokens) &&
    (decide (d.auth.toNat < 2) || decide (1000000000 ≤ (s.fn f).sigTokens)))

/-- A set-point is staged as its verification completes, unless the module is not active (R27, R344) or the descriptor may not take effect
yet: earlier ones of R365's order or, with ORDER, any earlier one are still in flight (R363, R370). -/
def State.stage (s : State) (f : Nat) (x : InFlight) : State :=
  match x.d.body with
  | .setpoint c q v => if s.activeOrSolo ∧ s.eligible f x then s.putSetpoint f x.serial c q v else s
  | _ => s

/-- Take one fetched descriptor: it is checked, and refused with a completion or accepted (R365). -/
def State.accept (s : State) (f index : Nat) (d : Descr) : State :=
  let x : InFlight := { serial := (s.fn f).count, index := index, d := d, tVerify := 0, at' := .accepted, staged := none }
  let s := s.setFn f (fun h => { h with inflight := h.inflight ++ [x], count := h.count + 1 })
  if (d.auth = 2 ∨ d.auth = 3) ∧ d.bufLen ≠ 0 ∧ d.buf = .waiting ∧ s.checkForm f index d = none ∧ s.checkSession f d = none then
    -- The read of the buffer is outstanding.
    ((s.setProgress f x.serial .reading).wr (Fld.HIF_PORT_TAGS_OUT (f / 128)) (s.rd (Fld.HIF_PORT_TAGS_OUT (f / 128)) + 1)).showFn f
  else
    let (s, r) := s.checkDescr f index d
    let tv := if d.auth = 1 ∨ d.auth = 2 then s.ts32 3 else 0
    let x := { x with tVerify := tv }
    let s := s.setInFlight f x.serial (fun _ => x)
    match r with
    | some (st, at') => (if st = .hostTimeout then s.cto f else s).done f x st 0 at'
    | none => (s.stage f x).showFn f

/-- The turn of a function is skipped for want of allowance (R376). -/
def State.skipTurn (s : State) (f : Nat) : State := (s.bump (Fld.HIF_FN_CNT_THROTTLE_CNT f)).wr (Fld.HIF_FN_STAT_THROTTLED f) 1

/-- Fetch descriptors while slots are new, space, allowance and a free tag are there; `left` slots of the turn remain. -/
def State.fetch (s : State) (f : Nat) : List SlotFetch → Nat → State
  | [], _ => s
  | x :: t, left =>
    let head := s.rd (Fld.HIF_FN_CMD_PTR_HEAD f)
    let n := s.ringSize f 0
    let new := ringUsed n head (s.rd (Fld.HIF_FN_CMD_PTR_TAIL f))
    if new = 0 ∨ left = 0 ∨ ¬ s.mayAccept f ∨ ¬ s.tagFree f then (if new = 0 then s.wr (Fld.HIF_FN_STAT_THROTTLED f) 0 else s).showFn f else
    match x with
    | .error => s.fnError f 5
    | .timeout => (s.cto f).fnError f 5
    | .slot r =>
      let d := readDescr r
      let need := if d.auth = 2 ∧ head + 1 ≠ n then 2 else 1
      if new < need ∨ left < need then s.showFn f else
      let s := s.refill f
      if ¬ s.allowed f d then
        -- A turn that has fetched slots already is not a skipped one.
        if left = 8 then s.skipTurn f else s.wr (Fld.HIF_FN_STAT_THROTTLED f) 1
      else
        let s := s.wr (Fld.HIF_FN_STAT_THROTTLED f) 0
        let s := s.setFn f (fun h => { h with tokens := h.tokens - 1000000000,
                                              sigTokens := if 2 ≤ d.auth.toNat then h.sigTokens - 1000000000 else h.sigTokens })
        let s := s.wr (Fld.HIF_FN_CMD_PTR_HEAD f) ((head + need) % n)
        (s.accept f head d).fetch f t (left - need)

/-- The fetch arbiter looks at a function: it is open and not stopped, it has new slots, and its completion ring has space (R376). -/
def State.wantsFetch (s : State) (f : Nat) : Bool :=
  s.fnOpen f && !(s.fn f).closing && !s.flag (Fld.HIF_FN_STAT_ERROR f) && s.mayAccept f &&
    s.rd (Fld.HIF_FN_CMD_PTR_HEAD f) != s.rd (Fld.HIF_FN_CMD_PTR_TAIL f)

/-- A function has the token of a descriptor (R384). -/
def State.hasToken (s : State) (f : Nat) : Bool :=
  !s.capValid f || (decide (0 < s.capDescRate f) && decide (1000000000 ≤ ((s.refill f).fn f).tokens))

/-- The functions that come before `f` in its port's round robin, after the one served last, and want a turn (R376). -/
def State.aheadOf (s : State) (f : Nat) : List Nat :=
  let last := FMap.get 127 s.qos.fetched (f / 128)
  (((List.range 128).map (fun i => f / 128 * 128 + (last + 1 + i) % 128)).takeWhile (· != f)).filter s.wantsFetch

/-- DESCRIPTOR_FETCH (R376): the function's turn of its port's arbiter, at most 8 slots; `slots` holds what the reads of its slots bring
(R362). Functions ahead of it that want a turn and have spent their allowance are skipped and counted; while one of them has an allowance
it is not this function's turn. -/
def execDescriptorFetch (fn : Fin 256) (slots : List SlotFetch) (s : State) : Host.Outcome State Fault Refusal :=
  let f := fn.val
  let ahead := s.aheadOf f
  .next (if s.wantsFetch f ∧ ¬ ahead.any s.hasToken then
    let s := ahead.foldl (fun (s : State) g => s.skipTurn g) s
    (({ s with qos := { s.qos with fetched := FMap.set 127 s.qos.fetched (f / 128) (f % 128) } } : State)).fetch f slots 8
  else s)

/-- HOST_READ_TIMEOUT (R376, R377): the descriptor whose read is not answered fails with HOST_TIMEOUT; of a function
that was reset since, a held tag is free. -/
def execHostReadTimeout (fn : Fin 256) (index : BitVec 16) (s : State) : Host.Outcome State Fault Refusal :=
  let f := fn.val
  let p := f / 128
  match (s.fn f).inflight.find? (fun x => x.index == index.toNat && x.at' == .reading) with
  | some x =>
    .next (((s.wr (Fld.HIF_PORT_TAGS_OUT p) (s.rd (Fld.HIF_PORT_TAGS_OUT p) - 1)).cto f).done f x .hostTimeout 0 16)
  | none =>
    .next (if 0 < (s.fn f).held then
      let s := s.setFn f (fun h => { h with held := h.held - 1 })
      (s.wr (Fld.HIF_PORT_TAGS_HELD p) (s.rd (Fld.HIF_PORT_TAGS_HELD p) - 1)).cto f
    else s)

/-! ### Events and interrupts (R373, R375) -/

/-- EVENT_RING_SPACE: queued records are written while the ring has space. -/
def execEventRingSpace (fn : Fin 256) (s : State) : Host.Outcome State Fault Refusal :=
  .next (if s.fnOpen fn.val then s.drainEvents fn.val 65 else s)

/-- MSIX_HOLD_EXPIRE: HOLD_US after the first unsignalled record. -/
def execMsixHoldExpire (fn : Fin 256) (vector : Fin 4) (s : State) : Host.Outcome State Fault Refusal :=
  let x := s.vector fn.val vector.val
  .next (if 0 < x.unsig ∧ x.first + 1000 * s.rd (Fld.HIF_FN_MOD_HOLD_US fn.val vector.val) ≤ (s.base 3).count then s.sendMsix fn.val vector.val else s)

/-- MSIX_RATE_CAP_EXPIRE: 1 / cap after the last message a waiting message goes out. -/
def execMsixRateCapExpire (fn : Fin 256) (vector : Fin 4) (s : State) : Host.Outcome State Fault Refusal :=
  .next (if s.msixFree fn.val vector.val then
    let s := s.setVector fn.val vector.val (fun x => { x with capped := false })
    if (s.vector fn.val vector.val).waits then s.sendMsix fn.val vector.val else s
  else s)

/-! ### Resets and links (R377 to R379) -/

/-- FUNCTION_LEVEL_RESET: on a physical function every enabled virtual function is reset as well and VF Enable is
cleared (R378). -/
def State.flr (s : State) (f : Nat) : State :=
  let p := f / 128
  let s := (s.resetFn f).bump (Fld.HIF_PORT_CNT_FLR_CNT p)
  if isPF f then
    let n := s.rd (Fld.HIF_PORT_STAT_NUM_VF p)
    ((List.range n).foldl (fun s i => s.resetFn (f + 1 + i)) s).wr (Fld.HIF_PORT_STAT_NUM_VF p) 0
  else s

/-- FUNCTION_LEVEL_RESET: a configuration write of a host, which reaches the function once its port answers (R70). -/
def execFunctionLevelReset (fn : Fin 256) (s : State) : Host.Outcome State Fault Refusal :=
  .next (if s.portAnswers (fn.val / 128) then s.flr fn.val else s)

/-- FLR_BUSY ends when the function is ready again (R377). -/
def execFlrComplete (fn : Fin 256) (s : State) : Host.Outcome State Fault Refusal :=
  .next (s.wr (Fld.HIF_FN_STAT_FLR_BUSY fn.val) 0)

/-- PORT_RESET: PERST_N, a hot reset or a link-down acts as in R377 on every function of the port (R378). -/
def execPortReset (port : Fin 2) (s : State) : Host.Outcome State Fault Refusal :=
  let p := port.val
  let s := (List.range 128).foldl (fun s i => s.resetFn (128 * p + i)) s
  .next (s.wrs [(Fld.HIF_PORT_STAT_NUM_VF p, 0), (Fld.HIF_PORT_STAT_LINK_UP p, 0), (Fld.HIF_PORT_STAT_SPEED p, 0), (Fld.HIF_PORT_STAT_WIDTH p, 0)])

/-- PCIE_LINK_UP: an enabled port has trained its link; SPEED 1 to 5, and WIDTH 1, 2, 4 or 8 lanes (R351, R380). -/
def execPcieLinkUp (port : Fin 2) (speed : BitVec 3) (width : BitVec 4) (s : State) : Host.Outcome State Fault Refusal :=
  let p := port.val
  .next (if s.flag (Fld.HIF_PORT_STAT_ENABLED p) ∧ 1 ≤ speed.toNat ∧ speed.toNat ≤ 5 ∧ [1, 2, 4, 8].contains width.toNat then
    s.wrs [(Fld.HIF_PORT_STAT_LINK_UP p, 1), (Fld.HIF_PORT_STAT_SPEED p, speed.toNat), (Fld.HIF_PORT_STAT_WIDTH p, width.toNat)]
  else s)

/-! ### Writes into BAR0 (R354 to R356) -/

/-- A write of a function-register page by the host: registers of R355, doorbells, and the MSI-X table. A value outside a field's range is
refused as in R9, the block's INVALID_WR set; a non-dword write to the first two pages is discarded and sets ACC_ERR. -/
def State.barWrite (s : State) (f : Nat) (dword : Bool) (off v : Nat) : State :=
  let ready := s.fnReady f && !s.flag (Fld.HIF_FN_STAT_FLR_BUSY f)
  if 0x4000 ≤ off then s
  else if 0x2000 ≤ off then
    -- A table entry is message address, upper address, data and vector control: bit 0 of it masks, and an unmasked pending vector
    -- sends its message.
    let k := off / 16 % 4
    if ¬ dword ∨ 0x2040 ≤ off then s
    else if off % 16 = 0 then s.setVector f k (fun x => { x with addr := BitVec.ofNat 64 (x.addr.toNat / 2 ^ 32 * 2 ^ 32 + v / 4 * 4) })
    else if off % 16 = 4 then s.setVector f k (fun x => { x with addr := BitVec.ofNat 64 (x.addr.toNat % 2 ^ 32 + v * 2 ^ 32) })
    else if off % 16 = 8 then s.setVector f k (fun x => { x with data := BitVec.ofNat 32 v })
    else if off % 16 = 12 then
      let s := s.setVector f k (fun x => { x with masked := bitOf v 0 })
      if ¬ bitOf v 0 ∧ (s.vector f k).pending then
        (s.setVector f k (fun x => { x with pending := false })).sendMsix f k
      else s
    else s
  else if ¬ dword then (s.wr (Fld.HIF_FN_STAT_ACC_ERR f) 1).signal f 3
  else if off = 0x8 ∧ bitOf v 0 ∧ ¬ s.fnReady f then s.openFn f
  else if ¬ ready then s
  else if off = 0x1000 then s.dbCmd f v
  else if off = 0x1004 then s.dbCpl f v
  else if off = 0x1008 then s.dbEvt f v
  else if off = 0x100C then s.dbBlk f v
  else if off = 0x4 then
    let c := fun (s : State) (g : Field) => if bitOf v g.lsb then s.wr g 0 else s
    [Fld.HIF_FN_STAT_DB_ERR f, Fld.HIF_FN_STAT_ACC_ERR f, Fld.HIF_FN_STAT_WR_IGN f, Fld.HIF_FN_STAT_EVT_OVF f].foldl c s
  else if off = 0x3C then s.wr (Fld.HIF_FN_EVT_MASK_TYPES f) (v / 2 % 512 ||| 3)
  else if off = 0x60 ∨ off = 0x68 ∨ off = 0x70 ∨ off = 0x78 then
    let k := (off - 0x60) / 8
    if v / 2 ^ 16 % 256 = 0 then s.raise Fld.HIF_GSTAT_INVALID_WR f else
    s.wrs [(Fld.HIF_FN_MOD_HOLD_US f k, v), (Fld.HIF_FN_MOD_COUNT f k, v / 2 ^ 16), (Fld.HIF_FN_MOD_RATE f k, v / 2 ^ 24)]
  else if off = 0x8 then
    let s := if s.fnOpen f then s.wr (Fld.HIF_FN_STAT_WR_IGN f) 1 else s.wr (Fld.HIF_FN_CTL_LEVEL_MAX f) (v / 4)
    let s := if bitOf v 0 then s.openFn f else s
    if bitOf v 1 then s.closeFn f else s
  else
    -- Ring registers, shadow tail and poll interval: ignored while the rings are open (R356).
    let ring := (0x10 ≤ off ∧ off < 0x4C ∧ off % 16 ≠ 12)
    if ring ∨ off = 0x50 ∨ off = 0x54 ∨ off = 0x58 then
      if s.fnOpen f then s.wr (Fld.HIF_FN_STAT_WR_IGN f) 1
      else if off = 0x50 then (if v % 8 = 0 then s.wr (Fld.HIF_FN_SHTAIL_LO_ADDR f) v else s.raise Fld.HIF_GSTAT_INVALID_WR f)
      else if off = 0x54 then s.wr (Fld.HIF_FN_SHTAIL_HI_ADDR f) v
      else if off = 0x58 then (if 1 ≤ v % 1024 ∧ v % 1024 ≤ 1000 then s.wr (Fld.HIF_FN_SHPOLL_POLL_US f) v else s.raise Fld.HIF_GSTAT_INVALID_WR f)
      else
        let r := off / 16 - 1
        if off % 16 = 0 then s.wr (Fld.HIF_FN_RING_BASE_LO_ADDR f r) v
        else if off % 16 = 4 then s.wr (Fld.HIF_FN_RING_BASE_HI_ADDR f r) v
        else s.wr (Fld.HIF_FN_RING_SIZE_LOG2 f r) v
    else s

end Sys2Proof.Machine
end

