-- ==== Sys2Proof/Machine/Traffic.lean ====
section
/-! DEFINITION. Sharing of the memories (R18, R409, R419 to R421): in each 1 us window the granules that wait are granted by class, within
a class by deficit round robin over its requesters, up to the DRAM's remainder, the functions' C3 buckets and the cap per function
and bank. -/

namespace Sys2Proof.Machine

/-- The number by which a requester takes its turn. -/
def requesterKey : Requester → Nat
  | .fn f => f.val
  | .dma k => 256 + k.val

/-- The bank of a granule, as one number over both memories (R412, R414); the other resources have none. -/
def State.granuleBank (s : State) (g : Granule) : Nat :=
  match g.res with
  | .sram => 2 * s.sramBank g.addr
  | .dram => 2 * s.dramBank g.addr + 1
  | .die => 0
  | .hif => 0

/-- The granule is of one of the two memories. -/
def inMemory (g : Granule) : Bool := g.res == .sram || g.res == .dram

/-- The port a granule asks for (R18): the port of its SRAM bank, its DRAM channel, the die-to-die interface or the HIF DMA engine. -/
def State.portOf (s : State) (g : Granule) : Nat :=
  match g.res with
  | .sram => s.sramBank g.addr % 64
  | .dram => 64 + s.dramBank g.addr % 32
  | .die => 96
  | .hif => 97

/-- What a C3 granule takes from its function's bucket, and the bucket's depth, in thousandths of a token (R420). -/
def granuleTokens : Nat := 64000
def bulkDepth : Nat := 65536000

/-- What the bucket of function `f` lacks now: BULK_RATE MB/s is BULK_RATE thousandths of a token in 1 ns. -/
def State.bulkLack (s : State) (f : Nat) : Nat :=
  let b := FMap.get (0, 0) s.qos.bulk f
  b.1 - s.capBulkRate f * ((s.base 3).count - b.2)

/-- One window as it is served: what waits, the functions' lacks of tokens, the granules granted by function and bank and by port, the
requester whose turn is next at each port and class, and the activations of each DRAM row. -/
structure ShareRound where
  waiting : List (Granule × Bool)
  lack    : FMap Nat
  banks   : FMap Nat
  ports   : FMap Nat
  turns   : FMap Nat
  rows    : FMap Nat
deriving DecidableEq, Repr

/-- The function's bucket holds the tokens of a granule moved to or from a memory. -/
def ShareRound.tokensFor (r : ShareRound) (g : Granule) : Bool :=
  match g.who, g.cls with
  | .fn f, .c3 => !inMemory g || decide (FMap.get 0 r.lack f.val + granuleTokens ≤ bulkDepth)
  | .fn _, _ => true
  | .dma _, _ => true

/-- Where the grants of a function at a bank are counted. -/
def bankKeyOf (f bank : Nat) : Nat := 256 * bank + f

/-- The cap of R421 leaves room for the granule. -/
def ShareRound.capFor (r : ShareRound) (s : State) (g : Granule) : Bool :=
  match g.who with
  | .fn f => !inMemory g || decide (FMap.get 0 r.banks (bankKeyOf f.val (s.granuleBank g)) < s.rd Fld.QOS_CFG_BANKCAP)
  | .dma _ => true

/-- Granules a port serves in a window of 1 us: one in 4.0 ns at an SRAM bank (R411), its share of the usable bandwidth at a DRAM channel
(R414); of the other two the spec gives no rate (DEDUCED, log 153). -/
def State.portCap (s : State) (res : Resource) : Option Nat :=
  match res with
  | .sram => some 250
  | .dram => some (1000 * s.rd Fld.MEM_DRAM_STAT_BW_GBS / 2048)
  | .die => none
  | .hif => none

/-- The granule's port has a grant left in this window. -/
def ShareRound.portFree (r : ShareRound) (s : State) (g : Granule) : Bool :=
  match s.portCap g.res with
  | some n => decide (FMap.get 0 r.ports (s.portOf g) < n)
  | none => true

/-- Activations of a row within a refresh interval before its neighbours must be refreshed (R416). -/
def rowLimit : Nat := 4096

/-- The DRAM row that the granule activates. -/
def activates (g : Granule) : Option Activation := if g.res = .dram then g.opens else none

/-- The row that the granule activates does not wait for a targeted refresh (R416). -/
def ShareRound.rowFree (r : ShareRound) (g : Granule) : Bool :=
  match activates g with
  | some a => decide (FMap.get 0 r.rows a.row.toNat < rowLimit)
  | none => true

/-- An activation counts within the row's refresh interval. -/
def ShareRound.activate (r : ShareRound) (g : Granule) : ShareRound :=
  match activates g with
  | some a => { r with rows := FMap.set 0 r.rows a.row.toNat (if a.fresh then 1 else FMap.get 0 r.rows a.row.toNat + 1) }
  | none => r

/-- The granule is of the resource and class being served and may be granted. -/
def ShareRound.mayGrant (r : ShareRound) (s : State) (res : Resource) (c : TrafficClass) (g : Granule) : Bool :=
  g.res == res && g.cls == c && r.tokensFor g && r.capFor s g && r.portFree s g && r.rowFree g

/-- The requester that is served next: the first from the turn on, else the first of all. -/
def turnFrom (turn : Nat) (ks : List Nat) : Option Nat :=
  match (ks.filter (fun k => decide (turn ≤ k))).min? with
  | some k => some k
  | none => ks.min?

/-- Where the turn of a class at a port is kept. -/
def turnKey (port : Nat) (c : TrafficClass) : Nat := 4 * port + (match c with | .c1 => 1 | .c2 => 2 | .c3 => 3)

/-- The next granule granted (R409): at the port of the oldest that may be granted, the oldest of the requester whose turn it is there. -/
def ShareRound.pick (r : ShareRound) (s : State) (res : Resource) (c : TrafficClass) : Option (Granule × Bool) :=
  let may := r.waiting.filter (fun x => r.mayGrant s res c x.1)
  match may.head? with
  | none => none
  | some x =>
    let port := s.portOf x.1
    let here := may.filter (fun y => s.portOf y.1 == port)
    match turnFrom (FMap.get 0 r.turns (turnKey port c)) (here.map (fun y => requesterKey y.1.who)) with
    | some k => here.find? (fun y => requesterKey y.1.who == k)
    | none => none

/-- Grant one granule: it is the requester's one granule of the turn. -/
def ShareRound.grant (r : ShareRound) (s : State) (x : Granule × Bool) : ShareRound :=
  let port := s.portOf x.1
  let r := r.activate x.1
  let r := { r with waiting := r.waiting.erase x, ports := FMap.modify 0 r.ports port (· + 1),
                    turns := FMap.set 0 r.turns (turnKey port x.1.cls) (requesterKey x.1.who + 1) }
  match x.1.who with
  | .dma _ => r
  | .fn f =>
    if inMemory x.1 then
      { r with
        lack := if x.1.cls = .c3 then FMap.modify 0 r.lack f.val (· + granuleTokens) else r.lack
        banks := FMap.modify 0 r.banks (bankKeyOf f.val (s.granuleBank x.1)) (· + 1) }
    else r

/-- Serve one class at one resource, at most `n` granules. -/
def ShareRound.serve (s : State) (res : Resource) (c : TrafficClass) : Nat → ShareRound → ShareRound
  | 0, r => r
  | n + 1, r => match r.pick s res c with
    | some x => ShareRound.serve s res c n (r.grant s x)
    | none => r

/-- C2 and C3 granules that the DRAM controller grants in a window: the usable bandwidth less the admitted C1 rate (R419). -/
def State.dramRemainder (s : State) : Nat :=
  (1000 * s.rd Fld.MEM_DRAM_STAT_BW_GBS - ceilDiv (100 * s.rd Fld.QOS_DEM_DRAM_BYTES) s.timeline.p10) / 64

/-- What a back-pressure test leaves of `n` grants (R537, kind 1). -/
def State.afterPressure (s : State) (n : Nat) : Nat := if s.pert 1 then n * (100 - s.inForce Fld.HKP_PERT_BP_PCT) / 100 else n

/-- A class at one resource, served `n` granules at most; what is left of them is answered. -/
def ShareRound.share (r : ShareRound) (s : State) (res : Resource) (c : TrafficClass) (n : Nat) : ShareRound × Nat :=
  let m := r.waiting.length
  let r := ShareRound.serve s res c (min n m) r
  (r, n - (m - r.waiting.length))

/-- Count each wait under R420 and R421 once: the granule waits for its bank's cap or for its function's tokens. -/
def State.countWaits (s : State) (r : ShareRound) : State × List (Granule × Bool) :=
  r.waiting.foldl (fun (a : State × List (Granule × Bool)) x =>
    match x.1.who with
    | .fn f =>
      let cap := !r.capFor s x.1
      let tok := !r.tokensFor x.1
      if (cap || tok) && !x.2 then
        let t := a.1.bump (Fld.QOS_FN_CNT_CNT f.val)
        (if cap then t.bump Fld.QOS_CNT_BANKCAP_CNT else t, a.2 ++ [(x.1, true)])
      else (a.1, a.2 ++ [x])
    | .dma _ => (a.1, a.2 ++ [x])) (s, [])

/-- What the buckets lack as a window begins. -/
def State.lacks (s : State) : FMap Nat := (List.range 256).foldl (fun m f => FMap.set 0 m f (s.bulkLack f)) []

/-- SHED_WINDOW: a 1 us window in which `reqs` arrive after what waits. At every resource C1 is served before C2 and C2 before C3 (R18):
of the DRAM, C2 and C3 within the remainder, and of the other resources as far as shedding by cadence margin lets them (R17, R419). A
back-pressure test withholds its part of the grants of every class (R537). -/
def execShedWindow (reqs : List Granule) (s : State) : Host.Outcome State Fault Refusal :=
  let all := s.qos.waiting ++ reqs.map (fun g => (g, false))
  let r : ShareRound := { waiting := all, lack := s.lacks, banks := [], ports := [], turns := s.qos.turns, rows := s.qos.rows }
  let n := s.afterPressure all.length
  let fabric := [Resource.sram, .die, .hif]
  let r := (fabric ++ [Resource.dram]).foldl (fun (r : ShareRound) res => (r.share s res .c1 n).1) r
  let (r, left) := r.share s .dram .c2 (s.afterPressure s.dramRemainder)
  let c2Short := left == 0 && (r.pick s .dram .c2).isSome
  let (r, left) := r.share s .dram .c3 left
  let c3Short := left == 0 && (r.pick s .dram .c3).isSome
  let r := fabric.foldl (fun (r : ShareRound) res => (r.share s res .c2 (if 2 ≤ s.cad.shed then 0 else n)).1) r
  let r := fabric.foldl (fun (r : ShareRound) res => (r.share s res .c3 (if 1 ≤ s.cad.shed then 0 else n)).1) r
  let (s, waiting) := s.countWaits r
  let now := (s.base 3).count
  let s : State := { s with
    dramShed := if c2Short then 2 else if c3Short then 1 else 0
    qos := { s.qos with waiting := waiting, bulk := r.lack.map (fun p => (p.1, (p.2, now))), turns := r.turns, rows := r.rows } }
  let s := s.showShed
  let s := if c2Short ∨ c3Short then s.bump Fld.QOS_CNT_SHED3_CNT else s
  .next (if c2Short then s.bump Fld.QOS_CNT_SHED2_CNT else s)

end Sys2Proof.Machine
end

