-- ==== Sys2Proof/Machine/Memory.lean ====
section
/-! DEFINITION. Traffic and memory (R410 to R425): errors of the cycle SRAM and its spare banks, the DRAM's
temperature and row refreshes, and the counters. -/

namespace Sys2Proof.Machine

/-- What the DRAM temperature `t` (°C) gives: TDRAM, DRAM_HOT, and usable bandwidth and refresh (R59, R414). -/
def State.dramTemp (s : State) (t : BitVec 8) : State :=
  let hot := decide (85 < t.toInt)
  let hot2 := decide (105 < t.toInt)
  s.wrs [(Fld.HKP_THERM_TDRAM, t.toNat), (Fld.HKP_THERM_DRAM_HOT, if hot then 1 else 0),
    (Fld.MEM_DRAM_STAT_BW_GBS, if hot2 then 160 else if hot then 220 else 256), (Fld.MEM_DRAM_STAT_REFRESH, if hot2 then 2 else if hot then 1 else 0)]

/-- The tests of R417 run as a DRAM temperature flag changes. There is nothing to refuse: a failure is shown. -/
def State.testMemory (s : State) : State := (s.raiseIf (!s.memoryFits s.timeline) Fld.QOS_STAT_NOFIT).showFits

/-- DRAM_TEMP_CHANGE: usable bandwidth and refresh by temperature (R414); the tests of R417 run again. -/
def execDramTempChange (tdram : BitVec 8) (s : State) : Host.Outcome State Fault Refusal :=
  .next (((s.dramTemp tdram).raiseIf (decide (105 < tdram.toInt)) Fld.MEM_EVT_DRAM_HOT2).testMemory)

/-- FEED_MEASURE_REFRESH: every 1 ms the measured values with what they show at once: which feed carries (R38, R54), the flags
of a junction or DRAM temperature that this value is the first to reach (R52, R59, R414), and the fans (R536). -/
def execFeedMeasureRefresh (mvA currA mvB currB : BitVec 16) (coreMv : BitVec 10) (tj tdram : BitVec 8)
    (s : State) : Host.Outcome State Fault Refusal :=
  let was := sint8 (s.rd Fld.HKP_THERM_TJ)
  let ref := s.rd Fld.MEM_DRAM_STAT_REFRESH
  let s := s.wrs [(Fld.HKP_FEED_MEAS_MV 0, mvA.toNat), (Fld.HKP_FEED_MEAS_CURR 0, currA.toNat),
    (Fld.HKP_FEED_MEAS_MV 1, mvB.toNat), (Fld.HKP_FEED_MEAS_CURR 1, currB.toNat),
    (Fld.HKP_RAIL_STAT_CORE_MEAS_MV, coreMv.toNat), (Fld.HKP_THERM_TJ, tj.toNat)]
  let s := (((s.setFeed .a (fun x => { x with mv := mvA.toNat })).setFeed .b (fun x => { x with mv := mvB.toNat })).showFeeds).dramTemp tdram
  let s := (s.raiseIf (decide (was < 110 ∧ 110 ≤ tj.toInt)) Fld.HKP_THERM_TJ_HOT).raiseIf (decide (was < 125 ∧ 125 ≤ tj.toInt)) Fld.HKP_THERM_TJ_CRIT
  let s := s.raiseIf (decide (ref < 2 ∧ s.rd Fld.MEM_DRAM_STAT_REFRESH = 2)) Fld.MEM_EVT_DRAM_HOT2
  .next ((if s.rd Fld.MEM_DRAM_STAT_REFRESH = ref then s else s.testMemory).fansUpdate)

/-- TARGETED_ROW_REFRESH (R416): every row activated 4,096 times within a refresh interval has its neighbours refreshed, counted once a
row, and may be activated again. -/
def execTargetedRowRefresh (s : State) : Host.Outcome State Fault Refusal :=
  let due := s.qos.rows.filter (fun p => decide (rowLimit ≤ p.2))
  let rest := s.qos.rows.filter (fun p => decide (p.2 < rowLimit))
  .next (({ s with qos := { s.qos with rows := rest } } : State).bump Fld.MEM_CNT_TRR_CNT due.length)

/-! ### Counters (R424) -/

/-- QOS_CTL.CNT_CLR (R424). -/
def State.qosCntClr (s : State) : State :=
  (s.wrs [(Fld.QOS_CNT_C1MISS_CNT, 0), (Fld.QOS_CNT_SHED3_CNT, 0), (Fld.QOS_CNT_SHED2_CNT, 0), (Fld.QOS_CNT_BANKCAP_CNT, 0)]).resetRange 0x9101000 0x9101400

def execQosCntClr (u : Core) (s : State) : Host.Outcome State Fault Refusal := .next (s.asWriter u 17 (fun s => s.qosCntClr))

/-! ### Spare banks (R422, R423) -/

/-- The first physical bank in state `st` (R425). -/
def State.bankIn (s : State) (st : Nat) : Option Nat := (List.range 64).find? (fun b => s.rd (Fld.MEM_BANKSTAT_STATE b) == st)

/-- LEFT and BUSY of MEM_SPARE_CTL. -/
def State.showBanks (s : State) : State :=
  let left := ((List.range 64).filter (fun b => s.rd (Fld.MEM_BANKSTAT_STATE b) == 1)).length
  s.wrs [(Fld.MEM_SPARE_CTL_LEFT, left), (Fld.MEM_SPARE_CTL_BUSY, if (s.bankIn 3).isSome then 1 else 0)]

/-- A logical bank is being swapped. -/
def State.swapping (s : State) (l : Nat) : Bool := s.rd (Fld.MEM_BANKSTAT_STATE (s.rd (Fld.MEM_BANKMAP_PHYS l))) == 2

/-- Swap logical bank `l` to the next spare, or set NO_SPARE. -/
def State.startSwap (s : State) (l : Nat) : State :=
  if s.swapping l then s
  else match s.bankIn 1 with
  | none => s.raise Fld.MEM_EVT_NO_SPARE l
  | some t => (s.wrs [(Fld.MEM_BANKSTAT_STATE (s.rd (Fld.MEM_BANKMAP_PHYS l)), 2), (Fld.MEM_BANKSTAT_STATE t, 3), (Fld.MEM_BANKSTAT_LOGICAL t, l)]).showBanks

/-- MEM_SPARE_CTL.START: refused for a bank above 59 or one being swapped. -/
def State.spareStart (s : State) (l : Nat) : State :=
  if 59 < l ∨ s.swapping l then s.raise Fld.MEM_EVT_INVALID_WR l
  else (s.wr Fld.MEM_SPARE_CTL_SRC l).startSwap l

/-- BANK_SWAP_START: START written by a core, or, with `u` none, MGC3's own: `corrected` errors within one hour are counted
in the bank's CORR, and with AUTO = 1 more than CORR_LIMIT start a swap (R413, R422). -/
def execBankSwapStart (u : Option Core) (bank : BitVec 6) (corrected : Nat) (s : State) : Host.Outcome State Fault Refusal :=
  .next (match u with
    | some u => s.asWriter u 18 (fun s => s.spareStart bank.toNat)
    | none =>
      if 59 < bank.toNat then s
      else
        let s := s.bump (Fld.MEM_BANKSTAT_CORR (s.rd (Fld.MEM_BANKMAP_PHYS bank.toNat))) corrected
        if s.flag Fld.MEM_CFG_AUTO ∧ s.rd Fld.MEM_CFG_CORR_LIMIT < corrected then s.startSwap bank.toNat else s)

/-- The copy target of a logical bank. -/
def State.swapTarget (s : State) (l : Nat) : Option Nat :=
  (List.range 64).find? (fun b => s.rd (Fld.MEM_BANKSTAT_STATE b) == 3 && s.rd (Fld.MEM_BANKSTAT_LOGICAL b) == l)

/-- BANK_SWAP_SWITCH: the copy has ended; the target serves the logical bank and the source is retired. -/
def execBankSwapSwitch (bank : Fin 60) (s : State) : Host.Outcome State Fault Refusal :=
  let l : Nat := bank
  .next (match s.swapTarget l with
    | none => s
    | some t =>
      let src := s.rd (Fld.MEM_BANKMAP_PHYS l)
      let s := s.wrs [(Fld.MEM_BANKMAP_PHYS l, t), (Fld.MEM_BANKSTAT_STATE t, 0), (Fld.MEM_BANKSTAT_STATE src, 4), (Fld.MEM_BANKSTAT_LOGICAL src, 63)]
      (s.showBanks).raise Fld.MEM_EVT_SWAP_DONE l)

/-! ### Uncorrectable errors (R413, R423) -/

/-- The consumer of a poisoned granule. -/
def State.poisoned (s : State) : Poison → State
  | .other => s
  | .sample n k => s.setCell (cellId n k) (fun x => if x.lstate = .free then x else { x with outcome := .noLock, sampleOk := false })
  | .input e a => s.ueccData e a

/-- The logical address of the granule of row `q` that lies in logical bank `l` (R412). -/
def State.sramAddr (s : State) (l q : Nat) : Nat := 64 * (60 * q + (s.bankRow q).idxOf l)

/-- SRAM_UNCORRECTABLE: in a row of a logical bank, whose granule is rewritten as 0 and reaches its consumer poisoned, or in the target
of the bank's swap. -/
def execSramUncorrectable (place : SramRow) (inTarget : Bool) (what : Poison) (s : State) : Host.Outcome State Fault Refusal :=
  let l : Nat := place.bank
  let s := ((s.bump Fld.MEM_CNT_UECC_CNT).raise Fld.MEM_EVT_UECC_SRAM l).raiseYield 1
  .next (match (if inTarget then s.swapTarget l else none) with
    | some t =>
      let s := (s.wrs [(Fld.MEM_BANKSTAT_STATE t, 4), (Fld.MEM_BANKSTAT_LOGICAL t, 63)]).raise Fld.MEM_EVT_SWAP_FAIL l
      -- The source goes on; the next spare starts.
      let s := s.wr (Fld.MEM_BANKSTAT_STATE (s.rd (Fld.MEM_BANKMAP_PHYS l))) 0
      (s.startSwap l).showBanks
    | none => ((s.putBytes (sramBase + s.sramAddr l place.row.val) (List.replicate 64 0)).poisoned what).startSwap l)

end Sys2Proof.Machine
end

