-- ==== Sys2Proof/Machine/RegRead.lean ====
section
/-! DEFINITION. Reads of set-up registers (R8, R9, R21, R366, R521): one 32-bit word put together from its fields, the live
fields as they stand, and the few reads that act. -/

namespace Sys2Proof.Machine

/-! ### Live fields (R8, R523) -/

/-- The state with the live fields of the register at table base `b`, indices `i` and `j`, as they stand now. The other live
fields of the manual are updated where they change. -/
def State.shown (s : State) (b i : Nat) : State :=
  if b = 0x8400000 then s.wr Fld.LPW_BLK_STAT_SRC_LIVE s.liveMask.toNat
  else if b = 0x8400010 then s.wrB (Fld.LPW_BIN_CFG_LIVE i) (s.pinActive i)
  else if b = 0x8300004 then s.wrB Fld.ADC_GSTAT_IN_CLIP s.inClip
  else if b = 0x8701014 then
    s.wrB (Fld.STP_SV_STAT_STALE i) (s.svStale i (s.time.boundaryTick + s.inTick) (s.time.boundaryTb2 + s.inTick * 5 / 4))
  else if b = 0x810002c then s.wr Fld.VLY_STAT_SLACK s.slack
  else if b = 0x8900030 then s.wr Fld.SEC_TIME_LO_SEC s.tSec
  else if b = 0x8900034 then s.wr Fld.SEC_TIME_HI_SEC (s.tSec / 2 ^ 32)
  else if b = 0x8900038 then (s.wrB Fld.SEC_TIME_STAT_SYNC s.tb0Sync).wrB Fld.SEC_TIME_STAT_FLOOR s.floorUsed
  else if b = 0x8b0001c then s.wr Fld.TND_DIGEST_OWN s.digest.toNat
  else if b = 0x8d00304 then s.wrB Fld.HKP_FAN_GSTAT_BOOST s.fanBoost
  else if b = 0x9010010 then (s.wrB (Fld.IRQ_SRC_STAT_RAW i) (s.irqRaw i)).wrB (Fld.IRQ_SRC_STAT_PENDING i) (s.irqPending i)
  else if b = 0x9000100 then s.wrB (Fld.IRQ_CORE_EXT i) (s.irqCandidate i).isSome
  else if b = 0x10000000004 then (s.wrB (Fld.HIF_FN_STAT_READY i) (s.fnReady i)).wrB (Fld.HIF_FN_STAT_STANDBY i) s.standby
  else s

/-! ### One word -/

/-- The word of a register: its fields at their places; reserved and write-only bits read 0 (R8, R9). -/
def State.regWord (s : State) (d : RegDef) (i j : Nat) : Nat :=
  d.fields.foldl (fun a fd => if fd.acc = .wo then a else a + s.rd (fd.fld i j) * 2 ^ (fd.fld i j).lsb) 0

/-- One word of a history queue (R521): entries 0 to 7, then HIST_STAT. -/
def State.histWord (s : State) (u o : Nat) : Nat :=
  let h := s.history u
  if o = 0x80 then h.count + h.newest * 2 ^ 4 + h.seq.toNat * 2 ^ 16
  else ((FMap.get HistEntry.reset h.entries (o / 16)).bits >>> (32 * (o / 4 % 4))).toNat % 2 ^ 32

/-- Read the word at an offset of a block: its value, and the state after the read. A read of TBS_TBn_NS latches the rest
(R455), one of IRQ_EQq_POP pops (R501); an unmapped word reads 0 (R21). -/
def State.readWord (s : State) (blk offset : Nat) : Nat × State :=
  match histAt blk offset with
  | some (u, o) => (s.histWord u o, s)
  | none =>
    match findReg regTable (blockAddr blk offset) with
    | none => (0, s)
    | some (d, i, j) =>
      if d.base = 0x8600000 then
        let b := s.base i
        let s := s.wrs [(Fld.TBS_TB_NS_NS i, b.ns), (Fld.TBS_TB_SEC_LO_SEC i, b.sec), (Fld.TBS_TB_SEC_HI_SEC i, b.sec / 2 ^ 32), (Fld.TBS_TB_FRAC_FRAC i, b.frac)]
        (s.regWord d i j, s)
      else if d.base = 0x908000c then
        let s := s.eqPop i
        (s.regWord d i j, s)
      else ((s.shown d.base i).regWord d i j, s)

/-! ### BAR0 (R353 to R355, R361) -/

/-- The MSI-X table has 4 entries (R354). -/
def msixTableSize : Nat := 3

/-- What a host reads at an offset of BAR0 of a function: registers, doorbells with the value in force, the MSI-X table and its pending-bit
array; every other place, and a non-dword access, reads 0. A read of BAR0 changes nothing. -/
def State.barRead (s : State) (f : Nat) (dword : Bool) (off : Nat) : Nat :=
  if ¬ dword ∨ 0x4000 ≤ off then 0
  else if 0x3000 ≤ off then
    if off = 0x3000 then (List.range 4).foldl (fun a v => if (s.vector f v).pending then a + 2 ^ v else a) 0 else 0
  else if 0x2000 ≤ off then
    if 0x2040 ≤ off then 0 else
    let x := s.vector f (off / 16 % 4)
    [x.addr.toNat % 2 ^ 32, x.addr.toNat / 2 ^ 32, x.data.toNat, x.masked.toNat].getD (off / 4 % 4) 0
  else if 0x1000 ≤ off then
    [s.rd (Fld.HIF_FN_CMD_PTR_TAIL f), s.rd (Fld.HIF_FN_CPL_PTR_HEAD f), s.rd (Fld.HIF_FN_EVT_PTR_HEAD f),
      s.rd (Fld.HIF_FN_BLK_PTR_TAIL f)].getD ((off - 0x1000) / 4) 0
  else
    match findReg regTable (fnBase f + off) with
    | some (d, i, j) => (s.shown d.base i).regWord d i j
    | none => 0

end Sys2Proof.Machine
end

