-- ==== Sys2Proof/Machine/CoreBus.lean ====
section
/-! DEFINITION. What a core reaches on the internal bus (R19 to R23, R202, R228): the engine windows, and 32-bit reads of every
region of the address map. -/

namespace Sys2Proof.Machine

/-! ### Who reaches which region (R20) -/

/-- The core is one of two management cores. -/
def isMgc (u : Core) (i j : Nat) : Bool :=
  match u with
  | .mgc n => n.val == i || n.val == j
  | .apc _ => false
  | .sfc _ => false

/-- The cycle SRAM window: application cores, MGC1 and MGC3. -/
def mayReachSram (u : Core) : Bool := match u with | .apc _ => true | .mgc n => n.val == 1 || n.val == 3 | .sfc _ => false

/-- The stacked DRAM: application cores and management cores. -/
def mayReachDram (u : Core) : Bool := match u with | .apc _ => true | .mgc _ => true | .sfc _ => false

/-- The address lies from `lo` to below `hi`. -/
def inRegion (a lo hi : Nat) : Bool := decide (lo ≤ a) && decide (a < hi)

/-! ### The window of an engine (R19, R202, R228) -/

/-- A slot with the half at byte offset `o` replaced; bits [63:40] are ignored. -/
def putHalf (old : BitVec 40) (o : Nat) (v : BitVec 32) : BitVec 40 :=
  if o % 8 < 4 then BitVec.ofNat 40 (old.toNat / 2 ^ 32 * 2 ^ 32 + v.toNat) else BitVec.ofNat 40 (old.toNat % 2 ^ 32 + v.toNat * 2 ^ 32)

/-- The half of a slot at byte offset `o`. -/
def getHalf (x : BitVec 40) (o : Nat) : Nat := if o % 8 < 4 then x.toNat % 2 ^ 32 else x.toNat / 2 ^ 32

/-- A slot of the engine state (R228): X, XH, ACC, PC, then the CSRs in order. -/
def Engine.stateSlot (g : Engine) (k : Nat) : BitVec 40 :=
  if k < 16 then FMap.get 0 g.x k
  else if k < 32 then FMap.get 0 g.xh (k - 16)
  else if k < 36 then FMap.get 0 g.acc (k - 32)
  else if k = 36 then BitVec.ofNat 40 g.pc
  else (g.csr (k - 37)).getD 0

/-- The kind of a number; an unlisted one leaves the kind held. -/
def VKind.ofNum (old : VKind) (n : Nat) : VKind :=
  if n = 0 then .ordstat else if n = 1 then .ordstatM else if n = 2 then .ordstatm else if n = 3 then .ordstatmM
  else if n = 4 then .hist else if n = 5 then .vdot else old

/-- A suspended instruction of which nothing is known. -/
def LongOp.free (ctr : Nat) : LongOp :=
  { kind := .ordstat, rd := Config.freeNat ctr % 16, base := Config.freeNat ctr % 32768, n := Config.freeNat ctr % 768 + 1, ranks := [],
    param := Config.freeW40 ctr, units := 0, read := [], acc := Config.freeW40 ctr, sat := Config.freeBit ctr }

/-- The suspended instruction of a written PROG with VALID = 1: KIND, PHASE and INDEX are as written, and it goes on from INDEX (R211).
What the selection unit holds of an element before INDEX that it has not read, and of an instruction where none was suspended, is free
(R209; log 129). -/
def LongOp.written (old : Option LongOp) (v : BitVec 40) (ctr : Nat) : LongOp :=
  let p : LongOp := old.getD (LongOp.free ctr)
  let kind := p.kind.ofNum (v.toNat / 2 ^ 35 % 16)
  let i := min (v.toNat / 2 ^ 24 % 1024) p.n
  if v.getLsbD 34 then
    { p with kind := kind, units := kind.fixed + kind.scan i + (if i = p.n then p.units - (p.kind.fixed + p.kind.scan p.n) else 0),
             read := p.read.take i ++ List.replicate (i - p.read.length) (Config.freeW40 ctr) }
  else { p with kind := kind, units := min p.units kind.fixed, read := [] }

/-- A slot of the engine state written by MGC0 or MGC3. Each field keeps its width. A PROG without VALID leaves no suspended
instruction. -/
def Engine.putSlot (g : Engine) (k : Nat) (v : BitVec 40) (ctr : Nat) : Engine :=
  if k < 16 then { g with x := FMap.set 0 g.x k v }
  else if k < 32 then { g with xh := FMap.set 0 g.xh (k - 16) v }
  else if k < 36 then { g with acc := FMap.set 0 g.acc (k - 32) v }
  else if k = 36 then { g with pc := v.toNat % 16384 }
  else if k = 37 then { g with sat := v.getLsbD 0, vr := v.getLsbD 1, abnd := v.getLsbD 2, rfail := v.getLsbD 3, hnd := v.getLsbD 4,
                               frm := if v.toNat / 32 % 8 < 4 then v.toNat / 32 % 8 else g.frm }
  else if k = 38 then { g with fflags := v.setWidth 5 }
  else if k = 39 then (if v.getLsbD 39 then { g with prog := some (LongOp.written g.prog v ctr) } else { g with prog := none, resumed := false })
  else if k = 40 then { g with epc := v.toNat % 16384 }
  else if k = 41 then { g with c0Conv := v.setWidth 8, c0Reason := v.toNat / 2 ^ 8 % 16, c0Pend := v.toNat / 2 ^ 12 % 16, c0Idle := v.getLsbD 16 }
  else if k = 42 then { g with vidx := v.toNat % 1024 }
  else if k = 43 then { g with cycle := v.toNat % 2 ^ 20 }
  else g

/-- Number of slots of the engine state. -/
def stateSlots : Nat := 44

/-- A 32-bit word at offset `o` of the window of engine `e`, and whether the access is allowed. -/
def State.windowRead (s : State) (e o : Nat) : Nat × Bool :=
  if o < 0x10000 then ((FMap.get 0 (s.eng e).imem (o / 4)).toNat, true)
  else if inRegion o 0x40000 0x80000 then (getHalf (FMap.get 0 (s.eng e).dmem ((o - 0x40000) / 8)) o, true)
  else if inRegion o 0xF0000 (0xF0000 + 8 * stateSlots) then
    if s.flag (Fld.CE_STAT_RUNNING e) then (0, false) else (getHalf ((s.eng e).stateSlot ((o - 0xF0000) / 8)) o, true)
  else (0, false)

/-- A 32-bit write at offset `o` of the window of engine `e`; `none` for a write that is discarded. -/
def State.windowWrite (s : State) (e o : Nat) (v : BitVec 32) : Option State :=
  if o < 0x10000 then some (s.setEng e (fun g => { g with imem := FMap.set 0 g.imem (o / 4) v }))
  else if inRegion o 0x40000 0x80000 then
    some (s.putMem e ((o - 0x40000) / 8) (putHalf (FMap.get 0 (s.eng e).dmem ((o - 0x40000) / 8)) o v))
  else if inRegion o 0xF0000 (0xF0000 + 8 * stateSlots) then
    if s.engState e = 6 then
      let ctr := s.freeCtr
      let t := s.setEng e (fun g => g.putSlot ((o - 0xF0000) / 8) (putHalf (g.stateSlot ((o - 0xF0000) / 8)) o v) ctr)
      some (({ t with freeCtr := ctr + 1 } : State).showEngine e)
    else none
  else none

/-! ### One 32-bit read by a core (R20, R21, R23) -/

/-- The word at a physical address as core `u` reads it, and the state after. An address that is unmapped, that the core may not
reach, or that is not a multiple of 4 reads 0 and raises an access fault. What the boot ROM and the security die's window hold is not
given: a word of the one is the same at every read, of the other (it holds a random source) a new free value at each (log 128). -/
def State.busRead (s : State) (u : Core) (a : Nat) : Nat × State :=
  if a % 4 ≠ 0 then (0, s.accessFault u a)
  else if inRegion a 0 0x20000 ∧ isMgc u 0 0 then ((Config.bootRom a).toNat, s)
  else if inRegion a 0x4000000 0x4400000 ∧ isMgc u 0 0 then
    ((Config.secWindow s.freeCtr a).toNat, { s with freeCtr := s.freeCtr + 1 })
  else if inRegion a 0x8000000 0x9300000 then
    if registerMapped (blockOf a) (a % 0x100000) then s.readWord (blockOf a) (a % 0x100000) else (0, s.accessFault u a)
  else if inRegion a sramBase 0x12D00000 ∧ mayReachSram u then (leValue (FMap.getRange 0 s.mem a 4), s)
  else if inRegion a windowBase 0x22000000 ∧ isMgc u 0 3 then
    match s.windowRead ((a - windowBase) / 0x100000) (a % 0x100000) with
    | (v, true) => (v, s)
    | (_, false) => (0, s.accessFault u a)
  else if inRegion a dramBase 0x200000000 ∧ mayReachDram u then
    (leValue ((List.range 4).map (fun i => s.dramByte (a - dramBase + i))), s)
  else (0, s.accessFault u a)

/-! ### READ_REG (R366, R367): MGC0 reads on behalf of the function -/

/-- Read `n` words from an offset on, in ascending order. -/
def State.readWords (s : State) (blk offset : Nat) : Nat → List (BitVec 64) × State
  | 0 => ([], s)
  | n + 1 =>
    let (ws, s) := s.readWords blk offset n
    let (v, s) := s.busRead (.mgc 0) (blockAddr blk (offset + 4 * n))
    (ws ++ [BitVec.ofNat 64 v], s)

/-- READ_REG: NWORD register words to DST. -/
def execReadReg (fn : Fin 256) (index : BitVec 16) (s : State) : Host.Outcome State Fault Refusal :=
  .next (s.withDescr fn.val index fun x =>
    match x.d.body with
    | .readReg blk o n dst =>
      let (ws, s) := s.readWords blk o n
      (s.dma fn.val dst 4 ws).done fn.val x .ok (4 * n)
    | _ => s)

end Sys2Proof.Machine
end

