-- ==== Sys2Proof/Machine/RegWrite.lean ====
section
/-! DEFINITION. Writes of set-up registers (R8, R9, R21 to R24, R26, R556): the one table of registers, the locks, what each
chapter refuses beyond a field's range, and what a write does beside its fields. REGISTER_WRITE and CFG_WRITE use it. -/

namespace Sys2Proof.Machine

/-! ### Flags and locks of the blocks -/

/-- The invalid-write flag of a block (R9); the safety island has none. -/
def invalidFlag (blk : Nat) : Option Field :=
  [some Fld.SPK_GSTAT_INVALID_WR, some Fld.VLY_STAT_INVALID_WR, some Fld.CE_GSTAT_INVALID_WR, some Fld.ADC_GSTAT_INVALID_WR,
   some Fld.LPW_BLK_EVT_INVALID_WR, none, some Fld.TBS_EVT_INVALID_WR, some Fld.STP_EVT_INVALID_WR, some Fld.HIF_GSTAT_INVALID_WR,
   some Fld.SEC_EVT_INVALID_WR, some Fld.FUS_STAT_INVALID_WR, some Fld.TND_EVT_INVALID_WR, some Fld.RST_STAT_INVALID_WR,
   some Fld.HKP_SVC_EVT_INVALID_WR, some Fld.REC_EVT_INVALID_WR, some Fld.SCH_EVT_INVALID_WR, some Fld.IRQ_EVT_INVALID_WR,
   some Fld.QOS_STAT_INVALID_WR, some Fld.MEM_EVT_INVALID_WR].getD blk none

/-- Lock bit and lock-violation flag of a block that has them (R8, R556). -/
def lockOf (blk : Nat) : Option (Field × Field) :=
  if blk = 12 then some (Fld.RST_CFG_LOCK, Fld.RST_STAT_LOCK_VIOL)
  else if blk = 4 then some (Fld.LPW_LOCK_LOCK, Fld.LPW_LOCK_LOCK_VIOL)
  else if blk = 11 then some (Fld.TND_CTL_LOCK, Fld.TND_EVT_LOCK_VIOL)
  else if blk = 7 then some (Fld.STP_LOCK_LOCK, Fld.STP_EVT_LOCK_VIOL)
  else none

/-- A write to the block is refused. -/
def State.refuse (s : State) (blk : Nat) (detail : Nat := 0) : State :=
  match invalidFlag blk with
  | some f => s.raise f detail
  | none => s

/-! ### The fields of a register (R8, R9, R556) -/

/-- The value a register word carries for a field. -/
def Field.part (f : Field) (v : Nat) : Nat := v / 2 ^ f.lsb % 2 ^ f.width

/-- Every written field carries a value the manual defines. -/
def RegDef.valuesOk (d : RegDef) (i j v : Nat) : Bool :=
  d.fields.all (fun fd =>
    match fd.acc with
    | .rw => decide (fd.lo ≤ (fd.fld i j).part v ∧ (fd.fld i j).part v ≤ fd.hi)
    | .rwl => decide (fd.lo ≤ (fd.fld i j).part v ∧ (fd.fld i j).part v ≤ fd.hi)
    | .rws => decide (fd.lo ≤ (fd.fld i j).part v ∧ (fd.fld i j).part v ≤ fd.hi)
    | _ => true)

/-- One field takes a write by its access code. W1S and WO fields act, and what they do is stated with their register. -/
def State.putField (s : State) (acc : Access) (f : Field) (v : Nat) (locked : Bool) : State :=
  match acc with
  | .ro => s
  | .rw => s.wr f (f.part v)
  | .rws => s.wr f (f.part v)
  | .rwl => if locked then s else s.wr f (f.part v)
  | .w1c => s.wr f (s.rd f - (s.rd f &&& f.part v))
  | .w1s => s
  | .wo => s

/-- The write would change an RWL field (R556). -/
def State.violates (s : State) (d : RegDef) (i j v : Nat) : Bool :=
  d.fields.any (fun fd => fd.acc == .rwl && (fd.fld i j).part v != s.rd (fd.fld i j))

/-- Every field takes the write. -/
def State.putFields (s : State) (d : RegDef) (i j v : Nat) (locked : Bool) : State :=
  d.fields.foldl (fun (s : State) fd => s.putField fd.acc (fd.fld i j) v locked) s

/-- The block is locked, or this very write sets its lock bit (R8). -/
def State.locked (s : State) (d : RegDef) (blk v : Nat) : Bool :=
  match lockOf blk with
  | some (l, _) => s.flag l || (l.addr == d.base && bitOf v l.lsb)
  | none => false

/-! ### What a write may not leave (R9 and the chapters named) -/

/-- A signed 16-bit comparator limit pair of channel `k` (R314): LO at most HI, and room for the hysteresis with SENSE 0. -/
def cmpRangeOk (lo hi hyst : Nat) (sense : Bool) : Bool :=
  decide (sint16 lo ≤ sint16 hi) && (sense || decide (2 * (hyst : Int) ≤ sint16 hi - sint16 lo))

/-- KIND and VALUE of a trigger generator agree (R320). -/
def tgOk (kind value : Nat) : Bool :=
  if kind = 1 then decide (value ≤ 79999) else if kind = 2 then decide (160 ≤ value) else true

/-- Margin thresholds (R540). -/
def State.cadenceOk (s : State) : Bool :=
  let r := s.rd Fld.HKP_CAD_CFG_K_RAIL
  decide (s.rd Fld.HKP_CAD_CFG_K_SHED < r ∧ s.rd Fld.HKP_CAD_CFG_K_YIELD < s.rd Fld.HKP_CAD_CFG_K_SHED
    ∧ 256 ≤ s.rd Fld.HKP_CAD_CFG_K_YIELD ∧ r + s.rd Fld.HKP_CAD_CFG_HYST < s.rd Fld.HKP_CAD_CFG2_K_LOWER)

/-- Extract `j` of engine `i` lies in 0x2400 to 0x7FFF and on an 8-byte boundary (R226). -/
def State.extractOk (s : State) (i j : Nat) : Bool :=
  let d := s.rd (Fld.CE_EXT_DST_DST i j)
  let n := s.rd (Fld.CE_EXT_LEN_LEN i j)
  decide (s.rd (Fld.CE_EXT_SRC_SRC i j) % 8 = 0) && (n == 0 || decide (0x2400 ≤ d ∧ d + n ≤ 0x8000))

/-- What the registers would hold is allowed: `s` before the write, `t` with the fields written, register at table base `b`
with indices `i` and `j`. -/
def State.allowedWrite (s t : State) (b i j : Nat) : Bool :=
  -- VLY_CFG: FW 0 and 1 are refused in a tandem (R153).
  if b = 0x8100014 then decide (2 ≤ t.rd Fld.VLY_CFG_FW) || !(t.rd Fld.TND_CFG_ROLE == 1 || t.rd Fld.TND_CFG_ROLE == 2)
  -- CE_EXTi (R226).
  else if 0x8200040 ≤ b ∧ b ≤ 0x8200048 then t.extractOk i j
  -- LPW_FMAP: code 3 is refused (R296). LPW_LPn_CFG: no channel is its own partner (R300).
  else if b = 0x840000c then (List.range 5).all (fun k => t.rd Fld.LPW_FMAP_ACT / 4 ^ k % 4 != 3)
  else if b = 0x8401000 then !(t.flag (Fld.LPW_LP_CFG_IL_EN i) && t.rd (Fld.LPW_LP_CFG_PARTNER i) == i)
  -- ADC (R302, R314, R316, R320, R321).
  else if b = 0x8300030 ∨ b = 0x8300034 then tgOk (t.rd (Fld.ADC_TG_CFG_KIND i)) (t.rd (Fld.ADC_TG_PARAM_VALUE i))
  else if b = 0x8300100 then !s.adcGuarded i && (s.adcMode i != 0 || t.adcMode i == 0 || (s.takeSlice (i / 7)).isSome)
  else if b = 0x8300104 then
    !s.adcGuarded i && decide (-2048 ≤ sint16 (t.rd (Fld.ADC_CH_CAL_OFFSET i)) ∧ sint16 (t.rd (Fld.ADC_CH_CAL_OFFSET i)) ≤ 2047)
  else if b = 0x8300108 ∨ b = 0x830010c ∨ b = 0x8300110 then
    !s.adcGuarded i &&
      cmpRangeOk (t.rd (Fld.ADC_CH_CMP0_LO i)) (t.rd (Fld.ADC_CH_CMP0_HI i)) (t.rd (Fld.ADC_CH_CMPCTL_HYST0 i)) (t.flag (Fld.ADC_CH_CMPCTL_SENSE0 i)) &&
      cmpRangeOk (t.rd (Fld.ADC_CH_CMP1_LO i)) (t.rd (Fld.ADC_CH_CMP1_HI i)) (t.rd (Fld.ADC_CH_CMPCTL_HYST1 i)) (t.flag (Fld.ADC_CH_CMPCTL_SENSE1 i))
  -- TND_START (R346), HKP_RAIL_CFG (R58), HKP_CAD_CFG and CFG2 (R540), HKP_FAN_CURVE (R541).
  else if b = 0x8b00004 then decide (t.rd Fld.TND_START_A_WAIT_MS < t.rd Fld.TND_START_B_WAIT_MS)
  else if b = 0x8d00114 then decide (t.rd Fld.HKP_RAIL_CFG_CORE_FLOOR_MV ≤ t.rd Fld.HKP_RAIL_CFG_CORE_CEIL_MV)
  else if b = 0x8d00204 ∨ b = 0x8d00208 then t.cadenceOk
  else if b = 0x8d00300 then decide (sint8 (t.rd Fld.HKP_FAN_CURVE_T_LO) < sint8 (t.rd Fld.HKP_FAN_CURVE_T_HI))
  -- STP_STn_CFG: no change of either bridged speed while the bridge runs (R429). STP_ETYPE (R438).
  else if b = 0x8700000 then
    !(s.flag Fld.STP_BRIDGE_EN && decide (i < 2) && s.rd (Fld.STP_ST_CFG_SPEED i) != t.rd (Fld.STP_ST_CFG_SPEED i))
  else if b = 0x8700804 then
    let e := t.rd Fld.STP_ETYPE_ETYPE
    decide (0x600 ≤ e) && !([0x8100, 0x88F7, 0x88BA, 0x88B8].contains e)
  -- SCH_CTX (R504), IRQ_SRC (R491, R507), IRQ_EQ (R508).
  else if b = 0x8f00004 then
    let a := t.rd Fld.SCH_CTX_LO_ADDR
    a % 512 == 0 && ((decide (0xA000000 ≤ a) && decide (a + 2 ^ 21 ≤ 0x40000000)) || (decide (0x80000000 ≤ a) && decide (a + 2 ^ 21 ≤ 2 ^ 32)))
  else if b = 0x8f00008 then t.rd Fld.SCH_CTX_HI_ADDR == 1
  else if b = 0x9010000 then knownSource i || !t.flag (Fld.IRQ_SRC_CFG_EN i)
  else if b = 0x9010008 then t.rd (Fld.IRQ_SRC_VEC_LO_ADDR i) % 4 == 0
  else if b = 0x9080000 then decide (i < 32) || t.rd (Fld.IRQ_EQ_CFG_DEST i) != 1
  -- REC_D: nothing but ENABLE = 0 while enabled (R509); GUAR in steps of 16, TCROSS without its own bit (R518).
  else if 0x8e00004 ≤ b ∧ b ≤ 0x8e0002c then
    !s.flag (Fld.REC_D_CFG_ENABLE i) && t.rd (Fld.REC_D_GUAR_BYTES i) % 16 == 0 && !bitOf (t.rd (Fld.REC_D_TCROSS_DEF i)) i
  else if b = 0x8e00000 then !(s.flag (Fld.REC_D_CFG_ENABLE i) && t.flag (Fld.REC_D_CFG_ENABLE i))
  else true

/-! ### Registers whose write is one operation -/

/-- Do `k` when bit `n` of the word is 1. -/
def State.onBit (s : State) (v n : Nat) (k : State → State) : State := if bitOf v n then k s else s

/-- TND_CTL (R346). -/
def State.tndCtl (s : State) (v : Nat) : State :=
  ((((s.onBit v 0 (fun s => s.tndSwitch)).onBit v 1 (fun s => s.tndRejoin)).onBit v 2 (fun s => s.tndPartnerRst)).onBit v 3
    (fun s => s.tndCntClr)).onBit v 31 (fun s => s.wr Fld.TND_CTL_LOCK 1)

/-- HKP_LIFT (R527, R539); a core's self-test is the module's own, and its outcome is a free bit. -/
def State.liftWrite (s : State) (v : Nat) : State :=
  let s := s.wrs [(Fld.HKP_LIFT_KIND, v), (Fld.HKP_LIFT_INDEX, v / 4)]
  if bitOf v 9 then
    let (ok, s) := s.freeBit
    s.lift (v % 4) (v / 4 % 128) ok
  else s

/-- RST_FW_CTL (R547, R550 to R552, R555): a REJECT that resets the module comes last. -/
def State.fwCtl (s : State) (v : Nat) : State :=
  let s := s.onBit v 0 (fun s => if s.flag Fld.RST_FW_STAT_TRIAL then s.confirm else s)
  let s := s.onBit v 2 (fun s => { s.saveSettings with rst := { s.rst with saved := true } })
  let s := s.onBit v 3 (fun s => s.clearStage)
  s.onBit v 1 (fun s => if s.flag Fld.RST_FW_STAT_TRIAL then s.imageFailed else s)

/-- Registers whose write is one named operation, which also says what it refuses; none for every other register. -/
def State.whole (s : State) (b i j v : Nat) : Option State :=
  if b = 0x8000024 then some (s.laneTest i (v % 8) (bitOf v 3))
  else if b = 0x8110000 then some (s.bindWrite i j false v)
  else if b = 0x8110004 then some (s.bindWrite i j true v)
  else if b = 0x8140000 then some (s.mapWrite i j (v % 64) (bitOf v 6) (bitOf v 31))
  else if b = 0x8200004 then some (s.ceArmown i v)
  else if b = 0x8200030 then some (s.migWrite i (v % 32) (bitOf v 5) (bitOf v 6) (bitOf v 7))
  else if b = 0x830000c ∧ bitOf v 7 then some (s.sysCalStart (v % 32) (v / 32 % 4))
  else if b = 0x8c00008 then some (s.kickWrite (bitOf v 0) (bitOf v 1) (v / 2 ^ 16))
  else if b = 0x8b00008 then some (s.tndCtl v)
  else if b = 0x8b00040 then some (s.tndSync i (v % 2 ^ 15) (v / 2 ^ 15 % 2 ^ 11))
  -- TBS: only TB0 is steered (R444, R445, R455).
  else if b = 0x8600010 then some (if i = 0 then s.wr (Fld.TBS_TB_INC_FRAC_INC_FRAC 0) v else s)
  else if b = 0x8600014 then some (if i = 0 then s.incWrite (v % 256) else s)
  else if b = 0x8600018 then some (if i = 0 then s.adjWrite (BitVec.ofNat 32 v) else s.refuse 6 i)
  else if b = 0x860080c then some (s.setWrite (v % 2 ^ 30))
  else if b = 0x8700800 then some (s.bridgeWrite (bitOf v 0))
  else if b = 0x9200200 ∧ bitOf v 6 then some (s.spareStart (v % 64))
  else if b = 0x8f10000 then some (s.taskCfg i (v % 32) (bitOf v 5))
  else if b = 0x8f10004 then some (s.taskAff i (v % 2 ^ 24))
  else if b = 0x8f10008 then some ((s.onBit v 0 (fun s => s.taskStart i)).onBit v 1 (fun s => s.taskStop i))
  else if 0x8d00400 ≤ b ∧ b ≤ 0x8d0041c then some (s.pertWrite ((b - 0x8d00400) / 4) v)
  else if b = 0x8d00508 then some (s.liftWrite v)
  else if b = 0x8c00054 then some (s.fwCtl v)
  else none

/-! ### What a write does beside its fields -/

/-- CE_CFGn with its fields written in `t` (R213, R219): in a migration the word is refused, a C0_MAX that does not
fit is refused, then ENABLE acts. -/
def State.ceCfg (s t : State) (e v : Nat) : State :=
  let on := bitOf v 0
  let st := s.engBelow e
  let was := s.rd (Fld.CE_CFG_ENABLE e)
  if (st = 3 ∨ st = 4) ∨ (on ∧ (s.eng e).container = none) then s.refuse 2 e
  else
    let (u, ok) := s.admitDemand (fun _ => t.wr (Fld.CE_CFG_ENABLE e) was)
    if ok then u.ceEnable e on else u

/-- REC_Dd_CFG with its fields written in `t` (R509): ENABLE ends a recording or starts one; refused, nothing is written. -/
def State.recCfg (s t : State) (d v : Nat) : State :=
  if ¬ bitOf v 0 then (if s.flag (Fld.REC_D_CFG_ENABLE d) then t.recDisable d else t)
  else
    let u := (t.wr (Fld.REC_D_CFG_ENABLE d) 0).recEnable d
    if u.flag (Fld.REC_D_CFG_ENABLE d) then u
    else { u with regs := RegFile.copyRange s.regs u.regs (0x8e00000 + 0x40 * d) (0x8e00004 + 0x40 * d) }

/-- An extract register with its field written in `t`: the tests of R417 run, and a change that fails is ignored. -/
def State.extCfg (s t : State) : State :=
  if t.memoryFits t.timeline then t.showFits else s.refuseFit t t.timeline

/-- The other fields of SPK_CFGn: a manual CTLE step enters the data path, and PROBE_S = 0 keeps an Empty spoke Empty (R97, R101). -/
def State.spkCfg (s : State) (n : Nat) : State :=
  let s := s.manualStep n
  if s.rd (Fld.SPK_CFG_PROBE_S n) = 0 then s.setSpoke n (fun p => { p with empty := p.empty.map (fun _ => none) }) else s

/-- The state after a write of register `b` with its fields written in `t`. A write of HKP_RAIL_CFG leaves a set point that it
puts outside its limits where it is (log 133); RESTEP acts before CLR_CAP of the same word (log 144). -/
def State.afterWrite (s t : State) (b i v : Nat) : State :=
  -- SPK (R99, R110, R111).
  if b = 0x8000000 then
    let u := (t.wr (Fld.SPK_CFG_ENABLE i) (s.rd (Fld.SPK_CFG_ENABLE i))).spkCfg i
    if bitOf v 0 then u.enableSpoke i else if s.flag (Fld.SPK_CFG_ENABLE i) then u.disableSpoke i else u
  else if b = 0x8000004 then
    ((t.onBit v 1 (fun t => t.restep i)).onBit v 2 (fun t => t.wr (Fld.SPK_STAT_GEAR_CAP i) 4)).onBit v 3 (fun t => t.spkCntClear i)
  -- CE (R219, R225, R226).
  else if b = 0x8200000 then s.ceCfg t i v
  else if b = 0x820002c then (t.onBit v 1 (fun t => t.ceCntClr i)).onBit v 2 (fun t => t.wr (Fld.CE_DLMAX_MAX_END i) 0)
  else if 0x8200040 ≤ b ∧ b ≤ 0x820004c then s.extCfg t
  -- LPW (R288, R291, R292, R296 to R301).
  else if b = 0x8400004 then t.requestRelease (BitVec.ofNat 8 v)
  else if b = 0x8400020 then t.onBit v 0 (fun t => t.wr Fld.LPW_LOCK_LOCK 1)
  else if 0x840000c ≤ b ∧ b ≤ 0x8400100 then t.evaluate
  else if b = 0x8401000 then t.lpConfigured i (s.flag (Fld.LPW_LP_CFG_ONESHOT i))
  else if b = 0x840100c ∨ b = 0x8401800 then t.lpUpdate
  else if b = 0x8401010 then (t.onBit v 0 (fun t => t.lpCommit i)).onBit v 1 (fun t => t.lpFire i)
  -- ADC (R302, R307 to R309, R313, R314, R319).
  else if b = 0x8300008 then t.adcUrg v
  else if b = 0x8300030 then { t with tgDue := t.tgDue.filter (· != i) }
  else if b = 0x8300020 then t.onBit v 0 (fun t => t.adcCntClear)
  else if b = 0x8300100 then (t.adcConfigured i (s.adcMode i)).evaluate
  else if b = 0x8300104 then t.calWritten i
  else if 0x8300108 ≤ b ∧ b ≤ 0x8300110 then (t.cmpConfigured i).evaluate
  -- TBS (R446), STP (R437, R452).
  else if b = 0x8600800 then t.syncDecl (bitOf v 0)
  else if b = 0x8700810 then t.onBit v 0 (fun t => t.wr Fld.STP_LOCK_LOCK 1)
  else if b = 0x8700814 then t.onBit v 0 (fun t => t.stpCntClear)
  else if b = 0x8703000 then (if bitOf v 0 ∧ ¬ s.flag (Fld.STP_GF_CFG_EN i) then t.setGoose i (fun _ => GooseFilter.reset) else t)
  -- SEC (R406), RST (R78), HKP (R332, R536, R540, R541).
  else if b = 0x8d00110 then (if t.flag Fld.HKP_RAIL_STAT_CORE_OOR || t.flag Fld.HKP_RAIL_STAT_AUX_OOR then t else t.clearYield 4)
  else if b = 0x8900074 then t.onBit v 0 (fun t => t.secCntClear)
  else if b = 0x8c00004 then t.onBit v 31 (fun t => t.wr Fld.RST_CFG_LOCK 1)
  else if b = 0x8d0020c then t.onBit v 0 (fun t => t.wr Fld.HKP_CAD_STAT_KMIN (t.rd Fld.HKP_CAD_STAT_K))
  else if b = 0x8d00300 ∨ b = 0x8d00310 then t.fansUpdate
  else if b = 0x8d00318 then t.onBit v 0 (fun t => t.fanClear i)
  -- REC (R509, R519), SCH (R487, R504), IRQ (R497, R502, R508), QOS (R424).
  else if b = 0x8e00000 then s.recCfg t i v
  else if b = 0x8e00800 then (t.recHost (v % 2 ^ 16)).onBit v 16 (fun t => t.recCntClear)
  else if b = 0x8f00000 then t.reslot
  else if b = 0x8f0001c then t.onBit v 0 (fun t => t.schCntClear)
  else if b = 0x9010000 then t.onBit v 4 (fun t => t.irqEnabled i)
  else if b = 0x9080004 then (t.onBit v 0 (fun t => t.eqFlush i)).onBit v 1 (fun t => t.eqCntClear i)
  else if b = 0x9100014 then t.onBit v 0 (fun t => t.qosCntClr)
  else t

/-! ### One write -/

/-- The address belongs to a staged register (R26). -/
def stagedAddr (a : Nat) : Bool := stagedRanges.any (fun r => decide (r.1 ≤ a ∧ a < r.2))

/-- A write of the word `v` to the register `d` with indices `i` and `j`, at address `a`. -/
def State.writeFields (s : State) (d : RegDef) (i j a v : Nat) : State :=
  let blk := blockOf a
  if ¬ d.valuesOk i j v then s.refuse blk i
  else match s.whole d.base i j v with
  | some t => t
  | none =>
    let locked := s.locked d blk v
    let s : State := if locked && s.violates d i j v then (match lockOf blk with | some l => s.raise l.2 | none => s) else s
    let t := s.putFields d i j v locked
    if ¬ s.allowedWrite t d.base i j then s.refuse blk i
    else
      let t := s.afterWrite t d.base i v
      if stagedAddr a then { t with seqr := { t.seqr with staged := true } } else t

/-- The flags that a refused write sets, of the block and of admission (R9, R145, R331, R335, R417, R445, R556). -/
def refusalFlags (blk : Nat) : List Field :=
  (invalidFlag blk).toList ++ ((lockOf blk).map (·.2)).toList ++ (if blk = 6 then [Fld.TBS_EVT_JUMP_REFUSED] else []) ++
    (if blk = 11 then [Fld.TND_EVT_REFUSED] else [])
def nofitFlags : List Field := [Fld.VLY_STAT_NOFIT, Fld.TND_EVT_NOFIT, Fld.QOS_STAT_NOFIT, Fld.REC_EVT_NOFIT]

/-- Make a write and see whether it was refused: the flags are looked at from 0, and a flag that stood before stands after. -/
def State.judged (s : State) (blk : Nat) (k : State → State) : State × Option Status :=
  let fs := refusalFlags blk ++ nofitFlags
  let t := k (fs.foldl (fun (s : State) f => s.wr f 0) s)
  let st := if (refusalFlags blk).any (fun f => t.flag f) then some Status.range
    else if nofitFlags.any (fun f => t.flag f) then some .nofit else none
  (fs.foldl (fun (t : State) f => if s.flag f then t.wr f 1 else t) t, st)

/-- A write that MGC0 or MGC3 makes on behalf of a descriptor, and the status when it is refused. Writes of registers with W1C
fields and of RST_FW_CTL are not refused. -/
def State.writeWord (s : State) (a v : Nat) : State × Option Status :=
  match findReg regTable a with
  | none => (s, none)
  | some (d, i, j) =>
    if d.fields.any (fun fd => fd.acc == .w1c) ∨ d.base = 0x8c00054 then (s.writeFields d i j a v, none)
    else s.judged (blockOf a) (fun s => s.writeFields d i j a v)

/-! ### CFG_WRITE and REGISTER_WRITE -/

/-- Words applied in order from index `n` on; stops at the first that is refused. Answers the words applied, the status of a
refusal, and whether a staged register was written. -/
def State.writeWords (s : State) (a n : Nat) (staged : Bool) : List (BitVec 32) → State × Nat × Option Status × Bool
  | [] => (s, n, none, staged)
  | w :: ws =>
    match s.writeWord (a + 4 * n) w.toNat with
    | (s, some st) => (s, n, some st, staged)
    | (s, none) => s.writeWords a (n + 1) (staged || stagedAddr (a + 4 * n)) ws

/-- CFG_WRITE (R24, R367): a write to the safety island, which neither MGC0 nor MGC3 may make (R23), is refused. DESIGN CHOICE (log
123): the spec says that MGC0 or MGC3 applies a configuration descriptor and not which; the access fault is MGC0's. -/
def execCfgWrite (fn : Fin 256) (index : BitVec 16) (s : State) : Host.Outcome State Fault Refusal :=
  let f := fn.val
  .next (s.withDescr f index fun x =>
    match x.d.body with
    | .cfgWrite blk off ws =>
      if blk = 5 then (s.accessFault (.mgc 0) (blockAddr blk off)).done f x .range 0 0
      else
        match s.writeWords (blockAddr blk off) 0 false ws with
        | (s, n, some st, _) => s.done f x st n n
        | (s, n, none, staged) =>
          -- A word that reset the module leaves no descriptor to complete.
          if (s.inflightBy f x.serial).isNone then s
          else if staged then s.setProgress f x.serial (.boundary n) else s.done f x .ok n
    | _ => s)

/-- A set-up register written by a core: into a block it may write (R23), else an access fault (R21). The island's own cores
write its registers, which are RO to every other unit (R481); history queues are read-only (R521). -/
def State.blockWrite (s : State) (u : Core) (a v : Nat) : State :=
  let blk := blockOf a
  match findReg regTable a with
  | none => if (histAt blk (a % 0x100000)).isSome then s.asWriter u blk id else s.accessFault u a
  | some (d, i, j) =>
    s.asWriter u blk (fun s =>
      if blk = 5 then d.fields.foldl (fun (s : State) fd => s.wr (fd.fld i j) ((fd.fld i j).part v)) s
      else s.writeFields d i j a v)

/-- A 32-bit write by a core at a physical address (R20, R21). A write that is not to a multiple of 4, to an address that is
unmapped, or to one the core may not reach is discarded with an access fault. Bits [63:40] of a slot of the cycle SRAM are ignored (R411). What a write into the security die's window
does there is not given: it changes nothing. -/
def State.coreWrite (s : State) (u : Core) (a : Nat) (v : BitVec 32) : State :=
  if a % 4 ≠ 0 then s.accessFault u a
  else if inRegion a 0x8000000 0x9300000 then s.blockWrite u a v.toNat
  else if inRegion a 0x4000000 0x4400000 ∧ isMgc u 0 0 then s
  else if inRegion a sramBase 0x12D00000 ∧ mayReachSram u then s.putBytes a (leBytes 4 (if a % 8 = 4 then v.toNat % 256 else v.toNat))
  else if inRegion a windowBase 0x22000000 ∧ isMgc u 0 3 then
    (s.windowWrite ((a - windowBase) / 0x100000) (a % 0x100000) v).getD (s.accessFault u a)
  else if inRegion a dramBase 0x200000000 ∧ mayReachDram u then s.dramStore (a - dramBase) v
  else s.accessFault u a

/-- A host sets NumVFs with VF Enable of a port: the physical function's configuration space, which answers with Configuration
Request Retry Status until the port's link is up (R70, R351). Functions that are no longer enabled are reset (PRESUMED, SR-IOV: log 207). -/
def State.sriovWrite (s : State) (p n : Nat) : State :=
  if s.portAnswers p then
    let old := s.rd (Fld.HIF_PORT_STAT_NUM_VF p)
    let s := ((List.range (old - n)).foldl (fun (s : State) i => s.resetFn (128 * p + n + 1 + i)) s)
    s.wr (Fld.HIF_PORT_STAT_NUM_VF p) (min n 127)
  else s

/-- REGISTER_WRITE (R8, R9, R21 to R24, R354, R356): a core writes a set-up register, a host its function's page in BAR0, or a
host sets NumVFs with VF Enable of a port. -/
def execRegisterWrite (w : Writer) (addr : BitVec 40) (value : Reg32) (s : State) : Host.Outcome State Fault Refusal :=
  match w with
  | .core u => .next (s.coreWrite u addr.toNat value)
  | .host fn dword => .next (s.barWrite fn.val dword (addr.toNat % 0x10000) value.toNat)
  | .sriov port => .next (s.sriovWrite port.val value.toNat)

end Sys2Proof.Machine
end

