-- ==== Sys2Proof/Machine/Dispatch.lean ====
section
/-! DEFINITION. The meaning of every command: one direct call per constructor of `Instr`. -/

namespace Sys2Proof.Machine

def exec (i : Instr) (s : State) : Host.Outcome State Fault Refusal :=
  match i with
  -- Reset and start
  | .powerOn retained => Sys2Proof.Machine.execPowerOn retained s
  | .porstNAssert ns => Sys2Proof.Machine.execPorstNAssert ns s
  | .resetNAssert ns => Sys2Proof.Machine.execResetNAssert ns s
  | .resetPinRelease pin => Sys2Proof.Machine.execResetPinRelease pin s
  | .supervisorUndervoltage => Sys2Proof.Machine.execSupervisorUndervoltage s
  | .runWatchdogExpire => Sys2Proof.Machine.execRunWatchdogExpire s
  | .startWatchdogExpire => Sys2Proof.Machine.execStartWatchdogExpire s
  | .moduleOrderedReset => Sys2Proof.Machine.execModuleOrderedReset s
  | .startRefclkLocked => Sys2Proof.Machine.execStartRefclkLocked s
  | .startSequence fuses strap seconds keys => Sys2Proof.Machine.execStartSequence fuses strap seconds keys s
  | .stormWindowClear => Sys2Proof.Machine.execStormWindowClear s
  | .wdtKick u key => Sys2Proof.Machine.execWdtKick u key s
  | .startDone u key => Sys2Proof.Machine.execStartDone u key s
  | .rstCfgLock u => Sys2Proof.Machine.execRstCfgLock u s
  | .tamperInput input seconds => Sys2Proof.Machine.execTamperInput input seconds s
  -- Power and temperature
  | .feedUsable f mv => Sys2Proof.Machine.execFeedUsable f mv s
  | .feedWarning f mv => Sys2Proof.Machine.execFeedWarning f mv s
  | .feedLost f => Sys2Proof.Machine.execFeedLost f s
  | .feedOverVoltage f => Sys2Proof.Machine.execFeedOverVoltage f s
  | .feedOvRecover f mv => Sys2Proof.Machine.execFeedOvRecover f mv s
  | .reverseCurrent f => Sys2Proof.Machine.execReverseCurrent f s
  | .reverseReclose f => Sys2Proof.Machine.execReverseReclose f s
  | .feedMeasureRefresh mvA currA mvB currB coreMv tj tdram => Sys2Proof.Machine.execFeedMeasureRefresh mvA currA mvB currB coreMv tj tdram s
  | .vbatCheck mv => Sys2Proof.Machine.execVbatCheck mv s
  | .railOutOfRange rail => Sys2Proof.Machine.execRailOutOfRange rail s
  | .junctionTempFlag tj => Sys2Proof.Machine.execJunctionTempFlag tj s
  | .dramTempChange tdram => Sys2Proof.Machine.execDramTempChange tdram s
  -- The volley, spokes and cells
  | .volleyBoundary late => Sys2Proof.Machine.execVolleyBoundary late s
  | .budgetWindowEnd arm => Sys2Proof.Machine.execBudgetWindowEnd arm s
  | .returnBurstReceive spoke slot off bits => Sys2Proof.Machine.execReturnBurstReceive spoke slot off bits s
  | .slotNoLock spoke slot => Sys2Proof.Machine.execSlotNoLock spoke slot s
  | .returnWindowClose => Sys2Proof.Machine.execReturnWindowClose s
  | .spokeLos spoke => Sys2Proof.Machine.execSpokeLos spoke s
  | .cellLost spoke slot => Sys2Proof.Machine.execCellLost spoke slot s
  | .cellAutoResume spoke slot => Sys2Proof.Machine.execCellAutoResume spoke slot s
  | .admissionTimeout spoke slot => Sys2Proof.Machine.execAdmissionTimeout spoke slot s
  | .discoveryOffer spoke doff => Sys2Proof.Machine.execDiscoveryOffer spoke doff s
  | .discoveryBurst spoke tp bits => Sys2Proof.Machine.execDiscoveryBurst spoke tp bits s
  | .discoveryEnd spoke => Sys2Proof.Machine.execDiscoveryEnd spoke s
  | .computeWindowOpen late => Sys2Proof.Machine.execComputeWindowOpen late s
  | .serveAssemblyStart => Sys2Proof.Machine.execServeAssemblyStart s
  | .spokeEnable u spoke => Sys2Proof.Machine.execSpokeEnable u spoke s
  | .spokeDisable u spoke => Sys2Proof.Machine.execSpokeDisable u spoke s
  | .spokeProbeStart spoke => Sys2Proof.Machine.execSpokeProbeStart spoke s
  | .spokeProbeEnd spoke => Sys2Proof.Machine.execSpokeProbeEnd spoke s
  | .gearStepAuto spoke => Sys2Proof.Machine.execGearStepAuto spoke s
  | .spkRestep u spoke => Sys2Proof.Machine.execSpkRestep u spoke s
  | .spkClrCap u spoke => Sys2Proof.Machine.execSpkClrCap u spoke s
  | .spkCntClr u spoke => Sys2Proof.Machine.execSpkCntClr u spoke s
  | .gearChangeVolley spoke => Sys2Proof.Machine.execGearChangeVolley spoke s
  | .gearTrialEnd spoke => Sys2Proof.Machine.execGearTrialEnd spoke s
  | .ctleSweep spoke eyes => Sys2Proof.Machine.execCtleSweep spoke eyes s
  | .hostFence u spoke fence => Sys2Proof.Machine.execHostFence u spoke fence s
  | .laneTestSelect u spoke mode light => Sys2Proof.Machine.execLaneTestSelect u spoke mode light s
  | .transceiverPoll spoke reading => Sys2Proof.Machine.execTransceiverPoll spoke reading s
  | .vlyBindWrite u spoke slot high value => Sys2Proof.Machine.execVlyBindWrite u spoke slot high value s
  | .vlyArmmapWrite u spoke slot arm fb valid => Sys2Proof.Machine.execVlyArmmapWrite u spoke slot arm fb valid s
  | .writeTimeout spoke slot => Sys2Proof.Machine.execWriteTimeout spoke slot s
  -- Control-engine instructions
  | .ceNop e rd rs1 rs2 => Sys2Proof.Machine.execCeNop e rd rs1 rs2 s
  | .ceDone e rd rs1 rs2 tick => Sys2Proof.Machine.execCeDone e rd rs1 rs2 tick s
  | .ceResume e rd rs1 rs2 => Sys2Proof.Machine.execCeResume e rd rs1 rs2 s
  | .ceAbandon e rd rs1 rs2 => Sys2Proof.Machine.execCeAbandon e rd rs1 rs2 s
  | .ceTrap e rd rs1 rs2 => Sys2Proof.Machine.execCeTrap e rd rs1 rs2 s
  | .ceAdd e rd rs1 rs2 => Sys2Proof.Machine.execCeAdd e rd rs1 rs2 s
  | .ceSub e rd rs1 rs2 => Sys2Proof.Machine.execCeSub e rd rs1 rs2 s
  | .ceAnd e rd rs1 rs2 => Sys2Proof.Machine.execCeAnd e rd rs1 rs2 s
  | .ceOr e rd rs1 rs2 => Sys2Proof.Machine.execCeOr e rd rs1 rs2 s
  | .ceXor e rd rs1 rs2 => Sys2Proof.Machine.execCeXor e rd rs1 rs2 s
  | .ceShl e rd rs1 rs2 => Sys2Proof.Machine.execCeShl e rd rs1 rs2 s
  | .ceShr e rd rs1 rs2 => Sys2Proof.Machine.execCeShr e rd rs1 rs2 s
  | .ceSar e rd rs1 rs2 => Sys2Proof.Machine.execCeSar e rd rs1 rs2 s
  | .ceSlt e rd rs1 rs2 => Sys2Proof.Machine.execCeSlt e rd rs1 rs2 s
  | .ceSltu e rd rs1 rs2 => Sys2Proof.Machine.execCeSltu e rd rs1 rs2 s
  | .ceMin e rd rs1 rs2 => Sys2Proof.Machine.execCeMin e rd rs1 rs2 s
  | .ceMax e rd rs1 rs2 => Sys2Proof.Machine.execCeMax e rd rs1 rs2 s
  | .ceMinu e rd rs1 rs2 => Sys2Proof.Machine.execCeMinu e rd rs1 rs2 s
  | .ceMaxu e rd rs1 rs2 => Sys2Proof.Machine.execCeMaxu e rd rs1 rs2 s
  | .ceMul e rd rs1 rs2 => Sys2Proof.Machine.execCeMul e rd rs1 rs2 s
  | .ceClz e rd rs1 rs2 => Sys2Proof.Machine.execCeClz e rd rs1 rs2 s
  | .ceAddi e rd rs1 imm => Sys2Proof.Machine.execCeAddi e rd rs1 imm s
  | .ceAndi e rd rs1 imm => Sys2Proof.Machine.execCeAndi e rd rs1 imm s
  | .ceOri e rd rs1 imm => Sys2Proof.Machine.execCeOri e rd rs1 imm s
  | .ceXori e rd rs1 imm => Sys2Proof.Machine.execCeXori e rd rs1 imm s
  | .ceShli e rd rs1 imm => Sys2Proof.Machine.execCeShli e rd rs1 imm s
  | .ceShri e rd rs1 imm => Sys2Proof.Machine.execCeShri e rd rs1 imm s
  | .ceSari e rd rs1 imm => Sys2Proof.Machine.execCeSari e rd rs1 imm s
  | .ceLil e rd imm => Sys2Proof.Machine.execCeLil e rd imm s
  | .ceLih e rd imm => Sys2Proof.Machine.execCeLih e rd imm s
  | .ceLd e rd rs1 imm => Sys2Proof.Machine.execCeLd e rd rs1 imm s
  | .ceSt e rd rs1 imm => Sys2Proof.Machine.execCeSt e rd rs1 imm s
  | .ceLda e rd rs1 imm => Sys2Proof.Machine.execCeLda e rd rs1 imm s
  | .ceSta e rd rs1 imm => Sys2Proof.Machine.execCeSta e rd rs1 imm s
  | .ceMpy e rx rs1 rs2 acc => Sys2Proof.Machine.execCeMpy e rx rs1 rs2 acc s
  | .ceMac e rx rs1 rs2 acc => Sys2Proof.Machine.execCeMac e rx rs1 rs2 acc s
  | .ceMsu e rx rs1 rs2 acc => Sys2Proof.Machine.execCeMsu e rx rs1 rs2 acc s
  | .ceAclr e rx rs1 rs2 acc => Sys2Proof.Machine.execCeAclr e rx rs1 rs2 acc s
  | .ceAmov e rx rs1 rs2 acc => Sys2Proof.Machine.execCeAmov e rx rs1 rs2 acc s
  | .ceArnd e rx rs1 rs2 acc => Sys2Proof.Machine.execCeArnd e rx rs1 rs2 acc s
  | .ceAext e rx rs1 rs2 acc => Sys2Proof.Machine.execCeAext e rx rs1 rs2 acc s
  | .ceAadd e rx rs1 rs2 acc => Sys2Proof.Machine.execCeAadd e rx rs1 rs2 acc s
  | .ceFadd e rd rs1 rs2 rm => Sys2Proof.Machine.execCeFadd e rd rs1 rs2 rm s
  | .ceFsub e rd rs1 rs2 rm => Sys2Proof.Machine.execCeFsub e rd rs1 rs2 rm s
  | .ceFmul e rd rs1 rs2 rm => Sys2Proof.Machine.execCeFmul e rd rs1 rs2 rm s
  | .ceFdiv e rd rs1 rs2 rm => Sys2Proof.Machine.execCeFdiv e rd rs1 rs2 rm s
  | .ceFsqrt e rd rs1 rs2 rm => Sys2Proof.Machine.execCeFsqrt e rd rs1 rs2 rm s
  | .ceFma e rd rs1 rs2 rm => Sys2Proof.Machine.execCeFma e rd rs1 rs2 rm s
  | .ceFmin e rd rs1 rs2 rm => Sys2Proof.Machine.execCeFmin e rd rs1 rs2 rm s
  | .ceFmax e rd rs1 rs2 rm => Sys2Proof.Machine.execCeFmax e rd rs1 rs2 rm s
  | .ceFeq e rd rs1 rs2 rm => Sys2Proof.Machine.execCeFeq e rd rs1 rs2 rm s
  | .ceFlt e rd rs1 rs2 rm => Sys2Proof.Machine.execCeFlt e rd rs1 rs2 rm s
  | .ceFle e rd rs1 rs2 rm => Sys2Proof.Machine.execCeFle e rd rs1 rs2 rm s
  | .ceFcvtQf e rd rs1 rs2 rm => Sys2Proof.Machine.execCeFcvtQf e rd rs1 rs2 rm s
  | .ceFcvtFq e rd rs1 rs2 rm => Sys2Proof.Machine.execCeFcvtFq e rd rs1 rs2 rm s
  | .ceFcvtIf e rd rs1 rs2 rm => Sys2Proof.Machine.execCeFcvtIf e rd rs1 rs2 rm s
  | .ceFcvtFi e rd rs1 rs2 rm => Sys2Proof.Machine.execCeFcvtFi e rd rs1 rs2 rm s
  | .ceFclass e rd rs1 rs2 rm => Sys2Proof.Machine.execCeFclass e rd rs1 rs2 rm s
  | .ceFneg e rd rs1 rs2 rm => Sys2Proof.Machine.execCeFneg e rd rs1 rs2 rm s
  | .ceFabs e rd rs1 rs2 rm => Sys2Proof.Machine.execCeFabs e rd rs1 rs2 rm s
  | .ceBr e rs1 rs2 cond off => Sys2Proof.Machine.execCeBr e rs1 rs2 cond off s
  | .ceJal e rd off => Sys2Proof.Machine.execCeJal e rd off s
  | .ceJalr e rd rs1 imm => Sys2Proof.Machine.execCeJalr e rd rs1 imm s
  | .ceCsrr e rd rs1 imm => Sys2Proof.Machine.execCeCsrr e rd rs1 imm s
  | .ceCsrw e rd rs1 imm => Sys2Proof.Machine.execCeCsrw e rd rs1 imm s
  | .ceOrdstat e rd rs1 rs2 rk rp j stop => Sys2Proof.Machine.execCeOrdstat e rd rs1 rs2 rk rp j stop s
  | .ceOrdstatM e rd rs1 rs2 rk rp j stop => Sys2Proof.Machine.execCeOrdstatM e rd rs1 rs2 rk rp j stop s
  | .ceOrdstatm e rd rs1 rs2 rk rp j stop => Sys2Proof.Machine.execCeOrdstatm e rd rs1 rs2 rk rp j stop s
  | .ceOrdstatmM e rd rs1 rs2 rk rp j stop => Sys2Proof.Machine.execCeOrdstatmM e rd rs1 rs2 rk rp j stop s
  | .ceHist e rd rs1 rs2 rk rp j stop => Sys2Proof.Machine.execCeHist e rd rs1 rs2 rk rp j stop s
  | .ceVdot e rd rs1 rs2 rk rp j stop => Sys2Proof.Machine.execCeVdot e rd rs1 rs2 rk rp j stop s
  -- Control-engine events
  | .c0HandlerEntry e => Sys2Proof.Machine.execC0HandlerEntry e s
  | .engineEccScrub e instr addr corrected => Sys2Proof.Machine.execEngineEccScrub e instr addr corrected s
  | .ceEnable u e on => Sys2Proof.Machine.execCeEnable u e on s
  | .ceArmownWrite u e value => Sys2Proof.Machine.execCeArmownWrite u e value s
  | .migrationStart u e target copy => Sys2Proof.Machine.execMigrationStart u e target copy s
  | .migrationCopied e => Sys2Proof.Machine.execMigrationCopied e s
  | .migrationAbort u e => Sys2Proof.Machine.execMigrationAbort u e s
  | .ceHostFence u e on => Sys2Proof.Machine.execCeHostFence u e on s
  | .ceCntClr u e => Sys2Proof.Machine.execCeCntClr u e s
  | .dlmaxClr u e => Sys2Proof.Machine.execDlmaxClr u e s
  -- Protection path and pulse outputs
  | .blockInActive pin => Sys2Proof.Machine.execBlockInActive pin s
  | .blockInInactive pin => Sys2Proof.Machine.execBlockInInactive pin s
  | .pairDisc => Sys2Proof.Machine.execPairDisc s
  | .sidebandLoss die => Sys2Proof.Machine.execSidebandLoss die s
  | .lpwBlkRel u mask => Sys2Proof.Machine.execLpwBlkRel u mask s
  | .lpwLock u => Sys2Proof.Machine.execLpwLock u s
  | .lpCommit u channel => Sys2Proof.Machine.execLpCommit u channel s
  | .lpFire u channel => Sys2Proof.Machine.execLpFire u channel s
  | .lpPeriodWrap channel => Sys2Proof.Machine.execLpPeriodWrap channel s
  | .lpOneshotEnd channel => Sys2Proof.Machine.execLpOneshotEnd channel s
  | .lpDeadTimeEnd channel => Sys2Proof.Machine.execLpDeadTimeEnd channel s
  | .debugHalt unit => Sys2Proof.Machine.execDebugHalt unit s
  | .debugHaltEnd unit => Sys2Proof.Machine.execDebugHaltEnd unit s
  -- Analogue inputs
  | .triggerGeneratorEvent tg => Sys2Proof.Machine.execTriggerGeneratorEvent tg s
  | .adcUrg u mask => Sys2Proof.Machine.execAdcUrg u mask s
  | .conversionComplete channel nanovolts => Sys2Proof.Machine.execConversionComplete channel nanovolts s
  | .backgroundCalStep group offset gain => Sys2Proof.Machine.execBackgroundCalStep group offset gain s
  | .syscalStart u ch step => Sys2Proof.Machine.execSyscalStart u ch step s
  | .syscalStepDone => Sys2Proof.Machine.execSyscalStepDone s
  | .vrefOutOfWindow group => Sys2Proof.Machine.execVrefOutOfWindow group s
  | .vrefRecover group => Sys2Proof.Machine.execVrefRecover group s
  | .adcCntClr u => Sys2Proof.Machine.execAdcCntClr u s
  -- Tandem
  | .tkovHoldRecognised => Sys2Proof.Machine.execTkovHoldRecognised s
  | .tkovHoldLost => Sys2Proof.Machine.execTkovHoldLost s
  | .tkovReadyChange ready => Sys2Proof.Machine.execTkovReadyChange ready s
  | .startRuleActive => Sys2Proof.Machine.execStartRuleActive s
  | .readyReached => Sys2Proof.Machine.execReadyReached s
  | .readinessLost => Sys2Proof.Machine.execReadinessLost s
  | .shadowFrameReceive f => Sys2Proof.Machine.execShadowFrameReceive f s
  | .statusFrameReceive f => Sys2Proof.Machine.execStatusFrameReceive f s
  | .yieldFrameReceive crcOk epoch mask => Sys2Proof.Machine.execYieldFrameReceive crcOk epoch mask s
  | .tkovFault => Sys2Proof.Machine.execTkovFault s
  | .takeoverTxEnable => Sys2Proof.Machine.execTakeoverTxEnable s
  | .yieldCondition cond found => Sys2Proof.Machine.execYieldCondition cond found s
  | .tandemYield => Sys2Proof.Machine.execTandemYield s
  | .tndSwitch u => Sys2Proof.Machine.execTndSwitch u s
  | .tndRejoin u => Sys2Proof.Machine.execTndRejoin u s
  | .tndPartnerRst u => Sys2Proof.Machine.execTndPartnerRst u s
  | .tandemPartnerReset => Sys2Proof.Machine.execTandemPartnerReset s
  | .tndCntClr u => Sys2Proof.Machine.execTndCntClr u s
  | .tndLock u => Sys2Proof.Machine.execTndLock u s
  | .tndSyncWrite u n base len => Sys2Proof.Machine.execTndSyncWrite u n base len s
  | .tandemLaneLost lane => Sys2Proof.Machine.execTandemLaneLost lane s
  | .tandemLaneRejoin lane => Sys2Proof.Machine.execTandemLaneRejoin lane s
  | .dualActiveDetect => Sys2Proof.Machine.execDualActiveDetect s
  | .epochHunt => Sys2Proof.Machine.execEpochHunt s
  -- Host rings
  | .hifOpen fn => Sys2Proof.Machine.execHifOpen fn s
  | .hifClose fn => Sys2Proof.Machine.execHifClose fn s
  | .hifCloseAbandon fn => Sys2Proof.Machine.execHifCloseAbandon fn s
  | .hifDbCmd fn value => Sys2Proof.Machine.execHifDbCmd fn value s
  | .hifDbCpl fn value => Sys2Proof.Machine.execHifDbCpl fn value s
  | .hifDbEvt fn value => Sys2Proof.Machine.execHifDbEvt fn value s
  | .hifDbBlk fn value => Sys2Proof.Machine.execHifDbBlk fn value s
  | .shadowTailPoll fn tail => Sys2Proof.Machine.execShadowTailPoll fn tail s
  | .descriptorFetch fn slots => Sys2Proof.Machine.execDescriptorFetch fn slots s
  | .eventRingSpace fn => Sys2Proof.Machine.execEventRingSpace fn s
  | .msixHoldExpire fn vector => Sys2Proof.Machine.execMsixHoldExpire fn vector s
  | .bulkBufferFill fn entry => Sys2Proof.Machine.execBulkBufferFill fn entry s
  | .hostReadTimeout fn index => Sys2Proof.Machine.execHostReadTimeout fn index s
  | .functionLevelReset fn => Sys2Proof.Machine.execFunctionLevelReset fn s
  | .portReset port => Sys2Proof.Machine.execPortReset port s
  -- Descriptors
  | .hostNop fn index => Sys2Proof.Machine.execHostNop fn index s
  | .readPoints fn index => Sys2Proof.Machine.execReadPoints fn index s
  | .freshReadTimeout fn index => Sys2Proof.Machine.execFreshReadTimeout fn index s
  | .readReg fn index => Sys2Proof.Machine.execReadReg fn index s
  | .readLink fn index => Sys2Proof.Machine.execReadLink fn index s
  | .streamOpen fn index => Sys2Proof.Machine.execStreamOpen fn index s
  | .streamClose fn index => Sys2Proof.Machine.execStreamClose fn index s
  | .sessionClose fn index => Sys2Proof.Machine.execSessionClose fn index s
  | .setpoint fn index => Sys2Proof.Machine.execSetpoint fn index s
  | .emergencyBlock fn index => Sys2Proof.Machine.execEmergencyBlock fn index s
  | .pointWrite fn index => Sys2Proof.Machine.execPointWrite fn index s
  | .cfgWrite fn index => Sys2Proof.Machine.execCfgWrite fn index s
  | .cfgDmem fn index => Sys2Proof.Machine.execCfgDmem fn index s
  | .ceLoad fn index => Sys2Proof.Machine.execCeLoad fn index s
  | .cellCtlRelease fn index => Sys2Proof.Machine.execCellCtlRelease fn index s
  | .cellCtlResume fn index => Sys2Proof.Machine.execCellCtlResume fn index s
  | .blockRelease fn index => Sys2Proof.Machine.execBlockRelease fn index s
  | .resetCmd fn index => Sys2Proof.Machine.execResetCmd fn index s
  -- Firmware staging
  | .fwStage fn index => Sys2Proof.Machine.execFwStage fn index s
  | .stagingTimeout => Sys2Proof.Machine.execStagingTimeout s
  | .recoveryReset => Sys2Proof.Machine.execRecoveryReset s
  -- Sessions, policy and lifecycle
  | .sessionOpen fn index => Sys2Proof.Machine.execSessionOpen fn index s
  | .sessionExpiry handle => Sys2Proof.Machine.execSessionExpiry handle s
  | .secPolicy fn index verified => Sys2Proof.Machine.execSecPolicy fn index verified s
  | .secProvision fn index verified => Sys2Proof.Machine.execSecProvision fn index verified s
  | .move0PolicyOnly fn index => Sys2Proof.Machine.execMove0PolicyOnly fn index s
  | .move1 fn index => Sys2Proof.Machine.execMove1 fn index s
  | .move2 fn index verified => Sys2Proof.Machine.execMove2 fn index verified s
  | .move3Reprovision fn index verified => Sys2Proof.Machine.execMove3Reprovision fn index verified s
  | .move4Retire fn index verified zeroised => Sys2Proof.Machine.execMove4Retire fn index verified zeroised s
  | .move5ClearTamper fn index => Sys2Proof.Machine.execMove5ClearTamper fn index s
  | .debugOpen fn index verified zeroised => Sys2Proof.Machine.execDebugOpen fn index verified zeroised s
  | .testPermit fn index => Sys2Proof.Machine.execTestPermit fn index s
  | .permitLapse => Sys2Proof.Machine.execPermitLapse s
  | .fuseReread reads => Sys2Proof.Machine.execFuseReread reads s
  -- Memory and traffic
  | .sramUncorrectable place inTarget what => Sys2Proof.Machine.execSramUncorrectable place inTarget what s
  | .targetedRowRefresh => Sys2Proof.Machine.execTargetedRowRefresh s
  | .shedWindow reqs => Sys2Proof.Machine.execShedWindow reqs s
  | .bankSwapStart u bank corrected => Sys2Proof.Machine.execBankSwapStart u bank corrected s
  | .bankSwapSwitch bank => Sys2Proof.Machine.execBankSwapSwitch bank s
  | .qosCntClr u => Sys2Proof.Machine.execQosCntClr u s
  -- Station ports
  | .stationFrameReceive port f wait => Sys2Proof.Machine.execStationFrameReceive port f wait s
  | .gooseTalExpire filter => Sys2Proof.Machine.execGooseTalExpire filter s
  | .stpBridgeEnable u on => Sys2Proof.Machine.execStpBridgeEnable u on s
  | .stpLock u => Sys2Proof.Machine.execStpLock u s
  | .stpCntClr u => Sys2Proof.Machine.execStpCntClr u s
  -- Time bases
  | .referenceFail ref => Sys2Proof.Machine.execReferenceFail ref s
  | .referenceRevert => Sys2Proof.Machine.execReferenceRevert s
  | .referenceReselect ref => Sys2Proof.Machine.execReferenceReselect ref s
  | .tb0IncNsWrite u ns => Sys2Proof.Machine.execTb0IncNsWrite u ns s
  | .tb0Adj u adj => Sys2Proof.Machine.execTb0Adj u adj s
  | .tb0Set u ns => Sys2Proof.Machine.execTb0Set u ns s
  | .syncDecl u on => Sys2Proof.Machine.execSyncDecl u on s
  | .syncHoldExpire => Sys2Proof.Machine.execSyncHoldExpire s
  | .servoStep base => Sys2Proof.Machine.execServoStep base s
  | .ppsOut => Sys2Proof.Machine.execPpsOut s
  | .ppsInEdge => Sys2Proof.Machine.execPpsInEdge s
  -- Safety island
  | .safetyCycle samples rb srstLow agree => Sys2Proof.Machine.execSafetyCycle samples rb srstLow agree s
  | .islandFault cause => Sys2Proof.Machine.execIslandFault cause s
  | .islandRestart => Sys2Proof.Machine.execIslandRestart s
  | .paramMessage payload => Sys2Proof.Machine.execParamMessage payload s
  | .pendingSetDiscard => Sys2Proof.Machine.execPendingSetDiscard s
  | .dataMessage port src payload => Sys2Proof.Machine.execDataMessage port src payload s
  | .producedMessageSend conn => Sys2Proof.Machine.execProducedMessageSend conn s
  | .connectionTimeout conn => Sys2Proof.Machine.execConnectionTimeout conn s
  | .deliberateReset highMs => Sys2Proof.Machine.execDeliberateReset highMs s
  | .srstStuck => Sys2Proof.Machine.execSrstStuck s
  | .offPulseTest out => Sys2Proof.Machine.execOffPulseTest out s
  | .offPulseSample out rba rbb => Sys2Proof.Machine.execOffPulseSample out rba rbb s
  | .readbackFault out => Sys2Proof.Machine.execReadbackFault out s
  | .guardLockRelease fn => Sys2Proof.Machine.execGuardLockRelease fn s
  -- Scheduler
  | .schYield core task list arg high => Sys2Proof.Machine.execSchYield core task list arg high s
  | .schDelay core task list arg high => Sys2Proof.Machine.execSchDelay core task list arg high s
  | .schWait core task list arg high => Sys2Proof.Machine.execSchWait core task list arg high s
  | .schSignal core task list arg high => Sys2Proof.Machine.execSchSignal core task list arg high s
  | .schExit core task list arg high => Sys2Proof.Machine.execSchExit core task list arg high s
  | .schPrio core task list arg high => Sys2Proof.Machine.execSchPrio core task list arg high s
  | .schPreempt core task list arg high => Sys2Proof.Machine.execSchPreempt core task list arg high s
  | .delayWake volley => Sys2Proof.Machine.execDelayWake volley s
  | .taskStart u task => Sys2Proof.Machine.execTaskStart u task s
  | .taskStop u task => Sys2Proof.Machine.execTaskStop u task s
  | .taskConfigure u task pri configured => Sys2Proof.Machine.execTaskConfigure u task pri configured s
  | .schCntClr u => Sys2Proof.Machine.execSchCntClr u s
  -- Interrupts and event queues
  | .irqSourcePending source => Sys2Proof.Machine.execIrqSourcePending source s
  | .irqClaim core => Sys2Proof.Machine.execIrqClaim core s
  | .irqEoi core source => Sys2Proof.Machine.execIrqEoi core source s
  | .irqSwi core value => Sys2Proof.Machine.execIrqSwi core value s
  | .vectoredEntry core => Sys2Proof.Machine.execVectoredEntry core s
  | .irqStormMask source stuck => Sys2Proof.Machine.execIrqStormMask source stuck s
  | .evqW u word => Sys2Proof.Machine.execEvqW u word s
  | .irqEqPop q => Sys2Proof.Machine.execIrqEqPop q s
  | .eqFlush u q => Sys2Proof.Machine.execEqFlush u q s
  | .eqCntClr u q => Sys2Proof.Machine.execEqCntClr u q s
  -- Recorder
  | .recEnable u d => Sys2Proof.Machine.execRecEnable u d s
  | .recDisable u d => Sys2Proof.Machine.execRecDisable u d s
  | .recArmed d => Sys2Proof.Machine.execRecArmed d s
  | .recTrigger d => Sys2Proof.Machine.execRecTrigger d s
  | .recHostTrig u mask => Sys2Proof.Machine.execRecHostTrig u mask s
  | .recPostEnd d => Sys2Proof.Machine.execRecPostEnd d s
  | .gapEntryWrite d => Sys2Proof.Machine.execGapEntryWrite d s
  | .recCntClr u => Sys2Proof.Machine.execRecCntClr u s
  -- Service and housekeeping
  | .hkpLift u kind index testPassed => Sys2Proof.Machine.execHkpLift u kind index testPassed s
  | .autoMigration engine => Sys2Proof.Machine.execAutoMigration engine s
  | .apcFence core => Sys2Proof.Machine.execApcFence core s
  | .cadenceUpdate readings => Sys2Proof.Machine.execCadenceUpdate readings s
  | .marginUndo => Sys2Proof.Machine.execMarginUndo s
  | .kminClr u => Sys2Proof.Machine.execKminClr u s
  | .fanTachEdges fan periodUs => Sys2Proof.Machine.execFanTachEdges fan periodUs s
  | .fanStartTimeout fan => Sys2Proof.Machine.execFanStartTimeout fan s
  | .fanStall fan => Sys2Proof.Machine.execFanStall fan s
  | .fanRetry fan => Sys2Proof.Machine.execFanRetry fan s
  | .fanRecovered fan => Sys2Proof.Machine.execFanRecovered fan s
  | .fanClr u fan => Sys2Proof.Machine.execFanClr u fan s
  | .pertCtlWrite u reg value => Sys2Proof.Machine.execPertCtlWrite u reg value s
  -- Firmware trial and settings
  | .fwConfirm u => Sys2Proof.Machine.execFwConfirm u s
  | .fwAutoConfirm => Sys2Proof.Machine.execFwAutoConfirm s
  | .fwReject u => Sys2Proof.Machine.execFwReject u s
  | .healthExpire => Sys2Proof.Machine.execHealthExpire s
  | .deferredFallbackReset => Sys2Proof.Machine.execDeferredFallbackReset s
  | .fwSave u => Sys2Proof.Machine.execFwSave u s
  | .fwClrStage u => Sys2Proof.Machine.execFwClrStage u s
  | .mirrorCopyDone answered => Sys2Proof.Machine.execMirrorCopyDone answered s
  | .secCntClr u => Sys2Proof.Machine.execSecCntClr u s
  -- Register writes and the remaining events
  | .registerWrite w addr value => Sys2Proof.Machine.execRegisterWrite w addr value s
  | .sidebandRestore die => Sys2Proof.Machine.execSidebandRestore die s
  | .lpCmpMatch channel => Sys2Proof.Machine.execLpCmpMatch channel s
  | .stationLinkChange port up => Sys2Proof.Machine.execStationLinkChange port up s
  | .pcieLinkUp port speed width => Sys2Proof.Machine.execPcieLinkUp port speed width s
  | .flrComplete fn => Sys2Proof.Machine.execFlrComplete fn s
  | .msixRateCapExpire fn vector => Sys2Proof.Machine.execMsixRateCapExpire fn vector s
  | .prbsLock spoke locked errors => Sys2Proof.Machine.execPrbsLock spoke locked errors s

end Sys2Proof.Machine
end

