-- ==== Sys2Proof/Machine/Tick.lean ====
section
/-! DEFINITION. One tick of the counter clock: the time bases advance (R443 to R447), the seconds counter and a
trial's remaining time follow (R74, R551), the watchdogs (R79) and
the running pulse channels count (R290), slice swaps fall due (R311), and the C0 island evaluates its sources (R283). It passes when no command waits. -/

namespace Sys2Proof.Machine

/-- TB0 at a tick: a committed increment is in force, a load or the count, and an added offset. -/
def State.tickTb0 (s : State) : State :=
  let s := match s.time.inc with
    | some (ns, frac) => { s with force := (s.force.set (Fld.TBS_TB_INC_NS_INC_NS 0) ns).set (Fld.TBS_TB_INC_FRAC_INC_FRAC 0) frac }
    | none => s
  let b := match s.time.set with
    | some (sec, ns) => (TimeBase.mk sec ns 0).total
    | none => (s.base 0).total + s.baseInc 0
  { s.setBase 0 (TimeBase.ofTotal (b + s.time.adj * 2 ^ 32)) with time := { s.time with inc := none, adj := 0, set := none } }

/-- A base that only counts. -/
def State.tickBase (s : State) (n : Nat) : State := s.setBase n (TimeBase.ofTotal ((s.base n).total + s.baseInc n))

/-- The counter of a running pulse channel, short of its own wrap and compare match, which are events. -/
def State.tickLp (s : State) (n : Nat) : State :=
  let c := s.rd (Fld.LPW_LP_STAT_CNT n) + 1
  if s.lpRuns n ∧ c < (s.lpc n).period ∧ c ≠ (s.lpc n).cmp then s.wr (Fld.LPW_LP_STAT_CNT n) c else s

/-- A tamper land that was low is still low or has been released, which no row of the table reports: a free bit (R82). -/
def State.tickTamper (s : State) (f : Field) : State :=
  if s.flag f then
    let (low, s) := s.freeBit
    s.wrB f low
  else s

/-- Seconds left of a trial, a begun one counted whole (R555). -/
def State.healthLeft (s : State) : Nat := (s.rst.healthEnd - s.nowTick + 799999999) / 800000000

/-- A running watchdog counts, but for the time in which MGC0 is halted by debug (R79). -/
def State.tickWatchdogs (s : State) : State :=
  if s.halted.contains (coreKey (.mgc 0)) then s
  else { s with rst := { s.rst with startFor := s.rst.startFor + (if s.rst.startWdt then 1 else 0),
                                    runFor := s.rst.runFor + (if s.rst.runWdt then 1 else 0) } }

/-- One tick; a slice swap due is made (R311), and the C0 island evaluates its sources in it (R283). -/
def State.tick (s : State) : State :=
  let s := (s.tickTamper Fld.RST_BACKUP_STAT_TAMP0_NOW).tickTamper Fld.RST_BACKUP_STAT_TAMP1_NOW
  let s := s.tickWatchdogs
  let sec := (s.base 3).sec
  let s := (s.servo 1).servo 2
  let s := (((s.tickTb0).tickBase 1).tickBase 2).tickBase 3
  let s := if sec < (s.base 3).sec then
      (s.bumpWrap Fld.RST_BACKUP_SEC_SECONDS).noteSync else s
  let s := if s.flag Fld.RST_FW_STAT_TRIAL ∧ s.started then s.wr Fld.RST_FW_HEALTH_REMAIN (s.healthLeft) else s
  let s := if s.lpFrozen then s else (List.range 16).foldl (fun s n => s.tickLp n) s
  s.adcSwaps.evaluate

end Sys2Proof.Machine
end

