-- ==== Sys2Proof/Safety.lean ====
section
/-! DEFINITION. What statements are made of: a step that answers a next state, what a command leaves alone, and the module's
state right after a reset. -/

namespace Sys2Proof.Machine

/-- A step answers the next state `t`. -/
def Steps (s t : State) : Prop := step s = .next t

/-- Every register field outside the list reads as before. -/
def RegsBut (fs : List Field) (s t : State) : Prop := ∀ g : Field, (∀ f ∈ fs, g.key ≠ f.key) → t.rd g = s.rd g

/-- A sparse map reads as before at every key outside the list. -/
def MapBut {α : Type} (d : α) (ks : List Nat) (m m' : FMap α) : Prop := ∀ k, k ∉ ks → FMap.get d m' k = FMap.get d m k

/-- Every register outside the address ranges `[lo, hi)` reads as before. -/
def RegsButIn (rs : List (Nat × Nat)) (s t : State) : Prop :=
  ∀ g : Field, g.lsb < 32 → (∀ r ∈ rs, g.addr < r.1 ∨ r.2 ≤ g.addr) → t.rd g = s.rd g

/-- The register fields an event may change beside its own flag: the sequence number of the module log and the flag of
its wrap (R524). -/
def loggedFields : List Field := [Fld.HKP_LOG_SEQ_LO_SEQ, Fld.HKP_LOG_SEQ_HI_SEQ, Fld.HKP_SVC_EVT_LOG_WRAP]

/-- Nothing but the listed register fields changes. -/
abbrev OnlyRegs (fs : List Field) (s t : State) : Prop := RegsBut fs s t ∧ t = { s with regs := t.regs }

/-- Nothing but the listed register fields, the history queues and the module log changes: what a command with events leaves. -/
abbrev OnlyLogged (fs : List Field) (s t : State) : Prop :=
  RegsBut (fs ++ loggedFields) s t ∧ t = { s with regs := t.regs, hist := t.hist, log := t.log }

/-- History and log hold exactly what the events of these flags write, in this order (R522, R524). -/
abbrev Logs (es : List (Field × Nat)) (s t : State) : Prop :=
  t.hist = (es.foldl (fun u e => u.raise e.1 e.2) s).hist ∧ t.log = (es.foldl (fun u e => u.raise e.1 e.2) s).log

/-- State and duty of the eight fan channels and BOOST (R535, R536). -/
def fanFields : List Field :=
  Fld.HKP_FAN_GSTAT_BOOST :: (List.range 8).flatMap (fun f => [Fld.HKP_FAN_STAT_STATE f, Fld.HKP_FAN_STAT_DUTY_OUT f])

/-- The fan runs while a duty is requested, else it is OFF (R535). -/
def fanRunState (s : State) (f : Nat) : Nat := if s.fanRequest s.fanBoost f = 0 then 0 else 2

/-! ### Engine instructions (R185 to R215) -/

/-- Nothing but engine `e` changes. -/
abbrev OnlyEng (e : Nat) (s t : State) : Prop := MapBut Engine.reset [e] s.engines t.engines ∧ t = { s with engines := t.engines }

/-- The engine goes on to the next instruction, `u` units later (R189, R205). -/
abbrev Advanced (e u : Nat) (s t : State) : Prop :=
  (t.eng e).pc = ((s.eng e).pc + 1) % 16384 ∧ (t.eng e).cycle = min ((s.eng e).cycle + u) (2 ^ 20 - 1)

/-- Register `rd` of the bank in use holds `v`, every other register of both banks stays (R188). -/
abbrev XHolds (e : Nat) (rd : BitVec 4) (v : W40) (s t : State) : Prop :=
  (t.eng e).getX rd = v ∧ (∀ r : BitVec 4, r ≠ rd → (t.eng e).getX r = (s.eng e).getX r) ∧
  ((s.eng e).hnd = true → (t.eng e).x = (s.eng e).x) ∧ ((s.eng e).hnd = false → (t.eng e).xh = (s.eng e).xh)

/-- An instruction whose only result is `v` in register `rd`: the engine advances and nothing else changes. -/
abbrev XSet (e : Nat) (rd : BitVec 4) (v : W40) (u : Nat) (s t : State) : Prop :=
  XHolds e rd v s t ∧ Advanced e u s t ∧
  t.eng e = { s.eng e with x := (t.eng e).x, xh := (t.eng e).xh, pc := (t.eng e).pc, cycle := (t.eng e).cycle } ∧ OnlyEng e s t

/-- An F40 result in `rd`: its flags are ORed into FFLAGS (R238, R248), its saturation into STATUS.SAT. -/
abbrev FSet (e : Nat) (rd : BitVec 4) (r : FRes) (u : Nat) (s t : State) : Prop :=
  XHolds e rd r.val s t ∧ Advanced e u s t ∧ (t.eng e).fflags = (s.eng e).fflags ||| r.flags ∧ (t.eng e).sat = ((s.eng e).sat || r.sat) ∧
  t.eng e = { s.eng e with
    x := (t.eng e).x, xh := (t.eng e).xh, pc := (t.eng e).pc, cycle := (t.eng e).cycle, fflags := (t.eng e).fflags, sat := (t.eng e).sat } ∧
  OnlyEng e s t

/-- Accumulator `a` holds `v` and STATUS.SAT is raised by `sat`; nothing else changes but PC and CYCLE. -/
abbrev AccSet (e a : Nat) (v : W40) (sat : Bool) (s t : State) : Prop :=
  (t.eng e).getAcc a = v ∧ MapBut 0 [a] (s.eng e).acc (t.eng e).acc ∧ Advanced e 1 s t ∧ (t.eng e).sat = ((s.eng e).sat || sat) ∧
  t.eng e = { s.eng e with acc := (t.eng e).acc, pc := (t.eng e).pc, cycle := (t.eng e).cycle, sat := (t.eng e).sat } ∧ OnlyEng e s t

/-- The engine stops after `u` units (R200, R215): a handler and a suspended instruction end. A window that waited for a handler
entered while idle opens at ENTRY; otherwise the counter stays. -/
abbrev StoppedAfter (e u : Nat) (s t : State) : Prop :=
  (t.eng e).hnd = false ∧ (t.eng e).prog = none ∧ (t.eng e).dmem = (s.eng e).dmem ∧ MapBut Engine.reset [e] s.engines t.engines ∧
  ((s.eng e).hnd = true → (s.eng e).c0Idle = true → (s.eng e).waitC = true → (t.eng e).waitC = false ∧ (t.eng e).running = true ∧
    (t.eng e).pc = ((s.eng e).container.map (·.entry)).getD 0 ∧ (t.eng e).cycle = min (s.stallUnits e) (2 ^ 20 - 1)) ∧
  ((s.eng e).hnd = false ∨ (s.eng e).c0Idle = false ∨ (s.eng e).waitC = false →
    (t.eng e).pc = (s.eng e).pc ∧ (t.eng e).cycle = min ((s.eng e).cycle + u) (2 ^ 20 - 1)) ∧
  ((s.eng e).hnd = false ∨ (s.eng e).c0Idle = false → (t.eng e).running = false ∧ (t.eng e).ended = true ∧
    ((s.eng e).ended = false → t.rd (Fld.CE_EVT_OVERRUN e) = 1 ∧ t.rd (Fld.CE_DLSTAT_LAST_END e) = 0x1FFFF)) ∧
  ((s.eng e).hnd = false ∨ (s.eng e).c0Idle = false ∨ (s.eng e).staged = [] →
    t = { s with regs := t.regs, hist := t.hist, log := t.log, engines := t.engines, tnd := t.tnd })

/-- An illegal instruction (R204, R215): ILLEGAL is set, one unit is spent and the engine stops. -/
abbrev IllegalTaken (e : Nat) (s t : State) : Prop := t.rd (Fld.CE_EVT_ILLEGAL e) = 1 ∧ StoppedAfter e 1 s t

/-- An address or target fault (R215). -/
abbrev AccessFaultTaken (e u : Nat) (s t : State) : Prop := t.rd (Fld.CE_EVT_ACC_FAULT e) = 1 ∧ StoppedAfter e u s t

/-- The elements of a long instruction: the `n` words from `a` on. -/
def elements (s : State) (e a n : Nat) : List W40 := (List.range n).map (fun i => (s.eng e).mem (a + i))

/-- (key, index) of every element of a raw form: its low 32 bits (R206). -/
def rawKeys (ws : List W40) : List (Nat × Nat) := ws.zipIdx.map (fun x => (x.1.toNat % 2 ^ 32, x.2))

/-- (key, member) of every member word that takes part in a .M form under a parameter word (R163, R195, R207). -/
def memberKeys (p : W40) (ws : List W40) : List (Nat × Nat) :=
  ws.zipIdx.filterMap (fun x => (memberKey p x.1 x.2).map (fun k => (k, x.2)))

/-- How many pairs come before `x` when pairs are ordered by key and then by index (R206). -/
def below (ks : List (Nat × Nat)) (x : Nat × Nat) : Nat :=
  (ks.filter (fun y => decide (y.1 < x.1 ∨ (y.1 = x.1 ∧ y.2 < x.2)))).length

/-- Register `rd` holds the result of rank `k` over `ks`: the key of the pair with k - 1 pairs below it, or all ones for a rank that
is refused (R206, R207). -/
abbrev RankIn (e : Nat) (rd : BitVec 4) (ks : List (Nat × Nat)) (k : Nat) (t : State) : Prop :=
  (1 ≤ k ∧ k ≤ ks.length → ∃ x ∈ ks, below ks x + 1 = k ∧ (t.eng e).getX rd = BitVec.ofNat 40 x.1) ∧
  (k = 0 ∨ ks.length < k → (t.eng e).getX rd = 0xFFFFFFFFFF#40)

/-- VIDX names the element of rank `k`. -/
abbrev VidxIs (e : Nat) (ks : List (Nat × Nat)) (k : Nat) (t : State) : Prop :=
  1 ≤ k ∧ k ≤ ks.length → ∃ x ∈ ks, below ks x + 1 = k ∧ (t.eng e).vidx = x.2

/-- A long instruction leaves the engine idle of it, one instruction on and `u` units later; registers from `rd` to `rd + j`,
VIDX and VR may change and nothing else does. -/
abbrev LongDone (e : Nat) (rd : BitVec 4) (j u : Nat) (s t : State) : Prop :=
  Advanced e u s t ∧ (t.eng e).prog = none ∧
  (∀ r : BitVec 4, r.toNat < rd.toNat ∨ rd.toNat + j < r.toNat → (t.eng e).getX r = (s.eng e).getX r) ∧
  t.eng e = { s.eng e with
    x := (t.eng e).x, xh := (t.eng e).xh, pc := (t.eng e).pc, cycle := (t.eng e).cycle, vidx := (t.eng e).vidx, vr := (t.eng e).vr, prog := none, resumed := false } ∧
  MapBut Engine.reset [e] s.engines t.engines ∧
  RegsBut [Fld.CE_STAT_PROG_VALID e, Fld.CE_STAT_IN_HANDLER e, Fld.CE_STAT_RUNNING e] s t ∧
  t = { s with regs := t.regs, engines := t.engines }

/-! ### Bursts and host reads -/

/-- The return window runs: it opened W after the boundary and has not closed (R25, R28). -/
abbrev WindowRuns (s : State) : Prop := s.seqr.windowOpen = true ∧ s.time.boundaryTick + s.timeline.w ≤ s.nowTick

/-- A burst of spoke `n` can be heard now: the window runs, the receiver is awake, the spoke not fenced and not in volley B (R28,
R104, R108). -/
abbrev Hears (n : Nat) (s : State) : Prop :=
  s.flag (Fld.SPK_STAT_RX_AWAKE n) = true ∧ s.flag (Fld.SPK_STAT_FENCED n) = false ∧ (s.spoke n).inB = false ∧ WindowRuns s

/-- No delimiter was accepted for the slot of cell `c` (R96): it counts, and nothing else changes. -/
abbrev NoLockCounted (n c : Nat) (s t : State) : Prop :=
  t.rd (Fld.SPK_CNT_NOLOCK_CNT n) = min (s.rd (Fld.SPK_CNT_NOLOCK_CNT n) + 1) (2 ^ 32 - 1) ∧ t.cell c = { s.cell c with outcome := .noLock } ∧
  MapBut Cell.reset [c] s.cells t.cells ∧ RegsBut [Fld.SPK_CNT_NOLOCK_CNT n] s t ∧ t = { s with regs := t.regs, cells := t.cells }

/-- The discovered cell is refused with a reason (R135): EXCESS and REFUSE_SENT are set, the REFUSE is due, no cell changes. -/
abbrev RefusedWith (n : Nat) (uid : BitVec 48) (reason : Nat) (s t : State) : Prop :=
  t.rd (Fld.SPK_EVT_EXCESS n) = 1 ∧ t.rd Fld.VLY_EVT_REFUSE_SENT = 1 ∧
  (t.spoke n).items = (s.spoke n).items ++ [.mgmt (.refuse uid reason 60)] ∧ t.cells = s.cells ∧ t.image = s.image

/-- The state in which the discovered cell counts as admitted, which R144 checks (R135). -/
def State.asAdmitted (s : State) (c : Nat) (d : Discovery) (d2 : Int) : State :=
  let both := d.verMask.toNat &&& s.rd Fld.VLY_CFG_VER_ALLOW
  s.setCell c (fun _ => { Cell.reset with
    uid := d.uid, ver := (if bitOf both 2 then 3 else if bitOf both 1 then 2 else if bitOf both 0 then 1 else 0), lstate := .admitted, delay2 := d2,
    topGear := (topBit d.gearMask.toNat 5).getD 0 })

/-- The cell a READ_POINTS names. -/
def freshCell (x : InFlight) : Option Nat :=
  match x.d.body with
  | .readPoints c _ _ _ _ _ _ => some c
  | _ => none

/-- Where a READ_POINTS delivers. -/
def freshDst (x : InFlight) : BitVec 64 :=
  match x.d.body with
  | .readPoints _ _ _ _ dst _ _ => dst
  | _ => 0

/-- A fault of core `u` at address `a`: its status register shows it and its history queue takes it (R21; what an entry holds is the
model's, log 124). -/
def faultEntry (s : State) (a : Nat) : HistEntry :=
  { ts := s.ts32 3, volley := BitVec.ofNat 32 (s.rd Fld.VLY_NOW_VOLLEY), reg := 0, bit := 0, rep := 0, detail := BitVec.ofNat 32 a }

/-- The write of a core without the right at address `a` is discarded and recorded in the core's status register and history queue
(R21, R23). -/
abbrev Discarded (u : Core) (a : Nat) (s : State) (o : Host.Outcome State Fault Refusal) : Prop :=
  let put := fun (x : CoreUnit) => (⟨true, (x.hist.push (faultEntry s a) (s.base 3).count).1⟩ : CoreUnit)
  o = .next { s with coreFault := FMap.modify CoreUnit.reset s.coreFault (coreKey u) put }

/-! ### Protection and pulse outputs (R277 to R295) -/

/-- Converters the sources name together. -/
def namedBy (src : List Source) : BitVec 8 := src.foldl (fun m x => m ||| x.mask) 0

/-- Spoke `n` carries a converter of the mask: a valid arm map entry of one of its arms (R284). -/
def carries (s : State) (n : Nat) (m : BitVec 8) : Bool := s.mapped.any (fun x => x.1 / 128 == n && m.getLsbD (x.2 / 6))

/-- What one tick's evaluation of the live sources of `v` leaves (R283, R284, R288, R289): the converters they name are blocked, the
others stay as they are; pending releases of named converters are cancelled; records and ordered sets follow, the sets joining what an
earlier command of the same tick decided. -/
abbrev BlocksLive (v t : State) : Prop :=
  let src := v.levelSources
  let blocked := BitVec.ofNat 8 (v.rd Fld.LPW_BLK_STAT_BLOCKED)
  let new := namedBy src &&& ~~~blocked
  let out := new ||| (namedBy src &&& v.c0.releasing)
  let sent := out ||| v.decided.1
  let decides := out ≠ 0 ∨ (∃ x ∈ src, x.mask &&& sent ≠ 0 ∧ x.reason < v.decided.2)
  BitVec.ofNat 8 (t.rd Fld.LPW_BLK_STAT_BLOCKED) = blocked ||| namedBy src ∧
  t.c0.releasing = v.c0.releasing &&& ~~~namedBy src ∧
  BitVec.ofNat 8 (t.rd Fld.LPW_BLK_REL_REL) = BitVec.ofNat 8 (v.rd Fld.LPW_BLK_REL_REL) &&& ~~~(namedBy src &&& v.c0.releasing ||| new) ∧
  (BitVec.ofNat 8 (v.rd Fld.LPW_BLK_REL_REL) &&& new ≠ 0 → t.rd Fld.LPW_BLK_EVT_REL_REFUSED = 1) ∧
  (new ≠ 0 → t.rd Fld.LPW_BLK_EVT_BLOCK = 1 ∧ t.rd Fld.LPW_CNT_BLOCK_CNT = min (v.rd Fld.LPW_CNT_BLOCK_CNT + 1) (2 ^ 32 - 1)) ∧
  (new = 0 → t.rd Fld.LPW_BLK_EVT_BLOCK = v.rd Fld.LPW_BLK_EVT_BLOCK ∧ t.rd Fld.LPW_CNT_BLOCK_CNT = v.rd Fld.LPW_CNT_BLOCK_CNT) ∧
  (∀ c : Fin 8, new.getLsbD c = true →
    (∀ x ∈ src, x.mask.getLsbD c = true → t.rd (Fld.LPW_BLK_SRC_REASON c) ≤ x.reason ∧ bitOf (t.rd (Fld.LPW_BLK_SRC_SRC c)) (x.reason - 1) = true) ∧
    (∃ x ∈ src, x.mask.getLsbD c = true ∧ t.rd (Fld.LPW_BLK_SRC_REASON c) = x.reason) ∧ t.rd (Fld.LPW_BLK_TS_TB3_NS c) = (v.ts32 3).toNat) ∧
  (∀ c : Fin 8, (namedBy src).getLsbD c = false → t.rd (Fld.LPW_BLK_SRC_SRC c) = v.rd (Fld.LPW_BLK_SRC_SRC c) ∧
    t.rd (Fld.LPW_BLK_SRC_REASON c) = v.rd (Fld.LPW_BLK_SRC_REASON c) ∧ t.rd (Fld.LPW_BLK_TS_TB3_NS c) = v.rd (Fld.LPW_BLK_TS_TB3_NS c)) ∧
  (∀ n : Fin 128,
    (v.activeOrSolo = true ∧ v.flag (Fld.SPK_STAT_TX_AWAKE n) = true ∧ v.flag (Fld.SPK_STAT_FENCED n) = false ∧ carries v n sent = true ∧ decides →
      ∃ o, (t.spoke n).osSent.getLast? = some o ∧ o.osid = 0xB1#8 ∧ o.byte5 = ~~~o.byte4 ∧ sent &&& ~~~o.byte4 = 0#8 ∧
        ((v.spoke n).blkLeave = none → (v.spoke n).blkTick = none → o.byte4 = sent)) ∧
    (v.activeOrSolo = false ∨ v.flag (Fld.SPK_STAT_TX_AWAKE n) = false ∨ v.flag (Fld.SPK_STAT_FENCED n) = true ∨ carries v n sent = false ∨ ¬ decides →
      t.spoke n = v.spoke n)) ∧
  t.c0.cellNow = v.c0.cellNow ∧ t.c0.levelA = v.c0.levelA ∧ t.c0.levelB = v.c0.levelB ∧ t.cells = v.cells ∧ t.image = v.image ∧ t.arms = v.arms

/-- Fields that show engine `e` and the demand of the engines (R213, R222, R227). -/
def engShown (e : Nat) : List Field :=
  [Fld.CE_STAT_STATE e, Fld.CE_STAT_PROG_VALID e, Fld.CE_STAT_IN_HANDLER e, Fld.CE_STAT_RUNNING e, Fld.CE_GDEMAND_DEMAND] ++
    (List.range 32).map Fld.CE_DEMAND_DEMAND

/-- Fields the pulse outputs show (R296). -/
def lpFields : List Field := (List.range 16).flatMap (fun n =>
  [Fld.LPW_LP_STAT_MASKED n, Fld.LPW_LP_STAT_IL_HOLD n, Fld.LPW_LP_STAT_FROZEN n, Fld.LPW_LP_STAT_OUT n])

/-- The outputs have been worked out after a change of channel `n`: every channel without interlock is on as its mask, a halt and its
counter say (R290, R293, R295), and nothing but the channels and the listed fields changes. -/
abbrev LpUpdated (n : Nat) (fs : List Field) (s t : State) : Prop :=
  (∀ c : Fin 16, t.flag (Fld.LPW_LP_CFG_IL_EN c) = false → t.lpOut c = t.lpWant c) ∧
  (∀ c : Fin 16, c.val ≠ n → (t.lpc c).period = (s.lpc c).period ∧ (t.lpc c).cmp = (s.lpc c).cmp ∧ (t.lpc c).shot = (s.lpc c).shot) ∧
  RegsBut (fs ++ lpFields) s t ∧ t = { s with regs := t.regs, lp := t.lp }

/-! ### The compute window (R191 to R195) -/

/-- Word `j` of the volley header and the measured words of engine `e` (R193, R252, R317), for j below 256. -/
def windowWord (s : State) (e j : Nat) : W40 :=
  let t := s.timeline
  let b := fun (p : Bool) (v : Nat) => if p then v else 0
  let tin := s.time.boundaryTick + s.inTick
  match j with
  | 0 => BitVec.ofNat 40 (s.rd Fld.VLY_NOW_VOLLEY)
  | 1 => BitVec.ofNat 40 (s.seqr.sidRef.toNat + 256 * s.rd Fld.VLY_NOW2_SID_NOW + b s.seqr.strobe 65536 +
      b ((s.ownsNow e).any (fun p => (s.members p.2).any (fun x => s.gcNext (x.1 / 128)))) 131072)
  | 2 => BitVec.ofNat 40 (8 * t.p10)
  | 3 => BitVec.ofNat 40 (t.c + 131072 * t.a)
  | 4 => BitVec.ofNat 40 (s.time.boundaryTb2 % 2 ^ 32)
  | 5 => BitVec.ofNat 40 (s.rd Fld.HKP_CAD_STAT_K)
  | 6 => BitVec.ofNat 40 (s.rd Fld.LPW_BLK_STAT_BLOCKED)
  | 7 => BitVec.ofNat 40 (b (s.eng e).prevOvr 1 + 2 * s.rd (Fld.CE_RUN_RUN e))
  | _ =>
    if j < 64 then 0 else if j < 92 then s.adcWord (j - 64) tin else if j < 96 then 0
    else s.svWord (j - 96) tin (s.time.boundaryTb2 + s.inTick * 5 / 4)

/-! ### Completions and resets of functions (R368, R369, R377) -/

/-- Descriptor `x` of function `f` has completed with a status and a result: it is in flight no longer, and unless CSUP suppresses it
its record stands where the completion ring's tail stood (R368, R369). -/
abbrev CompletedWith (f : Nat) (x : InFlight) (st : Status) (result : Nat) (s t : State) : Prop :=
  (∀ y ∈ (t.fn f).inflight, y.serial ≠ x.serial) ∧
  (x.d.csup = false ∨ st ≠ .ok →
    (FMap.get none t.hostMem.cpl (65536 * f + s.rd (Fld.HIF_FN_CPL_PTR_TAIL f))).map
      (fun r => (r.tag, r.status, r.opcode, r.session, r.result)) = some (x.d.tag, st.code, x.d.body.opcode, x.d.session, BitVec.ofNat 64 result))

/-- Function `f` has been reset (R377): nothing in flight, no stream, no session, rings closed, FLR_BUSY set. -/
abbrev FnReset (f : Nat) (t : State) : Prop :=
  (t.fn f).inflight = [] ∧ (t.fn f).evtQueue = [] ∧ (t.fn f).streams = [] ∧ (t.fn f).closing = false ∧ (∀ x ∈ t.sec.sessions, x.fn ≠ f) ∧
  t.fnOpen f = false ∧ t.rd (Fld.HIF_FN_STAT_FLR_BUSY f) = 1 ∧ t.rd (Fld.HIF_FN_CTL_LEVEL_MAX f) = (Fld.HIF_FN_CTL_LEVEL_MAX f).reset ∧
  t.rd (Fld.HIF_FN_CMD_PTR_HEAD f) = 0 ∧ t.rd (Fld.HIF_FN_CMD_PTR_TAIL f) = 0

/-! ### Custodian objects (R392 to R394) -/

/-- A refused object is counted and reported, and changes no lifecycle, fuse, session or policy (R393). -/
abbrev ObjectRefused (f : Nat) (x : InFlight) (r : Status × Nat) (s t : State) : Prop :=
  CompletedWith f x r.1 0 s t ∧ t.rd Fld.SEC_EVT_OBJ_FAIL = 1 ∧
  t.rd Fld.SEC_CNT_OBJFAIL_CNT = min (s.rd Fld.SEC_CNT_OBJFAIL_CNT + 1) (2 ^ Fld.SEC_CNT_OBJFAIL_CNT.width - 1) ∧
  t.keyLc = s.keyLc ∧ t.fuses = s.fuses ∧ t.rst = s.rst ∧ t.sec.permit = s.sec.permit ∧ t.sec.tamperAct = s.sec.tamperAct ∧ t.sec.floor = s.sec.floor ∧
  t.rd Fld.SEC_LC_STATE = s.rd Fld.SEC_LC_STATE ∧ t.rd Fld.SEC_POL_SERIAL_SERIAL = s.rd Fld.SEC_POL_SERIAL_SERIAL

/-- An accepted bundle is in force (R394): serial, hash, floor of T_sec, and the records and slots it carries. -/
abbrev BundleTaken (o : CustObject) (s t : State) : Prop :=
  t.rd Fld.SEC_POL_SERIAL_SERIAL = o.serial % 2 ^ 32 ∧ t.sec.floor = some (o.time0, s.seconds) ∧ t.rd Fld.SEC_EVT_BUNDLE = 1 ∧
  (∀ i : Fin 8, t.rd (Fld.SEC_POL_HASH_HASH i) = o.hash / 2 ^ (32 * i.val) % 2 ^ 32) ∧
  (∀ f : Fin 256, ∀ j : Fin 16, t.rd (Fld.SEC_CAP_WORD f j) = ((o.cap.map (fun rs => ((rs.getD f.val []).getD j.val 0).toNat)).getD (s.rd (Fld.SEC_CAP_WORD f j)))) ∧
  (∀ a : Fin 4, ∀ j : Fin 16, t.rd (Fld.SEC_AUTH_WORD a j) = ((o.auth.map (fun rs => ((rs.getD a.val []).getD j.val 0).toNat)).getD (s.rd (Fld.SEC_AUTH_WORD a j)))) ∧
  t.sec.tamperAct = o.tamperAct.getD s.sec.tamperAct

/-! ### Interrupts and event queues (R491 to R508) -/

/-- Source `n` is the candidate of core `t` (R493): eligible, and before every other eligible source by priority and then number. -/
abbrev IsCandidate (s : State) (t n : Nat) : Prop :=
  s.irqEligible t n = true ∧
  ∀ m : Fin 1024, s.irqEligible t m = true → s.irqPri m < s.irqPri n ∨ (s.irqPri m = s.irqPri n ∧ n ≤ m.val)

/-- Core `t` has claimed source `n` (R494): it is active on that core and on top of its stack. -/
abbrev Claimed (t n : Nat) (s v : State) : Prop :=
  v.rd (Fld.IRQ_SRC_STAT_PENDING n) = 0 ∧ v.rd (Fld.IRQ_SRC_STAT_ACTIVE n) = 1 ∧ v.rd (Fld.IRQ_SRC_STAT_CORE n) = t ∧
  (v.irqCore t).stack = (s.irqPri n, n) :: (s.irqCore t).stack ∧
  v.rd (Fld.IRQ_CORE_DEPTH t) = ((s.irqCore t).stack.length + 1) % 32 ∧ v.rd (Fld.IRQ_CORE_TOP_SRC t) = n ∧
  MapBut IrqCore.reset [t] s.irqCores v.irqCores ∧
  RegsBut [Fld.IRQ_SRC_STAT_PENDING n, Fld.IRQ_SRC_STAT_ACTIVE n, Fld.IRQ_SRC_STAT_CORE n, Fld.IRQ_CORE_DEPTH t, Fld.IRQ_CORE_TOP_PRI t,
    Fld.IRQ_CORE_TOP_SRC t] s v ∧
  v = { s with regs := v.regs, irqCores := v.irqCores }

/-- The source becomes pending, and is counted in its window (R492, R497). -/
abbrev Pends (n : Nat) (s v : State) : Prop :=
  v.rd (Fld.IRQ_SRC_STAT_PENDING n) = 1 ∧
  (s.rd (Fld.IRQ_SRC_STAT_PENDING n) = 0 → (FMap.get IrqRate.reset v.irqRates n).win = (s.base 3).count / 1000000) ∧
  MapBut IrqRate.reset [n] s.irqRates v.irqRates ∧ RegsBut [Fld.IRQ_SRC_STAT_PENDING n] s v ∧ v = { s with regs := v.regs, irqRates := v.irqRates }

/-- The words of event queue `q`, oldest first. -/
def queueWords (s : State) (q : Nat) : List (BitVec 32) := (s.queue q).groups.flatten

/-- What IRQ_EQq_STAT says of its queue. -/
def queueStat (q : Nat) : List Field :=
  [Fld.IRQ_EQ_STAT_FILL q, Fld.IRQ_EQ_STAT_IN_ITEM q, Fld.IRQ_EQ_STAT_LEFT q, Fld.IRQ_EQ_STAT_ORPHANING q]

/-- Nothing but queue `q` and the listed register fields changes. -/
abbrev OnlyQueue (q : Nat) (fs : List Field) (s v : State) : Prop :=
  MapBut EventQ.reset [q] s.eq v.eq ∧ RegsBut (fs ++ queueStat q) s v ∧ v = { s with regs := v.regs, eq := v.eq }

/-! ### Registers written by name (R8, R9, R354) -/

/-- Table addresses of the registers that hold what is written to them and do nothing else: SPK_GCFG, the VLY timeline and budget
registers, ADC_GCFG, pulse periods, TBS and STP configuration, RST_FW_CFG, HKP_FEED_CFG, HKP_SVC_CFG, IRQ_STORM, IRQ_SRC_TGT, QOS_CFG, MEM_CFG. -/
def plainRegs : List Nat :=
  [0x8080000, 0x8100000, 0x8100004, 0x8100008, 0x810000c, 0x8100010, 0x8100018, 0x810001c, 0x8100020, 0x8102000, 0x8102004,
   0x8300000, 0x8300010, 0x8401004, 0x8401008, 0x8600804, 0x8600808, 0x8600810, 0x8600818, 0x8700004, 0x8700008, 0x870000c,
   0x8701000, 0x8701004, 0x8701008, 0x870100c, 0x8701010, 0x8702000, 0x8703004, 0x8703008, 0x870300c, 0x8c00050, 0x8d0010c,
   0x8d00500, 0x9000000, 0x9010004, 0x901000c, 0x9100010, 0x9200204]

/-- Every field of the word carries a value the register's rule defines. -/
abbrev InRange (d : RegDef) (i j v : Nat) : Prop := ∀ fd ∈ d.fields, fd.lo ≤ (fd.fld i j).part v ∧ (fd.fld i j).part v ≤ fd.hi

/-- The register holds the word, and is the only one to change; a staged one waits for the strobe (R26). -/
abbrev Holds (d : RegDef) (i j a v : Nat) (s t : State) : Prop :=
  (∀ fd ∈ d.fields, t.rd (fd.fld i j) = (fd.fld i j).part v) ∧ RegsBut (d.fields.map (fun fd => fd.fld i j)) s t ∧
  t.force = s.force ∧ t.seqr = { s.seqr with staged := s.seqr.staged || stagedAddr a }

/-! ### The safety island (R457 to R482) -/

/-- The registers an event may change beside its own (R524), as address ranges. -/
def loggedRanges : List (Nat × Nat) := loggedFields.map (fun f => (f.addr, f.addr + 4))

/-- Nothing but the island, its status registers, the history and the log changes. -/
abbrev IslandOnly (s t : State) : Prop :=
  RegsButIn ((0x8500000, 0x8500100) :: loggedRanges) s t ∧ t = { s with regs := t.regs, saf := t.saf, hist := t.hist, log := t.log }

/-! ### Scheduler (R485 to R490) -/

/-- What every step keeps of the scheduler: ready lists hold READY tasks of their priority, without repeats; delay lists hold tasks
that wait for a tick; a core that is not idle runs a RUNNING task of its own; slots hold READY tasks; no idle task is in any (R485). -/
abbrev TasksSound (s : State) : Prop :=
  (∀ p : Fin 32, (s.readyList p).Nodup ∧ ∀ t ∈ s.readyList p, t < 4072 ∧ s.taskState t = 2 ∧ s.taskPri t = p.val) ∧
  (∀ x ∈ s.sch.us ++ s.sch.vol, x.2 < 4072 ∧ (s.taskState x.2 = 4 ∨ s.taskState x.2 = 6)) ∧
  (∀ c : Fin 24, s.idle c = false → s.running c < 4072 ∧ s.taskState (s.running c) = 3 ∧
    ∀ d : Fin 24, d ≠ c → s.idle d = false → s.running d ≠ s.running c) ∧
  (∀ c : Fin 24, ∀ t ∈ s.slotOf c, t < 4072 ∧ s.taskState t = 2)

/-- A READY task may run on core `c`: its AFF names the core and it sits in no other core's slot (R486). -/
def mayRun (s : State) (c t : Nat) : Bool := bitOf (s.rd (Fld.SCH_TASK_AFF_AFF t)) c && !s.slottedElsewhere c t

/-- LAST of the task is `c`, and it has been READY for less than AFF_WAIT_US (R486). -/
def freshOn (s : State) (c t : Nat) : Bool :=
  s.rd (Fld.SCH_TASK_CFG_LAST t) == c && decide (s.nowTick - (s.task t).readyAt < s.rd Fld.SCH_CFG_AFF_WAIT_US * 800)

/-- Core `c` now runs task `t`, whose pending command returns (R486, R488). -/
abbrev RunsTask (c t : Nat) (s v : State) : Prop :=
  v.running c = t ∧ v.idle c = false ∧ v.taskState t = 3 ∧ v.rd (Fld.SCH_TASK_CFG_LAST t) = c ∧
  v.rd (Fld.SCH_CORE_RUN_PRI c) = s.taskPri t % 32 ∧ (v.task t).ret = none ∧
  (∀ code, (s.task t).ret = some code → FMap.get 0 v.sch.result c =
    (if code = 0 then 1 else 0) + code * 2 + t * 16 + s.rd (Fld.SCH_TASK_CFG_NOTE t) * 2 ^ 16) ∧
  ((s.task t).ret = none → FMap.get 0 v.sch.result c = FMap.get 0 s.sch.result c)

/-- Core `c`, which ran `was`, has switched to the task it takes, if any: `u` is the state with the earlier task put in its place (R487). -/
abbrev SwitchedTo (c was : Nat) (take : Option Nat) (u v : State) : Prop :=
  (∀ t, take = some t → RunsTask c t u v ∧ v.rd Fld.SCH_CNT_STEAL_CNT = u.rd Fld.SCH_CNT_STEAL_CNT) ∧
  (∀ t, u.selectFor c (fun _ => true) = some t → take = none → RunsTask c t u v ∧
    v.rd Fld.SCH_CNT_STEAL_CNT = min (u.rd Fld.SCH_CNT_STEAL_CNT + 1) (2 ^ 32 - 1)) ∧
  (u.selectFor c (fun _ => true) = none → take = none → v.running c = 4072 + c ∧ v.idle c = true ∧ v.rd (Fld.SCH_CORE_RUN_PRI c) = 0 ∧
    v.rd Fld.SCH_CNT_STEAL_CNT = u.rd Fld.SCH_CNT_STEAL_CNT ∧ FMap.get 0 v.sch.result c = FMap.get 0 u.sch.result c) ∧
  (v.running c ≠ was → v.rd Fld.SCH_CNT_SWITCH_CNT = min (u.rd Fld.SCH_CNT_SWITCH_CNT + 1) (2 ^ 32 - 1)) ∧
  (v.running c = was → v.rd Fld.SCH_CNT_SWITCH_CNT = u.rd Fld.SCH_CNT_SWITCH_CNT) ∧
  (∀ t : Nat, t < 4096 → t ≠ v.running c → v.taskState t = u.taskState t ∧ v.rd (Fld.SCH_TASK_CFG_NOTE t) = u.rd (Fld.SCH_TASK_CFG_NOTE t)) ∧
  (∀ d : Fin 24, d.val ≠ c → v.running d = u.running d ∧ v.idle d = u.idle d) ∧
  v = { u with regs := v.regs, sch := { v.sch with volleys := u.sch.volleys, lifting := u.sch.lifting }, freeCtr := v.freeCtr }

/-- The result word of a command (R488). -/
def resultWord (code t note : Nat) : Nat := (if code = 0 then 1 else 0) + code * 2 + t * 16 + note * 2 ^ 16

/-- A command answers core `c` with this result, and does nothing else but what the list of fields says. -/
abbrev Answered (c code t note : Nat) (fs : List Field) (s v : State) : Prop :=
  FMap.get 0 v.sch.result c = resultWord code t note ∧ MapBut 0 [c] s.sch.result v.sch.result ∧
  RegsBut (fs ++ loggedFields) s v ∧
  v = { s with regs := v.regs, hist := v.hist, log := v.log, sch := { s.sch with result := v.sch.result } }

/-- Task `t` has become READY: at the tail of its list, in no delay list, and its preemption source pending (R490). -/
abbrev BecomesReady (t : Nat) (s v : State) : Prop :=
  v.taskState t = 2 ∧ (v.readyList (v.taskPri t)).getLast? = some t ∧ v.rd (Fld.SCH_TASK_WAKE_TICK t) = 0 ∧
  (∀ x ∈ v.sch.us ++ v.sch.vol, x.2 ≠ t) ∧
  (∀ k, s.preemptCore t = some k → s.flag Fld.SCH_CFG_EN = true → v.rd (Fld.IRQ_SRC_STAT_PENDING (256 + k)) ≠ 0) ∧
  (∀ t' : Nat, t' < 4096 → t' ≠ t → v.taskState t' = s.taskState t') ∧
  (∀ c : Fin 24, v.running c = s.running c ∧ v.idle c = s.idle c)

/-! ### F40 numbers (R236, R237) -/

/-- The word is a finite number. -/
def f40Finite (w : W40) : Bool := !isNaN w && !isInf w

/-- The value of a finite word, in units of 2^-157, the least quantum of the format. -/
def f40Scaled (w : W40) : Int :=
  let v : Int := (fMant w * 2 ^ (fPow w + 157).toNat : Nat)
  if fSign w then -v else v

/-- Beside any other finite word `w`, the word `r` is the rounding in mode `m` of the exact value `x` in units of 2^-(157 + k). -/
abbrev RoundsTo (m : RMode) (x : Int) (k : Nat) (r w : W40) : Prop :=
  let vr := f40Scaled r * 2 ^ k
  let vw := f40Scaled w * 2 ^ k
  (m = .nearest → (vr - x).natAbs ≤ (vw - x).natAbs ∧ ((vr - x).natAbs = (vw - x).natAbs → vw ≠ vr → r.toNat % 2 = 0)) ∧
  (m = .zero → vr.natAbs ≤ x.natAbs ∧ 0 ≤ vr * x ∧ (vw.natAbs ≤ x.natAbs → vw.natAbs ≤ vr.natAbs)) ∧
  (m = .down → vr ≤ x ∧ (vw ≤ x → vw ≤ vr)) ∧
  (m = .up → x ≤ vr ∧ (x ≤ vw → vr ≤ vw))

/-- The flags of a finite result say whether it is exact (R238). -/
abbrev FlagsExact (x : Int) (k : Nat) (r : FRes) : Prop :=
  (f40Scaled r.val * 2 ^ k = x ↔ r.flags = 0) ∧ (f40Scaled r.val * 2 ^ k ≠ x ↔ r.flags &&& NX ≠ 0)

/-! ### Invariants of every step -/

/-- A burnt fuse bit stays burnt (R403). -/
abbrev FusesOnlyBurn (s t : State) : Prop :=
  ∀ w : Nat, FMap.get 0 s.fuses.otp w &&& FMap.get 0 t.fuses.otp w = FMap.get 0 s.fuses.otp w

/-- The sparse maps of the block are in their one canonical form: keys strictly rising, and no entry equal to what an unlisted key reads
as. -/
abbrev MapsCanonical (s : State) : Prop :=
  FMap.wf Engine.reset s.engines = true ∧ (∀ e : Nat, FMap.wf 0 (s.eng e).dmem = true ∧ FMap.wf 0 (s.eng e).imem = true ∧ FMap.wf 0 (s.eng e).x = true ∧
    FMap.wf 0 (s.eng e).acc = true) ∧
  FMap.wf Spoke.reset s.spokes = true ∧ FMap.wf Cell.reset s.cells = true ∧ FMap.wf LogRec.reset s.log = true ∧ FMap.wf EventQ.reset s.eq = true ∧
  FMap.wf 0 s.fuses.otp = true ∧ FMap.wf TimeBase.reset s.tb = true ∧ FMap.wf ImagePoint.reset s.image = true ∧ FMap.wf 0 s.mem = true ∧
  FMap.wf 0 s.coreMem = true

/-! ### Station frames (R426 to R440) -/

/-- The port takes the frame and its content is looked at: link up, of a legal length, no second tag, no PAUSE, FCS right. -/
abbrev FrameTaken (n : Nat) (f : StationFrame) (s : State) : Prop :=
  s.flag (Fld.STP_ST_STAT_LINK_UP n) = true ∧ f.length ≤ 2048 ∧ f.twoTags = false ∧ f.pause = false ∧ f.fcsOk = true

/-- The status of the first check of R439 that a reset frame on port `n` fails, in the order of the rule; none when it passes all. -/
def resetVerdict (s : State) (n : Nat) (r : ResetFrame) : Option Status :=
  if s.rd (Fld.STP_ST_CFG_RST_EN n) = 0 then some .notPermitted
  else if r.formatOk = false then some .format
  else if 4 ≤ r.slot.toNat ∨ bitOf (s.rd Fld.STP_RST_AUTH_MASK) r.slot.toNat = false ∨ bitOf (s.rd (Fld.SEC_AUTH_WORD r.slot.toNat 8)) 0 = false then some .auth
  else if s.serialOk = false ∨ r.target ≠ s.serial then some .scope
  else if r.notAfter.toNat ≤ s.tSec ∨ s.tSec + 300 < r.notAfter.toNat then some .notPermitted
  else if r.counter.toNat ≤ s.sec.rstCounter.toNat then some .replay
  else if r.sigOk = false then some .auth
  else if s.rd Fld.SEC_LC_STATE ≠ 2 ∧ s.rd Fld.SEC_LC_STATE ≠ 3 then some .notPermitted
  else none

/-! ### Feeds (R38 to R54) -/

/-- The feed is OK: up and not in over-voltage (R39). -/
abbrev FeedOk (t : State) (f : Feed) : Prop := (t.feed f).up = true ∧ (t.feed f).ov = false

/-- The feed may carry: OK, and no reverse-current trip holds its switch open (R39). -/
abbrev FeedMay (t : State) (f : Feed) : Prop := FeedOk t f ∧ (t.feed f).trip = false

/-- HKP_FEED_STAT of `t` shows its feeds: which are OK, which carry, and whether one alone is OK (R38, R54, R56). -/
abbrev FeedsShown (t : State) : Prop :=
  (∀ f : Feed, t.rd (feedOk f) = (if FeedOk t f then 1 else 0) ∧
    t.rd (feedCarry f) = (if FeedMay t f ∧ (¬ FeedMay t (otherFeed f) ∨ (t.feed (otherFeed f)).mv ≤ (t.feed f).mv + 30) then 1 else 0)) ∧
  t.rd Fld.HKP_FEED_STAT_SINGLE = (if FeedOk t .a ↔ FeedOk t .b then 0 else 1)

/-- An event of feed `f` changes that feed, what HKP_FEED_STAT shows live and the flags listed, and is logged. -/
abbrev OnlyFeeds (f : Feed) (fs : List Field) (s t : State) : Prop :=
  t.feed (otherFeed f) = s.feed (otherFeed f) ∧
  RegsBut ([feedOk f, feedCarry f, feedOk (otherFeed f), feedCarry (otherFeed f), Fld.HKP_FEED_STAT_SINGLE] ++ fs ++ loggedFields) s t ∧
  t = { s with regs := t.regs, hist := t.hist, log := t.log, feeds := t.feeds }

/-! ### Housekeeping (R414, R535, R536) -/

/-- Channel `f` has been in state `st` for `sec` seconds (R535). -/
abbrev FanIn (f st sec : Nat) (s : State) : Prop :=
  s.rd (Fld.HKP_FAN_STAT_STATE f) = st ∧ (FMap.get FanTime.reset s.fans f).since + sec * 800000000 ≤ s.nowTick

/-- Nothing but the listed register fields, the fans' times, the history queues and the module log changes. -/
abbrev OnlyFans (fs : List Field) (s t : State) : Prop :=
  RegsBut fs s t ∧ t = { s with regs := t.regs, hist := t.hist, log := t.log, fans := t.fans }

/-- What a change of the DRAM's temperature shows (R349, R414, R424). -/
def dramFields : List Field :=
  [Fld.MEM_DRAM_STAT_BW_GBS, Fld.MEM_DRAM_STAT_REFRESH, Fld.QOS_DEM_DRAM_BYTES, Fld.QOS_CAP_DRAM_BYTES, Fld.QOS_SLACK_SLACK,
    Fld.TND_SHBYTES_BYTES, Fld.TND_SHCAP_CAP]

/-! ### After a reset (R62, R64, R77) -/

/-- The cause bits of RST_CAUSE that name a source (R77). -/
def causeFields : List Field :=
  [Fld.RST_CAUSE_POR, Fld.RST_CAUSE_PORST, Fld.RST_CAUSE_UV, Fld.RST_CAUSE_RESETN, Fld.RST_CAUSE_WDT_RUN, Fld.RST_CAUSE_WDT_START,
   Fld.RST_CAUSE_CMD_HOST, Fld.RST_CAUSE_CMD_STN, Fld.RST_CAUSE_PARTNER, Fld.RST_CAUSE_SELF]

/-- The cause bit of a source. -/
def causeOf : ResetSource → Field
  | .powerOn => Fld.RST_CAUSE_POR
  | .porst => Fld.RST_CAUSE_PORST
  | .undervoltage => Fld.RST_CAUSE_UV
  | .resetn => Fld.RST_CAUSE_RESETN
  | .wdtRun => Fld.RST_CAUSE_WDT_RUN
  | .wdtStart => Fld.RST_CAUSE_WDT_START
  | .cmdHost _ => Fld.RST_CAUSE_CMD_HOST
  | .cmdStation _ => Fld.RST_CAUSE_CMD_STN
  | .partner => Fld.RST_CAUSE_PARTNER
  | .self _ => Fld.RST_CAUSE_SELF

/-- A start is running: reset is released and the start has neither completed nor ended in start-hold (R62). -/
abbrev StartRuns (s : State) : Prop := s.rst.phase = .waitClock ∨ s.rst.phase = .starting ∨ s.rst.phase = .configured

/-- Addresses of the registers every reset keeps: the backup domain with its tamper record, the policy and identity of the key
store, and the sticky fuse record (R64, R82, R394). -/
def keptRanges : List (Nat × Nat) :=
  [(0x8c00014, 0x8c00020), (0x8c00020, 0x8c00040), (0x8c00060, 0x8c00064), (0x8a00020, 0x8a00040), (0x8900008, 0x8900030),
   (0x8900040, 0x8900060), (0x8901000, 0x8905100)]

/-- A source whose class is warm (R60). -/
abbrev Warm (src : ResetSource) : Prop := src ≠ .powerOn ∧ src ≠ .porst

/-- The class of a reset (R60, R62): cold by a source that is present, or because a running cold start stays cold. -/
abbrev TakenCold (src : ResetSource) (s : State) : Prop :=
  ¬ Warm src ∨ s.rst.porstLow = true ∨ (StartRuns s ∧ s.rd Fld.RST_CAUSE_COLD ≠ 0)

/-- A cause bit that names a source present when `src` is taken (R62): the source itself, a pin that is held low, and a reset
that is ordered. -/
abbrev Present (src : ResetSource) (s : State) (f : Field) : Prop :=
  f = causeOf src ∨ (s.rst.porstLow = true ∧ f = Fld.RST_CAUSE_PORST) ∨ (s.rst.resetnLow = true ∧ f = Fld.RST_CAUSE_RESETN) ∨
  (s.rst.ordered.isSome = true ∧ f = Fld.RST_CAUSE_SELF)

/-- What taking a reset leaves (R62, R64, R65): RST_CAUSE names the sources and the class; everything is at its reset
value but flashes, fuses, key store, backup domain, input feeds, pin levels and host memory, and after a warm reset the module log, the
captures and the DRAM region that holds them. -/
abbrev ResetTaken (src : ResetSource) (s t : State) : Prop :=
  (∀ f ∈ causeFields, t.rd f = if Present src s f then 1 else 0) ∧
  (TakenCold src s → t.rd Fld.RST_CAUSE_COLD = 1 ∧ t.log = [] ∧ t.captures = [] ∧ t.mem = []) ∧
  (¬ TakenCold src s → t.rd Fld.RST_CAUSE_COLD = 0 ∧ t.log = s.log ∧ t.captures = s.captures ∧
    t.mem = s.mem.filter (fun p => decide (0x140000000 ≤ p.1 ∧ p.1 < 0x180000000)) ∧
    t.rd Fld.HKP_LOG_SEQ_LO_SEQ = s.rd Fld.HKP_LOG_SEQ_LO_SEQ ∧ t.rd Fld.HKP_LOG_SEQ_HI_SEQ = s.rd Fld.HKP_LOG_SEQ_HI_SEQ) ∧
  (t.rd Fld.RST_CAUSE_RESTART = 1 ↔ StartRuns s) ∧
  (s.started = true → t.rd Fld.RST_BACKUP_STAT_HELD_STRAP = 0 ∧ t.rd Fld.RST_BACKUP_STAT_HELD_STORM = 0) ∧
  (∀ g : Field, g.lsb < 32 → (∃ r ∈ keptRanges, r.1 ≤ g.addr ∧ g.addr < r.2) →
    g.key ≠ Fld.RST_BACKUP_STAT_HELD_STRAP.key → g.key ≠ Fld.RST_BACKUP_STAT_HELD_STORM.key → t.rd g = s.rd g) ∧
  (∀ g : Field, g.lsb < 32 → (0x8000000 ≤ g.addr ∧ g.addr < 0x8500000 ∨ 0x8600000 ≤ g.addr ∧ g.addr < 0x8900000 ∨
    0x8b00000 ≤ g.addr ∧ g.addr < 0x8c00000 ∨ 0x8e00000 ≤ g.addr) → t.rd g = g.reset) ∧
  FeedsShown t ∧
  t = { State.reset with
    regs := t.regs, flash := s.flash, fuses := s.fuses, keyLc := s.keyLc, feeds := s.feeds,
    sec := { s.sec with sessions := [], permit := none, debug := false }, hostMem := s.hostMem, log := t.log, captures := t.captures, mem := t.mem,
    dramKey := s.dramKey, rst := t.rst, c0 := t.c0, freeCtr := s.freeCtr, pending := s.pending } ∧
  t.c0 = { C0Unit.reset with levelA := s.c0.levelA, levelB := s.c0.levelB } ∧
  t.rst = { State.reset.rst with
    backupIntact := s.rst.backupIntact, tamperDue := s.rst.tamperDue, porstLow := s.rst.porstLow, resetnLow := s.rst.resetnLow,
    phase := t.rst.phase, startWdt := t.rst.startWdt } ∧
  (s.rst.porstLow = true ∨ s.rst.resetnLow = true → t.rst.phase = .held ∧ t.rst.startWdt = false) ∧
  (s.rst.porstLow = false → s.rst.resetnLow = false → t.rst.phase = .waitClock ∧ t.rst.startWdt = true)

/-- A warm source takes a reset, but in the storm hold, which only a cold reset leaves (R60, R76). -/
abbrev WarmReset (src : ResetSource) (s : State) (o : Host.Outcome State Fault Refusal) : Prop :=
  (s.rst.phase ≠ .hold .storm ∨ s.rst.porstLow = true → ∃ t, o = .next t ∧ ResetTaken src s t) ∧
  (s.rst.phase = .hold .storm → s.rst.porstLow = false → o = .next s)

end Sys2Proof.Machine
end

