-- ==== Sys2Proof/Certificates/Slice0/Obligations.lean ====
section
/-! DEFINITION. The statements for the provers, each with the rules of spec/ it formalises or rests on. -/


open Sys2Proof Sys2Proof.Machine

/-- The step of the block (the queue and the tick on an empty queue are the model's, log 1). -/
def Obligations.StepRunsTheFrontCommand : Prop :=
  (∀ (c : Instr) (s : State), step (s.push c) = exec c s) ∧
  (∀ (s : State) (c : Instr) (r : List Instr), s.pending = c :: r → step s = exec c { s with pending := r }) ∧
  (∀ s : State, s.pending = [] → step s = .next s.tick)

/-- The state after reset. Values the manual does not give are named in the assumption log and are no part of this. -/
def Obligations.ResetState : Prop :=
  (∀ f : Field, State.reset.rd f = f.reset) ∧ (State.reset.base 3).total = 0 ∧ State.reset.log = [] ∧ State.reset.logSeq = 0 ∧
  (∀ u : Nat, (State.reset.history u).count = 0) ∧ State.reset.started = false ∧ (∀ n : Nat, State.reset.serving n = false) ∧
  State.reset.sec.sessions = [] ∧ State.reset.pending = [] ∧ TasksSound State.reset

/-- FSUB and FADD (R241) as two runs: one subtracts, the other first negates into a register of its own and then adds. -/
def Obligations.SubtractionAddsTheNegated : Prop :=
  ∀ (s u v w : State) (e : Fin 32) (rd rs1 rs2 rs3 : BitVec 4) (rm : BitVec 3), s.executing e = true → rs3 ≠ rs1 → rm.toNat ≤ 4 →
    exec (.ceFsub e rd rs1 rs2 rm) s = .next u → exec (.ceFneg e rs3 rs2 rs2 0) s = .next v → exec (.ceFadd e rd rs1 rs3 rm) v = .next w →
    (u.eng e).getX rd = (w.eng e).getX rd ∧ (u.eng e).fflags = (w.eng e).fflags ∧ (u.eng e).sat = (w.eng e).sat

/-- ARND (R232): the number written is the nearest to ACC / 2^15, halves upward, unless it saturates. -/
def Obligations.AccumulatorRounding : Prop :=
  ∀ (s : State) (e : Fin 32) (rx rs1 rs2 : BitVec 4) (a : BitVec 2), s.executing e = true →
    let acc := ((s.eng e).getAcc a.toNat).toInt
    ∃ t, exec (.ceArnd e rx rs1 rs2 a) s = .next t ∧ (t.eng e).acc = (s.eng e).acc ∧
      (∀ r : Int, 2 ^ 15 * r ≤ acc + 0x4000 → acc + 0x4000 < 2 ^ 15 * (r + 1) →
        (32767 < r → ((t.eng e).getX rx).toInt = 32767 ∧ (t.eng e).sat = true) ∧
        (r < -32768 → ((t.eng e).getX rx).toInt = -32768 ∧ (t.eng e).sat = true) ∧
        (-32768 ≤ r ∧ r ≤ 32767 → ((t.eng e).getX rx).toInt = r ∧ (t.eng e).sat = (s.eng e).sat))

/-- Rounding (R237, R238): the operations on words that the F40 instructions use. -/
def Obligations.RoundedOnce : Prop :=
  ∀ (m : RMode) (a b w : W40), f40Finite a = true → f40Finite b = true → f40Finite w = true →
    (f40Finite (fAdd m a b).val = true →
      RoundsTo m (f40Scaled a + f40Scaled b) 0 (fAdd m a b).val w ∧ FlagsExact (f40Scaled a + f40Scaled b) 0 (fAdd m a b)) ∧
    (f40Finite (fSub m a b).val = true →
      RoundsTo m (f40Scaled a - f40Scaled b) 0 (fSub m a b).val w ∧ FlagsExact (f40Scaled a - f40Scaled b) 0 (fSub m a b)) ∧
    (f40Finite (fMul m a b).val = true →
      RoundsTo m (f40Scaled a * f40Scaled b) 157 (fMul m a b).val w ∧ FlagsExact (f40Scaled a * f40Scaled b) 157 (fMul m a b))

/-- Words and commands of the engines (R202, R203). -/
def Obligations.EngineWords : Prop :=
  (∀ (e : Fin 32) (tick : BitVec 17) (stop : Option Nat) (w : BitVec 32) (c : Instr), ceOfWord e tick stop w = some c → ceWord c = some w) ∧
  (∀ (c : Instr) (w : BitVec 32), ceWord c = some w → ∃ (e : Fin 32) (tick : BitVec 17) (stop : Option Nat), ceOfWord e tick stop w = some c) ∧
  (∀ (e : Fin 32) (tick : BitVec 17) (stop : Option Nat) (w w' : BitVec 32) (c : Instr),
    ceOfWord e tick stop w = some c → ceOfWord e tick stop w' = some c → w = w')

/-- A few words (R202, R203), bit by bit. -/
def Obligations.WordsOfTheManual : Prop :=
  (∀ (e : Fin 32) (tick : BitVec 17) (stop : Option Nat),
    ceOfWord e tick stop 0b000010_0011_0001_111111111111111011#32 = some (.ceAddi e 3 1 0x3FFFB#18) ∧
    ceOfWord e tick stop 0b001001_0110_0000000101000010010000#32 = some (.ceLil e 6 0x5090#22) ∧
    ceOfWord e tick stop 0b000010_0101_0101_000000000000000001#32 = some (.ceAddi e 5 5 1#18) ∧
    ceOfWord e tick stop 0b010001_0101_0111_000000000000000011#32 = some (.ceSt e 5 7 3#18) ∧
    ceOfWord e tick stop 0b110000_0101_0010_0011_0001_0100_0110_00#32 = some (.ceOrdstatM e 5 2 3 4 6 0 stop) ∧
    ceOfWord e tick stop 0b111111_0101_0010_0011_0001_0100_0110_00#32 = none)

/-- The scheduler's invariant, from every state that has it (R485 to R490). -/
def Obligations.SchedulerStaysSound : Prop :=
  ∀ s t : State, TasksSound s → step s = .next t → TasksSound t

/-- The queue and the fuses over one step, from every state. -/
def Obligations.QueueAndFusesKept : Prop :=
  ∀ s t : State, step s = .next t → t.pending = s.pending.tail ∧ FusesOnlyBurn s t

/-- Equal memories are equal data: the canonical form is kept. -/
def Obligations.MemoriesStayCanonical : Prop :=
  MapsCanonical State.reset ∧ ∀ s t : State, MapsCanonical s → step s = .next t → MapsCanonical t

/-- Feeds, rails and temperature (R38 to R57): the flags each event sets, the feed that carries, and what stays. -/
def Obligations.FeedAndRailEvents : Prop :=
  ∀ s : State,
  (∀ (f : Feed) (mv : BitVec 16), ∃ t, exec (.feedUsable f mv) s = .next t ∧ t.feed f = { s.feed f with up := true, mv := mv.toNat } ∧
    FeedsShown t ∧ OnlyFeeds f [] s t) ∧
  (∀ (f : Feed) (mv : BitVec 16), ∃ t, exec (.feedWarning f mv) s = .next t ∧ t.feed f = { s.feed f with mv := mv.toNat } ∧
    t.rd (feedLow f) = (if mv.toNat < s.rd Fld.HKP_FEED_CFG_WARN_MV then 1 else s.rd (feedLow f)) ∧ FeedsShown t ∧ OnlyFeeds f [feedLow f] s t) ∧
  (∀ f : Feed, ∃ t, exec (.feedLost f) s = .next t ∧ t.feed f = { s.feed f with up := false } ∧ FeedsShown t ∧ OnlyFeeds f [] s t) ∧
  (∀ f : Feed, ∃ t, exec (.feedOverVoltage f) s = .next t ∧ t.feed f = { s.feed f with ov := true } ∧ t.rd (feedOv f) = 1 ∧
    FeedsShown t ∧ OnlyFeeds f [feedOv f] s t) ∧
  (∀ (f : Feed) (mv : BitVec 16), ∃ t, exec (.feedOvRecover f mv) s = .next t ∧ t.feed f = { s.feed f with ov := false, mv := mv.toNat } ∧
    FeedsShown t ∧ OnlyFeeds f [] s t) ∧
  (∀ f : Feed, ∃ t, exec (.reverseCurrent f) s = .next t ∧ t.feed f = { s.feed f with trip := true } ∧ t.rd (feedRev f) = 1 ∧
    FeedsShown t ∧ OnlyFeeds f [feedRev f] s t) ∧
  (∀ f : Feed, ∃ t, exec (.reverseReclose f) s = .next t ∧ (t.feed f).trip = false ∧ (t.feed f).up = (s.feed f).up ∧ (t.feed f).ov = (s.feed f).ov ∧
    (s.feed (otherFeed f)).mv + 50 ≤ (t.feed f).mv ∧ FeedsShown t ∧ OnlyFeeds f [] s t) ∧
  (∀ mv : Nat, ∃ t, exec (.vbatCheck mv) s = .next t ∧
    t.rd Fld.HKP_FEED_STAT_VBAT_LOW = (if mv < 2200 then 1 else s.rd Fld.HKP_FEED_STAT_VBAT_LOW) ∧
    OnlyLogged [Fld.HKP_FEED_STAT_VBAT_LOW] s t) ∧
  (∀ r : Fin 8, ∃ t, exec (.railOutOfRange r) s = .next t ∧
    (r = 0 → t.rd Fld.HKP_RAIL_STAT_CORE_OOR = 1) ∧
    (r ≠ 0 → t.rd Fld.HKP_RAIL_STAT_AUX_OOR = 1 ∧ t.rd Fld.HKP_RAIL_STAT_AUX_ID = r.val) ∧
    (r = 5 ∧ s.islandRuns = true → t.rd Fld.SAF_EVT_VSAF = 1 ∧ t.rd Fld.SAF_STAT_ISL_FAULT = 1) ∧
    bitOf (t.rd Fld.TND_CAUSE_LIVE) 4 = true ∧
    (r ≠ 5 → t.saf = s.saf ∧ RegsBut ([Fld.HKP_RAIL_STAT_CORE_OOR, Fld.HKP_RAIL_STAT_AUX_OOR, Fld.HKP_RAIL_STAT_AUX_ID, Fld.TND_CAUSE_LIVE,
      Fld.TND_EVT_HELD_NO_TWIN] ++ loggedFields) s t) ∧
    t = { s with regs := t.regs, hist := t.hist, log := t.log, tnd := t.tnd, saf := t.saf }) ∧
  (∀ tj : BitVec 8, ∃ t, exec (.junctionTempFlag tj) s = .next t ∧ t.rd Fld.HKP_THERM_TJ = tj.toNat ∧
    t.rd Fld.HKP_THERM_TJ_HOT = (if 110 ≤ tj.toInt then 1 else s.rd Fld.HKP_THERM_TJ_HOT) ∧
    t.rd Fld.HKP_THERM_TJ_CRIT = (if 125 ≤ tj.toInt then 1 else s.rd Fld.HKP_THERM_TJ_CRIT) ∧
    OnlyLogged [Fld.HKP_THERM_TJ, Fld.HKP_THERM_TJ_HOT, Fld.HKP_THERM_TJ_CRIT] s t)

/-- Cadence (R532 to R534, R540) and measured values (R54): what an update stores, the margin step it takes, and its undoing. -/
def Obligations.CadenceAndMargin : Prop :=
  ∀ s : State,
  (∀ rs : List (BitVec 10), rs.length = 16 → ∃ t, exec (.cadenceUpdate rs) s = .next t ∧
    (∀ k : Fin 16, t.rd (Fld.HKP_CAD_S_K k.val) = (rs.getD k.val 0).toNat) ∧
    t.rd Fld.HKP_CAD_STAT_K = (lowestReading (if bitOf (s.rd Fld.HKP_PERT_CTL_ON) 6 then s.rd Fld.HKP_PERT_CADEMU_EMU else 0) rs 0 (1023, 0)).1 ∧
    t.rd Fld.HKP_CAD_STAT_KMIN = min (s.rd Fld.HKP_CAD_STAT_KMIN) (t.rd Fld.HKP_CAD_STAT_K) % 1024 ∧
    t.cad.calm = (if s.rd Fld.HKP_CAD_CFG_K_SHED + s.rd Fld.HKP_CAD_CFG_HYST ≤ t.rd Fld.HKP_CAD_STAT_K then s.cad.calm + 1 else 0) ∧
    (t.rd Fld.HKP_CAD_STAT_K < s.rd Fld.HKP_CAD_CFG_K_RAIL ∧ s.rd Fld.HKP_RAIL_STAT_CORE_SET_MV < s.rd Fld.HKP_RAIL_CFG_CORE_CEIL_MV →
      t.rd Fld.HKP_RAIL_STAT_CORE_SET_MV = min (s.rd Fld.HKP_RAIL_STAT_CORE_SET_MV + 5) (s.rd Fld.HKP_RAIL_CFG_CORE_CEIL_MV) % 1024 ∧
      t.cad.shed = s.cad.shed ∧ t.cad.raised = s.cad.raised + 1 ∧ t.rd Fld.HKP_SVC_EVT_CAD_STEP = 1) ∧
    (¬ (t.rd Fld.HKP_CAD_STAT_K < s.rd Fld.HKP_CAD_CFG_K_RAIL ∧ s.rd Fld.HKP_RAIL_STAT_CORE_SET_MV < s.rd Fld.HKP_RAIL_CFG_CORE_CEIL_MV) →
      t.rd Fld.HKP_CAD_STAT_K < s.rd Fld.HKP_CAD_CFG_K_SHED → s.cad.shed = 0 →
      t.cad.shed = 1 ∧ t.rd Fld.HKP_RAIL_STAT_CORE_SET_MV = s.rd Fld.HKP_RAIL_STAT_CORE_SET_MV ∧
      t.rd Fld.QOS_STAT_SHED = max 1 s.dramShed % 4 ∧ t.rd Fld.HKP_SVC_EVT_CAD_STEP = 1) ∧
    t = { s with regs := t.regs, cad := t.cad, tnd := t.tnd, hist := t.hist, log := t.log }) ∧
  (s.cad.shed = 0 → s.rd Fld.HKP_CAD_CFG2_K_LOWER < s.rd Fld.HKP_CAD_STAT_K →
    s.rd Fld.HKP_RAIL_CFG_CORE_FLOOR_MV < s.rd Fld.HKP_RAIL_STAT_CORE_SET_MV →
    ∃ t, exec .marginUndo s = .next t ∧
      t.rd Fld.HKP_RAIL_STAT_CORE_SET_MV = max (s.rd Fld.HKP_RAIL_STAT_CORE_SET_MV - 5) (s.rd Fld.HKP_RAIL_CFG_CORE_FLOOR_MV) % 1024 ∧
      RegsBut [Fld.HKP_RAIL_STAT_CORE_SET_MV, Fld.HKP_CAD_STAT_STEP] s t ∧
      t = { s with regs := t.regs, cad := { s.cad with raised := s.cad.raised - 1 } }) ∧
  (0 < s.cad.shed → 100 ≤ s.cad.calm →
    ∃ t, exec .marginUndo s = .next t ∧ t.cad.shed = s.cad.shed - 1 ∧ t.cad.calm = 0 ∧
      t.rd Fld.QOS_STAT_SHED = max (s.cad.shed - 1) s.dramShed % 4 ∧
      RegsBut [Fld.HKP_CAD_STAT_STEP, Fld.QOS_STAT_SHED, Fld.QOS_STAT_SHED_CAD] s t ∧ t = { s with regs := t.regs, cad := t.cad }) ∧
  (0 < s.cad.shed → s.cad.calm < 100 → exec .marginUndo s = .next s) ∧
  (∀ u : Core, mayWrite u 13 = true → ∃ t, exec (.kminClr u) s = .next t ∧
    t.rd Fld.HKP_CAD_STAT_KMIN = s.rd Fld.HKP_CAD_STAT_K % 1024 ∧ OnlyRegs [Fld.HKP_CAD_STAT_KMIN] s t) ∧
  (∀ (a b c d : BitVec 16) (core : BitVec 10) (tj td : BitVec 8), ∃ t, exec (.feedMeasureRefresh a b c d core tj td) s = .next t ∧
    t.rd (Fld.HKP_FEED_MEAS_MV 0) = a.toNat ∧ t.rd (Fld.HKP_FEED_MEAS_CURR 0) = b.toNat ∧
    t.rd (Fld.HKP_FEED_MEAS_MV 1) = c.toNat ∧ t.rd (Fld.HKP_FEED_MEAS_CURR 1) = d.toNat ∧
    t.rd Fld.HKP_RAIL_STAT_CORE_MEAS_MV = core.toNat ∧ t.rd Fld.HKP_THERM_TJ = tj.toNat ∧ t.rd Fld.HKP_THERM_TDRAM = td.toNat ∧
    t.feed .a = { s.feed .a with mv := a.toNat } ∧ t.feed .b = { s.feed .b with mv := c.toNat } ∧ FeedsShown t ∧
    t.rd Fld.HKP_THERM_DRAM_HOT = (if 85 < td.toInt then 1 else 0) ∧
    (110 ≤ tj.toInt → sint8 (s.rd Fld.HKP_THERM_TJ) < 110 → t.rd Fld.HKP_THERM_TJ_HOT = 1) ∧
    (125 ≤ tj.toInt → sint8 (s.rd Fld.HKP_THERM_TJ) < 125 → t.rd Fld.HKP_THERM_TJ_CRIT = 1) ∧
    RegsBut ([Fld.HKP_FEED_MEAS_MV 0, Fld.HKP_FEED_MEAS_CURR 0, Fld.HKP_FEED_MEAS_MV 1, Fld.HKP_FEED_MEAS_CURR 1,
      Fld.HKP_RAIL_STAT_CORE_MEAS_MV, Fld.HKP_THERM_TJ, Fld.HKP_THERM_TDRAM, Fld.HKP_FEED_STAT_A_OK, Fld.HKP_FEED_STAT_A_CARRY,
      Fld.HKP_FEED_STAT_B_OK, Fld.HKP_FEED_STAT_B_CARRY, Fld.HKP_FEED_STAT_SINGLE, Fld.HKP_THERM_DRAM_HOT, Fld.HKP_THERM_TJ_HOT,
      Fld.HKP_THERM_TJ_CRIT, Fld.MEM_EVT_DRAM_HOT2] ++ dramFields ++ fanFields ++ loggedFields) s t ∧
    t = { s with regs := t.regs, hist := t.hist, log := t.log, feeds := t.feeds, fans := t.fans })

/-- Fans (R535, R536) and perturbation registers (R538, R542). -/
def Obligations.FansAndPerturbation : Prop :=
  ∀ (s : State) (f : Fin 8),
  (∀ us : Nat, s.rd (Fld.HKP_FAN_STAT_STATE f.val) = 1 → 0 < us → ∃ t, exec (.fanTachEdges f us) s = .next t ∧
    t.rd (Fld.HKP_FAN_STAT_STATE f.val) = fanRunState s f.val ∧ (FMap.get FanTime.reset t.fans f.val).edge = s.nowTick ∧
    t.rd (Fld.HKP_FAN_STAT_RPM f.val) =
      (let rpm := 60000000 / ((s.rd (Fld.HKP_FAN_CFG_PPR_M1 f.val) + 1) * us)
       if rpm < 60 then 0 else min rpm 65535) ∧
    OnlyFans (Fld.HKP_FAN_STAT_RPM f.val :: fanFields) s t) ∧
  (FanIn f.val 1 3 s → s.rd (Fld.HKP_FAN_STAT_RETRIES f.val) < 3 → ∃ t, exec (.fanStartTimeout f) s = .next t ∧
    t.rd (Fld.HKP_FAN_STAT_STATE f.val) = 3 ∧ t.rd (Fld.HKP_FAN_STAT_RETRIES f.val) = s.rd (Fld.HKP_FAN_STAT_RETRIES f.val) + 1 ∧
    t.rd (Fld.HKP_FAN_STAT_DUTY_OUT f.val) = 0 ∧
    OnlyFans ([Fld.HKP_FAN_STAT_RPM f.val, Fld.HKP_FAN_STAT_STALL f.val, Fld.HKP_FAN_STAT_RETRIES f.val] ++ fanFields) s t) ∧
  (FanIn f.val 1 3 s → s.rd (Fld.HKP_FAN_STAT_RETRIES f.val) = 3 → ∃ t, exec (.fanStartTimeout f) s = .next t ∧
    t.rd (Fld.HKP_FAN_STAT_STATE f.val) = 4 ∧ t.rd Fld.HKP_SVC_EVT_FAN_BLOCKED = 1 ∧ t.rd (Fld.HKP_FAN_STAT_DUTY_OUT f.val) = 0 ∧
    OnlyFans ([Fld.HKP_FAN_STAT_RPM f.val, Fld.HKP_FAN_STAT_STALL f.val, Fld.HKP_SVC_EVT_FAN_BLOCKED] ++ fanFields ++ loggedFields) s t) ∧
  (s.rd (Fld.HKP_FAN_STAT_STATE f.val) = 2 → (FMap.get FanTime.reset s.fans f.val).edge + 800000000 ≤ s.nowTick → ∃ t, exec (.fanStall f) s = .next t ∧ t.rd Fld.HKP_SVC_EVT_FAN_STALL = 1 ∧
    t.rd (Fld.HKP_FAN_STAT_STALL f.val) = 1 ∧ t.rd (Fld.HKP_FAN_STAT_RPM f.val) = 0 ∧
    t.rd (Fld.HKP_FAN_STAT_STATE f.val) = (if s.rd (Fld.HKP_FAN_STAT_RETRIES f.val) = 3 then 4 else 3) ∧
    OnlyFans ([Fld.HKP_FAN_STAT_RPM f.val, Fld.HKP_FAN_STAT_STALL f.val, Fld.HKP_FAN_STAT_RETRIES f.val,
      Fld.HKP_SVC_EVT_FAN_BLOCKED, Fld.HKP_SVC_EVT_FAN_STALL] ++ fanFields ++ loggedFields) s t) ∧
  (FanIn f.val 3 10 s → ∃ t, exec (.fanRetry f) s = .next t ∧ t.rd (Fld.HKP_FAN_STAT_STATE f.val) = 1 ∧
    t.rd (Fld.HKP_FAN_STAT_DUTY_OUT f.val) = 100 ∧ OnlyFans fanFields s t) ∧
  (FanIn f.val 2 60 s → ∃ t, exec (.fanRecovered f) s = .next t ∧ t.rd (Fld.HKP_FAN_STAT_RETRIES f.val) = 0 ∧
    OnlyRegs [Fld.HKP_FAN_STAT_RETRIES f.val] s t) ∧
  (∀ u : Core, mayWrite u 13 = true → s.rd (Fld.HKP_FAN_STAT_STATE f.val) = 4 → ∃ t, exec (.fanClr u f) s = .next t ∧
    t.rd (Fld.HKP_FAN_STAT_STATE f.val) = 1 ∧ t.rd (Fld.HKP_FAN_STAT_RETRIES f.val) = 0 ∧
    OnlyFans (Fld.HKP_FAN_STAT_RETRIES f.val :: fanFields) s t) ∧
  (∀ (u : Core) (v : Reg32), mayWrite u 13 = true → s.rd Fld.SEC_LC_STATE = 2 → ∃ t, exec (.pertCtlWrite u 0 v) s = .next t ∧
    t.rd Fld.HKP_PERT_CTL_ON = v.toNat % 128 ∧ OnlyRegs [Fld.HKP_PERT_CTL_ON] s t) ∧
  (∀ (u : Core) (r : Fin 8) (v : Reg32), mayWrite u 13 = true →
    s.pertAllowed (if r.val = 0 then v.toNat % 128 else 2 ^ (r.val - 1)) = true → pertValueOk r.val v.toNat = true →
    ∃ t, exec (.pertCtlWrite u r v) s = .next t ∧ t.regs = (s.pertPut r.val v.toNat).regs ∧
      RegsButIn [(0x8d00400 + 4 * r.val, 0x8d00404 + 4 * r.val)] s t ∧ t = { s with regs := t.regs, force := t.force }) ∧
  (∀ (u : Core) (r : Fin 8) (v : Reg32), mayWrite u 13 = true →
    s.pertAllowed (if r.val = 0 then v.toNat % 128 else 2 ^ (r.val - 1)) = false ∨ pertValueOk r.val v.toNat = false →
    ∃ t, exec (.pertCtlWrite u r v) s = .next t ∧ t.rd Fld.HKP_SVC_EVT_INVALID_WR = 1 ∧ OnlyLogged [Fld.HKP_SVC_EVT_INVALID_WR] s t) ∧
  (∀ u : Core, mayWrite u 13 = false → Discarded u 0x8d00000 s (exec (.fanClr u f) s) ∧ Discarded u 0x8d00000 s (exec (.kminClr u) s) ∧
    (∀ (r : Fin 8) (v : Reg32), Discarded u 0x8d00000 s (exec (.pertCtlWrite u r v) s)))

/-- Resets taken (R60 to R65, R76, R77). The value of the backup pattern after power-on is the operand of the row. -/
def Obligations.ResetsAreTaken : Prop :=
  ∀ s : State,
  let low : State := { s with rst := { s.rst with porstLow := true } }
  let nlow : State := { s with rst := { s.rst with resetnLow := true } }
  let drawn : State → State := fun x => { x with freeCtr := s.freeCtr + 1 }
  (∀ b : Bool, ∃ t, exec (.powerOn b) s = .next t ∧
    ResetTaken .powerOn { s with rst := { s.rst with backupIntact := s.rst.backupIntact && b } } t) ∧
  (∀ ns : Nat, 1000 ≤ ns → ∃ t, exec (.porstNAssert ns) s = .next t ∧ ResetTaken .porst low t) ∧
  (∀ ns : Nat, ns < 500 → exec (.porstNAssert ns) s = .next s) ∧
  (∀ ns : Nat, 500 ≤ ns → ns < 1000 →
    (Config.freeBit s.freeCtr = false → exec (.porstNAssert ns) s = .next (drawn s)) ∧
    (Config.freeBit s.freeCtr = true → ∃ t, exec (.porstNAssert ns) s = .next t ∧ ResetTaken .porst (drawn low) t)) ∧
  (∀ ns : Nat, 2200 ≤ ns → WarmReset .resetn nlow (exec (.resetNAssert ns) s)) ∧
  (∀ ns : Nat, ns < 2000 → exec (.resetNAssert ns) s = .next s) ∧
  (∀ ns : Nat, 2000 ≤ ns → ns < 2200 →
    (Config.freeBit s.freeCtr = false → exec (.resetNAssert ns) s = .next (drawn s)) ∧
    (Config.freeBit s.freeCtr = true → WarmReset .resetn (drawn nlow) (exec (.resetNAssert ns) s))) ∧
  WarmReset .undervoltage s (exec .supervisorUndervoltage s) ∧
  (s.rst.runWdt = true → s.debugHalted = false → s.rd Fld.RST_CFG_WDT_RUN_MS * 800000 ≤ s.rst.runFor →
    WarmReset .wdtRun s (exec .runWatchdogExpire s)) ∧
  (s.rst.runWdt = false ∨ s.debugHalted = true ∨ s.rst.runFor < s.rd Fld.RST_CFG_WDT_RUN_MS * 800000 → exec .runWatchdogExpire s = .next s) ∧
  (s.rst.startWdt = true → s.debugHalted = false → s.rd Fld.RST_CFG_WDT_START_S * 800000000 ≤ s.rst.startFor →
    WarmReset .wdtStart s (exec .startWatchdogExpire s)) ∧
  (s.rst.startWdt = false ∨ s.debugHalted = true ∨ s.rst.startFor < s.rd Fld.RST_CFG_WDT_START_S * 800000000 → exec .startWatchdogExpire s = .next s) ∧
  (∀ why : Nat, s.rst.ordered = some why → s.rst.phase ≠ .hold .storm → ∃ t, exec .moduleOrderedReset s = .next t ∧
    ResetTaken (.self why) s t ∧ t.rd Fld.RST_CAUSE_SELF_WHY = why % 8) ∧
  (s.rst.ordered = none → exec .moduleOrderedReset s = .next s) ∧
  (s.flag Fld.RST_CFG_PARTNER_EN = true → s.activeOrSolo = false → WarmReset .partner s (exec .tandemPartnerReset s)) ∧
  (s.flag Fld.RST_CFG_PARTNER_EN = false ∨ s.activeOrSolo = true → exec .tandemPartnerReset s = .next s) ∧
  (∀ t0 : Nat, s.rst.recoveryDone = some t0 → s.rst.phase = .hold .recovery → t0 + 800000000 ≤ s.nowTick →
    ∃ t, exec .recoveryReset s = .next t ∧ ResetTaken (.self 4) s t ∧ t.rd Fld.RST_CAUSE_SELF_WHY = 4) ∧
  (∀ t0 : Nat, s.rst.recoveryDone = some t0 → s.rst.phase ≠ .hold .recovery ∨ s.nowTick < t0 + 800000000 →
    exec .recoveryReset s = .next s) ∧
  (s.rst.recoveryDone = none → exec .recoveryReset s = .next s)

/-- The start sequence (R61 to R79). -/
def Obligations.StartSequenceSteps : Prop :=
  ∀ s : State,
  (s.rst.phase = .held → s.rst.resetnLow = false → ∃ t, exec (.resetPinRelease .porst) s = .next t ∧ t.rst.phase = .waitClock ∧
    t.rst.porstLow = false ∧ t.rst.startWdt = true ∧ t.rst.startFor = 0 ∧ t = { s with rst := t.rst }) ∧
  (s.rst.phase = .held → s.rst.porstLow = false → ∃ t, exec (.resetPinRelease .resetn) s = .next t ∧ t.rst.phase = .waitClock ∧
    t.rst.resetnLow = false ∧ t = { s with rst := t.rst }) ∧
  (s.rst.resetnLow = true → ∃ t, exec (.resetPinRelease .porst) s = .next t ∧ t.rst.phase = s.rst.phase ∧ t.rst.porstLow = false ∧
    t = { s with rst := t.rst }) ∧
  (s.rst.phase = .waitClock → s.flag Fld.TBS_REF_A_OK = true ∨ s.flag Fld.TBS_REF_B_OK = true → ∃ t, exec .startRefclkLocked s = .next t ∧
    t.rst = { s.rst with phase := .starting } ∧ t.rd Fld.TBS_REF_SEL = (if s.flag Fld.TBS_REF_A_OK = true then 0 else 1) ∧
    t.rd Fld.TBS_REF_HOLDOVER = 0 ∧ OnlyRegs [Fld.TBS_REF_SEL, Fld.TBS_REF_HOLDOVER] { s with rst := t.rst } t) ∧
  (s.rst.phase ≠ .waitClock ∨ s.flag Fld.TBS_REF_A_OK = false ∧ s.flag Fld.TBS_REF_B_OK = false → exec .startRefclkLocked s = .next s) ∧
  (∀ (fu : List FuseRead) (strap : List (BitVec 12)) (sec : BitVec 32) (ks : KeyStoreRead), strap.length = 8 →
    (s.rst.phase ≠ .starting → exec (.startSequence fu strap sec ks) s = .next s) ∧
    (s.rst.phase = .starting →
      let u := s.startStep2 fu sec ks
      let raw := (strap.getD 7 0).toNat
      let code := strapCode raw
      let storm := u.flag Fld.RST_CFG_STORM_EN ∧ 9 ≤ u.rd Fld.RST_BACKUP_STAT_STORM_CNT
      let f := (u.flashOf (strapFlash code)).copyStaged
      ∃ t, exec (.startSequence fu strap sec ks) s = .next t ∧ t.pending = u.pending ∧ t.hostMem = u.hostMem ∧
        (storm → t.rst.phase = .hold .storm ∧ t.rd Fld.RST_BACKUP_STAT_HELD_STORM = 1 ∧ t.rd Fld.RST_BACKUP_STAT_HELD_STRAP = 0 ∧
          t.rst.startWdt = false ∧ OnlyRegs [Fld.RST_BACKUP_STAT_HELD_STORM, Fld.RST_BACKUP_STAT_HELD_STRAP] { u with rst := t.rst } t) ∧
        (¬ storm → strapFault strap = true → t.rst.phase = .hold .strapFault ∧ t.rd Fld.RST_STRAP_FAULT = 1 ∧
          t.rd Fld.RST_BACKUP_STAT_HELD_STRAP = 1 ∧ t.rd Fld.RST_BACKUP_STAT_HELD_STORM = 0 ∧ t.rd Fld.RST_STRAP_RAW = raw ∧
          t.rst.startWdt = u.rst.startWdt ∧ OnlyRegs [Fld.RST_STRAP_RAW, Fld.RST_STRAP_FAULT, Fld.RST_BACKUP_STAT_HELD_STRAP,
            Fld.RST_BACKUP_STAT_HELD_STORM] { u with rst := t.rst } t) ∧
        (¬ storm → strapFault strap = false → code = 15 → t.rst.phase = .hold .bench ∧ t.rd Fld.TND_CFG_ROLE = 3 ∧
          t.rd Fld.RST_BACKUP_STAT_HELD_STRAP = 0 ∧ t.rd Fld.RST_BACKUP_STAT_HELD_STORM = 0 ∧
          t.rd (Fld.HIF_PORT_STAT_ENABLED 0) = 0 ∧ t.rd (Fld.HIF_PORT_STAT_ENABLED 1) = 0) ∧
        (¬ storm → strapFault strap = false → code = 13 ∨ code = 14 → t.rst.phase = .hold .recoveryStrap ∧
          t.rd Fld.RST_STRAP_CODE = code ∧ t.rd Fld.TND_CFG_ROLE = 3 ∧
          t.rd (Fld.HIF_PORT_STAT_ENABLED 0) = (if code = 13 then 1 else 0) ∧
          t.rd (Fld.HIF_PORT_STAT_ENABLED 1) = (if code = 14 then 1 else 0)) ∧
        (∀ i : Fin 2, ¬ storm → strapFault strap = false → code ≤ 12 → f.find .current = some i.val → (f.slot i.val).trial = false →
          u.startable f i.val = true →
          t.rst.phase = .started ∧ t.rst.startWdt = false ∧ t.rst.runWdt = true ∧ t.rst.primary = strapFlash code ∧
          (∀ im : Image, (f.slot i.val).image = some im → f.settingsFor im.setfmt = none →
            t.rd Fld.RST_FW_STAT_FLASH = strapFlash code ∧ t.rd Fld.RST_FW_STAT_SLOT = i.val ∧ t.rd Fld.RST_FW_STAT_SET_RESET = 1 ∧
            t.rd Fld.TND_CFG_ROLE = strapRole code ∧
            t.rd Fld.TND_STAT_STATE = (if (strapRole code = 1 ∨ strapRole code = 2) ∧ u.tndState = 0 ∧ t.mayServe = true then
              (if u.tnd.holdIn = true then 2 else 1) else u.tndState))))) ∧
  (s.rst.phase ≠ .started ∨ s.nowTick < s.rst.doneAt + 600 * 800000000 → exec .stormWindowClear s = .next s) ∧
  (s.rst.phase = .started → s.rst.doneAt + 600 * 800000000 ≤ s.nowTick → ∃ t, exec .stormWindowClear s = .next t ∧ t.rd Fld.RST_BACKUP_STAT_STORM_CNT = 0 ∧
    OnlyRegs [Fld.RST_BACKUP_STAT_STORM_CNT] s t) ∧
  (∀ u : Core, mayWrite u 12 = true → s.rst.phase = .started →
    exec (.wdtKick u 0x5AC3) s = .next { s with rst := { s.rst with runWdt := true, runFor := 0 } }) ∧
  (∀ (u : Core) (k : BitVec 16), mayWrite u 12 = true → k ≠ 0x5AC3 →
    (∃ t, exec (.wdtKick u k) s = .next t ∧ t.rd Fld.RST_STAT_INVALID_WR = 1 ∧ OnlyLogged [Fld.RST_STAT_INVALID_WR] s t) ∧
    (∃ t, exec (.startDone u k) s = .next t ∧ t.rd Fld.RST_STAT_INVALID_WR = 1 ∧ OnlyLogged [Fld.RST_STAT_INVALID_WR] s t)) ∧
  (∀ u : Core, mayWrite u 12 = true → s.rst.phase = .configured → ∃ t, exec (.startDone u 0x5AC3) s = .next t ∧
    t.rst = { s.rst with
      phase := .started, startWdt := false, runWdt := true, runFor := 0, doneAt := s.nowTick,
      healthEnd := s.nowTick + s.rd Fld.RST_FW_CFG_HEALTH_S * 800000000 } ∧
    (s.flag Fld.RST_FW_STAT_TRIAL = true → t.rd Fld.RST_FW_HEALTH_REMAIN = s.rd Fld.RST_FW_CFG_HEALTH_S) ∧
    (∀ n : Fin 128, (t.spoke n.val).restart = ((s.spoke n.val).restart || s.flag (Fld.SPK_CFG_ENABLE n.val))) ∧
    ((s.rd Fld.TND_CFG_ROLE = 1 ∨ s.rd Fld.TND_CFG_ROLE = 2) → s.tndState = 0 → t.mayServe = true →
      t.rd Fld.TND_STAT_STATE = (if s.tnd.holdIn = true then 2 else 1) ∧ t.rd Fld.TND_STAT_TWIN_HOLD = (if s.tnd.holdIn = true then 1 else 0)) ∧
    (¬ (s.rd Fld.TND_CFG_ROLE = 1 ∨ s.rd Fld.TND_CFG_ROLE = 2) ∨ s.tndState ≠ 0 ∨ t.mayServe = false →
      RegsBut [Fld.RST_FW_HEALTH_REMAIN] s t ∧ t = { s with regs := t.regs, rst := t.rst, spokes := t.spokes })) ∧
  (∀ u : Core, mayWrite u 12 = true → s.rst.phase = .started →
    exec (.startDone u 0x5AC3) s = .next { s with rst := { s.rst with startWdt := false, runWdt := true, runFor := 0 } }) ∧
  (∀ u : Core, mayWrite u 12 = true → s.rst.phase ≠ .started → s.rst.phase ≠ .configured → exec (.startDone u 0x5AC3) s = .next s) ∧
  (∀ u : Core, mayWrite u 12 = true → ∃ t, exec (.rstCfgLock u) s = .next t ∧ t.rd Fld.RST_CFG_LOCK = 1 ∧ OnlyRegs [Fld.RST_CFG_LOCK] s t)

/-- Tamper record (R75, R401) and the life of an image (R547 to R553). -/
def Obligations.TamperAndFirmware : Prop :=
  ∀ s : State,
  (∀ (i : Fin 2) (sec : BitVec 32), s.rd Fld.RST_BACKUP_STAT_TAMP_NEXT < 8 → s.tamperAwake = false → ∃ t, exec (.tamperInput i sec) s = .next t ∧
    let k := s.rd Fld.RST_BACKUP_STAT_TAMP_NEXT
    t.rd (Fld.RST_TAMPER_INPUT k) = i.val ∧ t.rd Fld.RST_BACKUP_STAT_TAMP_NEXT = (k + 1) % 8 ∧ t.rst = { s.rst with tamperDue := true } ∧
    OnlyRegs [Fld.RST_BACKUP_SEC_SECONDS, Fld.RST_TAMPER_SEC k, Fld.RST_TAMPER_INPUT k,
      Fld.RST_BACKUP_STAT_TAMP_NEXT, Fld.RST_BACKUP_STAT_TAMP_TOTAL, Fld.RST_BACKUP_STAT_TAMP0_NOW, Fld.RST_BACKUP_STAT_TAMP1_NOW] { s with rst := t.rst } t) ∧
  (∀ (i : Fin 2) (sec : BitVec 32), s.rd Fld.RST_BACKUP_STAT_TAMP_NEXT < 8 → s.tamperAwake = true → ∃ t, exec (.tamperInput i sec) s = .next t ∧
    let k := s.rd Fld.RST_BACKUP_STAT_TAMP_NEXT
    t.rd (Fld.RST_TAMPER_SEC k) = sec.toNat % 2 ^ (Fld.RST_TAMPER_SEC k).width ∧ t.rd (Fld.RST_TAMPER_INPUT k) = i.val ∧
    t.rd Fld.RST_BACKUP_STAT_TAMP_NEXT = (k + 1) % 8 ∧
    t.rd Fld.RST_BACKUP_STAT_TAMP_TOTAL = min (s.rd Fld.RST_BACKUP_STAT_TAMP_TOTAL + 1) 255 ∧ t.rd Fld.SEC_EVT_TAMPER = 1 ∧
    (1 ≤ s.sec.tamperAct → t.sec.sessions = []) ∧
    (s.sec.tamperAct = 0 → OnlyLogged [Fld.RST_BACKUP_SEC_SECONDS, Fld.RST_TAMPER_SEC k, Fld.RST_TAMPER_INPUT k,
      Fld.RST_BACKUP_STAT_TAMP_NEXT, Fld.RST_BACKUP_STAT_TAMP_TOTAL, Fld.RST_BACKUP_STAT_TAMP0_NOW, Fld.RST_BACKUP_STAT_TAMP1_NOW,
      Fld.SEC_EVT_TAMPER] s t)) ∧
  (∀ u : Core, mayWrite u 12 = true → s.flag Fld.RST_FW_STAT_TRIAL = true →
    let fl := s.rd Fld.RST_FW_STAT_FLASH
    let i := s.rd Fld.RST_FW_STAT_SLOT
    (∃ t, exec (.fwConfirm u) s = .next t ∧ t.rd Fld.RST_FW_STAT_TRIAL = 0 ∧ t.rd Fld.RST_FW_STAT_ATTEMPTS = 0 ∧
      t.rd Fld.RST_FW_HEALTH_REMAIN = 0 ∧ (i < 2 → ((t.flashOf fl).slot i).trial = false ∧ ((t.flashOf fl).slot i).attempts = 0 ∧
        ((t.flashOf fl).slot i).image = ((s.flashOf fl).slot i).image) ∧
      RegsBut [Fld.RST_FW_STAT_TRIAL, Fld.RST_FW_STAT_ATTEMPTS, Fld.RST_FW_STAT_DEFER, Fld.RST_FW_HEALTH_REMAIN] s t ∧
      MapBut Flash.reset [fl] s.flash t.flash ∧ t = { s with regs := t.regs, flash := t.flash, rst := t.rst }) ∧
    (∃ t, exec (.fwReject u) s = .next t ∧ t.flashOf fl = (s.flashOf fl).fallBack i ∧ MapBut Flash.reset [fl] s.flash t.flash ∧
      (s.tndState = 4 → s.flag Fld.TND_STAT_TWIN_READY = true →
        t.rst.atBoundary = some { src := .self 5, yield := true, since := s.nowTick } ∧ t.rd Fld.RST_FW_STAT_TRIAL = 0) ∧
      (s.tndState = 4 → s.flag Fld.TND_STAT_TWIN_READY = false →
        t.rst.deferred = true ∧ t.rd Fld.RST_FW_STAT_DEFER = 1 ∧ t.rd Fld.RST_FW_STAT_TRIAL = 0) ∧
      (s.tndState ≠ 4 → s.tndState ≠ 0 ∨ s.anyServing = false → s.rst.phase ≠ .hold .storm → t.rd Fld.RST_CAUSE_SELF = 1 ∧ t.rd Fld.RST_CAUSE_SELF_WHY = 5 ∧ t.spokes = []))) ∧
  (∀ u : Core, mayWrite u 12 = true → s.flag Fld.RST_FW_STAT_TRIAL = false →
    exec (.fwConfirm u) s = .next s ∧ exec (.fwReject u) s = .next s ∧ exec .healthExpire s = .next s ∧ exec .fwAutoConfirm s = .next s) ∧
  (s.flag Fld.RST_FW_STAT_TRIAL = true → s.flag Fld.RST_FW_CFG_AUTO_CONFIRM = true → s.started = true → s.healthy = true →
    (s.rd Fld.TND_CFG_ROLE = 0 → s.rst.doneAt + 60 * 800000000 ≤ s.nowTick) →
    (s.rd Fld.TND_CFG_ROLE ≠ 0 → s.tnd.upAt + 10 * 800000000 ≤ s.nowTick) → ∃ t, exec .fwAutoConfirm s = .next t ∧ t.rd Fld.RST_FW_STAT_TRIAL = 0 ∧ t.rd Fld.RST_FW_STAT_ATTEMPTS = 0 ∧
      t = { s with regs := t.regs, flash := t.flash, rst := t.rst }) ∧
  (s.flag Fld.RST_FW_STAT_TRIAL = true → s.started = true → s.nowTick < s.rst.healthEnd → exec .healthExpire s = .next s) ∧
  (s.flag Fld.RST_FW_STAT_TRIAL = true → s.started = true → s.rst.healthEnd ≤ s.nowTick → s.tndState = 0 → s.anyServing = true →
    ∃ t, exec .healthExpire s = .next t ∧ t.rst.deferred = true ∧ t.rd Fld.RST_FW_STAT_DEFER = 1 ∧ t.rd Fld.RST_FW_STAT_TRIAL = 0 ∧
      t.flashOf (s.rd Fld.RST_FW_STAT_FLASH) = (s.flashOf (s.rd Fld.RST_FW_STAT_FLASH)).fallBack (s.rd Fld.RST_FW_STAT_SLOT) ∧
      RegsBut [Fld.RST_FW_STAT_TRIAL, Fld.RST_FW_HEALTH_REMAIN, Fld.RST_FW_STAT_DEFER] s t) ∧
  (s.rst.deferred = false ∨ s.mayBegin = false → exec .deferredFallbackReset s = .next s) ∧
  (s.rst.deferred = true → s.mayBegin = true → s.tndState = 4 → s.flag Fld.TND_STAT_TWIN_READY = true → ∃ t, exec .deferredFallbackReset s = .next t ∧
    t.rst.atBoundary = some { src := .self 5, yield := true, since := s.nowTick } ∧ t = { s with rst := t.rst }) ∧
  (s.rst.deferred = true → s.mayBegin = true → s.tndState ≠ 4 ∨ s.flag Fld.TND_STAT_TWIN_READY = false → s.allServedBlocked = true →
    s.rst.phase ≠ .hold .storm → ∃ t, exec .deferredFallbackReset s = .next t ∧ ResetTaken (.self 5) s t) ∧
  (s.rst.deferred = true → s.tndState ≠ 4 ∨ s.flag Fld.TND_STAT_TWIN_READY = false → s.allServedBlocked = false →
    exec .deferredFallbackReset s = .next s) ∧
  (∀ u : Core, mayWrite u 12 = true → ∃ t, exec (.fwSave u) s = .next t ∧ t.rst.saved = true ∧
    (∃ r ∈ [(t.flashOf (s.rd Fld.RST_FW_STAT_FLASH)).set0, (t.flashOf (s.rd Fld.RST_FW_STAT_FLASH)).set1],
      (r.map (·.regs)) = some s.settingsNow ∧ (r.map (·.crcOk)) = some true) ∧
    MapBut Flash.reset [s.rd Fld.RST_FW_STAT_FLASH] s.flash t.flash ∧ t = { s with flash := t.flash, rst := t.rst }) ∧
  (∀ u : Core, mayWrite u 12 = true → ∃ t, exec (.fwClrStage u) s = .next t ∧ t.staging = none ∧ t.rd Fld.RST_FW_STAT_STAGED = 0 ∧
    (s.staging = none → (t.flashOf s.rst.primary).staged = false) ∧
    RegsBut [Fld.RST_FW_STAT_STAGED] s t ∧ t = { s with regs := t.regs, flash := t.flash, staging := none }) ∧
  (s.staging = none → exec .stagingTimeout s = .next s) ∧
  (∀ g : Staging, s.staging = some g → exec .stagingTimeout s =
    .next (if g.lastAt + 600 * 800000000 ≤ s.nowTick then { s with staging := none } else s)) ∧
  (∀ (im : Image) (a : Bool), s.rst.mirror = true → s.runSlot.image = some im →
    ∃ t, exec (.mirrorCopyDone a) s = .next t ∧ t.rst.mirror = false ∧
      (a = true → s.checkImage im = .ok →
        t.flashOf (1 - s.rd Fld.RST_FW_STAT_FLASH) = (s.flashOf (1 - s.rd Fld.RST_FW_STAT_FLASH)).install im s.runSlot.key false ∧
        MapBut Flash.reset [1 - s.rd Fld.RST_FW_STAT_FLASH] s.flash t.flash ∧ t = { s with rst := t.rst, flash := t.flash }) ∧
      (a = false ∨ s.checkImage im ≠ .ok → t.rd Fld.RST_FW_STAT_MIRROR_FAIL = 1 ∧
        RegsBut (Fld.RST_FW_STAT_MIRROR_FAIL :: loggedFields) s t ∧ t = { s with regs := t.regs, hist := t.hist, log := t.log, rst := t.rst }))

/-- DRAM and SRAM (R413 to R425). -/
def Obligations.MemoryCommands : Prop :=
  ∀ s : State,
  (∀ td : BitVec 8, ∃ t, exec (.dramTempChange td) s = .next t ∧ t.rd Fld.HKP_THERM_TDRAM = td.toNat ∧
    t.rd Fld.HKP_THERM_DRAM_HOT = (if 85 < td.toInt then 1 else 0) ∧
    t.rd Fld.MEM_DRAM_STAT_BW_GBS = (if 105 < td.toInt then 160 else if 85 < td.toInt then 220 else 256) ∧
    t.rd Fld.MEM_DRAM_STAT_REFRESH = (if 105 < td.toInt then 2 else if 85 < td.toInt then 1 else 0) ∧
    t.rd Fld.MEM_EVT_DRAM_HOT2 = (if 105 < td.toInt then 1 else s.rd Fld.MEM_EVT_DRAM_HOT2) ∧
    OnlyLogged [Fld.HKP_THERM_TDRAM, Fld.HKP_THERM_DRAM_HOT, Fld.MEM_DRAM_STAT_BW_GBS, Fld.MEM_DRAM_STAT_REFRESH, Fld.MEM_EVT_DRAM_HOT2,
      Fld.QOS_STAT_NOFIT, Fld.QOS_DEM_DRAM_BYTES, Fld.QOS_CAP_DRAM_BYTES, Fld.QOS_SLACK_SLACK, Fld.TND_SHBYTES_BYTES, Fld.TND_SHCAP_CAP] s t) ∧
  (∃ t, exec .targetedRowRefresh s = .next t ∧
    t.rd Fld.MEM_CNT_TRR_CNT = min (s.rd Fld.MEM_CNT_TRR_CNT + (s.qos.rows.filter (fun p => decide (4096 ≤ p.2))).length)
      (2 ^ Fld.MEM_CNT_TRR_CNT.width - 1) ∧
    (∀ p, p ∈ t.qos.rows ↔ p ∈ s.qos.rows ∧ p.2 < 4096) ∧
    OnlyRegs [Fld.MEM_CNT_TRR_CNT] { s with qos := { s.qos with rows := t.qos.rows } } t) ∧
  (∀ reqs : List Granule,
    let all := s.qos.waiting.map (·.1) ++ reqs
    ∃ t, exec (.shedWindow reqs) s = .next t ∧
    (let left := t.qos.waiting.map (·.1)
     let shared := fun (g : Granule) => g.res == .dram && g.cls != .c1
     let shed := fun (c : TrafficClass) (g : Granule) => g.res != .dram && g.cls == c
     left.Sublist all ∧
     (all.filter shared).length ≤ (left.filter shared).length + s.afterPressure s.dramRemainder ∧
     (1 ≤ s.cad.shed → left.filter (shed .c3) = all.filter (shed .c3)) ∧
     (2 ≤ s.cad.shed → left.filter (shed .c2) = all.filter (shed .c2)) ∧
     (s.pert 1 = false → ∀ g ∈ left, g.cls = .c1 → g.res = .sram ∨ g.res = .dram) ∧
     (∀ g ∈ all, g.res = .sram → let here := fun (x : Granule) => x.res == .sram && s.portOf x == s.portOf g
       (all.filter here).length ≤ (left.filter here).length + 250) ∧
     (∀ g ∈ all, ∀ f : Fin 256, g.who = .fn f → inMemory g = true →
       let mine := fun (x : Granule) => x.who == .fn f && inMemory x && s.granuleBank x == s.granuleBank g
       (all.filter mine).length ≤ (left.filter mine).length + s.rd Fld.QOS_CFG_BANKCAP) ∧
     (∀ r : Nat, FMap.get 0 t.qos.rows r ≤ max (FMap.get 0 s.qos.rows r) 4096) ∧
     (∀ g ∈ all, ∀ a, g.res = .dram → g.opens = some a → 4096 ≤ FMap.get 0 s.qos.rows a.row.toNat → g ∈ left)) ∧
    t.dramShed ≤ 2 ∧ t.rd Fld.QOS_STAT_SHED = max s.cad.shed t.dramShed % 4 ∧
    t.rd Fld.QOS_CNT_SHED3_CNT = (if t.dramShed = 0 then s.rd Fld.QOS_CNT_SHED3_CNT else min (s.rd Fld.QOS_CNT_SHED3_CNT + 1) (2 ^ Fld.QOS_CNT_SHED3_CNT.width - 1)) ∧
    t.rd Fld.QOS_CNT_SHED2_CNT = (if t.dramShed = 2 then min (s.rd Fld.QOS_CNT_SHED2_CNT + 1) (2 ^ Fld.QOS_CNT_SHED2_CNT.width - 1) else s.rd Fld.QOS_CNT_SHED2_CNT) ∧
    RegsButIn [(0x9100000, 0x9200000)] s t ∧ t = { s with regs := t.regs, dramShed := t.dramShed, qos := t.qos }) ∧
  (∀ u : Core, mayWrite u 17 = true → ∃ t, exec (.qosCntClr u) s = .next t ∧ t.rd Fld.QOS_CNT_C1MISS_CNT = 0 ∧
    t.rd Fld.QOS_CNT_SHED3_CNT = 0 ∧ t.rd Fld.QOS_CNT_SHED2_CNT = 0 ∧ t.rd Fld.QOS_CNT_BANKCAP_CNT = 0 ∧
    RegsButIn [(0x9100000, 0x9200000)] s t ∧ t = { s with regs := t.regs }) ∧
  (∀ (u : Core) (b : BitVec 6) (n : Nat), mayWrite u 18 = true → b.toNat ≤ 59 →
    s.rd (Fld.MEM_BANKSTAT_STATE (s.rd (Fld.MEM_BANKMAP_PHYS b.toNat))) = 0 → ∀ x : Nat, s.bankIn 1 = some x →
    ∃ t, exec (.bankSwapStart (some u) b n) s = .next t ∧
      t.rd (Fld.MEM_BANKSTAT_STATE (s.rd (Fld.MEM_BANKMAP_PHYS b.toNat))) = 2 ∧ t.rd (Fld.MEM_BANKSTAT_STATE x) = 3 ∧
      t.rd (Fld.MEM_BANKSTAT_LOGICAL x) = b.toNat ∧ t.rd Fld.MEM_SPARE_CTL_SRC = b.toNat ∧ t.rd Fld.MEM_SPARE_CTL_BUSY = 1 ∧
      OnlyRegs [Fld.MEM_BANKSTAT_STATE (s.rd (Fld.MEM_BANKMAP_PHYS b.toNat)), Fld.MEM_BANKSTAT_STATE x, Fld.MEM_BANKSTAT_LOGICAL x,
        Fld.MEM_SPARE_CTL_SRC, Fld.MEM_SPARE_CTL_BUSY, Fld.MEM_SPARE_CTL_LEFT] s t) ∧
  (∀ (u : Core) (b : BitVec 6) (n : Nat), mayWrite u 18 = true → 59 < b.toNat → ∃ t, exec (.bankSwapStart (some u) b n) s = .next t ∧
    t.rd Fld.MEM_EVT_INVALID_WR = 1 ∧ OnlyLogged [Fld.MEM_EVT_INVALID_WR] s t) ∧
  (∀ (b : BitVec 6) (n : Nat), b.toNat ≤ 59 → s.flag Fld.MEM_CFG_AUTO = true → s.rd Fld.MEM_CFG_CORR_LIMIT < n →
    s.rd (Fld.MEM_BANKSTAT_STATE (s.rd (Fld.MEM_BANKMAP_PHYS b.toNat))) = 0 → ∀ x : Nat, s.bankIn 1 = some x →
    ∃ t, exec (.bankSwapStart none b n) s = .next t ∧
      t.rd (Fld.MEM_BANKSTAT_STATE (s.rd (Fld.MEM_BANKMAP_PHYS b.toNat))) = 2 ∧ t.rd (Fld.MEM_BANKSTAT_STATE x) = 3 ∧
      t.rd (Fld.MEM_BANKSTAT_LOGICAL x) = b.toNat ∧
      t.rd (Fld.MEM_BANKSTAT_CORR (s.rd (Fld.MEM_BANKMAP_PHYS b.toNat))) =
        min (s.rd (Fld.MEM_BANKSTAT_CORR (s.rd (Fld.MEM_BANKMAP_PHYS b.toNat))) + n) 65535) ∧
  (∀ (b : Fin 60) (x : Nat), s.swapTarget b.val = some x → s.rd (Fld.MEM_BANKMAP_PHYS b.val) ≠ x → s.rd (Fld.MEM_BANKMAP_PHYS b.val) < 64 →
    ∃ t, exec (.bankSwapSwitch b) s = .next t ∧ t.rd (Fld.MEM_BANKMAP_PHYS b.val) = x ∧ t.rd (Fld.MEM_BANKSTAT_STATE x) = 0 ∧
      t.rd (Fld.MEM_BANKSTAT_STATE (s.rd (Fld.MEM_BANKMAP_PHYS b.val))) = 4 ∧
      t.rd (Fld.MEM_BANKSTAT_LOGICAL (s.rd (Fld.MEM_BANKMAP_PHYS b.val))) = 63 ∧ t.rd Fld.MEM_EVT_SWAP_DONE = 1 ∧
      OnlyLogged [Fld.MEM_BANKMAP_PHYS b.val, Fld.MEM_BANKSTAT_STATE x, Fld.MEM_BANKSTAT_STATE (s.rd (Fld.MEM_BANKMAP_PHYS b.val)),
        Fld.MEM_BANKSTAT_LOGICAL (s.rd (Fld.MEM_BANKMAP_PHYS b.val)), Fld.MEM_SPARE_CTL_BUSY, Fld.MEM_SPARE_CTL_LEFT,
        Fld.MEM_EVT_SWAP_DONE] s t) ∧
  (∀ b : Fin 60, s.swapTarget b.val = none → exec (.bankSwapSwitch b) s = .next s) ∧
  (∀ (b : Fin 60) (q : Fin 12288), s.bankIn 1 = none → s.swapping b.val = false → ∃ t, exec (.sramUncorrectable ⟨b, q⟩ false .other) s = .next t ∧
    t.mem = FMap.setRange 0 s.mem (sramBase + s.sramAddr b.val q.val) (List.replicate 64 0) ∧
    t.rd Fld.MEM_CNT_UECC_CNT = min (s.rd Fld.MEM_CNT_UECC_CNT + 1) (2 ^ Fld.MEM_CNT_UECC_CNT.width - 1) ∧ t.rd Fld.MEM_EVT_UECC_SRAM = 1 ∧
    bitOf (t.rd Fld.TND_CAUSE_LIVE) 1 = true ∧ t.rd Fld.MEM_EVT_NO_SPARE = 1 ∧
    RegsBut ([Fld.MEM_CNT_UECC_CNT, Fld.MEM_EVT_UECC_SRAM, Fld.MEM_EVT_NO_SPARE, Fld.TND_CAUSE_LIVE, Fld.TND_EVT_HELD_NO_TWIN] ++ loggedFields) s t ∧
    t = { s with regs := t.regs, hist := t.hist, log := t.log, tnd := t.tnd, mem := t.mem }) ∧
  (∀ (b : Fin 60) (q : Fin 12288) (x : Nat), s.bankIn 1 = some x → s.rd (Fld.MEM_BANKSTAT_STATE (s.rd (Fld.MEM_BANKMAP_PHYS b.val))) = 0 →
    ∃ t, exec (.sramUncorrectable ⟨b, q⟩ false .other) s = .next t ∧ t.rd Fld.MEM_EVT_UECC_SRAM = 1 ∧
      t.rd (Fld.MEM_BANKSTAT_STATE (s.rd (Fld.MEM_BANKMAP_PHYS b.val))) = 2 ∧ t.rd (Fld.MEM_BANKSTAT_STATE x) = 3 ∧
      t = { s with regs := t.regs, hist := t.hist, log := t.log, tnd := t.tnd, mem := t.mem }) ∧
  (∀ (b : Fin 60) (q : Fin 12288) (n : Fin 128) (k : Fin 96), (s.cell (cellId n.val k.val)).lstate ≠ .free →
    ∃ t, exec (.sramUncorrectable ⟨b, q⟩ false (.sample n k)) s = .next t ∧ (t.cell (cellId n.val k.val)).sampleOk = false ∧
      MapBut Cell.reset [cellId n.val k.val] s.cells t.cells) ∧
  (∀ (b : Fin 60) (q : Fin 12288) (what : Poison), ∀ x : Nat, s.swapTarget b.val = some x → s.rd (Fld.MEM_BANKMAP_PHYS b.val) ≠ x →
    ∃ t, exec (.sramUncorrectable ⟨b, q⟩ true what) s = .next t ∧
      t.rd Fld.MEM_EVT_SWAP_FAIL = 1 ∧ t.rd (Fld.MEM_BANKSTAT_STATE x) = 4 ∧
      t.cells = s.cells ∧ t.engines = s.engines)

/-- The ALU instructions (R203) on the bank in use (R188). On an engine that does not execute: log 48. -/
def Obligations.EngineAluInstructions : Prop :=
  ∀ (s : State) (e : Fin 32) (rd rs1 rs2 : BitVec 4),
  (s.executing e = true →
    let a := (s.eng e).getX rs1
    let b := (s.eng e).getX rs2
    (∃ t, exec (.ceAdd e rd rs1 rs2) s = .next t ∧ XSet e rd (BitVec.ofNat 40 (a.toNat + b.toNat)) 1 s t) ∧
    (∃ t, exec (.ceSub e rd rs1 rs2) s = .next t ∧ XSet e rd (BitVec.ofInt 40 ((a.toNat : Int) - b.toNat)) 1 s t) ∧
    (∃ t, exec (.ceAnd e rd rs1 rs2) s = .next t ∧ XSet e rd (a &&& b) 1 s t) ∧
    (∃ t, exec (.ceOr e rd rs1 rs2) s = .next t ∧ XSet e rd (a ||| b) 1 s t) ∧
    (∃ t, exec (.ceXor e rd rs1 rs2) s = .next t ∧ XSet e rd (a ^^^ b) 1 s t) ∧
    (∃ t, exec (.ceShl e rd rs1 rs2) s = .next t ∧ XSet e rd (BitVec.ofNat 40 (a.toNat * 2 ^ (b.toNat % 64))) 1 s t) ∧
    (∃ t, exec (.ceShr e rd rs1 rs2) s = .next t ∧ XSet e rd (BitVec.ofNat 40 (a.toNat / 2 ^ (b.toNat % 64))) 1 s t) ∧
    (∃ t, exec (.ceSar e rd rs1 rs2) s = .next t ∧ XSet e rd (BitVec.ofInt 40 (a.toInt / 2 ^ (b.toNat % 64))) 1 s t) ∧
    (∃ t, exec (.ceSlt e rd rs1 rs2) s = .next t ∧ XSet e rd (if a.toInt < b.toInt then 1 else 0) 1 s t) ∧
    (∃ t, exec (.ceSltu e rd rs1 rs2) s = .next t ∧ XSet e rd (if a.toNat < b.toNat then 1 else 0) 1 s t) ∧
    (∃ t, exec (.ceMin e rd rs1 rs2) s = .next t ∧ XSet e rd (BitVec.ofInt 40 (min a.toInt b.toInt)) 1 s t) ∧
    (∃ t, exec (.ceMax e rd rs1 rs2) s = .next t ∧ XSet e rd (BitVec.ofInt 40 (max a.toInt b.toInt)) 1 s t) ∧
    (∃ t, exec (.ceMinu e rd rs1 rs2) s = .next t ∧ XSet e rd (BitVec.ofNat 40 (min a.toNat b.toNat)) 1 s t) ∧
    (∃ t, exec (.ceMaxu e rd rs1 rs2) s = .next t ∧ XSet e rd (BitVec.ofNat 40 (max a.toNat b.toNat)) 1 s t) ∧
    (∃ t, exec (.ceMul e rd rs1 rs2) s = .next t ∧ XSet e rd (BitVec.ofNat 40 (a.toNat * b.toNat)) 1 s t)) ∧
  (s.executing e = false →
    exec (.ceAdd e rd rs1 rs2) s = .next s ∧ exec (.ceSub e rd rs1 rs2) s = .next s ∧
    exec (.ceAnd e rd rs1 rs2) s = .next s ∧ exec (.ceOr e rd rs1 rs2) s = .next s ∧
    exec (.ceXor e rd rs1 rs2) s = .next s ∧ exec (.ceShl e rd rs1 rs2) s = .next s ∧
    exec (.ceShr e rd rs1 rs2) s = .next s ∧ exec (.ceSar e rd rs1 rs2) s = .next s ∧
    exec (.ceSlt e rd rs1 rs2) s = .next s ∧ exec (.ceSltu e rd rs1 rs2) s = .next s ∧
    exec (.ceMin e rd rs1 rs2) s = .next s ∧ exec (.ceMax e rd rs1 rs2) s = .next s ∧
    exec (.ceMinu e rd rs1 rs2) s = .next s ∧ exec (.ceMaxu e rd rs1 rs2) s = .next s ∧
    exec (.ceMul e rd rs1 rs2) s = .next s)

/-- Immediate forms, CLZ and NOP (R203), and their illegal encodings (R204, R215). -/
def Obligations.EngineImmediateInstructions : Prop :=
  ∀ (s : State) (e : Fin 32) (rd rs1 rs2 : BitVec 4) (imm : BitVec 18) (imm22 : BitVec 22), s.executing e = true →
    let a := (s.eng e).getX rs1
    (∃ t, exec (.ceAddi e rd rs1 imm) s = .next t ∧ XSet e rd (BitVec.ofInt 40 ((a.toNat : Int) + imm.toInt)) 1 s t) ∧
    (∃ t, exec (.ceAndi e rd rs1 imm) s = .next t ∧ XSet e rd (BitVec.ofNat 40 (a.toNat &&& imm.toNat)) 1 s t) ∧
    (∃ t, exec (.ceOri e rd rs1 imm) s = .next t ∧ XSet e rd (BitVec.ofNat 40 (a.toNat ||| imm.toNat)) 1 s t) ∧
    (∃ t, exec (.ceXori e rd rs1 imm) s = .next t ∧ XSet e rd (BitVec.ofNat 40 (a.toNat ^^^ imm.toNat)) 1 s t) ∧
    (imm.toNat < 64 → ∃ t, exec (.ceShli e rd rs1 imm) s = .next t ∧ XSet e rd (BitVec.ofNat 40 (a.toNat * 2 ^ imm.toNat)) 1 s t) ∧
    (64 ≤ imm.toNat → ∃ t, exec (.ceShli e rd rs1 imm) s = .next t ∧ IllegalTaken e s t) ∧
    (imm.toNat < 64 → ∃ t, exec (.ceShri e rd rs1 imm) s = .next t ∧ XSet e rd (BitVec.ofNat 40 (a.toNat / 2 ^ imm.toNat)) 1 s t) ∧
    (64 ≤ imm.toNat → ∃ t, exec (.ceShri e rd rs1 imm) s = .next t ∧ IllegalTaken e s t) ∧
    (imm.toNat < 64 → ∃ t, exec (.ceSari e rd rs1 imm) s = .next t ∧ XSet e rd (BitVec.ofInt 40 (a.toInt / 2 ^ imm.toNat)) 1 s t) ∧
    (64 ≤ imm.toNat → ∃ t, exec (.ceSari e rd rs1 imm) s = .next t ∧ IllegalTaken e s t) ∧
    (∃ t, exec (.ceLil e rd imm22) s = .next t ∧ XSet e rd (BitVec.ofInt 40 imm22.toInt) 1 s t) ∧
    (imm22.toNat < 2 ^ 18 → ∃ t, exec (.ceLih e rd imm22) s = .next t ∧
      XSet e rd (BitVec.ofNat 40 (imm22.toNat * 2 ^ 22 + ((s.eng e).getX rd).toNat % 2 ^ 22)) 1 s t) ∧
    (2 ^ 18 ≤ imm22.toNat → ∃ t, exec (.ceLih e rd imm22) s = .next t ∧ IllegalTaken e s t) ∧
    (rs2 = 0 → ∃ t, exec (.ceClz e rd rs1 rs2) s = .next t ∧
      XSet e rd (BitVec.ofNat 40 (if a = 0 then 40 else 39 - Nat.log2 a.toNat)) 1 s t) ∧
    (rs2 ≠ 0 → ∃ t, exec (.ceClz e rd rs1 rs2) s = .next t ∧ IllegalTaken e s t) ∧
    (∃ t, exec (.ceNop e 0 0 0) s = .next t ∧ Advanced e 1 s t ∧
      t.eng e = { s.eng e with pc := (t.eng e).pc, cycle := (t.eng e).cycle } ∧ OnlyEng e s t) ∧
    (rd ≠ 0 ∨ rs1 ≠ 0 ∨ rs2 ≠ 0 → ∃ t, exec (.ceNop e rd rs1 rs2) s = .next t ∧ IllegalTaken e s t)

/-- Loads and stores (R203, R215); `a` is the address that the instruction computes. -/
def Obligations.EngineLoadsAndStores : Prop :=
  ∀ (s : State) (e : Fin 32) (rd rs1 : BitVec 4) (imm : BitVec 18), s.executing e = true →
    let a := (s.eng e).addr rs1 imm
    let copies := match (s.eng e).mig with | some (k, true) => some k | _ => none
    (addrOk a = true →
      (∃ t, exec (.ceLd e rd rs1 imm) s = .next t ∧ XSet e rd ((s.eng e).mem a.toNat) 1 s t) ∧
      (∃ t, exec (.ceSt e rd rs1 imm) s = .next t ∧ (t.eng e).mem a.toNat = (s.eng e).getX rd ∧
        MapBut 0 [a.toNat] (s.eng e).dmem (t.eng e).dmem ∧ Advanced e 1 s t ∧
        t.eng e = { s.eng e with dmem := (t.eng e).dmem, pc := (t.eng e).pc, cycle := (t.eng e).cycle } ∧
        (copies = none → OnlyEng e s t) ∧
        (∀ k : Nat, copies = some k → (t.eng k).mem a.toNat = (s.eng e).getX rd ∧
          MapBut Engine.reset [e.val, k] s.engines t.engines ∧ t = { s with engines := t.engines })) ∧
      (rd.toNat < 4 → ∃ t, exec (.ceLda e rd rs1 imm) s = .next t ∧ AccSet e rd.toNat ((s.eng e).mem a.toNat) false s t) ∧
      (rd.toNat < 4 → ∃ t, exec (.ceSta e rd rs1 imm) s = .next t ∧ (t.eng e).mem a.toNat = (s.eng e).getAcc rd.toNat ∧
        MapBut 0 [a.toNat] (s.eng e).dmem (t.eng e).dmem ∧ Advanced e 1 s t ∧
        t.eng e = { s.eng e with dmem := (t.eng e).dmem, pc := (t.eng e).pc, cycle := (t.eng e).cycle } ∧
        (copies = none → OnlyEng e s t) ∧
        (∀ k : Nat, copies = some k → (t.eng k).mem a.toNat = (s.eng e).getAcc rd.toNat ∧
          MapBut Engine.reset [e.val, k] s.engines t.engines ∧ t = { s with engines := t.engines }))) ∧
    (addrOk a = false →
      (∃ t, exec (.ceLd e rd rs1 imm) s = .next t ∧ AccessFaultTaken e 1 s t) ∧
      (∃ t, exec (.ceSt e rd rs1 imm) s = .next t ∧ AccessFaultTaken e 1 s t) ∧
      (rd.toNat < 4 → ∃ t, exec (.ceLda e rd rs1 imm) s = .next t ∧ AccessFaultTaken e 1 s t) ∧
      (rd.toNat < 4 → ∃ t, exec (.ceSta e rd rs1 imm) s = .next t ∧ AccessFaultTaken e 1 s t)) ∧
    (4 ≤ rd.toNat →
      (∃ t, exec (.ceLda e rd rs1 imm) s = .next t ∧ IllegalTaken e s t) ∧
      (∃ t, exec (.ceSta e rd rs1 imm) s = .next t ∧ IllegalTaken e s t))

/-- MACQ (R231 to R233): `clamp v` is the nearest value of the 40-bit range. -/
def Obligations.EngineMacInstructions : Prop :=
  ∀ (s : State) (e : Fin 32) (rx rs1 rs2 : BitVec 4) (acc : BitVec 2), s.executing e = true →
    let p := (((s.eng e).getX rs1).setWidth 16).toInt * (((s.eng e).getX rs2).setWidth 16).toInt
    let c := ((s.eng e).getAcc acc.toNat).toInt
    let d := ((s.eng e).getAcc (rs2.toNat % 4)).toInt
    let r := (c + 0x4000) / 2 ^ 15
    let clamp := fun v : Int => max (-(2 ^ 39)) (min (2 ^ 39 - 1) v)
    let out := fun v : Int => decide (v < -(2 ^ 39) ∨ 2 ^ 39 - 1 < v)
    (∃ t, exec (.ceMpy e rx rs1 rs2 acc) s = .next t ∧ AccSet e acc.toNat (BitVec.ofInt 40 p) false s t) ∧
    (∃ t, exec (.ceMac e rx rs1 rs2 acc) s = .next t ∧ AccSet e acc.toNat (BitVec.ofInt 40 (clamp (c + p))) (out (c + p)) s t) ∧
    (∃ t, exec (.ceMsu e rx rs1 rs2 acc) s = .next t ∧ AccSet e acc.toNat (BitVec.ofInt 40 (clamp (c - p))) (out (c - p)) s t) ∧
    (∃ t, exec (.ceAadd e rx rs1 rs2 acc) s = .next t ∧ AccSet e acc.toNat (BitVec.ofInt 40 (clamp (c + d))) (out (c + d)) s t) ∧
    (∃ t, exec (.ceAclr e rx rs1 rs2 acc) s = .next t ∧ AccSet e acc.toNat 0 false s t) ∧
    (∃ t, exec (.ceAmov e rx rs1 rs2 acc) s = .next t ∧ AccSet e acc.toNat ((s.eng e).getX rs1) false s t) ∧
    (∃ t, exec (.ceAext e rx rs1 rs2 acc) s = .next t ∧ XSet e rx ((s.eng e).getAcc acc.toNat) 1 s t) ∧
    (∃ t, exec (.ceArnd e rx rs1 rs2 acc) s = .next t ∧ XHolds e rx (BitVec.ofInt 40 (max (-32768) (min 32767 r))) s t ∧ Advanced e 1 s t ∧
      (t.eng e).sat = ((s.eng e).sat || decide (r < -32768 ∨ 32767 < r)) ∧
      t.eng e = { s.eng e with x := (t.eng e).x, xh := (t.eng e).xh, pc := (t.eng e).pc, cycle := (t.eng e).cycle, sat := (t.eng e).sat } ∧
      OnlyEng e s t)

/-- F40 instructions (R237 to R248); `m` is the rounding mode in force. -/
def Obligations.EngineF40Instructions : Prop :=
  ∀ (s : State) (e : Fin 32) (rd rs1 rs2 : BitVec 4) (rm : BitVec 3), s.executing e = true →
    let a := (s.eng e).getX rs1
    let b := (s.eng e).getX rs2
    let m := rmOf (s.eng e).frm rm
    (rm.toNat ≤ 4 →
      (∃ t, exec (.ceFadd e rd rs1 rs2 rm) s = .next t ∧ FSet e rd (fAdd m a b) 1 s t) ∧
      (∃ t, exec (.ceFsub e rd rs1 rs2 rm) s = .next t ∧ FSet e rd (fAdd m a (fNeg b)) 1 s t) ∧
      (∃ t, exec (.ceFmul e rd rs1 rs2 rm) s = .next t ∧ FSet e rd (fMul m a b) 1 s t) ∧
      (∃ t, exec (.ceFdiv e rd rs1 rs2 rm) s = .next t ∧ FSet e rd (fDiv m a b) 12 s t) ∧
      (∃ t, exec (.ceFsqrt e rd rs1 rs2 rm) s = .next t ∧ FSet e rd (fSqrt m a) 16 s t) ∧
      (∃ t, exec (.ceFma e rd rs1 rs2 rm) s = .next t ∧ FSet e rd (fFma m ((s.eng e).getX rd) a b) 1 s t) ∧
      (∃ t, exec (.ceFmin e rd rs1 rs2 rm) s = .next t ∧ FSet e rd (fMinMax false a b) 1 s t) ∧
      (∃ t, exec (.ceFmax e rd rs1 rs2 rm) s = .next t ∧ FSet e rd (fMinMax true a b) 1 s t) ∧
      (∃ t, exec (.ceFeq e rd rs1 rs2 rm) s = .next t ∧ FSet e rd (fEq a b) 1 s t) ∧
      (∃ t, exec (.ceFlt e rd rs1 rs2 rm) s = .next t ∧ FSet e rd (fLt a b) 1 s t) ∧
      (∃ t, exec (.ceFle e rd rs1 rs2 rm) s = .next t ∧ FSet e rd (fLe a b) 1 s t) ∧
      (∃ t, exec (.ceFcvtQf e rd rs1 rs2 rm) s = .next t ∧ FSet e rd (fToInt m 30 true a) 1 s t) ∧
      (∃ t, exec (.ceFcvtFq e rd rs1 rs2 rm) s = .next t ∧ FSet e rd (fOfInt m 30 a) 1 s t) ∧
      (∃ t, exec (.ceFcvtIf e rd rs1 rs2 rm) s = .next t ∧ FSet e rd (fToInt m 0 false a) 1 s t) ∧
      (∃ t, exec (.ceFcvtFi e rd rs1 rs2 rm) s = .next t ∧ FSet e rd (fOfInt m 0 a) 1 s t) ∧
      (∃ t, exec (.ceFclass e rd rs1 rs2 rm) s = .next t ∧ FSet e rd (fExact (fClassMask a)) 1 s t) ∧
      (∃ t, exec (.ceFneg e rd rs1 rs2 rm) s = .next t ∧ FSet e rd (fExact (a ^^^ 0x8000000000#40)) 1 s t) ∧
      (∃ t, exec (.ceFabs e rd rs1 rs2 rm) s = .next t ∧ FSet e rd (fExact (a &&& 0x7FFFFFFFFF#40)) 1 s t)) ∧
    (4 < rm.toNat →
      (∃ t, exec (.ceFadd e rd rs1 rs2 rm) s = .next t ∧ IllegalTaken e s t) ∧
      (∃ t, exec (.ceFsub e rd rs1 rs2 rm) s = .next t ∧ IllegalTaken e s t) ∧
      (∃ t, exec (.ceFmul e rd rs1 rs2 rm) s = .next t ∧ IllegalTaken e s t) ∧
      (∃ t, exec (.ceFdiv e rd rs1 rs2 rm) s = .next t ∧ IllegalTaken e s t) ∧
      (∃ t, exec (.ceFsqrt e rd rs1 rs2 rm) s = .next t ∧ IllegalTaken e s t) ∧
      (∃ t, exec (.ceFma e rd rs1 rs2 rm) s = .next t ∧ IllegalTaken e s t) ∧
      (∃ t, exec (.ceFmin e rd rs1 rs2 rm) s = .next t ∧ IllegalTaken e s t) ∧
      (∃ t, exec (.ceFmax e rd rs1 rs2 rm) s = .next t ∧ IllegalTaken e s t) ∧
      (∃ t, exec (.ceFeq e rd rs1 rs2 rm) s = .next t ∧ IllegalTaken e s t) ∧
      (∃ t, exec (.ceFlt e rd rs1 rs2 rm) s = .next t ∧ IllegalTaken e s t) ∧
      (∃ t, exec (.ceFle e rd rs1 rs2 rm) s = .next t ∧ IllegalTaken e s t) ∧
      (∃ t, exec (.ceFcvtQf e rd rs1 rs2 rm) s = .next t ∧ IllegalTaken e s t) ∧
      (∃ t, exec (.ceFcvtFq e rd rs1 rs2 rm) s = .next t ∧ IllegalTaken e s t) ∧
      (∃ t, exec (.ceFcvtIf e rd rs1 rs2 rm) s = .next t ∧ IllegalTaken e s t) ∧
      (∃ t, exec (.ceFcvtFi e rd rs1 rs2 rm) s = .next t ∧ IllegalTaken e s t) ∧
      (∃ t, exec (.ceFclass e rd rs1 rs2 rm) s = .next t ∧ IllegalTaken e s t) ∧
      (∃ t, exec (.ceFneg e rd rs1 rs2 rm) s = .next t ∧ IllegalTaken e s t) ∧
      (∃ t, exec (.ceFabs e rd rs1 rs2 rm) s = .next t ∧ IllegalTaken e s t))

/-- Jumps and CSRs (R189, R203), RESUME and ABANDON (R211), DONE (R197), TRAP (R215). -/
def Obligations.EngineControlInstructions : Prop :=
  ∀ (s : State) (e : Fin 32) (rd rs1 rs2 : BitVec 4) (imm : BitVec 18) (off : BitVec 15) (off22 : BitVec 22) (cond : BitVec 3), s.executing e = true →
    let g := s.eng e
    let a := g.getX rs1
    let b := g.getX rs2
    let holds := match cond.toNat with
      | 0 => decide (a = b) | 1 => decide (a ≠ b) | 2 => decide (a.toInt < b.toInt) | 3 => decide (b.toInt ≤ a.toInt)
      | 4 => decide (a.toNat < b.toNat) | _ => decide (b.toNat ≤ a.toNat)
    let n := imm.toNat % 4096
    let inside := fun x : Int => decide (0 ≤ x ∧ x < 16384)
    (cond.toNat < 6 → holds = true → inside (g.pc + off.toInt) = true → ∃ t, exec (.ceBr e rs1 rs2 cond off) s = .next t ∧
      (t.eng e) = { g with pc := (g.pc + off.toInt).toNat, cycle := min (g.cycle + 2) (2 ^ 20 - 1) } ∧ OnlyEng e s t) ∧
    (cond.toNat < 6 → holds = true → inside (g.pc + off.toInt) = false →
      ∃ t, exec (.ceBr e rs1 rs2 cond off) s = .next t ∧ AccessFaultTaken e 1 s t) ∧
    (cond.toNat < 6 → holds = false → ∃ t, exec (.ceBr e rs1 rs2 cond off) s = .next t ∧
      (t.eng e) = { g with pc := (g.pc + 1) % 16384, cycle := min (g.cycle + 1) (2 ^ 20 - 1) } ∧ OnlyEng e s t) ∧
    (6 ≤ cond.toNat → ∃ t, exec (.ceBr e rs1 rs2 cond off) s = .next t ∧ IllegalTaken e s t) ∧
    (inside (g.pc + off22.toInt) = true → ∃ t, exec (.ceJal e rd off22) s = .next t ∧ XHolds e rd (BitVec.ofNat 40 (g.pc + 1)) s t ∧
      (t.eng e).pc = (g.pc + off22.toInt).toNat ∧ (t.eng e).cycle = min (g.cycle + 2) (2 ^ 20 - 1) ∧ OnlyEng e s t) ∧
    (inside (g.pc + off22.toInt) = false → ∃ t, exec (.ceJal e rd off22) s = .next t ∧ AccessFaultTaken e 1 s t) ∧
    (inside (a.toInt + imm.toInt) = true → ∃ t, exec (.ceJalr e rd rs1 imm) s = .next t ∧ XHolds e rd (BitVec.ofNat 40 (g.pc + 1)) s t ∧
      (t.eng e).pc = (a.toInt + imm.toInt).toNat ∧ (t.eng e).cycle = min (g.cycle + 2) (2 ^ 20 - 1) ∧ OnlyEng e s t) ∧
    (inside (a.toInt + imm.toInt) = false → ∃ t, exec (.ceJalr e rd rs1 imm) s = .next t ∧ AccessFaultTaken e 1 s t) ∧
    (∀ v : W40, g.csr n = some v → rs1 = 0 → ∃ t, exec (.ceCsrr e rd rs1 imm) s = .next t ∧ XSet e rd v 1 s t) ∧
    (8 ≤ n ∨ rs1 ≠ 0 → ∃ t, exec (.ceCsrr e rd rs1 imm) s = .next t ∧ IllegalTaken e s t) ∧
    (8 ≤ n ∨ rd ≠ 0 → ∃ t, exec (.ceCsrw e rd rs1 imm) s = .next t ∧ IllegalTaken e s t) ∧
    (n = 0 → ∃ t, exec (.ceCsrw e 0 rs1 imm) s = .next t ∧ Advanced e 1 s t ∧ (t.eng e).sat = a.getLsbD 0 ∧ (t.eng e).vr = a.getLsbD 1 ∧
      (t.eng e).abnd = a.getLsbD 2 ∧ (t.eng e).rfail = a.getLsbD 3 ∧
      (t.eng e).frm = (if a.toNat / 32 % 8 < 4 then a.toNat / 32 % 8 else g.frm) ∧ (t.eng e).x = g.x ∧ (t.eng e).xh = g.xh ∧
      (t.eng e).fflags = g.fflags ∧ OnlyEng e s t) ∧
    (n = 1 → ∃ t, exec (.ceCsrw e 0 rs1 imm) s = .next t ∧ Advanced e 1 s t ∧
      (t.eng e) = { g with pc := (t.eng e).pc, cycle := (t.eng e).cycle, fflags := a.setWidth 5 } ∧ OnlyEng e s t) ∧
    (2 ≤ n → n ≤ 6 → ∃ t, exec (.ceCsrw e 0 rs1 imm) s = .next t ∧ Advanced e 1 s t ∧
      (t.eng e) = { g with pc := (t.eng e).pc, cycle := (t.eng e).cycle } ∧ OnlyEng e s t) ∧
    (n = 7 → g.stagedN < 64 → ∃ t, exec (.ceCsrw e 0 rs1 imm) s = .next t ∧ Advanced e 1 s t ∧
      (t.eng e) = { g with pc := (t.eng e).pc, cycle := (t.eng e).cycle, staged := g.staged ++ [a.setWidth 32], stagedN := g.stagedN + 1 } ∧
      OnlyEng e s t) ∧
    (n = 7 → 64 ≤ g.stagedN → ∃ t, exec (.ceCsrw e 0 rs1 imm) s = .next t ∧ Advanced e 1 s t ∧ t.rd (Fld.IRQ_EQ_STAT_OVR e) = 1 ∧
      (t.eng e) = { g with pc := (t.eng e).pc, cycle := (t.eng e).cycle }) ∧
    (g.hnd = true → g.c0Idle = false → ∃ t, exec (.ceResume e 0 0 0) s = .next t ∧
      (t.eng e) = { g with
        hnd := false, pc := g.epc, resumed := g.intLong && g.prog.isSome, rfail := g.rfail || (g.intLong && g.prog.isNone), cycle := min (g.cycle + 2) (2 ^ 20 - 1) } ∧
      MapBut Engine.reset [e.val] s.engines t.engines ∧
      RegsBut [Fld.CE_STAT_PROG_VALID e, Fld.CE_STAT_IN_HANDLER e, Fld.CE_STAT_RUNNING e] s t ∧ t = { s with regs := t.regs, engines := t.engines }) ∧
    (g.hnd = true → g.c0Idle = false → ∃ t, exec (.ceAbandon e 0 0 0) s = .next t ∧
      (t.eng e) = { g with
        hnd := false, abnd := true, prog := none, resumed := false, pc := (if g.intLong then (g.epc + 1) % 16384 else g.epc), cycle := min (g.cycle + 2) (2 ^ 20 - 1) } ∧
      MapBut Engine.reset [e.val] s.engines t.engines ∧ t = { s with regs := t.regs, engines := t.engines }) ∧
    (g.hnd = true → g.c0Idle = true → g.waitC = false → g.staged = [] → ∃ t, exec (.ceResume e 0 0 0) s = .next t ∧
      (t.eng e) = { g with hnd := false, prog := none, resumed := false, cycle := min (g.cycle + 2) (2 ^ 20 - 1) } ∧
      t = { s with regs := t.regs, engines := t.engines }) ∧
    (g.hnd = false ∨ rd ≠ 0 ∨ rs1 ≠ 0 ∨ rs2 ≠ 0 →
      (∃ t, exec (.ceResume e rd rs1 rs2) s = .next t ∧ IllegalTaken e s t) ∧
      (∃ t, exec (.ceAbandon e rd rs1 rs2) s = .next t ∧ IllegalTaken e s t)) ∧
    (∀ tick : BitVec 17, g.hnd = false → tick.toNat < s.timeline.a - s.timeline.c → ∃ t, exec (.ceDone e 0 0 0 tick) s = .next t ∧
      (∀ i : Fin 4096, FMap.get 0 (t.eng e).committed i.val = (t.eng e).mem (0x1400 + i.val)) ∧ (t.eng e).held = false ∧ (t.eng e).ended = true ∧
      (t.eng e).running = false ∧ (t.eng e).cycle = min (g.cycle + 8) (2 ^ 20 - 1) ∧ t.rd (Fld.CE_RUN_RUN e) = 0 ∧
      t.rd (Fld.CE_DLSTAT_LAST_END e) = tick.toNat ∧ ((∀ k, g.container = some k → k.standard = false) → (t.eng e).dmem = g.dmem) ∧ t.cells = s.cells ∧ t.spokes = s.spokes) ∧
    (∀ tick : BitVec 17, g.hnd = false → g.ended = false → s.timeline.a - s.timeline.c ≤ tick.toNat → ∃ t, exec (.ceDone e 0 0 0 tick) s = .next t ∧
      (t.eng e).committed = g.committed ∧ (t.eng e).held = true ∧ (t.eng e).ended = true ∧ t.rd (Fld.CE_EVT_OVERRUN e) = 1 ∧
      t.rd (Fld.CE_CNT_OVR_CNT e) = min (s.rd (Fld.CE_CNT_OVR_CNT e) + 1) (2 ^ (Fld.CE_CNT_OVR_CNT e).width - 1) ∧
      t.rd (Fld.CE_DLSTAT_LAST_END e) = 0x1FFFF) ∧
    (∀ tick : BitVec 17, g.hnd = true ∨ rd ≠ 0 ∨ rs1 ≠ 0 ∨ rs2 ≠ 0 → ∃ t, exec (.ceDone e rd rs1 rs2 tick) s = .next t ∧ IllegalTaken e s t) ∧
    (s.mayDebug (32 + e.val) = false ∨ rd ≠ 0 ∨ rs1 ≠ 0 ∨ rs2 ≠ 0 → ∃ t, exec (.ceTrap e rd rs1 rs2) s = .next t ∧ IllegalTaken e s t) ∧
    (s.mayDebug (32 + e.val) = true → (32 + e.val) ∉ s.halted → ∃ t, exec (.ceTrap e 0 0 0) s = .next t ∧ (32 + e.val) ∈ t.halted ∧ s.engState e ≠ 6 ∧ t.engState e = 6 ∧
      (t.eng e).pc = (g.pc + 1) % 16384 ∧ (t.eng e).x = g.x ∧ (t.eng e).dmem = g.dmem)

/-- ORDSTAT, ORDSTAT.M, ORDSTATM and ORDSTATM.M (R206, R207), not interrupted and not resuming. -/
def Obligations.EngineOrderStatistics : Prop :=
  ∀ (s : State) (e : Fin 32) (rd rs1 rs2 rk rp : BitVec 4), s.executing e = true → (s.eng e).hnd = false → (s.eng e).resumed = false →
    let a := ((s.eng e).getX rs1).toNat
    let n := ((s.eng e).getX rs2).toNat
    (1 ≤ n → n ≤ 768 → a + n ≤ 0x8000 →
    (∀ j : BitVec 2, j = 0 → ∃ t, exec (.ceOrdstat e rd rs1 rs2 rk 0 j none) s = .next t ∧
      (let ks := rawKeys (elements s e a n)
       (∀ i : Fin 4, i.val ≤ j.toNat → RankIn e (rd + BitVec.ofNat 4 i.val) ks ((s.eng e).getX (rk + BitVec.ofNat 4 i.val)).toNat t) ∧
       VidxIs e ks ((s.eng e).getX rk).toNat t) ∧ LongDone e rd j.toNat (16 + (n + 1) / 2 + 8 * j.toNat) s t) ∧
    (∀ j : BitVec 2, j = 0 → ((s.eng e).getX rp).toNat / 4 % 16 ≤ 8 → ∃ t, exec (.ceOrdstatM e rd rs1 rs2 rk rp j none) s = .next t ∧
      (let ks := memberKeys ((s.eng e).getX rp) (elements s e a n)
       (∀ i : Fin 4, i.val ≤ j.toNat → RankIn e (rd + BitVec.ofNat 4 i.val) ks ((s.eng e).getX (rk + BitVec.ofNat 4 i.val)).toNat t) ∧
       VidxIs e ks ((s.eng e).getX rk).toNat t) ∧ LongDone e rd j.toNat (16 + (n + 1) / 2 + 8 * j.toNat) s t) ∧
    (∀ j : BitVec 2, rd.toNat + j.toNat < 16 → rk.toNat + j.toNat < 16 → ∃ t, exec (.ceOrdstatm e rd rs1 rs2 rk 0 j none) s = .next t ∧
      (let ks := rawKeys (elements s e a n)
       (∀ i : Fin 4, i.val ≤ j.toNat → RankIn e (rd + BitVec.ofNat 4 i.val) ks ((s.eng e).getX (rk + BitVec.ofNat 4 i.val)).toNat t) ∧
       VidxIs e ks ((s.eng e).getX rk).toNat t) ∧ LongDone e rd j.toNat (16 + (n + 1) / 2 + 8 * j.toNat) s t) ∧
    (∀ j : BitVec 2, rd.toNat + j.toNat < 16 → rk.toNat + j.toNat < 16 → ((s.eng e).getX rp).toNat / 4 % 16 ≤ 8 → ∃ t, exec (.ceOrdstatmM e rd rs1 rs2 rk rp j none) s = .next t ∧
      (let ks := memberKeys ((s.eng e).getX rp) (elements s e a n)
       (∀ i : Fin 4, i.val ≤ j.toNat → RankIn e (rd + BitVec.ofNat 4 i.val) ks ((s.eng e).getX (rk + BitVec.ofNat 4 i.val)).toNat t) ∧
       VidxIs e ks ((s.eng e).getX rk).toNat t) ∧ LongDone e rd j.toNat (16 + (n + 1) / 2 + 8 * j.toNat) s t)) ∧
    (n = 0 ∨ 768 < n →
      (∃ t, exec (.ceOrdstat e rd rs1 rs2 rk 0 0 none) s = .next t ∧ (t.eng e).vr = true ∧ (t.eng e).x = (s.eng e).x ∧ Advanced e 2 s t) ∧
      (∃ t, exec (.ceOrdstatM e rd rs1 rs2 rk rp 0 none) s = .next t ∧ (t.eng e).vr = true ∧ (t.eng e).x = (s.eng e).x ∧ Advanced e 2 s t)) ∧
    (1 ≤ n → n ≤ 768 → 0x8000 < a + n → ∃ t, exec (.ceOrdstat e rd rs1 rs2 rk 0 0 none) s = .next t ∧ AccessFaultTaken e 2 s t) ∧
    (∀ j : BitVec 2, rp ≠ 0 ∨ j ≠ 0 → ∃ t, exec (.ceOrdstat e rd rs1 rs2 rk rp j none) s = .next t ∧ IllegalTaken e s t) ∧
    (∀ j : BitVec 2, 16 ≤ rd.toNat + j.toNat → ∃ t, exec (.ceOrdstatmM e rd rs1 rs2 rk rp j none) s = .next t ∧ IllegalTaken e s t)

/-- HIST and VDOT (R206, R234), suspension (R208, R209) and handler entry (R208, R210). -/
def Obligations.EngineHistVdotHandler : Prop :=
  ∀ (s : State) (e : Fin 32) (rd rs1 rs2 rk rp : BitVec 4),
    let g := s.eng e
    let a := (g.getX rs1).toNat
    let n := (g.getX rs2).toNat
    let d := (g.getX rd).toNat
    let q := (g.getX rp).toNat
    (s.executing e = true → g.hnd = false → g.resumed = false → s.engState e = 2 → 1 ≤ n → n ≤ 768 → a + n ≤ 0x8000 →
      (d + 64 ≤ 0x8000 → (a + n ≤ d ∨ d + 64 ≤ a) → ∃ t, exec (.ceHist e rd rs1 rs2 0 rp 0 none) s = .next t ∧
        (∀ b : Fin 64, (t.eng e).mem (d + b.val) = BitVec.ofNat 40 ((elements s e a n).filter (fun w => histBin (g.getX rp) w == b.val)).length) ∧
        MapBut 0 ((List.range 64).map (fun i => d + i)) g.dmem (t.eng e).dmem ∧ Advanced e (72 + (n + 1) / 2) s t ∧
        (t.eng e).x = g.x ∧ (t.eng e).acc = g.acc ∧ (t.eng e).fflags = g.fflags ∧ MapBut Engine.reset [e.val] s.engines t.engines) ∧
      (rd.toNat < 4 → q + n ≤ 0x8000 → ∃ t, exec (.ceVdot e rd rs1 rs2 0 rp 0 none) s = .next t ∧
        (let r := ((elements s e a n).zip (elements s e q n)).foldl (fun (x : W40 × Bool) p =>
            let y := satQ (x.1.toInt + q15 p.1 * q15 p.2)
            (y.1, x.2 || y.2)) (g.getAcc rd.toNat, false)
         (t.eng e).getAcc rd.toNat = r.1 ∧ (t.eng e).sat = (g.sat || r.2)) ∧
        MapBut 0 [rd.toNat] g.acc (t.eng e).acc ∧ Advanced e (4 + n) s t ∧ (t.eng e).x = g.x ∧ (t.eng e).dmem = g.dmem ∧
        (t.eng e).fflags = g.fflags ∧ MapBut Engine.reset [e.val] s.engines t.engines) ∧
      (∀ u : Nat, 0 < u → u < 16 + (n + 1) / 2 → s.canEnter e = true → g.c0In ≠ [] →
        ∃ t, exec (.ceOrdstat e rd rs1 rs2 rk 0 0 (some u)) s = .next t ∧ ((t.eng e).prog.map (·.units)) = some u ∧
          ((t.eng e).prog.map (·.kind)) = some .ordstat ∧ (t.eng e).pc = g.pc ∧ (t.eng e).x = g.x ∧ (t.eng e).vidx = g.vidx ∧
          (t.eng e).cycle = min (g.cycle + u) (2 ^ 20 - 1) ∧ t.rd (Fld.CE_STAT_PROG_VALID e) = 1)) ∧
    (∀ x, g.c0In.head? = some x → ∀ entry, g.c0Entry = some entry →
      (s.canEnter e = true → ∃ t, exec (.c0HandlerEntry e) s = .next t ∧ (t.eng e).pc = entry ∧ (t.eng e).epc = g.pc ∧ (t.eng e).hnd = true ∧
        (t.eng e).xh = [] ∧ (t.eng e).x = g.x ∧ (t.eng e).c0Conv = g.coalesced ||| x.1 ∧ (t.eng e).c0Reason = x.2 ∧
        (t.eng e).c0Idle = !g.running ∧ (t.eng e).entries = g.entries + 1 ∧ (t.eng e).c0In = g.c0In.tail ∧
        (t.eng e).cycle = min (g.cycle + 2) (2 ^ 20 - 1) ∧ t.rd (Fld.CE_STAT_IN_HANDLER e) = 1 ∧
        MapBut Engine.reset [e.val] s.engines t.engines ∧ t = { s with regs := t.regs, engines := t.engines }) ∧
      (s.canEnter e = false → ∃ t, exec (.c0HandlerEntry e) s = .next t ∧ (t.eng e).pc = g.pc ∧ (t.eng e).hnd = g.hnd ∧
        (t.eng e).c0Conv = g.c0Conv ||| x.1 ∧ (t.eng e).c0Reason = x.2 ∧ (t.eng e).c0Pend = min (g.c0Pend + 1) 15 ∧ (t.eng e).c0In = g.c0In.tail ∧
        (s.windowed e = true → (t.eng e).coalesced = g.coalesced ||| x.1 ∧ (t.eng e).nCoalesced = g.nCoalesced + 1) ∧
        (s.windowed e = false → (t.eng e).coalesced = g.coalesced ∧ (t.eng e).nCoalesced = g.nCoalesced) ∧
        t.rd (Fld.CE_EVT_C0_COALESCED e) = 1 ∧ MapBut Engine.reset [e.val] s.engines t.engines ∧
        t = { s with regs := t.regs, hist := t.hist, log := t.log, engines := t.engines })) ∧
    (s.executing e = false →
      exec (.ceHist e rd rs1 rs2 rk rp 0 none) s = .next s ∧ exec (.ceVdot e rd rs1 rs2 rk rp 0 none) s = .next s ∧
      exec (.ceOrdstat e rd rs1 rs2 rk rp 0 none) s = .next s)

/-- RETURN_BURST_RECEIVE (R92 to R96, R131, R138, R147), for a module that is no standby (log 85 says what a standby does): `r` is what the
decoder of the line reads from the bits. -/
def Obligations.ReturnBurstChecks : Prop :=
  ∀ (s : State) (spoke : Fin 128) (slot : Fin 96) (off : Int) (bits : List Bool),
    let n := spoke.val
    let c := cellId n slot.val
    let g := s.rd (Fld.SPK_STAT_GEAR n)
    let x := s.cell c
    let waits := x.lstate.admitted? = true ∧ x.lstate ≠ .muted ∧ x.outcome = .awaited
    let out := decide (inPlaceUi g < off.natAbs)
    (¬ Hears n s → exec (.returnBurstReceive spoke slot off bits) s = .next s) ∧
    (Hears n s → s.standby = false → s.rd Fld.HKP_PERT_CTL_ON = 0 →
      (hearReturn g false bits = none ∨ searchUi g < off.natAbs →
        (waits → ∃ t, exec (.returnBurstReceive spoke slot off bits) s = .next t ∧ NoLockCounted n c s t) ∧
        (¬ waits → exec (.returnBurstReceive spoke slot off bits) s = .next s)) ∧
      (off.natAbs ≤ searchUi g → ∀ r, hearReturn g false bits = some r →
        let epochOk := decide (r.epochLo.toNat = s.rd Fld.VLY_NOW2_EPOCH % 16)
        let stale := decide (r.sid.toNat ≠ s.rd Fld.VLY_NOW2_SID_NOW) || !r.svalid
        (r.crcOk = false → ∃ t, exec (.returnBurstReceive spoke slot off bits) s = .next t ∧
          t.rd (Fld.SPK_CNT_CRC_CNT n) = min (s.rd (Fld.SPK_CNT_CRC_CNT n) + 1) (2 ^ 32 - 1) ∧
          t.rd (Fld.SPK_CNT_LOCK_CNT n) = (s.rd (Fld.SPK_CNT_LOCK_CNT n) + 1) % 2 ^ 32 ∧ (t.spoke n).lost = false ∧
          (x.lstate ≠ .free → t.cell c = { x with outcome := .crcFail }) ∧ MapBut Cell.reset [c] s.cells t.cells ∧
          RegsBut ([Fld.SPK_CNT_CRC_CNT n, Fld.SPK_CNT_LOCK_CNT n, Fld.TND_CAUSE_LIVE, Fld.TND_EVT_HELD_NO_TWIN] ++ loggedFields) s t ∧
          t = { s with regs := t.regs, hist := t.hist, log := t.log, cells := t.cells, spokes := t.spokes, tnd := t.tnd }) ∧
        (r.crcOk = true → epochOk = true → r.slot ≠ slot.val → ∃ t, exec (.returnBurstReceive spoke slot off bits) s = .next t ∧
          t.rd Fld.VLY_CNT_MISPLACED_CNT = min (s.rd Fld.VLY_CNT_MISPLACED_CNT + 1) (2 ^ 32 - 1) ∧
          (x.lstate ≠ .free → (t.cell c).outcome = .displaced ∧ (t.cell c).sid = x.sid ∧ (t.cell c).vkey = x.vkey) ∧
          (r.slot < 96 → (s.cell (cellId n r.slot)).lstate ≠ .free → (t.cell (cellId n r.slot)).outcome = .misplaced ∧
            (t.cell (cellId n r.slot)).sampleOk = false ∧ (t.cell (cellId n r.slot)).fault = (s.cell (cellId n r.slot)).fault ||| r.fault ∧
            (t.cell (cellId n r.slot)).vkey = (s.cell (cellId n r.slot)).vkey) ∧
          t.image = s.image) ∧
        (r.crcOk = true → epochOk = false → x.lstate ≠ .free → ∃ t, exec (.returnBurstReceive spoke slot off bits) s = .next t ∧
          t.rd Fld.VLY_CNT_EPOCH_CNT = min (s.rd Fld.VLY_CNT_EPOCH_CNT + 1) (2 ^ 32 - 1) ∧ t.rd Fld.VLY_EVT_EPOCH_MISMATCH = 1 ∧
          (t.cell c).fault = x.fault ||| r.fault ∧ (t.cell c).outcome = .epoch ∧ (t.cell c).missRun = x.missRun ∧ (t.cell c).sid = x.sid ∧ (t.cell c).vkey = x.vkey ∧
          (t.cell c).sok = x.sok ∧ t.image = s.image ∧ t.spokeState n = s.spokeState n) ∧
        (r.crcOk = true → epochOk = true → r.slot = slot.val → x.lstate = .free → ∃ t, exec (.returnBurstReceive spoke slot off bits) s = .next t ∧
          t.rd Fld.VLY_CNT_STALE_CNT = (if stale then min (s.rd Fld.VLY_CNT_STALE_CNT + 1) (2 ^ 32 - 1) else s.rd Fld.VLY_CNT_STALE_CNT) ∧
          t.cells = s.cells ∧ t.image = s.image) ∧
        (r.crcOk = true → epochOk = true → r.slot = slot.val → x.lstate.admitted? = true →
          ∃ t, exec (.returnBurstReceive spoke slot off bits) s = .next t ∧
            (t.cell c).outcome = (if stale then .stale else if out then .outOfPlace else .inPlace) ∧ (t.cell c).cstate = r.cstate ∧
            (t.cell c).sok = r.sok ∧ (t.cell c).blk = r.blk ∧ (t.cell c).fault = x.fault ||| r.fault ∧
            (t.cell c).sid = (if stale then x.sid else r.sid) ∧ (t.cell c).vkey = (if stale then x.vkey else r.vkey) ∧
            (t.cell c).sampleOk = (!stale && !(t.cell c).dropped) ∧
            t.rd Fld.VLY_CNT_STALE_CNT = (if stale then min (s.rd Fld.VLY_CNT_STALE_CNT + 1) (2 ^ 32 - 1) else s.rd Fld.VLY_CNT_STALE_CNT) ∧
            t.rd (Fld.SPK_CNT_PLACE_CNT n) = (if out then min (s.rd (Fld.SPK_CNT_PLACE_CNT n) + 1) (2 ^ 32 - 1) else s.rd (Fld.SPK_CNT_PLACE_CNT n)) ∧
            (r.pstat = 0 → FMap.get ImagePoint.reset t.image (imageKey c r.point.val) = ⟨r.value, true, s.volley.setWidth 16⟩) ∧
            (∀ d : Nat, d ≠ c → (t.cell d).sid = (s.cell d).sid ∧ (t.cell d).vkey = (s.cell d).vkey ∧ (t.cell d).outcome = (s.cell d).outcome)) ∧
        (r.crcOk = true → epochOk = true → r.slot = slot.val → x.lstate = .assigned →
          ∃ t, exec (.returnBurstReceive spoke slot off bits) s = .next t ∧
            (out = true → (t.cell c).lstate = .assigned) ∧
            (out = false → (t.cell c).lstate.admitted? = true ∧ (x.last16 = [] → r.fw = false → (t.cell c).lstate = .admitted)))))

/-- SLOT_NO_LOCK (R96), RETURN_WINDOW_CLOSE (R28, R147), WRITE_TIMEOUT (R139 to R141), FRESH_READ_TIMEOUT (R367), CELL_LOST (R149),
CELL_AUTO_RESUME (R143), ADMISSION_TIMEOUT (R135), BUDGET_WINDOW_END (R173). -/
def Obligations.ReturnTimeouts : Prop :=
  ∀ (s : State) (spoke : Fin 128) (slot : Fin 96),
    let n := spoke.val
    let c := cellId n slot.val
    let x := s.cell c
    (Hears n s → x.lstate.admitted? = true → x.lstate ≠ .muted → x.outcome = .awaited → ∃ t, exec (.slotNoLock spoke slot) s = .next t ∧
      NoLockCounted n c s t) ∧
    (¬ Hears n s ∨ x.outcome ≠ .awaited → exec (.slotNoLock spoke slot) s = .next s) ∧
    (WindowRuns s → let late := (s.qos.waiting.filterMap (fun g => g.1.sample)).map (·.val)
      ∃ t, exec .returnWindowClose s = .next t ∧ (t.seqr).windowOpen = false ∧
      t.seqr.sidRef = BitVec.ofNat 8 (s.rd Fld.VLY_NOW2_SID_NOW) ∧ t.c0.cellLive = s.c0.cellNow ∧ t.c0.cellNow = 0 ∧
      (x.outcome.missing = true ∨ c ∈ late → x.lstate.admitted? = true → x.lstate ≠ .muted →
        (t.cell c).missRun = x.missRun + 1 ∧ (t.cell c).miss = min (x.miss + 1) 65535 ∧ (t.cell c).sampleOk = false ∧ (t.cell c).inPlaceRun = 0) ∧
      (x.outcome.missing = false → c ∉ late → (t.cell c).missRun = x.missRun ∧ (t.cell c).sampleOk = x.sampleOk) ∧
      (t.cell c).answerTo = (if x.lstate = .muted ∨ x.lstate = .free then x.answerTo else none) ∧ (t.cell c).sample = none ∧ t.arms = s.arms ∧ t.image = s.image) ∧
    (¬ WindowRuns s → exec .returnWindowClose s = .next s) ∧
    (∀ o, x.out = some o → ∀ v, o.first = some v →
      (s.rd Fld.VLY_CFG_WR_TMO ≤ (s.volley - v).toNat → ∃ t, exec (.writeTimeout spoke slot) s = .next t ∧ t.rd Fld.VLY_EVT_WR_FAIL = 1 ∧
        (x.queue = [] → x.bindDue = none → o.w.own = false → (t.cell c).out = none) ∧ t.image = s.image ∧ t.spokeState n = s.spokeState n) ∧
      ((s.volley - v).toNat < s.rd Fld.VLY_CFG_WR_TMO → exec (.writeTimeout spoke slot) s = .next s)) ∧
    (x.out = none → exec (.writeTimeout spoke slot) s = .next s) ∧
    (∀ (fn : Fin 256) (index : BitVec 16), s.waitsFresh fn index.toNat = none → exec (.freshReadTimeout fn index) s = .next s) ∧
    (∀ (fn : Fin 256) (index : BitVec 16), ∀ d, s.waitsFresh fn index.toNat = some d → ∀ cc, freshCell d = some cc →
      (∀ r, (s.cell cc).fresh.find? (fun r => r.fn == fn.val && r.serial == d.serial) = some r → r.sent = true →
        s.rd Fld.VLY_CFG_WR_TMO ≤ (s.volley - r.since).toNat → ∃ t, exec (.freshReadTimeout fn index) s = .next t ∧
          (t.cell cc).fresh = (s.cell cc).fresh.filter (fun y => y != r) ∧ MapBut Cell.reset [cc] s.cells t.cells ∧
          t.hostMem.data = s.hostMem.data ++ [{ fn := fn, addr := freshDst d, size := 8, words := [s.imageWord cc r.point] }])) ∧
    (s.rd Fld.VLY_CFG_MISS_LIMIT ≤ x.missRun → x.lstate.admitted? = true → x.lstate ≠ .muted → x.lstate ≠ .lost →
      ∃ t, exec (.cellLost spoke slot) s = .next t ∧ (t.cell c).lstate = .lost ∧ t.rd Fld.VLY_EVT_LOST = 1 ∧ (t.cell c).queue = [] ∧
        (x.bindDue = none → (∀ o, x.out = some o → o.w.own = false) → (t.cell c).out = none) ∧
        MapBut Cell.reset [c] s.cells t.cells ∧ t.image = s.image ∧ MapBut Spoke.reset [n] s.spokes t.spokes) ∧
    (x.missRun < s.rd Fld.VLY_CFG_MISS_LIMIT → exec (.cellLost spoke slot) s = .next s) ∧
    (s.flag Fld.VLY_CFG_AUTO_RESUME = true → x.lstate = .lol → 16 ≤ x.inPlaceRun → ∃ t, exec (.cellAutoResume spoke slot) s = .next t ∧
      (t.spoke n).items = (s.spoke n).items ++ [.mgmt (.resume slot.val)] ∧ t.cell c = { x with inPlaceRun := 0 } ∧
      MapBut Cell.reset [c] s.cells t.cells ∧ MapBut Spoke.reset [n] s.spokes t.spokes ∧ t = { s with cells := t.cells, spokes := t.spokes }) ∧
    (s.flag Fld.VLY_CFG_AUTO_RESUME = false ∨ x.lstate ≠ .lol ∨ x.inPlaceRun < 16 → exec (.cellAutoResume spoke slot) s = .next s) ∧
    (x.lstate = .assigned → x.assignAge.any (fun v => decide (8 < v) || (v == 8 && !s.seqr.windowOpen)) = true → ∃ t, exec (.admissionTimeout spoke slot) s = .next t ∧ (t.cell c).lstate = .free ∧ t.cell c = Cell.reset ∧
      (.mgmt (.release slot.val)) ∈ (t.spoke n).items ∧ MapBut Cell.reset [c] s.cells t.cells ∧ MapBut Spoke.reset [n] s.spokes t.spokes ∧ t.image = s.image) ∧
    (x.lstate ≠ .assigned ∨ x.assignAge = none ∨ x.assignAge.any (fun v => decide (v < 8) || (v == 8 && s.seqr.windowOpen)) = true → exec (.admissionTimeout spoke slot) s = .next s) ∧
    (∀ arm : Fin 48, s.rd Fld.VLY_NOW_VOLLEY % 2 ^ s.inForce (Fld.VLY_ARMBUD_WIN_LOG2 arm) = 0 → ∃ t, exec (.budgetWindowEnd arm) s = .next t ∧
      (x.member.map (·.1) = some arm.val → t.cell c = { x with budCount := 0, budHeld := false }) ∧
      (x.member.map (·.1) ≠ some arm.val → t.cell c = x) ∧ t = { s with cells := t.cells }) ∧
    (∀ arm : Fin 48, s.rd Fld.VLY_NOW_VOLLEY % 2 ^ s.inForce (Fld.VLY_ARMBUD_WIN_LOG2 arm) ≠ 0 → exec (.budgetWindowEnd arm) s = .next s)

/-- DISCOVERY_OFFER (R133), DISCOVERY_BURST (R134, R135, R144), writes of VLY_BIND (R158) and VLY_ARMMAP (R159, R184). -/
def Obligations.DiscoveryAndBinding : Prop :=
  ∀ (s : State) (spoke : Fin 128) (slot : Fin 96) (u : Core),
    let n := spoke.val
    let k := slot.val
    (∀ doff : Nat, (s.spokeState n = .probing ∨ s.spokeState n = .serving) → (s.spoke n).offering = false → s.mayOffer n doff = true →
      ∃ t, exec (.discoveryOffer spoke doff) s = .next t ∧
        t.spoke n = { s.spoke n with
          discAge := 0, items := (s.spoke n).items ++ [.mgmt (.discOpen (s.rd Fld.VLY_DISC_R) doff)] } ∧
        MapBut Spoke.reset [n] s.spokes t.spokes ∧ t = { s with spokes := t.spokes }) ∧
    (∀ doff : Nat, (s.spokeState n ≠ .probing ∧ s.spokeState n ≠ .serving) ∨ (s.spoke n).offering = true ∨ s.mayOffer n doff = false →
      exec (.discoveryOffer spoke doff) s = .next s) ∧
    (∀ (tp : Int) (bits : List Bool), (s.spoke n).discOpen = none → exec (.discoveryBurst spoke tp bits) s = .next s) ∧
    (∀ (tp : Int) (bits : List Bool), ∀ q, (s.spoke n).discOpen = some q →
      let g := s.rd (Fld.SPK_STAT_GEAR n)
      let heard := tp ≤ (q.1 * 125 + 2 * s.dlim + q.2.1 * slotTime g : Nat) ∧ s.flag (Fld.SPK_STAT_RX_AWAKE n) = true ∧
        s.flag (Fld.SPK_STAT_FENCED n) = false ∧ (s.spoke n).inB = false
      (¬ heard → exec (.discoveryBurst spoke tp bits) s = .next s) ∧
      (heard → hearDiscovery g bits = none → ∃ t, exec (.discoveryBurst spoke tp bits) s = .next t ∧ t.rd Fld.VLY_EVT_DISC_COLL = 1 ∧
        OnlyLogged [Fld.VLY_EVT_DISC_COLL] s t) ∧
      (heard → ∀ d, hearDiscovery g bits = some d →
        let raw : Int := tp - (q.1 * 125 + d.r * slotTime g : Nat)
        let both := d.verMask.toNat &&& s.rd Fld.VLY_CFG_VER_ALLOW
        (d.crcOk = false ∨ d.slot = 0x7F ∧ (raw < -200 ∨ q.2.1 ≤ d.r) → ∃ t, exec (.discoveryBurst spoke tp bits) s = .next t ∧
          t.rd Fld.VLY_EVT_DISC_COLL = 1 ∧ OnlyLogged [Fld.VLY_EVT_DISC_COLL] s t) ∧
        (d.crcOk = true → d.slot ≠ 0x7F → exec (.discoveryBurst spoke tp bits) s = .next s) ∧
        (d.crcOk = true → d.slot = 0x7F → -200 ≤ raw → d.r < q.2.1 → (∀ p ∈ s.cells, p.2.uid ≠ d.uid ∨ p.2.lstate = .free) →
          (s.slotFor n d.uid = none → ∃ t, exec (.discoveryBurst spoke tp bits) s = .next t ∧ RefusedWith n d.uid 1 s t) ∧
          (∀ k', s.slotFor n d.uid = some k' →
            let u := s.asAdmitted (cellId n k') d (max raw 0)
            let fits := u.fits u.timeline = true ∧ (both % 8 = 1 → u.v1Fits n u.timeline = true)
            (¬ fits → ∃ t, exec (.discoveryBurst spoke tp bits) s = .next t ∧ RefusedWith n d.uid 2 s t) ∧
            (fits → 2 * (s.dlim : Int) < max raw 0 → ∃ t, exec (.discoveryBurst spoke tp bits) s = .next t ∧ RefusedWith n d.uid 3 s t) ∧
            (fits → max raw 0 ≤ 2 * (s.dlim : Int) → both % 8 = 0 → ∃ t, exec (.discoveryBurst spoke tp bits) s = .next t ∧ RefusedWith n d.uid 4 s t) ∧
            (fits → max raw 0 ≤ 2 * (s.dlim : Int) → both % 8 ≠ 0 → ∃ t, exec (.discoveryBurst spoke tp bits) s = .next t ∧
              (t.cell (cellId n k')).lstate = .assigned ∧ (t.cell (cellId n k')).uid = d.uid ∧ (t.cell (cellId n k')).delay2 = max raw 0 ∧
              (t.cell (cellId n k')).ver = (if bitOf both 2 then 3 else if bitOf both 1 then 2 else 1) ∧
              ((t.cell (cellId n k')).o, (t.cell (cellId n k')).e) = s.ranged n k' none g (max raw 0) ∧
              (∀ i : Nat, i ≠ cellId n k' → i / 128 ≠ n ∨ (s.cell i).tailPos = none → t.cell i = s.cell i) ∧
              MapBut Spoke.reset [n] s.spokes t.spokes ∧ t.image = s.image))))) ∧
    (mayWrite u 1 = true → ∀ (high : Bool) (v : Reg32), ∃ t, exec (.vlyBindWrite u spoke slot high v) s = .next t ∧
      ((high = true ∧ v.toNat < 2 ^ 31) ∨ (high = false ∧ s.rd (Fld.VLY_BIND_HI_VALID n k) = 0) →
        (high = true → t.rd (Fld.VLY_BIND_HI_UID_HI n k) = v.toNat % 65536 ∧ t.rd (Fld.VLY_BIND_HI_VALID n k) = 0 ∧
          OnlyRegs [Fld.VLY_BIND_HI_UID_HI n k, Fld.VLY_BIND_HI_VALID n k] s t) ∧
        (high = false → t.rd (Fld.VLY_BIND_LO_UID_LO n k) = v.toNat ∧ OnlyRegs [Fld.VLY_BIND_LO_UID_LO n k] s t)) ∧
      (t.rd Fld.VLY_STAT_INVALID_WR = 1 ∧ OnlyLogged [Fld.VLY_STAT_INVALID_WR] s t ∨
        OnlyRegs [Fld.VLY_BIND_HI_UID_HI n k, Fld.VLY_BIND_HI_VALID n k, Fld.VLY_BIND_LO_UID_LO n k] s t)) ∧
    (mayWrite u 1 = true → ∀ (a : BitVec 6) (fb valid : Bool),
      (48 ≤ a.toNat ∨ (valid = true ∧ s.mayBind (cellId n k) a.toNat = false) → ∃ t, exec (.vlyArmmapWrite u spoke slot a fb valid) s = .next t ∧
        t.rd Fld.VLY_STAT_INVALID_WR = 1 ∧ OnlyLogged [Fld.VLY_STAT_INVALID_WR] s t) ∧
      (a.toNat < 48 → (valid = true → s.mayBind (cellId n k) a.toNat = true) → ∃ t, exec (.vlyArmmapWrite u spoke slot a fb valid) s = .next t ∧
        t.rd (Fld.VLY_ARMMAP_ARM n k) = a.toNat ∧ t.flag (Fld.VLY_ARMMAP_FB n k) = fb ∧ t.flag (Fld.VLY_ARMMAP_VALID n k) = valid ∧
        (t.levelSources = [] → (s.cell (cellId n k)).lstate.admitted? = false ∨ s.mapArm (cellId n k) = (if valid then some a.toNat else none) →
          OnlyRegs [Fld.VLY_ARMMAP_ARM n k, Fld.VLY_ARMMAP_FB n k, Fld.VLY_ARMMAP_VALID n k] s t) ∧
        MapBut Cell.reset [cellId n k] s.cells t.cells ∧ t.image = s.image))

/-- SPOKE_ENABLE, SPOKE_DISABLE (R99, R102), SPOKE_PROBE_START, SPOKE_PROBE_END (R101), DISCOVERY_END (R102, R106), GEAR_STEP_AUTO,
SPK_RESTEP (R103), GEAR_CHANGE_VOLLEY (R104), GEAR_TRIAL_END, SPK_CLR_CAP (R105), SPK_CNT_CLR (R111), CTLE_SWEEP (R98). -/
def Obligations.SpokeBringUpAndGears : Prop :=
  ∀ (s : State) (spoke : Fin 128) (u : Core),
    let n := spoke.val
    let g := s.rd (Fld.SPK_STAT_GEAR n)
    let tg := s.targetGear n
    let may := s.spokeState n = .serving ∧ (s.spoke n).plan = none ∧ (s.spoke n).probe = .none ∧ (s.spoke n).inB = false
    let ownStep := if s.flag (Fld.SPK_CFG_CTLE_AUTO n) = true then none else some (s.rd (Fld.SPK_CFG_CTLE_STEP n))
    (mayWrite u 0 = true →
      (s.rd (Fld.SPK_CFG_ENABLE n) = 0 → ∃ t, exec (.spokeEnable u spoke) s = .next t ∧ t.rd (Fld.SPK_CFG_ENABLE n) = 1 ∧
        t.rd (Fld.SPK_STAT_GEAR n) = 0 ∧ t.rd (Fld.SPK_STAT_GEAR_CAP n) = 4 ∧ t.rd (Fld.SPK_STAT_CTLE_USED n) = 0 ∧ t.rd (Fld.SPK_STAT_TRIAL n) = 0 ∧
        t.rd (Fld.SPK_STAT_ADMITTED n) = 0 ∧ (t.spoke n).probe = .bringUp ∧ (t.spoke n).items = [] ∧ (t.spoke n).plan = none ∧
        (t.spoke n).ctleNext = ownStep ∧
        (∀ k : Fin 96, (t.cell (cellId n k)).lstate = .free) ∧ (∀ c : Nat, c / 128 ≠ n → t.cell c = s.cell c) ∧ MapBut Spoke.reset [n] s.spokes t.spokes) ∧
      (s.rd (Fld.SPK_CFG_ENABLE n) ≠ 0 → exec (.spokeEnable u spoke) s = .next s) ∧
      (∃ t, exec (.spokeDisable u spoke) s = .next t ∧ t.rd (Fld.SPK_CFG_ENABLE n) = 0 ∧ t.rd (Fld.SPK_STAT_TX_AWAKE n) = 0 ∧
        t.rd (Fld.SPK_STAT_RX_AWAKE n) = 0 ∧ (t.spoke n).txdisLow = false ∧ (t.spoke n).probe = .none ∧ t.spokeState n = .disabled ∧
        (∀ k : Fin 96, (t.cell (cellId n k)).lstate = .free) ∧ (∀ c : Nat, c / 128 ≠ n → t.cell c = s.cell c) ∧ MapBut Spoke.reset [n] s.spokes t.spokes) ∧
      (tg = g ∨ ¬ may → ∃ t, exec (.spkRestep u spoke) s = .next t ∧ t.rd (Fld.SPK_CTL_RESTEP n) = (if tg = g then 0 else 1) ∧
        OnlyRegs [Fld.SPK_CTL_RESTEP n] s t) ∧
      (tg ≠ g → may →
        (s.gearFits n tg = true → ∃ t, exec (.spkRestep u spoke) s = .next t ∧ (t.spoke n).plan = some (tg, 16) ∧ t.rd (Fld.SPK_CTL_RESTEP n) = 0 ∧
          RegsBut [Fld.SPK_CTL_RESTEP n] s t ∧ MapBut Spoke.reset [n] s.spokes t.spokes ∧ t = { s with regs := t.regs, spokes := t.spokes }) ∧
        (s.gearFits n tg = false → ∃ t, exec (.spkRestep u spoke) s = .next t ∧ t.rd (Fld.SPK_EVT_REFUSED n) = 1 ∧ t.spokes = s.spokes ∧
          t.rd (Fld.SPK_CTL_RESTEP n) = 0 ∧
          RegsBut ([Fld.SPK_CTL_RESTEP n, Fld.SPK_EVT_REFUSED n, Fld.QOS_STAT_NOFIT, Fld.TND_EVT_NOFIT, Fld.VLY_STAT_NOFIT] ++ loggedFields) s t ∧ t.cells = s.cells)) ∧
      (∃ t, exec (.spkClrCap u spoke) s = .next t ∧ t.rd (Fld.SPK_STAT_GEAR_CAP n) = 4 ∧ OnlyRegs [Fld.SPK_STAT_GEAR_CAP n] s t) ∧
      (∃ t, exec (.spkCntClr u spoke) s = .next t ∧ t.rd (Fld.SPK_CNT_LOCK_CNT n) = 0 ∧ t.rd (Fld.SPK_CNT_NOLOCK_CNT n) = 0 ∧
        t.rd (Fld.SPK_CNT_CRC_CNT n) = 0 ∧ t.rd (Fld.SPK_CNT_PLACE_CNT n) = 0 ∧
        OnlyRegs [Fld.SPK_CNT_LOCK_CNT n, Fld.SPK_CNT_NOLOCK_CNT n, Fld.SPK_CNT_CRC_CNT n, Fld.SPK_CNT_PLACE_CNT n] s t)) ∧
    (s.flag (Fld.SPK_CFG_AUTO_UP n) = true → may → s.spokeBlocked n = true →
      tg ≠ g → (s.spoke n).refused ≠ some (s.refusedMemo n) →
        (s.gearFits n tg = true → ∃ t, exec (.gearStepAuto spoke) s = .next t ∧ (t.spoke n).plan = some (tg, 16) ∧ t.regs = s.regs) ∧
        (s.gearFits n tg = false → ∃ t, exec (.gearStepAuto spoke) s = .next t ∧ t.rd (Fld.SPK_EVT_REFUSED n) = 1 ∧ (t.spoke n).plan = none)) ∧
    (s.flag (Fld.SPK_CFG_AUTO_UP n) = false ∨ ¬ may ∨ s.spokeBlocked n = false ∨ tg = g ∨ (s.spoke n).refused = some (s.refusedMemo n) →
      exec (.gearStepAuto spoke) s = .next s) ∧
    (∀ p, (s.spoke n).plan = some p → p.2 = 0 → (s.spoke n).inB = true → ∃ t, exec (.gearChangeVolley spoke) s = .next t ∧
      t.rd (Fld.SPK_STAT_GEAR n) = p.1 % 8 ∧ t.rd (Fld.SPK_STAT_CTLE_USED n) = ctleInitial p.1 ∧ t.rd (Fld.SPK_STAT_TRIAL n) = 0 ∧
      t.rd (Fld.SPK_STAT_SWEEP n) = s.rd (Fld.SPK_CFG_CTLE_AUTO n) % 2 ∧
      t.rd (if g < p.1 then Fld.SPK_EVT_GEAR_UP n else Fld.SPK_EVT_GEAR_DOWN n) = 1 ∧
      t.spoke n = { s.spoke n with plan := none, inB := true, trialAge := 0, discOpen := none, ctleNext := ownStep } ∧
      (∀ x ∈ s.cellsOf n, x.2.lstate ≠ .free → (t.cell x.1).trialMiss = 0 ∧ (t.cell x.1).last16 = [] ∧ (t.cell x.1).o = (s.ranged n (x.1 % 128) x.2.tailPos p.1 x.2.delay2).1) ∧
      (∀ c : Nat, c / 128 ≠ n → t.cell c = s.cell c) ∧ MapBut Spoke.reset [n] s.spokes t.spokes ∧
      RegsBut ([Fld.SPK_STAT_GEAR n, Fld.SPK_STAT_CTLE_USED n, Fld.SPK_STAT_TRIAL n, Fld.SPK_STAT_SWEEP n, Fld.SPK_EVT_GEAR_UP n,
        Fld.SPK_EVT_GEAR_DOWN n] ++ loggedFields) s t) ∧
    ((s.spoke n).plan.map (·.2) ≠ some 0 ∨ (s.spoke n).inB = false → exec (.gearChangeVolley spoke) s = .next s) ∧
    (s.flag (Fld.SPK_STAT_TRIAL n) = true → 1025 ≤ (s.spoke n).trialAge →
      ((∀ p ∈ s.admittedOf n, p.2.trialMiss ≤ 4) → ∃ t, exec (.gearTrialEnd spoke) s = .next t ∧ t.rd (Fld.SPK_STAT_TRIAL n) = 0 ∧
        OnlyRegs [Fld.SPK_STAT_TRIAL n] s t) ∧
      ((∃ p ∈ s.admittedOf n, 4 < p.2.trialMiss) → ∃ t, exec (.gearTrialEnd spoke) s = .next t ∧ t.rd (Fld.SPK_STAT_TRIAL n) = 0 ∧
        t.rd (Fld.SPK_EVT_TRIAL_FAIL n) = 1 ∧ t.rd (Fld.SPK_STAT_GEAR_CAP n) = max 1 (g - 1) % 8 ∧
        RegsBut ([Fld.SPK_STAT_TRIAL n, Fld.SPK_EVT_TRIAL_FAIL n, Fld.SPK_STAT_GEAR_CAP n] ++ loggedFields) s t ∧ t.cells = s.cells ∧
        MapBut Spoke.reset [n] s.spokes t.spokes)) ∧
    (s.flag (Fld.SPK_STAT_TRIAL n) = false ∨ (s.spoke n).trialAge < 1025 → exec (.gearTrialEnd spoke) s = .next s) ∧
    (∀ (e : BitVec 8 × BitVec 8) (l : List (BitVec 8 × BitVec 8)), l.length < 16 → s.flag (Fld.SPK_STAT_SWEEP n) = true →
      ∃ t, exec (.ctleSweep spoke (e :: l)) s = .next t ∧ t.rd (Fld.SPK_STAT_SWEEP n) = 0 ∧
        (let i := t.rd (Fld.SPK_EYE_BEST n)
         ∃ b, (e :: l)[i]? = some b ∧ t.rd (Fld.SPK_EYE_EYE_H n) = b.1.toNat ∧ t.rd (Fld.SPK_EYE_EYE_V n) = b.2.toNat ∧
           (∀ x ∈ e :: l, x.1.toNat * x.2.toNat ≤ b.1.toNat * b.2.toNat) ∧
           (∀ x ∈ (e :: l).take i, x.1.toNat * x.2.toNat < b.1.toNat * b.2.toNat) ∧
           t.rd (Fld.SPK_EVT_CTLE_EDGE n) = (if i = 0 ∨ i = 15 then 1 else s.rd (Fld.SPK_EVT_CTLE_EDGE n)) ∧
           (t.spoke n).ctleNext = (if s.flag (Fld.SPK_CFG_CTLE_AUTO n) then some i else (s.spoke n).ctleNext)) ∧
        RegsBut ([Fld.SPK_STAT_SWEEP n, Fld.SPK_EYE_BEST n, Fld.SPK_EYE_EYE_H n, Fld.SPK_EYE_EYE_V n, Fld.SPK_EVT_CTLE_EDGE n] ++ loggedFields) s t ∧
        MapBut Spoke.reset [n] s.spokes t.spokes ∧ t = { s with regs := t.regs, hist := t.hist, log := t.log, spokes := t.spokes }) ∧
    (∀ l, s.flag (Fld.SPK_STAT_SWEEP n) = false → exec (.ctleSweep spoke l) s = .next s) ∧
    (∀ t0, (s.spoke n).empty.join = some t0 → s.spokeState n = .empty → s.mayServe = true → s.rd (Fld.SPK_CFG_PROBE_S n) ≠ 0 →
      t0 + s.rd (Fld.SPK_CFG_PROBE_S n) * 800000000 ≤ s.nowTick → ∃ t, exec (.spokeProbeStart spoke) s = .next t ∧
      (t.spoke n).probe = .probe ∧ (t.spoke n).discCount = 0 ∧ t.rd (Fld.SPK_STAT_GEAR n) = 0 ∧ t.rd (Fld.SPK_STAT_CTLE_USED n) = 0 ∧ t.rd (Fld.SPK_STAT_TRIAL n) = 0 ∧
      (t.spoke n).plan = none ∧ (t.spoke n).ctleNext = ownStep ∧ t.rd (Fld.SPK_STAT_TX_AWAKE n) = (if t.spokeState n = .empty then 0 else 1) ∧ MapBut Spoke.reset [n] s.spokes t.spokes ∧ t.cells = s.cells ∧
      t = { s with regs := t.regs, spokes := t.spokes }) ∧
    (s.spokeState n ≠ .empty ∨ s.rd (Fld.SPK_CFG_PROBE_S n) = 0 ∨ (s.spoke n).empty.join = none ∨
      (s.spoke n).empty.join.any (fun t0 => decide (s.nowTick < t0 + s.rd (Fld.SPK_CFG_PROBE_S n) * 800000000)) = true → exec (.spokeProbeStart spoke) s = .next s) ∧
    ((s.spoke n).probe = .probe → 64 ≤ (s.spoke n).discCount → ∃ t, exec (.spokeProbeEnd spoke) s = .next t ∧ (t.spoke n).probe = .none ∧ (t.spoke n).discOpen = none ∧
      (t.spoke n).items = (if s.rd (Fld.SPK_STAT_ADMITTED n) = 0 then [] else (s.spoke n).items) ∧ MapBut Spoke.reset [n] s.spokes t.spokes ∧
      RegsBut [Fld.SPK_STAT_ADMITTED n, Fld.SPK_STAT_RIDER_GEAR n, Fld.SPK_STAT_TX_AWAKE n, Fld.SPK_STAT_RX_AWAKE n] s t ∧
      t = { s with regs := t.regs, spokes := t.spokes }) ∧
    ((s.spoke n).probe ≠ .probe ∨ (s.spoke n).discCount < 64 → exec (.spokeProbeEnd spoke) s = .next s) ∧
    (let adm := s.rd (Fld.SPK_STAT_ADMITTED n)
     let want := s.rd (Fld.SPK_CFG_EXPECT n)
     ((s.spoke n).probe = .bringUp → ((want ≠ 0 ∧ want ≤ adm) ∨ 64 ≤ (s.spoke n).discCount) → ∃ t, exec (.discoveryEnd spoke) s = .next t ∧
       (t.spoke n).probe = .none ∧ (t.spoke n).discOpen = none ∧
       t.rd (Fld.SPK_EVT_SHORT n) = (if adm < want then 1 else s.rd (Fld.SPK_EVT_SHORT n)) ∧ MapBut Spoke.reset [n] s.spokes t.spokes ∧ t.cells = s.cells ∧
       RegsBut ([Fld.SPK_STAT_ADMITTED n, Fld.SPK_STAT_RIDER_GEAR n, Fld.SPK_STAT_TX_AWAKE n, Fld.SPK_STAT_RX_AWAKE n, Fld.SPK_EVT_SHORT n] ++ loggedFields) s t) ∧
     ((s.spoke n).probe ≠ .bringUp ∨ ((want = 0 ∨ adm < want) ∧ (s.spoke n).discCount < 64) → exec (.discoveryEnd spoke) s = .next s))

/-- HOST_FENCE (R108), LANE_TEST_SELECT (R109), PRBS_LOCK (R116), TRANSCEIVER_POLL (R87, R117), SPOKE_LOS (R96). -/
def Obligations.SpokeFencesAndTests : Prop :=
  ∀ (s : State) (spoke : Fin 128) (u : Core),
    let n := spoke.val
    (∀ on : Bool, mayWrite u 0 = true → ∃ t, exec (.hostFence u spoke on) s = .next t ∧ t.flag (Fld.SPK_CTL_FENCE n) = on ∧
      OnlyRegs [Fld.SPK_CTL_FENCE n] s t) ∧
    (∀ (mode : BitVec 3) (light : Bool), mayWrite u 0 = true →
      ((mode ≠ 0 ∧ s.flag (Fld.SPK_STAT_FENCED n) = false) ∨ 5 ≤ mode.toNat ∨ (light = true ∧ s.standby = true) →
        ∃ t, exec (.laneTestSelect u spoke mode light) s = .next t ∧ t.rd Fld.SPK_GSTAT_INVALID_WR = 1 ∧ OnlyLogged [Fld.SPK_GSTAT_INVALID_WR] s t) ∧
      ((mode = 0 ∨ s.flag (Fld.SPK_STAT_FENCED n) = true) → mode.toNat < 5 → (light = false ∨ s.standby = false) →
        ∃ t, exec (.laneTestSelect u spoke mode light) s = .next t ∧ t.rd (Fld.SPK_TEST_MODE n) = mode.toNat ∧ t.flag (Fld.SPK_TEST_LIGHT n) = light ∧
          t.rd (Fld.SPK_PRBS_ERR_ERR n) = 0 ∧ t.rd (Fld.SPK_PRBS_ERR_PRBS_LOCK n) = 0 ∧
          RegsBut [Fld.SPK_TEST_MODE n, Fld.SPK_TEST_LIGHT n, Fld.SPK_PRBS_ERR_ERR n, Fld.SPK_PRBS_ERR_PRBS_LOCK n, Fld.SPK_STAT_ADMITTED n,
            Fld.SPK_STAT_RIDER_GEAR n, Fld.SPK_STAT_TX_AWAKE n, Fld.SPK_STAT_RX_AWAKE n] s t ∧
          MapBut Spoke.reset [n] s.spokes t.spokes ∧ t = { s with regs := t.regs, spokes := t.spokes })) ∧
    (∀ (locked : Bool) (errors : Nat),
      (s.flag (Fld.SPK_STAT_FENCED n) = true → (s.rd (Fld.SPK_TEST_MODE n) = 3 ∨ s.rd (Fld.SPK_TEST_MODE n) = 4) →
        ∃ t, exec (.prbsLock spoke locked errors) s = .next t ∧ t.flag (Fld.SPK_PRBS_ERR_PRBS_LOCK n) = locked ∧
          t.rd (Fld.SPK_PRBS_ERR_ERR n) = min (s.rd (Fld.SPK_PRBS_ERR_ERR n) + errors) (2 ^ (Fld.SPK_PRBS_ERR_ERR n).width - 1) ∧
          OnlyRegs [Fld.SPK_PRBS_ERR_PRBS_LOCK n, Fld.SPK_PRBS_ERR_ERR n] s t) ∧
      (s.flag (Fld.SPK_STAT_FENCED n) = false ∨ (s.rd (Fld.SPK_TEST_MODE n) ≠ 3 ∧ s.rd (Fld.SPK_TEST_MODE n) ≠ 4) →
        exec (.prbsLock spoke locked errors) s = .next s)) ∧
    (s.flag Fld.SPK_GCFG_MS_EN = true → s.flag (Fld.SPK_CFG_ENABLE n) = true →
      (∃ t, exec (.transceiverPoll spoke none) s = .next t ∧ t.rd (Fld.SPK_XCVR_B_VALID n) = 0 ∧ t.rd (Fld.SPK_EVT_MS_FAIL n) = 1 ∧
        OnlyLogged [Fld.SPK_XCVR_B_VALID n, Fld.SPK_EVT_MS_FAIL n] s t) ∧
      (∀ r : XcvrReading, ∃ t, exec (.transceiverPoll spoke (some r)) s = .next t ∧ t.rd (Fld.SPK_XCVR_B_VALID n) = 1 ∧
        t.rd (Fld.SPK_XCVR_A_RX_PWR n) = r.rxPwr.toNat ∧ t.rd (Fld.SPK_XCVR_A_TX_PWR n) = r.txPwr.toNat ∧ t.rd (Fld.SPK_XCVR_B_TEMP n) = r.temp.toNat ∧
        t.flag (Fld.SPK_XCVR_B_TX_FAULT n) = r.txFault ∧ t.flag (Fld.SPK_XCVR_B_RX_LOS n) = r.rxLos ∧
        t.rd (Fld.SPK_EVT_XCVR_FAULT n) = (if r.txFault || r.rxLos then 1 else s.rd (Fld.SPK_EVT_XCVR_FAULT n)) ∧
        (t.spoke n).txFaults = (if r.txFault then (s.spoke n).txFaults + 1 else 0) ∧
        (t.spoke n).fenceWant = (if r.txFault ∧ 2 ≤ (s.spoke n).txFaults ∧ s.flag Fld.HKP_SVC_CFG_TXF_FENCE ∧ (s.spoke n).fenceWant = none then some 2
          else (s.spoke n).fenceWant) ∧
        MapBut Spoke.reset [n] s.spokes t.spokes ∧
        RegsBut ([Fld.SPK_XCVR_A_RX_PWR n, Fld.SPK_XCVR_A_TX_PWR n, Fld.SPK_XCVR_B_TEMP n, Fld.SPK_XCVR_B_TX_FAULT n, Fld.SPK_XCVR_B_RX_LOS n,
          Fld.SPK_XCVR_B_VALID n, Fld.SPK_EVT_XCVR_FAULT n] ++ loggedFields) s t ∧
        t = { s with regs := t.regs, hist := t.hist, log := t.log, spokes := t.spokes })) ∧
    (∀ r, s.flag Fld.SPK_GCFG_MS_EN = false ∨ s.flag (Fld.SPK_CFG_ENABLE n) = false → exec (.transceiverPoll spoke r) s = .next s) ∧
    (8 ≤ (s.spoke n).noLock → (s.spoke n).lost = false → 0 < s.rd (Fld.SPK_STAT_ADMITTED n) → ∃ t, exec (.spokeLos spoke) s = .next t ∧
      (t.spoke n).lost = true ∧ t.rd (Fld.SPK_EVT_LOS n) = 1 ∧ MapBut Spoke.reset [n] s.spokes t.spokes ∧
      RegsBut ([Fld.SPK_EVT_LOS n, Fld.TND_CAUSE_LIVE, Fld.TND_EVT_HELD_NO_TWIN] ++ loggedFields) s t ∧
      t = { s with regs := t.regs, hist := t.hist, log := t.log, spokes := t.spokes, tnd := t.tnd }) ∧
    ((s.spoke n).noLock < 8 ∨ (s.spoke n).lost = true ∨ s.rd (Fld.SPK_STAT_ADMITTED n) = 0 → exec (.spokeLos spoke) s = .next s)

/-- BLOCK_IN_ACTIVE, BLOCK_IN_INACTIVE, PAIR_DISC (R280), SIDEBAND_LOSS, SIDEBAND_RESTORE (R282), the decision (R283, R284),
LPW_BLK_REL (R288) and LPW_LOCK (R296). -/
def Obligations.LiveSourcesBlock : Prop :=
  ∀ (s : State) (i : Fin 2) (u : Core),
    (∃ t, exec (.blockInActive i) s = .next t ∧
      let v : State := { s with c0 := if i = 0 then { s.c0 with levelA := s.flag (Fld.LPW_BIN_CFG_POL i) } else { s.c0 with levelB := s.flag (Fld.LPW_BIN_CFG_POL i) } }
      v.pinActive i = true ∧ BlocksLive v t) ∧
    (∃ t, exec (.sidebandLoss i) s = .next t ∧
      let v : State := { s with c0 := if i = 0 then { s.c0 with lost0 := true } else { s.c0 with lost1 := true } }
      v.sidebandSource i = s.flag (if i = 0 then Fld.LPW_SB_CFG_SB_X0 else Fld.LPW_SB_CFG_SB_X1) ∧ BlocksLive v t ∧
      t.rd Fld.LPW_BLK_EVT_SIDEBAND = 1 ∧ t.rd (if i = 0 then Fld.HKP_SVC_EVT_DIE_X0 else Fld.HKP_SVC_EVT_DIE_X1) = 1) ∧
    (∃ t, exec (.blockInInactive i) s = .next t ∧ t.pinActive i = false ∧ t.c0.levelA = (if i = 0 then t.c0.levelA else s.c0.levelA) ∧
      t.c0.levelB = (if i = 0 then s.c0.levelB else t.c0.levelB) ∧ t = { s with c0 := { s.c0 with levelA := t.c0.levelA, levelB := t.c0.levelB } }) ∧
    (∃ t, exec (.sidebandRestore i) s = .next t ∧ t.sidebandSource i = false ∧ t = { s with c0 := { s.c0 with lost0 := t.c0.lost0, lost1 := t.c0.lost1 } } ∧
      (i = 0 → t.c0.lost1 = s.c0.lost1) ∧ (i = 1 → t.c0.lost0 = s.c0.lost0)) ∧
    (∃ t, exec .pairDisc s = .next t ∧
      t.rd Fld.LPW_BLK_EVT_PAIR_DISC = (if s.rd Fld.LPW_BIN_DISC_DISC_US ≠ 0 ∧ s.c0.levelA ≠ s.c0.levelB then 1 else s.rd Fld.LPW_BLK_EVT_PAIR_DISC) ∧
      OnlyLogged [Fld.LPW_BLK_EVT_PAIR_DISC] s t) ∧
    (mayWrite u 4 = true → ∀ m : BitVec 8, ∃ t, exec (.lpwBlkRel u m) s = .next t ∧
      let fresh := fun c : Fin 8 => bitOf (s.rd Fld.LPW_BLK_STAT_BLOCKED) c = true ∧ s.rd (Fld.LPW_BLK_TS_TB3_NS c) = (s.ts32 3).toNat
      (∀ c : Fin 8, bitOf (t.rd Fld.LPW_BLK_REL_REL) c = (bitOf (s.rd Fld.LPW_BLK_REL_REL) c || (m.getLsbD c && !decide (fresh c)))) ∧
      ((∃ c : Fin 8, m.getLsbD c = true ∧ fresh c) → t.rd Fld.LPW_BLK_EVT_REL_REFUSED = 1) ∧
      ((∀ c : Fin 8, m.getLsbD c = true → ¬ fresh c) → OnlyRegs [Fld.LPW_BLK_REL_REL] s t)) ∧
    (mayWrite u 4 = true → ∃ t, exec (.lpwLock u) s = .next t ∧ t.rd Fld.LPW_LOCK_LOCK = 1 ∧ OnlyRegs [Fld.LPW_LOCK_LOCK] s t)

/-- LP_COMMIT (R291), LP_FIRE (R292), LP_PERIOD_WRAP, LP_CMP_MATCH (R290), LP_ONESHOT_END (R292), LP_DEAD_TIME_END (R294), DEBUG_HALT,
DEBUG_HALT_END (R295). -/
def Obligations.PulseOutputs : Prop :=
  ∀ (s : State) (ch : Fin 16) (u : Core) (k : Fin 64),
    let n := ch.val
    (mayWrite u 4 = true →
      (s.lpRuns n = true → ∃ t, exec (.lpCommit u ch) s = .next t ∧ t.rd (Fld.LPW_LP_STAT_PEND n) = 1 ∧ OnlyRegs [Fld.LPW_LP_STAT_PEND n] s t) ∧
      (s.lpRuns n = false → ∃ t, exec (.lpCommit u ch) s = .next t ∧ t.rd (Fld.LPW_LP_STAT_PEND n) = 0 ∧
        (t.lpc n).period = s.rd (Fld.LPW_LP_PERIOD_PERIOD n) ∧ (t.lpc n).cmp = s.rd (Fld.LPW_LP_CMP_CMP n) ∧ LpUpdated n [Fld.LPW_LP_STAT_PEND n] s t) ∧
      (s.flag (Fld.LPW_LP_CFG_EN n) = false ∨ s.flag (Fld.LPW_LP_CFG_ONESHOT n) = false → exec (.lpFire u ch) s = .next s) ∧
      (s.flag (Fld.LPW_LP_CFG_EN n) = true → s.flag (Fld.LPW_LP_CFG_ONESHOT n) = true →
        ((s.lpc n).shot = true → ∃ t, exec (.lpFire u ch) s = .next t ∧ t.rd Fld.LPW_LP_GSTAT_FIRE_LOST = 1 ∧ OnlyLogged [Fld.LPW_LP_GSTAT_FIRE_LOST] s t) ∧
        ((s.lpc n).shot = false → ∃ t, exec (.lpFire u ch) s = .next t ∧ (t.lpc n).shot = true ∧ t.rd (Fld.LPW_LP_STAT_CNT n) = 0 ∧
          LpUpdated n [Fld.LPW_LP_STAT_CNT n] s t))) ∧
    (s.lpFrozen = false → s.lpRuns n = true → s.flag (Fld.LPW_LP_CFG_ONESHOT n) = false → ∃ t, exec (.lpPeriodWrap ch) s = .next t ∧
      t.rd (Fld.LPW_LP_STAT_CNT n) = 0 ∧ t.rd (Fld.LPW_LP_STAT_PEND n) = 0 ∧
      (s.flag (Fld.LPW_LP_STAT_PEND n) = true → (t.lpc n).period = s.rd (Fld.LPW_LP_PERIOD_PERIOD n) ∧ (t.lpc n).cmp = s.rd (Fld.LPW_LP_CMP_CMP n)) ∧
      (s.flag (Fld.LPW_LP_STAT_PEND n) = false → (t.lpc n).period = (s.lpc n).period ∧ (t.lpc n).cmp = (s.lpc n).cmp) ∧
      (t.lpc n).level = decide (0 < (t.lpc n).cmp) ∧ LpUpdated n [Fld.LPW_LP_STAT_CNT n, Fld.LPW_LP_STAT_PEND n] s t) ∧
    (s.lpFrozen = true ∨ s.lpRuns n = false ∨ s.flag (Fld.LPW_LP_CFG_ONESHOT n) = true → exec (.lpPeriodWrap ch) s = .next s) ∧
    (s.lpFrozen = false → s.lpRuns n = true → (s.lpc n).cmp < (s.lpc n).period → s.rd (Fld.LPW_LP_STAT_CNT n) ≤ (s.lpc n).cmp → (s.lpc n).cmp < 2 ^ 24 →
      ∃ t, exec (.lpCmpMatch ch) s = .next t ∧ t.rd (Fld.LPW_LP_STAT_CNT n) = (s.lpc n).cmp ∧ (t.lpc n).level = false ∧
        (t.lpc n).cmp = (s.lpc n).cmp ∧ LpUpdated n [Fld.LPW_LP_STAT_CNT n] s t) ∧
    (s.lpFrozen = true ∨ s.lpRuns n = false ∨ (s.lpc n).period ≤ (s.lpc n).cmp → exec (.lpCmpMatch ch) s = .next s) ∧
    (s.lpFrozen = false → (s.lpc n).shot = true → ∃ t, exec (.lpOneshotEnd ch) s = .next t ∧ (t.lpc n).shot = false ∧ t.rd (Fld.LPW_LP_STAT_CNT n) = 0 ∧
      t.rd (Fld.LPW_LP_STAT_PEND n) = 0 ∧ (s.flag (Fld.LPW_LP_CFG_ONESHOT n) = true → (t.lpc n).level = false) ∧
      LpUpdated n [Fld.LPW_LP_STAT_CNT n, Fld.LPW_LP_STAT_PEND n] s t) ∧
    (s.lpFrozen = true ∨ (s.lpc n).shot = false → exec (.lpOneshotEnd ch) s = .next s) ∧
    (∃ t, exec (.lpDeadTimeEnd ch) s = .next t ∧ LpUpdated n [] s t ∧
      (s.lpOut (s.rd (Fld.LPW_LP_CFG_PARTNER n)) = false → (t.lpc n).dead = false)) ∧
    (s.mayDebug k = false ∨ k.val ∈ s.halted → exec (.debugHalt k) s = .next s) ∧
    (s.mayDebug k = true → k.val ∉ s.halted → ∃ t, exec (.debugHalt k) s = .next t ∧ t.halted = s.halted ++ [k.val] ∧
      (32 ≤ k.val → t.engState (k.val - 32) = 6 ∧ (t.eng (k.val - 32)).stateWas = s.rd (Fld.CE_STAT_STATE (k.val - 32)) ∧
        (t.eng (k.val - 32)).pc = (s.eng (k.val - 32)).pc) ∧
      (k.val < 32 → t.engines = s.engines ∧ RegsBut lpFields s t) ∧ (32 ≤ k.val → RegsBut (engShown (k.val - 32) ++ lpFields) s t) ∧
      (s.flag Fld.LPW_LP_GCFG_DBG_ACT = true → ∀ c : Fin 16, s.lpMasked c = false → t.lpOut c = false) ∧
      t = { s with regs := t.regs, lp := t.lp, halted := t.halted, engines := t.engines }) ∧
    (k.val ∉ s.halted → exec (.debugHaltEnd k) s = .next s) ∧
    (k.val ∈ s.halted → ∃ t, exec (.debugHaltEnd k) s = .next t ∧ k.val ∉ t.halted ∧ (∀ j ∈ s.halted, j ≠ k.val → j ∈ t.halted) ∧
      (32 ≤ k.val → s.rd (Fld.CE_STAT_STATE (k.val - 32)) = 6 → t.rd (Fld.CE_STAT_STATE (k.val - 32)) = (s.eng (k.val - 32)).stateWas % 8) ∧
      t.engines = s.engines ∧ (k.val < 32 → RegsBut lpFields s t) ∧ (32 ≤ k.val → RegsBut (engShown (k.val - 32) ++ lpFields) s t) ∧
      t = { s with regs := t.regs, lp := t.lp, halted := t.halted })

/-- VOLLEY_BOUNDARY (R25, R26): the rules that hold at every boundary of a running module. -/
def Obligations.VolleyBoundary : Prop :=
  ∀ (s : State) (late : BitVec 128) (n : Fin 128) (c : Fin 16384),
    (s.started = true → s.mayBegin = false → exec (.volleyBoundary late) s = .next s) ∧
    (∀ o, s.rst.atBoundary = some o → (o.yield = false ∨ s.tndState ≠ 4) → s.started = false ∨ s.mayBegin = true → s.rst.phase ≠ .hold .storm →
      ∃ t, exec (.volleyBoundary late) s = .next t ∧ ResetTaken o.src s t) ∧
    (s.rst.atBoundary = none → s.started = false → exec (.volleyBoundary late) s = .next s) ∧
    let sameReq := fun (q r : Option PointReq) => q.map (fun x => { x with back := false }) = r.map (fun x => { x with back := false })
    (s.rst.atBoundary = none → s.started = true → s.mayBegin = true → s.tnd.yieldDue = none → s.takeoverDue = false → ∃ t, exec (.volleyBoundary late) s = .next t ∧
      t.rd Fld.VLY_NOW_VOLLEY = (s.rd Fld.VLY_NOW_VOLLEY + 1) % 2 ^ 32 ∧ t.seqr.phase = 0 ∧ t.seqr.staged = false ∧
      t.rd Fld.VLY_NOW2_EPOCH = s.rd Fld.VLY_NOW2_EPOCH ∧
      (s.seqr.staged = false → t.timeline = s.timeline) ∧
      (s.seqr.staged = true → t.timeline = s.stagedTimeline ∨
        (t.timeline = s.timeline ∧ t.stagedTimeline = s.timeline ∧ t.rd Fld.VLY_STAT_NOFIT = 1)) ∧
      t.rd Fld.VLY_NOW2_SID_NOW = (if t.seqr.strobe then (s.rd Fld.VLY_NOW2_SID_NOW + 1) % 256 else s.rd Fld.VLY_NOW2_SID_NOW) ∧
      t.seqr.windowOpen = t.seqr.strobe ∧ (t.spoke n).next = none ∧
      (∀ y, (t.spoke n).sent = some y → ∀ x, (s.spoke n).next = some x → late.getLsbD n = false ∧ t.seqr.strobe = true ∧ y.volley.toNat = t.rd Fld.VLY_NOW_VOLLEY ∧
        y = { x with
          epoch := BitVec.ofNat 16 (s.rd Fld.VLY_NOW2_EPOCH), volley := y.volley, sidNow := BitVec.ofNat 8 (t.rd Fld.VLY_NOW2_SID_NOW), period := t.timeline.p10 * 8, badCrc := y.badCrc }) ∧
      ((s.spoke n).next = none → (t.spoke n).sent = none) ∧ (late.getLsbD n = true → (t.spoke n).sent = none) ∧
      ((t.cell c).lstate ≠ .free →
        (t.seqr.windowOpen = true → (t.cell c).outcome = .awaited ∧ (t.cell c).sampleOk = false ∧ (t.cell c).sok = false ∧ (t.cell c).sample = none) ∧
        (t.seqr.windowOpen = false → (t.cell c).outcome = (s.cell c).outcome ∧ (t.cell c).sampleOk = (s.cell c).sampleOk ∧
          (t.cell c).sok = (s.cell c).sok ∧ (t.cell c).sample = (s.cell c).sample ∧ sameReq (t.cell c).answerTo (s.cell c).answerTo) ∧
        ((t.spoke (c.val / 128)).sent.isSome = true → sameReq (t.cell c).answerTo (s.cell c).asked)) ∧
      t.c0.releasing = 0 ∧ (∀ v : Fin 8, s.c0.releasing.getLsbD v = true → bitOf (t.rd Fld.LPW_BLK_REL_REL) v = false) ∧
      (∀ v : Fin 8, bitOf (t.rd Fld.LPW_BLK_STAT_BLOCKED) v = true → bitOf (s.rd Fld.LPW_BLK_STAT_BLOCKED) v = true ∧ s.c0.releasing.getLsbD v = false) ∧
      t.flash = s.flash ∧ t.fuses = s.fuses ∧ t.sec = s.sec ∧ t.image = s.image)

/-- COMPUTE_WINDOW_OPEN (R27, R191 to R198, R410). No engine copies its memory to another one. -/
def Obligations.ComputeWindowOpens : Prop :=
  ∀ (s : State) (late : BitVec 32) (e : Fin 32),
    (s.started = false ∨ s.seqr.phase ≠ 0 ∨ s.seqr.windowOpen = true ∨ s.nowTick < s.time.boundaryTick + s.timeline.c →
      exec (.computeWindowOpen late) s = .next s) ∧
    (s.started = true → s.seqr.phase = 0 → s.seqr.windowOpen = false → s.time.boundaryTick + s.timeline.c ≤ s.nowTick → (∀ f : Fin 32, s.engState f ≠ 3) → s.tndState ≠ 2 → s.tndState ≠ 3 → ∃ t, exec (.computeWindowOpen late) s = .next t ∧
      t.seqr = { s.seqr with phase := 1 } ∧ t.setSnap = s.setNow ∧ t.setNow = s.setNow ∧ t.cells = s.cells ∧ t.spokes = s.spokes ∧ t.image = s.image ∧
      t.rd Fld.VLY_NOW_VOLLEY = s.rd Fld.VLY_NOW_VOLLEY ∧
      (s.engState e ≠ 2 → t.eng e = { s.eng e with entries := 0, stagedN := 0, prevOvr := false, ended := (s.eng e).ended && !s.dueWindow e }) ∧
      (s.engState e = 2 → late.getLsbD e = true → (t.eng e).running = false ∧ (t.eng e).ended = false ∧ (t.eng e).dmem = (s.eng e).dmem ∧
        t.rd Fld.QOS_STAT_C1_MISS = 1 ∧ (t.eng e).committed = (s.eng e).committed) ∧
      (s.engState e = 2 → late.getLsbD e = false → (∀ i : Fin 4, s.rd (Fld.CE_EXT_LEN_LEN e i) = 0) →
        (∀ j : Fin 256, (t.eng e).mem j.val = windowWord s e j.val) ∧
        (t.eng e).imem = (s.eng e).imem ∧ (t.eng e).committed = (s.eng e).committed ∧
        ((s.eng e).hnd = false → ∀ k, (s.eng e).container = some k → k.standard = false →
          (t.eng e).pc = k.entry ∧ (t.eng e).running = true ∧ (t.eng e).ended = false ∧ (t.eng e).cycle = min (s.stallUnits e) (2 ^ 20 - 1) ∧ (t.eng e).x = [] ∧ (t.eng e).acc = [] ∧
          (t.eng e).sat = false ∧ (t.eng e).vr = false ∧ (t.eng e).abnd = false ∧ (t.eng e).rfail = false ∧ (t.eng e).fflags = 0 ∧
          (t.eng e).frm = s.rd (Fld.CE_CFG_FRM e) ∧ (t.eng e).prog = none ∧ (t.eng e).entries = 0 ∧ (t.eng e).hnd = false ∧
          (∀ a : Fin 4, ((t.eng e).mem (0x1400 + 0x400 * a.val)).getLsbD 3 = false)) ∧
        ((s.eng e).hnd = true → (s.eng e).c0Idle = true → (∀ k, (s.eng e).container = some k → k.standard = false) →
          (t.eng e).waitC = true ∧ (t.eng e).pc = (s.eng e).pc ∧ (t.eng e).hnd = true)))

/-- SERVE_ASSEMBLY_START (R29, R124 to R128, R165, R175, R200, R288, R328). -/
def Obligations.ServeAssembly : Prop :=
  ∀ (s : State) (e : Fin 32) (n : Fin 128) (a : Fin 48) (c : Fin 16384),
    (s.started = false ∨ s.seqr.phase ≠ 1 ∨ s.nowTick < s.time.boundaryTick + s.timeline.a → exec .serveAssemblyStart s = .next s) ∧
    (s.started = true → s.seqr.phase = 1 → s.time.boundaryTick + s.timeline.a ≤ s.nowTick → ∃ t, exec .serveAssemblyStart s = .next t ∧ t.seqr = { s.seqr with phase := 2 } ∧
      (s.dueWindow e = true → ((s.eng e).ended = false ∨ (s.eng e).held = true) →
        (t.eng e).running = false ∧ (t.eng e).hnd = false ∧ (t.eng e).waitC = false ∧ (t.eng e).prog = none ∧ (t.eng e).held = true ∧
        (t.eng e).ended = true ∧ (t.eng e).committed = (s.eng e).committed ∧ (t.eng e).dmem = (s.eng e).dmem ∧
        ((s.eng e).ended = false → t.rd (Fld.CE_EVT_OVERRUN e) = 1 ∧ t.rd (Fld.CE_DLSTAT_LAST_END e) = 0x1FFFF)) ∧
      (s.dueWindow e = false ∨ ((s.eng e).ended = true ∧ (s.eng e).held = false) → t.eng e = s.eng e) ∧
      (let req := BitVec.ofNat 8 (s.rd Fld.LPW_BLK_REL_REL) &&& ~~~s.c0.releasing &&& BitVec.ofNat 8 (s.rd Fld.LPW_BLK_STAT_BLOCKED)
       t.c0.releasing = s.c0.releasing ||| (req &&& ~~~s.liveMask) ∧ t.rd Fld.LPW_BLK_REL_REL = t.c0.releasing.toNat ∧
       (req &&& s.liveMask ≠ 0 → t.rd Fld.LPW_BLK_EVT_REL_REFUSED = 1)) ∧
      t.rd Fld.LPW_BLK_STAT_BLOCKED = s.rd Fld.LPW_BLK_STAT_BLOCKED ∧
      (∀ x, (t.spoke n).next = some x → (s.spokeState n = .serving ∨ s.spokeState n = .probing ∨ (s.standby = true ∧ s.spokeState n = .listening ∧
          0 < s.rd (Fld.SPK_STAT_ADMITTED n))) ∧ (s.standby = true → x.preq = [] ∧ x.mgmt = []) ∧ x.volley = s.volley + 1 ∧ x.sidRef = s.seqr.sidRef ∧
        x.preq.length ≤ 96 ∧ x.mgmt.length ≤ 8 ∧ ((x.preq.map (·.slot)).dedup).length = x.preq.length ∧
        (x.preq ≠ [] ∨ x.mgmt ≠ [] → x.length ≤ 1720) ∧
        x.blkMask &&& ~~~(BitVec.ofNat 8 (s.rd Fld.LPW_BLK_STAT_BLOCKED)) = 0 ∧ x.blkMask &&& t.c0.releasing = 0 ∧
        (∀ r ∈ x.arms, r.edges.length ≤ 4 ∧ ∀ i : Fin 3, i.val + 1 < r.edges.length →
          ((r.edges.map (fun d => d.time.toNat)).getD i.val 0) + 160 ≤ (r.edges.map (fun d => d.time.toNat)).getD (i.val + 1) 0)) ∧
      (s.serveNext n = false → (t.spoke n).next = none ∧ (t.spoke n).items = (s.spoke n).items) ∧
      ((t.spoke n).items.filter (fun i => match i with | .mgmt _ => true | .req _ => false)).Sublist (s.spoke n).items ∧
      (s.inForce (Fld.VLY_ARMCFG_ENABLE a) = 0 → (t.arm a).rot = (s.arm a).rot ∧ (t.arm a).countNow = (s.arm a).countNow ∧
        t.rd (Fld.VLY_ARMCNT_EDGE_CNT a) = s.rd (Fld.VLY_ARMCNT_EDGE_CNT a)) ∧
      ((s.cell c).member = none → (s.cell c).newMember = none → (t.cell c).belief = (s.cell c).belief) ∧
      (s.tndState = 4 → s.flag Fld.TND_STAT_LINK_UP = true → ∃ f, t.tnd.shadowSent = some f ∧ f.volley = s.volley) ∧
      t.flash = s.flash ∧ t.image = s.image ∧ t.rd Fld.VLY_NOW_VOLLEY = s.rd Fld.VLY_NOW_VOLLEY)

/-- ENGINE_ECC_SCRUB (R190, R215), CE_ENABLE (R213, R219), CE_ARMOWN_WRITE (R186, R220), MIGRATION_START, MIGRATION_COPIED,
MIGRATION_ABORT (R218), CE_HOST_FENCE (R225), CE_CNT_CLR, DLMAX_CLR. -/
def Obligations.EngineControl : Prop :=
  ∀ (s : State) (u : Core) (e f : Fin 32),
    let g := s.eng e
    (∀ (instr : Bool) (a : Fin 32768),
      (∃ t, exec (.engineEccScrub e instr a true) s = .next t ∧
        t.rd (Fld.CE_ECC_CORR e) = min (s.rd (Fld.CE_ECC_CORR e) + 1) (2 ^ (Fld.CE_ECC_CORR e).width - 1) ∧
        (t.eng e) = { g with corrAt := (t.eng e).corrAt } ∧ OnlyRegs [Fld.CE_ECC_CORR e] s { t with engines := s.engines } ∧
        MapBut Engine.reset [e.val] s.engines t.engines) ∧
      (∃ t, exec (.engineEccScrub e false a false) s = .next t ∧ (t.eng e).mem a = 0 ∧ (∀ b : Nat, b < 32768 → b ≠ a.val → (t.eng e).mem b = g.mem b) ∧
        t.rd (Fld.CE_EVT_UECC_D e) = 1 ∧ bitOf (t.rd Fld.TND_CAUSE_LIVE) 1 = true ∧ (t.eng e).imem = g.imem ∧
        (s.executing e = true → (t.eng e).hnd = false ∧ (t.eng e).prog = none) ∧ (s.executing e = false → (t.eng e).pc = g.pc ∧ (t.eng e).ended = g.ended) ∧
        MapBut Engine.reset (e.val :: (g.mig.map (·.1)).toList) s.engines t.engines) ∧
      (∃ t, exec (.engineEccScrub e true a false) s = .next t ∧ FMap.get 0 (t.eng e).imem (a.val % 16384) = 0 ∧
        MapBut 0 [a.val % 16384] g.imem (t.eng e).imem ∧ (t.eng e).fenceWant = some (g.fenceWant.getD 3) ∧ t.rd (Fld.CE_EVT_UECC_I e) = 1 ∧
        bitOf (t.rd Fld.TND_CAUSE_LIVE) 1 = true ∧ (t.eng e).dmem = g.dmem ∧ (s.executing e = true → (t.eng e).hnd = false ∧ (t.eng e).prog = none) ∧
        MapBut Engine.reset [e.val] s.engines t.engines)) ∧
    (mayWrite u 2 = true →
      (∀ on : Bool, s.engBelow e = 3 ∨ s.engBelow e = 4 → ∃ t, exec (.ceEnable u e on) s = .next t ∧
        t.rd Fld.CE_GSTAT_INVALID_WR = 1 ∧ OnlyLogged [Fld.CE_GSTAT_INVALID_WR] s t) ∧
      (s.engBelow e ≠ 3 → s.engBelow e ≠ 4 →
        (g.container = none → ∃ t, exec (.ceEnable u e true) s = .next t ∧ t.rd Fld.CE_GSTAT_INVALID_WR = 1 ∧ OnlyLogged [Fld.CE_GSTAT_INVALID_WR] s t) ∧
        (g.container ≠ none → (s.enabling e).demandFits (s.demand e) = true → ∃ t, exec (.ceEnable u e true) s = .next t ∧ t.rd (Fld.CE_CFG_ENABLE e) = 1 ∧
          (t.eng e) = { g with enable := if s.engBelow e = 1 then some true else none } ∧ RegsBut [Fld.CE_CFG_ENABLE e] s t ∧
          MapBut Engine.reset [e.val] s.engines t.engines ∧ t = { s with regs := t.regs, engines := t.engines }) ∧
        (g.container ≠ none → (s.enabling e).demandFits (s.demand e) = false → ∃ t, exec (.ceEnable u e true) s = .next t ∧ t.rd Fld.VLY_STAT_NOFIT = 1 ∧
          OnlyLogged [Fld.VLY_STAT_NOFIT, Fld.QOS_STAT_NOFIT, Fld.TND_EVT_NOFIT] s t) ∧
        (∃ t, exec (.ceEnable u e false) s = .next t ∧ t.rd (Fld.CE_CFG_ENABLE e) = 0 ∧
          (t.eng e) = { g with enable := if s.engBelow e = 2 then some false else none } ∧ RegsBut [Fld.CE_CFG_ENABLE e] s t ∧
          MapBut Engine.reset [e.val] s.engines t.engines ∧ t = { s with regs := t.regs, engines := t.engines })) ∧
      (∀ v : Reg32,
        (s.ownRefused e v.toNat = true → ∃ t, exec (.ceArmownWrite u e v) s = .next t ∧ t.rd Fld.CE_GSTAT_INVALID_WR = 1 ∧
          OnlyLogged [Fld.CE_GSTAT_INVALID_WR] s t) ∧
        ((∃ a : Fin 4, 48 ≤ v.toNat / 2 ^ (8 * a.val) % 64) → s.ownRefused e v.toNat = true) ∧
        (s.ownRefused e v.toNat = false → ∃ t, exec (.ceArmownWrite u e v) s = .next t ∧ t.seqr.staged = true ∧ t.force = s.force ∧
          ownSlots t.regs e = [(0, v.getLsbD 7, v.toNat % 64), (1, v.getLsbD 15, v.toNat / 256 % 64), (2, v.getLsbD 23, v.toNat / 65536 % 64),
            (3, v.getLsbD 31, v.toNat / 16777216 % 64)] ∧
          (f ≠ e → ownSlots t.regs f = ownSlots s.regs f) ∧ t = { s with regs := t.regs, seqr := { s.seqr with staged := true } })) ∧
      (∀ copy : Bool,
        (s.engState e ≠ 2 ∨ f = e ∨ s.engState f ≠ (if copy then 0 else 1) → ∃ t, exec (.migrationStart u e f copy) s = .next t ∧
          t.rd (Fld.CE_EVT_MIG_FAIL e) = 1 ∧ t.rd (Fld.CE_MIG_TARGET e) = f.val ∧ t.engines = s.engines ∧
          OnlyLogged [Fld.CE_MIG_TARGET e, Fld.CE_MIG_COPY e, Fld.CE_EVT_MIG_FAIL e] s t) ∧
        (s.engState e = 2 → f ≠ e → s.engState f = (if copy then 0 else 1) → ∀ c, (s.eng (if copy then e else f)).container = some c →
          (copy = false → ∀ x ∈ s.ownsNow e, x.1 < c.armsMax) →
          let w := s.wrs [(Fld.CE_MIG_TARGET e, f.val), (Fld.CE_MIG_COPY e, if copy then 1 else 0)]
          let fits := w.admits (fun v => v.migrating e f copy c)
          (fits = true → ∃ t, exec (.migrationStart u e f copy) s = .next t ∧ t.rd (Fld.CE_MIG_TARGET e) = f.val ∧ t.flag (Fld.CE_MIG_COPY e) = copy ∧
            t.engState e = 3 ∧ t.engState f = 4 ∧ (t.eng f).container = some c ∧ t.eng e = { g with mig := some (f.val, copy) } ∧
            (copy = true → t.rd (Fld.CE_MIG_COPYING e) = 1 ∧ (t.eng f).dmem = []) ∧
            (copy = false → t.rd (Fld.CE_MIG_COPIED e) = 1 ∧ t.eng f = s.eng f) ∧ MapBut Engine.reset [e.val, f.val] s.engines t.engines) ∧
          (fits = false → ∃ t, exec (.migrationStart u e f copy) s = .next t ∧ t.rd (Fld.CE_MIG_TARGET e) = f.val ∧
            t.rd (Fld.CE_EVT_MIG_FAIL e) = 1 ∧ t.rd Fld.VLY_STAT_NOFIT = 1 ∧ t.engines = s.engines))) ∧
      (g.mig = none → exec (.migrationAbort u e) s = .next s) ∧
      (∀ m, g.mig = some m → s.engState e ≠ 6 → m.1 ≠ e.val → s.engState m.1 ≠ 6 → m.1 < 32 → ∃ t, exec (.migrationAbort u e) s = .next t ∧
        t.engState e = 2 ∧ t.engState m.1 = (if m.2 = true then 0 else 1) ∧ (m.2 = true → (t.eng m.1).dmem = [] ∧ (t.eng m.1).imem = []) ∧
        t.rd (Fld.CE_EVT_MIG_FAIL e) = 1 ∧ t.rd (Fld.CE_MIG_COPIED e) = 0 ∧ t.rd (Fld.CE_MIG_COPYING e) = 0 ∧
        t.eng e = { g with mig := none, autoMig := false } ∧ MapBut Engine.reset [e.val, m.1] s.engines t.engines ∧ t.force = s.force) ∧
      (∀ on : Bool, ∃ t, exec (.ceHostFence u e on) s = .next t ∧ t.flag (Fld.CE_CTL_FENCE e) = on ∧ OnlyRegs [Fld.CE_CTL_FENCE e] s t) ∧
      (∃ t, exec (.ceCntClr u e) s = .next t ∧ t.rd (Fld.CE_CNT_OVR_CNT e) = 0 ∧ t.rd (Fld.CE_RUN_RUN_MAX e) = 0 ∧ t.rd (Fld.CE_ECC_CORR e) = 0 ∧
        OnlyRegs [Fld.CE_CNT_OVR_CNT e, Fld.CE_RUN_RUN_MAX e, Fld.CE_ECC_CORR e] s t) ∧
      (∃ t, exec (.dlmaxClr u e) s = .next t ∧ t.rd (Fld.CE_DLMAX_MAX_END e) = 0 ∧ OnlyRegs [Fld.CE_DLMAX_MAX_END e] s t)) ∧
    (∀ m, g.mig = some m → m.2 = true → ∃ t, exec (.migrationCopied e) s = .next t ∧
      (t.eng m.1).dmem = g.dmem ∧ t.rd (Fld.CE_MIG_COPYING e) = 0 ∧ t.rd (Fld.CE_MIG_COPIED e) = 1 ∧
      RegsBut [Fld.CE_MIG_COPYING e, Fld.CE_MIG_COPIED e] s t ∧ MapBut Engine.reset [m.1] s.engines t.engines ∧
      t = { s with regs := t.regs, engines := t.engines }) ∧
    (g.mig.any (·.2) = false → exec (.migrationCopied e) s = .next s)

/-- CONVERSION_COMPLETE (R304, R306, R314, R315), TRIGGER_GENERATOR_EVENT (R307, R308), ADC_URG (R309, R310), BACKGROUND_CAL_STEP (R311,
R312), SYSCAL_START, SYSCAL_STEP_DONE (R313), VREF_OUT_OF_WINDOW, VREF_RECOVER (R305), ADC_CNT_CLR. A slice's correction is a free
function of the model's Config (log 79). -/
def Obligations.AnalogueInputs : Prop :=
  ∀ (s : State) (u : Core) (ch : Fin 28) (gr : Fin 4),
    let k := ch.val
    let g := gr.val
    (∀ nv : Int, (s.chan k).convs = [] → exec (.conversionComplete ch nv) s = .next s) ∧
    (∀ nv : Int, ∀ c0, (s.chan k).convs.head? = some c0 → s.sysCal.run = none → ∃ t, exec (.conversionComplete ch nv) s = .next t ∧
      (let w := s.adcSwap k (max s.nowTick c0.ts)
       let c := ((w.chan k).convs.head?).getD c0
       let r := s.sliceCode k (c.slice.getD ((w.chan k).slice.getD 0)) nv
       let v := s.channelCode k r.1
       let trip := fun (one : Bool) => (s.cmpSet k one).eval (if one then (s.chan k).run1 else (s.chan k).run0) v.1 (r.2 || v.2)
       t.rd (Fld.ADC_CH_RES_CODE k) = (BitVec.ofInt 16 v.1).toNat ∧ t.flag (Fld.ADC_CH_RES_SAT k) = (r.2 || v.2) ∧
       -32768 ≤ v.1 ∧ v.1 ≤ 32767 ∧
       t.flag (Fld.ADC_CH_RES_CMP0_LIVE k) = (trip false).1 ∧ t.flag (Fld.ADC_CH_RES_CMP1_LIVE k) = (trip true).1 ∧
       ((trip false).1 = true → s.flag (Fld.ADC_CH_RES_CMP0_LIVE k) = false → bitOf (t.rd Fld.ADC_TRIP0_TRIP) k = true ∧ t.rd Fld.ADC_EVT_TRIP = 1) ∧
       ((trip true).1 = true → s.flag (Fld.ADC_CH_RES_CMP1_LIVE k) = false → bitOf (t.rd Fld.ADC_TRIP1_TRIP) k = true ∧ t.rd Fld.ADC_EVT_TRIP = 1) ∧
       ((t.chan k).results.head?.map (fun x => (x.ts, x.code, x.sat))) = some (c.ts, v.1, (r.2 || v.2)) ∧
       ((trip false).1 = s.flag (Fld.ADC_CH_RES_CMP0_LIVE k) → (trip true).1 = s.flag (Fld.ADC_CH_RES_CMP1_LIVE k) → t.rd Fld.ADC_EVT_TRIP = s.rd Fld.ADC_EVT_TRIP ∧
         t.c0 = s.c0 ∧ t.rd Fld.LPW_BLK_STAT_BLOCKED = s.rd Fld.LPW_BLK_STAT_BLOCKED))) ∧
    (∀ (j : Nat) (nv : Int), j < 7 → (s.slice (k / 7) j).coef = none →
      s.sliceCode k j nv = clampCode (roundHalfUp (nv * 32768) (if s.flag (Fld.ADC_CH_CFG_RANGE k) then 1250000000 else 2500000000))) ∧
    (∀ (c : CmpSet) (run : Nat) (code : Int) (sat : Bool),
      (c.en = false → c.eval run code sat = (false, 0)) ∧
      (c.en = true → c.sense = false → c.live = false → (c.hi < code ∨ code < c.lo ∨ sat = true) → c.n ≤ run + 1 → c.eval run code sat = (true, 0)) ∧
      (c.en = true → c.sense = false → c.live = false → (c.hi < code ∨ code < c.lo ∨ sat = true) → run + 1 < c.n → c.eval run code sat = (false, run + 1)) ∧
      (c.en = true → c.sense = false → c.live = false → c.lo ≤ code → code ≤ c.hi → sat = false → c.eval run code sat = (false, 0)) ∧
      (c.en = true → c.sense = false → c.live = true → c.lo + c.hyst ≤ code → code ≤ c.hi - c.hyst → sat = false → c.n ≤ run + 1 → c.eval run code sat = (false, 0))) ∧
    (let kind := s.rd (Fld.ADC_TG_CFG_KIND g)
     let fires := ¬ (kind = 0 ∨ (kind = 1 ∧ s.timeline.p10 * 8 ≤ s.rd (Fld.ADC_TG_PARAM_VALUE g)) ∨ (kind = 3 ∧ g ∉ s.tgDue))
     let named := decide (2 ≤ s.adcMode k ∧ s.rd (Fld.ADC_CH_CFG_TSEL k) = g)
     let due := s.nowTick + s.rd (Fld.ADC_CH_CFG_DELAY k) + s.pdnDelay k
     let had := ((s.adcCatchUp k).chan k).convs
     let busy := had.any (fun c => (c.kind == .triggered || (c.kind == .urgent && c.req != s.nowTick)) && overlaps c ⟨.triggered, due, none, s.adcLead k, s.nowTick⟩)
     (¬ fires → exec (.triggerGeneratorEvent gr) s = .next s) ∧
     (fires → named = true → busy = false → ∃ t, exec (.triggerGeneratorEvent gr) s = .next t ∧ t.tgDue = s.tgDue.filter (· != g) ∧
       (⟨.triggered, due, none, s.adcLead k, s.nowTick⟩ : AdcConv) ∈ (t.chan k).convs ∧
       t.rd (Fld.ADC_CH_CNT_TRIG_LOST k) = s.rd (Fld.ADC_CH_CNT_TRIG_LOST k)) ∧
     (fires → named = true → busy = true → ∃ t, exec (.triggerGeneratorEvent gr) s = .next t ∧ (t.chan k).convs = had ∧
       t.rd Fld.ADC_EVT_TRIG_LOST = 1 ∧ t.rd (Fld.ADC_CH_CNT_TRIG_LOST k) = min (s.rd (Fld.ADC_CH_CNT_TRIG_LOST k) + 1) (2 ^ (Fld.ADC_CH_CNT_TRIG_LOST k).width - 1)) ∧
     (fires → named = false → ∃ t, exec (.triggerGeneratorEvent gr) s = .next t ∧ t.chan k = s.chan k)) ∧
    (mayWrite u 3 = true →
      (∀ m : BitVec 28, ∃ t, exec (.adcUrg u m) s = .next t ∧
        (let had := ((s.adcCatchUp k).chan k).convs
         let conv : AdcConv := ⟨.urgent, s.nowTick + 16 + s.pdnDelay k, none, s.adcLead k, s.nowTick⟩
         let busy := decide (s.adcMode k = 1) || had.any (fun c => overlaps c conv)
         (m.getLsbD k = false ∨ s.adcMode k = 0 → t.chan k = s.chan k ∧ t.rd (Fld.ADC_CH_CNT_URG_DROP k) = s.rd (Fld.ADC_CH_CNT_URG_DROP k)) ∧
         (m.getLsbD k = true → s.adcMode k ≠ 0 → busy = false → (t.chan k).convs = insertConv conv had) ∧
         (m.getLsbD k = true → s.adcMode k ≠ 0 → busy = true → (t.chan k).convs = had ∧ t.rd Fld.ADC_EVT_URG_DROP = 1 ∧
           t.rd (Fld.ADC_CH_CNT_URG_DROP k) = min (s.rd (Fld.ADC_CH_CNT_URG_DROP k) + 1) (2 ^ (Fld.ADC_CH_CNT_URG_DROP k).width - 1))) ∧
        t = { s with regs := t.regs, hist := t.hist, log := t.log, adc := t.adc }) ∧
      (∀ (c : BitVec 5) (step : BitVec 2),
        (s.adcGuarded c.toNat = true ∨ 28 ≤ c.toNat ∨ s.adcMode c.toNat = 0 ∨ s.sysCal.run ≠ none ∨ step = 0 ∨ step = 3 ∨
          (step = 2 ∧ s.sysCal.zero.map (·.1) ≠ some c.toNat) → ∃ t, exec (.syscalStart u c step) s = .next t ∧ t.rd Fld.ADC_GSTAT_INVALID_WR = 1 ∧
          OnlyLogged [Fld.ADC_GSTAT_INVALID_WR] s t) ∧
        (s.adcGuarded c.toNat = false → c.toNat < 28 → s.adcMode c.toNat ≠ 0 → s.sysCal.run = none → (step = 1 ∨ (step = 2 ∧ s.sysCal.zero.map (·.1) = some c.toNat)) →
          ∃ t, exec (.syscalStart u c step) s = .next t ∧ t.sysCal = { run := some ⟨c.toNat, step.toNat, 0, 0⟩, zero := if step = 1 then none else s.sysCal.zero } ∧ t.rd Fld.ADC_SYSCAL_BUSY = 1 ∧
            t.rd Fld.ADC_SYSCAL_CH = c.toNat ∧ t.rd Fld.ADC_SYSCAL_STEP = step.toNat ∧
            RegsBut [Fld.ADC_SYSCAL_CH, Fld.ADC_SYSCAL_STEP, Fld.ADC_SYSCAL_BUSY] s t ∧ t = { s with regs := t.regs, sysCal := t.sysCal })) ∧
      (∃ t, exec (.adcCntClr u) s = .next t ∧ (∀ c : Fin 28, t.rd (Fld.ADC_CH_CNT_URG_DROP c) = 0 ∧ t.rd (Fld.ADC_CH_CNT_TRIG_LOST c) = 0) ∧
        OnlyRegs ((List.range 28).flatMap (fun c => [Fld.ADC_CH_CNT_URG_DROP c, Fld.ADC_CH_CNT_TRIG_LOST c])) s t)) ∧
    (∀ (o : Int) (gain : Nat),
      let bad := o < -512 ∨ 512 < o ∨ 10 * gain < 9 * 32768 ∨ 11 * 32768 < 10 * gain
      (s.idleSlices g = [] → ∃ t, exec (.backgroundCalStep gr o gain) s = .next t ∧ t.rd (Fld.ADC_GRP_FULL g) = 1 ∧ t.slices = s.slices ∧
        OnlyRegs [Fld.ADC_GRP_FULL g, Fld.ADC_GRP_SPARE g] s t) ∧
      (∀ sp, (s.showGroup g).stalestIdle g = some sp →
        (¬ bad → ∃ t, exec (.backgroundCalStep gr o gain) s = .next t ∧ t.slice g sp = ⟨some (o, gain), s.nowTick⟩ ∧ t.rd (Fld.ADC_GRP_SPARE g) = sp % 8 ∧
          MapBut AdcSlice.reset [7 * g + sp] s.slices t.slices ∧ t.chan k = { s.chan k with swap := (t.chan k).swap } ∧ (k / 7 ≠ g → t.chan k = s.chan k) ∧
          (∀ x, (t.chan k).swap = some x → (s.chan k).swap = some x ∨ x = (sp, s.nowTick)) ∧
          RegsBut [Fld.ADC_GRP_FULL g, Fld.ADC_GRP_SPARE g] s t ∧ t = { s with regs := t.regs, slices := t.slices, adc := t.adc }) ∧
        (bad → ∃ t, exec (.backgroundCalStep gr o gain) s = .next t ∧
          bitOf (t.rd (Fld.ADC_GRP_FENCED g)) sp = true ∧ t.rd Fld.ADC_EVT_SLICE_FAULT = 1 ∧ t.slices = s.slices ∧
          t.chan k = { s.chan k with swap := if k / 7 = g ∧ (s.chan k).swap.map (·.1) = some sp then none else (s.chan k).swap } ∧
          RegsBut ([Fld.ADC_GRP_FULL g, Fld.ADC_GRP_SPARE g, Fld.ADC_GRP_FENCED g, Fld.ADC_EVT_SLICE_FAULT] ++ loggedFields) s t ∧
          t = { s with regs := t.regs, hist := t.hist, log := t.log, adc := t.adc }))) ∧
    (s.sysCal.run = none → exec .syscalStepDone s = .next s) ∧
    (∀ r, s.sysCal.run = some r →
      (r.n < 1024 → exec .syscalStepDone s = .next s) ∧
      (1024 ≤ r.n → r.step = 1 → ∃ t, exec .syscalStepDone s = .next t ∧ t.sysCal = { run := none, zero := some (r.ch, roundHalfUp r.sum 1024) } ∧
        t.rd Fld.ADC_SYSCAL_BUSY = 0 ∧ t.rd Fld.ADC_EVT_SYSCAL_DONE = 1) ∧
      (1024 ≤ r.n → r.step = 2 → ∃ t, exec .syscalStepDone s = .next t ∧ t.sysCal.run = none ∧ t.rd Fld.ADC_SYSCAL_BUSY = 0 ∧
        (t.rd Fld.ADC_EVT_SYSCAL_FAIL = 1 ∧ t.rd (Fld.ADC_CH_CAL_GAIN r.ch) = s.rd (Fld.ADC_CH_CAL_GAIN r.ch) ∧ t.adc = s.adc ∨
         t.rd Fld.ADC_EVT_SYSCAL_DONE = 1 ∧ 0x6000 ≤ t.rd (Fld.ADC_CH_CAL_GAIN r.ch) ∧ t.rd (Fld.ADC_CH_CAL_GAIN r.ch) ≤ 0xA000))) ∧
    (∃ t, exec (.vrefOutOfWindow gr) s = .next t ∧ t.rd (Fld.ADC_GRP_VREF_OK g) = 0 ∧ t.rd Fld.ADC_EVT_VREF = 1 ∧
      OnlyLogged [Fld.ADC_GRP_VREF_OK g, Fld.ADC_EVT_VREF] s t) ∧
    (∃ t, exec (.vrefRecover gr) s = .next t ∧ t.rd (Fld.ADC_GRP_VREF_OK g) = 1 ∧ OnlyRegs [Fld.ADC_GRP_VREF_OK g] s t)

/-- The tandem's lines, states and commands (R322 to R325, R330, R332 to R338, R342, R346). -/
def Obligations.TandemStates : Prop :=
  ∀ (s : State) (u : Core),
    (s.tndState = 0 → exec .tkovHoldRecognised s = .next { s with tnd := { s.tnd with holdIn := true, readyIn := false } } ∧
      exec .tkovHoldLost s = .next { s with tnd := { s.tnd with holdIn := false } } ∧
      (∀ b, exec (.tkovReadyChange b) s = .next { s with tnd := { s.tnd with readyIn := b } }) ∧
      (∀ l, exec (.tandemLaneLost l) s = .next s ∧ exec (.tandemLaneRejoin l) s = .next s)) ∧
    (s.tndState ≠ 0 → ∃ t, exec .tkovHoldRecognised s = .next t ∧ t.rd Fld.TND_STAT_TWIN_HOLD = 1 ∧ t.rd Fld.TND_STAT_TWIN_READY = 0 ∧
      t.tndState = (if s.tndState = 1 then 2 else s.tndState) ∧ t.tnd.holdIn = true ∧ t.tnd.readyIn = false ∧ t.tnd.holdLost = none ∧ t.tnd.waitFrom = t.nowTick ∧
      (s.tndState ≠ 1 → OnlyRegs [Fld.TND_STAT_TWIN_HOLD, Fld.TND_STAT_TWIN_READY] s { t with tnd := s.tnd })) ∧
    (s.tndState ≠ 0 → s.flag Fld.TND_STAT_TWIN_HOLD = true → ∃ t, exec .tkovHoldLost s = .next t ∧ t.rd Fld.TND_STAT_TWIN_HOLD = 0 ∧
      t.tnd.holdIn = false ∧ t.tnd.holdLost = some s.nowTick ∧
      t.tnd.decided = (if s.tndState = 3 ∧ s.tnd.decided = none ∧ (s.tnd.yieldIn ≠ none ∨ s.flag Fld.TND_STAT_LINK_UP = false) then some s.nowTick else s.tnd.decided) ∧
      (s.rd Fld.HKP_PERT_CTL_ON = 0 → OnlyRegs [Fld.TND_STAT_TWIN_HOLD] s { t with tnd := s.tnd })) ∧
    (∀ b : Bool, s.tndState ≠ 0 → ∃ t, exec (.tkovReadyChange b) s = .next t ∧ t.tnd = { s.tnd with readyIn := b } ∧
      (t.flag Fld.TND_STAT_TWIN_READY = true ↔ b = true ∧ s.tnd.twin.map (·.state) = some 3 ∧ s.shadowFits s.timeline = true) ∧
      OnlyRegs [Fld.TND_STAT_TWIN_READY] s { t with tnd := s.tnd }) ∧
    (∃ t, exec .tkovFault s = .next t ∧
      t.rd Fld.TND_EVT_TKOV_FAULT = (if s.tndState = 3 ∧ s.flag Fld.TND_STAT_LINK_UP = true ∧ s.tnd.yieldIn = none ∧
        s.tnd.holdLost.any (fun h => decide (h + 240 ≤ s.nowTick)) = true then 1 else s.rd Fld.TND_EVT_TKOV_FAULT) ∧ OnlyLogged [Fld.TND_EVT_TKOV_FAULT] s t) ∧
    ((s.tndState = 1 ∨ s.tndState = 2) → s.waitBroken = false → s.tnd.waitFrom + s.startWait ≤ s.nowTick → ∃ t, exec .startRuleActive s = .next t ∧
      t.tndState = 4 ∧ t.rd Fld.TND_STAT_CLEAN = 0 ∧
      t.epoch = (if s.tnd.twin ≠ none ∧ epochNewer s.epoch s.twinEpoch = false then s.twinEpoch else s.epoch) + 1 ∧
      t.rd Fld.VLY_NOW2_EPOCH = t.rd Fld.TND_EPOCH_EPOCH ∧ t.tnd.hunt = some ⟨17, 0, 0⟩ ∧ t.cells = s.cells) ∧
    ((s.tndState ≠ 1 ∧ s.tndState ≠ 2) ∨ s.waitBroken = true ∨ s.nowTick < s.tnd.waitFrom + s.startWait → exec .startRuleActive s = .next s) ∧
    (∀ d, s.tnd.decided = some d → ∀ h, s.tnd.holdLost = some h →
      (s.tndState = 3 → max d (h + 400) ≤ s.nowTick → ∃ t, exec .takeoverTxEnable s = .next t ∧ t.tndState = 4 ∧ t.tnd.taking = true ∧ t.tnd.holdLost = none ∧
        t.rd Fld.TND_STAT_CLEAN = 0 ∧ t.cells = s.cells ∧ t.rd Fld.LPW_BLK_STAT_BLOCKED = s.rd Fld.LPW_BLK_STAT_BLOCKED) ∧
      (s.tndState ≠ 3 ∨ s.nowTick < max d (h + 400) → exec .takeoverTxEnable s = .next s)) ∧
    (s.tnd.decided = none ∨ s.tnd.holdLost = none → exec .takeoverTxEnable s = .next s) ∧
    (∀ (c : Fin 6) (found : Mismatch), ∃ t, exec (.yieldCondition c found) s = .next t ∧ bitOf (t.rd Fld.TND_CAUSE_LIVE) c = true ∧
      (s.tndState = 4 → bitOf (s.rd Fld.TND_CFG_YIELD_EN) c = true →
        (s.flag Fld.TND_STAT_TWIN_READY = true → t.tnd.yieldDue = some (s.tnd.yieldDue.getD (false, false)) ∧
          t.tnd.yieldAt = (if s.tnd.yieldDue = none then s.nowTick else s.tnd.yieldAt) ∧ t.tnd.mute = s.tnd.mute ∧
          t.tnd.muteHeld = (if c = 0 ∧ found = .assembler then true else s.tnd.muteHeld)) ∧
        (s.flag Fld.TND_STAT_TWIN_READY = false → t.rd Fld.TND_EVT_HELD_NO_TWIN = 1 ∧ t.tnd.yieldDue = s.tnd.yieldDue ∧
          t.tnd.mute = (if c = 0 ∧ found = .assembler then true else s.tnd.mute) ∧
          (∀ m rsn, c = 0 → found = .decision m rsn → BitVec.ofNat 8 (t.rd Fld.LPW_BLK_STAT_BLOCKED) = BitVec.ofNat 8 (s.rd Fld.LPW_BLK_STAT_BLOCKED) ||| m))) ∧
      (s.tndState ≠ 4 ∨ bitOf (s.rd Fld.TND_CFG_YIELD_EN) c = false → t.tnd = s.tnd) ∧
      (c ≠ 0 ∨ found = .assembler ∨ s.tndState ≠ 4 ∨ bitOf (s.rd Fld.TND_CFG_YIELD_EN) c = false ∨ s.flag Fld.TND_STAT_TWIN_READY = true →
        RegsBut ([Fld.TND_CAUSE_LIVE, Fld.TND_EVT_HELD_NO_TWIN] ++ loggedFields) s t ∧ t = { s with regs := t.regs, hist := t.hist, log := t.log, tnd := t.tnd })) ∧
    (s.tnd.yieldDue = none ∨ s.mayBegin = false ∨ (s.tndState = 4 ∧ s.nowTick ≤ s.tnd.yieldAt) → exec .tandemYield s = .next s) ∧
    (∀ y, s.tnd.yieldDue = some y → s.mayBegin = true →
      (s.tndState ≠ 4 → ∃ t, exec .tandemYield s = .next t ∧ t = { s with tnd := { s.tnd with yieldDue := none, muteHeld := false } }) ∧
      (s.tndState = 4 → s.tnd.yieldAt < s.nowTick → y.2 = false → s.flag Fld.TND_STAT_TWIN_READY = false → ∃ t, exec .tandemYield s = .next t ∧
        t.tndState = 4 ∧ t.rd Fld.TND_EVT_HELD_NO_TWIN = 1 ∧
        t.tnd = { s.tnd with yieldDue := none, mute := s.tnd.mute || s.tnd.muteHeld, muteHeld := false } ∧ OnlyRegs (Fld.TND_EVT_HELD_NO_TWIN :: loggedFields) s { t with tnd := s.tnd, hist := s.hist, log := s.log }) ∧
      (s.tndState = 4 → s.tnd.yieldAt < s.nowTick → y.2 = true ∨ s.flag Fld.TND_STAT_TWIN_READY = true → ∃ t, exec .tandemYield s = .next t ∧ t.tndState = 5 ∧ t.tnd.yieldDue = none ∧ t.rd Fld.TND_CAUSE_LAST = s.rd Fld.TND_CAUSE_LIVE % 2 ^ Fld.TND_CAUSE_LAST.width ∧
        t.flag Fld.TND_CAUSE_CMD = y.1 ∧ t.flag Fld.TND_CAUSE_DUAL_LOSS = y.2 ∧ t.rd Fld.TND_EVT_YIELDED = 1 ∧
        t.rd Fld.TND_CNT_YIELD_CNT = min (s.rd Fld.TND_CNT_YIELD_CNT + 1) (2 ^ Fld.TND_CNT_YIELD_CNT.width - 1) ∧
        t.tnd.yieldSent.map (·.1) = some s.epoch ∧
        (∀ n : Fin 128, s.flag (Fld.SPK_STAT_TX_AWAKE n) = true → s.flag (Fld.SPK_STAT_FENCED n) = false → s.flag (Fld.SPK_CFG_ENABLE n) = true →
          ((t.spoke n).osSent.getLast?.map (·.osid)) = some 0x7E#8 ∧ (t.spoke n).next = none ∧ t.rd (Fld.SPK_STAT_TX_AWAKE n) = 0))) ∧
    (mayWrite u 11 = true →
      (s.tndState = 4 → s.flag Fld.TND_STAT_TWIN_READY = true → ∃ t, exec (.tndSwitch u) s = .next t ∧ t.tnd.yieldDue.map (·.1) = some true ∧
        t = { s with tnd := { s.tnd with yieldDue := t.tnd.yieldDue, yieldAt := t.tnd.yieldAt } }) ∧
      (s.tndState ≠ 4 ∨ s.flag Fld.TND_STAT_TWIN_READY = false → ∃ t, exec (.tndSwitch u) s = .next t ∧ t.rd Fld.TND_EVT_REFUSED = 1 ∧ OnlyLogged [Fld.TND_EVT_REFUSED] s t) ∧
      (s.tndState = 5 → s.rd Fld.TND_CAUSE_LIVE = 0 → ∃ t, exec (.tndRejoin u) s = .next t ∧ t.tndState = 2 ∧ t.rd Fld.TND_STAT_CLEAN = 0 ∧
        t.tnd = { s.tnd with upAt := s.nowTick } ∧ t.cells = s.cells ∧ t.spokes = s.spokes) ∧
      (s.tndState ≠ 5 ∨ s.rd Fld.TND_CAUSE_LIVE ≠ 0 → ∃ t, exec (.tndRejoin u) s = .next t ∧ t.rd Fld.TND_EVT_REFUSED = 1 ∧ OnlyLogged [Fld.TND_EVT_REFUSED] s t) ∧
      (s.tndState = 4 → ∃ t, exec (.tndPartnerRst u) s = .next t ∧ t = { s with tnd := { s.tnd with resetsSent := s.tnd.resetsSent + 1 } }) ∧
      (s.tndState ≠ 4 → ∃ t, exec (.tndPartnerRst u) s = .next t ∧ t.rd Fld.TND_EVT_INVALID_WR = 1 ∧ OnlyLogged [Fld.TND_EVT_INVALID_WR] s t) ∧
      (∃ t, exec (.tndCntClr u) s = .next t ∧ t.rd Fld.TND_CNT_YIELD_CNT = 0 ∧ t.rd Fld.TND_CNT_TAKEOVER_CNT = 0 ∧ t.rd Fld.TND_CNT_SHLATE_CNT = 0 ∧
        OnlyRegs [Fld.TND_CNT_YIELD_CNT, Fld.TND_CNT_TAKEOVER_CNT, Fld.TND_CNT_SHLATE_CNT] s t) ∧
      (∃ t, exec (.tndLock u) s = .next t ∧ t.rd Fld.TND_CTL_LOCK = 1 ∧ OnlyRegs [Fld.TND_CTL_LOCK] s t) ∧
      (∀ (n : Fin 32) (base : BitVec 15) (len : BitVec 11),
        (1024 < len.toNat ∨ (len ≠ 0 ∧ (base.toNat < 0x2400 ∨ 0x8000 < base.toNat + len.toNat)) → ∃ t, exec (.tndSyncWrite u n base len) s = .next t ∧
          t.rd Fld.TND_EVT_INVALID_WR = 1 ∧ OnlyLogged [Fld.TND_EVT_INVALID_WR] s t) ∧
        (len.toNat ≤ 1024 → (len ≠ 0 → 0x2400 ≤ base.toNat ∧ base.toNat + len.toNat ≤ 0x8000) → ∃ t, exec (.tndSyncWrite u n base len) s = .next t ∧
          ((t.rd (Fld.TND_SYNC_BASE n) = base.toNat ∧ t.rd (Fld.TND_SYNC_LEN n) = len.toNat ∧ t.shadowFits t.timeline = true ∧ t.rd Fld.TND_SHBYTES_BYTES = t.shadowBytes % 2 ^ Fld.TND_SHBYTES_BYTES.width ∧
              OnlyRegs [Fld.TND_SYNC_BASE n, Fld.TND_SYNC_LEN n, Fld.TND_SHBYTES_BYTES] s t) ∨
            (t.rd Fld.TND_EVT_NOFIT = 1 ∧ s.tndState = 4 ∧ OnlyLogged [Fld.TND_EVT_NOFIT] s t))))) ∧
    (s.tndState = 2 → s.mayBeReady = true → 256 ≤ s.rd Fld.TND_STAT_CLEAN → ∃ t, exec .readyReached s = .next t ∧ t.tndState = 3 ∧
      t.tnd = { s.tnd with holdLost := none, yieldIn := none, decided := none, upAt := s.nowTick } ∧ t.cells = s.cells) ∧
    (s.tndState ≠ 2 ∨ s.mayBeReady = false ∨ s.rd Fld.TND_STAT_CLEAN < 256 → exec .readyReached s = .next s) ∧
    (s.tndState = 3 → s.tnd.decided = none → (s.mayBeReady = false ∨ 3 ≤ s.tnd.missing) → ∃ t, exec .readinessLost s = .next t ∧ t.tndState = 2 ∧
      t.rd Fld.TND_STAT_CLEAN = 0 ∧ t.tnd = s.tnd ∧ t.cells = s.cells) ∧
    (s.tndState ≠ 3 ∨ s.tnd.decided ≠ none ∨ (s.mayBeReady = true ∧ s.tnd.missing < 3) → exec .readinessLost s = .next s)

/-- TANDEM_LANE_LOST, TANDEM_LANE_REJOIN (R327), STATUS_FRAME_RECEIVE, SHADOW_FRAME_RECEIVE, YIELD_FRAME_RECEIVE (R325 to R330, R336),
DUAL_ACTIVE_DETECT (R341), EPOCH_HUNT (R340). -/
def Obligations.TandemLinkAndFrames : Prop :=
  ∀ (s : State) (l : Fin 4),
    (s.tndState ≠ 0 → s.tnd.lanes.getLsbD l = true → ∃ t, exec (.tandemLaneLost l) s = .next t ∧ t.tnd.lanes.getLsbD l = false ∧
      (∀ m : Fin 4, m ≠ l → t.tnd.lanes.getLsbD m = s.tnd.lanes.getLsbD m) ∧ t.rd Fld.TND_EVT_LANE_LOST = 1 ∧
      (t.tnd.lanes = 0 → t.rd Fld.TND_EVT_LINK_DOWN = 1 ∧ t.rd Fld.TND_STAT_LINK_UP = 0) ∧
      (t.tnd.lanes ≠ 0 → t.rd Fld.TND_EVT_LINK_DOWN = s.rd Fld.TND_EVT_LINK_DOWN ∧ t.rd Fld.TND_STAT_LINK_UP = 1) ∧
      RegsBut ([Fld.TND_EVT_LANE_LOST, Fld.TND_EVT_LINK_DOWN, Fld.TND_EVT_NOFIT, Fld.TND_STAT_LINK_UP, Fld.TND_STAT_LANES, Fld.TND_SHCAP_CAP, Fld.TND_STAT_TWIN_READY] ++ loggedFields) s t ∧
      t = { s with regs := t.regs, hist := t.hist, log := t.log, tnd := t.tnd }) ∧
    (s.tnd.lanes.getLsbD l = false → exec (.tandemLaneLost l) s = .next s) ∧
    (s.tndState ≠ 0 → ∃ t, exec (.tandemLaneRejoin l) s = .next t ∧ t.tnd.lanes.getLsbD l = true ∧ t.rd Fld.TND_STAT_LINK_UP = 1 ∧
      (∀ m : Fin 4, m ≠ l → t.tnd.lanes.getLsbD m = s.tnd.lanes.getLsbD m) ∧
      RegsBut [Fld.TND_STAT_LINK_UP, Fld.TND_STAT_LANES, Fld.TND_SHCAP_CAP, Fld.TND_STAT_TWIN_READY] s t ∧ t = { s with regs := t.regs, tnd := t.tnd }) ∧
    (∀ f : StatusFrame, s.tndState = 0 ∨ s.flag Fld.TND_STAT_LINK_UP = false ∨ f.crcOk = false → exec (.statusFrameReceive f) s = .next s) ∧
    (∀ f : StatusFrame, s.tndState ≠ 0 → s.flag Fld.TND_STAT_LINK_UP = true → f.crcOk = true → ∃ t, exec (.statusFrameReceive f) s = .next t ∧
      t.twinEpoch = f.epoch ∧ t.rd Fld.TND_TDIGEST_TWIN = f.digest.toNat % 2 ^ 32 ∧ t.rd Fld.TND_DIGEST_OWN = s.digest.toNat % 2 ^ 32 ∧
      t.flag Fld.TND_STAT_DIGEST_OK = decide (s.digest = f.digest) ∧ (s.digest ≠ f.digest → t.rd Fld.TND_EVT_DIGEST = 1) ∧
      (let hi := min (s.rd Fld.RST_FW_INFO_TVER_HI) f.tverHi
       let ok := decide (max (s.rd Fld.RST_FW_INFO_TVER_LO) f.tverLo ≤ hi)
       t.flag Fld.TND_STAT_VER_OK = ok ∧ (ok = false → t.rd Fld.TND_EVT_VERSION = 1 ∧ t.rd Fld.TND_STAT_TVER = 0) ∧
       (ok = true → t.rd Fld.TND_STAT_TVER = hi % 2 ^ Fld.TND_STAT_TVER.width)) ∧
      t.flag Fld.TND_STAT_TIME_OK = f.timeOk ∧ t.rd Fld.TND_DELTA_DELTA = f.delta.toNat ∧
      (f.role = s.rd Fld.TND_CFG_ROLE → t.rd Fld.TND_EVT_ROLE_CONFLICT = 1) ∧ t.tnd.twin = some f ∧ t.tnd.twinLocked = f.locked ∧
      (s.standby = true → t.rd Fld.VLY_NOW2_EPOCH = f.epoch.toNat) ∧ (s.standby = false → t.rd Fld.VLY_NOW2_EPOCH = s.rd Fld.VLY_NOW2_EPOCH) ∧
      t.tndState = s.tndState ∧ t.cells = s.cells ∧ t.spokes = s.spokes) ∧
    (∀ f : ShadowFrame, (s.tndState ≠ 2 ∧ s.tndState ≠ 3 ∧ s.tndState ≠ 5) ∨ s.flag Fld.TND_STAT_LINK_UP = false ∨ f.crcOk = false →
      exec (.shadowFrameReceive f) s = .next s) ∧
    (∀ f : ShadowFrame, s.standby = true → s.flag Fld.TND_STAT_LINK_UP = true → f.crcOk = true → ∃ t, exec (.shadowFrameReceive f) s = .next t ∧
      t.tnd.shadow = some f ∧ t.rd Fld.VLY_NOW2_EPOCH = f.epoch.toNat ∧
      (s.volley = f.volley ∨ s.volley = f.volley + 1 → t.volley = s.volley) ∧ (s.volley ≠ f.volley + 1 → t.volley = f.volley ∧ t.rd Fld.VLY_NOW2_SID_NOW = f.sidNow.toNat) ∧
      (s.volley = f.volley + 1 → t.rd Fld.VLY_NOW2_SID_NOW = (if s.seqr.strobe then (f.sidNow + 1).toNat else f.sidNow.toNat)) ∧
      (∀ n : Fin 128, s.flag (Fld.SPK_CFG_ENABLE n) = false → t.spoke n = s.spoke n) ∧
      (∀ n : Fin 128, s.flag (Fld.SPK_CFG_ENABLE n) = true → (f.gears.getD n (0, 0)).2 = 0 →
        t.rd (Fld.SPK_STAT_GEAR n) = (f.gears.getD n (0, 0)).1 % 8 ∧ (t.spoke n).plan = none) ∧ t.cells = s.cells ∧ t.engines = s.engines) ∧
    (∀ (crc : Bool) (ep : BitVec 16) (m : BitVec 8), s.standby = false ∨ s.flag Fld.TND_STAT_LINK_UP = false ∨ crc = false →
      exec (.yieldFrameReceive crc ep m) s = .next s) ∧
    (∀ (ep : BitVec 16) (m : BitVec 8), s.standby = true → s.flag Fld.TND_STAT_LINK_UP = true → ∃ t, exec (.yieldFrameReceive true ep m) s = .next t ∧
      t.tnd.yieldIn = some (ep, m) ∧
      (s.seqr.strobe = true → s.tnd.yieldIn = none → t.rd Fld.VLY_NOW2_SID_NOW = (s.rd Fld.VLY_NOW2_SID_NOW + 255) % 256 ∧ t.seqr.windowOpen = false) ∧
      (s.seqr.strobe = false ∨ s.tnd.yieldIn ≠ none → t.rd Fld.VLY_NOW2_SID_NOW = s.rd Fld.VLY_NOW2_SID_NOW ∧ t.seqr = s.seqr) ∧
      (s.tndState = 3 → s.tnd.holdLost ≠ none → s.tnd.decided = none → t.tnd.decided = some s.nowTick) ∧
      (s.rd Fld.HKP_PERT_CTL_ON = 0 → RegsBut [Fld.VLY_NOW2_SID_NOW] s t ∧ t = { s with regs := t.regs, tnd := t.tnd, seqr := t.seqr })) ∧
    (s.tndState ≠ 4 ∨ s.twinActive = false → exec .dualActiveDetect s = .next s) ∧
    (s.tndState = 4 → s.twinActive = true → ∃ t, exec .dualActiveDetect s = .next t ∧ t.rd Fld.TND_EVT_DUAL = 1 ∧
      (let lose := (s.tnd.twin ≠ none ∧ (epochNewer s.twinEpoch s.epoch = true ∨ (s.twinEpoch = s.epoch ∧ s.rd Fld.TND_CFG_ROLE = 2))) ∨
         (s.flag Fld.TND_STAT_LINK_UP = false ∧ s.rd Fld.TND_CFG_ROLE = 2)
       (lose → t.tnd.yieldDue.map (·.2) = some true) ∧ (¬ lose → t.tnd = s.tnd)) ∧
      RegsBut ([Fld.TND_EVT_DUAL] ++ loggedFields) s t ∧ t = { s with regs := t.regs, hist := t.hist, log := t.log, tnd := t.tnd }) ∧
    (∀ h, s.tnd.hunt = some h → s.tndState = 4 → h.left = 0 →
      (h.total < 2 * h.other → ∃ t, exec .epochHunt s = .next t ∧ t.epoch = s.epoch + 16384 ∧ t.rd Fld.VLY_NOW2_EPOCH = t.rd Fld.TND_EPOCH_EPOCH ∧
        t.rd Fld.TND_EVT_EPOCH_HUNT = 1 ∧ t.tnd = { s.tnd with hunt := some ⟨17, 0, 0⟩ } ∧ t.cells = s.cells) ∧
      (2 * h.other ≤ h.total → ∃ t, exec .epochHunt s = .next t ∧ t = { s with tnd := { s.tnd with hunt := none } })) ∧
    (s.tnd.hunt = none ∨ s.tndState ≠ 4 ∨ s.tnd.hunt.any (fun h => h.left != 0) = true → exec .epochHunt s = .next s)

/-- HIF_OPEN (R357), HIF_CLOSE, HIF_CLOSE_ABANDON (R359), the doorbells (R361), SHADOW_TAIL_POLL (R362), EVENT_RING_SPACE (R373),
MSIX_HOLD_EXPIRE and MSIX_RATE_CAP_EXPIRE (R375). -/
def Obligations.HostRings : Prop :=
  ∀ (s : State) (fn : Fin 256) (v : Reg32),
    let f := fn.val
    let rings := if s.rd (Fld.HIF_FN_CTL_LEVEL_MAX f) = 1 then [0, 1, 2] else [0, 1, 2, 3]
    let cause :=
      if s.fnReady f = false then 1
      else if rings.any (fun r => s.rd (Fld.HIF_FN_RING_BASE_LO_ADDR f r) % 4096 != 0) then 2
      else if rings.any (fun r => decide (s.rd (Fld.HIF_FN_RING_SIZE_LOG2 f r) < 4) || decide (16 < s.rd (Fld.HIF_FN_RING_SIZE_LOG2 f r))) then 3
      else if s.rd (Fld.HIF_FN_CTL_LEVEL_MAX f) = 0 then 4 else 0
    let onlyFn := fun (t : State) => MapBut HostFn.reset [f] s.host t.host ∧ RegsButIn [(fnBase f, fnBase f + 0x10000)] s t
    (s.flag (Fld.HIF_FN_STAT_FLR_BUSY f) = true ∨ s.flag (Fld.HIF_PORT_STAT_ENABLED (f / 128)) = false ∨ s.fnOpen f = true → exec (.hifOpen fn) s = .next s) ∧
    (s.flag (Fld.HIF_FN_STAT_FLR_BUSY f) = false → s.flag (Fld.HIF_PORT_STAT_ENABLED (f / 128)) = true → s.fnOpen f = false →
      (cause ≠ 0 → ∃ t, exec (.hifOpen fn) s = .next t ∧ t.rd (Fld.HIF_FN_STAT_ERROR f) = 1 ∧ t.rd (Fld.HIF_FN_STAT_ERR_CAUSE f) = cause ∧ t.fnOpen f = false ∧
        RegsBut [Fld.HIF_FN_STAT_ERROR f, Fld.HIF_FN_STAT_ERR_CAUSE f] s t ∧ MapBut HostFn.reset [f] s.host t.host ∧ t = { s with regs := t.regs, host := t.host }) ∧
      (cause = 0 → ∃ t, exec (.hifOpen fn) s = .next t ∧ t.fnOpen f = true ∧ t.rd (Fld.HIF_FN_STAT_LEVEL f) = min (s.rd (Fld.HIF_FN_CTL_LEVEL_MAX f)) 3 ∧
        t.rd (Fld.HIF_FN_STAT_ERROR f) = 0 ∧ t.rd (Fld.HIF_FN_CMD_PTR_HEAD f) = 0 ∧ t.rd (Fld.HIF_FN_CMD_PTR_TAIL f) = 0 ∧ t.rd (Fld.HIF_FN_CPL_PTR_TAIL f) = 0 ∧
        t.rd (Fld.HIF_FN_EVT_PTR_TAIL f) = 0 ∧ (t.fn f).inflight = [] ∧ (t.fn f).evtQueue = [] ∧ (t.fn f).closing = false ∧
        (t.fn f).tokens = s.capDescBurst f * 1000000000 ∧ (t.fn f).sigTokens = 64000000000 ∧ (∀ c, t.throttled f c = false) ∧
        (∀ r : Fin 4, t.rd (Fld.HIF_FN_RING_SIZE_LOG2 f r) = s.rd (Fld.HIF_FN_RING_SIZE_LOG2 f r)) ∧
        onlyFn t ∧ t = { s with regs := t.regs, host := t.host, qos := t.qos })) ∧
    (s.fnOpen f = false ∨ s.flag (Fld.HIF_FN_STAT_FLR_BUSY f) = true → exec (.hifClose fn) s = .next s) ∧
    (s.fnOpen f = true → s.flag (Fld.HIF_FN_STAT_FLR_BUSY f) = false →
      ((s.fn f).inflight ≠ [] → ∃ t, exec (.hifClose fn) s = .next t ∧ (t.fn f).closing = true ∧ (t.fn f).inflight = (s.fn f).inflight ∧
        MapBut HostFn.reset [f] s.host t.host ∧ t = { s with host := t.host }) ∧
      ((s.fn f).inflight = [] → ∃ t, exec (.hifClose fn) s = .next t ∧ t.fnOpen f = false ∧ t.rd (Fld.HIF_FN_STAT_LEVEL f) = 0 ∧ (t.fn f).closing = false ∧
        (t.fn f).evtQueue = [] ∧ (∀ x ∈ t.sec.sessions, x.fn ≠ f) ∧ (∀ x ∈ s.sec.sessions, (∀ y ∈ s.sec.sessions, y.fn = f → y.handle ≠ x.handle) → x ∈ t.sec.sessions))) ∧
    ((s.fn f).closing = false → exec (.hifCloseAbandon fn) s = .next s) ∧
    ((s.fn f).closing = true → ∃ t, exec (.hifCloseAbandon fn) s = .next t ∧ t.fnOpen f = false ∧ (t.fn f).inflight = [] ∧ (t.fn f).closing = false ∧
      (∀ x ∈ t.sec.sessions, x.fn ≠ f) ∧ (t.fn f).standing = (s.fn f).blocks ∧
      (t.fn f).held = (s.fn f).held + ((s.fn f).inflight.filter (fun x => x.at' == .reading)).length ∧
      (∀ c, (t.cell c).fresh = (s.cell c).fresh.filter (fun r => r.fn != f)) ∧ t.hostMem.cpl = s.hostMem.cpl) ∧
    (s.fnReady f = false ∨ s.flag (Fld.HIF_FN_STAT_FLR_BUSY f) = true →
      exec (.hifDbCmd fn v) s = .next s ∧ exec (.hifDbCpl fn v) s = .next s ∧ exec (.hifDbEvt fn v) s = .next s ∧ exec (.hifDbBlk fn v) s = .next s) ∧
    (s.fnReady f = true → s.flag (Fld.HIF_FN_STAT_FLR_BUSY f) = false →
      (s.fnOpen f = true →
        (v.toNat < s.ringSize f 0 → v.toNat < 65536 → ∃ t, exec (.hifDbCmd fn v) s = .next t ∧ t.rd (Fld.HIF_FN_CMD_PTR_TAIL f) = v.toNat ∧
          OnlyRegs [Fld.HIF_FN_CMD_PTR_TAIL f, Fld.HIF_FN_INFLIGHT_N f, Fld.HIF_FN_STAT_CPL_WAIT f] s t) ∧
        (s.ringSize f 0 ≤ v.toNat → ∃ t, exec (.hifDbCmd fn v) s = .next t ∧ t.rd (Fld.HIF_FN_STAT_DB_ERR f) = 1 ∧ RegsBut [Fld.HIF_FN_STAT_DB_ERR f] s t) ∧
        (headOk (s.ringSize f 1) (s.rd (Fld.HIF_FN_CPL_PTR_HEAD f)) (s.rd (Fld.HIF_FN_CPL_PTR_TAIL f)) v.toNat = true → v.toNat < 65536 →
          ∃ t, exec (.hifDbCpl fn v) s = .next t ∧ t.rd (Fld.HIF_FN_CPL_PTR_HEAD f) = v.toNat ∧
          OnlyRegs [Fld.HIF_FN_CPL_PTR_HEAD f, Fld.HIF_FN_INFLIGHT_N f, Fld.HIF_FN_STAT_CPL_WAIT f] s t) ∧
        (headOk (s.ringSize f 2) (s.rd (Fld.HIF_FN_EVT_PTR_HEAD f)) (s.rd (Fld.HIF_FN_EVT_PTR_TAIL f)) v.toNat = true → v.toNat < 65536 →
          ∃ t, exec (.hifDbEvt fn v) s = .next t ∧ t.rd (Fld.HIF_FN_EVT_PTR_HEAD f) = v.toNat ∧
          OnlyRegs [Fld.HIF_FN_EVT_PTR_HEAD f, Fld.HIF_FN_INFLIGHT_N f, Fld.HIF_FN_STAT_CPL_WAIT f] s t) ∧
        (v.toNat < s.ringSize f 3 → v.toNat < 65536 → 2 ≤ s.rd (Fld.HIF_FN_STAT_LEVEL f) → ∃ t, exec (.hifDbBlk fn v) s = .next t ∧
          t.rd (Fld.HIF_FN_BLK_PTR_TAIL f) = v.toNat ∧ OnlyRegs [Fld.HIF_FN_BLK_PTR_TAIL f, Fld.HIF_FN_INFLIGHT_N f, Fld.HIF_FN_STAT_CPL_WAIT f] s t)) ∧
      (s.fnOpen f = false → ∃ t, exec (.hifDbCpl fn v) s = .next t ∧ t.rd (Fld.HIF_FN_STAT_DB_ERR f) = 1 ∧ RegsBut [Fld.HIF_FN_STAT_DB_ERR f] s t ∧
        MapBut HostFn.reset [f] s.host t.host ∧ t = { s with regs := t.regs, host := t.host })) ∧
    (s.fnOpen f = true → s.rd (Fld.HIF_FN_STAT_LEVEL f) = 3 →
      s.tagFree f = true →
      (∃ t, exec (.shadowTailPoll fn .error) s = .next t ∧ t.rd (Fld.HIF_FN_STAT_ERROR f) = 1 ∧ t.rd (Fld.HIF_FN_STAT_ERR_CAUSE f) = 6 ∧
        RegsBut [Fld.HIF_FN_STAT_ERROR f, Fld.HIF_FN_STAT_ERR_CAUSE f] s t) ∧
      (∃ t, exec (.shadowTailPoll fn .timeout) s = .next t ∧ t.rd (Fld.HIF_FN_STAT_ERROR f) = 1 ∧ t.rd (Fld.HIF_FN_STAT_ERR_CAUSE f) = 6 ∧
        t.rd (Fld.HIF_PORT_CNT_CTO_CNT (f / 128)) = min (s.rd (Fld.HIF_PORT_CNT_CTO_CNT (f / 128)) + 1) (2 ^ (Fld.HIF_PORT_CNT_CTO_CNT (f / 128)).width - 1) ∧
        RegsBut [Fld.HIF_FN_STAT_ERROR f, Fld.HIF_FN_STAT_ERR_CAUSE f, Fld.HIF_PORT_CNT_CTO_CNT (f / 128)] s t) ∧
      (s.fnReady f = true → s.flag (Fld.HIF_FN_STAT_FLR_BUSY f) = false → v.toNat % 65536 < s.ringSize f 0 → ∃ t, exec (.shadowTailPoll fn (.tail v)) s = .next t ∧
        t.rd (Fld.HIF_FN_CMD_PTR_TAIL f) = v.toNat % 65536 ∧ OnlyRegs [Fld.HIF_FN_CMD_PTR_TAIL f, Fld.HIF_FN_INFLIGHT_N f, Fld.HIF_FN_STAT_CPL_WAIT f] s t)) ∧
    (∀ w, s.fnOpen f = false ∨ s.rd (Fld.HIF_FN_STAT_LEVEL f) ≠ 3 ∨ s.tagFree f = false → exec (.shadowTailPoll fn w) s = .next s) ∧
    (s.fnOpen f = false ∨ s.evtFree f = 0 → exec (.eventRingSpace fn) s = .next s) ∧
    (s.fnOpen f = true → 0 < s.evtFree f → (s.fn f).lostEvts = 0 → s.rd (Fld.HIF_FN_RING_SIZE_LOG2 f 2) ≤ 16 →
      s.rd (Fld.HIF_FN_EVT_PTR_TAIL f) < s.ringSize f 2 → s.rd (Fld.HIF_FN_EVT_PTR_HEAD f) < s.ringSize f 2 → ∀ e, (s.fn f).evtQueue.head? = some e → ∃ t, exec (.eventRingSpace fn) s = .next t ∧
      (FMap.get none t.hostMem.evt (65536 * f + s.rd (Fld.HIF_FN_EVT_PTR_TAIL f))).map (·.body) = some e.body ∧
      (t.fn f).evtQueue.length + min (s.evtFree f) (s.fn f).evtQueue.length = (s.fn f).evtQueue.length ∧ t.hostMem.cpl = s.hostMem.cpl) ∧
    (∀ k : Fin 4,
      let held := 0 < (s.vector f k).unsig ∧ (s.vector f k).first + 1000 * s.rd (Fld.HIF_FN_MOD_HOLD_US f k) ≤ (s.base 3).count
      (¬ held → exec (.msixHoldExpire fn k) s = .next s) ∧
      (held → ∃ t, exec (.msixHoldExpire fn k) s = .next t ∧
        ((s.vector f k).masked = false → (s.vector f k).capped = false → (t.vector f k).unsig = 0 ∧ (t.vector f k).sent = (s.vector f k).sent + 1 ∧
          (t.vector f k).capped = decide (0 < s.msixCap f k) ∧ (t.vector f k).last = some ((s.vector f k).addr, (s.vector f k).data)) ∧
        ((s.vector f k).masked = false → (s.vector f k).capped = true → t.vector f k = { s.vector f k with waits := true }) ∧
        ((s.vector f k).masked = true → (t.vector f k).unsig = 0 ∧ (t.vector f k).pending = true ∧ (t.vector f k).sent = (s.vector f k).sent) ∧ t = { s with host := t.host }) ∧
      (s.msixFree f k = false → exec (.msixRateCapExpire fn k) s = .next s) ∧
      (s.msixFree f k = true → ∃ t, exec (.msixRateCapExpire fn k) s = .next t ∧
        ((s.vector f k).waits = false → t.vector f k = { s.vector f k with capped := false }) ∧
        ((s.vector f k).waits = true → (s.vector f k).masked = false → (t.vector f k).sent = (s.vector f k).sent + 1 ∧ (t.vector f k).waits = false) ∧
        (∀ j : Fin 4, j ≠ k → t.vector f j = s.vector f j) ∧ MapBut HostFn.reset [f] s.host t.host ∧ t = { s with host := t.host }))

/-- DESCRIPTOR_FETCH (R370, R376, R384), HOST_READ_TIMEOUT (R376, R377), FUNCTION_LEVEL_RESET, FLR_COMPLETE, PORT_RESET (R377, R378),
PCIE_LINK_UP (R380). -/
def Obligations.FetchAndFunctionResets : Prop :=
  ∀ (s : State) (fn : Fin 256) (index : BitVec 16) (p : Fin 2),
    let f := fn.val
    let head := s.rd (Fld.HIF_FN_CMD_PTR_HEAD f)
    let new := ringUsed (s.ringSize f 0) head (s.rd (Fld.HIF_FN_CMD_PTR_TAIL f))
    let turn := s.wantsFetch f && !(s.aheadOf f).any s.hasToken
    let throttled := fun (g : Nat) (t : State) => t.rd (Fld.HIF_FN_STAT_THROTTLED g) = 1 ∧
      t.rd (Fld.HIF_FN_CNT_THROTTLE_CNT g) = min (s.rd (Fld.HIF_FN_CNT_THROTTLE_CNT g) + 1) (2 ^ (Fld.HIF_FN_CNT_THROTTLE_CNT g).width - 1)
    (s.wantsFetch f = true → s.fnOpen f = true ∧ (s.fn f).closing = false ∧ s.rd (Fld.HIF_FN_STAT_ERROR f) = 0 ∧ s.mayAccept f = true ∧
      head ≠ s.rd (Fld.HIF_FN_CMD_PTR_TAIL f)) ∧
    (∀ l, turn = false → exec (.descriptorFetch fn l) s = .next s) ∧
    (turn = true → ∃ t, exec (.descriptorFetch fn []) s = .next t ∧ FMap.get 127 t.qos.fetched (f / 128) = f % 128 ∧
      (∀ g : Fin 256, g.val ∈ s.aheadOf f → throttled g t) ∧ t = { s with regs := t.regs, qos := { s.qos with fetched := t.qos.fetched } }) ∧
    (turn = true → new ≠ 0 → s.tagFree f = true → (∃ t, exec (.descriptorFetch fn [.error]) s = .next t ∧ t.rd (Fld.HIF_FN_STAT_ERROR f) = 1 ∧
        t.rd (Fld.HIF_FN_STAT_ERR_CAUSE f) = 5 ∧ t.rd (Fld.HIF_FN_CMD_PTR_HEAD f) = head ∧ (t.fn f).inflight = (s.fn f).inflight) ∧
      (∃ t, exec (.descriptorFetch fn [.timeout]) s = .next t ∧ t.rd (Fld.HIF_FN_STAT_ERROR f) = 1 ∧
        t.rd (Fld.HIF_FN_STAT_ERR_CAUSE f) = 5 ∧ t.rd (Fld.HIF_FN_CMD_PTR_HEAD f) = head ∧ (t.fn f).inflight = (s.fn f).inflight ∧
        t.rd (Fld.HIF_PORT_CNT_CTO_CNT (f / 128)) = min (s.rd (Fld.HIF_PORT_CNT_CTO_CNT (f / 128)) + 1) (2 ^ (Fld.HIF_PORT_CNT_CTO_CNT (f / 128)).width - 1))) ∧
    (∀ x, turn = true → s.tagFree f = false → ∃ t, exec (.descriptorFetch fn [x]) s = .next t ∧ t.rd (Fld.HIF_FN_CMD_PTR_HEAD f) = head ∧
      t.rd (Fld.HIF_FN_STAT_ERROR f) = 0 ∧ t.host = s.host) ∧
    (∀ x : SlotRead, let d := readDescr x; turn = true → (if d.auth = 2 ∧ head + 1 ≠ s.ringSize f 0 then 2 else 1) ≤ new → s.tagFree f = true →
      ((s.refill f).allowed f d = false → ∃ t, exec (.descriptorFetch fn [.slot x]) s = .next t ∧ t.rd (Fld.HIF_FN_STAT_THROTTLED f) = 1 ∧
        t.rd (Fld.HIF_FN_CMD_PTR_HEAD f) = head ∧ (t.fn f).inflight = (s.fn f).inflight ∧
        t.rd (Fld.HIF_FN_CNT_THROTTLE_CNT f) = min (s.rd (Fld.HIF_FN_CNT_THROTTLE_CNT f) + 1) (2 ^ (Fld.HIF_FN_CNT_THROTTLE_CNT f).width - 1)) ∧
      ((s.refill f).allowed f d = true → ∃ t, exec (.descriptorFetch fn [.slot x]) s = .next t ∧ t.rd (Fld.HIF_FN_STAT_THROTTLED f) = 0 ∧
        t.rd (Fld.HIF_FN_CMD_PTR_HEAD f) = (head + (if d.auth = 2 ∧ head + 1 ≠ s.ringSize f 0 then 2 else 1)) % s.ringSize f 0 % 65536 ∧
        (let y : InFlight := { serial := (s.fn f).count, index := head, d := d, tVerify := 0, at' := .accepted, staged := none }
         let stages := s.activeOrSolo && (s.setFn f (fun h => { h with inflight := h.inflight ++ [y] })).eligible f y
         (∀ z ∈ (s.fn f).inflight, z.serial ≠ y.serial) →
         (s.checkForm f head d = none → d.auth = 0 → s.checkRest f d = none →
          (t.fn f).inflight = (s.fn f).inflight ++ [{ y with staged := match d.body with | .setpoint .. => if stages then some s.snapVolley else none | _ => none }] ∧
          (∀ c q v, d.body = .setpoint c q v → stages = true → t.setNow = FMap.set SetPoint.reset s.setNow (5 * c + q) ⟨v, s.snapVolley.setWidth 40 ||| 0x8000000000⟩) ∧
          (∀ c q v, d.body = .setpoint c q v → stages = false → t.setNow = s.setNow)) ∧
         (∀ r, s.checkForm f head d = some r → head < 65536 → (t.fn f).inflight = (s.fn f).inflight ∧ CompletedWith f y r.1 0 s t)))) ∧
    (∀ x, (s.fn f).inflight.find? (fun y => y.index == index.toNat && y.at' == .reading) = some x →
      (∃ t, exec (.hostReadTimeout fn index) s = .next t ∧ CompletedWith f x .hostTimeout 0 s t ∧
        t.rd (Fld.HIF_PORT_CNT_CTO_CNT (f / 128)) = min (s.rd (Fld.HIF_PORT_CNT_CTO_CNT (f / 128)) + 1) (2 ^ (Fld.HIF_PORT_CNT_CTO_CNT (f / 128)).width - 1))) ∧
    ((∀ y ∈ (s.fn f).inflight, y.index = index.toNat → y.at' ≠ .reading) → 0 < (s.fn f).held → ∃ t, exec (.hostReadTimeout fn index) s = .next t ∧ (t.fn f).held = (s.fn f).held - 1 ∧
      (t.fn f).inflight = (s.fn f).inflight ∧ RegsBut [Fld.HIF_PORT_TAGS_HELD (f / 128), Fld.HIF_PORT_CNT_CTO_CNT (f / 128)] s t ∧
      MapBut HostFn.reset [f] s.host t.host ∧ t = { s with regs := t.regs, host := t.host }) ∧
    ((∀ y ∈ (s.fn f).inflight, y.index = index.toNat → y.at' ≠ .reading) → (s.fn f).held = 0 → exec (.hostReadTimeout fn index) s = .next s) ∧
    (s.portAnswers (f / 128) = false → exec (.functionLevelReset fn) s = .next s) ∧
    (s.portAnswers (f / 128) = true → ∃ t, exec (.functionLevelReset fn) s = .next t ∧ FnReset f t ∧ (t.fn f).standing = (s.fn f).blocks ∧
      (f % 128 = 0 → ∀ i : Fin 127, i.val < s.rd (Fld.HIF_PORT_STAT_NUM_VF (f / 128)) → FnReset (f + 1 + i.val) t) ∧
      (f % 128 = 0 → t.rd (Fld.HIF_PORT_STAT_NUM_VF (f / 128)) = 0) ∧
      (f % 128 ≠ 0 → MapBut HostFn.reset [f] s.host t.host ∧ (∀ x ∈ s.sec.sessions, x.fn ≠ f → x ∈ t.sec.sessions)) ∧
      t.rd (Fld.HIF_PORT_CNT_FLR_CNT (f / 128)) = min (s.rd (Fld.HIF_PORT_CNT_FLR_CNT (f / 128)) + 1) (2 ^ (Fld.HIF_PORT_CNT_FLR_CNT (f / 128)).width - 1) ∧
      t.hostMem.cpl = s.hostMem.cpl ∧ t.rd Fld.VLY_NOW_VOLLEY = s.rd Fld.VLY_NOW_VOLLEY ∧ t.image = s.image) ∧
    (∃ t, exec (.flrComplete fn) s = .next t ∧ t.rd (Fld.HIF_FN_STAT_FLR_BUSY f) = 0 ∧ OnlyRegs [Fld.HIF_FN_STAT_FLR_BUSY f] s t) ∧
    (∃ t, exec (.portReset p) s = .next t ∧ (∀ i : Fin 128, FnReset (128 * p.val + i.val) t) ∧ t.rd (Fld.HIF_PORT_STAT_LINK_UP p) = 0 ∧
      t.rd (Fld.HIF_PORT_STAT_NUM_VF p) = 0 ∧ t.rd (Fld.HIF_PORT_STAT_SPEED p) = 0 ∧ t.rd (Fld.HIF_PORT_STAT_WIDTH p) = 0 ∧
      (∀ g : Nat, g / 128 ≠ p.val → t.fn g = s.fn g) ∧ t.hostMem.cpl = s.hostMem.cpl) ∧
    (∀ (sp : BitVec 3) (w : BitVec 4),
      let legal := 1 ≤ sp.toNat ∧ sp.toNat ≤ 5 ∧ (w = 1 ∨ w = 2 ∨ w = 4 ∨ w = 8)
      (s.flag (Fld.HIF_PORT_STAT_ENABLED p) = false ∨ ¬ legal → exec (.pcieLinkUp p sp w) s = .next s) ∧
      (s.flag (Fld.HIF_PORT_STAT_ENABLED p) = true → legal → ∃ t, exec (.pcieLinkUp p sp w) s = .next t ∧ t.rd (Fld.HIF_PORT_STAT_LINK_UP p) = 1 ∧
        t.rd (Fld.HIF_PORT_STAT_SPEED p) = sp.toNat ∧ t.rd (Fld.HIF_PORT_STAT_WIDTH p) = w.toNat ∧
        OnlyRegs [Fld.HIF_PORT_STAT_LINK_UP p, Fld.HIF_PORT_STAT_SPEED p, Fld.HIF_PORT_STAT_WIDTH p] s t))

/-- NOP, READ_POINTS, READ_REG, READ_LINK, STREAM_OPEN, STREAM_CLOSE (R366, R367) and BULK_BUFFER_FILL (R374). -/
def Obligations.ReadAndStreamDescriptors : Prop :=
  ∀ (s : State) (fn : Fin 256) (index : BitVec 16),
    let f := fn.val
    (s.runnable f index.toNat = none →
      exec (.hostNop fn index) s = .next s ∧ exec (.readPoints fn index) s = .next s ∧ exec (.readReg fn index) s = .next s ∧
      exec (.readLink fn index) s = .next s ∧ exec (.streamOpen fn index) s = .next s ∧ exec (.streamClose fn index) s = .next s ∧
      exec (.setpoint fn index) s = .next s ∧ ((s.fn f).standing = [] → exec (.emergencyBlock fn index) s = .next s) ∧ exec (.pointWrite fn index) s = .next s ∧
      exec (.cfgDmem fn index) s = .next s ∧ exec (.ceLoad fn index) s = .next s ∧ exec (.cellCtlRelease fn index) s = .next s ∧
      exec (.cellCtlResume fn index) s = .next s ∧ exec (.blockRelease fn index) s = .next s ∧ exec (.resetCmd fn index) s = .next s ∧
      exec (.fwStage fn index) s = .next s ∧ exec (.cfgWrite fn index) s = .next s) ∧
    (∀ x, s.runnable f index.toNat = some x →
      (x.d.body = .nop → ∃ t, exec (.hostNop fn index) s = .next t ∧ CompletedWith f x .ok 0 s t ∧ t.hostMem.data = s.hostMem.data ∧ t.engines = s.engines ∧ t.cells = s.cells) ∧
      (∀ c n p k dst len fresh, x.d.body = .readPoints c n p k dst len fresh →
        (fresh = false ∨ s.activeOrSolo = false → ∃ t, exec (.readPoints fn index) s = .next t ∧
          (let cs := ((List.range n).map (fun i => c + i)).filter (fun j => decide (j % 128 < 96))
           CompletedWith f x .ok (8 * k * cs.length) s t ∧
           t.hostMem.data = s.hostMem.data ++
             [{ fn := f, addr := dst, size := 8, words := cs.flatMap (fun j => (List.range k).map (fun i => s.imageWord j (p + i))) }]) ∧ t.image = s.image ∧ t.cells = s.cells) ∧
        (fresh = true → s.activeOrSolo = true → ∃ t, exec (.readPoints fn index) s = .next t ∧ (t.fn f).inflight.length = (s.fn f).inflight.length ∧
          ((t.fn f).inflight.find? (fun y => y.serial == x.serial)).map (·.at') = some .fresh ∧
          (t.cell c).fresh = (s.cell c).fresh ++ [⟨f, x.serial, p, 0, false⟩] ∧
          (t.spoke (c / 128)).items = (s.spoke (c / 128)).items ++ [.req { slot := c % 128, op := 0, point := p, wtag := 0, value := 0, back := false }] ∧
          MapBut Cell.reset [c] s.cells t.cells ∧ MapBut Spoke.reset [c / 128] s.spokes t.spokes ∧ t = { s with host := t.host, cells := t.cells, spokes := t.spokes })) ∧
      (∀ b o n dst, x.d.body = .readReg b o n dst → ∃ t, exec (.readReg fn index) s = .next t ∧ CompletedWith f x .ok (4 * n) s t ∧
        t.hostMem.data = s.hostMem.data ++ [{ fn := f, addr := dst, size := 4, words := (s.readWords b o n).1 }] ∧ (s.readWords b o n).1.length = n) ∧
      (∀ c n dst len, x.d.body = .readLink c n dst len → ∃ t, exec (.readLink fn index) s = .next t ∧
        (let cs := ((List.range n).map (fun i => c + i)).filter (fun j => decide (j % 128 < 96))
         CompletedWith f x .ok (16 * cs.length) s t ∧
         t.hostMem.data = s.hostMem.data ++ [{ fn := f, addr := dst, size := 8, words := cs.flatMap (fun j => s.linkRecord j) }]) ∧ t.cells = s.cells) ∧
      (∀ k src a, x.d.body = .streamOpen k src a →
        (FMap.get none (s.fn f).streams k ≠ none → ∃ t, exec (.streamOpen fn index) s = .next t ∧ CompletedWith f x .busy 0 s t ∧
          ((s.fn f).closing = false → (t.fn f).streams = (s.fn f).streams)) ∧
        (FMap.get none (s.fn f).streams k = none → src = 0 → a.toNat % 65536 < 256 →
          bitOf (s.rd (Fld.REC_D_STAT_DONE (a.toNat % 16))) (a.toNat / 16 % 8) = true → bitOf (s.rd (Fld.REC_D_STAT_READING (a.toNat % 16))) (a.toNat / 16 % 8) = false →
          (s.fn f).closing = false → ∃ t, exec (.streamOpen fn index) s = .next t ∧ CompletedWith f x .ok 0 s t ∧
            FMap.get none (t.fn f).streams k = some ⟨0, a, 0, 0, 0⟩ ∧ bitOf (t.rd (Fld.REC_D_STAT_READING (a.toNat % 16))) (a.toNat / 16 % 8) = true) ∧
        (FMap.get none (s.fn f).streams k = none → src = 0 → a.toNat % 65536 < 256 →
          (bitOf (s.rd (Fld.REC_D_STAT_DONE (a.toNat % 16))) (a.toNat / 16 % 8) = false ∨ bitOf (s.rd (Fld.REC_D_STAT_READING (a.toNat % 16))) (a.toNat / 16 % 8) = true) →
          ∃ t, exec (.streamOpen fn index) s = .next t ∧ CompletedWith f x .busy 0 s t) ∧
        (FMap.get none (s.fn f).streams k = none → src = 1 → (s.fn f).closing = false → ∃ t, exec (.streamOpen fn index) s = .next t ∧ CompletedWith f x .ok 0 s t ∧
          (FMap.get none (t.fn f).streams k).map (fun y => (y.source, y.next)) = some (1, max a.toNat s.logOldest))) ∧
      (∀ k, x.d.body = .streamClose k → ∃ t, exec (.streamClose fn index) s = .next t ∧ CompletedWith f x .ok 0 s t ∧ FMap.get none (t.fn f).streams k = none)) ∧
    (∀ b : List (BitVec 8),
      let e := readBulk b
      let posted := s.fnOpen f && decide (2 ≤ s.rd (Fld.HIF_FN_STAT_LEVEL f)) && s.rd (Fld.HIF_FN_BLK_PTR_HEAD f) != s.rd (Fld.HIF_FN_BLK_PTR_TAIL f) && !s.throttled f .c3
      let ready := fun k => match FMap.get none (s.fn f).streams k with | some st => s.streamReady st | none => false
      let pos := 65536 * f + s.rd (Fld.HIF_FN_BLK_PTR_HEAD f)
      (posted = false → exec (.bulkBufferFill fn b) s = .next s) ∧
      (posted = true → (e.len < 4096 ∨ 1048576 < e.len ∨ e.len % 64 ≠ 0) → ∃ t, exec (.bulkBufferFill fn b) s = .next t ∧
        (FMap.get none t.hostMem.blk pos).map (fun b => (b.used, b.last)) = some (0, false) ∧ t.hostMem.data = s.hostMem.data ∧
        t.rd (Fld.HIF_FN_BLK_PTR_HEAD f) = (s.rd (Fld.HIF_FN_BLK_PTR_HEAD f) + 1) % s.ringSize f 3 % 65536) ∧
      (posted = true → 4096 ≤ e.len → e.len ≤ 1048576 → e.len % 64 = 0 →
        ((List.range 8).find? ready = none → exec (.bulkBufferFill fn b) s = .next s) ∧
        (∀ k, (List.range 8).find? ready = some k → ∃ t, exec (.bulkBufferFill fn b) s = .next t ∧
          t.hostMem.data.length = s.hostMem.data.length + 1 ∧ t.hostMem.data.take s.hostMem.data.length = s.hostMem.data ∧
          (∀ w ∈ t.hostMem.data.drop s.hostMem.data.length, w.fn = f ∧ w.addr = e.addr ∧ w.size = 8 ∧ 8 * w.words.length ≤ e.len ∧
            (FMap.get none t.hostMem.blk pos).map (fun b => (b.used, b.stream)) = some (8 * w.words.length, k)) ∧
          t.rd (Fld.HIF_FN_BLK_PTR_HEAD f) = (s.rd (Fld.HIF_FN_BLK_PTR_HEAD f) + 1) % s.ringSize f 3 % 65536)))

/-- The set-point and configuration classes (R366, R367). -/
def Obligations.ControlDescriptors : Prop :=
  ∀ (s : State) (fn : Fin 256) (index : BitVec 16),
    let f := fn.val
    (∀ x, s.runnable f index.toNat = some x →
      (∀ c q v, x.d.body = .setpoint c q v →
        (x.staged = none → s.activeOrSolo = true → ∃ t, exec (.setpoint fn index) s = .next t ∧ CompletedWith f x .ok 0 s t ∧
          (x.d.csup = false → (FMap.get none t.hostMem.cpl (65536 * f + s.rd (Fld.HIF_FN_CPL_PTR_TAIL f))).map (·.volley) = some s.snapVolley) ∧
          t.setNow = FMap.set SetPoint.reset s.setNow (5 * c + q) ⟨v, s.snapVolley.setWidth 40 ||| 0x8000000000⟩ ∧ t.setSnap = s.setSnap) ∧
        (x.staged = none → s.activeOrSolo = false → ∃ t, exec (.setpoint fn index) s = .next t ∧ CompletedWith f x .standby 0 s t ∧ t.setNow = s.setNow ∧ t.setSnap = s.setSnap) ∧
        (∀ w, x.staged = some w → ∃ t, exec (.setpoint fn index) s = .next t ∧ CompletedWith f x .ok 0 s t ∧
          (x.d.csup = false → (FMap.get none t.hostMem.cpl (65536 * f + s.rd (Fld.HIF_FN_CPL_PTR_TAIL f))).map (·.volley) = some w) ∧
          t.setNow = s.setNow ∧ t.setSnap = s.setSnap)) ∧
      (∀ m, x.d.body = .emergencyBlock m → (∀ y ∈ (s.fn f).standing, y.index ≠ index.toNat) → ∃ t, exec (.emergencyBlock fn index) s = .next t ∧
        BitVec.ofNat 8 (t.rd Fld.LPW_BLK_STAT_BLOCKED) = BitVec.ofNat 8 (s.rd Fld.LPW_BLK_STAT_BLOCKED) ||| m ∧
        CompletedWith f x (if s.activeOrSolo then .ok else .okStandby) (m &&& ~~~BitVec.ofNat 8 (s.rd Fld.LPW_BLK_STAT_BLOCKED)).toNat s t ∧
        t.cells = s.cells ∧ t.image = s.image) ∧
      (∀ c p v, x.d.body = .pointWrite c p v →
        let held := (s.cell c).queue.length + (if (s.cell c).out.any (fun o => !o.w.own) then 1 else 0)
        (s.activeOrSolo = false → ∃ t, exec (.pointWrite fn index) s = .next t ∧ CompletedWith f x .standby 0 s t ∧ t.cells = s.cells) ∧
        (s.activeOrSolo = true → 4 ≤ held → ∃ t, exec (.pointWrite fn index) s = .next t ∧ CompletedWith f x .busy 0 s t ∧ t.cells = s.cells) ∧
        (s.activeOrSolo = true → held < 4 → (s.cell c).lstate.admitted? = true → ∃ t, exec (.pointWrite fn index) s = .next t ∧ CompletedWith f x .ok 0 s t ∧
          (let ws := ((t.cell c).out.map (·.w)).toList ++ (t.cell c).queue
           ∃ w ∈ ws, w.fn = f ∧ w.tag = x.d.tag ∧ w.point = p ∧ w.value = v ∧ w.own = false) ∧ MapBut Cell.reset [c] s.cells t.cells ∧ t.image = s.image) ∧
        (s.activeOrSolo = true → held < 4 → (s.cell c).lstate.admitted? = false → ∃ t, exec (.pointWrite fn index) s = .next t ∧
          t.rd Fld.VLY_EVT_WR_FAIL = 1 ∧ t.cells = s.cells ∧ (∀ y ∈ (t.fn f).inflight, y.serial ≠ x.serial))) ∧
      (∀ e a ws, x.d.body = .cfgDmem e a ws → a + ws.length ≤ 0x8000 → ∃ t, exec (.cfgDmem fn index) s = .next t ∧ CompletedWith f x .ok ws.length s t ∧
        (∀ i : Fin 16, i.val < ws.length → (t.eng e).mem (a + i.val) = ws.getD i.val 0) ∧
        (∀ i : Fin 32768, i.val < a ∨ a + ws.length ≤ i.val → (t.eng e).mem i.val = (s.eng e).mem i.val) ∧
        t.eng e = { s.eng e with dmem := (t.eng e).dmem } ∧ MapBut Engine.reset (e :: ((s.eng e).mig.map (·.1)).toList) s.engines t.engines) ∧
      (∀ e c, x.d.body = .ceLoad e c → e < 32 →
        (s.mayLoad e c = true → s.engState e = 0 ∨ s.engState e = 1) ∧
        (s.mayLoad e c = false → ∃ t, exec (.ceLoad fn index) s = .next t ∧ CompletedWith f x .range 0 s t ∧ t.engines = s.engines) ∧
        (s.mayLoad e c = true → s.demandFits (s.demandOf e c) = true → ∃ t, exec (.ceLoad fn index) s = .next t ∧
          CompletedWith f x .ok 1 s t ∧ (t.eng e).container = some c ∧ t.engState e = 1 ∧ t.rd (Fld.CE_CFG_ENABLE e) = 0 ∧ t.rd (Fld.CE_PROG_LOADED e) = 1 ∧
          (t.eng e).enable = none ∧ MapBut Engine.reset [e] s.engines t.engines) ∧
        (s.mayLoad e c = true → s.demandFits (s.demandOf e c) = false → ∃ t, exec (.ceLoad fn index) s = .next t ∧
          CompletedWith f x .nofit 0 s t ∧ t.engines = s.engines ∧ t.rd Fld.VLY_STAT_NOFIT = 1)) ∧
      (∀ c a, x.d.body = .cellCtl c a →
        (a = 0 → ∃ t, exec (.cellCtlRelease fn index) s = .next t ∧ CompletedWith f x .ok 0 s t ∧ (t.cell c).lstate = .free ∧ MapBut Cell.reset [c] s.cells t.cells ∧
          ((s.cell c).lstate ≠ .free → s.activeOrSolo = true → .mgmt (.release (c % 128)) ∈ (t.spoke (c / 128)).items)) ∧
        (a ≠ 0 → exec (.cellCtlRelease fn index) s = .next s) ∧
        (a = 1 → ∃ t, exec (.cellCtlResume fn index) s = .next t ∧ CompletedWith f x .ok 0 s t ∧ t.cells = s.cells ∧
          ((s.cell c).lstate ≠ .free → s.activeOrSolo = true → (t.spoke (c / 128)).items = (s.spoke (c / 128)).items ++ [.mgmt (.resume (c % 128))]) ∧
          ((s.cell c).lstate = .free ∨ s.activeOrSolo = false → t.spokes = s.spokes)) ∧
        (a ≠ 1 → exec (.cellCtlResume fn index) s = .next s)) ∧
      (∀ m, x.d.body = .blockRelease m → ∃ t, exec (.blockRelease fn index) s = .next t ∧
        BitVec.ofNat 8 (t.rd Fld.LPW_BLK_REL_REL) = BitVec.ofNat 8 (s.rd Fld.LPW_BLK_REL_REL) ||| (m &&& ~~~s.decidedNow) ∧
        (m &&& s.decidedNow ≠ 0 → t.rd Fld.LPW_BLK_EVT_REL_REFUSED = 1) ∧ (t.fn f).inflight.length = (s.fn f).inflight.length ∧
        ((t.fn f).inflight.find? (fun y => y.serial == x.serial)).map (·.at') = some (.release (m &&& s.decidedNow)) ∧
        (m &&& s.decidedNow = 0 → OnlyRegs [Fld.LPW_BLK_REL_REL] s { t with host := s.host })) ∧
      (∀ force, x.d.body = .reset force →
        (s.signedReset force (.cmdHost fn) = none → ∃ t, exec (.resetCmd fn index) s = .next t ∧ CompletedWith f x .notPermitted 0 s t ∧ t.rst = s.rst) ∧
        (∀ v, s.signedReset force (.cmdHost fn) = some v → ∃ t, exec (.resetCmd fn index) s = .next t ∧ t.rst = v.rst ∧ t.tnd = v.tnd ∧ t.flash = v.flash)) ∧
      (∀ off first final flash im, x.d.body = .fwStage off first final flash im →
        let other := s.staging.any (fun g => g.owner != f)
        let got := (s.staging.map (·.received)).getD 0
        (other = true → ∃ t, exec (.fwStage fn index) s = .next t ∧ CompletedWith f x .busy 0 s t ∧ t.flash = s.flash ∧ t.staging = s.staging) ∧
        (other = false → first = false → s.staging = none → ∃ t, exec (.fwStage fn index) s = .next t ∧ CompletedWith f x .notPermitted 0 s t ∧ t.flash = s.flash) ∧
        (other = false → (first = true ∨ s.staging ≠ none) → off ≠ (if first then 0 else got) → ∃ t, exec (.fwStage fn index) s = .next t ∧
          CompletedWith f x .range 0 s t ∧ t.flash = s.flash) ∧
        (other = false → (first = true ∨ s.staging ≠ none) → off = (if first then 0 else got) → 33554432 < off + x.d.bufLen → ∃ t, exec (.fwStage fn index) s = .next t ∧
          CompletedWith f x .size 0 s t ∧ t.flash = s.flash) ∧
        (other = false → (first = true ∨ s.staging ≠ none) → off = (if first then 0 else got) → off + x.d.bufLen ≤ 33554432 → final = false →
          ∃ t, exec (.fwStage fn index) s = .next t ∧ CompletedWith f x .ok 0 s t ∧ t.staging = some ⟨f, s.stageFlash flash, off + x.d.bufLen, s.nowTick⟩ ∧
            (t.flashOf (s.stageFlash flash)).stagedLen = off + x.d.bufLen ∧ MapBut Flash.reset [s.stageFlash flash] s.flash t.flash)))

/-- SESSION_OPEN, SESSION_CLOSE, SESSION_EXPIRY (R386 to R389), TEST_PERMIT, PERMIT_LAPSE (R402), FUSE_REREAD (R404). The drawn handle and
keys are free values (log 41). -/
def Obligations.SessionsAndPermits : Prop :=
  ∀ (s : State) (fn : Fin 256) (index : BitVec 16),
    let f := fn.val
    (s.actable f index.toNat = none →
      exec (.sessionOpen fn index) s = .next s ∧ exec (.sessionClose fn index) s = .next s ∧ exec (.testPermit fn index) s = .next s ∧
      (∀ v, exec (.secPolicy fn index v) s = .next s ∧ exec (.secProvision fn index v) s = .next s ∧ exec (.move2 fn index v) s = .next s ∧
        exec (.move3Reprovision fn index v) s = .next s ∧ (∀ z, exec (.move4Retire fn index v z) s = .next s ∧ exec (.debugOpen fn index v z) s = .next s)) ∧
      exec (.move0PolicyOnly fn index) s = .next s ∧ exec (.move1 fn index) s = .next s ∧ exec (.move5ClearTamper fn index) s = .next s) ∧
    (∀ x, s.runnable f index.toNat = some x →
      (∀ reply g, x.d.body = .sessionOpen reply g →
        (∀ r, s.checkGrant f g = some r → ∃ t, exec (.sessionOpen fn index) s = .next t ∧ CompletedWith f x r.1 0 s t ∧ t.rd Fld.SEC_EVT_GRANT_FAIL = 1 ∧
          t.rd Fld.SEC_CNT_GRANTFAIL_CNT = min (s.rd Fld.SEC_CNT_GRANTFAIL_CNT + 1) (2 ^ Fld.SEC_CNT_GRANTFAIL_CNT.width - 1) ∧
          ((s.fn f).closing = false → t.sec.sessions = s.sec.sessions) ∧ t.hostMem.data = s.hostMem.data) ∧
        (s.checkGrant f g = none → (s.fn f).closing = false → ∃ t, exec (.sessionOpen fn index) s = .next t ∧
          (∀ n ∈ t.sec.sessions.drop s.sec.sessions.length, n.handle ≠ 0 ∧ (∀ y ∈ s.sec.sessions, y.handle ≠ n.handle) ∧ n.fn = f ∧ n.seq = 0 ∧ n.verbs = g.verbs ∧
            n.cfgKey = g.cfgKey ∧ n.authSlot = g.authSlot ∧ n.notAfter = g.notAfter ∧
            n.key = sessionKey g.object (s.drawHandle.2.drawKey).1 s.sec.idPriv s.serial f n.handle ∧ CompletedWith f x .ok n.handle.toNat s t) ∧
          t.sec.sessions.length = s.sec.sessions.length + 1 ∧ t.sec.sessions.take s.sec.sessions.length = s.sec.sessions ∧
          t.rd Fld.SEC_SESS_OPEN = (s.sec.sessions.length + 1) % 2 ^ Fld.SEC_SESS_OPEN.width ∧ t.hostMem.data.length = s.hostMem.data.length + 1 ∧
          t.hostMem.data.getLast?.map (fun w => (w.fn, w.addr, w.words.length, w.words.take 4)) = some (f, reply, 8, words64 (Config.x25519 (s.drawHandle.2.drawKey).1 9)))) ∧
      (∀ h, x.d.body = .sessionClose h →
        ((s.sessionOf f h).isSome = true → (s.fn f).closing = false → ∃ t, exec (.sessionClose fn index) s = .next t ∧ CompletedWith f x .ok 0 s t ∧
          t.sec.sessions = s.sec.sessions.filter (fun y => y.handle != h)) ∧
        ((s.sessionOf f h).isSome = false → ∃ t, exec (.sessionClose fn index) s = .next t ∧ CompletedWith f x .noSession 0 s t)) ∧
      (∀ o, x.d.body = .testPermit o →
        (∀ r, s.checkObject [3] o = some r → ∃ t, exec (.testPermit fn index) s = .next t ∧ ObjectRefused f x r s t) ∧
        (s.checkObject [3] o = none → ∃ t, exec (.testPermit fn index) s = .next t ∧ CompletedWith f x .ok 0 s t ∧ t.rd Fld.SEC_PERMIT_IN_FORCE = 1 ∧
          t.rd Fld.SEC_PERMIT_MASK = o.mask.toNat ∧ t.rd Fld.SEC_PERMIT_ID_ID = o.serial % 2 ^ 32 ∧ t.rd Fld.SEC_PERMIT_END_END = o.time1 % 2 ^ 32 ∧
          t.sec.permit = some (o.time0, o.time1) ∧ t.fuses = s.fuses ∧ t.keyLc = s.keyLc))) ∧
    (∀ h : BitVec 16,
      (∀ y, s.sec.sessions.find? (fun y => y.handle == h) = some y →
        (y.notAfter ≤ s.tSec → ∃ t, exec (.sessionExpiry h) s = .next t ∧ t.sec.sessions = s.sec.sessions.filter (fun z => z.handle != h)) ∧
        (s.tSec < y.notAfter → exec (.sessionExpiry h) s = .next s)) ∧
      (s.sec.sessions.find? (fun y => y.handle == h) = none → exec (.sessionExpiry h) s = .next s)) ∧
    (s.sec.permit = none → exec .permitLapse s = .next s) ∧
    (∀ p, s.sec.permit = some p →
      (s.tSec < p.2 → exec .permitLapse s = .next s) ∧
      (p.2 ≤ s.tSec → ∃ t, exec .permitLapse s = .next t ∧ t.rd Fld.SEC_PERMIT_IN_FORCE = 0 ∧ t.rd Fld.SEC_PERMIT_MASK = 0 ∧ t.sec = { s.sec with permit := none } ∧
        t.rd Fld.SEC_EVT_PERMIT_END = 1 ∧ t.rd Fld.HKP_PERT_CTL_ON = 0)) ∧
    (∀ rs : List FuseRead, ∃ t, exec (.fuseReread rs) s = .next t ∧
      (∀ r ∈ rs, (r.normal ≠ r.low ∨ r.normal ≠ r.high) → bitOf (t.rd (Fld.FUS_REREAD_WORDS (r.word.val / 32))) (r.word.val % 32) = true ∧
        t.sticky r.word.val = true ∧ t.rd Fld.FUS_STAT_REREAD_FLAG = 1) ∧
      (∀ w : Fin 256, (∀ r ∈ rs, r.word = w → r.normal = r.low ∧ r.normal = r.high) → t.sticky w = s.sticky w ∧
        FMap.get 0 t.fuses.stored w.val = FMap.get 0 s.fuses.stored w.val) ∧
      (∀ w : Fin 256, t.fuse w = s.fuse w) ∧ t.fuses.otp = s.fuses.otp ∧ t.fuses.unsafeW = s.fuses.unsafeW)

/-- SEC_POLICY, SEC_PROVISION, MOVE0_POLICY_ONLY to MOVE5_CLEAR_TAMPER, DEBUG_OPEN (R392 to R405). -/
def Obligations.CustodianObjects : Prop :=
  ∀ (s : State) (fn : Fin 256) (index : BitVec 16) (verified : Bool),
    let f := fn.val
    ∀ x, s.actable f index.toNat = some x → (s.fn f).closing = false →
      let opened := fun (t : State) => CompletedWith f x .ok 0 s t ∧ (FMap.get 0 t.fuses.otp 57).getLsbD s.opens = true ∧
        t.sec.sessions = [] ∧ t.sec.idKey = false ∧ t.rd Fld.SEC_PERMIT_IN_FORCE = 0 ∧ t.rst.ordered = some 1 ∧ t.rd Fld.SEC_EVT_MOVE = 1
      let retired := fun (o : CustObject) (t : State) => CompletedWith f x .ok 0 s t ∧ (FMap.get 0 t.fuses.otp 59).getLsbD 0 = true ∧
        t.sec.sessions = [] ∧ t.sec.idKey = false ∧ t.rd Fld.SEC_PERMIT_IN_FORCE = 0 ∧ t.rst.ordered = some 3 ∧ BundleTaken o s t
      let unerased := fun (t : State) => CompletedWith f x .notPermitted 0 s t ∧ t.fuses = s.fuses ∧ t.sec.hold = true
      (x.at' = .due →
        (∀ o, x.d.body = .policy o → o.kind = 1 → o.move = 4 →
          (∃ t, exec (.move4Retire fn index verified true) s = .next t ∧ retired o t) ∧ (∃ t, exec (.move4Retire fn index verified false) s = .next t ∧ unerased t)) ∧
        (∀ o, x.d.body = .debugOpen o →
          (∃ t, exec (.debugOpen fn index verified true) s = .next t ∧ opened t) ∧ (∃ t, exec (.debugOpen fn index verified false) s = .next t ∧ unerased t))) ∧
      (x.at' ≠ .due →
      (∀ o, x.d.body = .policy o →
        (∀ r, s.checkObject [0, 1] o = some r → ∃ t, exec (.secPolicy fn index verified) s = .next t ∧ ObjectRefused f x r s t) ∧
        (s.checkObject [0, 1] o = none → o.kind = 1 → o.move = 4 → s.isServing = true → s.tndState = 4 → s.flag Fld.TND_STAT_TWIN_READY = true →
          ∃ t, exec (.move4Retire fn index verified true) s = .next t ∧ t.tnd = (s.wantYield true false).tnd ∧ t.keyLc = s.keyLc ∧ t.fuses = s.fuses ∧
            (t.fn f).inflight.length = (s.fn f).inflight.length) ∧
        (s.checkObject [0, 1] o = none → o.kind = 1 → o.move = 4 → s.isServing = true → (s.tndState ≠ 4 ∨ s.flag Fld.TND_STAT_TWIN_READY = false) →
          ∃ t, exec (.move4Retire fn index verified true) s = .next t ∧ ObjectRefused f x (.notPermitted, 40) s t) ∧
        (s.checkObject [0, 1] o = none → o.kind = 1 → o.move = 0 →
          (∃ t, exec (.move0PolicyOnly fn index) s = .next t ∧ CompletedWith f x .ok 0 s t ∧ BundleTaken o s t ∧ t.keyLc = s.keyLc ∧ t.fuses = s.fuses) ∧
          (∃ t, exec (.secPolicy fn index verified) s = .next t ∧ CompletedWith f x .ok 0 s t ∧ BundleTaken o s t ∧ t.keyLc = s.keyLc ∧ t.fuses = s.fuses)) ∧
        (s.checkObject [0, 1] o = none → o.kind = 1 → o.move = 1 → ∃ t, exec (.move1 fn index) s = .next t ∧ CompletedWith f x .ok 0 s t ∧ BundleTaken o s t ∧
          t.keyLc = 2 ∧ t.sec.sessions = [] ∧ t.rd Fld.SEC_LC_STATE = t.lifecycle ∧ t.rd Fld.SEC_EVT_MOVE = 1 ∧ t.fuses = s.fuses) ∧
        (s.checkObject [0, 1] o = none → o.kind = 1 → o.move = 2 →
          (∃ t, exec (.move2 fn index true) s = .next t ∧ CompletedWith f x .ok 0 s t ∧ BundleTaken o s t ∧ t.keyLc = 3 ∧ t.sec.sessions = [] ∧ t.rd Fld.SEC_LC_STATE = t.lifecycle) ∧
          ((∀ im, s.confirmedImage = some im → im.rollback ≤ s.rd Fld.RST_FW_RB_FUSED) → ∃ t, exec (.move2 fn index false) s = .next t ∧ CompletedWith f x .ok 0 s t ∧
            t.keyLc = 3 ∧ t.fuses = s.fuses) ∧
          (∀ im, s.confirmedImage = some im → s.rd Fld.RST_FW_RB_FUSED < im.rollback → ∃ t, exec (.move2 fn index false) s = .next t ∧
            CompletedWith f x .notPermitted 0 s t ∧ t.keyLc = s.keyLc)) ∧
        (s.checkObject [0, 1] o = none → o.kind = 1 → o.move = 3 →
          (∃ t, exec (.move3Reprovision fn index true) s = .next t ∧ CompletedWith f x .ok 0 s t ∧ t.keyLc = 1 ∧ t.sec.sessions = [] ∧
            (FMap.get 0 t.fuses.otp 58).getLsbD s.reprovs = true ∧ (∀ (g : Fin 256) (j : Fin 16), t.rd (Fld.SEC_CAP_WORD g j) = 0) ∧
            (∀ (a : Fin 4) (j : Fin 16), t.rd (Fld.SEC_AUTH_WORD a j) = 0) ∧ t.rst.ordered = some 2 ∧ t.rd Fld.SEC_POL_SERIAL_SERIAL = o.serial % 2 ^ 32) ∧
          (∃ t, exec (.move3Reprovision fn index false) s = .next t ∧ CompletedWith f x .notPermitted 0 s t ∧ t.keyLc = s.keyLc ∧ t.rd Fld.FUS_STAT_BURN_FAIL = 1)) ∧
        (s.checkObject [0, 1] o = none → o.kind = 1 → o.move = 4 → s.isServing = false →
          (∃ t, exec (.move4Retire fn index verified true) s = .next t ∧ retired o t) ∧
          (∃ t, exec (.move4Retire fn index verified false) s = .next t ∧ unerased t ∧ t.rd Fld.SEC_EVT_ZEROISE_FAIL = 1)) ∧
        (s.checkObject [0, 1] o = none → o.kind = 1 → o.move = 5 → ∃ t, exec (.move5ClearTamper fn index) s = .next t ∧ CompletedWith f x .ok 0 s t ∧ BundleTaken o s t ∧
          t.sec.tamperLock = false ∧ t.rd Fld.RST_BACKUP_STAT_TAMP_NEXT = 0 ∧ t.rd Fld.RST_BACKUP_STAT_TAMP_TOTAL = 0 ∧ t.rd Fld.SEC_EVT_MOVE = 1 ∧ t.keyLc = s.keyLc) ∧
        (s.checkObject [0, 1] o = none → o.kind = 0 →
          (∃ t, exec (.secProvision fn index true) s = .next t ∧ CompletedWith f x .ok 0 s t ∧ t.keyLc = 1 ∧ t.sec.idKey = true ∧ t.rd Fld.SEC_EVT_MOVE = 1 ∧
            (FMap.get 0 t.fuses.otp 16).getLsbD 31 = true ∧
            (∀ (i : Fin 5) (j : Fin 8), i.val < o.provKeys.length →
              FMap.get 0 t.fuses.otp (17 + 8 * i.val + j.val) = FMap.get 0 s.fuses.otp (17 + 8 * i.val + j.val) ||| BitVec.ofNat 32 (o.provKeys.getD i 0 / 2 ^ (32 * j.val)))) ∧
          (∃ t, exec (.secProvision fn index false) s = .next t ∧ CompletedWith f x .notPermitted 0 s t ∧ t.keyLc = 1 ∧
            t.rd Fld.SEC_CUST_SLOT_OK = 0 ∧ t.rd Fld.FUS_STAT_BURN_FAIL = 1 ∧ t.sec.sessions = s.sec.sessions))) ∧
      (∀ o, x.d.body = .debugOpen o → ∀ z : Bool,
        (∀ r, s.checkObject [2] o = some r → ∃ t, exec (.debugOpen fn index verified z) s = .next t ∧ ObjectRefused f x r s t) ∧
        (s.checkObject [2] o = none → s.isServing = true → s.tndState = 4 → s.flag Fld.TND_STAT_TWIN_READY = true → ∃ t, exec (.debugOpen fn index verified z) s = .next t ∧
          t.tnd = (s.wantYield true false).tnd ∧ t.fuses = s.fuses) ∧
        (s.checkObject [2] o = none → s.isServing = true → (s.tndState ≠ 4 ∨ s.flag Fld.TND_STAT_TWIN_READY = false) → o.force = false →
          ∃ t, exec (.debugOpen fn index verified z) s = .next t ∧ ObjectRefused f x (.notPermitted, 40) s t) ∧
        (s.checkObject [2] o = none → s.isServing = true → (s.tndState ≠ 4 ∨ s.flag Fld.TND_STAT_TWIN_READY = false) → o.force = true →
          ∃ t, exec (.debugOpen fn index verified z) s = .next t ∧ ((t.fn f).inflight.find? (fun y => y.serial == x.serial)).map (·.at') = some .yield ∧ t.fuses = s.fuses) ∧
        (s.checkObject [2] o = none → s.isServing = false →
          (z = true → ∃ t, exec (.debugOpen fn index verified z) s = .next t ∧ opened t) ∧
          (z = false → ∃ t, exec (.debugOpen fn index verified z) s = .next t ∧ unerased t))))

/-- Interrupt hub (R491 to R497). The two cases of a storm are those of the command's operand: a stuck level, or more pendings in the
window than RATE_CAP. -/
def Obligations.InterruptHub : Prop :=
  (∀ (s : State) (n : Fin 1024), internalSource n = false → knownSource n = true → n.val ≠ 0 →
    (s.rd (Fld.IRQ_SRC_CFG_MODE n) = 0 ∧ s.irqRaw n = true ∧ s.rd (Fld.IRQ_SRC_STAT_PENDING n) = 0 ∧ s.rd (Fld.IRQ_SRC_STAT_ACTIVE n) = 0 →
      ∃ v, exec (.irqSourcePending n) s = .next v ∧ Pends n.val s v) ∧
    (s.rd (Fld.IRQ_SRC_CFG_MODE n) = 0 ∧ (s.irqRaw n = false ∨ s.rd (Fld.IRQ_SRC_STAT_PENDING n) = 1 ∨ s.rd (Fld.IRQ_SRC_STAT_ACTIVE n) = 1) →
      exec (.irqSourcePending n) s = .next s) ∧
    ((s.rd (Fld.IRQ_SRC_CFG_MODE n) = 3 ∨ (s.rd (Fld.IRQ_SRC_CFG_MODE n) = 2 ∧ s.irqRaw n = true)) ∧ s.rd (Fld.IRQ_SRC_STAT_PENDING n) = 0 →
      ∃ v, exec (.irqSourcePending n) s = .next v ∧ Pends n.val s v) ∧
    ((s.rd (Fld.IRQ_SRC_CFG_MODE n) = 3 ∨ (s.rd (Fld.IRQ_SRC_CFG_MODE n) = 2 ∧ s.irqRaw n = true)) ∧ s.rd (Fld.IRQ_SRC_STAT_PENDING n) = 1 →
      ∃ v, exec (.irqSourcePending n) s = .next v ∧
        v.rd (Fld.IRQ_SRC_STAT_LOST n) = min (s.rd (Fld.IRQ_SRC_STAT_LOST n) + 1) 65535 ∧ OnlyRegs [Fld.IRQ_SRC_STAT_LOST n] s v)) ∧
  (∀ (s : State) (t : Fin 28) (n : Fin 1024), IsCandidate s t n →
    (∃ v, exec (.irqClaim t) s = .next v ∧ Claimed t.val n.val s v ∧ (v.irqCore t).claim = n.val + 1024 * s.irqPri n ∧
      (v.irqCore t).claimed = (s.irqCore t).claimed) ∧
    (s.flag (Fld.IRQ_SRC_CFG_VEC_EN n) = true → ∃ v, exec (.vectoredEntry t) s = .next v ∧ Claimed t.val n.val s v ∧
      (v.irqCore t).claimed = n.val + 1024 * s.irqPri n ∧
      (v.irqCore t).entry = some (s.rd (Fld.IRQ_SRC_VEC_LO_ADDR n) + s.rd (Fld.IRQ_SRC_VEC_HI_ADDR n) * 2 ^ 32)) ∧
    (s.flag (Fld.IRQ_SRC_CFG_VEC_EN n) = false → ∃ v, exec (.vectoredEntry t) s = .next v ∧ (v.irqCore t).entry = none ∧
      (v.irqCore t).stack = (s.irqCore t).stack ∧ MapBut IrqCore.reset [t.val] s.irqCores v.irqCores ∧ v = { s with irqCores := v.irqCores })) ∧
  (∀ (s : State) (t : Fin 28), (∀ n : Fin 1024, s.irqEligible t n = false) →
    (∃ v, exec (.irqClaim t) s = .next v ∧ (v.irqCore t).claim = 2 ^ 31 ∧ (v.irqCore t).stack = (s.irqCore t).stack ∧
      MapBut IrqCore.reset [t.val] s.irqCores v.irqCores ∧ v = { s with irqCores := v.irqCores }) ∧
    (∃ v, exec (.vectoredEntry t) s = .next v ∧ (v.irqCore t).entry = none ∧ (v.irqCore t).stack = (s.irqCore t).stack ∧
      MapBut IrqCore.reset [t.val] s.irqCores v.irqCores ∧ v = { s with irqCores := v.irqCores })) ∧
  (∀ (s : State) (t : Fin 28) (n : BitVec 10),
    ((s.irqCore t).stack.head?.map (·.2) = some n.toNat → ∃ v, exec (.irqEoi t n) s = .next v ∧
      v.rd (Fld.IRQ_SRC_STAT_ACTIVE n.toNat) = 0 ∧ (v.irqCore t).stack = (s.irqCore t).stack.tail ∧
      MapBut IrqCore.reset [t.val] s.irqCores v.irqCores ∧
      RegsBut [Fld.IRQ_SRC_STAT_ACTIVE n.toNat, Fld.IRQ_CORE_DEPTH t, Fld.IRQ_CORE_TOP_PRI t, Fld.IRQ_CORE_TOP_SRC t] s v ∧
      v = { s with regs := v.regs, irqCores := v.irqCores }) ∧
    ((s.irqCore t).stack.head?.map (·.2) ≠ some n.toNat → ∃ v, exec (.irqEoi t n) s = .next v ∧
      v.rd Fld.IRQ_EVT_EOI_MISMATCH = 1 ∧ OnlyLogged [Fld.IRQ_EVT_EOI_MISMATCH] s v ∧ Logs [(Fld.IRQ_EVT_EOI_MISMATCH, n.toNat)] s v)) ∧
  (∀ (s : State) (c : Fin 28) (w : Reg32),
    (w.toNat ≤ 27 → s.rd (Fld.IRQ_SRC_STAT_PENDING (288 + w.toNat)) = 0 → ∃ v, exec (.irqSwi c w) s = .next v ∧ Pends (288 + w.toNat) s v) ∧
    (27 < w.toNat → exec (.irqSwi c w) s = .next s)) ∧
  (∀ (s : State) (n : Fin 1024), n.val ≠ 1 → s.flag (Fld.IRQ_SRC_CFG_EN n) = true → s.flag (Fld.IRQ_SRC_CFG_STORM_EN n) = true →
    (s.rd (Fld.IRQ_SRC_CFG_MODE n) ≤ 1 → s.irqRaw n = true → ∃ v, exec (.irqStormMask n true) s = .next v ∧
      v.rd (Fld.IRQ_SRC_CFG_EN n) = 0 ∧ v.rd (Fld.IRQ_SRC_STAT_M_STUCK n) = 1 ∧ bitOf (v.rd (Fld.IRQ_STORMED_SRC (n.val / 32))) (n.val % 32) = true ∧
      v.rd Fld.IRQ_EVT_STORM = 1 ∧ v.rd (Fld.IRQ_SRC_STAT_PENDING 1) ≠ 0 ∧ MapBut IrqRate.reset [1] s.irqRates v.irqRates ∧
      RegsBut ([Fld.IRQ_SRC_CFG_EN n, Fld.IRQ_SRC_STAT_M_STUCK n, Fld.IRQ_STORMED_SRC (n.val / 32), Fld.IRQ_EVT_STORM, Fld.IRQ_SRC_STAT_PENDING 1] ++
        loggedFields) s v ∧ Logs [(Fld.IRQ_EVT_STORM, n.val)] s v ∧
      v = { s with regs := v.regs, hist := v.hist, log := v.log, irqRates := v.irqRates }) ∧
    ((FMap.get IrqRate.reset s.irqRates n).win = (s.base 3).count / 1000000 →
      s.rd Fld.IRQ_STORM_RATE_CAP < (FMap.get IrqRate.reset s.irqRates n).n → ∃ v, exec (.irqStormMask n false) s = .next v ∧
      v.rd (Fld.IRQ_SRC_CFG_EN n) = 0 ∧ v.rd (Fld.IRQ_SRC_STAT_M_RATE n) = 1 ∧ bitOf (v.rd (Fld.IRQ_STORMED_SRC (n.val / 32))) (n.val % 32) = true ∧
      v.rd Fld.IRQ_EVT_STORM = 1 ∧ v.rd (Fld.IRQ_SRC_STAT_PENDING 1) ≠ 0 ∧ Logs [(Fld.IRQ_EVT_STORM, n.val)] s v) ∧
    (s.rd Fld.IRQ_STORM_RATE_CAP ≥ (FMap.get IrqRate.reset s.irqRates n).n → exec (.irqStormMask n false) s = .next s))

/-- Event queues (R498 to R503, R508). An engine's queue takes its words by the same operation at a boundary or a CSR write. -/
def Obligations.EventQueues : Prop :=
  (∀ (s : State) (n : Fin 24) (w : Reg32),
    let q := 32 + n.val
    let x := s.queue q
    (0 < x.left →
      (x.orphan = true → ∃ v, exec (.evqW (.apc n) w) s = .next v ∧ queueWords v q = queueWords s q ∧ (v.queue q).left + 1 = x.left ∧
        v.rd (Fld.IRQ_EQ_CNT_ORPHAN_CNT q) = min (s.rd (Fld.IRQ_EQ_CNT_ORPHAN_CNT q) + 1) (2 ^ 32 - 1) ∧
        OnlyQueue q [Fld.IRQ_EQ_CNT_ORPHAN_CNT q] s v) ∧
      (x.orphan = false → x.ignore = true → ∃ v, exec (.evqW (.apc n) w) s = .next v ∧ queueWords v q = queueWords s q ∧
        (v.queue q).left + 1 = x.left ∧ OnlyQueue q [] s v) ∧
      (x.orphan = false → x.ignore = false → (1 < x.left ∨ s.rd (Fld.IRQ_EQ_CFG_DEST q) = 0) → ∃ v, exec (.evqW (.apc n) w) s = .next v ∧
        queueWords v q = queueWords s q ++ [w] ∧ (v.queue q).left + 1 = x.left ∧ OnlyQueue q [] s v) ∧
      (x.orphan = false → x.ignore = false → x.left = 1 → s.rd (Fld.IRQ_EQ_CFG_DEST q) = 2 → (∀ g ∈ x.groups, g ≠ []) →
        ∃ v, exec (.evqW (.apc n) w) s = .next v ∧
          queueWords v q = (queueWords s q ++ [w]).take ((queueWords s q).length + 1 - (x.item.length + 1)) ∧ (v.queue q).left = 0 ∧
          v.log = (s.logItem q (x.item ++ [w])).log ∧ MapBut EventQ.reset [q] s.eq v.eq) ∧
      (x.orphan = false → x.ignore = false → x.left = 1 → s.rd (Fld.IRQ_EQ_CFG_DEST q) = 1 → (∀ g ∈ x.groups, g ≠ []) →
        ∃ v, exec (.evqW (.apc n) w) s = .next v ∧
          queueWords v q = (queueWords s q ++ [w]).take ((queueWords s q).length + 1 - (x.item.length + 1)) ∧ (v.queue q).left = 0 ∧
          (x.item.length ≠ 2 → v.rd (Fld.IRQ_EQ_CNT_NOFWD_CNT q) = min (s.rd (Fld.IRQ_EQ_CNT_NOFWD_CNT q) + 1) (2 ^ 32 - 1) ∧
            OnlyQueue q [Fld.IRQ_EQ_CNT_NOFWD_CNT q] s v) ∧
          (x.item.length = 2 → ∀ f : Fin 256, v.fn f =
            (s.postScoped (s.engineConv q) (.program (x.item.getD 1 w) w q)).fn f))) ∧
    (x.left = 0 →
      (w.toNat / 2 ^ 28 ≠ 10 → ∃ v, exec (.evqW (.apc n) w) s = .next v ∧ v.queue q = x ∧
        v.rd (Fld.IRQ_EQ_CNT_BAD_CNT q) = min (s.rd (Fld.IRQ_EQ_CNT_BAD_CNT q) + 1) (2 ^ 32 - 1) ∧ OnlyQueue q [Fld.IRQ_EQ_CNT_BAD_CNT q] s v) ∧
      (w.toNat / 2 ^ 28 = 10 → 2048 < (queueWords s q).length + 1 + w.toNat / 2 ^ 24 % 16 → ∃ v, exec (.evqW (.apc n) w) s = .next v ∧
        queueWords v q = queueWords s q ∧ (v.queue q).left = w.toNat / 2 ^ 24 % 16 ∧ v.rd (Fld.IRQ_EQ_STAT_OVR q) = 1 ∧
        v.rd (Fld.IRQ_EQ_CNT_OVR_CNT q) = min (s.rd (Fld.IRQ_EQ_CNT_OVR_CNT q) + 1) (2 ^ 32 - 1) ∧ MapBut EventQ.reset [q] s.eq v.eq) ∧
      (w.toNat / 2 ^ 28 = 10 → (queueWords s q).length + 1 + w.toNat / 2 ^ 24 % 16 ≤ 2048 → (0 < w.toNat / 2 ^ 24 % 16 ∨ s.rd (Fld.IRQ_EQ_CFG_DEST q) = 0) →
        ∃ v, exec (.evqW (.apc n) w) s = .next v ∧ queueWords v q = queueWords s q ++ [w] ∧ (v.queue q).left = w.toNat / 2 ^ 24 % 16 ∧
          v.rd (Fld.IRQ_EQ_STAT_FILL q) = (queueWords v q).length ∧ OnlyQueue q [] s v))) ∧
  (∀ (s : State) (n : Fin 4) (w : Reg32), exec (.evqW (.mgc n) w) s = .next (s.eqWords (56 + n.val) [w])) ∧
  (∀ (s : State) (n : Fin 4) (w : Reg32), exec (.evqW (.sfc n) w) s = .next s) ∧
  (∀ (s : State) (q : Fin 60),
    (s.rd (Fld.IRQ_EQ_CFG_DEST q) = 0 → ∀ g, (s.queue q).groups.head? = some g → ∃ v, exec (.irqEqPop q) s = .next v ∧
      (∀ j : Fin 8, v.rd (Fld.IRQ_EQ_HOLD_WORD q j) = (g.getD j 0).toNat) ∧ v.rd (Fld.IRQ_EQ_POP_VALID q) = 4 * g.length % 64 ∧
      v.rd (Fld.IRQ_EQ_POP_MORE q) = (if (s.queue q).groups.tail = [] then 0 else 1) ∧ (v.queue q).groups = (s.queue q).groups.tail ∧
      OnlyQueue q ([Fld.IRQ_EQ_POP_VALID q, Fld.IRQ_EQ_POP_MORE q] ++ (List.range 8).map (fun j => Fld.IRQ_EQ_HOLD_WORD q j)) s v) ∧
    ((s.rd (Fld.IRQ_EQ_CFG_DEST q) ≠ 0 ∨ (s.queue q).groups = []) → ∃ v, exec (.irqEqPop q) s = .next v ∧
      v.rd (Fld.IRQ_EQ_POP_VALID q) = 0 ∧ v.rd (Fld.IRQ_EQ_POP_MORE q) = 0 ∧ OnlyRegs [Fld.IRQ_EQ_POP_VALID q, Fld.IRQ_EQ_POP_MORE q] s v) ∧
    (∀ u : Core, mayWrite u 16 = true →
      (∃ v, exec (.eqFlush u q) s = .next v ∧ (v.queue q).groups = [] ∧ (v.queue q).left = (s.queue q).left ∧
        v.rd (Fld.IRQ_EQ_STAT_FILL q) = 0 ∧ (0 < (s.queue q).left → v.rd (Fld.IRQ_EQ_STAT_ORPHANING q) = 1) ∧ OnlyQueue q [] s v) ∧
      (∃ v, exec (.eqCntClr u q) s = .next v ∧ v.rd (Fld.IRQ_EQ_CNT_OVR_CNT q) = 0 ∧ v.rd (Fld.IRQ_EQ_CNT_ORPHAN_CNT q) = 0 ∧
        v.rd (Fld.IRQ_EQ_CNT_BAD_CNT q) = 0 ∧ v.rd (Fld.IRQ_EQ_CNT_NOFWD_CNT q) = 0 ∧
        OnlyRegs [Fld.IRQ_EQ_CNT_OVR_CNT q, Fld.IRQ_EQ_CNT_ORPHAN_CNT q, Fld.IRQ_EQ_CNT_BAD_CNT q, Fld.IRQ_EQ_CNT_NOFWD_CNT q] s v)))

/-- Recorder (R509 to R519). `recMayEnable` is the check of R509; memory must fit as R416 says. -/
def Obligations.RecorderCommands : Prop :=
  (∀ (s : State) (u : Core) (d : Fin 16), mayWrite u 14 = true →
    (s.rd (Fld.REC_D_CFG_ENABLE d) = 0 → s.recMayEnable d = true →
      (s.wr (Fld.REC_D_CFG_ENABLE d) 1).memoryFits (s.wr (Fld.REC_D_CFG_ENABLE d) 1).timeline = true →
      (∀ k, s.freeSeg d = some k → ∃ v, exec (.recEnable u d) s = .next v ∧ v.rd (Fld.REC_D_CFG_ENABLE d) = 1 ∧
        v.rd (Fld.REC_D_STAT_STATE d) = 1 ∧ v.rd (Fld.REC_D_STAT_SEG d) = k % 8 ∧ bitOf (s.rd (Fld.REC_D_STAT_DONE d)) k = false ∧
        (∀ j, j < k → bitOf (s.rd (Fld.REC_D_STAT_DONE d)) j = true) ∧
        (v.recd d).entries = [] ∧ (v.recd d).armed = s.volley ∧ (v.recd d).trigger = none ∧ (v.recd d).stage = [] ∧
        MapBut RecDef.reset [d.val] s.recs v.recs ∧
        RegsBut [Fld.REC_D_CFG_ENABLE d, Fld.REC_D_STAT_STATE d, Fld.REC_D_STAT_SEG d, Fld.REC_D_PEAK_BYTES d] s v ∧
        v = { s with regs := v.regs, recs := v.recs, captures := v.captures }) ∧
      (s.freeSeg d = none → ∃ v, exec (.recEnable u d) s = .next v ∧ v.rd (Fld.REC_D_CFG_ENABLE d) = 1 ∧ v.rd (Fld.REC_D_STAT_STATE d) = 4 ∧
        v.rd Fld.REC_EVT_FULL = 1 ∧ v.captures = s.captures)) ∧
    (s.rd (Fld.REC_D_CFG_ENABLE d) ≠ 0 ∨ s.recMayEnable d = false → ∃ v, exec (.recEnable u d) s = .next v ∧ v.rd Fld.REC_EVT_INVALID_WR = 1 ∧
      OnlyLogged [Fld.REC_EVT_INVALID_WR] s v ∧ Logs [(Fld.REC_EVT_INVALID_WR, d.val)] s v) ∧
    (s.rd (Fld.REC_D_CFG_ENABLE d) = 0 → s.recMayEnable d = true →
      (s.wr (Fld.REC_D_CFG_ENABLE d) 1).memoryFits (s.wr (Fld.REC_D_CFG_ENABLE d) 1).timeline = false →
      ∃ v, exec (.recEnable u d) s = .next v ∧ v.rd Fld.REC_EVT_NOFIT = 1 ∧ v.rd (Fld.REC_D_CFG_ENABLE d) = 0 ∧ v.recs = s.recs ∧ v.captures = s.captures) ∧
    (∃ v, exec (.recDisable u d) s = .next v ∧ v.rd (Fld.REC_D_CFG_ENABLE d) = 0 ∧ v.rd (Fld.REC_D_STAT_STATE d) = 0 ∧ v.recd d = RecDef.reset ∧
      MapBut RecDef.reset [d.val] s.recs v.recs ∧ RegsBut [Fld.REC_D_CFG_ENABLE d, Fld.REC_D_STAT_STATE d] s v ∧
      v = { s with regs := v.regs, recs := v.recs }) ∧
    (∃ v, exec (.recCntClr u) s = .next v ∧ (∀ e : Fin 16, v.rd (Fld.REC_D_CNT_GAP_CNT e) = 0 ∧ v.rd (Fld.REC_D_CNT_IGN_CNT e) = 0) ∧
      OnlyRegs ((List.range 16).flatMap (fun e => [Fld.REC_D_CNT_GAP_CNT e, Fld.REC_D_CNT_IGN_CNT e])) s v) ∧
    (∀ m : BitVec 16, ∃ v, exec (.recHostTrig u m) s = .next v ∧
      (∀ e : Fin 16, v.recd e = { s.recd e with fires := (s.recd e).fires ++
        (if s.recState e ≠ 0 ∧ bitOf (s.rd (Fld.REC_D_TRIG_SRC e)) 3 = true ∧ m.getLsbD e = true then [⟨3, 0, s.ts32 3, s.volley, s.recState e⟩] else []) }) ∧
      v = { s with recs := v.recs })) ∧
  (∀ (s : State) (d : Fin 16),
    (s.recState d = 1 → s.rd (Fld.REC_D_LEN_PRE_V d) ≤ (s.volley - (s.recd d).armed).toNat → ∃ v, exec (.recArmed d) s = .next v ∧
      v.rd (Fld.REC_D_STAT_STATE d) = 2 ∧ OnlyRegs [Fld.REC_D_STAT_STATE d] s v) ∧
    (s.recState d ≠ 1 ∨ (s.volley - (s.recd d).armed).toNat < s.rd (Fld.REC_D_LEN_PRE_V d) → exec (.recArmed d) s = .next s) ∧
    (s.recState d = 2 → (s.recd d).fires ≠ [] → (∀ y ∈ (s.recd d).fires, y.state = 2) → ∃ v, exec (.recTrigger d) s = .next v ∧
      v.rd (Fld.REC_D_STAT_STATE d) = 3 ∧ (v.recd d).fires = [] ∧ v.rd (Fld.REC_D_CNT_IGN_CNT d) = s.rd (Fld.REC_D_CNT_IGN_CNT d) ∧
      (∃ x ∈ (s.recd d).fires, (v.recd d).trigger = some x ∧ (∀ y ∈ (s.recd d).fires.head?, x.ts = y.ts) ∧
        (∀ y ∈ (s.recd d).fires, y.ts = x.ts → x.source ≤ y.source) ∧
        (∀ e : Fin 16, e ≠ d → (v.recd e).fires = (s.recd e).fires ++
          (if x.source ≠ 4 ∧ s.recState e ≠ 0 ∧ bitOf (s.rd (Fld.REC_D_TRIG_SRC e)) 4 = true ∧ bitOf (s.rd (Fld.REC_D_TCROSS_DEF e)) d = true then
            [⟨4, d.val, x.ts, x.volley, s.recState e⟩] else []))) ∧
      v.captures = s.captures ∧ (∀ e : Fin 16, e ≠ d → v.recState e = s.recState e)) ∧
    (s.recState d = 1 ∨ s.recState d = 4 ∨ (s.recState d = 2 ∧ ∀ y ∈ (s.recd d).fires, y.state ≠ 2) → ∃ v, exec (.recTrigger d) s = .next v ∧ v.recState d = s.recState d ∧ (v.recd d).fires = [] ∧
      (let n := ((s.recd d).fires.filter (fun x => x.state == 1 || x.state == 4)).length
       v.rd (Fld.REC_D_CNT_IGN_CNT d) = (if n = 0 then s.rd (Fld.REC_D_CNT_IGN_CNT d) else min (s.rd (Fld.REC_D_CNT_IGN_CNT d) + n) (2 ^ 32 - 1))) ∧
      (v.recd d).trigger = (s.recd d).trigger ∧ MapBut RecDef.reset [d.val] s.recs v.recs ∧
      OnlyRegs [Fld.REC_D_CNT_IGN_CNT d, Fld.REC_D_PEAK_BYTES d, Fld.REC_D_CNT_GAP_CNT d] s { v with recs := s.recs }) ∧
    (∀ g, (s.recd d).trigger = some g → s.recState d = 3 → s.rd (Fld.REC_D_LEN_POST_V d) < (s.volley - g.volley).toNat →
      s.rd (Fld.REC_D_STAT_SEG d) < 8 → ∃ v, exec (.recPostEnd d) s = .next v ∧
      (∃ c, FMap.get none v.captures (s.segAddr d (s.rd (Fld.REC_D_STAT_SEG d))) = some c ∧ c.d = d.val ∧ c.seg = s.rd (Fld.REC_D_STAT_SEG d) ∧
        c.source = 2 ^ g.source ∧ c.trigVolley = g.volley ∧ c.trigTs = g.ts ∧ c.lastVolley = g.volley + BitVec.ofNat 32 (s.rd (Fld.REC_D_LEN_POST_V d)) ∧
        c.bytes = 16 * c.entries.length ∧ c.gaps = decide (0 < (s.recd d).lost) ∧ c.lost = (s.recd d).lost ∧
        (∀ e ∈ c.entries, (g.volley - (s.recd d).armed).toNat ≤ (e.volley - (s.recd d).armed).toNat + s.rd (Fld.REC_D_LEN_PRE_V d)) ∧
        c.entries.length ≤ ((s.recd d).drain (s.segCap d)).entries.length) ∧
      v.rd Fld.REC_EVT_DONE = 1 ∧ bitOf (v.rd (Fld.REC_D_STAT_DONE d)) (s.rd (Fld.REC_D_STAT_SEG d)) = true ∧
      (v.recState d = 1 ∨ v.recState d = 4 ∧ v.rd Fld.REC_EVT_FULL = 1) ∧ (v.recd d).entries = [] ∧ (v.recd d).trigger = none) ∧
    (s.recState d ≠ 3 → exec (.recPostEnd d) s = .next s) ∧
    (∀ g, (s.recd d).gap = some g → s.rd Fld.QOS_STAT_SHED = 0 → ∃ v, exec (.gapEntryWrite d) s = .next v ∧ (v.recd d).gap = none ∧
      (v.recd d).stage = [] ∧ (v.recd d).entries.getLast? = some ⟨g.first, 0xF0, 0, 0, BitVec.ofNat 64 (g.count + g.last.toNat * 2 ^ 32), s.volley⟩ ∧
      v.rd Fld.REC_EVT_GAP = 1 ∧ MapBut RecDef.reset [d.val] s.recs v.recs ∧ OnlyLogged [Fld.REC_EVT_GAP] s { v with recs := s.recs }) ∧
    ((s.recd d).gap = none → exec (.gapEntryWrite d) s = .next s))

/-- Maintenance (R526 to R529) and the security counters' clear (R406). -/
def Obligations.ServiceCommands : Prop :=
  (∀ (s : State) (u : Core) (i : BitVec 7) (p : Bool), mayWrite u 13 = true →
    (s.spokeHealed i.toNat = true → ∃ v, exec (.hkpLift u 0 i p) s = .next v ∧ (v.spoke i.toNat).fenceWant = none ∧
      MapBut Spoke.reset [i.toNat] s.spokes v.spokes ∧ RegsBut [Fld.HKP_LIFT_KIND, Fld.HKP_LIFT_INDEX] s v ∧
      v = { s with regs := v.regs, spokes := v.spokes }) ∧
    (i.toNat < 32 → (s.eng i.toNat).fenceCause = some 4 → ∃ v, exec (.hkpLift u 1 i p) s = .next v ∧ (v.eng i.toNat).fenceWant = none ∧
      MapBut Engine.reset [i.toNat] s.engines v.engines ∧ RegsBut [Fld.HKP_LIFT_KIND, Fld.HKP_LIFT_INDEX] s v ∧
      v = { s with regs := v.regs, engines := v.engines }) ∧
    (i.toNat < 24 → s.coreFenced i.toNat = true → p = true → ∃ v, exec (.hkpLift u 2 i p) s = .next v ∧ i.toNat ∈ v.sch.lifting ∧
      RegsBut [Fld.HKP_LIFT_KIND, Fld.HKP_LIFT_INDEX] s v ∧ v = { s with regs := v.regs, sch := { s.sch with lifting := v.sch.lifting } }) ∧
    (∀ k : BitVec 2, (k = 0 ∧ s.spokeHealed i.toNat = false) ∨ (k = 1 ∧ (32 ≤ i.toNat ∨ (s.eng i.toNat).fenceCause ≠ some 4)) ∨
        (k = 2 ∧ (24 ≤ i.toNat ∨ s.coreFenced i.toNat = false ∨ p = false)) →
      ∃ v, exec (.hkpLift u k i p) s = .next v ∧ v.rd Fld.HKP_SVC_EVT_LIFT_REFUSED = 1 ∧
        OnlyLogged [Fld.HKP_LIFT_KIND, Fld.HKP_LIFT_INDEX, Fld.HKP_SVC_EVT_LIFT_REFUSED] s v) ∧
    (∃ v, exec (.hkpLift u 3 i p) s = .next v ∧ v.rd Fld.HKP_SVC_EVT_INVALID_WR = 1 ∧ OnlyLogged [Fld.HKP_SVC_EVT_INVALID_WR] s v ∧
      Logs [(Fld.HKP_SVC_EVT_INVALID_WR, 0)] s v)) ∧
  (∀ (s : State) (e : Fin 32),
    let ailing := s.flag Fld.HKP_SVC_CFG_AUTO_MIG = true ∧ s.engState e = 2 ∧
      (s.rd Fld.HKP_SVC_CFG_CE_CORR_LIMIT < (lastHour s.secondsNow (s.eng e).corrAt).length ∨ 2 ≤ (lastHour s.secondsNow (s.eng e).ueccAt).length)
    (¬ ailing → exec (.autoMigration e) s = .next s) ∧
    (ailing → (∀ t : Fin 32, s.engState t ≠ 0) → ∃ v, exec (.autoMigration e) s = .next v ∧ v.rd Fld.HKP_SVC_EVT_NO_SPARE_CE = 1 ∧
      OnlyLogged [Fld.HKP_SVC_EVT_NO_SPARE_CE] s v) ∧
    (∀ t : Fin 32, ailing → s.engState t = 0 → (∀ t' : Fin 32, t'.val < t.val → s.engState t' ≠ 0) →
      let w := s.wrs [(Fld.CE_MIG_TARGET e, t.val), (Fld.CE_MIG_COPY e, 1)]
      (∀ c, (s.eng e).container = some c → w.admits (fun v => v.migrating e t true c) = true → ∃ v, exec (.autoMigration e) s = .next v ∧
        v.rd (Fld.CE_MIG_TARGET e) = t.val ∧ v.rd (Fld.CE_MIG_COPY e) = 1 ∧ v.engState e = 3 ∧ v.engState t = 4 ∧ v.rd (Fld.CE_MIG_COPYING e) = 1 ∧
        (v.eng e).mig = some (t.val, true) ∧ (v.eng e).autoMig = true ∧ (v.eng t).container = some c ∧ v.rd Fld.HKP_SVC_EVT_MIGRATE = 1 ∧
        MapBut Engine.reset [e.val, t.val] s.engines v.engines) ∧
      ((s.eng e).container = none ∨ (∀ c, (s.eng e).container = some c → w.admits (fun v => v.migrating e t true c) = false) →
        ∃ v, exec (.autoMigration e) s = .next v ∧ v.engState e = 2 ∧ v.engState t = 0 ∧ v.engines = s.engines ∧
          v.rd Fld.HKP_SVC_EVT_NO_SPARE_CE = 1 ∧ v.rd (Fld.CE_EVT_MIG_FAIL e) = 1))) ∧
  (∀ (s : State) (c : Fin 24),
    (s.coreFenced c = true → exec (.apcFence c) s = .next s) ∧
    (s.coreFenced c = false → s.running c < 4072 ∨ s.idle c = true → ∃ v, exec (.apcFence c) s = .next v ∧ v.coreFenced c = true ∧
      v.running c = (if s.idle c then s.running c else 4072 + c.val) ∧ v.idle c = true ∧
      (s.idle c = false → v.taskState (s.running c) = 1 ∧ (v.task (s.running c)).ret = none) ∧ v.slotOf c = none ∧ c.val ∉ v.sch.lifting ∧
      v.rd Fld.HKP_SVC_EVT_FENCE = 1 ∧ (∀ d : Fin 24, d ≠ c → v.coreFenced d = s.coreFenced d ∧ v.running d = s.running d) ∧
      v = { s with regs := v.regs, sch := v.sch, hist := v.hist, log := v.log, freeCtr := v.freeCtr })) ∧
  (∀ (s : State) (u : Core), mayWrite u 9 = true → ∃ v, exec (.secCntClr u) s = .next v ∧
    v.rd Fld.SEC_CNT_MACOK_CNT = 0 ∧ v.rd Fld.SEC_CNT_MACFAIL_CNT = 0 ∧ v.rd Fld.SEC_CNT_SIGOK_CNT = 0 ∧ v.rd Fld.SEC_CNT_SIGFAIL_CNT = 0 ∧
    v.rd Fld.SEC_CNT_REPLAY_CNT = 0 ∧ v.rd Fld.SEC_CNT_GRANTFAIL_CNT = 0 ∧ v.rd Fld.SEC_CNT_OBJFAIL_CNT = 0 ∧
    OnlyRegs [Fld.SEC_CNT_MACOK_CNT, Fld.SEC_CNT_MACFAIL_CNT, Fld.SEC_CNT_SIGOK_CNT, Fld.SEC_CNT_SIGFAIL_CNT, Fld.SEC_CNT_REPLAY_CNT,
      Fld.SEC_CNT_GRANTFAIL_CNT, Fld.SEC_CNT_OBJFAIL_CNT] s v)

/-- Selection (R486) and preemption (R490). -/
def Obligations.TaskSelection : Prop :=
  (∀ (s : State) (c : Fin 24) (t : Nat), s.selectFor c (fun t => !s.slottedElsewhere c t) = some t →
    s.flag Fld.SCH_CFG_EN = true ∧ s.coreFenced c = false ∧
    ∃ p : Fin 32, t ∈ s.readyList p ∧ mayRun s c t = true ∧
      (∀ q : Fin 32, p < q → ∀ x ∈ s.readyList q, mayRun s c x = false) ∧
      (freshOn s c t = true → (((s.readyList p).takeWhile (fun x => x != t)).all (fun x => !(mayRun s c x && freshOn s c x))) = true) ∧
      (freshOn s c t = false → (∀ x ∈ s.readyList p, mayRun s c x = true → freshOn s c x = false) ∧
        (((s.readyList p).takeWhile (fun x => x != t)).all (fun x => !(mayRun s c x))) = true)) ∧
  (∀ (s : State) (c : Fin 24), s.selectFor c (fun t => !s.slottedElsewhere c t) = none → s.flag Fld.SCH_CFG_EN = true → s.coreFenced c = false →
    ∀ p : Fin 32, ∀ t ∈ s.readyList p, mayRun s c t = false) ∧
  (∀ (s : State) (c : Fin 24), s.flag Fld.SCH_CFG_EN = false ∨ s.coreFenced c = true → s.selectFor c (fun t => !s.slottedElsewhere c t) = none ∧
    s.nextTask c = none) ∧
  (∀ (s : State) (c : Fin 24), s.flag Fld.SCH_CFG_EN = true → s.coreFenced c = false → (∀ t, s.slotOf c = some t → s.nextTask c = some t) ∧
    (s.slotOf c = none → s.nextTask c = s.selectFor c (fun t => !s.slottedElsewhere c t))) ∧
  (∀ (s : State) (t : Nat),
    let able := fun (c : Nat) => bitOf (s.rd (Fld.SCH_TASK_AFF_AFF t)) c && !s.coreFenced c && (s.idle c || decide (s.rd (Fld.SCH_CORE_RUN_PRI c) < s.taskPri t))
    (∀ c : Nat, s.preemptCore t = some c → c < 24 ∧ able c = true ∧
      (∀ d : Fin 24, able d = true →
        (s.idle d = true → s.idle c = true) ∧
        (s.idle d = false → s.idle c = false → s.rd (Fld.SCH_CORE_RUN_PRI c) ≤ s.rd (Fld.SCH_CORE_RUN_PRI d)) ∧
        ((s.idle c = s.idle d ∧ (s.idle c = true ∨ s.rd (Fld.SCH_CORE_RUN_PRI c) = s.rd (Fld.SCH_CORE_RUN_PRI d))) →
          s.rd (Fld.SCH_TASK_CFG_LAST t) = c ∨ (s.rd (Fld.SCH_TASK_CFG_LAST t) ≠ d.val ∧ c ≤ d.val)))) ∧
    (s.preemptCore t = none → ∀ d : Fin 24, able d = false))

/-- Switching commands (R488) on a core that runs a task outside any handler; the premise TasksSound is the invariant stated on its
own. -/
def Obligations.SwitchingCommands : Prop :=
  (∀ (s : State) (c : Fin 24) (task : BitVec 12) (list : Bool) (arg : BitVec 24), TasksSound s → s.idle c = false → (s.irqCore c).stack = [] →
    let t := s.running c
    (∃ v, exec (.schYield c task list arg 0) s = .next v ∧
      let u : State := ((s.wr (Fld.SCH_TASK_CFG_STATE t) 2).setTask t (fun _ => ⟨s.nowTick, some 0⟩)).setReady (s.taskPri t) (· ++ [t])
      SwitchedTo c t (u.selectFor c (fun x => !u.slottedElsewhere c x)) u v) ∧
    (∃ v, exec (.schExit c task list arg 0) s = .next v ∧ v.taskState t = 1 ∧ SwitchedTo c t (s.nextTask c) (s.wr (Fld.SCH_TASK_CFG_STATE t) 1) v) ∧
    (arg ≠ 0 → ∃ v, exec (.schDelay c task list arg 0) s = .next v ∧ v.taskState t = 4 ∧ (v.task t).ret = some 0 ∧
      v.rd (Fld.SCH_TASK_WAKE_TICK t) = (s.listNow list + arg.toNat) % 2 ^ 32 ∧
      (s.listNow list + arg.toNat, t) ∈ (if list then v.sch.vol else v.sch.us) ∧
      SwitchedTo c t (s.nextTask c) (((s.wr (Fld.SCH_TASK_CFG_STATE t) 4).setTask t (fun k => { k with ret := some 0 })).delayTask t arg.toNat list) v) ∧
    (s.rd (Fld.SCH_TASK_CFG_NOTE t) = 0 → arg = 0 → ∃ v, exec (.schWait c task list arg 0) s = .next v ∧ v.taskState t = 5 ∧
      SwitchedTo c t (s.nextTask c) ((s.setTask t (fun k => { k with ret := some 1 })).wr (Fld.SCH_TASK_CFG_STATE t) 5) v) ∧
    (s.rd (Fld.SCH_TASK_CFG_NOTE t) = 0 → arg ≠ 0 → ∃ v, exec (.schWait c task list arg 0) s = .next v ∧ v.taskState t = 6 ∧ (v.task t).ret = some 1 ∧
      (s.listNow list + arg.toNat, t) ∈ (if list then v.sch.vol else v.sch.us) ∧
      SwitchedTo c t (s.nextTask c) (((s.setTask t (fun k => { k with ret := some 1 })).wr (Fld.SCH_TASK_CFG_STATE t) 6).delayTask t arg.toNat list) v)) ∧
  (∀ (s : State) (c : Fin 24) (task : BitVec 12) (list : Bool) (arg : BitVec 24),
    let t := s.running c
    (s.idle c = false → 0 < s.rd (Fld.SCH_TASK_CFG_NOTE t) → ∃ v, exec (.schWait c task list arg 0) s = .next v ∧
      v.rd (Fld.SCH_TASK_CFG_NOTE t) = (s.rd (Fld.SCH_TASK_CFG_NOTE t) - 1) % 256 ∧
      Answered c 0 t ((s.rd (Fld.SCH_TASK_CFG_NOTE t) - 1) % 256) [Fld.SCH_TASK_CFG_NOTE t] s v) ∧
    (s.idle c = true → ∃ v, exec (.schYield c task list arg 0) s = .next v ∧ v.rd Fld.SCH_EVT_BAD_OP = 1 ∧
      Answered c 2 t (s.rd (Fld.SCH_TASK_CFG_NOTE t)) [Fld.SCH_EVT_BAD_OP] s v ∧ exec (.schExit c task list arg 0) s = .next v ∧
      exec (.schDelay c task list arg 0) s = .next v ∧ exec (.schWait c task list arg 0) s = .next v) ∧
    (∃ v, exec (.schDelay c task list 0 0) s = .next v ∧ v.rd Fld.SCH_EVT_BAD_OP = 1 ∧
      Answered c 2 t (s.rd (Fld.SCH_TASK_CFG_NOTE t)) [Fld.SCH_EVT_BAD_OP] s v) ∧
    (∀ high : BitVec 23, high ≠ 0 → ∃ v, exec (.schYield c task list arg high) s = .next v ∧ v.rd Fld.SCH_EVT_BAD_OP = 1 ∧
      Answered c 2 t (s.rd (Fld.SCH_TASK_CFG_NOTE t)) [Fld.SCH_EVT_BAD_OP] s v ∧ exec (.schExit c task list arg high) s = .next v ∧
      exec (.schDelay c task list arg high) s = .next v ∧ exec (.schWait c task list arg high) s = .next v ∧
      exec (.schPrio c task list arg high) s = .next v ∧ exec (.schPreempt c task list arg high) s = .next v) ∧
    (s.idle c = false → (s.irqCore c).stack ≠ [] → ∃ v, exec (.schYield c task list arg 0) s = .next v ∧ v.rd Fld.SCH_EVT_REFUSED_IN_IRQ = 1 ∧
      Answered c 3 t (s.rd (Fld.SCH_TASK_CFG_NOTE t)) [Fld.SCH_EVT_REFUSED_IN_IRQ] s v ∧ exec (.schExit c task list arg 0) s = .next v ∧
      (arg ≠ 0 → exec (.schDelay c task list arg 0) s = .next v) ∧
      (s.rd (Fld.SCH_TASK_CFG_NOTE t) = 0 → exec (.schWait c task list arg 0) s = .next v)))

/-- Other scheduler commands (R488 to R490, R505). -/
def Obligations.TaskCommands : Prop :=
  (∀ (s : State) (c : Fin 24) (task : BitVec 12) (list : Bool) (arg : BitVec 24), TasksSound s →
    let t := task.toNat
    let me := s.running c
    let note := s.rd (Fld.SCH_TASK_CFG_NOTE t)
    let timedOut := s.taskState t = 2 ∧ (s.task t).ret = some 1 ∧ (s.task t).readyAt = s.nowTick
    (note < 256 → t < 4072 → 2 ≤ s.taskState t →
      (s.taskState t ≠ 5 ∧ s.taskState t ≠ 6 → ¬ timedOut → note < 255 → ∃ v, exec (.schSignal c task list arg 0) s = .next v ∧
        v.rd (Fld.SCH_TASK_CFG_NOTE t) = note + 1 ∧ Answered c 0 t (note + 1) [Fld.SCH_TASK_CFG_NOTE t] s v) ∧
      (timedOut → ∃ v, exec (.schSignal c task list arg 0) s = .next v ∧ v.rd (Fld.SCH_TASK_CFG_NOTE t) = min note 254 ∧ v.taskState t = 2 ∧
        (v.task t).ret = some 0 ∧ FMap.get 0 v.sch.result c = resultWord 0 t (min note 254) ∧ v.sch.ready = s.sch.ready) ∧
      (s.taskState t ≠ 5 ∧ s.taskState t ≠ 6 → ¬ timedOut → note = 255 → ∃ v, exec (.schSignal c task list arg 0) s = .next v ∧
        v.rd Fld.SCH_EVT_NOTE_SAT = 1 ∧ Answered c 0 t 255 [Fld.SCH_EVT_NOTE_SAT] s v) ∧
      (s.taskState t = 5 ∨ s.taskState t = 6 → ∃ v, exec (.schSignal c task list arg 0) s = .next v ∧
        v.rd (Fld.SCH_TASK_CFG_NOTE t) = min note 254 ∧ BecomesReady t s v ∧ (v.task t).ret = some 0 ∧
        FMap.get 0 v.sch.result c = resultWord 0 t (min note 254))) ∧
    (4072 ≤ t ∨ s.taskState t ≤ 1 → ∃ v, exec (.schSignal c task list arg 0) s = .next v ∧ v.rd Fld.SCH_EVT_BAD_OP = 1 ∧
      Answered c 2 t (s.rd (Fld.SCH_TASK_CFG_NOTE t)) [Fld.SCH_EVT_BAD_OP] s v) ∧
    (s.idle c = false → ∃ v, exec (.schPrio c task list arg 0) s = .next v ∧ v.taskPri me = arg.toNat % 32 ∧
      v.rd (Fld.SCH_CORE_RUN_PRI c) = arg.toNat % 32 ∧
      Answered c 0 me (s.rd (Fld.SCH_TASK_CFG_NOTE me)) [Fld.SCH_TASK_CFG_PRI me, Fld.SCH_CORE_RUN_PRI c] s v) ∧
    ((s.irqCore c).stack.length ≠ 1 ∨ (s.irqCore c).stack.head?.map (·.2) ≠ some (256 + c.val) → ∃ v,
      exec (.schPreempt c task list arg 0) s = .next v ∧ Answered c 3 me (s.rd (Fld.SCH_TASK_CFG_NOTE me)) [] s v) ∧
    ((s.irqCore c).stack.map (·.2) = [256 + c.val] →
      (∀ n, s.slotOf c = some n → (s.idle c = true ∨ s.taskPri me < s.taskPri n) → ∃ v, exec (.schPreempt c task list arg 0) s = .next v ∧
        RunsTask c n s v ∧ (v.irqCore c).stack = [] ∧ v.rd (Fld.IRQ_SRC_STAT_ACTIVE (256 + c.val)) = 0 ∧
        v.rd Fld.SCH_CNT_PREEMPT_CNT = min (s.rd Fld.SCH_CNT_PREEMPT_CNT + 1) (2 ^ 32 - 1) ∧
        v.rd Fld.SCH_CNT_SWITCH_CNT = min (s.rd Fld.SCH_CNT_SWITCH_CNT + 1) (2 ^ 32 - 1) ∧
        (s.idle c = false → v.taskState me = 2 ∧ (v.task me).ret = some 0 ∧
          (v.readyList (s.taskPri me)).head? = some me)) ∧
      ((s.slotOf c = none ∨ (s.idle c = false ∧ ∀ n ∈ s.slotOf c, s.taskPri n ≤ s.taskPri me)) → ∃ v,
        exec (.schPreempt c task list arg 0) s = .next v ∧ v.running c = me ∧ (v.irqCore c).stack = [] ∧
        v.rd (Fld.IRQ_SRC_STAT_ACTIVE (256 + c.val)) = 0 ∧
        FMap.get 0 v.sch.result c = resultWord 0 me (s.rd (Fld.SCH_TASK_CFG_NOTE me)) ∧ v.sch.ready = s.sch.ready))) ∧
  (∀ (s : State) (b : Bool), TasksSound s → ∃ v, exec (.delayWake b) s = .next v ∧
    (∀ x ∈ (if b then s.sch.vol else s.sch.us), x.1 ≤ s.listNow b → v.taskState x.2 = 2 ∧ x.2 ∈ v.readyList (v.taskPri x.2) ∧
      v.rd (Fld.SCH_TASK_WAKE_TICK x.2) = 0 ∧ (v.task x.2).ret = (s.task x.2).ret ∧ ∀ y ∈ v.sch.us ++ v.sch.vol, y.2 ≠ x.2) ∧
    (∀ t : Nat, t < 4096 → (∀ x ∈ (if b then s.sch.vol else s.sch.us), x.1 ≤ s.listNow b → x.2 ≠ t) → v.taskState t = s.taskState t) ∧
    (∀ c : Fin 24, v.running c = s.running c) ∧
    v = { s with regs := v.regs, sch := v.sch, irqRates := v.irqRates, freeCtr := v.freeCtr }) ∧
  (∀ (s : State) (u : Core) (t : Fin 4096), mayWrite u 15 = true → TasksSound s →
    (t.val < 4072 → s.taskState t = 1 → ∃ v, exec (.taskStart u t) s = .next v ∧ BecomesReady t s v) ∧
    (4072 ≤ t.val ∨ s.taskState t ≠ 1 → ∃ v, exec (.taskStart u t) s = .next v ∧ v.rd Fld.SCH_EVT_INVALID_WR = 1 ∧
      OnlyLogged [Fld.SCH_EVT_INVALID_WR] s v ∧ Logs [(Fld.SCH_EVT_INVALID_WR, t.val)] s v) ∧
    (t.val < 4072 → s.taskState t ≠ 3 → s.taskState t ≠ 0 → ∃ v, exec (.taskStop u t) s = .next v ∧ v.taskState t = 1 ∧
      (∀ p : Fin 32, t.val ∉ v.readyList p) ∧ (∀ x ∈ v.sch.us ++ v.sch.vol, x.2 ≠ t.val) ∧ (v.task t).ret = none ∧
      (∀ c : Fin 24, v.slotOf c ≠ some t.val ∧ v.running c = s.running c)) ∧
    (4072 ≤ t.val ∨ s.taskState t = 3 ∨ s.taskState t = 0 → ∃ v, exec (.taskStop u t) s = .next v ∧ v.rd Fld.SCH_EVT_INVALID_WR = 1 ∧
      OnlyLogged [Fld.SCH_EVT_INVALID_WR] s v) ∧
    (∀ (p : BitVec 5) (k : Bool), t.val < 4072 ∧ (k = true ∨ s.taskState t ≤ 1) → ∃ v, exec (.taskConfigure u t p k) s = .next v ∧
      v.taskPri t = p.toNat ∧ (2 ≤ s.taskState t → v.taskState t = s.taskState t) ∧
      (s.taskState t ≤ 1 → v.taskState t = (if k then 1 else 0)) ∧ v.rd (Fld.SCH_TASK_CFG_CONFIGURED t) = (if k then 1 else 0) ∧
      (s.taskState t = 2 → s.taskPri t ≠ p.toNat → (v.readyList p.toNat).getLast? = some t.val)) ∧
    (∀ p : BitVec 5, 4072 ≤ t.val ∨ 2 ≤ s.taskState t → ∃ v, exec (.taskConfigure u t p false) s = .next v ∧ v.rd Fld.SCH_EVT_INVALID_WR = 1 ∧
      OnlyLogged [Fld.SCH_EVT_INVALID_WR] s v)) ∧
  (∀ (s : State) (u : Core), mayWrite u 15 = true → ∃ v, exec (.schCntClr u) s = .next v ∧ v.rd Fld.SCH_CNT_SWITCH_CNT = 0 ∧
    v.rd Fld.SCH_CNT_STEAL_CNT = 0 ∧ v.rd Fld.SCH_CNT_PREEMPT_CNT = 0 ∧
    OnlyRegs [Fld.SCH_CNT_SWITCH_CNT, Fld.SCH_CNT_STEAL_CNT, Fld.SCH_CNT_PREEMPT_CNT] s v)

/-- Time base TB0 (R444 to R446), reference clocks (R441) and PPS (R450). -/
def Obligations.TimeBaseCommands : Prop :=
  (∀ (s : State) (u : Core), mayWrite u 6 = true →
    (∀ ns : BitVec 8,
      let off : Int := (ns.toNat * 2 ^ 32 + s.rd (Fld.TBS_TB_INC_FRAC_INC_FRAC 0) : Nat) - (5368709120 : Nat)
      (off.natAbs ≤ 5368709 → ∃ t, exec (.tb0IncNsWrite u ns) s = .next t ∧ t.rd (Fld.TBS_TB_INC_NS_INC_NS 0) = ns.toNat ∧
        RegsBut [Fld.TBS_TB_INC_NS_INC_NS 0] s t ∧
        t = { s with regs := t.regs, time := { s.time with inc := some (ns.toNat, s.rd (Fld.TBS_TB_INC_FRAC_INC_FRAC 0)) } }) ∧
      (5368709 < off.natAbs → ∃ t, exec (.tb0IncNsWrite u ns) s = .next t ∧ t.rd Fld.TBS_EVT_INVALID_WR = 1 ∧
        OnlyLogged [Fld.TBS_EVT_INVALID_WR] s t ∧ Logs [(Fld.TBS_EVT_INVALID_WR, 0)] s t)) ∧
    (∀ v : BitVec 32,
      (v.toInt.natAbs ≤ s.rd Fld.TBS_CFG_JUMP_MAX_NS →
        exec (.tb0Adj u v) s = .next { s with time := { s.time with adj := s.time.adj + v.toInt } }) ∧
      (s.rd Fld.TBS_CFG_JUMP_MAX_NS < v.toInt.natAbs → ∃ t, exec (.tb0Adj u v) s = .next t ∧ t.rd Fld.TBS_EVT_JUMP_REFUSED = 1 ∧
        OnlyLogged [Fld.TBS_EVT_JUMP_REFUSED] s t ∧ Logs [(Fld.TBS_EVT_JUMP_REFUSED, 0)] s t) ∧
      (v.toNat < 1000000000 → s.flag (Fld.TBS_TB_STAT_SYNC_LOCK 0) = false → exec (.tb0Set u v) s = .next { s with time := { s.time with
        set := some (s.rd Fld.TBS_TB0_SET_SEC_LO_SEC + 2 ^ 32 * s.rd Fld.TBS_TB0_SET_SEC_HI_SEC, v.toNat) } }) ∧
      (v.toNat < 1000000000 → s.flag (Fld.TBS_TB_STAT_SYNC_LOCK 0) = true → ∃ t, exec (.tb0Set u v) s = .next t ∧
        t.rd Fld.TBS_EVT_JUMP_REFUSED = 1 ∧ OnlyLogged [Fld.TBS_EVT_JUMP_REFUSED] s t) ∧
      (1000000000 ≤ v.toNat → ∃ t, exec (.tb0Set u v) s = .next t ∧ t.rd Fld.TBS_EVT_INVALID_WR = 1 ∧ OnlyLogged [Fld.TBS_EVT_INVALID_WR] s t)) ∧
    (∃ t, exec (.syncDecl u true) s = .next t ∧ t.rd (Fld.TBS_TB_STAT_SYNC_LOCK 0) = 1 ∧ t.rd Fld.TBS_TB0_CTL_SYNC_DECL = 1 ∧
      t.time.syncAt = s.nowTick ∧ t.sec.lastSync = some ((s.base 0).sec, s.seconds) ∧
      RegsBut [Fld.TBS_TB_STAT_SYNC_LOCK 0, Fld.TBS_TB0_CTL_SYNC_DECL] s t ∧
      t = { s with regs := t.regs, time := { s.time with syncAt := s.nowTick }, sec := { s.sec with lastSync := t.sec.lastSync } }) ∧
    (∃ t, exec (.syncDecl u false) s = .next t ∧ t.rd (Fld.TBS_TB_STAT_SYNC_LOCK 0) = 0 ∧ t.rd Fld.TBS_TB0_CTL_SYNC_DECL = 0 ∧
      (s.flag (Fld.TBS_TB_STAT_SYNC_LOCK 0) = true → t.rd Fld.TBS_EVT_SYNC_LOST = 1 ∧ t.sec.lastSync = some ((s.base 0).sec, s.seconds)) ∧
      (s.flag (Fld.TBS_TB_STAT_SYNC_LOCK 0) = false → OnlyRegs [Fld.TBS_TB0_CTL_SYNC_DECL] s t))) ∧
  (∀ s : State,
    (s.time.syncAt + s.rd Fld.TBS_TB0_CTL_HOLD_MS * 800000 ≤ s.nowTick → s.flag (Fld.TBS_TB_STAT_SYNC_LOCK 0) = true →
      ∃ t, exec .syncHoldExpire s = .next t ∧ t.rd (Fld.TBS_TB_STAT_SYNC_LOCK 0) = 0 ∧ t.rd Fld.TBS_EVT_SYNC_LOST = 1 ∧
        t.sec.lastSync = some ((s.base 0).sec, s.seconds) ∧ RegsBut ([Fld.TBS_TB_STAT_SYNC_LOCK 0, Fld.TBS_EVT_SYNC_LOST] ++ loggedFields) s t ∧
        t = { s with regs := t.regs, hist := t.hist, log := t.log, sec := { s.sec with lastSync := t.sec.lastSync } }) ∧
    (s.nowTick < s.time.syncAt + s.rd Fld.TBS_TB0_CTL_HOLD_MS * 800000 ∨ s.flag (Fld.TBS_TB_STAT_SYNC_LOCK 0) = false →
      exec .syncHoldExpire s = .next s) ∧
    (∀ r : Fin 2,
      (s.rd Fld.TBS_REF_SEL = r → s.rd Fld.TBS_REF_HOLDOVER = 0 → s.flag (refOk (1 - r.val)) = true → ∃ t, exec (.referenceFail r) s = .next t ∧
        t.rd (refOk r) = 0 ∧ t.rd Fld.TBS_REF_SEL = 1 - r.val ∧ t.rd Fld.TBS_EVT_REF_SWITCH = 1 ∧
        OnlyLogged [refOk r, Fld.TBS_REF_SEL, Fld.TBS_EVT_REF_SWITCH] s t ∧ Logs [(Fld.TBS_EVT_REF_SWITCH, 0)] s t) ∧
      (s.rd Fld.TBS_REF_SEL = r → s.rd Fld.TBS_REF_HOLDOVER = 0 → s.flag (refOk (1 - r.val)) = false → ∃ t, exec (.referenceFail r) s = .next t ∧
        t.rd (refOk r) = 0 ∧ t.rd Fld.TBS_REF_HOLDOVER = 1 ∧ t.rd Fld.TBS_EVT_REF_BOTH = 1 ∧
        OnlyLogged [refOk r, Fld.TBS_REF_HOLDOVER, Fld.TBS_EVT_REF_BOTH] s t) ∧
      (s.rd Fld.TBS_REF_SEL ≠ r ∨ s.flag Fld.TBS_REF_HOLDOVER = true → ∃ t, exec (.referenceFail r) s = .next t ∧ t.rd (refOk r) = 0 ∧
        OnlyRegs [refOk r] s t) ∧
      (s.flag Fld.TBS_REF_HOLDOVER = true → ∃ t, exec (.referenceReselect r) s = .next t ∧ t.rd (refOk r) = 1 ∧ t.rd Fld.TBS_REF_SEL = r ∧
        t.rd Fld.TBS_REF_HOLDOVER = 0 ∧ OnlyRegs [refOk r, Fld.TBS_REF_SEL, Fld.TBS_REF_HOLDOVER] s t) ∧
      (s.flag Fld.TBS_REF_HOLDOVER = false → ∃ t, exec (.referenceReselect r) s = .next t ∧ t.rd (refOk r) = 1 ∧ OnlyRegs [refOk r] s t)) ∧
    (s.flag Fld.TBS_REF_REVERT = true → s.flag Fld.TBS_REF_HOLDOVER = false → ∃ t, exec .referenceRevert s = .next t ∧ t.rd Fld.TBS_REF_A_OK = 1 ∧
      t.rd Fld.TBS_REF_SEL = 0 ∧ OnlyRegs [Fld.TBS_REF_A_OK, Fld.TBS_REF_SEL] s t) ∧
    (s.flag Fld.TBS_REF_REVERT = false ∨ s.flag Fld.TBS_REF_HOLDOVER = true → ∃ t, exec .referenceRevert s = .next t ∧
      t.rd Fld.TBS_REF_A_OK = 1 ∧ OnlyRegs [Fld.TBS_REF_A_OK] s t) ∧
    (let b := s.rd Fld.TBS_PPS_SRC
     ((s.base b).ns * 2 ^ 32 + (s.base b).frac < s.baseInc b →
        exec .ppsOut s = .next { s with time := { s.time with ppsUntil := s.nowTick + 800 * s.rd Fld.TBS_PPS_WIDTH_US } }) ∧
     (s.baseInc b ≤ (s.base b).ns * 2 ^ 32 + (s.base b).frac → exec .ppsOut s = .next s)) ∧
    ((∀ p ∈ s.time.ppsIn, p + 80000 ≤ s.nowTick) → ∃ t, exec .ppsInEdge s = .next t ∧ t.rd Fld.TBS_PPS_TS0_TS = (s.base 0).count % 2 ^ 32 ∧
      t.rd Fld.TBS_PPS_TS3_TS = (s.base 3).count % 2 ^ 32 ∧ t.rd Fld.TBS_PPS_CNT_CNT = (s.rd Fld.TBS_PPS_CNT_CNT + 1) % 2 ^ 32 ∧
      RegsBut [Fld.TBS_PPS_TS0_TS, Fld.TBS_PPS_TS3_TS, Fld.TBS_PPS_CNT_CNT] s t ∧
      t = { s with regs := t.regs, time := { s.time with ppsIn := some s.nowTick } }) ∧
    (∀ p, s.time.ppsIn = some p → s.nowTick < p + 80000 → ∃ t, exec .ppsInEdge s = .next t ∧ t.rd Fld.TBS_EVT_PPS_IGN = 1 ∧
      t.time.ppsIn = some s.nowTick ∧ OnlyLogged [Fld.TBS_EVT_PPS_IGN] s { t with time := s.time }))

/-- Servos (R447) and ticks (R443 to R445). That a tick is what a step does on an empty queue is the model's choice (log 1), and the
amount of a correction is a free value. -/
def Obligations.ServosAndTicks : Prop :=
  (∀ (s : State) (b : Fin 2) (e : Int), s.servoError (b + 1) = some e →
    let n := b.val + 1
    let far := s.rd Fld.TBS_CFG_JUMP_MAX_NS * 2 ^ 32 < e.natAbs
    ∃ t, exec (.servoStep b) s = .next t ∧
      (BitVec.ofNat 32 (t.rd (Fld.TBS_TB_ERR_ERR n))).toInt = max (-2147483648) (min (e * 16 / 2 ^ 32) 2147483647) ∧
      (e.natAbs ≤ 2 * 2 ^ 32 → t.rd (Fld.TBS_TB_STAT_SYNC_LOCK n) = 1) ∧ (10 * 2 ^ 32 < e.natAbs → t.rd (Fld.TBS_TB_STAT_SYNC_LOCK n) = 0) ∧
      (2 * 2 ^ 32 < e.natAbs → e.natAbs ≤ 10 * 2 ^ 32 → t.rd (Fld.TBS_TB_STAT_SYNC_LOCK n) = s.rd (Fld.TBS_TB_STAT_SYNC_LOCK n)) ∧
      (far → s.anyServing = false → t.base n = TimeBase.ofTotal ((s.base n).total - e) ∧ t.baseInc n = s.refRate n % 2 ^ 40 ∧
        t.rd Fld.TBS_EVT_STEP_HELD = s.rd Fld.TBS_EVT_STEP_HELD) ∧
      (far → s.anyServing = true → t.rd Fld.TBS_EVT_STEP_HELD = 1) ∧
      (¬ far ∨ s.anyServing = true → t.tb = s.tb) ∧
      ((¬ far ∨ s.anyServing = true) → 5000000000 < s.refRate n → s.refRate n < 2 ^ 39 → s.rd Fld.TBS_CFG_SLEW_PPM < 256 →
        let d : Int := (t.baseInc n : Int) - (s.refRate n : Int)
        d.natAbs ≤ e.natAbs ∧ d.natAbs ≤ 5368709120 * s.rd Fld.TBS_CFG_SLEW_PPM / 1000000 ∧ (0 < e → d ≤ 0) ∧ (e < 0 → 0 ≤ d)) ∧
      (∀ m : Nat, m ≠ n → t.base m = s.base m) ∧
      RegsBut ([Fld.TBS_TB_ERR_ERR n, Fld.TBS_TB_STAT_SYNC_LOCK n, Fld.TBS_TB_INC_NS_INC_NS n, Fld.TBS_TB_INC_FRAC_INC_FRAC n,
        Fld.TBS_EVT_STEP_HELD] ++ loggedFields) s t ∧
      t = { s with regs := t.regs, tb := t.tb, hist := t.hist, log := t.log, freeCtr := t.freeCtr, tnd := { s.tnd with tb1Error := t.tnd.tb1Error } }) ∧
  (∀ (s : State) (b : Fin 2), s.servoError (b + 1) = none → exec (.servoStep b) s = .next s) ∧
  (∀ s : State,
    (s.tick.base 3).total = ((s.base 3).total + 5368709120) % (2 ^ 48 * 1000000000 * 2 ^ 32 : Nat) ∧
    (s.tick.base 0).total = ((match s.time.set with
        | some x => ((x.1 * 1000000000 + x.2) * 2 ^ 32 : Nat)
        | none => (s.base 0).total + (match s.time.inc with | some i => (i.1 % 256 * 2 ^ 32 + i.2 % 2 ^ 32 : Nat) | none => s.baseInc 0)) +
      s.time.adj * 2 ^ 32) % (2 ^ 48 * 1000000000 * 2 ^ 32 : Nat) ∧
    s.tick.time = { s.time with inc := none, adj := 0, set := none } ∧
    (s.servoError 1 = none → (s.tick.base 1).total = ((s.base 1).total + s.baseInc 1) % (2 ^ 48 * 1000000000 * 2 ^ 32 : Nat)) ∧
    s.tick.pending = s.pending)

/-- Station ports (R426 to R438). The clauses on classes of frames hold with the bridge off; the last ones say what the bridge does. -/
def Obligations.StationFrames : Prop :=
  (∀ (s : State) (p : Fin 4) (f : StationFrame) (w : Option Nat),
    let n := p.val
    let rx := min (s.rd (Fld.STP_ST_CNT_RX_CNT n) + 1) (2 ^ 32 - 1)
    (s.flag (Fld.STP_ST_STAT_LINK_UP n) = false → exec (.stationFrameReceive p f w) s = .next s) ∧
    (s.flag (Fld.STP_ST_STAT_LINK_UP n) = true → (2048 < f.length ∨ f.twoTags = true ∨ f.pause = true) → f.fcsOk = true → ∃ v, exec (.stationFrameReceive p f w) s = .next v ∧
      v.rd (Fld.STP_ST_CNT_DROP_CNT n) = min (s.rd (Fld.STP_ST_CNT_DROP_CNT n) + 1) (2 ^ 32 - 1) ∧ v.rd (Fld.STP_ST_CNT_RX_CNT n) = rx ∧
      OnlyRegs [Fld.STP_ST_CNT_DROP_CNT n, Fld.STP_ST_CNT_RX_CNT n] s v) ∧
    (s.flag (Fld.STP_ST_STAT_LINK_UP n) = true → f.fcsOk = false → (2048 < f.length ∨ f.twoTags = true ∨ f.pause = true ∨ s.rd Fld.STP_BRIDGE_EN = 0) →
      ∃ v, exec (.stationFrameReceive p f w) s = .next v ∧ v.rd (Fld.STP_ST_CNT_FCS_CNT n) = min (s.rd (Fld.STP_ST_CNT_FCS_CNT n) + 1) (2 ^ 32 - 1) ∧
        OnlyRegs [Fld.STP_ST_CNT_FCS_CNT n] s v) ∧
    (FrameTaken n f s → s.rd Fld.STP_BRIDGE_EN = 0 →
      (f.etype = 0x88F7 → ∃ v, exec (.stationFrameReceive p f w) s = .next v ∧ v.rd (Fld.STP_ST_CNT_RX_CNT n) = rx ∧
        v.stp = { s.stp with ptpQueue := s.stp.ptpQueue ++ [⟨n, f, s.base 0⟩] } ∧ RegsBut [Fld.STP_ST_CNT_RX_CNT n] s v ∧
        v = { s with regs := v.regs, stp := v.stp }) ∧
      (f.etype ≠ 0x88F7 → f.etype ≠ 0x88BA → f.etype ≠ 0x88B8 → f.etype.toNat ≠ s.rd Fld.STP_ETYPE_ETYPE →
        (s.rd (Fld.STP_ST_CFG_TO_APC n) = 1 → ∃ v, exec (.stationFrameReceive p f w) s = .next v ∧ v.rd (Fld.STP_ST_CNT_RX_CNT n) = rx ∧
          v.stp = { s.stp with apcQueue := s.stp.apcQueue ++ [⟨n, f, s.base 0⟩] } ∧ RegsBut [Fld.STP_ST_CNT_RX_CNT n] s v ∧
          v = { s with regs := v.regs, stp := v.stp }) ∧
        (s.rd (Fld.STP_ST_CFG_TO_APC n) = 0 → ∃ v, exec (.stationFrameReceive p f w) s = .next v ∧ v.rd (Fld.STP_ST_CNT_RX_CNT n) = rx ∧
          v.rd (Fld.STP_ST_CNT_DROP_CNT n) = min (s.rd (Fld.STP_ST_CNT_DROP_CNT n) + 1) (2 ^ 32 - 1) ∧
          OnlyRegs [Fld.STP_ST_CNT_RX_CNT n, Fld.STP_ST_CNT_DROP_CNT n] s v)) ∧
      (f.etype ≠ 0x88F7 → f.etype ≠ 0x88BA → f.etype ≠ 0x88B8 → f.etype.toNat = s.rd Fld.STP_ETYPE_ETYPE → ∀ (pl : List (BitVec 8)) (sig : Bool),
        f.body = .own pl sig →
        let sub := byteAt pl 0
        let fmt := byteAt pl 1
        (fmt = 1 → sub = 2 → ∃ v, exec (.stationFrameReceive p f w) s = .next v ∧ v.rd (Fld.STP_ST_CNT_RX_CNT n) = rx ∧ OnlyRegs [Fld.STP_ST_CNT_RX_CNT n] s v) ∧
        (fmt = 1 → sub = 3 → ∃ v, exec (.stationFrameReceive p f w) s = .next v ∧
          v.stp = { s.stp with apcQueue := s.stp.apcQueue ++ [⟨n, f, s.base 0⟩] } ∧ RegsBut [Fld.STP_ST_CNT_RX_CNT n] s v ∧
          v = { s with regs := v.regs, stp := v.stp }) ∧
        (fmt ≠ 1 ∨ (sub ≠ 1 ∧ sub ≠ 2 ∧ sub ≠ 3) → ∃ v, exec (.stationFrameReceive p f w) s = .next v ∧
          v.rd Fld.STP_CNT_OWNDROP_CNT = min (s.rd Fld.STP_CNT_OWNDROP_CNT + 1) (2 ^ 32 - 1) ∧
          OnlyRegs [Fld.STP_ST_CNT_RX_CNT n, Fld.STP_CNT_OWNDROP_CNT] s v)) ∧
      (f.etype = 0x88BA → ∀ (appid : BitVec 16) (a : Asdu) (k : Fin 64), f.body = .sv appid [a] →
        s.svMatches n k f appid = true → s.svidMatches k a = true → (∀ j : Fin 64, j ≠ k → s.svMatches n j f appid = false) →
        let nval := s.inForce (Fld.STP_SV_CFG_NVAL_M1 k) + 1
        let m := s.inForce (Fld.STP_SV_CNT_CFG_SMPMAX k) + 1
        let d := ((a.smpCnt.toNat : Int) - s.rd (Fld.STP_SV_STAT_SMPCNT k)) % m
        let count := if s.stp.svSec = (s.base 3).count / 1000000000 then s.stp.svCount else 0
        (1000000 * s.rd Fld.HKP_CAD_STAT_K / 256 ≤ count → ∃ v, exec (.stationFrameReceive p f w) s = .next v ∧ v.rd Fld.STP_EVT_SV_DROP = 1 ∧
          v.rd Fld.STP_CNT_SVDROP_CNT = min (s.rd Fld.STP_CNT_SVDROP_CNT + 1) (2 ^ 32 - 1) ∧ v.subs = s.subs ∧
          OnlyLogged [Fld.STP_ST_CNT_RX_CNT n, Fld.STP_CNT_SVDROP_CNT, Fld.STP_EVT_SV_DROP] s v) ∧
        (count < 1000000 * s.rd Fld.HKP_CAD_STAT_K / 256 → a.seqBytes < 8 * nval → ∃ v, exec (.stationFrameReceive p f w) s = .next v ∧
          v.rd (Fld.STP_SV_CNT_FMT_CNT k) = min (s.rd (Fld.STP_SV_CNT_FMT_CNT k) + 1) (2 ^ 32 - 1) ∧ v.subs = s.subs) ∧
        (count < 1000000 * s.rd Fld.HKP_CAD_STAT_K / 256 → 8 * nval ≤ a.seqBytes → s.flag (Fld.STP_SV_STAT_VALID k) = true → (d < 1 ∨ (m + 1) / 2 < d) →
          ∃ v, exec (.stationFrameReceive p f w) s = .next v ∧
            v.rd (Fld.STP_SV_CNT_DUP_CNT k) = min (s.rd (Fld.STP_SV_CNT_DUP_CNT k) + 1) (2 ^ 32 - 1) ∧ (v.sub k).samples.length = (s.sub k).samples.length ∧
            (∀ y ∈ (s.sub k).samples.head?, (y.cnt = a.smpCnt.toNat ∧ y.done = s.nowTick ∧ n < y.port) →
              (v.sub k).samples.head? = some ⟨a.smpCnt.toNat, a.synced, a.values.take nval, (s.base 2).count, s.nowTick, n⟩) ∧
            ((∀ y ∈ (s.sub k).samples.head?, ¬ (y.cnt = a.smpCnt.toNat ∧ y.done = s.nowTick ∧ n < y.port)) → v.subs = s.subs) ∧
            v = { s with regs := v.regs, subs := v.subs, stp := v.stp }) ∧
        (count < 1000000 * s.rd Fld.HKP_CAD_STAT_K / 256 → 8 * nval ≤ a.seqBytes → (s.flag (Fld.STP_SV_STAT_VALID k) = false ∨ (1 ≤ d ∧ d ≤ (m + 1) / 2)) →
          ∃ v, exec (.stationFrameReceive p f w) s = .next v ∧
            v.sub k = { s.sub k with samples := ⟨a.smpCnt.toNat, a.synced, a.values.take nval, (s.base 2).count, s.nowTick, n⟩ :: (s.sub k).samples } ∧
            v.rd (Fld.STP_SV_STAT_SMPCNT k) = a.smpCnt.toNat ∧ v.rd (Fld.STP_SV_STAT_VALID k) = 1 ∧ MapBut SvSub.reset [k.val] s.subs v.subs ∧
            (s.inForce (Fld.STP_SV_CFG_APC k) = 1 → v.stp.apcQueue = s.stp.apcQueue ++ [⟨n, f, s.base 0⟩]) ∧
            (s.inForce (Fld.STP_SV_CFG_APC k) ≠ 1 → v.stp.apcQueue = s.stp.apcQueue) ∧
            v = { s with regs := v.regs, subs := v.subs, stp := v.stp, recs := v.recs })) ∧
      (f.etype = 0x88B8 → ∀ (appid : BitVec 16) (ref : List (BitVec 8)) (st : BitVec 32) (sim : Bool) (tal : Nat) (g : Fin 64), f.body = .goose appid ref st sim tal →
        s.gooseMatches n g f appid ref = true → (∀ j : Fin 64, j ≠ g → s.gooseMatches n j f appid ref = false) →
        (sim = true → s.rd (Fld.STP_GF_CFG_SIM g) = 0 → ∃ v, exec (.stationFrameReceive p f w) s = .next v ∧ OnlyRegs [Fld.STP_ST_CNT_RX_CNT n] s v) ∧
        (sim = false ∨ s.rd (Fld.STP_GF_CFG_SIM g) = 1 → ∃ v, exec (.stationFrameReceive p f w) s = .next v ∧ v.gooseOf g = ⟨some st, some (s.nowTick, tal)⟩ ∧
          v.stp.apcQueue = s.stp.apcQueue ++ (if (s.gooseOf g).stNum = some st then [] else [⟨n, f, s.base 0⟩]) ∧
          MapBut GooseFilter.reset [g.val] s.goose v.goose ∧ RegsBut [Fld.STP_ST_CNT_RX_CNT n] s v))) ∧
    (FrameTaken n f s → s.rd Fld.STP_BRIDGE_EN = 1 → n < 2 → f.dst ≠ 0x0180C200000E →
      f.dst ≠ mac48 (s.rd (Fld.STP_ST_MAC_LO_MAC n)) (s.rd (Fld.STP_ST_MAC_HI_MAC n)) →
      (f.etype ≠ 0x88F7 → w = none → f.etype.toNat ≠ s.rd Fld.STP_ETYPE_ETYPE → ∃ v, exec (.stationFrameReceive p f w) s = .next v ∧ (v.port (1 - n)).forwarded = some ⟨f, none, false⟩ ∧
        MapBut StpPort.reset [1 - n] s.ports v.ports) ∧
      (∀ r16, w = some r16 → 32768 < (((s.port (1 - n)).store.filter (fun x => decide (s.nowTick < x.1))).map (·.2)).sum + f.length → f.etype.toNat ≠ s.rd Fld.STP_ETYPE_ETYPE → ∃ v, exec (.stationFrameReceive p f w) s = .next v ∧
        v.rd (Fld.STP_ST_CNT_FWDDROP_CNT (1 - n)) = min (s.rd (Fld.STP_ST_CNT_FWDDROP_CNT (1 - n)) + 1) (2 ^ 32 - 1) ∧ v.rd Fld.STP_EVT_FWD_DROP = 1 ∧
        v.ports = s.ports) ∧
      (∀ r16, w = some r16 → (((s.port (1 - n)).store.filter (fun x => decide (s.nowTick < x.1))).map (·.2)).sum + f.length ≤ 32768 → f.etype ≠ 0x88F7 →
        f.etype.toNat ≠ s.rd Fld.STP_ETYPE_ETYPE → ∃ v, exec (.stationFrameReceive p f w) s = .next v ∧ (v.port (1 - n)).forwarded = some ⟨f, none, false⟩ ∧
        (s.nowTick + ceilDiv (4 * r16) 327680, f.length) ∈ (v.port (1 - n)).store ∧ MapBut StpPort.reset [1 - n] s.ports v.ports) ∧
      (∀ (dom : BitVec 8) (src : BitVec 80) (sq : BitVec 16) (c : BitVec 64) (r16 : Nat), f.etype = 0x88F7 → w = some r16 → (s.port (1 - n)).store = [] → f.length ≤ 32768 →
        f.body = .ptp (.sync false) dom src sq c → c.toInt + r16 + 4096 * s.rd (Fld.STP_ST_LINKDLY_LD n) ≤ 0x7FFFFFFFFFFFFFFF →
        ∃ v, exec (.stationFrameReceive p f w) s = .next v ∧
          (v.port (1 - n)).forwarded = some ⟨f, some (c.toInt + (r16 + s.rd (Fld.STP_ST_LINKDLY_LD n) * 4096)), false⟩))) ∧
  (∀ (s : State) (p : Fin 4),
    (s.rd (Fld.STP_ST_CFG_SPEED p) ≠ 0 → ∃ v, exec (.stationLinkChange p true) s = .next v ∧ v.rd (Fld.STP_ST_STAT_LINK_UP p) = 1 ∧
      v.rd (Fld.STP_ST_STAT_SPEED p) = s.rd (Fld.STP_ST_CFG_SPEED p) % 4 ∧ OnlyRegs [Fld.STP_ST_STAT_LINK_UP p, Fld.STP_ST_STAT_SPEED p] s v) ∧
    (∃ v, exec (.stationLinkChange p false) s = .next v ∧ v.rd (Fld.STP_ST_STAT_LINK_UP p) = 0 ∧ v.rd (Fld.STP_ST_STAT_SPEED p) = 0 ∧
      OnlyRegs [Fld.STP_ST_STAT_LINK_UP p, Fld.STP_ST_STAT_SPEED p] s v)) ∧
  (∀ (s : State) (g : Fin 64), ∀ x, (s.gooseOf g).last = some x →
    (s.rd (Fld.STP_GF_CFG_EN g) = 1 → x.1 + 1600000 * x.2 ≤ s.nowTick → ∃ v, exec (.gooseTalExpire g) s = .next v ∧ v.gooseOf g = GooseFilter.reset ∧
      bitOf (v.rd (Fld.STP_GOOSE_TAL_TAL (g.val / 32))) (g.val % 32) = true ∧ v.rd Fld.STP_EVT_GOOSE_TAL = 1 ∧
      MapBut GooseFilter.reset [g.val] s.goose v.goose ∧
      OnlyLogged [Fld.STP_GOOSE_TAL_TAL (g.val / 32), Fld.STP_EVT_GOOSE_TAL] s { v with goose := s.goose }) ∧
    (s.rd (Fld.STP_GF_CFG_EN g) = 0 ∨ s.nowTick < x.1 + 1600000 * x.2 → exec (.gooseTalExpire g) s = .next s)) ∧
  (∀ (s : State) (u : Core), mayWrite u 7 = true →
    (s.rd (Fld.STP_ST_CFG_SPEED 0) = s.rd (Fld.STP_ST_CFG_SPEED 1) → ∃ v, exec (.stpBridgeEnable u true) s = .next v ∧ v.rd Fld.STP_BRIDGE_EN = 1 ∧
      OnlyRegs [Fld.STP_BRIDGE_EN] s v) ∧
    (s.rd (Fld.STP_ST_CFG_SPEED 0) ≠ s.rd (Fld.STP_ST_CFG_SPEED 1) → ∃ v, exec (.stpBridgeEnable u true) s = .next v ∧ v.rd Fld.STP_EVT_INVALID_WR = 1 ∧
      OnlyLogged [Fld.STP_EVT_INVALID_WR] s v) ∧
    (∃ v, exec (.stpBridgeEnable u false) s = .next v ∧ v.rd Fld.STP_BRIDGE_EN = 0 ∧ OnlyRegs [Fld.STP_BRIDGE_EN] s v) ∧
    (∃ v, exec (.stpLock u) s = .next v ∧ v.rd Fld.STP_LOCK_LOCK = 1 ∧ OnlyRegs [Fld.STP_LOCK_LOCK] s v) ∧
    (∃ v, exec (.stpCntClr u) s = .next v ∧
      (∀ n : Fin 4, v.rd (Fld.STP_ST_CNT_RX_CNT n) = 0 ∧ v.rd (Fld.STP_ST_CNT_FCS_CNT n) = 0 ∧ v.rd (Fld.STP_ST_CNT_DROP_CNT n) = 0 ∧
        v.rd (Fld.STP_ST_CNT_FWDDROP_CNT n) = 0 ∧ v.rd (Fld.STP_ST_CNT_STOMP_CNT n) = 0) ∧
      (∀ k : Fin 64, v.rd (Fld.STP_SV_CNT_DUP_CNT k) = 0 ∧ v.rd (Fld.STP_SV_CNT_FMT_CNT k) = 0) ∧
      v.rd Fld.STP_CNT_SVDROP_CNT = 0 ∧ v.rd Fld.STP_CNT_OWNDROP_CNT = 0 ∧ v.rd Fld.STP_CNT_RSTFAIL_CNT = 0 ∧ v.rd Fld.STP_CNT_TCUNM_CNT = 0 ∧
      v = { s with regs := v.regs }))

/-- Reset frames (R439, R440); the checks are spelled in their order by `resetVerdict`. -/
def Obligations.ResetFrames : Prop :=
  ∀ (s : State) (p : Fin 4) (f : StationFrame) (w : Option Nat) (pl : List (BitVec 8)) (sig : Bool), FrameTaken p.val f s → s.rd Fld.STP_BRIDGE_EN = 0 →
    f.etype ≠ 0x88F7 → f.etype ≠ 0x88BA → f.etype ≠ 0x88B8 → f.etype.toNat = s.rd Fld.STP_ETYPE_ETYPE → f.body = .own pl sig → byteAt pl 0 = 1 → byteAt pl 1 = 1 →
    let r := readReset pl sig
    let n := p.val
    let count := if (s.port n).rstSec = (s.base 3).count / 1000000000 then (s.port n).rstCount else 0
    let allowed := if s.tndState = 4 then s.flag Fld.TND_STAT_TWIN_READY = true ∨ r.force = true
      else s.tndState ≠ 0 ∨ s.anyServing = false ∨ r.force = true
    (16 ≤ count → ∃ v, exec (.stationFrameReceive p f w) s = .next v ∧
      v.rd Fld.STP_CNT_RSTFAIL_CNT = min (s.rd Fld.STP_CNT_RSTFAIL_CNT + 1) (2 ^ 32 - 1) ∧
      OnlyRegs [Fld.STP_ST_CNT_RX_CNT n, Fld.STP_CNT_RSTFAIL_CNT] s v) ∧
    (count < 16 →
      (∀ st, resetVerdict s n r = some st → ∃ v, exec (.stationFrameReceive p f w) s = .next v ∧
        (v.port n).reply = some ⟨f.src, st, r.counter, s.serial⟩ ∧ (v.port n).rstCount = count + 1 ∧
        v.rd Fld.STP_CNT_RSTFAIL_CNT = min (s.rd Fld.STP_CNT_RSTFAIL_CNT + 1) (2 ^ 32 - 1) ∧ v.rd Fld.STP_EVT_RST_FAIL = 1 ∧
        v.sec.rstCounter = s.sec.rstCounter ∧ MapBut StpPort.reset [n] s.ports v.ports ∧
        OnlyLogged [Fld.STP_ST_CNT_RX_CNT n, Fld.STP_CNT_RSTFAIL_CNT, Fld.STP_EVT_RST_FAIL, Fld.SEC_CNT_SIGOK_CNT, Fld.SEC_CNT_SIGFAIL_CNT] s { v with ports := s.ports }) ∧
      (resetVerdict s n r = none → ¬ allowed → ∃ v, exec (.stationFrameReceive p f w) s = .next v ∧
        (v.port n).reply = some ⟨f.src, .notPermitted, r.counter, s.serial⟩ ∧ v.rd Fld.STP_EVT_RST_REFUSED = 1 ∧ v.sec.rstCounter = s.sec.rstCounter ∧
        v.rst = s.rst) ∧
      (resetVerdict s n r = none → allowed → ∃ v, exec (.stationFrameReceive p f w) s = .next v ∧
        (v.port n).reply = some ⟨f.src, .ok, r.counter, s.serial⟩ ∧ v.sec.rstCounter = r.counter ∧
        v.rst.atBoundary = some { src := .cmdStation n, yield := decide (s.tndState = 4) && s.flag Fld.TND_STAT_TWIN_READY, since := s.nowTick }))

/-- SAFETY_CYCLE, ISLAND_FAULT, ISLAND_RESTART, GUARD_LOCK_RELEASE, OFF_PULSE_TEST, OFF_PULSE_SAMPLE, READBACK_FAULT (R458 to R472). -/
def Obligations.SafetyIsland : Prop :=
  (∀ (s : State) (samples : List (BitVec 16)) (rb : BitVec 8) (low agree : Bool),
    (s.islandRuns = false → exec (.safetyCycle samples rb low agree) s = .next s) ∧
    (s.islandRuns = true → ∃ t, exec (.safetyCycle samples rb low agree) s = .next t ∧ t.saf.now = s.saf.now + samples.length ∧
      t.rd Fld.SAF_STAT_SRST_LOW = (if low then 1 else 0) ∧ t.saf.differ = (if agree then 0 else s.saf.differ + 1) ∧ IslandOnly s t ∧
      (s.rd Fld.SAF_STAT_PSET_OK = 0 → ∀ j : Fin 4, t.outOn j = s.outOn j ∧ t.safOut j = s.safOut j) ∧
      (s.rd Fld.SAF_STAT_PSET_OK = 1 →
        (∀ p : Fin 16, s.pairUsed p = true →
          t.rd (Fld.SAF_PAIR_STAT_A p) = (t.pairLevels p).1.toNat ∧ t.rd (Fld.SAF_PAIR_STAT_B p) = (t.pairLevels p).2.toNat ∧
          t.pairOk p = ((t.pairLevels p).1 && (t.pairLevels p).2 && (t.safPair p).fault.isNone) ∧
          ((s.safPair p).fault ≠ none → (t.safPair p).fault = (s.safPair p).fault) ∧
          ((s.safPair p).fault = none → (t.pairLevels p).1 ≠ (t.pairLevels p).2 →
            longer (s.safPair p).differ (20 * s.rd (Fld.SAF_PAIR_CFG_DISC_MS (p % 8))) t.saf.now = true →
            (t.safPair p).fault = some 1 ∧ t.rd (Fld.SAF_PAIR_STAT_CAUSE p) = 1 ∧ t.rd Fld.SAF_EVT_PAIR_FAULT = 1 ∧
            ∀ (j : Fin 4) (g : Fin 8), bitOf (s.rd (Fld.SAF_SO_CFG_FN_MASK j)) g = true → s.usesPair g p = true → .pair p ∈ (t.safOut j).locks)) ∧
        (∀ g : Fin 8,
          let used := (s.namedPairs g).all (fun p => s.pairUsed p)
          let auto := s.flag (Fld.SAF_FN_CFG_AUTO g) && s.rd (Fld.SAF_FN_CFG_TYPE g) != 1
          (s.rd (Fld.SAF_FN_CFG_EN g) = 0 → (t.safFn g).enable = true) ∧
          (s.rd (Fld.SAF_FN_CFG_EN g) = 1 → used = false → (t.safFn g).enable = false ∧ (t.safFn g).waiting = true) ∧
          (s.rd (Fld.SAF_FN_CFG_EN g) = 1 → used = true → s.rd (Fld.SAF_FN_CFG_TYPE g) ≠ 3 →
            (t.safFn g).enable = (t.fnCondition g && (auto || !(s.safFn g).waiting)) ∧ (t.fnCondition g = false → (t.safFn g).waiting = true)) ∧
          (s.rd (Fld.SAF_FN_CFG_EN g) = 1 → used = true → s.rd (Fld.SAF_FN_CFG_TYPE g) = 3 → (t.safFn g).enable = true →
            t.pairOk (s.rd (Fld.SAF_FN_CFG_PAIR_A g)) = true ∧ t.pairOk (s.rd (Fld.SAF_FN_CFG_PAIR_B g)) = true)) ∧
        (∀ j : Fin 4,
          t.outOn j = (s.flag (Fld.SAF_SO_CFG_EN j) && (t.safOut j).locks == [] &&
            (if s.flag (Fld.SAF_SO_CFG_LOCK j) then (List.range 8).any (fun g =>
                s.rd (Fld.SAF_FN_CFG_LOCK_SO g) == j && (s.safFn g).unlock && t.pairOk (s.rd (Fld.SAF_FN_CFG_REQ_PAIR g)))
             else (List.range 8).all (fun g => !bitOf (s.rd (Fld.SAF_SO_CFG_FN_MASK j)) g || (t.safFn g).enable))) ∧
          bitOf (t.rd Fld.SAF_STAT_SO_ON) j = t.outOn j ∧ bitOf (t.rd Fld.SAF_STAT_SO_LOCKOUT) j = ((t.safOut j).locks != []))))) ∧
  (∀ (s : State) (cause : IslandCause),
    (s.islandRuns = false ∨ (cause = .cross ∧ s.saf.differ < 3) → exec (.islandFault cause) s = .next s) ∧
    (s.islandRuns = true → (cause = .cross → 3 ≤ s.saf.differ) → ∃ t, exec (.islandFault cause) s = .next t ∧ t.rd Fld.SAF_STAT_ISL_FAULT = 1 ∧
      t.islandRuns = false ∧ (∀ j : Fin 4, t.outOn j = false ∧ .island ∈ (t.safOut j).locks ∧ t.rd (Fld.SAF_SO_STAT_LOCKOUT j) = 1) ∧
      t.saf.faults = s.secondsNow :: s.saf.faults.filter (fun x => decide (s.secondsNow < x + 86400)) ∧
      t.rd Fld.SAF_STAT_ISL_HOLD = (if 3 ≤ t.saf.faults.length then 1 else 0) ∧
      (cause = .lockstep → t.rd Fld.SAF_EVT_LOCKSTEP = 1) ∧ (cause = .cross → t.rd Fld.SAF_EVT_CROSS = 1) ∧
      (cause = .clock → t.rd Fld.SAF_EVT_CLOCK = 1) ∧ (cause = .vsaf → t.rd Fld.SAF_EVT_VSAF = 1) ∧ IslandOnly s t) ∧
    (let due := s.rd Fld.SAF_STAT_ISL_FAULT = 1 ∧ s.rd Fld.SAF_STAT_ISL_HOLD = 0 ∧ (s.saf.vsaf = true ∨ s.saf.faultAt + 80000000 ≤ s.nowTick)
     (s.rd Fld.SAF_STAT_ISL_FAULT = 0 ∨ s.rd Fld.SAF_STAT_ISL_HOLD = 1 ∨ (s.saf.vsaf = false ∧ s.nowTick < s.saf.faultAt + 80000000) →
       exec .islandRestart s = .next s) ∧
     (due → ∃ t, exec .islandRestart s = .next t ∧ t.islandRuns = true ∧
       t.rd Fld.SAF_CNT_ISLRST_CNT = min (s.rd Fld.SAF_CNT_ISLRST_CNT + 1) (2 ^ 32 - 1) ∧
       (∀ g : Fin 8, t.safFn g = SafFn.reset ∧ t.rd (Fld.SAF_CONN_STAT_ALIVE g) = 0 ∧ (t.safConn g).seq = none) ∧
       t.saf.outs = s.saf.outs ∧ t.saf.inForce = s.saf.inForce ∧ IslandOnly s t))) ∧
  (∀ (s : State) (f : Fin 8),
    let o := s.rd (Fld.SAF_FN_CFG_LOCK_SO f)
    let free := s.islandRuns && s.flag Fld.SAF_STAT_PSET_OK && s.flag (Fld.SAF_FN_CFG_EN f) && s.rd (Fld.SAF_FN_CFG_TYPE f) == 2 &&
      s.pairOk (s.rd (Fld.SAF_FN_CFG_REQ_PAIR f)) && longer (s.safFn f).offFrom (20 * s.rd (Fld.SAF_FN_TIME_T_MS f)) (s.saf.now + 1)
    (free = false → exec (.guardLockRelease f) s = .next s) ∧
    (free = true → ∃ t, exec (.guardLockRelease f) s = .next t ∧ (t.safFn f).unlock = true ∧
      (s.rd (Fld.SAF_SO_CFG_EN o) = 1 → s.rd (Fld.SAF_SO_CFG_LOCK o) = 1 → (s.safOut o).locks = [] → t.outOn o = true) ∧
      (∀ j : Fin 4, j.val ≠ o → t.outOn j = s.outOn j) ∧ (∀ g : Fin 8, g ≠ f → t.safFn g = s.safFn g) ∧ IslandOnly s t)) ∧
  (∀ (s : State) (i : Fin 4) (a b : Bool),
    let test := s.rd (Fld.SAF_SO_STAT_TEST i)
    let faulted := fun (cause : Nat) (t : State) => t.outOn i = false ∧ .output ∈ (t.safOut i).locks ∧ t.rd (Fld.SAF_SO_STAT_FCAUSE i) = cause ∧
      t.rd Fld.SAF_EVT_SO_FAULT = 1 ∧ (∀ j : Fin 4, j ≠ i → t.outOn j = s.outOn j ∧ t.safOut j = s.safOut j) ∧ IslandOnly s t
    let due := s.islandRuns && s.outOn i && test == 0 && decide ((s.safOut i).tested + 5000 ≤ s.saf.now)
    let o := s.safOut i
    let late := if o.matched then longer o.bad 20 s.saf.now else o.bad.isSome && decide (o.changed + 20 * s.rd (Fld.SAF_SO_CFG_RB_MS i) < s.saf.now)
    (due = false → exec (.offPulseTest i) s = .next s) ∧
    (due = true → ∃ t, exec (.offPulseTest i) s = .next t ∧ t.rd (Fld.SAF_SO_STAT_TEST i) = (if o.lowNext then 2 else 1) ∧
      t.safOut i = { o with lowNext := !o.lowNext, tested := s.saf.now, pulseAt := s.nowTick } ∧ RegsBut [Fld.SAF_SO_STAT_TEST i] s t ∧
      MapBut SafOut.reset [i.val] s.saf.outs t.saf.outs ∧ t = { s with regs := t.regs, saf := { s.saf with outs := t.saf.outs } }) ∧
    let ends := o.pulseAt + (s.rd (Fld.SAF_SO_CFG_OPT_US i) - 5) * 800
    (s.islandRuns = false ∨ test = 0 ∨ s.nowTick < ends → exec (.offPulseSample i a b) s = .next s) ∧
    (s.islandRuns = true → s.outOn i = true → (test = 1 ∨ test = 2) → ends ≤ s.nowTick →
      let row := if test = 1 then (false, false) else (true, true)
      ((a, b) = row → ∃ t, exec (.offPulseSample i a b) s = .next t ∧ t.rd (Fld.SAF_SO_STAT_TEST i) = 0 ∧ t.outOn i = true ∧
        t.rd (Fld.SAF_SO_STAT_RBA i) = a.toNat ∧ t.rd (Fld.SAF_SO_STAT_RBB i) = b.toNat ∧
        OnlyRegs [Fld.SAF_SO_STAT_TEST i, Fld.SAF_SO_STAT_RBA i, Fld.SAF_SO_STAT_RBB i] s t) ∧
      ((a, b) ≠ row → ∃ t, exec (.offPulseSample i a b) s = .next t ∧ faulted (test + 1) t)) ∧
    ((s.islandRuns && s.flag Fld.SAF_STAT_PSET_OK && late) = false → exec (.readbackFault i) s = .next s) ∧
    ((s.islandRuns && s.flag Fld.SAF_STAT_PSET_OK && late) = true → ∃ t, exec (.readbackFault i) s = .next t ∧ faulted 1 t))

/-- PARAM_MESSAGE, PENDING_SET_DISCARD, DATA_MESSAGE, PRODUCED_MESSAGE_SEND, CONNECTION_TIMEOUT, DELIBERATE_RESET, SRST_STUCK (R459 to
R461, R472 to R477). -/
def Obligations.SafetyMessages : Prop :=
  (∀ (s : State) (p : List (BitVec 8)) (port : Fin 4) (src : BitVec 48),
    let count := if s.saf.msgSec = s.secondsNow then s.saf.msgCount + 1 else 1
    let bad := fun (t : State) => t.rd Fld.SAF_CNT_MSGBAD_CNT = min (s.rd Fld.SAF_CNT_MSGBAD_CNT + 1) (2 ^ 32 - 1) ∧ t.rd Fld.SAF_EVT_MSG_BAD = 1 ∧
      t.saf = { s.saf with msgSec := s.secondsNow, msgCount := count } ∧
      OnlyLogged [Fld.SAF_CNT_MSGBAD_CNT, Fld.SAF_EVT_MSG_BAD] s { t with saf := s.saf }
    (s.islandRuns = false → exec (.paramMessage p) s = .next s ∧ exec (.dataMessage port src p) s = .next s) ∧
    (s.islandRuns = true →
      (let m := readParam s.serial p
       let good := decide (count ≤ 8000) && m.connId == 0 && m.mtype == 2 && m.len == 304 && m.crcOk && m.wdMs == 0 && seqOk s.saf.paramSeq m.seq &&
         s.rd Fld.SAF_STAT_SO_ON == 0
       (good = true → ∃ t, exec (.paramMessage p) s = .next t ∧ t.rd Fld.SAF_STAT_PSET_PEND = 1 ∧ t.rd Fld.SAF_PEND_CRC_CRC = m.set.crc.toNat ∧
         t.saf = { s.saf with msgSec := s.secondsNow, msgCount := count, pend := some m.set, paramSeq := some m.seq, pendAt := s.saf.now } ∧
         OnlyRegs [Fld.SAF_STAT_PSET_PEND, Fld.SAF_PEND_CRC_CRC] s { t with saf := s.saf }) ∧
       (good = false → ∃ t, exec (.paramMessage p) s = .next t ∧ bad t)) ∧
      (count ≤ 8000 → ∀ c, s.connOf (BitVec.ofNat 32 (leAt p 4 4)) = some c →
        let m := readData (BitVec.ofNat 32 (s.rd (Fld.SAF_CONN_SEED_SEED c))) src p
        (s.dataOk c port m = true → ∃ t, exec (.dataMessage port src p) s = .next t ∧ t.rd (Fld.SAF_CONN_STAT_ALIVE c) = 1 ∧
          t.rd (Fld.SAF_CONN_SEQ_SEQ c) = m.seq.toNat ∧ t.safConn c = ⟨m.byte16.getLsbD 0, m.byte16.getLsbD 1, some m.seq, s.saf.now⟩ ∧
          MapBut SafConn.reset [c] s.saf.conns t.saf.conns ∧ RegsBut [Fld.SAF_CONN_STAT_ALIVE c, Fld.SAF_CONN_SEQ_SEQ c] s t ∧
          t = { s with regs := t.regs, saf := { s.saf with msgSec := s.secondsNow, msgCount := count, conns := t.saf.conns } }) ∧
        (s.dataOk c port m = false → ∃ t, exec (.dataMessage port src p) s = .next t ∧ bad t)) ∧
      (8000 < count ∨ s.connOf (BitVec.ofNat 32 (leAt p 4 4)) = none → ∃ t, exec (.dataMessage port src p) s = .next t ∧ bad t))) ∧
  (∀ (s : State) (c : Fin 8),
    let consumed := s.islandRuns && s.flag (Fld.SAF_CONN_CFG_EN c) && !s.flag (Fld.SAF_CONN_CFG_DIR c)
    let dead := consumed && s.flag (Fld.SAF_CONN_STAT_ALIVE c) && decide ((s.safConn c).at' + 20 * s.rd (Fld.SAF_CONN_CFG_WD_MS c) < s.saf.now)
    let sends := s.islandRuns && s.flag (Fld.SAF_CONN_CFG_EN c) && s.flag (Fld.SAF_CONN_CFG_DIR c) && s.sendDue c
    let q := match (s.safConn c).seq with | some q => q + 1 | none => 1
    (dead = false → exec (.connectionTimeout c) s = .next s) ∧
    (dead = true → ∃ t, exec (.connectionTimeout c) s = .next t ∧ t.rd (Fld.SAF_CONN_STAT_ALIVE c) = 0 ∧ t.rd Fld.SAF_EVT_CONN_TMO = 1 ∧
      t.rd (Fld.SAF_CONN_STAT_TMO c) = min (s.rd (Fld.SAF_CONN_STAT_TMO c) + 1) 65535 ∧
      OnlyLogged [Fld.SAF_CONN_STAT_ALIVE c, Fld.SAF_EVT_CONN_TMO, Fld.SAF_CONN_STAT_TMO c] s t) ∧
    (sends = false → exec (.producedMessageSend c) s = .next s) ∧
    (sends = true → ∃ t, exec (.producedMessageSend c) s = .next t ∧ t.rd (Fld.SAF_CONN_SEQ_SEQ c) = q.toNat ∧ t.rd (Fld.SAF_CONN_STAT_ALIVE c) = 1 ∧
      (t.safConn c).seq = some q ∧ (t.safConn c).at' = s.saf.now ∧
      (FMap.get none t.saf.sent c).map (fun x => (x.seq, x.enable.toNat, x.crc.toNat, x.ver.toNat)) = some (q, s.rd Fld.SAF_STAT_FN_ENABLE % 256,
        s.rd Fld.SAF_PSET_CRC_CRC % 2 ^ 32, s.rd Fld.SAF_PSET_VER % 65536) ∧
      RegsBut [Fld.SAF_CONN_SEQ_SEQ c, Fld.SAF_CONN_STAT_ALIVE c] s t ∧
      t = { s with regs := t.regs, saf := { s.saf with conns := t.saf.conns, sent := t.saf.sent } })) ∧
  (∀ (s : State) (highMs : Nat),
    let old := s.saf.pendAt + 1200000 ≤ s.saf.now
    (s.saf.pend = none ∨ ¬ old → exec .pendingSetDiscard s = .next s) ∧
    (s.saf.pend ≠ none → old → ∃ t, exec .pendingSetDiscard s = .next t ∧ t.saf = { s.saf with pend := none } ∧ t.rd Fld.SAF_STAT_PSET_PEND = 0 ∧
      t.rd Fld.SAF_PEND_CRC_CRC = 0 ∧ OnlyRegs [Fld.SAF_STAT_PSET_PEND, Fld.SAF_PEND_CRC_CRC] s { t with saf := s.saf }) ∧
    (let stuck := s.islandRuns && s.flag Fld.SAF_STAT_SRST_LOW && longer s.saf.lowFrom 100000 s.saf.now
     (stuck = false → exec .srstStuck s = .next s) ∧
     (stuck = true → ∃ t, exec .srstStuck s = .next t ∧ t.saf = { s.saf with ignore := true } ∧ t.rd Fld.SAF_EVT_SRST_STUCK = 1 ∧
       OnlyLogged [Fld.SAF_EVT_SRST_STUCK] s { t with saf := s.saf })) ∧
    (s.islandRuns = false → exec (.deliberateReset highMs) s = .next s) ∧
    (s.islandRuns = true → s.saf.ignore = true → ∃ t, exec (.deliberateReset highMs) s = .next t ∧ t.saf.ignore = false ∧ t.saf.outs = s.saf.outs ∧
      t.saf.pend = s.saf.pend ∧ OnlyRegs [Fld.SAF_STAT_SRST_LOW] s { t with saf := s.saf }) ∧
    (s.islandRuns = true → s.saf.ignore = false →
      (highMs < 200 → ∃ t, exec (.deliberateReset highMs) s = .next t ∧ t.rd Fld.SAF_EVT_SRST_IGN = 1 ∧
        t.rd Fld.SAF_CNT_SRSTIGN_CNT = min (s.rd Fld.SAF_CNT_SRSTIGN_CNT + 1) (2 ^ 32 - 1) ∧ t.saf.outs = s.saf.outs ∧ t.saf.pend = s.saf.pend ∧
        OnlyLogged [Fld.SAF_STAT_SRST_LOW, Fld.SAF_EVT_SRST_IGN, Fld.SAF_CNT_SRSTIGN_CNT] s { t with saf := s.saf }) ∧
      (200 ≤ highMs → ∀ x, s.saf.pend = some x → ¬ old → ∃ t, exec (.deliberateReset highMs) s = .next t ∧ t.saf.pend = none ∧
        t.rd Fld.SAF_STAT_PSET_PEND = 0 ∧ t.saf.outs = s.saf.outs ∧ t.saf.pairs = s.saf.pairs ∧ (∀ j : Fin 4, t.outOn j = s.outOn j) ∧
        (x.headerOk = false ∨ x.crcOk = false ∨ x.image.length ≠ 72 →
          t.saf.inForce = s.saf.inForce ∧ t.rd Fld.SAF_EVT_PSET_BAD = 1 ∧ RegsButIn ((0x8500000, 0x8500100) :: loggedRanges) s t) ∧
        (t.rd Fld.SAF_EVT_PSET_BAD = 0 → x.headerOk = true ∧ x.crcOk = true ∧ t.imageOk = true ∧ t.saf.inForce = some x ∧ t.rd Fld.SAF_STAT_PSET_OK = 1 ∧
          t.rd Fld.SAF_PSET_VER = x.ver.toNat ∧ t.rd Fld.SAF_PSET_CRC_CRC = x.crc.toNat)) ∧
      (200 ≤ highMs → (s.saf.pend = none ∨ old) → ∃ t, exec (.deliberateReset highMs) s = .next t ∧ t.saf.pend = none ∧ t.saf.inForce = s.saf.inForce ∧
        (∀ j : Fin 4, (t.safOut j).locks = (s.safOut j).locks.filter (fun c => !s.lockGone j c) ∧
          t.rd (Fld.SAF_SO_STAT_LOCKOUT j) = (if (t.safOut j).locks = [] then 0 else 1) ∧ t.outOn j = s.outOn j) ∧
        (∀ k : Fin 16, (t.safPair k).fault = (if (s.safPair k).gone then none else (s.safPair k).fault)) ∧
        (∀ g : Fin 8, let frees := s.flag (Fld.SAF_FN_CFG_EN g) && s.rd (Fld.SAF_FN_CFG_TYPE g) != 3 && (s.safFn g).waiting && t.fnCondition g &&
            (s.namedPairs g).all (fun p => s.pairUsed p)
          (frees = true → (t.safFn g).waiting = false ∧ (t.safFn g).enable = true) ∧ (frees = false → t.safFn g = s.safFn g)) ∧
        t.rd Fld.SAF_EVT_PAIR_FAULT = 0 ∧ t.rd Fld.SAF_EVT_SO_FAULT = 0 ∧ t.rd Fld.SAF_EVT_MSG_BAD = 0 ∧ t.rd Fld.SAF_EVT_PSET_BAD = 0 ∧ IslandOnly s t)))

/-- REGISTER_WRITE (R8, R9, R20 to R24, R351, R354, R356) and CFG_WRITE (R26, R367). That MGC0 bears the access fault of a
CFG_WRITE into the island is the model's choice (log 123). -/
def Obligations.RegisterWrites : Prop :=
  (∀ (s : State) (u : Core) (addr : BitVec 40) (v : Reg32),
    let a := addr.toNat
    let blk := blockOf a
    let inBlocks := decide (0x8000000 ≤ a) && decide (a < 0x9300000) && a % 4 == 0
    (a % 4 ≠ 0 → Discarded u a s (exec (.registerWrite (.core u) addr v) s)) ∧
    (a < 0x4000000 ∨ (0x4400000 ≤ a ∧ a < 0x8000000) ∨ (0x9300000 ≤ a ∧ a < 0x10000000) ∨ 0x200000000 ≤ a →
      Discarded u a s (exec (.registerWrite (.core u) addr v) s)) ∧
    (inBlocks = true → findReg regTable a = none → histAt blk (a % 0x100000) = none → Discarded u a s (exec (.registerWrite (.core u) addr v) s)) ∧
    (inBlocks = true → mayWrite u blk = false → findReg regTable a ≠ none →
      Discarded u (0x8000000 + blk * 0x100000) s (exec (.registerWrite (.core u) addr v) s)) ∧
    (inBlocks = true → mayWrite u blk = true → ∀ x, findReg regTable a = some x → x.1.base ∈ plainRegs →
      (InRange x.1 x.2.1 x.2.2 v.toNat → ∃ t, exec (.registerWrite (.core u) addr v) s = .next t ∧ Holds x.1 x.2.1 x.2.2 a v.toNat s t ∧
        t = { s with regs := t.regs, seqr := t.seqr }) ∧
      (¬ InRange x.1 x.2.1 x.2.2 v.toNat → ∀ g, invalidFlag blk = some g → ∃ t, exec (.registerWrite (.core u) addr v) s = .next t ∧ t.rd g = 1 ∧
        OnlyLogged [g] s t ∧ Logs [(g, x.2.1)] s t)) ∧
    (a % 4 = 0 → 0x10000000 ≤ a → a < 0x12D00000 →
      (mayReachSram u = true → ∃ t, exec (.registerWrite (.core u) addr v) s = .next t ∧
        (∀ k : Fin 4, FMap.get 0 t.mem (a + k.val) = (if a % 8 = 4 ∧ k ≠ 0 then 0 else BitVec.ofNat 8 (v.toNat / 2 ^ (8 * k.val)))) ∧
        MapBut 0 [a, a + 1, a + 2, a + 3] s.mem t.mem ∧ t = { s with mem := t.mem }) ∧
      (mayReachSram u = false → Discarded u a s (exec (.registerWrite (.core u) addr v) s))) ∧
    (a % 4 = 0 → 0x106000000 ≤ a → a < 0x200000000 →
      (mayReachDram u = true → ∃ t, exec (.registerWrite (.core u) addr v) s = .next t ∧
        (∀ k : Fin 4, FMap.get 0 t.mem (a + k.val) = BitVec.ofNat 8 (v.toNat / 2 ^ (8 * k.val))) ∧ MapBut 0 [a, a + 1, a + 2, a + 3] s.mem t.mem ∧
        t = { s with mem := t.mem }) ∧
      (mayReachDram u = false → Discarded u a s (exec (.registerWrite (.core u) addr v) s)))) ∧
  (∀ (s : State) (fn : Fin 256) (dword : Bool) (addr : BitVec 40) (v : Reg32),
    let f := fn.val
    let off := addr.toNat % 0x10000
    let run := exec (.registerWrite (.host fn dword) addr v) s
    let ready := s.fnReady f && !s.flag (Fld.HIF_FN_STAT_FLR_BUSY f)
    (0x4000 ≤ off ∨ (0x2040 ≤ off ∧ off < 0x4000) ∨ (dword = false ∧ 0x2000 ≤ off) → run = .next s) ∧
    (dword = false → off < 0x2000 → ∃ t, run = .next t ∧ t.rd (Fld.HIF_FN_STAT_ACC_ERR f) = 1 ∧ RegsBut [Fld.HIF_FN_STAT_ACC_ERR f] s t ∧
      MapBut HostFn.reset [f] s.host t.host ∧ t = { s with regs := t.regs, host := t.host }) ∧
    (dword = true →
      (off = 0x1000 → run = exec (.hifDbCmd fn v) s) ∧ (off = 0x1004 → run = exec (.hifDbCpl fn v) s) ∧
      (off = 0x1008 → run = exec (.hifDbEvt fn v) s) ∧ (off = 0x100C → run = exec (.hifDbBlk fn v) s) ∧
      (∀ k : Fin 4,
        (off = 0x2000 + 16 * k.val + 8 → ∃ t, run = .next t ∧ t.vector f k = { s.vector f k with data := v } ∧ (∀ j : Fin 4, j ≠ k → t.vector f j = s.vector f j) ∧
          MapBut HostFn.reset [f] s.host t.host ∧ t = { s with host := t.host }) ∧
        (off = 0x2000 + 16 * k.val + 4 → ∃ t, run = .next t ∧ (t.vector f k).addr.toNat = (s.vector f k).addr.toNat % 2 ^ 32 + v.toNat * 2 ^ 32 ∧
          (∀ j : Fin 4, j ≠ k → t.vector f j = s.vector f j) ∧ t = { s with host := t.host }) ∧
        (off = 0x2000 + 16 * k.val + 12 → ∃ t, run = .next t ∧ (t.vector f k).masked = v.getLsbD 0 ∧
          (v.getLsbD 0 = true → t.vector f k = { s.vector f k with masked := true }) ∧
          (v.getLsbD 0 = false → (s.vector f k).pending = true → (s.vector f k).capped = false →
            (t.vector f k).pending = false ∧ (t.vector f k).sent = (s.vector f k).sent + 1 ∧
            (t.vector f k).last = some ((s.vector f k).addr, (s.vector f k).data)) ∧
          (∀ j : Fin 4, j ≠ k → t.vector f j = s.vector f j) ∧ t = { s with host := t.host }) ∧
        (ready = true → off = 0x60 + 8 * k.val → v.toNat / 2 ^ 16 % 256 ≠ 0 → ∃ t, run = .next t ∧ t.rd (Fld.HIF_FN_MOD_HOLD_US f k) = v.toNat % 2 ^ 16 ∧
          t.rd (Fld.HIF_FN_MOD_COUNT f k) = v.toNat / 2 ^ 16 % 2 ^ 8 ∧ t.rd (Fld.HIF_FN_MOD_RATE f k) = v.toNat / 2 ^ 24 ∧
          OnlyRegs [Fld.HIF_FN_MOD_HOLD_US f k, Fld.HIF_FN_MOD_COUNT f k, Fld.HIF_FN_MOD_RATE f k] s t) ∧
        (ready = true → off = 0x60 + 8 * k.val → v.toNat / 2 ^ 16 % 256 = 0 → ∃ t, run = .next t ∧ t.rd Fld.HIF_GSTAT_INVALID_WR = 1 ∧
          OnlyLogged [Fld.HIF_GSTAT_INVALID_WR] s t) ∧
        (ready = true → off = 0x14 + 16 * k.val → off < 0x4C →
          (s.fnOpen f = false → ∃ t, run = .next t ∧ t.rd (Fld.HIF_FN_RING_BASE_HI_ADDR f k) = v.toNat ∧ OnlyRegs [Fld.HIF_FN_RING_BASE_HI_ADDR f k] s t) ∧
          (s.fnOpen f = true → ∃ t, run = .next t ∧ t.rd (Fld.HIF_FN_STAT_WR_IGN f) = 1 ∧ OnlyRegs [Fld.HIF_FN_STAT_WR_IGN f] s t))) ∧
      (ready = true → off = 0x3C → ∃ t, run = .next t ∧ t.rd (Fld.HIF_FN_EVT_MASK_TYPES f) = (v.toNat / 2 % 512 ||| 3) ∧
        OnlyRegs [Fld.HIF_FN_EVT_MASK_TYPES f] s t) ∧
      (ready = false → off < 0x2000 → off ≠ 0x8 → run = .next s))) ∧
  (∀ (s : State) (p : Fin 2) (addr : BitVec 40) (v : Reg32),
    let up := s.flag (Fld.HIF_PORT_STAT_ENABLED p) && s.flag (Fld.HIF_PORT_STAT_LINK_UP p)
    (up = false → exec (.registerWrite (.sriov p) addr v) s = .next s) ∧
    (up = true → ∃ t, exec (.registerWrite (.sriov p) addr v) s = .next t ∧ t.rd (Fld.HIF_PORT_STAT_NUM_VF p) = min v.toNat 127 ∧
      (s.rd (Fld.HIF_PORT_STAT_NUM_VF p) ≤ v.toNat → OnlyRegs [Fld.HIF_PORT_STAT_NUM_VF p] s t) ∧
      (∀ i : Fin 127, v.toNat ≤ i.val → i.val < s.rd (Fld.HIF_PORT_STAT_NUM_VF p) → FnReset (128 * p.val + 1 + i.val) t))) ∧
  (∀ (s : State) (fn : Fin 256) (index : BitVec 16), ∀ x, s.runnable fn.val index.toNat = some x →
    ∀ (blk off : Nat) (w : Reg32), x.d.body = .cfgWrite blk off [w] →
      (blk = 5 → ∃ t, exec (.cfgWrite fn index) s = .next t ∧ CompletedWith fn.val x .range 0 s t ∧
        t.coreFault = (s.accessFault (.mgc 0) (blockAddr blk off)).coreFault) ∧
      (blk ≠ 5 → ∀ y, findReg regTable (blockAddr blk off) = some y → y.1.base ∈ plainRegs → blockOf (blockAddr blk off) = blk →
        (InRange y.1 y.2.1 y.2.2 w.toNat → ∃ t, exec (.cfgWrite fn index) s = .next t ∧
          (∀ fd ∈ y.1.fields, t.rd (fd.fld y.2.1 y.2.2) = (fd.fld y.2.1 y.2.2).part w.toNat) ∧ t.force = s.force ∧ t.coreFault = s.coreFault ∧
          (stagedAddr (blockAddr blk off) = false → CompletedWith fn.val x .ok 1 s t ∧ t.seqr = s.seqr) ∧
          (stagedAddr (blockAddr blk off) = true → t.seqr = { s.seqr with staged := true } ∧ (t.fn fn.val).inflight.length = (s.fn fn.val).inflight.length ∧
            ((t.fn fn.val).inflight.find? (fun z => z.serial == x.serial)).map (·.at') = some (.boundary 1))) ∧
        (¬ InRange y.1 y.2.1 y.2.2 w.toNat → ∃ t, exec (.cfgWrite fn index) s = .next t ∧ CompletedWith fn.val x .range 0 s t ∧
          (∀ fd ∈ y.1.fields, t.rd (fd.fld y.2.1 y.2.2) = s.rd (fd.fld y.2.1 y.2.2)))))

/-- R21 to R23 over every command that carries the core which sends it. That the entry's detail is the block's base is the model's
choice (log 124). -/
def Obligations.ForbiddenCoreCommands : Prop :=
  ∀ (s : State) (u : Core)
    (x0 : Fin 128) (x1 : Bool) (x2 : BitVec 3) (x3 : Fin 96) (x4 : Reg32) (x5 : BitVec 6) (x6 : Bool) (x7 : Fin 32) (x8 : Fin 32) (x9 : BitVec 28) (x10 : BitVec 5) (x11 : BitVec 2) (x12 : BitVec 8) (x13 : Fin 16) (x14 : BitVec 15) (x15 : BitVec 11) (x16 : BitVec 16) (x17 : BitVec 7) (x18 : Fin 8) (x19 : Fin 4096) (x20 : Fin 60),
    (mayWrite u 0 = false → let out := Discarded u 0x8000000 s
      out (exec (.spokeEnable u x0) s) ∧ out (exec (.spokeDisable u x0) s) ∧ out (exec (.spkRestep u x0) s) ∧
      out (exec (.spkClrCap u x0) s) ∧ out (exec (.spkCntClr u x0) s) ∧ out (exec (.hostFence u x0 x1) s) ∧
      out (exec (.laneTestSelect u x0 x2 x1) s)) ∧
    (mayWrite u 1 = false → let out := Discarded u 0x8100000 s
      out (exec (.vlyBindWrite u x0 x3 x1 x4) s) ∧ out (exec (.vlyArmmapWrite u x0 x3 x5 x1 x6) s)) ∧
    (mayWrite u 2 = false → let out := Discarded u 0x8200000 s
      out (exec (.ceEnable u x7 x1) s) ∧ out (exec (.ceArmownWrite u x7 x4) s) ∧ out (exec (.migrationStart u x7 x8 x1) s) ∧
      out (exec (.migrationAbort u x7) s) ∧ out (exec (.ceHostFence u x7 x1) s) ∧ out (exec (.ceCntClr u x7) s) ∧
      out (exec (.dlmaxClr u x7) s)) ∧
    (mayWrite u 3 = false → let out := Discarded u 0x8300000 s
      out (exec (.adcUrg u x9) s) ∧ out (exec (.syscalStart u x10 x11) s) ∧ out (exec (.adcCntClr u) s)) ∧
    (mayWrite u 4 = false → let out := Discarded u 0x8400000 s
      out (exec (.lpwBlkRel u x12) s) ∧ out (exec (.lpwLock u) s) ∧ out (exec (.lpCommit u x13) s) ∧
      out (exec (.lpFire u x13) s)) ∧
    (mayWrite u 6 = false → let out := Discarded u 0x8600000 s
      out (exec (.tb0IncNsWrite u x12) s) ∧ out (exec (.tb0Adj u x4) s) ∧ out (exec (.tb0Set u x4) s) ∧
      out (exec (.syncDecl u x1) s)) ∧
    (mayWrite u 7 = false → let out := Discarded u 0x8700000 s
      out (exec (.stpBridgeEnable u x1) s) ∧ out (exec (.stpLock u) s) ∧ out (exec (.stpCntClr u) s)) ∧
    (mayWrite u 9 = false → let out := Discarded u 0x8900000 s
      out (exec (.secCntClr u) s)) ∧
    (mayWrite u 11 = false → let out := Discarded u 0x8b00000 s
      out (exec (.tndSwitch u) s) ∧ out (exec (.tndRejoin u) s) ∧ out (exec (.tndPartnerRst u) s) ∧
      out (exec (.tndCntClr u) s) ∧ out (exec (.tndLock u) s) ∧ out (exec (.tndSyncWrite u x7 x14 x15) s)) ∧
    (mayWrite u 12 = false → let out := Discarded u 0x8c00000 s
      out (exec (.wdtKick u x16) s) ∧ out (exec (.startDone u x16) s) ∧ out (exec (.rstCfgLock u) s) ∧
      out (exec (.fwConfirm u) s) ∧ out (exec (.fwReject u) s) ∧ out (exec (.fwSave u) s) ∧ out (exec (.fwClrStage u) s)) ∧
    (mayWrite u 13 = false → let out := Discarded u 0x8d00000 s
      out (exec (.hkpLift u x11 x17 x1) s) ∧ out (exec (.kminClr u) s) ∧ out (exec (.fanClr u x18) s) ∧
      out (exec (.pertCtlWrite u x18 x4) s)) ∧
    (mayWrite u 14 = false → let out := Discarded u 0x8e00000 s
      out (exec (.recEnable u x13) s) ∧ out (exec (.recDisable u x13) s) ∧ out (exec (.recHostTrig u x16) s) ∧
      out (exec (.recCntClr u) s)) ∧
    (mayWrite u 15 = false → let out := Discarded u 0x8f00000 s
      out (exec (.taskStart u x19) s) ∧ out (exec (.taskStop u x19) s) ∧ out (exec (.taskConfigure u x19 x10 x1) s) ∧
      out (exec (.schCntClr u) s)) ∧
    (mayWrite u 16 = false → let out := Discarded u 0x9000000 s
      out (exec (.eqFlush u x20) s) ∧ out (exec (.eqCntClr u x20) s)) ∧
    (mayWrite u 17 = false → let out := Discarded u 0x9100000 s
      out (exec (.qosCntClr u) s))
end

