-- ==== Sys2Proof/Laws/FMap.lean ====
section
/-! SUPPORT. Laws of sparse maps: reading after writing, the canonical form, and the same of the register file. -/

namespace Sys2Proof.Machine

variable {α : Type}

/-! ### Reading after writing -/

@[simp] theorem FMap.get_nil (d : α) (k : Nat) : FMap.get d [] k = d := rfl

@[simp] theorem FMap.get_erase_self (d : α) (m : FMap α) (k : Nat) : FMap.get d (FMap.erase m k) k = d := by
  induction m with
  | nil => rfl
  | cons p t ih =>
    by_cases h : p.1 = k
    · simpa [FMap.erase, h] using ih
    · simpa [FMap.erase, h, FMap.get] using ih

theorem FMap.get_erase_ne (d : α) (m : FMap α) {k j : Nat} (h : j ≠ k) : FMap.get d (FMap.erase m k) j = FMap.get d m j := by
  induction m with
  | nil => rfl
  | cons p t ih =>
    by_cases hp : p.1 = k
    · have hj : p.1 ≠ j := by rw [hp]; exact h.symm
      simpa [FMap.erase, hp, FMap.get, hj, Ne.symm h] using ih
    · by_cases hj : p.1 = j <;> simp [FMap.erase, hp, FMap.get, hj, ih]
      rw [if_neg (by rw [← hj]; exact hp)]
      simp [FMap.get, hj]

theorem FMap.get_insert (d : α) (m : FMap α) (k : Nat) (v : α) (j : Nat) (h : ∀ p ∈ m, p.1 ≠ k) :
    FMap.get d (FMap.insert k v m) j = if j = k then v else FMap.get d m j := by
  induction m with
  | nil => simp [FMap.insert, FMap.get, eq_comm]
  | cons p t ih =>
    have hp : p.1 ≠ k := h p (by simp)
    have ht := ih (fun q hq => h q (by simp [hq]))
    unfold FMap.insert
    split
    · by_cases hj : j = k
      · subst hj; simp [FMap.get]
      · simp [FMap.get, hj, Ne.symm hj]
    · by_cases hj : j = k
      · subst hj; simp [FMap.get, hp, ht]
      · by_cases hpj : p.1 = j
        · subst hpj; simp [FMap.get, hp]
        · simp [FMap.get, hpj, hj, ht]

theorem FMap.erase_keys (m : FMap α) (k : Nat) : ∀ p ∈ FMap.erase m k, p.1 ≠ k := by
  induction m with
  | nil => simp [FMap.erase]
  | cons p t ih =>
    by_cases h : p.1 = k
    · simpa [FMap.erase, h] using ih
    · simp only [FMap.erase, h, if_false, List.mem_cons]
      rintro q (rfl | hq)
      · exact h
      · exact ih q hq

section
variable [DecidableEq α]

/-- A read after a write: the written value at its key, every other key as before. -/
theorem FMap.get_set (d : α) (m : FMap α) (k : Nat) (v : α) (j : Nat) :
    FMap.get d (FMap.set d m k v) j = if j = k then v else FMap.get d m j := by
  unfold FMap.set
  split
  · rename_i hv
    by_cases hj : j = k
    · subst hj; simp [hv]
    · simp [hj, FMap.get_erase_ne d m hj]
  · rw [FMap.get_insert _ _ _ _ _ (FMap.erase_keys m k)]
    by_cases hj : j = k
    · simp [hj]
    · simp [hj, FMap.get_erase_ne d m hj]

@[simp] theorem FMap.get_set_self (d : α) (m : FMap α) (k : Nat) (v : α) : FMap.get d (FMap.set d m k v) k = v := by
  simp [FMap.get_set]

theorem FMap.get_set_ne (d : α) (m : FMap α) {k j : Nat} (v : α) (h : j ≠ k) :
    FMap.get d (FMap.set d m k v) j = FMap.get d m j := by simp [FMap.get_set, h]

theorem FMap.get_modify (d : α) (m : FMap α) (k : Nat) (f : α → α) (j : Nat) :
    FMap.get d (FMap.modify d m k f) j = if j = k then f (FMap.get d m k) else FMap.get d m j := FMap.get_set d m k _ j

@[simp] theorem FMap.get_modify_self (d : α) (m : FMap α) (k : Nat) (f : α → α) :
    FMap.get d (FMap.modify d m k f) k = f (FMap.get d m k) := by simp [FMap.get_modify]

theorem FMap.get_modify_ne (d : α) (m : FMap α) {k j : Nat} (f : α → α) (h : j ≠ k) :
    FMap.get d (FMap.modify d m k f) j = FMap.get d m j := by simp [FMap.get_modify, h]

theorem FMap.get_setRange (d : α) (vs : List α) : ∀ (m : FMap α) (k j : Nat),
    FMap.get d (FMap.setRange d m k vs) j = if k ≤ j ∧ j < k + vs.length then vs.getD (j - k) d else FMap.get d m j := by
  induction vs with
  | nil => intro m k j; simp [FMap.setRange]
  | cons v t ih =>
    intro m k j
    rw [FMap.setRange, ih, FMap.get_set]
    by_cases h : j = k
    · subst h; simp
    · by_cases h2 : k + 1 ≤ j ∧ j < k + 1 + t.length
      · have h3 : k ≤ j ∧ j < k + (v :: t).length := by simp; omega
        obtain ⟨n, hn⟩ : ∃ n, j - k = n + 1 := ⟨j - (k + 1), by omega⟩
        have hn' : j - (k + 1) = n := by omega
        rw [if_pos h2, if_pos h3, hn, hn']
        simp
      · have h3 : ¬ (k ≤ j ∧ j < k + (v :: t).length) := by simp; omega
        rw [if_neg h2, if_neg h, if_neg h3]

/-! ### The canonical form -/

/-- The canonical form as a proposition: keys strictly rising, no entry at the default. -/
def FMap.Canon (d : α) (m : FMap α) : Prop := m.Pairwise (fun p q => p.1 < q.1) ∧ ∀ p ∈ m, p.2 ≠ d

theorem FMap.wf_iff (d : α) (m : FMap α) : FMap.wf d m = true ↔ FMap.Canon d m := by
  induction m with
  | nil => simp [FMap.wf, FMap.Canon]
  | cons p t ih =>
    cases t with
    | nil => simp [FMap.wf, FMap.Canon]
    | cons q u =>
      have hw : FMap.wf d (p :: q :: u) = true ↔ (p.2 ≠ d ∧ p.1 < q.1) ∧ FMap.wf d (q :: u) = true := by simp [FMap.wf]
      rw [hw, ih]
      unfold FMap.Canon
      simp only [List.pairwise_cons, List.mem_cons]
      constructor
      · rintro ⟨⟨h1, h2⟩, ⟨h3, h4⟩, h5⟩
        refine ⟨⟨?_, h3, h4⟩, ?_⟩
        · rintro r (rfl | hr)
          · exact h2
          · exact lt_trans h2 (h3 r hr)
        · rintro r (rfl | hr)
          · exact h1
          · exact h5 r hr
      · rintro ⟨⟨h1, h3, h4⟩, h5⟩
        exact ⟨⟨h5 p (Or.inl rfl), h1 q (Or.inl rfl)⟩, ⟨h3, h4⟩, fun r hr => h5 r (Or.inr hr)⟩

theorem FMap.erase_sublist (m : FMap α) (k : Nat) : (FMap.erase m k).Sublist m := by
  induction m with
  | nil => exact List.Sublist.refl _
  | cons p t ih =>
    by_cases h : p.1 = k
    · simpa [FMap.erase, h] using ih.trans (List.sublist_cons_self p t)
    · simpa [FMap.erase, h] using ih.cons_cons p

theorem FMap.wf_sublist (d : α) {m n : FMap α} (h : m.Sublist n) (hn : FMap.wf d n = true) : FMap.wf d m = true := by
  rw [FMap.wf_iff] at hn ⊢
  exact ⟨hn.1.sublist h, fun p hp => hn.2 p (h.subset hp)⟩

theorem FMap.mem_insert (k : Nat) (v : α) (m : FMap α) (q : Nat × α) : q ∈ FMap.insert k v m ↔ q = (k, v) ∨ q ∈ m := by
  induction m with
  | nil => simp [FMap.insert]
  | cons p t ih =>
    unfold FMap.insert
    split
    · simp
    · simp only [List.mem_cons, ih]; tauto

theorem FMap.pairwise_insert (k : Nat) (v : α) (m : FMap α) (h : m.Pairwise (fun p q => p.1 < q.1)) (hk : ∀ p ∈ m, p.1 ≠ k) :
    (FMap.insert k v m).Pairwise (fun p q => p.1 < q.1) := by
  induction m with
  | nil => simp [FMap.insert]
  | cons p t ih =>
    rw [List.pairwise_cons] at h
    unfold FMap.insert
    split
    · rename_i hlt
      simp only [List.pairwise_cons, List.mem_cons]
      refine ⟨?_, h.1, h.2⟩
      rintro q (rfl | hq)
      · exact hlt
      · exact lt_trans hlt (h.1 q hq)
    · rename_i hlt
      have hpk : p.1 ≠ k := hk p (by simp)
      rw [List.pairwise_cons]
      refine ⟨?_, ih h.2 (fun q hq => hk q (by simp [hq]))⟩
      intro q hq
      rcases (FMap.mem_insert k v t q).1 hq with rfl | hq
      · show p.1 < k; omega
      · exact h.1 q hq

@[simp] theorem FMap.wf_erase (d : α) {m : FMap α} (k : Nat) (h : FMap.wf d m = true) : FMap.wf d (FMap.erase m k) = true :=
  FMap.wf_sublist d (FMap.erase_sublist m k) h

@[simp] theorem FMap.wf_set (d : α) {m : FMap α} (k : Nat) (v : α) (h : FMap.wf d m = true) : FMap.wf d (FMap.set d m k v) = true := by
  unfold FMap.set
  split
  · exact FMap.wf_erase d k h
  · rename_i hv
    have he := (FMap.wf_iff d _).1 (FMap.wf_erase d k h)
    rw [FMap.wf_iff]
    refine ⟨FMap.pairwise_insert k v _ he.1 (FMap.erase_keys m k), ?_⟩
    intro q hq
    rcases (FMap.mem_insert k v _ q).1 hq with rfl | hq
    · exact hv
    · exact he.2 q hq

@[simp] theorem FMap.wf_modify (d : α) {m : FMap α} (k : Nat) (f : α → α) (h : FMap.wf d m = true) :
    FMap.wf d (FMap.modify d m k f) = true := FMap.wf_set d k _ h

@[simp] theorem FMap.wf_setRange (d : α) (vs : List α) : ∀ {m : FMap α} (k : Nat), FMap.wf d m = true →
    FMap.wf d (FMap.setRange d m k vs) = true := by
  induction vs with
  | nil => intro m k h; exact h
  | cons v t ih => intro m k h; exact ih (k + 1) (FMap.wf_set d k v h)

@[simp] theorem FMap.wf_filter (d : α) {m : FMap α} (p : Nat × α → Bool) (h : FMap.wf d m = true) : FMap.wf d (List.filter p m) = true :=
  FMap.wf_sublist d List.filter_sublist h

@[simp] theorem FMap.wf_clearRange (d : α) {m : FMap α} (lo hi : Nat) (h : FMap.wf d m = true) :
    FMap.wf d (FMap.clearRange m lo hi) = true := FMap.wf_filter d _ h

theorem FMap.mapVals_mem (d : α) (f : Nat → α → α) (m : FMap α) : ∀ q ∈ FMap.mapVals d f m, q.2 ≠ d ∧ ∃ p ∈ m, p.1 = q.1 := by
  induction m with
  | nil => simp [FMap.mapVals]
  | cons p t ih =>
    intro q hq
    unfold FMap.mapVals at hq
    split at hq
    · obtain ⟨h1, r, hr, h2⟩ := ih q hq
      exact ⟨h1, r, by simp [hr], h2⟩
    · rename_i hne
      rcases List.mem_cons.1 hq with rfl | hq
      · exact ⟨hne, p, by simp, rfl⟩
      · obtain ⟨h1, r, hr, h2⟩ := ih q hq
        exact ⟨h1, r, by simp [hr], h2⟩

@[simp] theorem FMap.wf_mapVals (d : α) (f : Nat → α → α) {m : FMap α} (h : FMap.wf d m = true) :
    FMap.wf d (FMap.mapVals d f m) = true := by
  rw [FMap.wf_iff] at h ⊢
  refine ⟨?_, fun q hq => (FMap.mapVals_mem d f m q hq).1⟩
  obtain ⟨h, -⟩ := h
  induction m with
  | nil => simp [FMap.mapVals]
  | cons p t ih =>
    rw [List.pairwise_cons] at h
    unfold FMap.mapVals
    split
    · exact ih h.2
    · rw [List.pairwise_cons]
      refine ⟨fun q hq => ?_, ih h.2⟩
      obtain ⟨-, r, hr, h2⟩ := FMap.mapVals_mem d f t q hq
      have := h.1 r hr
      show p.1 < q.1
      omega

end

/-! ### The register file -/

/-- The key of a field below bit 32 names it: address and lowest bit. -/
theorem Field.key_inj {f g : Field} (hf : f.lsb < 32) (hg : g.lsb < 32) : f.key = g.key ↔ f.addr = g.addr ∧ f.lsb = g.lsb := by
  unfold Field.key; omega

@[simp] theorem RegFile.get_set_self (r : RegFile) (f : Field) (v : Nat) : (r.set f v).get f = v % 2 ^ f.width := by
  simp [RegFile.get, RegFile.set]

theorem RegFile.get_set_ne (r : RegFile) {f g : Field} (v : Nat) (h : g.key ≠ f.key) : (r.set f v).get g = r.get g := by
  unfold RegFile.get RegFile.set FMap.set
  split
  · rw [FMap.get_erase_ne _ _ h]
  · rw [FMap.get_insert _ _ _ _ _ (FMap.erase_keys r f.key)]
    simp [h, FMap.get_erase_ne _ _ h]

end Sys2Proof.Machine
end

