-- ==== Sys2Proof/Laws/State.lean ====
section
/-! SUPPORT. What each update of the state leaves alone: one lemma per field per update, and reading after writing. -/

namespace Sys2Proof.Machine

/-! ### Register fields -/

@[simp] theorem State.rd_wr_self (s : State) (f : Field) (v : Nat) : (s.wr f v).rd f = v % 2 ^ f.width := RegFile.get_set_self _ _ _

theorem State.rd_wr_ne (s : State) {f g : Field} (v : Nat) (h : g.key ≠ f.key) : (s.wr f v).rd g = s.rd g := RegFile.get_set_ne _ v h

@[simp] theorem State.inForce_wr (s : State) (f : Field) (v : Nat) (g : Field) : (s.wr f v).inForce g = s.inForce g := rfl

/-! ### wr -/

@[simp] theorem State.wr_force (s : State) (f : Field) (v : Nat) : (s.wr f v).force = s.force := rfl
@[simp] theorem State.wr_rst (s : State) (f : Field) (v : Nat) : (s.wr f v).rst = s.rst := rfl
@[simp] theorem State.wr_flash (s : State) (f : Field) (v : Nat) : (s.wr f v).flash = s.flash := rfl
@[simp] theorem State.wr_staging (s : State) (f : Field) (v : Nat) : (s.wr f v).staging = s.staging := rfl
@[simp] theorem State.wr_feeds (s : State) (f : Field) (v : Nat) : (s.wr f v).feeds = s.feeds := rfl
@[simp] theorem State.wr_fuses (s : State) (f : Field) (v : Nat) : (s.wr f v).fuses = s.fuses := rfl
@[simp] theorem State.wr_keyLc (s : State) (f : Field) (v : Nat) : (s.wr f v).keyLc = s.keyLc := rfl
@[simp] theorem State.wr_bankKey (s : State) (f : Field) (v : Nat) : (s.wr f v).bankKey = s.bankKey := rfl
@[simp] theorem State.wr_sec (s : State) (f : Field) (v : Nat) : (s.wr f v).sec = s.sec := rfl
@[simp] theorem State.wr_host (s : State) (f : Field) (v : Nat) : (s.wr f v).host = s.host := rfl
@[simp] theorem State.wr_hostMem (s : State) (f : Field) (v : Nat) : (s.wr f v).hostMem = s.hostMem := rfl
@[simp] theorem State.wr_tnd (s : State) (f : Field) (v : Nat) : (s.wr f v).tnd = s.tnd := rfl
@[simp] theorem State.wr_hist (s : State) (f : Field) (v : Nat) : (s.wr f v).hist = s.hist := rfl
@[simp] theorem State.wr_log (s : State) (f : Field) (v : Nat) : (s.wr f v).log = s.log := rfl
@[simp] theorem State.wr_tb (s : State) (f : Field) (v : Nat) : (s.wr f v).tb = s.tb := rfl
@[simp] theorem State.wr_cad (s : State) (f : Field) (v : Nat) : (s.wr f v).cad = s.cad := rfl
@[simp] theorem State.wr_fans (s : State) (f : Field) (v : Nat) : (s.wr f v).fans = s.fans := rfl
@[simp] theorem State.wr_dramShed (s : State) (f : Field) (v : Nat) : (s.wr f v).dramShed = s.dramShed := rfl
@[simp] theorem State.wr_qos (s : State) (f : Field) (v : Nat) : (s.wr f v).qos = s.qos := rfl
@[simp] theorem State.wr_seqr (s : State) (f : Field) (v : Nat) : (s.wr f v).seqr = s.seqr := rfl
@[simp] theorem State.wr_eq (s : State) (f : Field) (v : Nat) : (s.wr f v).eq = s.eq := rfl
@[simp] theorem State.wr_engines (s : State) (f : Field) (v : Nat) : (s.wr f v).engines = s.engines := rfl
@[simp] theorem State.wr_spokes (s : State) (f : Field) (v : Nat) : (s.wr f v).spokes = s.spokes := rfl
@[simp] theorem State.wr_cells (s : State) (f : Field) (v : Nat) : (s.wr f v).cells = s.cells := rfl
@[simp] theorem State.wr_arms (s : State) (f : Field) (v : Nat) : (s.wr f v).arms = s.arms := rfl
@[simp] theorem State.wr_image (s : State) (f : Field) (v : Nat) : (s.wr f v).image = s.image := rfl
@[simp] theorem State.wr_c0 (s : State) (f : Field) (v : Nat) : (s.wr f v).c0 = s.c0 := rfl
@[simp] theorem State.wr_lp (s : State) (f : Field) (v : Nat) : (s.wr f v).lp = s.lp := rfl
@[simp] theorem State.wr_adc (s : State) (f : Field) (v : Nat) : (s.wr f v).adc = s.adc := rfl
@[simp] theorem State.wr_slices (s : State) (f : Field) (v : Nat) : (s.wr f v).slices = s.slices := rfl
@[simp] theorem State.wr_sysCal (s : State) (f : Field) (v : Nat) : (s.wr f v).sysCal = s.sysCal := rfl
@[simp] theorem State.wr_tgDue (s : State) (f : Field) (v : Nat) : (s.wr f v).tgDue = s.tgDue := rfl
@[simp] theorem State.wr_setNow (s : State) (f : Field) (v : Nat) : (s.wr f v).setNow = s.setNow := rfl
@[simp] theorem State.wr_setSnap (s : State) (f : Field) (v : Nat) : (s.wr f v).setSnap = s.setSnap := rfl
@[simp] theorem State.wr_stp (s : State) (f : Field) (v : Nat) : (s.wr f v).stp = s.stp := rfl
@[simp] theorem State.wr_ports (s : State) (f : Field) (v : Nat) : (s.wr f v).ports = s.ports := rfl
@[simp] theorem State.wr_subs (s : State) (f : Field) (v : Nat) : (s.wr f v).subs = s.subs := rfl
@[simp] theorem State.wr_goose (s : State) (f : Field) (v : Nat) : (s.wr f v).goose = s.goose := rfl
@[simp] theorem State.wr_time (s : State) (f : Field) (v : Nat) : (s.wr f v).time = s.time := rfl
@[simp] theorem State.wr_recs (s : State) (f : Field) (v : Nat) : (s.wr f v).recs = s.recs := rfl
@[simp] theorem State.wr_captures (s : State) (f : Field) (v : Nat) : (s.wr f v).captures = s.captures := rfl
@[simp] theorem State.wr_saf (s : State) (f : Field) (v : Nat) : (s.wr f v).saf = s.saf := rfl
@[simp] theorem State.wr_sch (s : State) (f : Field) (v : Nat) : (s.wr f v).sch = s.sch := rfl
@[simp] theorem State.wr_irqCores (s : State) (f : Field) (v : Nat) : (s.wr f v).irqCores = s.irqCores := rfl
@[simp] theorem State.wr_irqRates (s : State) (f : Field) (v : Nat) : (s.wr f v).irqRates = s.irqRates := rfl
@[simp] theorem State.wr_coreFault (s : State) (f : Field) (v : Nat) : (s.wr f v).coreFault = s.coreFault := rfl
@[simp] theorem State.wr_mem (s : State) (f : Field) (v : Nat) : (s.wr f v).mem = s.mem := rfl
@[simp] theorem State.wr_coreMem (s : State) (f : Field) (v : Nat) : (s.wr f v).coreMem = s.coreMem := rfl
@[simp] theorem State.wr_dramKey (s : State) (f : Field) (v : Nat) : (s.wr f v).dramKey = s.dramKey := rfl
@[simp] theorem State.wr_freeCtr (s : State) (f : Field) (v : Nat) : (s.wr f v).freeCtr = s.freeCtr := rfl
@[simp] theorem State.wr_halted (s : State) (f : Field) (v : Nat) : (s.wr f v).halted = s.halted := rfl
@[simp] theorem State.wr_pending (s : State) (f : Field) (v : Nat) : (s.wr f v).pending = s.pending := rfl

/-! ### resetRange -/

@[simp] theorem State.resetRange_force (s : State) (lo hi : Nat) : (s.resetRange lo hi).force = s.force := rfl
@[simp] theorem State.resetRange_rst (s : State) (lo hi : Nat) : (s.resetRange lo hi).rst = s.rst := rfl
@[simp] theorem State.resetRange_flash (s : State) (lo hi : Nat) : (s.resetRange lo hi).flash = s.flash := rfl
@[simp] theorem State.resetRange_staging (s : State) (lo hi : Nat) : (s.resetRange lo hi).staging = s.staging := rfl
@[simp] theorem State.resetRange_feeds (s : State) (lo hi : Nat) : (s.resetRange lo hi).feeds = s.feeds := rfl
@[simp] theorem State.resetRange_fuses (s : State) (lo hi : Nat) : (s.resetRange lo hi).fuses = s.fuses := rfl
@[simp] theorem State.resetRange_keyLc (s : State) (lo hi : Nat) : (s.resetRange lo hi).keyLc = s.keyLc := rfl
@[simp] theorem State.resetRange_bankKey (s : State) (lo hi : Nat) : (s.resetRange lo hi).bankKey = s.bankKey := rfl
@[simp] theorem State.resetRange_sec (s : State) (lo hi : Nat) : (s.resetRange lo hi).sec = s.sec := rfl
@[simp] theorem State.resetRange_host (s : State) (lo hi : Nat) : (s.resetRange lo hi).host = s.host := rfl
@[simp] theorem State.resetRange_hostMem (s : State) (lo hi : Nat) : (s.resetRange lo hi).hostMem = s.hostMem := rfl
@[simp] theorem State.resetRange_tnd (s : State) (lo hi : Nat) : (s.resetRange lo hi).tnd = s.tnd := rfl
@[simp] theorem State.resetRange_hist (s : State) (lo hi : Nat) : (s.resetRange lo hi).hist = s.hist := rfl
@[simp] theorem State.resetRange_log (s : State) (lo hi : Nat) : (s.resetRange lo hi).log = s.log := rfl
@[simp] theorem State.resetRange_tb (s : State) (lo hi : Nat) : (s.resetRange lo hi).tb = s.tb := rfl
@[simp] theorem State.resetRange_cad (s : State) (lo hi : Nat) : (s.resetRange lo hi).cad = s.cad := rfl
@[simp] theorem State.resetRange_fans (s : State) (lo hi : Nat) : (s.resetRange lo hi).fans = s.fans := rfl
@[simp] theorem State.resetRange_dramShed (s : State) (lo hi : Nat) : (s.resetRange lo hi).dramShed = s.dramShed := rfl
@[simp] theorem State.resetRange_qos (s : State) (lo hi : Nat) : (s.resetRange lo hi).qos = s.qos := rfl
@[simp] theorem State.resetRange_seqr (s : State) (lo hi : Nat) : (s.resetRange lo hi).seqr = s.seqr := rfl
@[simp] theorem State.resetRange_eq (s : State) (lo hi : Nat) : (s.resetRange lo hi).eq = s.eq := rfl
@[simp] theorem State.resetRange_engines (s : State) (lo hi : Nat) : (s.resetRange lo hi).engines = s.engines := rfl
@[simp] theorem State.resetRange_spokes (s : State) (lo hi : Nat) : (s.resetRange lo hi).spokes = s.spokes := rfl
@[simp] theorem State.resetRange_cells (s : State) (lo hi : Nat) : (s.resetRange lo hi).cells = s.cells := rfl
@[simp] theorem State.resetRange_arms (s : State) (lo hi : Nat) : (s.resetRange lo hi).arms = s.arms := rfl
@[simp] theorem State.resetRange_image (s : State) (lo hi : Nat) : (s.resetRange lo hi).image = s.image := rfl
@[simp] theorem State.resetRange_c0 (s : State) (lo hi : Nat) : (s.resetRange lo hi).c0 = s.c0 := rfl
@[simp] theorem State.resetRange_lp (s : State) (lo hi : Nat) : (s.resetRange lo hi).lp = s.lp := rfl
@[simp] theorem State.resetRange_adc (s : State) (lo hi : Nat) : (s.resetRange lo hi).adc = s.adc := rfl
@[simp] theorem State.resetRange_slices (s : State) (lo hi : Nat) : (s.resetRange lo hi).slices = s.slices := rfl
@[simp] theorem State.resetRange_sysCal (s : State) (lo hi : Nat) : (s.resetRange lo hi).sysCal = s.sysCal := rfl
@[simp] theorem State.resetRange_tgDue (s : State) (lo hi : Nat) : (s.resetRange lo hi).tgDue = s.tgDue := rfl
@[simp] theorem State.resetRange_setNow (s : State) (lo hi : Nat) : (s.resetRange lo hi).setNow = s.setNow := rfl
@[simp] theorem State.resetRange_setSnap (s : State) (lo hi : Nat) : (s.resetRange lo hi).setSnap = s.setSnap := rfl
@[simp] theorem State.resetRange_stp (s : State) (lo hi : Nat) : (s.resetRange lo hi).stp = s.stp := rfl
@[simp] theorem State.resetRange_ports (s : State) (lo hi : Nat) : (s.resetRange lo hi).ports = s.ports := rfl
@[simp] theorem State.resetRange_subs (s : State) (lo hi : Nat) : (s.resetRange lo hi).subs = s.subs := rfl
@[simp] theorem State.resetRange_goose (s : State) (lo hi : Nat) : (s.resetRange lo hi).goose = s.goose := rfl
@[simp] theorem State.resetRange_time (s : State) (lo hi : Nat) : (s.resetRange lo hi).time = s.time := rfl
@[simp] theorem State.resetRange_recs (s : State) (lo hi : Nat) : (s.resetRange lo hi).recs = s.recs := rfl
@[simp] theorem State.resetRange_captures (s : State) (lo hi : Nat) : (s.resetRange lo hi).captures = s.captures := rfl
@[simp] theorem State.resetRange_saf (s : State) (lo hi : Nat) : (s.resetRange lo hi).saf = s.saf := rfl
@[simp] theorem State.resetRange_sch (s : State) (lo hi : Nat) : (s.resetRange lo hi).sch = s.sch := rfl
@[simp] theorem State.resetRange_irqCores (s : State) (lo hi : Nat) : (s.resetRange lo hi).irqCores = s.irqCores := rfl
@[simp] theorem State.resetRange_irqRates (s : State) (lo hi : Nat) : (s.resetRange lo hi).irqRates = s.irqRates := rfl
@[simp] theorem State.resetRange_coreFault (s : State) (lo hi : Nat) : (s.resetRange lo hi).coreFault = s.coreFault := rfl
@[simp] theorem State.resetRange_mem (s : State) (lo hi : Nat) : (s.resetRange lo hi).mem = s.mem := rfl
@[simp] theorem State.resetRange_coreMem (s : State) (lo hi : Nat) : (s.resetRange lo hi).coreMem = s.coreMem := rfl
@[simp] theorem State.resetRange_dramKey (s : State) (lo hi : Nat) : (s.resetRange lo hi).dramKey = s.dramKey := rfl
@[simp] theorem State.resetRange_freeCtr (s : State) (lo hi : Nat) : (s.resetRange lo hi).freeCtr = s.freeCtr := rfl
@[simp] theorem State.resetRange_halted (s : State) (lo hi : Nat) : (s.resetRange lo hi).halted = s.halted := rfl
@[simp] theorem State.resetRange_pending (s : State) (lo hi : Nat) : (s.resetRange lo hi).pending = s.pending := rfl

/-! ### setSpoke -/

@[simp] theorem State.setSpoke_regs (s : State) (n : Nat) (f : Spoke → Spoke) : (s.setSpoke n f).regs = s.regs := rfl
@[simp] theorem State.setSpoke_force (s : State) (n : Nat) (f : Spoke → Spoke) : (s.setSpoke n f).force = s.force := rfl
@[simp] theorem State.setSpoke_rst (s : State) (n : Nat) (f : Spoke → Spoke) : (s.setSpoke n f).rst = s.rst := rfl
@[simp] theorem State.setSpoke_flash (s : State) (n : Nat) (f : Spoke → Spoke) : (s.setSpoke n f).flash = s.flash := rfl
@[simp] theorem State.setSpoke_staging (s : State) (n : Nat) (f : Spoke → Spoke) : (s.setSpoke n f).staging = s.staging := rfl
@[simp] theorem State.setSpoke_feeds (s : State) (n : Nat) (f : Spoke → Spoke) : (s.setSpoke n f).feeds = s.feeds := rfl
@[simp] theorem State.setSpoke_fuses (s : State) (n : Nat) (f : Spoke → Spoke) : (s.setSpoke n f).fuses = s.fuses := rfl
@[simp] theorem State.setSpoke_keyLc (s : State) (n : Nat) (f : Spoke → Spoke) : (s.setSpoke n f).keyLc = s.keyLc := rfl
@[simp] theorem State.setSpoke_bankKey (s : State) (n : Nat) (f : Spoke → Spoke) : (s.setSpoke n f).bankKey = s.bankKey := rfl
@[simp] theorem State.setSpoke_sec (s : State) (n : Nat) (f : Spoke → Spoke) : (s.setSpoke n f).sec = s.sec := rfl
@[simp] theorem State.setSpoke_host (s : State) (n : Nat) (f : Spoke → Spoke) : (s.setSpoke n f).host = s.host := rfl
@[simp] theorem State.setSpoke_hostMem (s : State) (n : Nat) (f : Spoke → Spoke) : (s.setSpoke n f).hostMem = s.hostMem := rfl
@[simp] theorem State.setSpoke_tnd (s : State) (n : Nat) (f : Spoke → Spoke) : (s.setSpoke n f).tnd = s.tnd := rfl
@[simp] theorem State.setSpoke_hist (s : State) (n : Nat) (f : Spoke → Spoke) : (s.setSpoke n f).hist = s.hist := rfl
@[simp] theorem State.setSpoke_log (s : State) (n : Nat) (f : Spoke → Spoke) : (s.setSpoke n f).log = s.log := rfl
@[simp] theorem State.setSpoke_tb (s : State) (n : Nat) (f : Spoke → Spoke) : (s.setSpoke n f).tb = s.tb := rfl
@[simp] theorem State.setSpoke_cad (s : State) (n : Nat) (f : Spoke → Spoke) : (s.setSpoke n f).cad = s.cad := rfl
@[simp] theorem State.setSpoke_fans (s : State) (n : Nat) (f : Spoke → Spoke) : (s.setSpoke n f).fans = s.fans := rfl
@[simp] theorem State.setSpoke_dramShed (s : State) (n : Nat) (f : Spoke → Spoke) : (s.setSpoke n f).dramShed = s.dramShed := rfl
@[simp] theorem State.setSpoke_qos (s : State) (n : Nat) (f : Spoke → Spoke) : (s.setSpoke n f).qos = s.qos := rfl
@[simp] theorem State.setSpoke_seqr (s : State) (n : Nat) (f : Spoke → Spoke) : (s.setSpoke n f).seqr = s.seqr := rfl
@[simp] theorem State.setSpoke_eq (s : State) (n : Nat) (f : Spoke → Spoke) : (s.setSpoke n f).eq = s.eq := rfl
@[simp] theorem State.setSpoke_engines (s : State) (n : Nat) (f : Spoke → Spoke) : (s.setSpoke n f).engines = s.engines := rfl
@[simp] theorem State.setSpoke_cells (s : State) (n : Nat) (f : Spoke → Spoke) : (s.setSpoke n f).cells = s.cells := rfl
@[simp] theorem State.setSpoke_arms (s : State) (n : Nat) (f : Spoke → Spoke) : (s.setSpoke n f).arms = s.arms := rfl
@[simp] theorem State.setSpoke_image (s : State) (n : Nat) (f : Spoke → Spoke) : (s.setSpoke n f).image = s.image := rfl
@[simp] theorem State.setSpoke_c0 (s : State) (n : Nat) (f : Spoke → Spoke) : (s.setSpoke n f).c0 = s.c0 := rfl
@[simp] theorem State.setSpoke_lp (s : State) (n : Nat) (f : Spoke → Spoke) : (s.setSpoke n f).lp = s.lp := rfl
@[simp] theorem State.setSpoke_adc (s : State) (n : Nat) (f : Spoke → Spoke) : (s.setSpoke n f).adc = s.adc := rfl
@[simp] theorem State.setSpoke_slices (s : State) (n : Nat) (f : Spoke → Spoke) : (s.setSpoke n f).slices = s.slices := rfl
@[simp] theorem State.setSpoke_sysCal (s : State) (n : Nat) (f : Spoke → Spoke) : (s.setSpoke n f).sysCal = s.sysCal := rfl
@[simp] theorem State.setSpoke_tgDue (s : State) (n : Nat) (f : Spoke → Spoke) : (s.setSpoke n f).tgDue = s.tgDue := rfl
@[simp] theorem State.setSpoke_setNow (s : State) (n : Nat) (f : Spoke → Spoke) : (s.setSpoke n f).setNow = s.setNow := rfl
@[simp] theorem State.setSpoke_setSnap (s : State) (n : Nat) (f : Spoke → Spoke) : (s.setSpoke n f).setSnap = s.setSnap := rfl
@[simp] theorem State.setSpoke_stp (s : State) (n : Nat) (f : Spoke → Spoke) : (s.setSpoke n f).stp = s.stp := rfl
@[simp] theorem State.setSpoke_ports (s : State) (n : Nat) (f : Spoke → Spoke) : (s.setSpoke n f).ports = s.ports := rfl
@[simp] theorem State.setSpoke_subs (s : State) (n : Nat) (f : Spoke → Spoke) : (s.setSpoke n f).subs = s.subs := rfl
@[simp] theorem State.setSpoke_goose (s : State) (n : Nat) (f : Spoke → Spoke) : (s.setSpoke n f).goose = s.goose := rfl
@[simp] theorem State.setSpoke_time (s : State) (n : Nat) (f : Spoke → Spoke) : (s.setSpoke n f).time = s.time := rfl
@[simp] theorem State.setSpoke_recs (s : State) (n : Nat) (f : Spoke → Spoke) : (s.setSpoke n f).recs = s.recs := rfl
@[simp] theorem State.setSpoke_captures (s : State) (n : Nat) (f : Spoke → Spoke) : (s.setSpoke n f).captures = s.captures := rfl
@[simp] theorem State.setSpoke_saf (s : State) (n : Nat) (f : Spoke → Spoke) : (s.setSpoke n f).saf = s.saf := rfl
@[simp] theorem State.setSpoke_sch (s : State) (n : Nat) (f : Spoke → Spoke) : (s.setSpoke n f).sch = s.sch := rfl
@[simp] theorem State.setSpoke_irqCores (s : State) (n : Nat) (f : Spoke → Spoke) : (s.setSpoke n f).irqCores = s.irqCores := rfl
@[simp] theorem State.setSpoke_irqRates (s : State) (n : Nat) (f : Spoke → Spoke) : (s.setSpoke n f).irqRates = s.irqRates := rfl
@[simp] theorem State.setSpoke_coreFault (s : State) (n : Nat) (f : Spoke → Spoke) : (s.setSpoke n f).coreFault = s.coreFault := rfl
@[simp] theorem State.setSpoke_mem (s : State) (n : Nat) (f : Spoke → Spoke) : (s.setSpoke n f).mem = s.mem := rfl
@[simp] theorem State.setSpoke_coreMem (s : State) (n : Nat) (f : Spoke → Spoke) : (s.setSpoke n f).coreMem = s.coreMem := rfl
@[simp] theorem State.setSpoke_dramKey (s : State) (n : Nat) (f : Spoke → Spoke) : (s.setSpoke n f).dramKey = s.dramKey := rfl
@[simp] theorem State.setSpoke_freeCtr (s : State) (n : Nat) (f : Spoke → Spoke) : (s.setSpoke n f).freeCtr = s.freeCtr := rfl
@[simp] theorem State.setSpoke_halted (s : State) (n : Nat) (f : Spoke → Spoke) : (s.setSpoke n f).halted = s.halted := rfl
@[simp] theorem State.setSpoke_pending (s : State) (n : Nat) (f : Spoke → Spoke) : (s.setSpoke n f).pending = s.pending := rfl
@[simp] theorem State.setSpoke_rd (s : State) (n : Nat) (f : Spoke → Spoke) (g : Field) : (s.setSpoke n f).rd g = s.rd g := rfl
@[simp] theorem State.setSpoke_flag (s : State) (n : Nat) (f : Spoke → Spoke) (g : Field) : (s.setSpoke n f).flag g = s.flag g := rfl
@[simp] theorem State.setSpoke_spoke_self (s : State) (n : Nat) (f : Spoke → Spoke) : (s.setSpoke n f).spoke n = f (s.spoke n) := FMap.get_modify_self _ _ _ _
theorem State.setSpoke_spoke_ne (s : State) (n : Nat) (f : Spoke → Spoke) {i : Nat} (h : i ≠ n) : (s.setSpoke n f).spoke i = s.spoke i := FMap.get_modify_ne _ _ _ h

/-! ### setCell -/

@[simp] theorem State.setCell_regs (s : State) (c : Nat) (f : Cell → Cell) : (s.setCell c f).regs = s.regs := rfl
@[simp] theorem State.setCell_force (s : State) (c : Nat) (f : Cell → Cell) : (s.setCell c f).force = s.force := rfl
@[simp] theorem State.setCell_rst (s : State) (c : Nat) (f : Cell → Cell) : (s.setCell c f).rst = s.rst := rfl
@[simp] theorem State.setCell_flash (s : State) (c : Nat) (f : Cell → Cell) : (s.setCell c f).flash = s.flash := rfl
@[simp] theorem State.setCell_staging (s : State) (c : Nat) (f : Cell → Cell) : (s.setCell c f).staging = s.staging := rfl
@[simp] theorem State.setCell_feeds (s : State) (c : Nat) (f : Cell → Cell) : (s.setCell c f).feeds = s.feeds := rfl
@[simp] theorem State.setCell_fuses (s : State) (c : Nat) (f : Cell → Cell) : (s.setCell c f).fuses = s.fuses := rfl
@[simp] theorem State.setCell_keyLc (s : State) (c : Nat) (f : Cell → Cell) : (s.setCell c f).keyLc = s.keyLc := rfl
@[simp] theorem State.setCell_bankKey (s : State) (c : Nat) (f : Cell → Cell) : (s.setCell c f).bankKey = s.bankKey := rfl
@[simp] theorem State.setCell_sec (s : State) (c : Nat) (f : Cell → Cell) : (s.setCell c f).sec = s.sec := rfl
@[simp] theorem State.setCell_host (s : State) (c : Nat) (f : Cell → Cell) : (s.setCell c f).host = s.host := rfl
@[simp] theorem State.setCell_hostMem (s : State) (c : Nat) (f : Cell → Cell) : (s.setCell c f).hostMem = s.hostMem := rfl
@[simp] theorem State.setCell_tnd (s : State) (c : Nat) (f : Cell → Cell) : (s.setCell c f).tnd = s.tnd := rfl
@[simp] theorem State.setCell_hist (s : State) (c : Nat) (f : Cell → Cell) : (s.setCell c f).hist = s.hist := rfl
@[simp] theorem State.setCell_log (s : State) (c : Nat) (f : Cell → Cell) : (s.setCell c f).log = s.log := rfl
@[simp] theorem State.setCell_tb (s : State) (c : Nat) (f : Cell → Cell) : (s.setCell c f).tb = s.tb := rfl
@[simp] theorem State.setCell_cad (s : State) (c : Nat) (f : Cell → Cell) : (s.setCell c f).cad = s.cad := rfl
@[simp] theorem State.setCell_fans (s : State) (c : Nat) (f : Cell → Cell) : (s.setCell c f).fans = s.fans := rfl
@[simp] theorem State.setCell_dramShed (s : State) (c : Nat) (f : Cell → Cell) : (s.setCell c f).dramShed = s.dramShed := rfl
@[simp] theorem State.setCell_qos (s : State) (c : Nat) (f : Cell → Cell) : (s.setCell c f).qos = s.qos := rfl
@[simp] theorem State.setCell_seqr (s : State) (c : Nat) (f : Cell → Cell) : (s.setCell c f).seqr = s.seqr := rfl
@[simp] theorem State.setCell_eq (s : State) (c : Nat) (f : Cell → Cell) : (s.setCell c f).eq = s.eq := rfl
@[simp] theorem State.setCell_engines (s : State) (c : Nat) (f : Cell → Cell) : (s.setCell c f).engines = s.engines := rfl
@[simp] theorem State.setCell_spokes (s : State) (c : Nat) (f : Cell → Cell) : (s.setCell c f).spokes = s.spokes := rfl
@[simp] theorem State.setCell_arms (s : State) (c : Nat) (f : Cell → Cell) : (s.setCell c f).arms = s.arms := rfl
@[simp] theorem State.setCell_image (s : State) (c : Nat) (f : Cell → Cell) : (s.setCell c f).image = s.image := rfl
@[simp] theorem State.setCell_c0 (s : State) (c : Nat) (f : Cell → Cell) : (s.setCell c f).c0 = s.c0 := rfl
@[simp] theorem State.setCell_lp (s : State) (c : Nat) (f : Cell → Cell) : (s.setCell c f).lp = s.lp := rfl
@[simp] theorem State.setCell_adc (s : State) (c : Nat) (f : Cell → Cell) : (s.setCell c f).adc = s.adc := rfl
@[simp] theorem State.setCell_slices (s : State) (c : Nat) (f : Cell → Cell) : (s.setCell c f).slices = s.slices := rfl
@[simp] theorem State.setCell_sysCal (s : State) (c : Nat) (f : Cell → Cell) : (s.setCell c f).sysCal = s.sysCal := rfl
@[simp] theorem State.setCell_tgDue (s : State) (c : Nat) (f : Cell → Cell) : (s.setCell c f).tgDue = s.tgDue := rfl
@[simp] theorem State.setCell_setNow (s : State) (c : Nat) (f : Cell → Cell) : (s.setCell c f).setNow = s.setNow := rfl
@[simp] theorem State.setCell_setSnap (s : State) (c : Nat) (f : Cell → Cell) : (s.setCell c f).setSnap = s.setSnap := rfl
@[simp] theorem State.setCell_stp (s : State) (c : Nat) (f : Cell → Cell) : (s.setCell c f).stp = s.stp := rfl
@[simp] theorem State.setCell_ports (s : State) (c : Nat) (f : Cell → Cell) : (s.setCell c f).ports = s.ports := rfl
@[simp] theorem State.setCell_subs (s : State) (c : Nat) (f : Cell → Cell) : (s.setCell c f).subs = s.subs := rfl
@[simp] theorem State.setCell_goose (s : State) (c : Nat) (f : Cell → Cell) : (s.setCell c f).goose = s.goose := rfl
@[simp] theorem State.setCell_time (s : State) (c : Nat) (f : Cell → Cell) : (s.setCell c f).time = s.time := rfl
@[simp] theorem State.setCell_recs (s : State) (c : Nat) (f : Cell → Cell) : (s.setCell c f).recs = s.recs := rfl
@[simp] theorem State.setCell_captures (s : State) (c : Nat) (f : Cell → Cell) : (s.setCell c f).captures = s.captures := rfl
@[simp] theorem State.setCell_saf (s : State) (c : Nat) (f : Cell → Cell) : (s.setCell c f).saf = s.saf := rfl
@[simp] theorem State.setCell_sch (s : State) (c : Nat) (f : Cell → Cell) : (s.setCell c f).sch = s.sch := rfl
@[simp] theorem State.setCell_irqCores (s : State) (c : Nat) (f : Cell → Cell) : (s.setCell c f).irqCores = s.irqCores := rfl
@[simp] theorem State.setCell_irqRates (s : State) (c : Nat) (f : Cell → Cell) : (s.setCell c f).irqRates = s.irqRates := rfl
@[simp] theorem State.setCell_coreFault (s : State) (c : Nat) (f : Cell → Cell) : (s.setCell c f).coreFault = s.coreFault := rfl
@[simp] theorem State.setCell_mem (s : State) (c : Nat) (f : Cell → Cell) : (s.setCell c f).mem = s.mem := rfl
@[simp] theorem State.setCell_coreMem (s : State) (c : Nat) (f : Cell → Cell) : (s.setCell c f).coreMem = s.coreMem := rfl
@[simp] theorem State.setCell_dramKey (s : State) (c : Nat) (f : Cell → Cell) : (s.setCell c f).dramKey = s.dramKey := rfl
@[simp] theorem State.setCell_freeCtr (s : State) (c : Nat) (f : Cell → Cell) : (s.setCell c f).freeCtr = s.freeCtr := rfl
@[simp] theorem State.setCell_halted (s : State) (c : Nat) (f : Cell → Cell) : (s.setCell c f).halted = s.halted := rfl
@[simp] theorem State.setCell_pending (s : State) (c : Nat) (f : Cell → Cell) : (s.setCell c f).pending = s.pending := rfl
@[simp] theorem State.setCell_rd (s : State) (c : Nat) (f : Cell → Cell) (g : Field) : (s.setCell c f).rd g = s.rd g := rfl
@[simp] theorem State.setCell_flag (s : State) (c : Nat) (f : Cell → Cell) (g : Field) : (s.setCell c f).flag g = s.flag g := rfl
@[simp] theorem State.setCell_cell_self (s : State) (c : Nat) (f : Cell → Cell) : (s.setCell c f).cell c = f (s.cell c) := FMap.get_modify_self _ _ _ _
theorem State.setCell_cell_ne (s : State) (c : Nat) (f : Cell → Cell) {i : Nat} (h : i ≠ c) : (s.setCell c f).cell i = s.cell i := FMap.get_modify_ne _ _ _ h

/-! ### setArm -/

@[simp] theorem State.setArm_regs (s : State) (a : Nat) (f : Arm → Arm) : (s.setArm a f).regs = s.regs := rfl
@[simp] theorem State.setArm_force (s : State) (a : Nat) (f : Arm → Arm) : (s.setArm a f).force = s.force := rfl
@[simp] theorem State.setArm_rst (s : State) (a : Nat) (f : Arm → Arm) : (s.setArm a f).rst = s.rst := rfl
@[simp] theorem State.setArm_flash (s : State) (a : Nat) (f : Arm → Arm) : (s.setArm a f).flash = s.flash := rfl
@[simp] theorem State.setArm_staging (s : State) (a : Nat) (f : Arm → Arm) : (s.setArm a f).staging = s.staging := rfl
@[simp] theorem State.setArm_feeds (s : State) (a : Nat) (f : Arm → Arm) : (s.setArm a f).feeds = s.feeds := rfl
@[simp] theorem State.setArm_fuses (s : State) (a : Nat) (f : Arm → Arm) : (s.setArm a f).fuses = s.fuses := rfl
@[simp] theorem State.setArm_keyLc (s : State) (a : Nat) (f : Arm → Arm) : (s.setArm a f).keyLc = s.keyLc := rfl
@[simp] theorem State.setArm_bankKey (s : State) (a : Nat) (f : Arm → Arm) : (s.setArm a f).bankKey = s.bankKey := rfl
@[simp] theorem State.setArm_sec (s : State) (a : Nat) (f : Arm → Arm) : (s.setArm a f).sec = s.sec := rfl
@[simp] theorem State.setArm_host (s : State) (a : Nat) (f : Arm → Arm) : (s.setArm a f).host = s.host := rfl
@[simp] theorem State.setArm_hostMem (s : State) (a : Nat) (f : Arm → Arm) : (s.setArm a f).hostMem = s.hostMem := rfl
@[simp] theorem State.setArm_tnd (s : State) (a : Nat) (f : Arm → Arm) : (s.setArm a f).tnd = s.tnd := rfl
@[simp] theorem State.setArm_hist (s : State) (a : Nat) (f : Arm → Arm) : (s.setArm a f).hist = s.hist := rfl
@[simp] theorem State.setArm_log (s : State) (a : Nat) (f : Arm → Arm) : (s.setArm a f).log = s.log := rfl
@[simp] theorem State.setArm_tb (s : State) (a : Nat) (f : Arm → Arm) : (s.setArm a f).tb = s.tb := rfl
@[simp] theorem State.setArm_cad (s : State) (a : Nat) (f : Arm → Arm) : (s.setArm a f).cad = s.cad := rfl
@[simp] theorem State.setArm_fans (s : State) (a : Nat) (f : Arm → Arm) : (s.setArm a f).fans = s.fans := rfl
@[simp] theorem State.setArm_dramShed (s : State) (a : Nat) (f : Arm → Arm) : (s.setArm a f).dramShed = s.dramShed := rfl
@[simp] theorem State.setArm_qos (s : State) (a : Nat) (f : Arm → Arm) : (s.setArm a f).qos = s.qos := rfl
@[simp] theorem State.setArm_seqr (s : State) (a : Nat) (f : Arm → Arm) : (s.setArm a f).seqr = s.seqr := rfl
@[simp] theorem State.setArm_eq (s : State) (a : Nat) (f : Arm → Arm) : (s.setArm a f).eq = s.eq := rfl
@[simp] theorem State.setArm_engines (s : State) (a : Nat) (f : Arm → Arm) : (s.setArm a f).engines = s.engines := rfl
@[simp] theorem State.setArm_spokes (s : State) (a : Nat) (f : Arm → Arm) : (s.setArm a f).spokes = s.spokes := rfl
@[simp] theorem State.setArm_cells (s : State) (a : Nat) (f : Arm → Arm) : (s.setArm a f).cells = s.cells := rfl
@[simp] theorem State.setArm_image (s : State) (a : Nat) (f : Arm → Arm) : (s.setArm a f).image = s.image := rfl
@[simp] theorem State.setArm_c0 (s : State) (a : Nat) (f : Arm → Arm) : (s.setArm a f).c0 = s.c0 := rfl
@[simp] theorem State.setArm_lp (s : State) (a : Nat) (f : Arm → Arm) : (s.setArm a f).lp = s.lp := rfl
@[simp] theorem State.setArm_adc (s : State) (a : Nat) (f : Arm → Arm) : (s.setArm a f).adc = s.adc := rfl
@[simp] theorem State.setArm_slices (s : State) (a : Nat) (f : Arm → Arm) : (s.setArm a f).slices = s.slices := rfl
@[simp] theorem State.setArm_sysCal (s : State) (a : Nat) (f : Arm → Arm) : (s.setArm a f).sysCal = s.sysCal := rfl
@[simp] theorem State.setArm_tgDue (s : State) (a : Nat) (f : Arm → Arm) : (s.setArm a f).tgDue = s.tgDue := rfl
@[simp] theorem State.setArm_setNow (s : State) (a : Nat) (f : Arm → Arm) : (s.setArm a f).setNow = s.setNow := rfl
@[simp] theorem State.setArm_setSnap (s : State) (a : Nat) (f : Arm → Arm) : (s.setArm a f).setSnap = s.setSnap := rfl
@[simp] theorem State.setArm_stp (s : State) (a : Nat) (f : Arm → Arm) : (s.setArm a f).stp = s.stp := rfl
@[simp] theorem State.setArm_ports (s : State) (a : Nat) (f : Arm → Arm) : (s.setArm a f).ports = s.ports := rfl
@[simp] theorem State.setArm_subs (s : State) (a : Nat) (f : Arm → Arm) : (s.setArm a f).subs = s.subs := rfl
@[simp] theorem State.setArm_goose (s : State) (a : Nat) (f : Arm → Arm) : (s.setArm a f).goose = s.goose := rfl
@[simp] theorem State.setArm_time (s : State) (a : Nat) (f : Arm → Arm) : (s.setArm a f).time = s.time := rfl
@[simp] theorem State.setArm_recs (s : State) (a : Nat) (f : Arm → Arm) : (s.setArm a f).recs = s.recs := rfl
@[simp] theorem State.setArm_captures (s : State) (a : Nat) (f : Arm → Arm) : (s.setArm a f).captures = s.captures := rfl
@[simp] theorem State.setArm_saf (s : State) (a : Nat) (f : Arm → Arm) : (s.setArm a f).saf = s.saf := rfl
@[simp] theorem State.setArm_sch (s : State) (a : Nat) (f : Arm → Arm) : (s.setArm a f).sch = s.sch := rfl
@[simp] theorem State.setArm_irqCores (s : State) (a : Nat) (f : Arm → Arm) : (s.setArm a f).irqCores = s.irqCores := rfl
@[simp] theorem State.setArm_irqRates (s : State) (a : Nat) (f : Arm → Arm) : (s.setArm a f).irqRates = s.irqRates := rfl
@[simp] theorem State.setArm_coreFault (s : State) (a : Nat) (f : Arm → Arm) : (s.setArm a f).coreFault = s.coreFault := rfl
@[simp] theorem State.setArm_mem (s : State) (a : Nat) (f : Arm → Arm) : (s.setArm a f).mem = s.mem := rfl
@[simp] theorem State.setArm_coreMem (s : State) (a : Nat) (f : Arm → Arm) : (s.setArm a f).coreMem = s.coreMem := rfl
@[simp] theorem State.setArm_dramKey (s : State) (a : Nat) (f : Arm → Arm) : (s.setArm a f).dramKey = s.dramKey := rfl
@[simp] theorem State.setArm_freeCtr (s : State) (a : Nat) (f : Arm → Arm) : (s.setArm a f).freeCtr = s.freeCtr := rfl
@[simp] theorem State.setArm_halted (s : State) (a : Nat) (f : Arm → Arm) : (s.setArm a f).halted = s.halted := rfl
@[simp] theorem State.setArm_pending (s : State) (a : Nat) (f : Arm → Arm) : (s.setArm a f).pending = s.pending := rfl
@[simp] theorem State.setArm_rd (s : State) (a : Nat) (f : Arm → Arm) (g : Field) : (s.setArm a f).rd g = s.rd g := rfl
@[simp] theorem State.setArm_flag (s : State) (a : Nat) (f : Arm → Arm) (g : Field) : (s.setArm a f).flag g = s.flag g := rfl
@[simp] theorem State.setArm_arm_self (s : State) (a : Nat) (f : Arm → Arm) : (s.setArm a f).arm a = f (s.arm a) := FMap.get_modify_self _ _ _ _
theorem State.setArm_arm_ne (s : State) (a : Nat) (f : Arm → Arm) {i : Nat} (h : i ≠ a) : (s.setArm a f).arm i = s.arm i := FMap.get_modify_ne _ _ _ h

/-! ### setFlash -/

@[simp] theorem State.setFlash_regs (s : State) (n : Nat) (f : Flash → Flash) : (s.setFlash n f).regs = s.regs := rfl
@[simp] theorem State.setFlash_force (s : State) (n : Nat) (f : Flash → Flash) : (s.setFlash n f).force = s.force := rfl
@[simp] theorem State.setFlash_rst (s : State) (n : Nat) (f : Flash → Flash) : (s.setFlash n f).rst = s.rst := rfl
@[simp] theorem State.setFlash_staging (s : State) (n : Nat) (f : Flash → Flash) : (s.setFlash n f).staging = s.staging := rfl
@[simp] theorem State.setFlash_feeds (s : State) (n : Nat) (f : Flash → Flash) : (s.setFlash n f).feeds = s.feeds := rfl
@[simp] theorem State.setFlash_fuses (s : State) (n : Nat) (f : Flash → Flash) : (s.setFlash n f).fuses = s.fuses := rfl
@[simp] theorem State.setFlash_keyLc (s : State) (n : Nat) (f : Flash → Flash) : (s.setFlash n f).keyLc = s.keyLc := rfl
@[simp] theorem State.setFlash_bankKey (s : State) (n : Nat) (f : Flash → Flash) : (s.setFlash n f).bankKey = s.bankKey := rfl
@[simp] theorem State.setFlash_sec (s : State) (n : Nat) (f : Flash → Flash) : (s.setFlash n f).sec = s.sec := rfl
@[simp] theorem State.setFlash_host (s : State) (n : Nat) (f : Flash → Flash) : (s.setFlash n f).host = s.host := rfl
@[simp] theorem State.setFlash_hostMem (s : State) (n : Nat) (f : Flash → Flash) : (s.setFlash n f).hostMem = s.hostMem := rfl
@[simp] theorem State.setFlash_tnd (s : State) (n : Nat) (f : Flash → Flash) : (s.setFlash n f).tnd = s.tnd := rfl
@[simp] theorem State.setFlash_hist (s : State) (n : Nat) (f : Flash → Flash) : (s.setFlash n f).hist = s.hist := rfl
@[simp] theorem State.setFlash_log (s : State) (n : Nat) (f : Flash → Flash) : (s.setFlash n f).log = s.log := rfl
@[simp] theorem State.setFlash_tb (s : State) (n : Nat) (f : Flash → Flash) : (s.setFlash n f).tb = s.tb := rfl
@[simp] theorem State.setFlash_cad (s : State) (n : Nat) (f : Flash → Flash) : (s.setFlash n f).cad = s.cad := rfl
@[simp] theorem State.setFlash_fans (s : State) (n : Nat) (f : Flash → Flash) : (s.setFlash n f).fans = s.fans := rfl
@[simp] theorem State.setFlash_dramShed (s : State) (n : Nat) (f : Flash → Flash) : (s.setFlash n f).dramShed = s.dramShed := rfl
@[simp] theorem State.setFlash_qos (s : State) (n : Nat) (f : Flash → Flash) : (s.setFlash n f).qos = s.qos := rfl
@[simp] theorem State.setFlash_seqr (s : State) (n : Nat) (f : Flash → Flash) : (s.setFlash n f).seqr = s.seqr := rfl
@[simp] theorem State.setFlash_eq (s : State) (n : Nat) (f : Flash → Flash) : (s.setFlash n f).eq = s.eq := rfl
@[simp] theorem State.setFlash_engines (s : State) (n : Nat) (f : Flash → Flash) : (s.setFlash n f).engines = s.engines := rfl
@[simp] theorem State.setFlash_spokes (s : State) (n : Nat) (f : Flash → Flash) : (s.setFlash n f).spokes = s.spokes := rfl
@[simp] theorem State.setFlash_cells (s : State) (n : Nat) (f : Flash → Flash) : (s.setFlash n f).cells = s.cells := rfl
@[simp] theorem State.setFlash_arms (s : State) (n : Nat) (f : Flash → Flash) : (s.setFlash n f).arms = s.arms := rfl
@[simp] theorem State.setFlash_image (s : State) (n : Nat) (f : Flash → Flash) : (s.setFlash n f).image = s.image := rfl
@[simp] theorem State.setFlash_c0 (s : State) (n : Nat) (f : Flash → Flash) : (s.setFlash n f).c0 = s.c0 := rfl
@[simp] theorem State.setFlash_lp (s : State) (n : Nat) (f : Flash → Flash) : (s.setFlash n f).lp = s.lp := rfl
@[simp] theorem State.setFlash_adc (s : State) (n : Nat) (f : Flash → Flash) : (s.setFlash n f).adc = s.adc := rfl
@[simp] theorem State.setFlash_slices (s : State) (n : Nat) (f : Flash → Flash) : (s.setFlash n f).slices = s.slices := rfl
@[simp] theorem State.setFlash_sysCal (s : State) (n : Nat) (f : Flash → Flash) : (s.setFlash n f).sysCal = s.sysCal := rfl
@[simp] theorem State.setFlash_tgDue (s : State) (n : Nat) (f : Flash → Flash) : (s.setFlash n f).tgDue = s.tgDue := rfl
@[simp] theorem State.setFlash_setNow (s : State) (n : Nat) (f : Flash → Flash) : (s.setFlash n f).setNow = s.setNow := rfl
@[simp] theorem State.setFlash_setSnap (s : State) (n : Nat) (f : Flash → Flash) : (s.setFlash n f).setSnap = s.setSnap := rfl
@[simp] theorem State.setFlash_stp (s : State) (n : Nat) (f : Flash → Flash) : (s.setFlash n f).stp = s.stp := rfl
@[simp] theorem State.setFlash_ports (s : State) (n : Nat) (f : Flash → Flash) : (s.setFlash n f).ports = s.ports := rfl
@[simp] theorem State.setFlash_subs (s : State) (n : Nat) (f : Flash → Flash) : (s.setFlash n f).subs = s.subs := rfl
@[simp] theorem State.setFlash_goose (s : State) (n : Nat) (f : Flash → Flash) : (s.setFlash n f).goose = s.goose := rfl
@[simp] theorem State.setFlash_time (s : State) (n : Nat) (f : Flash → Flash) : (s.setFlash n f).time = s.time := rfl
@[simp] theorem State.setFlash_recs (s : State) (n : Nat) (f : Flash → Flash) : (s.setFlash n f).recs = s.recs := rfl
@[simp] theorem State.setFlash_captures (s : State) (n : Nat) (f : Flash → Flash) : (s.setFlash n f).captures = s.captures := rfl
@[simp] theorem State.setFlash_saf (s : State) (n : Nat) (f : Flash → Flash) : (s.setFlash n f).saf = s.saf := rfl
@[simp] theorem State.setFlash_sch (s : State) (n : Nat) (f : Flash → Flash) : (s.setFlash n f).sch = s.sch := rfl
@[simp] theorem State.setFlash_irqCores (s : State) (n : Nat) (f : Flash → Flash) : (s.setFlash n f).irqCores = s.irqCores := rfl
@[simp] theorem State.setFlash_irqRates (s : State) (n : Nat) (f : Flash → Flash) : (s.setFlash n f).irqRates = s.irqRates := rfl
@[simp] theorem State.setFlash_coreFault (s : State) (n : Nat) (f : Flash → Flash) : (s.setFlash n f).coreFault = s.coreFault := rfl
@[simp] theorem State.setFlash_mem (s : State) (n : Nat) (f : Flash → Flash) : (s.setFlash n f).mem = s.mem := rfl
@[simp] theorem State.setFlash_coreMem (s : State) (n : Nat) (f : Flash → Flash) : (s.setFlash n f).coreMem = s.coreMem := rfl
@[simp] theorem State.setFlash_dramKey (s : State) (n : Nat) (f : Flash → Flash) : (s.setFlash n f).dramKey = s.dramKey := rfl
@[simp] theorem State.setFlash_freeCtr (s : State) (n : Nat) (f : Flash → Flash) : (s.setFlash n f).freeCtr = s.freeCtr := rfl
@[simp] theorem State.setFlash_halted (s : State) (n : Nat) (f : Flash → Flash) : (s.setFlash n f).halted = s.halted := rfl
@[simp] theorem State.setFlash_pending (s : State) (n : Nat) (f : Flash → Flash) : (s.setFlash n f).pending = s.pending := rfl
@[simp] theorem State.setFlash_rd (s : State) (n : Nat) (f : Flash → Flash) (g : Field) : (s.setFlash n f).rd g = s.rd g := rfl
@[simp] theorem State.setFlash_flag (s : State) (n : Nat) (f : Flash → Flash) (g : Field) : (s.setFlash n f).flag g = s.flag g := rfl
@[simp] theorem State.setFlash_flashOf_self (s : State) (n : Nat) (f : Flash → Flash) : (s.setFlash n f).flashOf n = f (s.flashOf n) := FMap.get_modify_self _ _ _ _
theorem State.setFlash_flashOf_ne (s : State) (n : Nat) (f : Flash → Flash) {i : Nat} (h : i ≠ n) : (s.setFlash n f).flashOf i = s.flashOf i := FMap.get_modify_ne _ _ _ h

/-! ### setEng -/

@[simp] theorem State.setEng_regs (s : State) (e : Nat) (f : Engine → Engine) : (s.setEng e f).regs = s.regs := rfl
@[simp] theorem State.setEng_force (s : State) (e : Nat) (f : Engine → Engine) : (s.setEng e f).force = s.force := rfl
@[simp] theorem State.setEng_rst (s : State) (e : Nat) (f : Engine → Engine) : (s.setEng e f).rst = s.rst := rfl
@[simp] theorem State.setEng_flash (s : State) (e : Nat) (f : Engine → Engine) : (s.setEng e f).flash = s.flash := rfl
@[simp] theorem State.setEng_staging (s : State) (e : Nat) (f : Engine → Engine) : (s.setEng e f).staging = s.staging := rfl
@[simp] theorem State.setEng_feeds (s : State) (e : Nat) (f : Engine → Engine) : (s.setEng e f).feeds = s.feeds := rfl
@[simp] theorem State.setEng_fuses (s : State) (e : Nat) (f : Engine → Engine) : (s.setEng e f).fuses = s.fuses := rfl
@[simp] theorem State.setEng_keyLc (s : State) (e : Nat) (f : Engine → Engine) : (s.setEng e f).keyLc = s.keyLc := rfl
@[simp] theorem State.setEng_bankKey (s : State) (e : Nat) (f : Engine → Engine) : (s.setEng e f).bankKey = s.bankKey := rfl
@[simp] theorem State.setEng_sec (s : State) (e : Nat) (f : Engine → Engine) : (s.setEng e f).sec = s.sec := rfl
@[simp] theorem State.setEng_host (s : State) (e : Nat) (f : Engine → Engine) : (s.setEng e f).host = s.host := rfl
@[simp] theorem State.setEng_hostMem (s : State) (e : Nat) (f : Engine → Engine) : (s.setEng e f).hostMem = s.hostMem := rfl
@[simp] theorem State.setEng_tnd (s : State) (e : Nat) (f : Engine → Engine) : (s.setEng e f).tnd = s.tnd := rfl
@[simp] theorem State.setEng_hist (s : State) (e : Nat) (f : Engine → Engine) : (s.setEng e f).hist = s.hist := rfl
@[simp] theorem State.setEng_log (s : State) (e : Nat) (f : Engine → Engine) : (s.setEng e f).log = s.log := rfl
@[simp] theorem State.setEng_tb (s : State) (e : Nat) (f : Engine → Engine) : (s.setEng e f).tb = s.tb := rfl
@[simp] theorem State.setEng_cad (s : State) (e : Nat) (f : Engine → Engine) : (s.setEng e f).cad = s.cad := rfl
@[simp] theorem State.setEng_fans (s : State) (e : Nat) (f : Engine → Engine) : (s.setEng e f).fans = s.fans := rfl
@[simp] theorem State.setEng_dramShed (s : State) (e : Nat) (f : Engine → Engine) : (s.setEng e f).dramShed = s.dramShed := rfl
@[simp] theorem State.setEng_qos (s : State) (e : Nat) (f : Engine → Engine) : (s.setEng e f).qos = s.qos := rfl
@[simp] theorem State.setEng_seqr (s : State) (e : Nat) (f : Engine → Engine) : (s.setEng e f).seqr = s.seqr := rfl
@[simp] theorem State.setEng_eq (s : State) (e : Nat) (f : Engine → Engine) : (s.setEng e f).eq = s.eq := rfl
@[simp] theorem State.setEng_spokes (s : State) (e : Nat) (f : Engine → Engine) : (s.setEng e f).spokes = s.spokes := rfl
@[simp] theorem State.setEng_cells (s : State) (e : Nat) (f : Engine → Engine) : (s.setEng e f).cells = s.cells := rfl
@[simp] theorem State.setEng_arms (s : State) (e : Nat) (f : Engine → Engine) : (s.setEng e f).arms = s.arms := rfl
@[simp] theorem State.setEng_image (s : State) (e : Nat) (f : Engine → Engine) : (s.setEng e f).image = s.image := rfl
@[simp] theorem State.setEng_c0 (s : State) (e : Nat) (f : Engine → Engine) : (s.setEng e f).c0 = s.c0 := rfl
@[simp] theorem State.setEng_lp (s : State) (e : Nat) (f : Engine → Engine) : (s.setEng e f).lp = s.lp := rfl
@[simp] theorem State.setEng_adc (s : State) (e : Nat) (f : Engine → Engine) : (s.setEng e f).adc = s.adc := rfl
@[simp] theorem State.setEng_slices (s : State) (e : Nat) (f : Engine → Engine) : (s.setEng e f).slices = s.slices := rfl
@[simp] theorem State.setEng_sysCal (s : State) (e : Nat) (f : Engine → Engine) : (s.setEng e f).sysCal = s.sysCal := rfl
@[simp] theorem State.setEng_tgDue (s : State) (e : Nat) (f : Engine → Engine) : (s.setEng e f).tgDue = s.tgDue := rfl
@[simp] theorem State.setEng_setNow (s : State) (e : Nat) (f : Engine → Engine) : (s.setEng e f).setNow = s.setNow := rfl
@[simp] theorem State.setEng_setSnap (s : State) (e : Nat) (f : Engine → Engine) : (s.setEng e f).setSnap = s.setSnap := rfl
@[simp] theorem State.setEng_stp (s : State) (e : Nat) (f : Engine → Engine) : (s.setEng e f).stp = s.stp := rfl
@[simp] theorem State.setEng_ports (s : State) (e : Nat) (f : Engine → Engine) : (s.setEng e f).ports = s.ports := rfl
@[simp] theorem State.setEng_subs (s : State) (e : Nat) (f : Engine → Engine) : (s.setEng e f).subs = s.subs := rfl
@[simp] theorem State.setEng_goose (s : State) (e : Nat) (f : Engine → Engine) : (s.setEng e f).goose = s.goose := rfl
@[simp] theorem State.setEng_time (s : State) (e : Nat) (f : Engine → Engine) : (s.setEng e f).time = s.time := rfl
@[simp] theorem State.setEng_recs (s : State) (e : Nat) (f : Engine → Engine) : (s.setEng e f).recs = s.recs := rfl
@[simp] theorem State.setEng_captures (s : State) (e : Nat) (f : Engine → Engine) : (s.setEng e f).captures = s.captures := rfl
@[simp] theorem State.setEng_saf (s : State) (e : Nat) (f : Engine → Engine) : (s.setEng e f).saf = s.saf := rfl
@[simp] theorem State.setEng_sch (s : State) (e : Nat) (f : Engine → Engine) : (s.setEng e f).sch = s.sch := rfl
@[simp] theorem State.setEng_irqCores (s : State) (e : Nat) (f : Engine → Engine) : (s.setEng e f).irqCores = s.irqCores := rfl
@[simp] theorem State.setEng_irqRates (s : State) (e : Nat) (f : Engine → Engine) : (s.setEng e f).irqRates = s.irqRates := rfl
@[simp] theorem State.setEng_coreFault (s : State) (e : Nat) (f : Engine → Engine) : (s.setEng e f).coreFault = s.coreFault := rfl
@[simp] theorem State.setEng_mem (s : State) (e : Nat) (f : Engine → Engine) : (s.setEng e f).mem = s.mem := rfl
@[simp] theorem State.setEng_coreMem (s : State) (e : Nat) (f : Engine → Engine) : (s.setEng e f).coreMem = s.coreMem := rfl
@[simp] theorem State.setEng_dramKey (s : State) (e : Nat) (f : Engine → Engine) : (s.setEng e f).dramKey = s.dramKey := rfl
@[simp] theorem State.setEng_freeCtr (s : State) (e : Nat) (f : Engine → Engine) : (s.setEng e f).freeCtr = s.freeCtr := rfl
@[simp] theorem State.setEng_halted (s : State) (e : Nat) (f : Engine → Engine) : (s.setEng e f).halted = s.halted := rfl
@[simp] theorem State.setEng_pending (s : State) (e : Nat) (f : Engine → Engine) : (s.setEng e f).pending = s.pending := rfl
@[simp] theorem State.setEng_rd (s : State) (e : Nat) (f : Engine → Engine) (g : Field) : (s.setEng e f).rd g = s.rd g := rfl
@[simp] theorem State.setEng_flag (s : State) (e : Nat) (f : Engine → Engine) (g : Field) : (s.setEng e f).flag g = s.flag g := rfl
@[simp] theorem State.setEng_eng_self (s : State) (e : Nat) (f : Engine → Engine) : (s.setEng e f).eng e = f (s.eng e) := FMap.get_modify_self _ _ _ _
theorem State.setEng_eng_ne (s : State) (e : Nat) (f : Engine → Engine) {i : Nat} (h : i ≠ e) : (s.setEng e f).eng i = s.eng i := FMap.get_modify_ne _ _ _ h

/-! ### setFn -/

@[simp] theorem State.setFn_regs (s : State) (n : Nat) (f : HostFn → HostFn) : (s.setFn n f).regs = s.regs := rfl
@[simp] theorem State.setFn_force (s : State) (n : Nat) (f : HostFn → HostFn) : (s.setFn n f).force = s.force := rfl
@[simp] theorem State.setFn_rst (s : State) (n : Nat) (f : HostFn → HostFn) : (s.setFn n f).rst = s.rst := rfl
@[simp] theorem State.setFn_flash (s : State) (n : Nat) (f : HostFn → HostFn) : (s.setFn n f).flash = s.flash := rfl
@[simp] theorem State.setFn_staging (s : State) (n : Nat) (f : HostFn → HostFn) : (s.setFn n f).staging = s.staging := rfl
@[simp] theorem State.setFn_feeds (s : State) (n : Nat) (f : HostFn → HostFn) : (s.setFn n f).feeds = s.feeds := rfl
@[simp] theorem State.setFn_fuses (s : State) (n : Nat) (f : HostFn → HostFn) : (s.setFn n f).fuses = s.fuses := rfl
@[simp] theorem State.setFn_keyLc (s : State) (n : Nat) (f : HostFn → HostFn) : (s.setFn n f).keyLc = s.keyLc := rfl
@[simp] theorem State.setFn_bankKey (s : State) (n : Nat) (f : HostFn → HostFn) : (s.setFn n f).bankKey = s.bankKey := rfl
@[simp] theorem State.setFn_sec (s : State) (n : Nat) (f : HostFn → HostFn) : (s.setFn n f).sec = s.sec := rfl
@[simp] theorem State.setFn_hostMem (s : State) (n : Nat) (f : HostFn → HostFn) : (s.setFn n f).hostMem = s.hostMem := rfl
@[simp] theorem State.setFn_tnd (s : State) (n : Nat) (f : HostFn → HostFn) : (s.setFn n f).tnd = s.tnd := rfl
@[simp] theorem State.setFn_hist (s : State) (n : Nat) (f : HostFn → HostFn) : (s.setFn n f).hist = s.hist := rfl
@[simp] theorem State.setFn_log (s : State) (n : Nat) (f : HostFn → HostFn) : (s.setFn n f).log = s.log := rfl
@[simp] theorem State.setFn_tb (s : State) (n : Nat) (f : HostFn → HostFn) : (s.setFn n f).tb = s.tb := rfl
@[simp] theorem State.setFn_cad (s : State) (n : Nat) (f : HostFn → HostFn) : (s.setFn n f).cad = s.cad := rfl
@[simp] theorem State.setFn_fans (s : State) (n : Nat) (f : HostFn → HostFn) : (s.setFn n f).fans = s.fans := rfl
@[simp] theorem State.setFn_dramShed (s : State) (n : Nat) (f : HostFn → HostFn) : (s.setFn n f).dramShed = s.dramShed := rfl
@[simp] theorem State.setFn_qos (s : State) (n : Nat) (f : HostFn → HostFn) : (s.setFn n f).qos = s.qos := rfl
@[simp] theorem State.setFn_seqr (s : State) (n : Nat) (f : HostFn → HostFn) : (s.setFn n f).seqr = s.seqr := rfl
@[simp] theorem State.setFn_eq (s : State) (n : Nat) (f : HostFn → HostFn) : (s.setFn n f).eq = s.eq := rfl
@[simp] theorem State.setFn_engines (s : State) (n : Nat) (f : HostFn → HostFn) : (s.setFn n f).engines = s.engines := rfl
@[simp] theorem State.setFn_spokes (s : State) (n : Nat) (f : HostFn → HostFn) : (s.setFn n f).spokes = s.spokes := rfl
@[simp] theorem State.setFn_cells (s : State) (n : Nat) (f : HostFn → HostFn) : (s.setFn n f).cells = s.cells := rfl
@[simp] theorem State.setFn_arms (s : State) (n : Nat) (f : HostFn → HostFn) : (s.setFn n f).arms = s.arms := rfl
@[simp] theorem State.setFn_image (s : State) (n : Nat) (f : HostFn → HostFn) : (s.setFn n f).image = s.image := rfl
@[simp] theorem State.setFn_c0 (s : State) (n : Nat) (f : HostFn → HostFn) : (s.setFn n f).c0 = s.c0 := rfl
@[simp] theorem State.setFn_lp (s : State) (n : Nat) (f : HostFn → HostFn) : (s.setFn n f).lp = s.lp := rfl
@[simp] theorem State.setFn_adc (s : State) (n : Nat) (f : HostFn → HostFn) : (s.setFn n f).adc = s.adc := rfl
@[simp] theorem State.setFn_slices (s : State) (n : Nat) (f : HostFn → HostFn) : (s.setFn n f).slices = s.slices := rfl
@[simp] theorem State.setFn_sysCal (s : State) (n : Nat) (f : HostFn → HostFn) : (s.setFn n f).sysCal = s.sysCal := rfl
@[simp] theorem State.setFn_tgDue (s : State) (n : Nat) (f : HostFn → HostFn) : (s.setFn n f).tgDue = s.tgDue := rfl
@[simp] theorem State.setFn_setNow (s : State) (n : Nat) (f : HostFn → HostFn) : (s.setFn n f).setNow = s.setNow := rfl
@[simp] theorem State.setFn_setSnap (s : State) (n : Nat) (f : HostFn → HostFn) : (s.setFn n f).setSnap = s.setSnap := rfl
@[simp] theorem State.setFn_stp (s : State) (n : Nat) (f : HostFn → HostFn) : (s.setFn n f).stp = s.stp := rfl
@[simp] theorem State.setFn_ports (s : State) (n : Nat) (f : HostFn → HostFn) : (s.setFn n f).ports = s.ports := rfl
@[simp] theorem State.setFn_subs (s : State) (n : Nat) (f : HostFn → HostFn) : (s.setFn n f).subs = s.subs := rfl
@[simp] theorem State.setFn_goose (s : State) (n : Nat) (f : HostFn → HostFn) : (s.setFn n f).goose = s.goose := rfl
@[simp] theorem State.setFn_time (s : State) (n : Nat) (f : HostFn → HostFn) : (s.setFn n f).time = s.time := rfl
@[simp] theorem State.setFn_recs (s : State) (n : Nat) (f : HostFn → HostFn) : (s.setFn n f).recs = s.recs := rfl
@[simp] theorem State.setFn_captures (s : State) (n : Nat) (f : HostFn → HostFn) : (s.setFn n f).captures = s.captures := rfl
@[simp] theorem State.setFn_saf (s : State) (n : Nat) (f : HostFn → HostFn) : (s.setFn n f).saf = s.saf := rfl
@[simp] theorem State.setFn_sch (s : State) (n : Nat) (f : HostFn → HostFn) : (s.setFn n f).sch = s.sch := rfl
@[simp] theorem State.setFn_irqCores (s : State) (n : Nat) (f : HostFn → HostFn) : (s.setFn n f).irqCores = s.irqCores := rfl
@[simp] theorem State.setFn_irqRates (s : State) (n : Nat) (f : HostFn → HostFn) : (s.setFn n f).irqRates = s.irqRates := rfl
@[simp] theorem State.setFn_coreFault (s : State) (n : Nat) (f : HostFn → HostFn) : (s.setFn n f).coreFault = s.coreFault := rfl
@[simp] theorem State.setFn_mem (s : State) (n : Nat) (f : HostFn → HostFn) : (s.setFn n f).mem = s.mem := rfl
@[simp] theorem State.setFn_coreMem (s : State) (n : Nat) (f : HostFn → HostFn) : (s.setFn n f).coreMem = s.coreMem := rfl
@[simp] theorem State.setFn_dramKey (s : State) (n : Nat) (f : HostFn → HostFn) : (s.setFn n f).dramKey = s.dramKey := rfl
@[simp] theorem State.setFn_freeCtr (s : State) (n : Nat) (f : HostFn → HostFn) : (s.setFn n f).freeCtr = s.freeCtr := rfl
@[simp] theorem State.setFn_halted (s : State) (n : Nat) (f : HostFn → HostFn) : (s.setFn n f).halted = s.halted := rfl
@[simp] theorem State.setFn_pending (s : State) (n : Nat) (f : HostFn → HostFn) : (s.setFn n f).pending = s.pending := rfl
@[simp] theorem State.setFn_rd (s : State) (n : Nat) (f : HostFn → HostFn) (g : Field) : (s.setFn n f).rd g = s.rd g := rfl
@[simp] theorem State.setFn_flag (s : State) (n : Nat) (f : HostFn → HostFn) (g : Field) : (s.setFn n f).flag g = s.flag g := rfl
@[simp] theorem State.setFn_fn_self (s : State) (n : Nat) (f : HostFn → HostFn) : (s.setFn n f).fn n = f (s.fn n) := FMap.get_modify_self _ _ _ _
theorem State.setFn_fn_ne (s : State) (n : Nat) (f : HostFn → HostFn) {i : Nat} (h : i ≠ n) : (s.setFn n f).fn i = s.fn i := FMap.get_modify_ne _ _ _ h

/-! ### setChan -/

@[simp] theorem State.setChan_regs (s : State) (n : Nat) (f : AdcChan → AdcChan) : (s.setChan n f).regs = s.regs := rfl
@[simp] theorem State.setChan_force (s : State) (n : Nat) (f : AdcChan → AdcChan) : (s.setChan n f).force = s.force := rfl
@[simp] theorem State.setChan_rst (s : State) (n : Nat) (f : AdcChan → AdcChan) : (s.setChan n f).rst = s.rst := rfl
@[simp] theorem State.setChan_flash (s : State) (n : Nat) (f : AdcChan → AdcChan) : (s.setChan n f).flash = s.flash := rfl
@[simp] theorem State.setChan_staging (s : State) (n : Nat) (f : AdcChan → AdcChan) : (s.setChan n f).staging = s.staging := rfl
@[simp] theorem State.setChan_feeds (s : State) (n : Nat) (f : AdcChan → AdcChan) : (s.setChan n f).feeds = s.feeds := rfl
@[simp] theorem State.setChan_fuses (s : State) (n : Nat) (f : AdcChan → AdcChan) : (s.setChan n f).fuses = s.fuses := rfl
@[simp] theorem State.setChan_keyLc (s : State) (n : Nat) (f : AdcChan → AdcChan) : (s.setChan n f).keyLc = s.keyLc := rfl
@[simp] theorem State.setChan_bankKey (s : State) (n : Nat) (f : AdcChan → AdcChan) : (s.setChan n f).bankKey = s.bankKey := rfl
@[simp] theorem State.setChan_sec (s : State) (n : Nat) (f : AdcChan → AdcChan) : (s.setChan n f).sec = s.sec := rfl
@[simp] theorem State.setChan_host (s : State) (n : Nat) (f : AdcChan → AdcChan) : (s.setChan n f).host = s.host := rfl
@[simp] theorem State.setChan_hostMem (s : State) (n : Nat) (f : AdcChan → AdcChan) : (s.setChan n f).hostMem = s.hostMem := rfl
@[simp] theorem State.setChan_tnd (s : State) (n : Nat) (f : AdcChan → AdcChan) : (s.setChan n f).tnd = s.tnd := rfl
@[simp] theorem State.setChan_hist (s : State) (n : Nat) (f : AdcChan → AdcChan) : (s.setChan n f).hist = s.hist := rfl
@[simp] theorem State.setChan_log (s : State) (n : Nat) (f : AdcChan → AdcChan) : (s.setChan n f).log = s.log := rfl
@[simp] theorem State.setChan_tb (s : State) (n : Nat) (f : AdcChan → AdcChan) : (s.setChan n f).tb = s.tb := rfl
@[simp] theorem State.setChan_cad (s : State) (n : Nat) (f : AdcChan → AdcChan) : (s.setChan n f).cad = s.cad := rfl
@[simp] theorem State.setChan_fans (s : State) (n : Nat) (f : AdcChan → AdcChan) : (s.setChan n f).fans = s.fans := rfl
@[simp] theorem State.setChan_dramShed (s : State) (n : Nat) (f : AdcChan → AdcChan) : (s.setChan n f).dramShed = s.dramShed := rfl
@[simp] theorem State.setChan_qos (s : State) (n : Nat) (f : AdcChan → AdcChan) : (s.setChan n f).qos = s.qos := rfl
@[simp] theorem State.setChan_seqr (s : State) (n : Nat) (f : AdcChan → AdcChan) : (s.setChan n f).seqr = s.seqr := rfl
@[simp] theorem State.setChan_eq (s : State) (n : Nat) (f : AdcChan → AdcChan) : (s.setChan n f).eq = s.eq := rfl
@[simp] theorem State.setChan_engines (s : State) (n : Nat) (f : AdcChan → AdcChan) : (s.setChan n f).engines = s.engines := rfl
@[simp] theorem State.setChan_spokes (s : State) (n : Nat) (f : AdcChan → AdcChan) : (s.setChan n f).spokes = s.spokes := rfl
@[simp] theorem State.setChan_cells (s : State) (n : Nat) (f : AdcChan → AdcChan) : (s.setChan n f).cells = s.cells := rfl
@[simp] theorem State.setChan_arms (s : State) (n : Nat) (f : AdcChan → AdcChan) : (s.setChan n f).arms = s.arms := rfl
@[simp] theorem State.setChan_image (s : State) (n : Nat) (f : AdcChan → AdcChan) : (s.setChan n f).image = s.image := rfl
@[simp] theorem State.setChan_c0 (s : State) (n : Nat) (f : AdcChan → AdcChan) : (s.setChan n f).c0 = s.c0 := rfl
@[simp] theorem State.setChan_lp (s : State) (n : Nat) (f : AdcChan → AdcChan) : (s.setChan n f).lp = s.lp := rfl
@[simp] theorem State.setChan_slices (s : State) (n : Nat) (f : AdcChan → AdcChan) : (s.setChan n f).slices = s.slices := rfl
@[simp] theorem State.setChan_sysCal (s : State) (n : Nat) (f : AdcChan → AdcChan) : (s.setChan n f).sysCal = s.sysCal := rfl
@[simp] theorem State.setChan_tgDue (s : State) (n : Nat) (f : AdcChan → AdcChan) : (s.setChan n f).tgDue = s.tgDue := rfl
@[simp] theorem State.setChan_setNow (s : State) (n : Nat) (f : AdcChan → AdcChan) : (s.setChan n f).setNow = s.setNow := rfl
@[simp] theorem State.setChan_setSnap (s : State) (n : Nat) (f : AdcChan → AdcChan) : (s.setChan n f).setSnap = s.setSnap := rfl
@[simp] theorem State.setChan_stp (s : State) (n : Nat) (f : AdcChan → AdcChan) : (s.setChan n f).stp = s.stp := rfl
@[simp] theorem State.setChan_ports (s : State) (n : Nat) (f : AdcChan → AdcChan) : (s.setChan n f).ports = s.ports := rfl
@[simp] theorem State.setChan_subs (s : State) (n : Nat) (f : AdcChan → AdcChan) : (s.setChan n f).subs = s.subs := rfl
@[simp] theorem State.setChan_goose (s : State) (n : Nat) (f : AdcChan → AdcChan) : (s.setChan n f).goose = s.goose := rfl
@[simp] theorem State.setChan_time (s : State) (n : Nat) (f : AdcChan → AdcChan) : (s.setChan n f).time = s.time := rfl
@[simp] theorem State.setChan_recs (s : State) (n : Nat) (f : AdcChan → AdcChan) : (s.setChan n f).recs = s.recs := rfl
@[simp] theorem State.setChan_captures (s : State) (n : Nat) (f : AdcChan → AdcChan) : (s.setChan n f).captures = s.captures := rfl
@[simp] theorem State.setChan_saf (s : State) (n : Nat) (f : AdcChan → AdcChan) : (s.setChan n f).saf = s.saf := rfl
@[simp] theorem State.setChan_sch (s : State) (n : Nat) (f : AdcChan → AdcChan) : (s.setChan n f).sch = s.sch := rfl
@[simp] theorem State.setChan_irqCores (s : State) (n : Nat) (f : AdcChan → AdcChan) : (s.setChan n f).irqCores = s.irqCores := rfl
@[simp] theorem State.setChan_irqRates (s : State) (n : Nat) (f : AdcChan → AdcChan) : (s.setChan n f).irqRates = s.irqRates := rfl
@[simp] theorem State.setChan_coreFault (s : State) (n : Nat) (f : AdcChan → AdcChan) : (s.setChan n f).coreFault = s.coreFault := rfl
@[simp] theorem State.setChan_mem (s : State) (n : Nat) (f : AdcChan → AdcChan) : (s.setChan n f).mem = s.mem := rfl
@[simp] theorem State.setChan_coreMem (s : State) (n : Nat) (f : AdcChan → AdcChan) : (s.setChan n f).coreMem = s.coreMem := rfl
@[simp] theorem State.setChan_dramKey (s : State) (n : Nat) (f : AdcChan → AdcChan) : (s.setChan n f).dramKey = s.dramKey := rfl
@[simp] theorem State.setChan_freeCtr (s : State) (n : Nat) (f : AdcChan → AdcChan) : (s.setChan n f).freeCtr = s.freeCtr := rfl
@[simp] theorem State.setChan_halted (s : State) (n : Nat) (f : AdcChan → AdcChan) : (s.setChan n f).halted = s.halted := rfl
@[simp] theorem State.setChan_pending (s : State) (n : Nat) (f : AdcChan → AdcChan) : (s.setChan n f).pending = s.pending := rfl
@[simp] theorem State.setChan_rd (s : State) (n : Nat) (f : AdcChan → AdcChan) (g : Field) : (s.setChan n f).rd g = s.rd g := rfl
@[simp] theorem State.setChan_flag (s : State) (n : Nat) (f : AdcChan → AdcChan) (g : Field) : (s.setChan n f).flag g = s.flag g := rfl
@[simp] theorem State.setChan_chan_self (s : State) (n : Nat) (f : AdcChan → AdcChan) : (s.setChan n f).chan n = f (s.chan n) := FMap.get_modify_self _ _ _ _
theorem State.setChan_chan_ne (s : State) (n : Nat) (f : AdcChan → AdcChan) {i : Nat} (h : i ≠ n) : (s.setChan n f).chan i = s.chan i := FMap.get_modify_ne _ _ _ h

/-! ### setSlice -/

@[simp] theorem State.setSlice_regs (s : State) (i j : Nat) (f : AdcSlice → AdcSlice) : (s.setSlice i j f).regs = s.regs := rfl
@[simp] theorem State.setSlice_force (s : State) (i j : Nat) (f : AdcSlice → AdcSlice) : (s.setSlice i j f).force = s.force := rfl
@[simp] theorem State.setSlice_rst (s : State) (i j : Nat) (f : AdcSlice → AdcSlice) : (s.setSlice i j f).rst = s.rst := rfl
@[simp] theorem State.setSlice_flash (s : State) (i j : Nat) (f : AdcSlice → AdcSlice) : (s.setSlice i j f).flash = s.flash := rfl
@[simp] theorem State.setSlice_staging (s : State) (i j : Nat) (f : AdcSlice → AdcSlice) : (s.setSlice i j f).staging = s.staging := rfl
@[simp] theorem State.setSlice_feeds (s : State) (i j : Nat) (f : AdcSlice → AdcSlice) : (s.setSlice i j f).feeds = s.feeds := rfl
@[simp] theorem State.setSlice_fuses (s : State) (i j : Nat) (f : AdcSlice → AdcSlice) : (s.setSlice i j f).fuses = s.fuses := rfl
@[simp] theorem State.setSlice_keyLc (s : State) (i j : Nat) (f : AdcSlice → AdcSlice) : (s.setSlice i j f).keyLc = s.keyLc := rfl
@[simp] theorem State.setSlice_bankKey (s : State) (i j : Nat) (f : AdcSlice → AdcSlice) : (s.setSlice i j f).bankKey = s.bankKey := rfl
@[simp] theorem State.setSlice_sec (s : State) (i j : Nat) (f : AdcSlice → AdcSlice) : (s.setSlice i j f).sec = s.sec := rfl
@[simp] theorem State.setSlice_host (s : State) (i j : Nat) (f : AdcSlice → AdcSlice) : (s.setSlice i j f).host = s.host := rfl
@[simp] theorem State.setSlice_hostMem (s : State) (i j : Nat) (f : AdcSlice → AdcSlice) : (s.setSlice i j f).hostMem = s.hostMem := rfl
@[simp] theorem State.setSlice_tnd (s : State) (i j : Nat) (f : AdcSlice → AdcSlice) : (s.setSlice i j f).tnd = s.tnd := rfl
@[simp] theorem State.setSlice_hist (s : State) (i j : Nat) (f : AdcSlice → AdcSlice) : (s.setSlice i j f).hist = s.hist := rfl
@[simp] theorem State.setSlice_log (s : State) (i j : Nat) (f : AdcSlice → AdcSlice) : (s.setSlice i j f).log = s.log := rfl
@[simp] theorem State.setSlice_tb (s : State) (i j : Nat) (f : AdcSlice → AdcSlice) : (s.setSlice i j f).tb = s.tb := rfl
@[simp] theorem State.setSlice_cad (s : State) (i j : Nat) (f : AdcSlice → AdcSlice) : (s.setSlice i j f).cad = s.cad := rfl
@[simp] theorem State.setSlice_fans (s : State) (i j : Nat) (f : AdcSlice → AdcSlice) : (s.setSlice i j f).fans = s.fans := rfl
@[simp] theorem State.setSlice_dramShed (s : State) (i j : Nat) (f : AdcSlice → AdcSlice) : (s.setSlice i j f).dramShed = s.dramShed := rfl
@[simp] theorem State.setSlice_qos (s : State) (i j : Nat) (f : AdcSlice → AdcSlice) : (s.setSlice i j f).qos = s.qos := rfl
@[simp] theorem State.setSlice_seqr (s : State) (i j : Nat) (f : AdcSlice → AdcSlice) : (s.setSlice i j f).seqr = s.seqr := rfl
@[simp] theorem State.setSlice_eq (s : State) (i j : Nat) (f : AdcSlice → AdcSlice) : (s.setSlice i j f).eq = s.eq := rfl
@[simp] theorem State.setSlice_engines (s : State) (i j : Nat) (f : AdcSlice → AdcSlice) : (s.setSlice i j f).engines = s.engines := rfl
@[simp] theorem State.setSlice_spokes (s : State) (i j : Nat) (f : AdcSlice → AdcSlice) : (s.setSlice i j f).spokes = s.spokes := rfl
@[simp] theorem State.setSlice_cells (s : State) (i j : Nat) (f : AdcSlice → AdcSlice) : (s.setSlice i j f).cells = s.cells := rfl
@[simp] theorem State.setSlice_arms (s : State) (i j : Nat) (f : AdcSlice → AdcSlice) : (s.setSlice i j f).arms = s.arms := rfl
@[simp] theorem State.setSlice_image (s : State) (i j : Nat) (f : AdcSlice → AdcSlice) : (s.setSlice i j f).image = s.image := rfl
@[simp] theorem State.setSlice_c0 (s : State) (i j : Nat) (f : AdcSlice → AdcSlice) : (s.setSlice i j f).c0 = s.c0 := rfl
@[simp] theorem State.setSlice_lp (s : State) (i j : Nat) (f : AdcSlice → AdcSlice) : (s.setSlice i j f).lp = s.lp := rfl
@[simp] theorem State.setSlice_adc (s : State) (i j : Nat) (f : AdcSlice → AdcSlice) : (s.setSlice i j f).adc = s.adc := rfl
@[simp] theorem State.setSlice_sysCal (s : State) (i j : Nat) (f : AdcSlice → AdcSlice) : (s.setSlice i j f).sysCal = s.sysCal := rfl
@[simp] theorem State.setSlice_tgDue (s : State) (i j : Nat) (f : AdcSlice → AdcSlice) : (s.setSlice i j f).tgDue = s.tgDue := rfl
@[simp] theorem State.setSlice_setNow (s : State) (i j : Nat) (f : AdcSlice → AdcSlice) : (s.setSlice i j f).setNow = s.setNow := rfl
@[simp] theorem State.setSlice_setSnap (s : State) (i j : Nat) (f : AdcSlice → AdcSlice) : (s.setSlice i j f).setSnap = s.setSnap := rfl
@[simp] theorem State.setSlice_stp (s : State) (i j : Nat) (f : AdcSlice → AdcSlice) : (s.setSlice i j f).stp = s.stp := rfl
@[simp] theorem State.setSlice_ports (s : State) (i j : Nat) (f : AdcSlice → AdcSlice) : (s.setSlice i j f).ports = s.ports := rfl
@[simp] theorem State.setSlice_subs (s : State) (i j : Nat) (f : AdcSlice → AdcSlice) : (s.setSlice i j f).subs = s.subs := rfl
@[simp] theorem State.setSlice_goose (s : State) (i j : Nat) (f : AdcSlice → AdcSlice) : (s.setSlice i j f).goose = s.goose := rfl
@[simp] theorem State.setSlice_time (s : State) (i j : Nat) (f : AdcSlice → AdcSlice) : (s.setSlice i j f).time = s.time := rfl
@[simp] theorem State.setSlice_recs (s : State) (i j : Nat) (f : AdcSlice → AdcSlice) : (s.setSlice i j f).recs = s.recs := rfl
@[simp] theorem State.setSlice_captures (s : State) (i j : Nat) (f : AdcSlice → AdcSlice) : (s.setSlice i j f).captures = s.captures := rfl
@[simp] theorem State.setSlice_saf (s : State) (i j : Nat) (f : AdcSlice → AdcSlice) : (s.setSlice i j f).saf = s.saf := rfl
@[simp] theorem State.setSlice_sch (s : State) (i j : Nat) (f : AdcSlice → AdcSlice) : (s.setSlice i j f).sch = s.sch := rfl
@[simp] theorem State.setSlice_irqCores (s : State) (i j : Nat) (f : AdcSlice → AdcSlice) : (s.setSlice i j f).irqCores = s.irqCores := rfl
@[simp] theorem State.setSlice_irqRates (s : State) (i j : Nat) (f : AdcSlice → AdcSlice) : (s.setSlice i j f).irqRates = s.irqRates := rfl
@[simp] theorem State.setSlice_coreFault (s : State) (i j : Nat) (f : AdcSlice → AdcSlice) : (s.setSlice i j f).coreFault = s.coreFault := rfl
@[simp] theorem State.setSlice_mem (s : State) (i j : Nat) (f : AdcSlice → AdcSlice) : (s.setSlice i j f).mem = s.mem := rfl
@[simp] theorem State.setSlice_coreMem (s : State) (i j : Nat) (f : AdcSlice → AdcSlice) : (s.setSlice i j f).coreMem = s.coreMem := rfl
@[simp] theorem State.setSlice_dramKey (s : State) (i j : Nat) (f : AdcSlice → AdcSlice) : (s.setSlice i j f).dramKey = s.dramKey := rfl
@[simp] theorem State.setSlice_freeCtr (s : State) (i j : Nat) (f : AdcSlice → AdcSlice) : (s.setSlice i j f).freeCtr = s.freeCtr := rfl
@[simp] theorem State.setSlice_halted (s : State) (i j : Nat) (f : AdcSlice → AdcSlice) : (s.setSlice i j f).halted = s.halted := rfl
@[simp] theorem State.setSlice_pending (s : State) (i j : Nat) (f : AdcSlice → AdcSlice) : (s.setSlice i j f).pending = s.pending := rfl
@[simp] theorem State.setSlice_rd (s : State) (i j : Nat) (f : AdcSlice → AdcSlice) (g : Field) : (s.setSlice i j f).rd g = s.rd g := rfl
@[simp] theorem State.setSlice_flag (s : State) (i j : Nat) (f : AdcSlice → AdcSlice) (g : Field) : (s.setSlice i j f).flag g = s.flag g := rfl

/-! ### setQueue -/

@[simp] theorem State.setQueue_regs (s : State) (q : Nat) (f : EventQ → EventQ) : (s.setQueue q f).regs = s.regs := rfl
@[simp] theorem State.setQueue_force (s : State) (q : Nat) (f : EventQ → EventQ) : (s.setQueue q f).force = s.force := rfl
@[simp] theorem State.setQueue_rst (s : State) (q : Nat) (f : EventQ → EventQ) : (s.setQueue q f).rst = s.rst := rfl
@[simp] theorem State.setQueue_flash (s : State) (q : Nat) (f : EventQ → EventQ) : (s.setQueue q f).flash = s.flash := rfl
@[simp] theorem State.setQueue_staging (s : State) (q : Nat) (f : EventQ → EventQ) : (s.setQueue q f).staging = s.staging := rfl
@[simp] theorem State.setQueue_feeds (s : State) (q : Nat) (f : EventQ → EventQ) : (s.setQueue q f).feeds = s.feeds := rfl
@[simp] theorem State.setQueue_fuses (s : State) (q : Nat) (f : EventQ → EventQ) : (s.setQueue q f).fuses = s.fuses := rfl
@[simp] theorem State.setQueue_keyLc (s : State) (q : Nat) (f : EventQ → EventQ) : (s.setQueue q f).keyLc = s.keyLc := rfl
@[simp] theorem State.setQueue_bankKey (s : State) (q : Nat) (f : EventQ → EventQ) : (s.setQueue q f).bankKey = s.bankKey := rfl
@[simp] theorem State.setQueue_sec (s : State) (q : Nat) (f : EventQ → EventQ) : (s.setQueue q f).sec = s.sec := rfl
@[simp] theorem State.setQueue_host (s : State) (q : Nat) (f : EventQ → EventQ) : (s.setQueue q f).host = s.host := rfl
@[simp] theorem State.setQueue_hostMem (s : State) (q : Nat) (f : EventQ → EventQ) : (s.setQueue q f).hostMem = s.hostMem := rfl
@[simp] theorem State.setQueue_tnd (s : State) (q : Nat) (f : EventQ → EventQ) : (s.setQueue q f).tnd = s.tnd := rfl
@[simp] theorem State.setQueue_hist (s : State) (q : Nat) (f : EventQ → EventQ) : (s.setQueue q f).hist = s.hist := rfl
@[simp] theorem State.setQueue_log (s : State) (q : Nat) (f : EventQ → EventQ) : (s.setQueue q f).log = s.log := rfl
@[simp] theorem State.setQueue_tb (s : State) (q : Nat) (f : EventQ → EventQ) : (s.setQueue q f).tb = s.tb := rfl
@[simp] theorem State.setQueue_cad (s : State) (q : Nat) (f : EventQ → EventQ) : (s.setQueue q f).cad = s.cad := rfl
@[simp] theorem State.setQueue_fans (s : State) (q : Nat) (f : EventQ → EventQ) : (s.setQueue q f).fans = s.fans := rfl
@[simp] theorem State.setQueue_dramShed (s : State) (q : Nat) (f : EventQ → EventQ) : (s.setQueue q f).dramShed = s.dramShed := rfl
@[simp] theorem State.setQueue_qos (s : State) (q : Nat) (f : EventQ → EventQ) : (s.setQueue q f).qos = s.qos := rfl
@[simp] theorem State.setQueue_seqr (s : State) (q : Nat) (f : EventQ → EventQ) : (s.setQueue q f).seqr = s.seqr := rfl
@[simp] theorem State.setQueue_engines (s : State) (q : Nat) (f : EventQ → EventQ) : (s.setQueue q f).engines = s.engines := rfl
@[simp] theorem State.setQueue_spokes (s : State) (q : Nat) (f : EventQ → EventQ) : (s.setQueue q f).spokes = s.spokes := rfl
@[simp] theorem State.setQueue_cells (s : State) (q : Nat) (f : EventQ → EventQ) : (s.setQueue q f).cells = s.cells := rfl
@[simp] theorem State.setQueue_arms (s : State) (q : Nat) (f : EventQ → EventQ) : (s.setQueue q f).arms = s.arms := rfl
@[simp] theorem State.setQueue_image (s : State) (q : Nat) (f : EventQ → EventQ) : (s.setQueue q f).image = s.image := rfl
@[simp] theorem State.setQueue_c0 (s : State) (q : Nat) (f : EventQ → EventQ) : (s.setQueue q f).c0 = s.c0 := rfl
@[simp] theorem State.setQueue_lp (s : State) (q : Nat) (f : EventQ → EventQ) : (s.setQueue q f).lp = s.lp := rfl
@[simp] theorem State.setQueue_adc (s : State) (q : Nat) (f : EventQ → EventQ) : (s.setQueue q f).adc = s.adc := rfl
@[simp] theorem State.setQueue_slices (s : State) (q : Nat) (f : EventQ → EventQ) : (s.setQueue q f).slices = s.slices := rfl
@[simp] theorem State.setQueue_sysCal (s : State) (q : Nat) (f : EventQ → EventQ) : (s.setQueue q f).sysCal = s.sysCal := rfl
@[simp] theorem State.setQueue_tgDue (s : State) (q : Nat) (f : EventQ → EventQ) : (s.setQueue q f).tgDue = s.tgDue := rfl
@[simp] theorem State.setQueue_setNow (s : State) (q : Nat) (f : EventQ → EventQ) : (s.setQueue q f).setNow = s.setNow := rfl
@[simp] theorem State.setQueue_setSnap (s : State) (q : Nat) (f : EventQ → EventQ) : (s.setQueue q f).setSnap = s.setSnap := rfl
@[simp] theorem State.setQueue_stp (s : State) (q : Nat) (f : EventQ → EventQ) : (s.setQueue q f).stp = s.stp := rfl
@[simp] theorem State.setQueue_ports (s : State) (q : Nat) (f : EventQ → EventQ) : (s.setQueue q f).ports = s.ports := rfl
@[simp] theorem State.setQueue_subs (s : State) (q : Nat) (f : EventQ → EventQ) : (s.setQueue q f).subs = s.subs := rfl
@[simp] theorem State.setQueue_goose (s : State) (q : Nat) (f : EventQ → EventQ) : (s.setQueue q f).goose = s.goose := rfl
@[simp] theorem State.setQueue_time (s : State) (q : Nat) (f : EventQ → EventQ) : (s.setQueue q f).time = s.time := rfl
@[simp] theorem State.setQueue_recs (s : State) (q : Nat) (f : EventQ → EventQ) : (s.setQueue q f).recs = s.recs := rfl
@[simp] theorem State.setQueue_captures (s : State) (q : Nat) (f : EventQ → EventQ) : (s.setQueue q f).captures = s.captures := rfl
@[simp] theorem State.setQueue_saf (s : State) (q : Nat) (f : EventQ → EventQ) : (s.setQueue q f).saf = s.saf := rfl
@[simp] theorem State.setQueue_sch (s : State) (q : Nat) (f : EventQ → EventQ) : (s.setQueue q f).sch = s.sch := rfl
@[simp] theorem State.setQueue_irqCores (s : State) (q : Nat) (f : EventQ → EventQ) : (s.setQueue q f).irqCores = s.irqCores := rfl
@[simp] theorem State.setQueue_irqRates (s : State) (q : Nat) (f : EventQ → EventQ) : (s.setQueue q f).irqRates = s.irqRates := rfl
@[simp] theorem State.setQueue_coreFault (s : State) (q : Nat) (f : EventQ → EventQ) : (s.setQueue q f).coreFault = s.coreFault := rfl
@[simp] theorem State.setQueue_mem (s : State) (q : Nat) (f : EventQ → EventQ) : (s.setQueue q f).mem = s.mem := rfl
@[simp] theorem State.setQueue_coreMem (s : State) (q : Nat) (f : EventQ → EventQ) : (s.setQueue q f).coreMem = s.coreMem := rfl
@[simp] theorem State.setQueue_dramKey (s : State) (q : Nat) (f : EventQ → EventQ) : (s.setQueue q f).dramKey = s.dramKey := rfl
@[simp] theorem State.setQueue_freeCtr (s : State) (q : Nat) (f : EventQ → EventQ) : (s.setQueue q f).freeCtr = s.freeCtr := rfl
@[simp] theorem State.setQueue_halted (s : State) (q : Nat) (f : EventQ → EventQ) : (s.setQueue q f).halted = s.halted := rfl
@[simp] theorem State.setQueue_pending (s : State) (q : Nat) (f : EventQ → EventQ) : (s.setQueue q f).pending = s.pending := rfl
@[simp] theorem State.setQueue_rd (s : State) (q : Nat) (f : EventQ → EventQ) (g : Field) : (s.setQueue q f).rd g = s.rd g := rfl
@[simp] theorem State.setQueue_flag (s : State) (q : Nat) (f : EventQ → EventQ) (g : Field) : (s.setQueue q f).flag g = s.flag g := rfl
@[simp] theorem State.setQueue_queue_self (s : State) (q : Nat) (f : EventQ → EventQ) : (s.setQueue q f).queue q = f (s.queue q) := FMap.get_modify_self _ _ _ _
theorem State.setQueue_queue_ne (s : State) (q : Nat) (f : EventQ → EventQ) {i : Nat} (h : i ≠ q) : (s.setQueue q f).queue i = s.queue i := FMap.get_modify_ne _ _ _ h

/-! ### setIrqCore -/

@[simp] theorem State.setIrqCore_regs (s : State) (t : Nat) (f : IrqCore → IrqCore) : (s.setIrqCore t f).regs = s.regs := rfl
@[simp] theorem State.setIrqCore_force (s : State) (t : Nat) (f : IrqCore → IrqCore) : (s.setIrqCore t f).force = s.force := rfl
@[simp] theorem State.setIrqCore_rst (s : State) (t : Nat) (f : IrqCore → IrqCore) : (s.setIrqCore t f).rst = s.rst := rfl
@[simp] theorem State.setIrqCore_flash (s : State) (t : Nat) (f : IrqCore → IrqCore) : (s.setIrqCore t f).flash = s.flash := rfl
@[simp] theorem State.setIrqCore_staging (s : State) (t : Nat) (f : IrqCore → IrqCore) : (s.setIrqCore t f).staging = s.staging := rfl
@[simp] theorem State.setIrqCore_feeds (s : State) (t : Nat) (f : IrqCore → IrqCore) : (s.setIrqCore t f).feeds = s.feeds := rfl
@[simp] theorem State.setIrqCore_fuses (s : State) (t : Nat) (f : IrqCore → IrqCore) : (s.setIrqCore t f).fuses = s.fuses := rfl
@[simp] theorem State.setIrqCore_keyLc (s : State) (t : Nat) (f : IrqCore → IrqCore) : (s.setIrqCore t f).keyLc = s.keyLc := rfl
@[simp] theorem State.setIrqCore_bankKey (s : State) (t : Nat) (f : IrqCore → IrqCore) : (s.setIrqCore t f).bankKey = s.bankKey := rfl
@[simp] theorem State.setIrqCore_sec (s : State) (t : Nat) (f : IrqCore → IrqCore) : (s.setIrqCore t f).sec = s.sec := rfl
@[simp] theorem State.setIrqCore_host (s : State) (t : Nat) (f : IrqCore → IrqCore) : (s.setIrqCore t f).host = s.host := rfl
@[simp] theorem State.setIrqCore_hostMem (s : State) (t : Nat) (f : IrqCore → IrqCore) : (s.setIrqCore t f).hostMem = s.hostMem := rfl
@[simp] theorem State.setIrqCore_tnd (s : State) (t : Nat) (f : IrqCore → IrqCore) : (s.setIrqCore t f).tnd = s.tnd := rfl
@[simp] theorem State.setIrqCore_hist (s : State) (t : Nat) (f : IrqCore → IrqCore) : (s.setIrqCore t f).hist = s.hist := rfl
@[simp] theorem State.setIrqCore_log (s : State) (t : Nat) (f : IrqCore → IrqCore) : (s.setIrqCore t f).log = s.log := rfl
@[simp] theorem State.setIrqCore_tb (s : State) (t : Nat) (f : IrqCore → IrqCore) : (s.setIrqCore t f).tb = s.tb := rfl
@[simp] theorem State.setIrqCore_cad (s : State) (t : Nat) (f : IrqCore → IrqCore) : (s.setIrqCore t f).cad = s.cad := rfl
@[simp] theorem State.setIrqCore_fans (s : State) (t : Nat) (f : IrqCore → IrqCore) : (s.setIrqCore t f).fans = s.fans := rfl
@[simp] theorem State.setIrqCore_dramShed (s : State) (t : Nat) (f : IrqCore → IrqCore) : (s.setIrqCore t f).dramShed = s.dramShed := rfl
@[simp] theorem State.setIrqCore_qos (s : State) (t : Nat) (f : IrqCore → IrqCore) : (s.setIrqCore t f).qos = s.qos := rfl
@[simp] theorem State.setIrqCore_seqr (s : State) (t : Nat) (f : IrqCore → IrqCore) : (s.setIrqCore t f).seqr = s.seqr := rfl
@[simp] theorem State.setIrqCore_eq (s : State) (t : Nat) (f : IrqCore → IrqCore) : (s.setIrqCore t f).eq = s.eq := rfl
@[simp] theorem State.setIrqCore_engines (s : State) (t : Nat) (f : IrqCore → IrqCore) : (s.setIrqCore t f).engines = s.engines := rfl
@[simp] theorem State.setIrqCore_spokes (s : State) (t : Nat) (f : IrqCore → IrqCore) : (s.setIrqCore t f).spokes = s.spokes := rfl
@[simp] theorem State.setIrqCore_cells (s : State) (t : Nat) (f : IrqCore → IrqCore) : (s.setIrqCore t f).cells = s.cells := rfl
@[simp] theorem State.setIrqCore_arms (s : State) (t : Nat) (f : IrqCore → IrqCore) : (s.setIrqCore t f).arms = s.arms := rfl
@[simp] theorem State.setIrqCore_image (s : State) (t : Nat) (f : IrqCore → IrqCore) : (s.setIrqCore t f).image = s.image := rfl
@[simp] theorem State.setIrqCore_c0 (s : State) (t : Nat) (f : IrqCore → IrqCore) : (s.setIrqCore t f).c0 = s.c0 := rfl
@[simp] theorem State.setIrqCore_lp (s : State) (t : Nat) (f : IrqCore → IrqCore) : (s.setIrqCore t f).lp = s.lp := rfl
@[simp] theorem State.setIrqCore_adc (s : State) (t : Nat) (f : IrqCore → IrqCore) : (s.setIrqCore t f).adc = s.adc := rfl
@[simp] theorem State.setIrqCore_slices (s : State) (t : Nat) (f : IrqCore → IrqCore) : (s.setIrqCore t f).slices = s.slices := rfl
@[simp] theorem State.setIrqCore_sysCal (s : State) (t : Nat) (f : IrqCore → IrqCore) : (s.setIrqCore t f).sysCal = s.sysCal := rfl
@[simp] theorem State.setIrqCore_tgDue (s : State) (t : Nat) (f : IrqCore → IrqCore) : (s.setIrqCore t f).tgDue = s.tgDue := rfl
@[simp] theorem State.setIrqCore_setNow (s : State) (t : Nat) (f : IrqCore → IrqCore) : (s.setIrqCore t f).setNow = s.setNow := rfl
@[simp] theorem State.setIrqCore_setSnap (s : State) (t : Nat) (f : IrqCore → IrqCore) : (s.setIrqCore t f).setSnap = s.setSnap := rfl
@[simp] theorem State.setIrqCore_stp (s : State) (t : Nat) (f : IrqCore → IrqCore) : (s.setIrqCore t f).stp = s.stp := rfl
@[simp] theorem State.setIrqCore_ports (s : State) (t : Nat) (f : IrqCore → IrqCore) : (s.setIrqCore t f).ports = s.ports := rfl
@[simp] theorem State.setIrqCore_subs (s : State) (t : Nat) (f : IrqCore → IrqCore) : (s.setIrqCore t f).subs = s.subs := rfl
@[simp] theorem State.setIrqCore_goose (s : State) (t : Nat) (f : IrqCore → IrqCore) : (s.setIrqCore t f).goose = s.goose := rfl
@[simp] theorem State.setIrqCore_time (s : State) (t : Nat) (f : IrqCore → IrqCore) : (s.setIrqCore t f).time = s.time := rfl
@[simp] theorem State.setIrqCore_recs (s : State) (t : Nat) (f : IrqCore → IrqCore) : (s.setIrqCore t f).recs = s.recs := rfl
@[simp] theorem State.setIrqCore_captures (s : State) (t : Nat) (f : IrqCore → IrqCore) : (s.setIrqCore t f).captures = s.captures := rfl
@[simp] theorem State.setIrqCore_saf (s : State) (t : Nat) (f : IrqCore → IrqCore) : (s.setIrqCore t f).saf = s.saf := rfl
@[simp] theorem State.setIrqCore_sch (s : State) (t : Nat) (f : IrqCore → IrqCore) : (s.setIrqCore t f).sch = s.sch := rfl
@[simp] theorem State.setIrqCore_irqRates (s : State) (t : Nat) (f : IrqCore → IrqCore) : (s.setIrqCore t f).irqRates = s.irqRates := rfl
@[simp] theorem State.setIrqCore_coreFault (s : State) (t : Nat) (f : IrqCore → IrqCore) : (s.setIrqCore t f).coreFault = s.coreFault := rfl
@[simp] theorem State.setIrqCore_mem (s : State) (t : Nat) (f : IrqCore → IrqCore) : (s.setIrqCore t f).mem = s.mem := rfl
@[simp] theorem State.setIrqCore_coreMem (s : State) (t : Nat) (f : IrqCore → IrqCore) : (s.setIrqCore t f).coreMem = s.coreMem := rfl
@[simp] theorem State.setIrqCore_dramKey (s : State) (t : Nat) (f : IrqCore → IrqCore) : (s.setIrqCore t f).dramKey = s.dramKey := rfl
@[simp] theorem State.setIrqCore_freeCtr (s : State) (t : Nat) (f : IrqCore → IrqCore) : (s.setIrqCore t f).freeCtr = s.freeCtr := rfl
@[simp] theorem State.setIrqCore_halted (s : State) (t : Nat) (f : IrqCore → IrqCore) : (s.setIrqCore t f).halted = s.halted := rfl
@[simp] theorem State.setIrqCore_pending (s : State) (t : Nat) (f : IrqCore → IrqCore) : (s.setIrqCore t f).pending = s.pending := rfl
@[simp] theorem State.setIrqCore_rd (s : State) (t : Nat) (f : IrqCore → IrqCore) (g : Field) : (s.setIrqCore t f).rd g = s.rd g := rfl
@[simp] theorem State.setIrqCore_flag (s : State) (t : Nat) (f : IrqCore → IrqCore) (g : Field) : (s.setIrqCore t f).flag g = s.flag g := rfl
@[simp] theorem State.setIrqCore_irqCore_self (s : State) (t : Nat) (f : IrqCore → IrqCore) : (s.setIrqCore t f).irqCore t = f (s.irqCore t) := FMap.get_modify_self _ _ _ _
theorem State.setIrqCore_irqCore_ne (s : State) (t : Nat) (f : IrqCore → IrqCore) {i : Nat} (h : i ≠ t) : (s.setIrqCore t f).irqCore i = s.irqCore i := FMap.get_modify_ne _ _ _ h

/-! ### setLp -/

@[simp] theorem State.setLp_regs (s : State) (n : Nat) (f : LpChan → LpChan) : (s.setLp n f).regs = s.regs := rfl
@[simp] theorem State.setLp_force (s : State) (n : Nat) (f : LpChan → LpChan) : (s.setLp n f).force = s.force := rfl
@[simp] theorem State.setLp_rst (s : State) (n : Nat) (f : LpChan → LpChan) : (s.setLp n f).rst = s.rst := rfl
@[simp] theorem State.setLp_flash (s : State) (n : Nat) (f : LpChan → LpChan) : (s.setLp n f).flash = s.flash := rfl
@[simp] theorem State.setLp_staging (s : State) (n : Nat) (f : LpChan → LpChan) : (s.setLp n f).staging = s.staging := rfl
@[simp] theorem State.setLp_feeds (s : State) (n : Nat) (f : LpChan → LpChan) : (s.setLp n f).feeds = s.feeds := rfl
@[simp] theorem State.setLp_fuses (s : State) (n : Nat) (f : LpChan → LpChan) : (s.setLp n f).fuses = s.fuses := rfl
@[simp] theorem State.setLp_keyLc (s : State) (n : Nat) (f : LpChan → LpChan) : (s.setLp n f).keyLc = s.keyLc := rfl
@[simp] theorem State.setLp_bankKey (s : State) (n : Nat) (f : LpChan → LpChan) : (s.setLp n f).bankKey = s.bankKey := rfl
@[simp] theorem State.setLp_sec (s : State) (n : Nat) (f : LpChan → LpChan) : (s.setLp n f).sec = s.sec := rfl
@[simp] theorem State.setLp_host (s : State) (n : Nat) (f : LpChan → LpChan) : (s.setLp n f).host = s.host := rfl
@[simp] theorem State.setLp_hostMem (s : State) (n : Nat) (f : LpChan → LpChan) : (s.setLp n f).hostMem = s.hostMem := rfl
@[simp] theorem State.setLp_tnd (s : State) (n : Nat) (f : LpChan → LpChan) : (s.setLp n f).tnd = s.tnd := rfl
@[simp] theorem State.setLp_hist (s : State) (n : Nat) (f : LpChan → LpChan) : (s.setLp n f).hist = s.hist := rfl
@[simp] theorem State.setLp_log (s : State) (n : Nat) (f : LpChan → LpChan) : (s.setLp n f).log = s.log := rfl
@[simp] theorem State.setLp_tb (s : State) (n : Nat) (f : LpChan → LpChan) : (s.setLp n f).tb = s.tb := rfl
@[simp] theorem State.setLp_cad (s : State) (n : Nat) (f : LpChan → LpChan) : (s.setLp n f).cad = s.cad := rfl
@[simp] theorem State.setLp_fans (s : State) (n : Nat) (f : LpChan → LpChan) : (s.setLp n f).fans = s.fans := rfl
@[simp] theorem State.setLp_dramShed (s : State) (n : Nat) (f : LpChan → LpChan) : (s.setLp n f).dramShed = s.dramShed := rfl
@[simp] theorem State.setLp_qos (s : State) (n : Nat) (f : LpChan → LpChan) : (s.setLp n f).qos = s.qos := rfl
@[simp] theorem State.setLp_seqr (s : State) (n : Nat) (f : LpChan → LpChan) : (s.setLp n f).seqr = s.seqr := rfl
@[simp] theorem State.setLp_eq (s : State) (n : Nat) (f : LpChan → LpChan) : (s.setLp n f).eq = s.eq := rfl
@[simp] theorem State.setLp_engines (s : State) (n : Nat) (f : LpChan → LpChan) : (s.setLp n f).engines = s.engines := rfl
@[simp] theorem State.setLp_spokes (s : State) (n : Nat) (f : LpChan → LpChan) : (s.setLp n f).spokes = s.spokes := rfl
@[simp] theorem State.setLp_cells (s : State) (n : Nat) (f : LpChan → LpChan) : (s.setLp n f).cells = s.cells := rfl
@[simp] theorem State.setLp_arms (s : State) (n : Nat) (f : LpChan → LpChan) : (s.setLp n f).arms = s.arms := rfl
@[simp] theorem State.setLp_image (s : State) (n : Nat) (f : LpChan → LpChan) : (s.setLp n f).image = s.image := rfl
@[simp] theorem State.setLp_c0 (s : State) (n : Nat) (f : LpChan → LpChan) : (s.setLp n f).c0 = s.c0 := rfl
@[simp] theorem State.setLp_adc (s : State) (n : Nat) (f : LpChan → LpChan) : (s.setLp n f).adc = s.adc := rfl
@[simp] theorem State.setLp_slices (s : State) (n : Nat) (f : LpChan → LpChan) : (s.setLp n f).slices = s.slices := rfl
@[simp] theorem State.setLp_sysCal (s : State) (n : Nat) (f : LpChan → LpChan) : (s.setLp n f).sysCal = s.sysCal := rfl
@[simp] theorem State.setLp_tgDue (s : State) (n : Nat) (f : LpChan → LpChan) : (s.setLp n f).tgDue = s.tgDue := rfl
@[simp] theorem State.setLp_setNow (s : State) (n : Nat) (f : LpChan → LpChan) : (s.setLp n f).setNow = s.setNow := rfl
@[simp] theorem State.setLp_setSnap (s : State) (n : Nat) (f : LpChan → LpChan) : (s.setLp n f).setSnap = s.setSnap := rfl
@[simp] theorem State.setLp_stp (s : State) (n : Nat) (f : LpChan → LpChan) : (s.setLp n f).stp = s.stp := rfl
@[simp] theorem State.setLp_ports (s : State) (n : Nat) (f : LpChan → LpChan) : (s.setLp n f).ports = s.ports := rfl
@[simp] theorem State.setLp_subs (s : State) (n : Nat) (f : LpChan → LpChan) : (s.setLp n f).subs = s.subs := rfl
@[simp] theorem State.setLp_goose (s : State) (n : Nat) (f : LpChan → LpChan) : (s.setLp n f).goose = s.goose := rfl
@[simp] theorem State.setLp_time (s : State) (n : Nat) (f : LpChan → LpChan) : (s.setLp n f).time = s.time := rfl
@[simp] theorem State.setLp_recs (s : State) (n : Nat) (f : LpChan → LpChan) : (s.setLp n f).recs = s.recs := rfl
@[simp] theorem State.setLp_captures (s : State) (n : Nat) (f : LpChan → LpChan) : (s.setLp n f).captures = s.captures := rfl
@[simp] theorem State.setLp_saf (s : State) (n : Nat) (f : LpChan → LpChan) : (s.setLp n f).saf = s.saf := rfl
@[simp] theorem State.setLp_sch (s : State) (n : Nat) (f : LpChan → LpChan) : (s.setLp n f).sch = s.sch := rfl
@[simp] theorem State.setLp_irqCores (s : State) (n : Nat) (f : LpChan → LpChan) : (s.setLp n f).irqCores = s.irqCores := rfl
@[simp] theorem State.setLp_irqRates (s : State) (n : Nat) (f : LpChan → LpChan) : (s.setLp n f).irqRates = s.irqRates := rfl
@[simp] theorem State.setLp_coreFault (s : State) (n : Nat) (f : LpChan → LpChan) : (s.setLp n f).coreFault = s.coreFault := rfl
@[simp] theorem State.setLp_mem (s : State) (n : Nat) (f : LpChan → LpChan) : (s.setLp n f).mem = s.mem := rfl
@[simp] theorem State.setLp_coreMem (s : State) (n : Nat) (f : LpChan → LpChan) : (s.setLp n f).coreMem = s.coreMem := rfl
@[simp] theorem State.setLp_dramKey (s : State) (n : Nat) (f : LpChan → LpChan) : (s.setLp n f).dramKey = s.dramKey := rfl
@[simp] theorem State.setLp_freeCtr (s : State) (n : Nat) (f : LpChan → LpChan) : (s.setLp n f).freeCtr = s.freeCtr := rfl
@[simp] theorem State.setLp_halted (s : State) (n : Nat) (f : LpChan → LpChan) : (s.setLp n f).halted = s.halted := rfl
@[simp] theorem State.setLp_pending (s : State) (n : Nat) (f : LpChan → LpChan) : (s.setLp n f).pending = s.pending := rfl
@[simp] theorem State.setLp_rd (s : State) (n : Nat) (f : LpChan → LpChan) (g : Field) : (s.setLp n f).rd g = s.rd g := rfl
@[simp] theorem State.setLp_flag (s : State) (n : Nat) (f : LpChan → LpChan) (g : Field) : (s.setLp n f).flag g = s.flag g := rfl
@[simp] theorem State.setLp_lpc_self (s : State) (n : Nat) (f : LpChan → LpChan) : (s.setLp n f).lpc n = f (s.lpc n) := FMap.get_modify_self _ _ _ _
theorem State.setLp_lpc_ne (s : State) (n : Nat) (f : LpChan → LpChan) {i : Nat} (h : i ≠ n) : (s.setLp n f).lpc i = s.lpc i := FMap.get_modify_ne _ _ _ h

/-! ### setRec -/

@[simp] theorem State.setRec_regs (s : State) (d : Nat) (f : RecDef → RecDef) : (s.setRec d f).regs = s.regs := rfl
@[simp] theorem State.setRec_force (s : State) (d : Nat) (f : RecDef → RecDef) : (s.setRec d f).force = s.force := rfl
@[simp] theorem State.setRec_rst (s : State) (d : Nat) (f : RecDef → RecDef) : (s.setRec d f).rst = s.rst := rfl
@[simp] theorem State.setRec_flash (s : State) (d : Nat) (f : RecDef → RecDef) : (s.setRec d f).flash = s.flash := rfl
@[simp] theorem State.setRec_staging (s : State) (d : Nat) (f : RecDef → RecDef) : (s.setRec d f).staging = s.staging := rfl
@[simp] theorem State.setRec_feeds (s : State) (d : Nat) (f : RecDef → RecDef) : (s.setRec d f).feeds = s.feeds := rfl
@[simp] theorem State.setRec_fuses (s : State) (d : Nat) (f : RecDef → RecDef) : (s.setRec d f).fuses = s.fuses := rfl
@[simp] theorem State.setRec_keyLc (s : State) (d : Nat) (f : RecDef → RecDef) : (s.setRec d f).keyLc = s.keyLc := rfl
@[simp] theorem State.setRec_bankKey (s : State) (d : Nat) (f : RecDef → RecDef) : (s.setRec d f).bankKey = s.bankKey := rfl
@[simp] theorem State.setRec_sec (s : State) (d : Nat) (f : RecDef → RecDef) : (s.setRec d f).sec = s.sec := rfl
@[simp] theorem State.setRec_host (s : State) (d : Nat) (f : RecDef → RecDef) : (s.setRec d f).host = s.host := rfl
@[simp] theorem State.setRec_hostMem (s : State) (d : Nat) (f : RecDef → RecDef) : (s.setRec d f).hostMem = s.hostMem := rfl
@[simp] theorem State.setRec_tnd (s : State) (d : Nat) (f : RecDef → RecDef) : (s.setRec d f).tnd = s.tnd := rfl
@[simp] theorem State.setRec_hist (s : State) (d : Nat) (f : RecDef → RecDef) : (s.setRec d f).hist = s.hist := rfl
@[simp] theorem State.setRec_log (s : State) (d : Nat) (f : RecDef → RecDef) : (s.setRec d f).log = s.log := rfl
@[simp] theorem State.setRec_tb (s : State) (d : Nat) (f : RecDef → RecDef) : (s.setRec d f).tb = s.tb := rfl
@[simp] theorem State.setRec_cad (s : State) (d : Nat) (f : RecDef → RecDef) : (s.setRec d f).cad = s.cad := rfl
@[simp] theorem State.setRec_fans (s : State) (d : Nat) (f : RecDef → RecDef) : (s.setRec d f).fans = s.fans := rfl
@[simp] theorem State.setRec_dramShed (s : State) (d : Nat) (f : RecDef → RecDef) : (s.setRec d f).dramShed = s.dramShed := rfl
@[simp] theorem State.setRec_qos (s : State) (d : Nat) (f : RecDef → RecDef) : (s.setRec d f).qos = s.qos := rfl
@[simp] theorem State.setRec_seqr (s : State) (d : Nat) (f : RecDef → RecDef) : (s.setRec d f).seqr = s.seqr := rfl
@[simp] theorem State.setRec_eq (s : State) (d : Nat) (f : RecDef → RecDef) : (s.setRec d f).eq = s.eq := rfl
@[simp] theorem State.setRec_engines (s : State) (d : Nat) (f : RecDef → RecDef) : (s.setRec d f).engines = s.engines := rfl
@[simp] theorem State.setRec_spokes (s : State) (d : Nat) (f : RecDef → RecDef) : (s.setRec d f).spokes = s.spokes := rfl
@[simp] theorem State.setRec_cells (s : State) (d : Nat) (f : RecDef → RecDef) : (s.setRec d f).cells = s.cells := rfl
@[simp] theorem State.setRec_arms (s : State) (d : Nat) (f : RecDef → RecDef) : (s.setRec d f).arms = s.arms := rfl
@[simp] theorem State.setRec_image (s : State) (d : Nat) (f : RecDef → RecDef) : (s.setRec d f).image = s.image := rfl
@[simp] theorem State.setRec_c0 (s : State) (d : Nat) (f : RecDef → RecDef) : (s.setRec d f).c0 = s.c0 := rfl
@[simp] theorem State.setRec_lp (s : State) (d : Nat) (f : RecDef → RecDef) : (s.setRec d f).lp = s.lp := rfl
@[simp] theorem State.setRec_adc (s : State) (d : Nat) (f : RecDef → RecDef) : (s.setRec d f).adc = s.adc := rfl
@[simp] theorem State.setRec_slices (s : State) (d : Nat) (f : RecDef → RecDef) : (s.setRec d f).slices = s.slices := rfl
@[simp] theorem State.setRec_sysCal (s : State) (d : Nat) (f : RecDef → RecDef) : (s.setRec d f).sysCal = s.sysCal := rfl
@[simp] theorem State.setRec_tgDue (s : State) (d : Nat) (f : RecDef → RecDef) : (s.setRec d f).tgDue = s.tgDue := rfl
@[simp] theorem State.setRec_setNow (s : State) (d : Nat) (f : RecDef → RecDef) : (s.setRec d f).setNow = s.setNow := rfl
@[simp] theorem State.setRec_setSnap (s : State) (d : Nat) (f : RecDef → RecDef) : (s.setRec d f).setSnap = s.setSnap := rfl
@[simp] theorem State.setRec_stp (s : State) (d : Nat) (f : RecDef → RecDef) : (s.setRec d f).stp = s.stp := rfl
@[simp] theorem State.setRec_ports (s : State) (d : Nat) (f : RecDef → RecDef) : (s.setRec d f).ports = s.ports := rfl
@[simp] theorem State.setRec_subs (s : State) (d : Nat) (f : RecDef → RecDef) : (s.setRec d f).subs = s.subs := rfl
@[simp] theorem State.setRec_goose (s : State) (d : Nat) (f : RecDef → RecDef) : (s.setRec d f).goose = s.goose := rfl
@[simp] theorem State.setRec_time (s : State) (d : Nat) (f : RecDef → RecDef) : (s.setRec d f).time = s.time := rfl
@[simp] theorem State.setRec_captures (s : State) (d : Nat) (f : RecDef → RecDef) : (s.setRec d f).captures = s.captures := rfl
@[simp] theorem State.setRec_saf (s : State) (d : Nat) (f : RecDef → RecDef) : (s.setRec d f).saf = s.saf := rfl
@[simp] theorem State.setRec_sch (s : State) (d : Nat) (f : RecDef → RecDef) : (s.setRec d f).sch = s.sch := rfl
@[simp] theorem State.setRec_irqCores (s : State) (d : Nat) (f : RecDef → RecDef) : (s.setRec d f).irqCores = s.irqCores := rfl
@[simp] theorem State.setRec_irqRates (s : State) (d : Nat) (f : RecDef → RecDef) : (s.setRec d f).irqRates = s.irqRates := rfl
@[simp] theorem State.setRec_coreFault (s : State) (d : Nat) (f : RecDef → RecDef) : (s.setRec d f).coreFault = s.coreFault := rfl
@[simp] theorem State.setRec_mem (s : State) (d : Nat) (f : RecDef → RecDef) : (s.setRec d f).mem = s.mem := rfl
@[simp] theorem State.setRec_coreMem (s : State) (d : Nat) (f : RecDef → RecDef) : (s.setRec d f).coreMem = s.coreMem := rfl
@[simp] theorem State.setRec_dramKey (s : State) (d : Nat) (f : RecDef → RecDef) : (s.setRec d f).dramKey = s.dramKey := rfl
@[simp] theorem State.setRec_freeCtr (s : State) (d : Nat) (f : RecDef → RecDef) : (s.setRec d f).freeCtr = s.freeCtr := rfl
@[simp] theorem State.setRec_halted (s : State) (d : Nat) (f : RecDef → RecDef) : (s.setRec d f).halted = s.halted := rfl
@[simp] theorem State.setRec_pending (s : State) (d : Nat) (f : RecDef → RecDef) : (s.setRec d f).pending = s.pending := rfl
@[simp] theorem State.setRec_rd (s : State) (d : Nat) (f : RecDef → RecDef) (g : Field) : (s.setRec d f).rd g = s.rd g := rfl
@[simp] theorem State.setRec_flag (s : State) (d : Nat) (f : RecDef → RecDef) (g : Field) : (s.setRec d f).flag g = s.flag g := rfl
@[simp] theorem State.setRec_recd_self (s : State) (d : Nat) (f : RecDef → RecDef) : (s.setRec d f).recd d = f (s.recd d) := FMap.get_modify_self _ _ _ _
theorem State.setRec_recd_ne (s : State) (d : Nat) (f : RecDef → RecDef) {i : Nat} (h : i ≠ d) : (s.setRec d f).recd i = s.recd i := FMap.get_modify_ne _ _ _ h

/-! ### setPort -/

@[simp] theorem State.setPort_regs (s : State) (n : Nat) (f : StpPort → StpPort) : (s.setPort n f).regs = s.regs := rfl
@[simp] theorem State.setPort_force (s : State) (n : Nat) (f : StpPort → StpPort) : (s.setPort n f).force = s.force := rfl
@[simp] theorem State.setPort_rst (s : State) (n : Nat) (f : StpPort → StpPort) : (s.setPort n f).rst = s.rst := rfl
@[simp] theorem State.setPort_flash (s : State) (n : Nat) (f : StpPort → StpPort) : (s.setPort n f).flash = s.flash := rfl
@[simp] theorem State.setPort_staging (s : State) (n : Nat) (f : StpPort → StpPort) : (s.setPort n f).staging = s.staging := rfl
@[simp] theorem State.setPort_feeds (s : State) (n : Nat) (f : StpPort → StpPort) : (s.setPort n f).feeds = s.feeds := rfl
@[simp] theorem State.setPort_fuses (s : State) (n : Nat) (f : StpPort → StpPort) : (s.setPort n f).fuses = s.fuses := rfl
@[simp] theorem State.setPort_keyLc (s : State) (n : Nat) (f : StpPort → StpPort) : (s.setPort n f).keyLc = s.keyLc := rfl
@[simp] theorem State.setPort_bankKey (s : State) (n : Nat) (f : StpPort → StpPort) : (s.setPort n f).bankKey = s.bankKey := rfl
@[simp] theorem State.setPort_sec (s : State) (n : Nat) (f : StpPort → StpPort) : (s.setPort n f).sec = s.sec := rfl
@[simp] theorem State.setPort_host (s : State) (n : Nat) (f : StpPort → StpPort) : (s.setPort n f).host = s.host := rfl
@[simp] theorem State.setPort_hostMem (s : State) (n : Nat) (f : StpPort → StpPort) : (s.setPort n f).hostMem = s.hostMem := rfl
@[simp] theorem State.setPort_tnd (s : State) (n : Nat) (f : StpPort → StpPort) : (s.setPort n f).tnd = s.tnd := rfl
@[simp] theorem State.setPort_hist (s : State) (n : Nat) (f : StpPort → StpPort) : (s.setPort n f).hist = s.hist := rfl
@[simp] theorem State.setPort_log (s : State) (n : Nat) (f : StpPort → StpPort) : (s.setPort n f).log = s.log := rfl
@[simp] theorem State.setPort_tb (s : State) (n : Nat) (f : StpPort → StpPort) : (s.setPort n f).tb = s.tb := rfl
@[simp] theorem State.setPort_cad (s : State) (n : Nat) (f : StpPort → StpPort) : (s.setPort n f).cad = s.cad := rfl
@[simp] theorem State.setPort_fans (s : State) (n : Nat) (f : StpPort → StpPort) : (s.setPort n f).fans = s.fans := rfl
@[simp] theorem State.setPort_dramShed (s : State) (n : Nat) (f : StpPort → StpPort) : (s.setPort n f).dramShed = s.dramShed := rfl
@[simp] theorem State.setPort_qos (s : State) (n : Nat) (f : StpPort → StpPort) : (s.setPort n f).qos = s.qos := rfl
@[simp] theorem State.setPort_seqr (s : State) (n : Nat) (f : StpPort → StpPort) : (s.setPort n f).seqr = s.seqr := rfl
@[simp] theorem State.setPort_eq (s : State) (n : Nat) (f : StpPort → StpPort) : (s.setPort n f).eq = s.eq := rfl
@[simp] theorem State.setPort_engines (s : State) (n : Nat) (f : StpPort → StpPort) : (s.setPort n f).engines = s.engines := rfl
@[simp] theorem State.setPort_spokes (s : State) (n : Nat) (f : StpPort → StpPort) : (s.setPort n f).spokes = s.spokes := rfl
@[simp] theorem State.setPort_cells (s : State) (n : Nat) (f : StpPort → StpPort) : (s.setPort n f).cells = s.cells := rfl
@[simp] theorem State.setPort_arms (s : State) (n : Nat) (f : StpPort → StpPort) : (s.setPort n f).arms = s.arms := rfl
@[simp] theorem State.setPort_image (s : State) (n : Nat) (f : StpPort → StpPort) : (s.setPort n f).image = s.image := rfl
@[simp] theorem State.setPort_c0 (s : State) (n : Nat) (f : StpPort → StpPort) : (s.setPort n f).c0 = s.c0 := rfl
@[simp] theorem State.setPort_lp (s : State) (n : Nat) (f : StpPort → StpPort) : (s.setPort n f).lp = s.lp := rfl
@[simp] theorem State.setPort_adc (s : State) (n : Nat) (f : StpPort → StpPort) : (s.setPort n f).adc = s.adc := rfl
@[simp] theorem State.setPort_slices (s : State) (n : Nat) (f : StpPort → StpPort) : (s.setPort n f).slices = s.slices := rfl
@[simp] theorem State.setPort_sysCal (s : State) (n : Nat) (f : StpPort → StpPort) : (s.setPort n f).sysCal = s.sysCal := rfl
@[simp] theorem State.setPort_tgDue (s : State) (n : Nat) (f : StpPort → StpPort) : (s.setPort n f).tgDue = s.tgDue := rfl
@[simp] theorem State.setPort_setNow (s : State) (n : Nat) (f : StpPort → StpPort) : (s.setPort n f).setNow = s.setNow := rfl
@[simp] theorem State.setPort_setSnap (s : State) (n : Nat) (f : StpPort → StpPort) : (s.setPort n f).setSnap = s.setSnap := rfl
@[simp] theorem State.setPort_stp (s : State) (n : Nat) (f : StpPort → StpPort) : (s.setPort n f).stp = s.stp := rfl
@[simp] theorem State.setPort_subs (s : State) (n : Nat) (f : StpPort → StpPort) : (s.setPort n f).subs = s.subs := rfl
@[simp] theorem State.setPort_goose (s : State) (n : Nat) (f : StpPort → StpPort) : (s.setPort n f).goose = s.goose := rfl
@[simp] theorem State.setPort_time (s : State) (n : Nat) (f : StpPort → StpPort) : (s.setPort n f).time = s.time := rfl
@[simp] theorem State.setPort_recs (s : State) (n : Nat) (f : StpPort → StpPort) : (s.setPort n f).recs = s.recs := rfl
@[simp] theorem State.setPort_captures (s : State) (n : Nat) (f : StpPort → StpPort) : (s.setPort n f).captures = s.captures := rfl
@[simp] theorem State.setPort_saf (s : State) (n : Nat) (f : StpPort → StpPort) : (s.setPort n f).saf = s.saf := rfl
@[simp] theorem State.setPort_sch (s : State) (n : Nat) (f : StpPort → StpPort) : (s.setPort n f).sch = s.sch := rfl
@[simp] theorem State.setPort_irqCores (s : State) (n : Nat) (f : StpPort → StpPort) : (s.setPort n f).irqCores = s.irqCores := rfl
@[simp] theorem State.setPort_irqRates (s : State) (n : Nat) (f : StpPort → StpPort) : (s.setPort n f).irqRates = s.irqRates := rfl
@[simp] theorem State.setPort_coreFault (s : State) (n : Nat) (f : StpPort → StpPort) : (s.setPort n f).coreFault = s.coreFault := rfl
@[simp] theorem State.setPort_mem (s : State) (n : Nat) (f : StpPort → StpPort) : (s.setPort n f).mem = s.mem := rfl
@[simp] theorem State.setPort_coreMem (s : State) (n : Nat) (f : StpPort → StpPort) : (s.setPort n f).coreMem = s.coreMem := rfl
@[simp] theorem State.setPort_dramKey (s : State) (n : Nat) (f : StpPort → StpPort) : (s.setPort n f).dramKey = s.dramKey := rfl
@[simp] theorem State.setPort_freeCtr (s : State) (n : Nat) (f : StpPort → StpPort) : (s.setPort n f).freeCtr = s.freeCtr := rfl
@[simp] theorem State.setPort_halted (s : State) (n : Nat) (f : StpPort → StpPort) : (s.setPort n f).halted = s.halted := rfl
@[simp] theorem State.setPort_pending (s : State) (n : Nat) (f : StpPort → StpPort) : (s.setPort n f).pending = s.pending := rfl
@[simp] theorem State.setPort_rd (s : State) (n : Nat) (f : StpPort → StpPort) (g : Field) : (s.setPort n f).rd g = s.rd g := rfl
@[simp] theorem State.setPort_flag (s : State) (n : Nat) (f : StpPort → StpPort) (g : Field) : (s.setPort n f).flag g = s.flag g := rfl
@[simp] theorem State.setPort_port_self (s : State) (n : Nat) (f : StpPort → StpPort) : (s.setPort n f).port n = f (s.port n) := FMap.get_modify_self _ _ _ _
theorem State.setPort_port_ne (s : State) (n : Nat) (f : StpPort → StpPort) {i : Nat} (h : i ≠ n) : (s.setPort n f).port i = s.port i := FMap.get_modify_ne _ _ _ h

/-! ### setSub -/

@[simp] theorem State.setSub_regs (s : State) (n : Nat) (f : SvSub → SvSub) : (s.setSub n f).regs = s.regs := rfl
@[simp] theorem State.setSub_force (s : State) (n : Nat) (f : SvSub → SvSub) : (s.setSub n f).force = s.force := rfl
@[simp] theorem State.setSub_rst (s : State) (n : Nat) (f : SvSub → SvSub) : (s.setSub n f).rst = s.rst := rfl
@[simp] theorem State.setSub_flash (s : State) (n : Nat) (f : SvSub → SvSub) : (s.setSub n f).flash = s.flash := rfl
@[simp] theorem State.setSub_staging (s : State) (n : Nat) (f : SvSub → SvSub) : (s.setSub n f).staging = s.staging := rfl
@[simp] theorem State.setSub_feeds (s : State) (n : Nat) (f : SvSub → SvSub) : (s.setSub n f).feeds = s.feeds := rfl
@[simp] theorem State.setSub_fuses (s : State) (n : Nat) (f : SvSub → SvSub) : (s.setSub n f).fuses = s.fuses := rfl
@[simp] theorem State.setSub_keyLc (s : State) (n : Nat) (f : SvSub → SvSub) : (s.setSub n f).keyLc = s.keyLc := rfl
@[simp] theorem State.setSub_bankKey (s : State) (n : Nat) (f : SvSub → SvSub) : (s.setSub n f).bankKey = s.bankKey := rfl
@[simp] theorem State.setSub_sec (s : State) (n : Nat) (f : SvSub → SvSub) : (s.setSub n f).sec = s.sec := rfl
@[simp] theorem State.setSub_host (s : State) (n : Nat) (f : SvSub → SvSub) : (s.setSub n f).host = s.host := rfl
@[simp] theorem State.setSub_hostMem (s : State) (n : Nat) (f : SvSub → SvSub) : (s.setSub n f).hostMem = s.hostMem := rfl
@[simp] theorem State.setSub_tnd (s : State) (n : Nat) (f : SvSub → SvSub) : (s.setSub n f).tnd = s.tnd := rfl
@[simp] theorem State.setSub_hist (s : State) (n : Nat) (f : SvSub → SvSub) : (s.setSub n f).hist = s.hist := rfl
@[simp] theorem State.setSub_log (s : State) (n : Nat) (f : SvSub → SvSub) : (s.setSub n f).log = s.log := rfl
@[simp] theorem State.setSub_tb (s : State) (n : Nat) (f : SvSub → SvSub) : (s.setSub n f).tb = s.tb := rfl
@[simp] theorem State.setSub_cad (s : State) (n : Nat) (f : SvSub → SvSub) : (s.setSub n f).cad = s.cad := rfl
@[simp] theorem State.setSub_fans (s : State) (n : Nat) (f : SvSub → SvSub) : (s.setSub n f).fans = s.fans := rfl
@[simp] theorem State.setSub_dramShed (s : State) (n : Nat) (f : SvSub → SvSub) : (s.setSub n f).dramShed = s.dramShed := rfl
@[simp] theorem State.setSub_qos (s : State) (n : Nat) (f : SvSub → SvSub) : (s.setSub n f).qos = s.qos := rfl
@[simp] theorem State.setSub_seqr (s : State) (n : Nat) (f : SvSub → SvSub) : (s.setSub n f).seqr = s.seqr := rfl
@[simp] theorem State.setSub_eq (s : State) (n : Nat) (f : SvSub → SvSub) : (s.setSub n f).eq = s.eq := rfl
@[simp] theorem State.setSub_engines (s : State) (n : Nat) (f : SvSub → SvSub) : (s.setSub n f).engines = s.engines := rfl
@[simp] theorem State.setSub_spokes (s : State) (n : Nat) (f : SvSub → SvSub) : (s.setSub n f).spokes = s.spokes := rfl
@[simp] theorem State.setSub_cells (s : State) (n : Nat) (f : SvSub → SvSub) : (s.setSub n f).cells = s.cells := rfl
@[simp] theorem State.setSub_arms (s : State) (n : Nat) (f : SvSub → SvSub) : (s.setSub n f).arms = s.arms := rfl
@[simp] theorem State.setSub_image (s : State) (n : Nat) (f : SvSub → SvSub) : (s.setSub n f).image = s.image := rfl
@[simp] theorem State.setSub_c0 (s : State) (n : Nat) (f : SvSub → SvSub) : (s.setSub n f).c0 = s.c0 := rfl
@[simp] theorem State.setSub_lp (s : State) (n : Nat) (f : SvSub → SvSub) : (s.setSub n f).lp = s.lp := rfl
@[simp] theorem State.setSub_adc (s : State) (n : Nat) (f : SvSub → SvSub) : (s.setSub n f).adc = s.adc := rfl
@[simp] theorem State.setSub_slices (s : State) (n : Nat) (f : SvSub → SvSub) : (s.setSub n f).slices = s.slices := rfl
@[simp] theorem State.setSub_sysCal (s : State) (n : Nat) (f : SvSub → SvSub) : (s.setSub n f).sysCal = s.sysCal := rfl
@[simp] theorem State.setSub_tgDue (s : State) (n : Nat) (f : SvSub → SvSub) : (s.setSub n f).tgDue = s.tgDue := rfl
@[simp] theorem State.setSub_setNow (s : State) (n : Nat) (f : SvSub → SvSub) : (s.setSub n f).setNow = s.setNow := rfl
@[simp] theorem State.setSub_setSnap (s : State) (n : Nat) (f : SvSub → SvSub) : (s.setSub n f).setSnap = s.setSnap := rfl
@[simp] theorem State.setSub_stp (s : State) (n : Nat) (f : SvSub → SvSub) : (s.setSub n f).stp = s.stp := rfl
@[simp] theorem State.setSub_ports (s : State) (n : Nat) (f : SvSub → SvSub) : (s.setSub n f).ports = s.ports := rfl
@[simp] theorem State.setSub_goose (s : State) (n : Nat) (f : SvSub → SvSub) : (s.setSub n f).goose = s.goose := rfl
@[simp] theorem State.setSub_time (s : State) (n : Nat) (f : SvSub → SvSub) : (s.setSub n f).time = s.time := rfl
@[simp] theorem State.setSub_recs (s : State) (n : Nat) (f : SvSub → SvSub) : (s.setSub n f).recs = s.recs := rfl
@[simp] theorem State.setSub_captures (s : State) (n : Nat) (f : SvSub → SvSub) : (s.setSub n f).captures = s.captures := rfl
@[simp] theorem State.setSub_saf (s : State) (n : Nat) (f : SvSub → SvSub) : (s.setSub n f).saf = s.saf := rfl
@[simp] theorem State.setSub_sch (s : State) (n : Nat) (f : SvSub → SvSub) : (s.setSub n f).sch = s.sch := rfl
@[simp] theorem State.setSub_irqCores (s : State) (n : Nat) (f : SvSub → SvSub) : (s.setSub n f).irqCores = s.irqCores := rfl
@[simp] theorem State.setSub_irqRates (s : State) (n : Nat) (f : SvSub → SvSub) : (s.setSub n f).irqRates = s.irqRates := rfl
@[simp] theorem State.setSub_coreFault (s : State) (n : Nat) (f : SvSub → SvSub) : (s.setSub n f).coreFault = s.coreFault := rfl
@[simp] theorem State.setSub_mem (s : State) (n : Nat) (f : SvSub → SvSub) : (s.setSub n f).mem = s.mem := rfl
@[simp] theorem State.setSub_coreMem (s : State) (n : Nat) (f : SvSub → SvSub) : (s.setSub n f).coreMem = s.coreMem := rfl
@[simp] theorem State.setSub_dramKey (s : State) (n : Nat) (f : SvSub → SvSub) : (s.setSub n f).dramKey = s.dramKey := rfl
@[simp] theorem State.setSub_freeCtr (s : State) (n : Nat) (f : SvSub → SvSub) : (s.setSub n f).freeCtr = s.freeCtr := rfl
@[simp] theorem State.setSub_halted (s : State) (n : Nat) (f : SvSub → SvSub) : (s.setSub n f).halted = s.halted := rfl
@[simp] theorem State.setSub_pending (s : State) (n : Nat) (f : SvSub → SvSub) : (s.setSub n f).pending = s.pending := rfl
@[simp] theorem State.setSub_rd (s : State) (n : Nat) (f : SvSub → SvSub) (g : Field) : (s.setSub n f).rd g = s.rd g := rfl
@[simp] theorem State.setSub_flag (s : State) (n : Nat) (f : SvSub → SvSub) (g : Field) : (s.setSub n f).flag g = s.flag g := rfl
@[simp] theorem State.setSub_sub_self (s : State) (n : Nat) (f : SvSub → SvSub) : (s.setSub n f).sub n = f (s.sub n) := FMap.get_modify_self _ _ _ _
theorem State.setSub_sub_ne (s : State) (n : Nat) (f : SvSub → SvSub) {i : Nat} (h : i ≠ n) : (s.setSub n f).sub i = s.sub i := FMap.get_modify_ne _ _ _ h

/-! ### setGoose -/

@[simp] theorem State.setGoose_regs (s : State) (n : Nat) (f : GooseFilter → GooseFilter) : (s.setGoose n f).regs = s.regs := rfl
@[simp] theorem State.setGoose_force (s : State) (n : Nat) (f : GooseFilter → GooseFilter) : (s.setGoose n f).force = s.force := rfl
@[simp] theorem State.setGoose_rst (s : State) (n : Nat) (f : GooseFilter → GooseFilter) : (s.setGoose n f).rst = s.rst := rfl
@[simp] theorem State.setGoose_flash (s : State) (n : Nat) (f : GooseFilter → GooseFilter) : (s.setGoose n f).flash = s.flash := rfl
@[simp] theorem State.setGoose_staging (s : State) (n : Nat) (f : GooseFilter → GooseFilter) : (s.setGoose n f).staging = s.staging := rfl
@[simp] theorem State.setGoose_feeds (s : State) (n : Nat) (f : GooseFilter → GooseFilter) : (s.setGoose n f).feeds = s.feeds := rfl
@[simp] theorem State.setGoose_fuses (s : State) (n : Nat) (f : GooseFilter → GooseFilter) : (s.setGoose n f).fuses = s.fuses := rfl
@[simp] theorem State.setGoose_keyLc (s : State) (n : Nat) (f : GooseFilter → GooseFilter) : (s.setGoose n f).keyLc = s.keyLc := rfl
@[simp] theorem State.setGoose_bankKey (s : State) (n : Nat) (f : GooseFilter → GooseFilter) : (s.setGoose n f).bankKey = s.bankKey := rfl
@[simp] theorem State.setGoose_sec (s : State) (n : Nat) (f : GooseFilter → GooseFilter) : (s.setGoose n f).sec = s.sec := rfl
@[simp] theorem State.setGoose_host (s : State) (n : Nat) (f : GooseFilter → GooseFilter) : (s.setGoose n f).host = s.host := rfl
@[simp] theorem State.setGoose_hostMem (s : State) (n : Nat) (f : GooseFilter → GooseFilter) : (s.setGoose n f).hostMem = s.hostMem := rfl
@[simp] theorem State.setGoose_tnd (s : State) (n : Nat) (f : GooseFilter → GooseFilter) : (s.setGoose n f).tnd = s.tnd := rfl
@[simp] theorem State.setGoose_hist (s : State) (n : Nat) (f : GooseFilter → GooseFilter) : (s.setGoose n f).hist = s.hist := rfl
@[simp] theorem State.setGoose_log (s : State) (n : Nat) (f : GooseFilter → GooseFilter) : (s.setGoose n f).log = s.log := rfl
@[simp] theorem State.setGoose_tb (s : State) (n : Nat) (f : GooseFilter → GooseFilter) : (s.setGoose n f).tb = s.tb := rfl
@[simp] theorem State.setGoose_cad (s : State) (n : Nat) (f : GooseFilter → GooseFilter) : (s.setGoose n f).cad = s.cad := rfl
@[simp] theorem State.setGoose_fans (s : State) (n : Nat) (f : GooseFilter → GooseFilter) : (s.setGoose n f).fans = s.fans := rfl
@[simp] theorem State.setGoose_dramShed (s : State) (n : Nat) (f : GooseFilter → GooseFilter) : (s.setGoose n f).dramShed = s.dramShed := rfl
@[simp] theorem State.setGoose_qos (s : State) (n : Nat) (f : GooseFilter → GooseFilter) : (s.setGoose n f).qos = s.qos := rfl
@[simp] theorem State.setGoose_seqr (s : State) (n : Nat) (f : GooseFilter → GooseFilter) : (s.setGoose n f).seqr = s.seqr := rfl
@[simp] theorem State.setGoose_eq (s : State) (n : Nat) (f : GooseFilter → GooseFilter) : (s.setGoose n f).eq = s.eq := rfl
@[simp] theorem State.setGoose_engines (s : State) (n : Nat) (f : GooseFilter → GooseFilter) : (s.setGoose n f).engines = s.engines := rfl
@[simp] theorem State.setGoose_spokes (s : State) (n : Nat) (f : GooseFilter → GooseFilter) : (s.setGoose n f).spokes = s.spokes := rfl
@[simp] theorem State.setGoose_cells (s : State) (n : Nat) (f : GooseFilter → GooseFilter) : (s.setGoose n f).cells = s.cells := rfl
@[simp] theorem State.setGoose_arms (s : State) (n : Nat) (f : GooseFilter → GooseFilter) : (s.setGoose n f).arms = s.arms := rfl
@[simp] theorem State.setGoose_image (s : State) (n : Nat) (f : GooseFilter → GooseFilter) : (s.setGoose n f).image = s.image := rfl
@[simp] theorem State.setGoose_c0 (s : State) (n : Nat) (f : GooseFilter → GooseFilter) : (s.setGoose n f).c0 = s.c0 := rfl
@[simp] theorem State.setGoose_lp (s : State) (n : Nat) (f : GooseFilter → GooseFilter) : (s.setGoose n f).lp = s.lp := rfl
@[simp] theorem State.setGoose_adc (s : State) (n : Nat) (f : GooseFilter → GooseFilter) : (s.setGoose n f).adc = s.adc := rfl
@[simp] theorem State.setGoose_slices (s : State) (n : Nat) (f : GooseFilter → GooseFilter) : (s.setGoose n f).slices = s.slices := rfl
@[simp] theorem State.setGoose_sysCal (s : State) (n : Nat) (f : GooseFilter → GooseFilter) : (s.setGoose n f).sysCal = s.sysCal := rfl
@[simp] theorem State.setGoose_tgDue (s : State) (n : Nat) (f : GooseFilter → GooseFilter) : (s.setGoose n f).tgDue = s.tgDue := rfl
@[simp] theorem State.setGoose_setNow (s : State) (n : Nat) (f : GooseFilter → GooseFilter) : (s.setGoose n f).setNow = s.setNow := rfl
@[simp] theorem State.setGoose_setSnap (s : State) (n : Nat) (f : GooseFilter → GooseFilter) : (s.setGoose n f).setSnap = s.setSnap := rfl
@[simp] theorem State.setGoose_stp (s : State) (n : Nat) (f : GooseFilter → GooseFilter) : (s.setGoose n f).stp = s.stp := rfl
@[simp] theorem State.setGoose_ports (s : State) (n : Nat) (f : GooseFilter → GooseFilter) : (s.setGoose n f).ports = s.ports := rfl
@[simp] theorem State.setGoose_subs (s : State) (n : Nat) (f : GooseFilter → GooseFilter) : (s.setGoose n f).subs = s.subs := rfl
@[simp] theorem State.setGoose_time (s : State) (n : Nat) (f : GooseFilter → GooseFilter) : (s.setGoose n f).time = s.time := rfl
@[simp] theorem State.setGoose_recs (s : State) (n : Nat) (f : GooseFilter → GooseFilter) : (s.setGoose n f).recs = s.recs := rfl
@[simp] theorem State.setGoose_captures (s : State) (n : Nat) (f : GooseFilter → GooseFilter) : (s.setGoose n f).captures = s.captures := rfl
@[simp] theorem State.setGoose_saf (s : State) (n : Nat) (f : GooseFilter → GooseFilter) : (s.setGoose n f).saf = s.saf := rfl
@[simp] theorem State.setGoose_sch (s : State) (n : Nat) (f : GooseFilter → GooseFilter) : (s.setGoose n f).sch = s.sch := rfl
@[simp] theorem State.setGoose_irqCores (s : State) (n : Nat) (f : GooseFilter → GooseFilter) : (s.setGoose n f).irqCores = s.irqCores := rfl
@[simp] theorem State.setGoose_irqRates (s : State) (n : Nat) (f : GooseFilter → GooseFilter) : (s.setGoose n f).irqRates = s.irqRates := rfl
@[simp] theorem State.setGoose_coreFault (s : State) (n : Nat) (f : GooseFilter → GooseFilter) : (s.setGoose n f).coreFault = s.coreFault := rfl
@[simp] theorem State.setGoose_mem (s : State) (n : Nat) (f : GooseFilter → GooseFilter) : (s.setGoose n f).mem = s.mem := rfl
@[simp] theorem State.setGoose_coreMem (s : State) (n : Nat) (f : GooseFilter → GooseFilter) : (s.setGoose n f).coreMem = s.coreMem := rfl
@[simp] theorem State.setGoose_dramKey (s : State) (n : Nat) (f : GooseFilter → GooseFilter) : (s.setGoose n f).dramKey = s.dramKey := rfl
@[simp] theorem State.setGoose_freeCtr (s : State) (n : Nat) (f : GooseFilter → GooseFilter) : (s.setGoose n f).freeCtr = s.freeCtr := rfl
@[simp] theorem State.setGoose_halted (s : State) (n : Nat) (f : GooseFilter → GooseFilter) : (s.setGoose n f).halted = s.halted := rfl
@[simp] theorem State.setGoose_pending (s : State) (n : Nat) (f : GooseFilter → GooseFilter) : (s.setGoose n f).pending = s.pending := rfl
@[simp] theorem State.setGoose_rd (s : State) (n : Nat) (f : GooseFilter → GooseFilter) (g : Field) : (s.setGoose n f).rd g = s.rd g := rfl
@[simp] theorem State.setGoose_flag (s : State) (n : Nat) (f : GooseFilter → GooseFilter) (g : Field) : (s.setGoose n f).flag g = s.flag g := rfl
@[simp] theorem State.setGoose_gooseOf_self (s : State) (n : Nat) (f : GooseFilter → GooseFilter) : (s.setGoose n f).gooseOf n = f (s.gooseOf n) := FMap.get_modify_self _ _ _ _
theorem State.setGoose_gooseOf_ne (s : State) (n : Nat) (f : GooseFilter → GooseFilter) {i : Nat} (h : i ≠ n) : (s.setGoose n f).gooseOf i = s.gooseOf i := FMap.get_modify_ne _ _ _ h

/-! ### setBase -/

@[simp] theorem State.setBase_regs (s : State) (n : Nat) (b : TimeBase) : (s.setBase n b).regs = s.regs := rfl
@[simp] theorem State.setBase_force (s : State) (n : Nat) (b : TimeBase) : (s.setBase n b).force = s.force := rfl
@[simp] theorem State.setBase_rst (s : State) (n : Nat) (b : TimeBase) : (s.setBase n b).rst = s.rst := rfl
@[simp] theorem State.setBase_flash (s : State) (n : Nat) (b : TimeBase) : (s.setBase n b).flash = s.flash := rfl
@[simp] theorem State.setBase_staging (s : State) (n : Nat) (b : TimeBase) : (s.setBase n b).staging = s.staging := rfl
@[simp] theorem State.setBase_feeds (s : State) (n : Nat) (b : TimeBase) : (s.setBase n b).feeds = s.feeds := rfl
@[simp] theorem State.setBase_fuses (s : State) (n : Nat) (b : TimeBase) : (s.setBase n b).fuses = s.fuses := rfl
@[simp] theorem State.setBase_keyLc (s : State) (n : Nat) (b : TimeBase) : (s.setBase n b).keyLc = s.keyLc := rfl
@[simp] theorem State.setBase_bankKey (s : State) (n : Nat) (b : TimeBase) : (s.setBase n b).bankKey = s.bankKey := rfl
@[simp] theorem State.setBase_sec (s : State) (n : Nat) (b : TimeBase) : (s.setBase n b).sec = s.sec := rfl
@[simp] theorem State.setBase_host (s : State) (n : Nat) (b : TimeBase) : (s.setBase n b).host = s.host := rfl
@[simp] theorem State.setBase_hostMem (s : State) (n : Nat) (b : TimeBase) : (s.setBase n b).hostMem = s.hostMem := rfl
@[simp] theorem State.setBase_tnd (s : State) (n : Nat) (b : TimeBase) : (s.setBase n b).tnd = s.tnd := rfl
@[simp] theorem State.setBase_hist (s : State) (n : Nat) (b : TimeBase) : (s.setBase n b).hist = s.hist := rfl
@[simp] theorem State.setBase_log (s : State) (n : Nat) (b : TimeBase) : (s.setBase n b).log = s.log := rfl
@[simp] theorem State.setBase_cad (s : State) (n : Nat) (b : TimeBase) : (s.setBase n b).cad = s.cad := rfl
@[simp] theorem State.setBase_fans (s : State) (n : Nat) (b : TimeBase) : (s.setBase n b).fans = s.fans := rfl
@[simp] theorem State.setBase_dramShed (s : State) (n : Nat) (b : TimeBase) : (s.setBase n b).dramShed = s.dramShed := rfl
@[simp] theorem State.setBase_qos (s : State) (n : Nat) (b : TimeBase) : (s.setBase n b).qos = s.qos := rfl
@[simp] theorem State.setBase_seqr (s : State) (n : Nat) (b : TimeBase) : (s.setBase n b).seqr = s.seqr := rfl
@[simp] theorem State.setBase_eq (s : State) (n : Nat) (b : TimeBase) : (s.setBase n b).eq = s.eq := rfl
@[simp] theorem State.setBase_engines (s : State) (n : Nat) (b : TimeBase) : (s.setBase n b).engines = s.engines := rfl
@[simp] theorem State.setBase_spokes (s : State) (n : Nat) (b : TimeBase) : (s.setBase n b).spokes = s.spokes := rfl
@[simp] theorem State.setBase_cells (s : State) (n : Nat) (b : TimeBase) : (s.setBase n b).cells = s.cells := rfl
@[simp] theorem State.setBase_arms (s : State) (n : Nat) (b : TimeBase) : (s.setBase n b).arms = s.arms := rfl
@[simp] theorem State.setBase_image (s : State) (n : Nat) (b : TimeBase) : (s.setBase n b).image = s.image := rfl
@[simp] theorem State.setBase_c0 (s : State) (n : Nat) (b : TimeBase) : (s.setBase n b).c0 = s.c0 := rfl
@[simp] theorem State.setBase_lp (s : State) (n : Nat) (b : TimeBase) : (s.setBase n b).lp = s.lp := rfl
@[simp] theorem State.setBase_adc (s : State) (n : Nat) (b : TimeBase) : (s.setBase n b).adc = s.adc := rfl
@[simp] theorem State.setBase_slices (s : State) (n : Nat) (b : TimeBase) : (s.setBase n b).slices = s.slices := rfl
@[simp] theorem State.setBase_sysCal (s : State) (n : Nat) (b : TimeBase) : (s.setBase n b).sysCal = s.sysCal := rfl
@[simp] theorem State.setBase_tgDue (s : State) (n : Nat) (b : TimeBase) : (s.setBase n b).tgDue = s.tgDue := rfl
@[simp] theorem State.setBase_setNow (s : State) (n : Nat) (b : TimeBase) : (s.setBase n b).setNow = s.setNow := rfl
@[simp] theorem State.setBase_setSnap (s : State) (n : Nat) (b : TimeBase) : (s.setBase n b).setSnap = s.setSnap := rfl
@[simp] theorem State.setBase_stp (s : State) (n : Nat) (b : TimeBase) : (s.setBase n b).stp = s.stp := rfl
@[simp] theorem State.setBase_ports (s : State) (n : Nat) (b : TimeBase) : (s.setBase n b).ports = s.ports := rfl
@[simp] theorem State.setBase_subs (s : State) (n : Nat) (b : TimeBase) : (s.setBase n b).subs = s.subs := rfl
@[simp] theorem State.setBase_goose (s : State) (n : Nat) (b : TimeBase) : (s.setBase n b).goose = s.goose := rfl
@[simp] theorem State.setBase_time (s : State) (n : Nat) (b : TimeBase) : (s.setBase n b).time = s.time := rfl
@[simp] theorem State.setBase_recs (s : State) (n : Nat) (b : TimeBase) : (s.setBase n b).recs = s.recs := rfl
@[simp] theorem State.setBase_captures (s : State) (n : Nat) (b : TimeBase) : (s.setBase n b).captures = s.captures := rfl
@[simp] theorem State.setBase_saf (s : State) (n : Nat) (b : TimeBase) : (s.setBase n b).saf = s.saf := rfl
@[simp] theorem State.setBase_sch (s : State) (n : Nat) (b : TimeBase) : (s.setBase n b).sch = s.sch := rfl
@[simp] theorem State.setBase_irqCores (s : State) (n : Nat) (b : TimeBase) : (s.setBase n b).irqCores = s.irqCores := rfl
@[simp] theorem State.setBase_irqRates (s : State) (n : Nat) (b : TimeBase) : (s.setBase n b).irqRates = s.irqRates := rfl
@[simp] theorem State.setBase_coreFault (s : State) (n : Nat) (b : TimeBase) : (s.setBase n b).coreFault = s.coreFault := rfl
@[simp] theorem State.setBase_mem (s : State) (n : Nat) (b : TimeBase) : (s.setBase n b).mem = s.mem := rfl
@[simp] theorem State.setBase_coreMem (s : State) (n : Nat) (b : TimeBase) : (s.setBase n b).coreMem = s.coreMem := rfl
@[simp] theorem State.setBase_dramKey (s : State) (n : Nat) (b : TimeBase) : (s.setBase n b).dramKey = s.dramKey := rfl
@[simp] theorem State.setBase_freeCtr (s : State) (n : Nat) (b : TimeBase) : (s.setBase n b).freeCtr = s.freeCtr := rfl
@[simp] theorem State.setBase_halted (s : State) (n : Nat) (b : TimeBase) : (s.setBase n b).halted = s.halted := rfl
@[simp] theorem State.setBase_pending (s : State) (n : Nat) (b : TimeBase) : (s.setBase n b).pending = s.pending := rfl
@[simp] theorem State.setBase_rd (s : State) (n : Nat) (b : TimeBase) (g : Field) : (s.setBase n b).rd g = s.rd g := rfl
@[simp] theorem State.setBase_flag (s : State) (n : Nat) (b : TimeBase) (g : Field) : (s.setBase n b).flag g = s.flag g := rfl

/-! ### accessFault -/

@[simp] theorem State.accessFault_regs (s : State) (u : Core) (addr : Nat) : (s.accessFault u addr).regs = s.regs := rfl
@[simp] theorem State.accessFault_force (s : State) (u : Core) (addr : Nat) : (s.accessFault u addr).force = s.force := rfl
@[simp] theorem State.accessFault_rst (s : State) (u : Core) (addr : Nat) : (s.accessFault u addr).rst = s.rst := rfl
@[simp] theorem State.accessFault_flash (s : State) (u : Core) (addr : Nat) : (s.accessFault u addr).flash = s.flash := rfl
@[simp] theorem State.accessFault_staging (s : State) (u : Core) (addr : Nat) : (s.accessFault u addr).staging = s.staging := rfl
@[simp] theorem State.accessFault_feeds (s : State) (u : Core) (addr : Nat) : (s.accessFault u addr).feeds = s.feeds := rfl
@[simp] theorem State.accessFault_fuses (s : State) (u : Core) (addr : Nat) : (s.accessFault u addr).fuses = s.fuses := rfl
@[simp] theorem State.accessFault_keyLc (s : State) (u : Core) (addr : Nat) : (s.accessFault u addr).keyLc = s.keyLc := rfl
@[simp] theorem State.accessFault_bankKey (s : State) (u : Core) (addr : Nat) : (s.accessFault u addr).bankKey = s.bankKey := rfl
@[simp] theorem State.accessFault_sec (s : State) (u : Core) (addr : Nat) : (s.accessFault u addr).sec = s.sec := rfl
@[simp] theorem State.accessFault_host (s : State) (u : Core) (addr : Nat) : (s.accessFault u addr).host = s.host := rfl
@[simp] theorem State.accessFault_hostMem (s : State) (u : Core) (addr : Nat) : (s.accessFault u addr).hostMem = s.hostMem := rfl
@[simp] theorem State.accessFault_tnd (s : State) (u : Core) (addr : Nat) : (s.accessFault u addr).tnd = s.tnd := rfl
@[simp] theorem State.accessFault_hist (s : State) (u : Core) (addr : Nat) : (s.accessFault u addr).hist = s.hist := rfl
@[simp] theorem State.accessFault_log (s : State) (u : Core) (addr : Nat) : (s.accessFault u addr).log = s.log := rfl
@[simp] theorem State.accessFault_tb (s : State) (u : Core) (addr : Nat) : (s.accessFault u addr).tb = s.tb := rfl
@[simp] theorem State.accessFault_cad (s : State) (u : Core) (addr : Nat) : (s.accessFault u addr).cad = s.cad := rfl
@[simp] theorem State.accessFault_fans (s : State) (u : Core) (addr : Nat) : (s.accessFault u addr).fans = s.fans := rfl
@[simp] theorem State.accessFault_dramShed (s : State) (u : Core) (addr : Nat) : (s.accessFault u addr).dramShed = s.dramShed := rfl
@[simp] theorem State.accessFault_qos (s : State) (u : Core) (addr : Nat) : (s.accessFault u addr).qos = s.qos := rfl
@[simp] theorem State.accessFault_seqr (s : State) (u : Core) (addr : Nat) : (s.accessFault u addr).seqr = s.seqr := rfl
@[simp] theorem State.accessFault_eq (s : State) (u : Core) (addr : Nat) : (s.accessFault u addr).eq = s.eq := rfl
@[simp] theorem State.accessFault_engines (s : State) (u : Core) (addr : Nat) : (s.accessFault u addr).engines = s.engines := rfl
@[simp] theorem State.accessFault_spokes (s : State) (u : Core) (addr : Nat) : (s.accessFault u addr).spokes = s.spokes := rfl
@[simp] theorem State.accessFault_cells (s : State) (u : Core) (addr : Nat) : (s.accessFault u addr).cells = s.cells := rfl
@[simp] theorem State.accessFault_arms (s : State) (u : Core) (addr : Nat) : (s.accessFault u addr).arms = s.arms := rfl
@[simp] theorem State.accessFault_image (s : State) (u : Core) (addr : Nat) : (s.accessFault u addr).image = s.image := rfl
@[simp] theorem State.accessFault_c0 (s : State) (u : Core) (addr : Nat) : (s.accessFault u addr).c0 = s.c0 := rfl
@[simp] theorem State.accessFault_lp (s : State) (u : Core) (addr : Nat) : (s.accessFault u addr).lp = s.lp := rfl
@[simp] theorem State.accessFault_adc (s : State) (u : Core) (addr : Nat) : (s.accessFault u addr).adc = s.adc := rfl
@[simp] theorem State.accessFault_slices (s : State) (u : Core) (addr : Nat) : (s.accessFault u addr).slices = s.slices := rfl
@[simp] theorem State.accessFault_sysCal (s : State) (u : Core) (addr : Nat) : (s.accessFault u addr).sysCal = s.sysCal := rfl
@[simp] theorem State.accessFault_tgDue (s : State) (u : Core) (addr : Nat) : (s.accessFault u addr).tgDue = s.tgDue := rfl
@[simp] theorem State.accessFault_setNow (s : State) (u : Core) (addr : Nat) : (s.accessFault u addr).setNow = s.setNow := rfl
@[simp] theorem State.accessFault_setSnap (s : State) (u : Core) (addr : Nat) : (s.accessFault u addr).setSnap = s.setSnap := rfl
@[simp] theorem State.accessFault_stp (s : State) (u : Core) (addr : Nat) : (s.accessFault u addr).stp = s.stp := rfl
@[simp] theorem State.accessFault_ports (s : State) (u : Core) (addr : Nat) : (s.accessFault u addr).ports = s.ports := rfl
@[simp] theorem State.accessFault_subs (s : State) (u : Core) (addr : Nat) : (s.accessFault u addr).subs = s.subs := rfl
@[simp] theorem State.accessFault_goose (s : State) (u : Core) (addr : Nat) : (s.accessFault u addr).goose = s.goose := rfl
@[simp] theorem State.accessFault_time (s : State) (u : Core) (addr : Nat) : (s.accessFault u addr).time = s.time := rfl
@[simp] theorem State.accessFault_recs (s : State) (u : Core) (addr : Nat) : (s.accessFault u addr).recs = s.recs := rfl
@[simp] theorem State.accessFault_captures (s : State) (u : Core) (addr : Nat) : (s.accessFault u addr).captures = s.captures := rfl
@[simp] theorem State.accessFault_saf (s : State) (u : Core) (addr : Nat) : (s.accessFault u addr).saf = s.saf := rfl
@[simp] theorem State.accessFault_sch (s : State) (u : Core) (addr : Nat) : (s.accessFault u addr).sch = s.sch := rfl
@[simp] theorem State.accessFault_irqCores (s : State) (u : Core) (addr : Nat) : (s.accessFault u addr).irqCores = s.irqCores := rfl
@[simp] theorem State.accessFault_irqRates (s : State) (u : Core) (addr : Nat) : (s.accessFault u addr).irqRates = s.irqRates := rfl
@[simp] theorem State.accessFault_mem (s : State) (u : Core) (addr : Nat) : (s.accessFault u addr).mem = s.mem := rfl
@[simp] theorem State.accessFault_coreMem (s : State) (u : Core) (addr : Nat) : (s.accessFault u addr).coreMem = s.coreMem := rfl
@[simp] theorem State.accessFault_dramKey (s : State) (u : Core) (addr : Nat) : (s.accessFault u addr).dramKey = s.dramKey := rfl
@[simp] theorem State.accessFault_freeCtr (s : State) (u : Core) (addr : Nat) : (s.accessFault u addr).freeCtr = s.freeCtr := rfl
@[simp] theorem State.accessFault_halted (s : State) (u : Core) (addr : Nat) : (s.accessFault u addr).halted = s.halted := rfl
@[simp] theorem State.accessFault_pending (s : State) (u : Core) (addr : Nat) : (s.accessFault u addr).pending = s.pending := rfl
@[simp] theorem State.accessFault_rd (s : State) (u : Core) (addr : Nat) (g : Field) : (s.accessFault u addr).rd g = s.rd g := rfl
@[simp] theorem State.accessFault_flag (s : State) (u : Core) (addr : Nat) (g : Field) : (s.accessFault u addr).flag g = s.flag g := rfl

/-! ### imagePut -/

@[simp] theorem State.imagePut_regs (s : State) (c p : Nat) (v : BitVec 40) : (s.imagePut c p v).regs = s.regs := rfl
@[simp] theorem State.imagePut_force (s : State) (c p : Nat) (v : BitVec 40) : (s.imagePut c p v).force = s.force := rfl
@[simp] theorem State.imagePut_rst (s : State) (c p : Nat) (v : BitVec 40) : (s.imagePut c p v).rst = s.rst := rfl
@[simp] theorem State.imagePut_flash (s : State) (c p : Nat) (v : BitVec 40) : (s.imagePut c p v).flash = s.flash := rfl
@[simp] theorem State.imagePut_staging (s : State) (c p : Nat) (v : BitVec 40) : (s.imagePut c p v).staging = s.staging := rfl
@[simp] theorem State.imagePut_feeds (s : State) (c p : Nat) (v : BitVec 40) : (s.imagePut c p v).feeds = s.feeds := rfl
@[simp] theorem State.imagePut_fuses (s : State) (c p : Nat) (v : BitVec 40) : (s.imagePut c p v).fuses = s.fuses := rfl
@[simp] theorem State.imagePut_keyLc (s : State) (c p : Nat) (v : BitVec 40) : (s.imagePut c p v).keyLc = s.keyLc := rfl
@[simp] theorem State.imagePut_bankKey (s : State) (c p : Nat) (v : BitVec 40) : (s.imagePut c p v).bankKey = s.bankKey := rfl
@[simp] theorem State.imagePut_sec (s : State) (c p : Nat) (v : BitVec 40) : (s.imagePut c p v).sec = s.sec := rfl
@[simp] theorem State.imagePut_host (s : State) (c p : Nat) (v : BitVec 40) : (s.imagePut c p v).host = s.host := rfl
@[simp] theorem State.imagePut_hostMem (s : State) (c p : Nat) (v : BitVec 40) : (s.imagePut c p v).hostMem = s.hostMem := rfl
@[simp] theorem State.imagePut_tnd (s : State) (c p : Nat) (v : BitVec 40) : (s.imagePut c p v).tnd = s.tnd := rfl
@[simp] theorem State.imagePut_hist (s : State) (c p : Nat) (v : BitVec 40) : (s.imagePut c p v).hist = s.hist := rfl
@[simp] theorem State.imagePut_log (s : State) (c p : Nat) (v : BitVec 40) : (s.imagePut c p v).log = s.log := rfl
@[simp] theorem State.imagePut_tb (s : State) (c p : Nat) (v : BitVec 40) : (s.imagePut c p v).tb = s.tb := rfl
@[simp] theorem State.imagePut_cad (s : State) (c p : Nat) (v : BitVec 40) : (s.imagePut c p v).cad = s.cad := rfl
@[simp] theorem State.imagePut_fans (s : State) (c p : Nat) (v : BitVec 40) : (s.imagePut c p v).fans = s.fans := rfl
@[simp] theorem State.imagePut_dramShed (s : State) (c p : Nat) (v : BitVec 40) : (s.imagePut c p v).dramShed = s.dramShed := rfl
@[simp] theorem State.imagePut_qos (s : State) (c p : Nat) (v : BitVec 40) : (s.imagePut c p v).qos = s.qos := rfl
@[simp] theorem State.imagePut_seqr (s : State) (c p : Nat) (v : BitVec 40) : (s.imagePut c p v).seqr = s.seqr := rfl
@[simp] theorem State.imagePut_eq (s : State) (c p : Nat) (v : BitVec 40) : (s.imagePut c p v).eq = s.eq := rfl
@[simp] theorem State.imagePut_engines (s : State) (c p : Nat) (v : BitVec 40) : (s.imagePut c p v).engines = s.engines := rfl
@[simp] theorem State.imagePut_spokes (s : State) (c p : Nat) (v : BitVec 40) : (s.imagePut c p v).spokes = s.spokes := rfl
@[simp] theorem State.imagePut_cells (s : State) (c p : Nat) (v : BitVec 40) : (s.imagePut c p v).cells = s.cells := rfl
@[simp] theorem State.imagePut_arms (s : State) (c p : Nat) (v : BitVec 40) : (s.imagePut c p v).arms = s.arms := rfl
@[simp] theorem State.imagePut_c0 (s : State) (c p : Nat) (v : BitVec 40) : (s.imagePut c p v).c0 = s.c0 := rfl
@[simp] theorem State.imagePut_lp (s : State) (c p : Nat) (v : BitVec 40) : (s.imagePut c p v).lp = s.lp := rfl
@[simp] theorem State.imagePut_adc (s : State) (c p : Nat) (v : BitVec 40) : (s.imagePut c p v).adc = s.adc := rfl
@[simp] theorem State.imagePut_slices (s : State) (c p : Nat) (v : BitVec 40) : (s.imagePut c p v).slices = s.slices := rfl
@[simp] theorem State.imagePut_sysCal (s : State) (c p : Nat) (v : BitVec 40) : (s.imagePut c p v).sysCal = s.sysCal := rfl
@[simp] theorem State.imagePut_tgDue (s : State) (c p : Nat) (v : BitVec 40) : (s.imagePut c p v).tgDue = s.tgDue := rfl
@[simp] theorem State.imagePut_setNow (s : State) (c p : Nat) (v : BitVec 40) : (s.imagePut c p v).setNow = s.setNow := rfl
@[simp] theorem State.imagePut_setSnap (s : State) (c p : Nat) (v : BitVec 40) : (s.imagePut c p v).setSnap = s.setSnap := rfl
@[simp] theorem State.imagePut_stp (s : State) (c p : Nat) (v : BitVec 40) : (s.imagePut c p v).stp = s.stp := rfl
@[simp] theorem State.imagePut_ports (s : State) (c p : Nat) (v : BitVec 40) : (s.imagePut c p v).ports = s.ports := rfl
@[simp] theorem State.imagePut_subs (s : State) (c p : Nat) (v : BitVec 40) : (s.imagePut c p v).subs = s.subs := rfl
@[simp] theorem State.imagePut_goose (s : State) (c p : Nat) (v : BitVec 40) : (s.imagePut c p v).goose = s.goose := rfl
@[simp] theorem State.imagePut_time (s : State) (c p : Nat) (v : BitVec 40) : (s.imagePut c p v).time = s.time := rfl
@[simp] theorem State.imagePut_recs (s : State) (c p : Nat) (v : BitVec 40) : (s.imagePut c p v).recs = s.recs := rfl
@[simp] theorem State.imagePut_captures (s : State) (c p : Nat) (v : BitVec 40) : (s.imagePut c p v).captures = s.captures := rfl
@[simp] theorem State.imagePut_saf (s : State) (c p : Nat) (v : BitVec 40) : (s.imagePut c p v).saf = s.saf := rfl
@[simp] theorem State.imagePut_sch (s : State) (c p : Nat) (v : BitVec 40) : (s.imagePut c p v).sch = s.sch := rfl
@[simp] theorem State.imagePut_irqCores (s : State) (c p : Nat) (v : BitVec 40) : (s.imagePut c p v).irqCores = s.irqCores := rfl
@[simp] theorem State.imagePut_irqRates (s : State) (c p : Nat) (v : BitVec 40) : (s.imagePut c p v).irqRates = s.irqRates := rfl
@[simp] theorem State.imagePut_coreFault (s : State) (c p : Nat) (v : BitVec 40) : (s.imagePut c p v).coreFault = s.coreFault := rfl
@[simp] theorem State.imagePut_mem (s : State) (c p : Nat) (v : BitVec 40) : (s.imagePut c p v).mem = s.mem := rfl
@[simp] theorem State.imagePut_coreMem (s : State) (c p : Nat) (v : BitVec 40) : (s.imagePut c p v).coreMem = s.coreMem := rfl
@[simp] theorem State.imagePut_dramKey (s : State) (c p : Nat) (v : BitVec 40) : (s.imagePut c p v).dramKey = s.dramKey := rfl
@[simp] theorem State.imagePut_freeCtr (s : State) (c p : Nat) (v : BitVec 40) : (s.imagePut c p v).freeCtr = s.freeCtr := rfl
@[simp] theorem State.imagePut_halted (s : State) (c p : Nat) (v : BitVec 40) : (s.imagePut c p v).halted = s.halted := rfl
@[simp] theorem State.imagePut_pending (s : State) (c p : Nat) (v : BitVec 40) : (s.imagePut c p v).pending = s.pending := rfl
@[simp] theorem State.imagePut_rd (s : State) (c p : Nat) (v : BitVec 40) (g : Field) : (s.imagePut c p v).rd g = s.rd g := rfl
@[simp] theorem State.imagePut_flag (s : State) (c p : Nat) (v : BitVec 40) (g : Field) : (s.imagePut c p v).flag g = s.flag g := rfl

@[simp] theorem State.wr_spoke (s : State) (f : Field) (v n : Nat) : (s.wr f v).spoke n = s.spoke n := rfl
@[simp] theorem State.wr_cell (s : State) (f : Field) (v n : Nat) : (s.wr f v).cell n = s.cell n := rfl
@[simp] theorem State.wr_arm (s : State) (f : Field) (v n : Nat) : (s.wr f v).arm n = s.arm n := rfl
@[simp] theorem State.wr_flashOf (s : State) (f : Field) (v n : Nat) : (s.wr f v).flashOf n = s.flashOf n := rfl
@[simp] theorem State.wr_eng (s : State) (f : Field) (v n : Nat) : (s.wr f v).eng n = s.eng n := rfl
@[simp] theorem State.wr_fn (s : State) (f : Field) (v n : Nat) : (s.wr f v).fn n = s.fn n := rfl

/-- A state is its parts: the form in which an equation of states splits into one per part. -/
theorem State.eta (s : State) : s = ⟨s.regs, s.force, s.rst, s.flash, s.staging, s.feeds, s.fuses, s.keyLc, s.bankKey, s.sec, s.host, s.hostMem, s.tnd, s.hist, s.log, s.tb, s.cad, s.fans, s.dramShed, s.qos, s.seqr, s.eq, s.engines, s.spokes, s.cells, s.arms, s.image, s.c0, s.lp, s.adc, s.slices, s.sysCal, s.tgDue, s.setNow, s.setSnap, s.stp, s.ports, s.subs, s.goose, s.time, s.recs, s.captures, s.saf, s.sch, s.irqCores, s.irqRates, s.coreFault, s.mem, s.coreMem, s.dramKey, s.freeCtr, s.halted, s.pending⟩ := rfl

end Sys2Proof.Machine
end

