-- ==== Sys2Proof/Laws/Ops.lean ====
section
/-! SUPPORT. What each shared operation of Machine/Ops.lean can do, said once: writes of several fields, counters, events with
their history and log entries, access faults, and the rights of R23. -/

namespace Sys2Proof.Machine

/-! ### Writes of several fields -/

/-- The value a list of writes leaves in field `g`: the last one that names its key, cut to that field's width. -/
def lastWrite (g : Field) : List (Field × Nat) → Nat → Nat
  | [], v => v
  | p :: t, v => lastWrite g t (if g.key = p.1.key then p.2 % 2 ^ g.width else v)

/-- A list of writes changes the register file and nothing else. -/
theorem State.wrs_eq (l : List (Field × Nat)) : ∀ s : State, s.wrs l = { s with regs := (s.wrs l).regs } := by
  induction l with
  | nil => intro s; rfl
  | cons p t ih => intro s; rw [State.wrs, ih]; rfl

theorem State.rd_wrs_ne (l : List (Field × Nat)) (g : Field) : ∀ s : State, (∀ p ∈ l, g.key ≠ p.1.key) → (s.wrs l).rd g = s.rd g := by
  induction l with
  | nil => intro s _; rfl
  | cons p t ih =>
    intro s h
    rw [State.wrs, ih _ (fun q hq => h q (by simp [hq])), State.rd_wr_ne s _ (h p (by simp))]

@[simp] theorem State.wrs_nil (s : State) : s.wrs [] = s := rfl
@[simp] theorem State.wrs_cons (s : State) (p : Field × Nat) (t : List (Field × Nat)) : s.wrs (p :: t) = (s.wr p.1 p.2).wrs t := rfl

/-! ### Counters and bits -/

theorem State.rd_bump_self (s : State) (f : Field) (n : Nat) : (s.bump f n).rd f = min (s.rd f + n) (2 ^ f.width - 1) := by
  have h : 0 < 2 ^ f.width := Nat.two_pow_pos _
  rw [State.bump, State.rd_wr_self, Nat.mod_eq_of_lt (by omega)]

theorem State.rd_bump_ne (s : State) {f g : Field} (n : Nat) (h : g.key ≠ f.key) : (s.bump f n).rd g = s.rd g := State.rd_wr_ne s _ h

theorem State.rd_bumpWrap_self (s : State) (f : Field) (n : Nat) : (s.bumpWrap f n).rd f = (s.rd f + n) % 2 ^ f.width := by
  rw [State.bumpWrap, State.rd_wr_self]

theorem State.rd_bumpWrap_ne (s : State) {f g : Field} (n : Nat) (h : g.key ≠ f.key) : (s.bumpWrap f n).rd g = s.rd g :=
  State.rd_wr_ne s _ h

theorem State.rd_wrBit_ne (s : State) {f g : Field} (i : Nat) (b : Bool) (h : g.key ≠ f.key) : (s.wrBit f i b).rd g = s.rd g :=
  State.rd_wr_ne s _ h

theorem State.rd_wrB_self (s : State) (f : Field) (b : Bool) (h : 0 < f.width) : (s.wrB f b).rd f = if b then 1 else 0 := by
  have h2 : 1 < 2 ^ f.width := Nat.one_lt_two_pow (by omega)
  unfold State.wrB
  rw [State.rd_wr_self]
  split <;> rw [Nat.mod_eq_of_lt] <;> omega

theorem State.rd_wrB_ne (s : State) {f g : Field} (b : Bool) (h : g.key ≠ f.key) : (s.wrB f b).rd g = s.rd g := State.rd_wr_ne s _ h

/-! ### Events (R520 to R524) -/

/-- The registers of the module log's sequence number and the flag of its wrap: the register fields an event may change beside
its own flag. -/
def eventFields : List Field := [Fld.HKP_LOG_SEQ_LO_SEQ, Fld.HKP_LOG_SEQ_HI_SEQ, Fld.HKP_SVC_EVT_LOG_WRAP]

/-- `t` is `s` but for registers, history and log. -/
def State.SameButLogged (s t : State) : Prop := t = { s with regs := t.regs, hist := t.hist, log := t.log }

theorem State.SameButLogged.refl (s : State) : State.SameButLogged s s := rfl

theorem State.SameButLogged.trans {s t u : State} (h : State.SameButLogged s t) (k : State.SameButLogged t u) :
    State.SameButLogged s u := by
  unfold State.SameButLogged at *
  rw [k, h]

theorem State.SameButLogged.wr (s : State) (f : Field) (v : Nat) : State.SameButLogged s (s.wr f v) := rfl

theorem State.SameButLogged.log (s : State) (l : FMap LogRec) : State.SameButLogged s { s with log := l } := rfl

theorem State.SameButLogged.hist (s : State) (h : FMap History) : State.SameButLogged s { s with hist := h } := rfl

theorem State.logPut_eq (s : State) (k p b u : Nat) (w : BitVec 128) : State.SameButLogged s (s.logPut k p b u w) :=
  ((State.SameButLogged.log s _).trans (State.SameButLogged.wr _ _ _)).trans (State.SameButLogged.wr _ _ _)

theorem State.raiseCore_eq (s : State) (f : Field) (d : Nat) : State.SameButLogged s (s.raiseCore f d) := by
  unfold State.raiseCore
  dsimp only
  have h := (State.SameButLogged.wr s f 1).trans
    (State.SameButLogged.hist (s.wr f 1) (FMap.set History.reset s.hist (unitOf f) ((s.history (unitOf f)).push (s.histEntry f d) (s.base 3).count).1))
  split
  · exact h.trans (State.logPut_eq _ _ _ _ _ _)
  · exact h

/-- An event changes registers, its history queue and the module log, and nothing else. -/
theorem State.raise_sameButLogged (s : State) (f : Field) (d : Nat) : State.SameButLogged s (s.raise f d) := by
  unfold State.raise
  dsimp only
  split
  · exact (State.raiseCore_eq s f d).trans (State.raiseCore_eq _ _ _)
  · exact State.raiseCore_eq s f d

theorem State.rd_log (s : State) (l : FMap LogRec) (g : Field) : ({ s with log := l } : State).rd g = s.rd g := rfl

theorem State.rd_logPut_ne (s : State) (k p b u : Nat) (w : BitVec 128) (g : Field)
    (h : ∀ x ∈ eventFields, g.key ≠ x.key) : (s.logPut k p b u w).rd g = s.rd g := by
  have h1 : g.key ≠ Fld.HKP_LOG_SEQ_LO_SEQ.key := h _ (by simp [eventFields])
  have h2 : g.key ≠ Fld.HKP_LOG_SEQ_HI_SEQ.key := h _ (by simp [eventFields])
  exact ((State.rd_wr_ne _ _ h2).trans (State.rd_wr_ne _ _ h1)).trans (State.rd_log s _ g)

theorem State.rd_raiseCore_ne (s : State) (f : Field) (d : Nat) (g : Field) (hf : g.key ≠ f.key)
    (h : ∀ x ∈ eventFields, g.key ≠ x.key) : (s.raiseCore f d).rd g = s.rd g := by
  unfold State.raiseCore
  dsimp only
  split
  · rw [State.rd_logPut_ne _ _ _ _ _ _ g h]
    exact State.rd_wr_ne s 1 hf
  · exact State.rd_wr_ne s 1 hf

/-- A register field other than the flag and the fields of the log reads as before. -/
theorem State.rd_raise_ne (s : State) (f : Field) (d : Nat) (g : Field) (hf : g.key ≠ f.key)
    (h : ∀ x ∈ eventFields, g.key ≠ x.key) : (s.raise f d).rd g = s.rd g := by
  unfold State.raise
  dsimp only
  split
  · rw [State.rd_raiseCore_ne _ _ _ g (h _ (by simp [eventFields])) h, State.rd_raiseCore_ne s f d g hf h]
  · exact State.rd_raiseCore_ne s f d g hf h

theorem State.rd_raiseCore_self (s : State) (f : Field) (d : Nat) (hw : f.width = 1) (h : ∀ x ∈ eventFields, f.key ≠ x.key) :
    (s.raiseCore f d).rd f = 1 := by
  unfold State.raiseCore
  dsimp only
  have h1 : (s.wr f 1).rd f = 1 := by rw [State.rd_wr_self, hw]; rfl
  split
  · rw [State.rd_logPut_ne _ _ _ _ _ _ f h]
    exact h1
  · exact h1

/-- The flag of an event is set. -/
theorem State.rd_raise_self (s : State) (f : Field) (d : Nat) (hw : f.width = 1) (h : ∀ x ∈ eventFields, f.key ≠ x.key) :
    (s.raise f d).rd f = 1 := by
  unfold State.raise
  dsimp only
  split
  · rw [State.rd_raiseCore_ne _ _ _ f (h _ (by simp [eventFields])) h]
    exact State.rd_raiseCore_self s f d hw h
  · exact State.rd_raiseCore_self s f d hw h

/-! ### Rights (R21, R23) -/

theorem State.asWriter_of (s : State) {u : Core} {b : Nat} (k : State → State) (h : mayWrite u b = true) : s.asWriter u b k = k s := by
  simp [State.asWriter, h]

theorem State.asWriter_not (s : State) {u : Core} {b : Nat} (k : State → State) (h : mayWrite u b = false) :
    s.asWriter u b k = s.accessFault u (0x8000000 + b * 0x100000) := by simp [State.asWriter, h]

/-! ### Free values -/

@[simp] theorem State.freeBit_fst (s : State) : s.freeBit.1 = Config.freeBit s.freeCtr := rfl
@[simp] theorem State.freeNat_fst (s : State) : s.freeNat.1 = Config.freeNat s.freeCtr := rfl
@[simp] theorem State.freeWord_fst (s : State) : s.freeWord.1 = Config.freeW40 s.freeCtr := rfl

end Sys2Proof.Machine
end

