-- ==== Sys2Proof/Laws/Access.lean ====
section
/-! SUPPORT. What an event and the updates of one part leave of the other parts, read through their accessors. -/

namespace Sys2Proof.Machine

/-! ### Events -/

theorem State.raise_parts (s : State) (f : Field) (d : Nat) :
    s.raise f d = { s with regs := (s.raise f d).regs, hist := (s.raise f d).hist, log := (s.raise f d).log } := State.raise_sameButLogged s f d

@[simp] theorem State.raise_force (s : State) (f : Field) (d : Nat) : (s.raise f d).force = s.force := (congrArg State.force (State.raise_parts s f d)).trans rfl
@[simp] theorem State.raise_rst (s : State) (f : Field) (d : Nat) : (s.raise f d).rst = s.rst := (congrArg State.rst (State.raise_parts s f d)).trans rfl
@[simp] theorem State.raise_flash (s : State) (f : Field) (d : Nat) : (s.raise f d).flash = s.flash := (congrArg State.flash (State.raise_parts s f d)).trans rfl
@[simp] theorem State.raise_staging (s : State) (f : Field) (d : Nat) : (s.raise f d).staging = s.staging := (congrArg State.staging (State.raise_parts s f d)).trans rfl
@[simp] theorem State.raise_feeds (s : State) (f : Field) (d : Nat) : (s.raise f d).feeds = s.feeds := (congrArg State.feeds (State.raise_parts s f d)).trans rfl
@[simp] theorem State.raise_fuses (s : State) (f : Field) (d : Nat) : (s.raise f d).fuses = s.fuses := (congrArg State.fuses (State.raise_parts s f d)).trans rfl
@[simp] theorem State.raise_keyLc (s : State) (f : Field) (d : Nat) : (s.raise f d).keyLc = s.keyLc := (congrArg State.keyLc (State.raise_parts s f d)).trans rfl
@[simp] theorem State.raise_bankKey (s : State) (f : Field) (d : Nat) : (s.raise f d).bankKey = s.bankKey := (congrArg State.bankKey (State.raise_parts s f d)).trans rfl
@[simp] theorem State.raise_sec (s : State) (f : Field) (d : Nat) : (s.raise f d).sec = s.sec := (congrArg State.sec (State.raise_parts s f d)).trans rfl
@[simp] theorem State.raise_host (s : State) (f : Field) (d : Nat) : (s.raise f d).host = s.host := (congrArg State.host (State.raise_parts s f d)).trans rfl
@[simp] theorem State.raise_hostMem (s : State) (f : Field) (d : Nat) : (s.raise f d).hostMem = s.hostMem := (congrArg State.hostMem (State.raise_parts s f d)).trans rfl
@[simp] theorem State.raise_tnd (s : State) (f : Field) (d : Nat) : (s.raise f d).tnd = s.tnd := (congrArg State.tnd (State.raise_parts s f d)).trans rfl
@[simp] theorem State.raise_tb (s : State) (f : Field) (d : Nat) : (s.raise f d).tb = s.tb := (congrArg State.tb (State.raise_parts s f d)).trans rfl
@[simp] theorem State.raise_cad (s : State) (f : Field) (d : Nat) : (s.raise f d).cad = s.cad := (congrArg State.cad (State.raise_parts s f d)).trans rfl
@[simp] theorem State.raise_fans (s : State) (f : Field) (d : Nat) : (s.raise f d).fans = s.fans := (congrArg State.fans (State.raise_parts s f d)).trans rfl
@[simp] theorem State.raise_dramShed (s : State) (f : Field) (d : Nat) : (s.raise f d).dramShed = s.dramShed := (congrArg State.dramShed (State.raise_parts s f d)).trans rfl
@[simp] theorem State.raise_qos (s : State) (f : Field) (d : Nat) : (s.raise f d).qos = s.qos := (congrArg State.qos (State.raise_parts s f d)).trans rfl
@[simp] theorem State.raise_seqr (s : State) (f : Field) (d : Nat) : (s.raise f d).seqr = s.seqr := (congrArg State.seqr (State.raise_parts s f d)).trans rfl
@[simp] theorem State.raise_eq (s : State) (f : Field) (d : Nat) : (s.raise f d).eq = s.eq := (congrArg State.eq (State.raise_parts s f d)).trans rfl
@[simp] theorem State.raise_engines (s : State) (f : Field) (d : Nat) : (s.raise f d).engines = s.engines := (congrArg State.engines (State.raise_parts s f d)).trans rfl
@[simp] theorem State.raise_spokes (s : State) (f : Field) (d : Nat) : (s.raise f d).spokes = s.spokes := (congrArg State.spokes (State.raise_parts s f d)).trans rfl
@[simp] theorem State.raise_cells (s : State) (f : Field) (d : Nat) : (s.raise f d).cells = s.cells := (congrArg State.cells (State.raise_parts s f d)).trans rfl
@[simp] theorem State.raise_arms (s : State) (f : Field) (d : Nat) : (s.raise f d).arms = s.arms := (congrArg State.arms (State.raise_parts s f d)).trans rfl
@[simp] theorem State.raise_image (s : State) (f : Field) (d : Nat) : (s.raise f d).image = s.image := (congrArg State.image (State.raise_parts s f d)).trans rfl
@[simp] theorem State.raise_c0 (s : State) (f : Field) (d : Nat) : (s.raise f d).c0 = s.c0 := (congrArg State.c0 (State.raise_parts s f d)).trans rfl
@[simp] theorem State.raise_lp (s : State) (f : Field) (d : Nat) : (s.raise f d).lp = s.lp := (congrArg State.lp (State.raise_parts s f d)).trans rfl
@[simp] theorem State.raise_adc (s : State) (f : Field) (d : Nat) : (s.raise f d).adc = s.adc := (congrArg State.adc (State.raise_parts s f d)).trans rfl
@[simp] theorem State.raise_slices (s : State) (f : Field) (d : Nat) : (s.raise f d).slices = s.slices := (congrArg State.slices (State.raise_parts s f d)).trans rfl
@[simp] theorem State.raise_sysCal (s : State) (f : Field) (d : Nat) : (s.raise f d).sysCal = s.sysCal := (congrArg State.sysCal (State.raise_parts s f d)).trans rfl
@[simp] theorem State.raise_tgDue (s : State) (f : Field) (d : Nat) : (s.raise f d).tgDue = s.tgDue := (congrArg State.tgDue (State.raise_parts s f d)).trans rfl
@[simp] theorem State.raise_setNow (s : State) (f : Field) (d : Nat) : (s.raise f d).setNow = s.setNow := (congrArg State.setNow (State.raise_parts s f d)).trans rfl
@[simp] theorem State.raise_setSnap (s : State) (f : Field) (d : Nat) : (s.raise f d).setSnap = s.setSnap := (congrArg State.setSnap (State.raise_parts s f d)).trans rfl
@[simp] theorem State.raise_stp (s : State) (f : Field) (d : Nat) : (s.raise f d).stp = s.stp := (congrArg State.stp (State.raise_parts s f d)).trans rfl
@[simp] theorem State.raise_ports (s : State) (f : Field) (d : Nat) : (s.raise f d).ports = s.ports := (congrArg State.ports (State.raise_parts s f d)).trans rfl
@[simp] theorem State.raise_subs (s : State) (f : Field) (d : Nat) : (s.raise f d).subs = s.subs := (congrArg State.subs (State.raise_parts s f d)).trans rfl
@[simp] theorem State.raise_goose (s : State) (f : Field) (d : Nat) : (s.raise f d).goose = s.goose := (congrArg State.goose (State.raise_parts s f d)).trans rfl
@[simp] theorem State.raise_time (s : State) (f : Field) (d : Nat) : (s.raise f d).time = s.time := (congrArg State.time (State.raise_parts s f d)).trans rfl
@[simp] theorem State.raise_recs (s : State) (f : Field) (d : Nat) : (s.raise f d).recs = s.recs := (congrArg State.recs (State.raise_parts s f d)).trans rfl
@[simp] theorem State.raise_captures (s : State) (f : Field) (d : Nat) : (s.raise f d).captures = s.captures := (congrArg State.captures (State.raise_parts s f d)).trans rfl
@[simp] theorem State.raise_saf (s : State) (f : Field) (d : Nat) : (s.raise f d).saf = s.saf := (congrArg State.saf (State.raise_parts s f d)).trans rfl
@[simp] theorem State.raise_sch (s : State) (f : Field) (d : Nat) : (s.raise f d).sch = s.sch := (congrArg State.sch (State.raise_parts s f d)).trans rfl
@[simp] theorem State.raise_irqCores (s : State) (f : Field) (d : Nat) : (s.raise f d).irqCores = s.irqCores := (congrArg State.irqCores (State.raise_parts s f d)).trans rfl
@[simp] theorem State.raise_irqRates (s : State) (f : Field) (d : Nat) : (s.raise f d).irqRates = s.irqRates := (congrArg State.irqRates (State.raise_parts s f d)).trans rfl
@[simp] theorem State.raise_coreFault (s : State) (f : Field) (d : Nat) : (s.raise f d).coreFault = s.coreFault := (congrArg State.coreFault (State.raise_parts s f d)).trans rfl
@[simp] theorem State.raise_mem (s : State) (f : Field) (d : Nat) : (s.raise f d).mem = s.mem := (congrArg State.mem (State.raise_parts s f d)).trans rfl
@[simp] theorem State.raise_coreMem (s : State) (f : Field) (d : Nat) : (s.raise f d).coreMem = s.coreMem := (congrArg State.coreMem (State.raise_parts s f d)).trans rfl
@[simp] theorem State.raise_dramKey (s : State) (f : Field) (d : Nat) : (s.raise f d).dramKey = s.dramKey := (congrArg State.dramKey (State.raise_parts s f d)).trans rfl
@[simp] theorem State.raise_freeCtr (s : State) (f : Field) (d : Nat) : (s.raise f d).freeCtr = s.freeCtr := (congrArg State.freeCtr (State.raise_parts s f d)).trans rfl
@[simp] theorem State.raise_halted (s : State) (f : Field) (d : Nat) : (s.raise f d).halted = s.halted := (congrArg State.halted (State.raise_parts s f d)).trans rfl
@[simp] theorem State.raise_pending (s : State) (f : Field) (d : Nat) : (s.raise f d).pending = s.pending := (congrArg State.pending (State.raise_parts s f d)).trans rfl
@[simp] theorem State.raiseIf_force (s : State) (b : Bool) (f : Field) (d : Nat) : (s.raiseIf b f d).force = s.force := by unfold State.raiseIf; split <;> simp
@[simp] theorem State.raiseIf_rst (s : State) (b : Bool) (f : Field) (d : Nat) : (s.raiseIf b f d).rst = s.rst := by unfold State.raiseIf; split <;> simp
@[simp] theorem State.raiseIf_flash (s : State) (b : Bool) (f : Field) (d : Nat) : (s.raiseIf b f d).flash = s.flash := by unfold State.raiseIf; split <;> simp
@[simp] theorem State.raiseIf_staging (s : State) (b : Bool) (f : Field) (d : Nat) : (s.raiseIf b f d).staging = s.staging := by unfold State.raiseIf; split <;> simp
@[simp] theorem State.raiseIf_feeds (s : State) (b : Bool) (f : Field) (d : Nat) : (s.raiseIf b f d).feeds = s.feeds := by unfold State.raiseIf; split <;> simp
@[simp] theorem State.raiseIf_fuses (s : State) (b : Bool) (f : Field) (d : Nat) : (s.raiseIf b f d).fuses = s.fuses := by unfold State.raiseIf; split <;> simp
@[simp] theorem State.raiseIf_keyLc (s : State) (b : Bool) (f : Field) (d : Nat) : (s.raiseIf b f d).keyLc = s.keyLc := by unfold State.raiseIf; split <;> simp
@[simp] theorem State.raiseIf_bankKey (s : State) (b : Bool) (f : Field) (d : Nat) : (s.raiseIf b f d).bankKey = s.bankKey := by unfold State.raiseIf; split <;> simp
@[simp] theorem State.raiseIf_sec (s : State) (b : Bool) (f : Field) (d : Nat) : (s.raiseIf b f d).sec = s.sec := by unfold State.raiseIf; split <;> simp
@[simp] theorem State.raiseIf_host (s : State) (b : Bool) (f : Field) (d : Nat) : (s.raiseIf b f d).host = s.host := by unfold State.raiseIf; split <;> simp
@[simp] theorem State.raiseIf_hostMem (s : State) (b : Bool) (f : Field) (d : Nat) : (s.raiseIf b f d).hostMem = s.hostMem := by unfold State.raiseIf; split <;> simp
@[simp] theorem State.raiseIf_tnd (s : State) (b : Bool) (f : Field) (d : Nat) : (s.raiseIf b f d).tnd = s.tnd := by unfold State.raiseIf; split <;> simp
@[simp] theorem State.raiseIf_tb (s : State) (b : Bool) (f : Field) (d : Nat) : (s.raiseIf b f d).tb = s.tb := by unfold State.raiseIf; split <;> simp
@[simp] theorem State.raiseIf_cad (s : State) (b : Bool) (f : Field) (d : Nat) : (s.raiseIf b f d).cad = s.cad := by unfold State.raiseIf; split <;> simp
@[simp] theorem State.raiseIf_fans (s : State) (b : Bool) (f : Field) (d : Nat) : (s.raiseIf b f d).fans = s.fans := by unfold State.raiseIf; split <;> simp
@[simp] theorem State.raiseIf_dramShed (s : State) (b : Bool) (f : Field) (d : Nat) : (s.raiseIf b f d).dramShed = s.dramShed := by unfold State.raiseIf; split <;> simp
@[simp] theorem State.raiseIf_qos (s : State) (b : Bool) (f : Field) (d : Nat) : (s.raiseIf b f d).qos = s.qos := by unfold State.raiseIf; split <;> simp
@[simp] theorem State.raiseIf_seqr (s : State) (b : Bool) (f : Field) (d : Nat) : (s.raiseIf b f d).seqr = s.seqr := by unfold State.raiseIf; split <;> simp
@[simp] theorem State.raiseIf_eq (s : State) (b : Bool) (f : Field) (d : Nat) : (s.raiseIf b f d).eq = s.eq := by unfold State.raiseIf; split <;> simp
@[simp] theorem State.raiseIf_engines (s : State) (b : Bool) (f : Field) (d : Nat) : (s.raiseIf b f d).engines = s.engines := by unfold State.raiseIf; split <;> simp
@[simp] theorem State.raiseIf_spokes (s : State) (b : Bool) (f : Field) (d : Nat) : (s.raiseIf b f d).spokes = s.spokes := by unfold State.raiseIf; split <;> simp
@[simp] theorem State.raiseIf_cells (s : State) (b : Bool) (f : Field) (d : Nat) : (s.raiseIf b f d).cells = s.cells := by unfold State.raiseIf; split <;> simp
@[simp] theorem State.raiseIf_arms (s : State) (b : Bool) (f : Field) (d : Nat) : (s.raiseIf b f d).arms = s.arms := by unfold State.raiseIf; split <;> simp
@[simp] theorem State.raiseIf_image (s : State) (b : Bool) (f : Field) (d : Nat) : (s.raiseIf b f d).image = s.image := by unfold State.raiseIf; split <;> simp
@[simp] theorem State.raiseIf_c0 (s : State) (b : Bool) (f : Field) (d : Nat) : (s.raiseIf b f d).c0 = s.c0 := by unfold State.raiseIf; split <;> simp
@[simp] theorem State.raiseIf_lp (s : State) (b : Bool) (f : Field) (d : Nat) : (s.raiseIf b f d).lp = s.lp := by unfold State.raiseIf; split <;> simp
@[simp] theorem State.raiseIf_adc (s : State) (b : Bool) (f : Field) (d : Nat) : (s.raiseIf b f d).adc = s.adc := by unfold State.raiseIf; split <;> simp
@[simp] theorem State.raiseIf_slices (s : State) (b : Bool) (f : Field) (d : Nat) : (s.raiseIf b f d).slices = s.slices := by unfold State.raiseIf; split <;> simp
@[simp] theorem State.raiseIf_sysCal (s : State) (b : Bool) (f : Field) (d : Nat) : (s.raiseIf b f d).sysCal = s.sysCal := by unfold State.raiseIf; split <;> simp
@[simp] theorem State.raiseIf_tgDue (s : State) (b : Bool) (f : Field) (d : Nat) : (s.raiseIf b f d).tgDue = s.tgDue := by unfold State.raiseIf; split <;> simp
@[simp] theorem State.raiseIf_setNow (s : State) (b : Bool) (f : Field) (d : Nat) : (s.raiseIf b f d).setNow = s.setNow := by unfold State.raiseIf; split <;> simp
@[simp] theorem State.raiseIf_setSnap (s : State) (b : Bool) (f : Field) (d : Nat) : (s.raiseIf b f d).setSnap = s.setSnap := by unfold State.raiseIf; split <;> simp
@[simp] theorem State.raiseIf_stp (s : State) (b : Bool) (f : Field) (d : Nat) : (s.raiseIf b f d).stp = s.stp := by unfold State.raiseIf; split <;> simp
@[simp] theorem State.raiseIf_ports (s : State) (b : Bool) (f : Field) (d : Nat) : (s.raiseIf b f d).ports = s.ports := by unfold State.raiseIf; split <;> simp
@[simp] theorem State.raiseIf_subs (s : State) (b : Bool) (f : Field) (d : Nat) : (s.raiseIf b f d).subs = s.subs := by unfold State.raiseIf; split <;> simp
@[simp] theorem State.raiseIf_goose (s : State) (b : Bool) (f : Field) (d : Nat) : (s.raiseIf b f d).goose = s.goose := by unfold State.raiseIf; split <;> simp
@[simp] theorem State.raiseIf_time (s : State) (b : Bool) (f : Field) (d : Nat) : (s.raiseIf b f d).time = s.time := by unfold State.raiseIf; split <;> simp
@[simp] theorem State.raiseIf_recs (s : State) (b : Bool) (f : Field) (d : Nat) : (s.raiseIf b f d).recs = s.recs := by unfold State.raiseIf; split <;> simp
@[simp] theorem State.raiseIf_captures (s : State) (b : Bool) (f : Field) (d : Nat) : (s.raiseIf b f d).captures = s.captures := by unfold State.raiseIf; split <;> simp
@[simp] theorem State.raiseIf_saf (s : State) (b : Bool) (f : Field) (d : Nat) : (s.raiseIf b f d).saf = s.saf := by unfold State.raiseIf; split <;> simp
@[simp] theorem State.raiseIf_sch (s : State) (b : Bool) (f : Field) (d : Nat) : (s.raiseIf b f d).sch = s.sch := by unfold State.raiseIf; split <;> simp
@[simp] theorem State.raiseIf_irqCores (s : State) (b : Bool) (f : Field) (d : Nat) : (s.raiseIf b f d).irqCores = s.irqCores := by unfold State.raiseIf; split <;> simp
@[simp] theorem State.raiseIf_irqRates (s : State) (b : Bool) (f : Field) (d : Nat) : (s.raiseIf b f d).irqRates = s.irqRates := by unfold State.raiseIf; split <;> simp
@[simp] theorem State.raiseIf_coreFault (s : State) (b : Bool) (f : Field) (d : Nat) : (s.raiseIf b f d).coreFault = s.coreFault := by unfold State.raiseIf; split <;> simp
@[simp] theorem State.raiseIf_mem (s : State) (b : Bool) (f : Field) (d : Nat) : (s.raiseIf b f d).mem = s.mem := by unfold State.raiseIf; split <;> simp
@[simp] theorem State.raiseIf_coreMem (s : State) (b : Bool) (f : Field) (d : Nat) : (s.raiseIf b f d).coreMem = s.coreMem := by unfold State.raiseIf; split <;> simp
@[simp] theorem State.raiseIf_dramKey (s : State) (b : Bool) (f : Field) (d : Nat) : (s.raiseIf b f d).dramKey = s.dramKey := by unfold State.raiseIf; split <;> simp
@[simp] theorem State.raiseIf_freeCtr (s : State) (b : Bool) (f : Field) (d : Nat) : (s.raiseIf b f d).freeCtr = s.freeCtr := by unfold State.raiseIf; split <;> simp
@[simp] theorem State.raiseIf_halted (s : State) (b : Bool) (f : Field) (d : Nat) : (s.raiseIf b f d).halted = s.halted := by unfold State.raiseIf; split <;> simp
@[simp] theorem State.raiseIf_pending (s : State) (b : Bool) (f : Field) (d : Nat) : (s.raiseIf b f d).pending = s.pending := by unfold State.raiseIf; split <;> simp

@[simp] theorem State.raise_spoke (s : State) (f : Field) (d n : Nat) : (s.raise f d).spoke n = s.spoke n := by unfold State.spoke; rw [State.raise_spokes]
@[simp] theorem State.raise_cell (s : State) (f : Field) (d n : Nat) : (s.raise f d).cell n = s.cell n := by unfold State.cell; rw [State.raise_cells]
@[simp] theorem State.raise_arm (s : State) (f : Field) (d n : Nat) : (s.raise f d).arm n = s.arm n := by unfold State.arm; rw [State.raise_arms]
@[simp] theorem State.raise_flashOf (s : State) (f : Field) (d n : Nat) : (s.raise f d).flashOf n = s.flashOf n := by unfold State.flashOf; rw [State.raise_flash]
@[simp] theorem State.raise_eng (s : State) (f : Field) (d n : Nat) : (s.raise f d).eng n = s.eng n := by unfold State.eng; rw [State.raise_engines]
@[simp] theorem State.raise_fn (s : State) (f : Field) (d n : Nat) : (s.raise f d).fn n = s.fn n := by unfold State.fn; rw [State.raise_host]
@[simp] theorem State.raise_chan (s : State) (f : Field) (d n : Nat) : (s.raise f d).chan n = s.chan n := by unfold State.chan; rw [State.raise_adc]
@[simp] theorem State.raise_queue (s : State) (f : Field) (d n : Nat) : (s.raise f d).queue n = s.queue n := by unfold State.queue; rw [State.raise_eq]
@[simp] theorem State.raise_lpc (s : State) (f : Field) (d n : Nat) : (s.raise f d).lpc n = s.lpc n := by unfold State.lpc; rw [State.raise_lp]
@[simp] theorem State.raise_recd (s : State) (f : Field) (d n : Nat) : (s.raise f d).recd n = s.recd n := by unfold State.recd; rw [State.raise_recs]
@[simp] theorem State.raise_port (s : State) (f : Field) (d n : Nat) : (s.raise f d).port n = s.port n := by unfold State.port; rw [State.raise_ports]
@[simp] theorem State.raise_sub (s : State) (f : Field) (d n : Nat) : (s.raise f d).sub n = s.sub n := by unfold State.sub; rw [State.raise_subs]
@[simp] theorem State.raise_gooseOf (s : State) (f : Field) (d n : Nat) : (s.raise f d).gooseOf n = s.gooseOf n := by unfold State.gooseOf; rw [State.raise_goose]
@[simp] theorem State.raise_irqCore (s : State) (f : Field) (d n : Nat) : (s.raise f d).irqCore n = s.irqCore n := by unfold State.irqCore; rw [State.raise_irqCores]
@[simp] theorem State.raise_base (s : State) (f : Field) (d n : Nat) : (s.raise f d).base n = s.base n := by unfold State.base; rw [State.raise_tb]
@[simp] theorem State.wrBit_force (s : State) (g : Field) (i : Nat) (b : Bool) : (s.wrBit g i b).force = s.force := rfl
@[simp] theorem State.wantYield_force (s : State) (c d : Bool) : (s.wantYield c d).force = s.force := rfl
@[simp] theorem State.raiseYield_force (s : State) (b : Nat) : (s.raiseYield b).force = s.force := by
  unfold State.raiseYield
  dsimp only
  split
  · split <;> simp
  · simp
@[simp] theorem State.wrBit_rst (s : State) (g : Field) (i : Nat) (b : Bool) : (s.wrBit g i b).rst = s.rst := rfl
@[simp] theorem State.wantYield_rst (s : State) (c d : Bool) : (s.wantYield c d).rst = s.rst := rfl
@[simp] theorem State.raiseYield_rst (s : State) (b : Nat) : (s.raiseYield b).rst = s.rst := by
  unfold State.raiseYield
  dsimp only
  split
  · split <;> simp
  · simp
@[simp] theorem State.wrBit_flash (s : State) (g : Field) (i : Nat) (b : Bool) : (s.wrBit g i b).flash = s.flash := rfl
@[simp] theorem State.wantYield_flash (s : State) (c d : Bool) : (s.wantYield c d).flash = s.flash := rfl
@[simp] theorem State.raiseYield_flash (s : State) (b : Nat) : (s.raiseYield b).flash = s.flash := by
  unfold State.raiseYield
  dsimp only
  split
  · split <;> simp
  · simp
@[simp] theorem State.wrBit_staging (s : State) (g : Field) (i : Nat) (b : Bool) : (s.wrBit g i b).staging = s.staging := rfl
@[simp] theorem State.wantYield_staging (s : State) (c d : Bool) : (s.wantYield c d).staging = s.staging := rfl
@[simp] theorem State.raiseYield_staging (s : State) (b : Nat) : (s.raiseYield b).staging = s.staging := by
  unfold State.raiseYield
  dsimp only
  split
  · split <;> simp
  · simp
@[simp] theorem State.wrBit_feeds (s : State) (g : Field) (i : Nat) (b : Bool) : (s.wrBit g i b).feeds = s.feeds := rfl
@[simp] theorem State.wantYield_feeds (s : State) (c d : Bool) : (s.wantYield c d).feeds = s.feeds := rfl
@[simp] theorem State.raiseYield_feeds (s : State) (b : Nat) : (s.raiseYield b).feeds = s.feeds := by
  unfold State.raiseYield
  dsimp only
  split
  · split <;> simp
  · simp
@[simp] theorem State.wrBit_fuses (s : State) (g : Field) (i : Nat) (b : Bool) : (s.wrBit g i b).fuses = s.fuses := rfl
@[simp] theorem State.wantYield_fuses (s : State) (c d : Bool) : (s.wantYield c d).fuses = s.fuses := rfl
@[simp] theorem State.raiseYield_fuses (s : State) (b : Nat) : (s.raiseYield b).fuses = s.fuses := by
  unfold State.raiseYield
  dsimp only
  split
  · split <;> simp
  · simp
@[simp] theorem State.wrBit_keyLc (s : State) (g : Field) (i : Nat) (b : Bool) : (s.wrBit g i b).keyLc = s.keyLc := rfl
@[simp] theorem State.wantYield_keyLc (s : State) (c d : Bool) : (s.wantYield c d).keyLc = s.keyLc := rfl
@[simp] theorem State.raiseYield_keyLc (s : State) (b : Nat) : (s.raiseYield b).keyLc = s.keyLc := by
  unfold State.raiseYield
  dsimp only
  split
  · split <;> simp
  · simp
@[simp] theorem State.wrBit_bankKey (s : State) (g : Field) (i : Nat) (b : Bool) : (s.wrBit g i b).bankKey = s.bankKey := rfl
@[simp] theorem State.wantYield_bankKey (s : State) (c d : Bool) : (s.wantYield c d).bankKey = s.bankKey := rfl
@[simp] theorem State.raiseYield_bankKey (s : State) (b : Nat) : (s.raiseYield b).bankKey = s.bankKey := by
  unfold State.raiseYield
  dsimp only
  split
  · split <;> simp
  · simp
@[simp] theorem State.wrBit_sec (s : State) (g : Field) (i : Nat) (b : Bool) : (s.wrBit g i b).sec = s.sec := rfl
@[simp] theorem State.wantYield_sec (s : State) (c d : Bool) : (s.wantYield c d).sec = s.sec := rfl
@[simp] theorem State.raiseYield_sec (s : State) (b : Nat) : (s.raiseYield b).sec = s.sec := by
  unfold State.raiseYield
  dsimp only
  split
  · split <;> simp
  · simp
@[simp] theorem State.wrBit_host (s : State) (g : Field) (i : Nat) (b : Bool) : (s.wrBit g i b).host = s.host := rfl
@[simp] theorem State.wantYield_host (s : State) (c d : Bool) : (s.wantYield c d).host = s.host := rfl
@[simp] theorem State.raiseYield_host (s : State) (b : Nat) : (s.raiseYield b).host = s.host := by
  unfold State.raiseYield
  dsimp only
  split
  · split <;> simp
  · simp
@[simp] theorem State.wrBit_hostMem (s : State) (g : Field) (i : Nat) (b : Bool) : (s.wrBit g i b).hostMem = s.hostMem := rfl
@[simp] theorem State.wantYield_hostMem (s : State) (c d : Bool) : (s.wantYield c d).hostMem = s.hostMem := rfl
@[simp] theorem State.raiseYield_hostMem (s : State) (b : Nat) : (s.raiseYield b).hostMem = s.hostMem := by
  unfold State.raiseYield
  dsimp only
  split
  · split <;> simp
  · simp
@[simp] theorem State.wrBit_tb (s : State) (g : Field) (i : Nat) (b : Bool) : (s.wrBit g i b).tb = s.tb := rfl
@[simp] theorem State.wantYield_tb (s : State) (c d : Bool) : (s.wantYield c d).tb = s.tb := rfl
@[simp] theorem State.raiseYield_tb (s : State) (b : Nat) : (s.raiseYield b).tb = s.tb := by
  unfold State.raiseYield
  dsimp only
  split
  · split <;> simp
  · simp
@[simp] theorem State.wrBit_cad (s : State) (g : Field) (i : Nat) (b : Bool) : (s.wrBit g i b).cad = s.cad := rfl
@[simp] theorem State.wantYield_cad (s : State) (c d : Bool) : (s.wantYield c d).cad = s.cad := rfl
@[simp] theorem State.raiseYield_cad (s : State) (b : Nat) : (s.raiseYield b).cad = s.cad := by
  unfold State.raiseYield
  dsimp only
  split
  · split <;> simp
  · simp
@[simp] theorem State.wrBit_fans (s : State) (g : Field) (i : Nat) (b : Bool) : (s.wrBit g i b).fans = s.fans := rfl
@[simp] theorem State.wantYield_fans (s : State) (c d : Bool) : (s.wantYield c d).fans = s.fans := rfl
@[simp] theorem State.raiseYield_fans (s : State) (b : Nat) : (s.raiseYield b).fans = s.fans := by
  unfold State.raiseYield
  dsimp only
  split
  · split <;> simp
  · simp
@[simp] theorem State.wrBit_dramShed (s : State) (g : Field) (i : Nat) (b : Bool) : (s.wrBit g i b).dramShed = s.dramShed := rfl
@[simp] theorem State.wantYield_dramShed (s : State) (c d : Bool) : (s.wantYield c d).dramShed = s.dramShed := rfl
@[simp] theorem State.raiseYield_dramShed (s : State) (b : Nat) : (s.raiseYield b).dramShed = s.dramShed := by
  unfold State.raiseYield
  dsimp only
  split
  · split <;> simp
  · simp
@[simp] theorem State.wrBit_qos (s : State) (g : Field) (i : Nat) (b : Bool) : (s.wrBit g i b).qos = s.qos := rfl
@[simp] theorem State.wantYield_qos (s : State) (c d : Bool) : (s.wantYield c d).qos = s.qos := rfl
@[simp] theorem State.raiseYield_qos (s : State) (b : Nat) : (s.raiseYield b).qos = s.qos := by
  unfold State.raiseYield
  dsimp only
  split
  · split <;> simp
  · simp
@[simp] theorem State.wrBit_seqr (s : State) (g : Field) (i : Nat) (b : Bool) : (s.wrBit g i b).seqr = s.seqr := rfl
@[simp] theorem State.wantYield_seqr (s : State) (c d : Bool) : (s.wantYield c d).seqr = s.seqr := rfl
@[simp] theorem State.raiseYield_seqr (s : State) (b : Nat) : (s.raiseYield b).seqr = s.seqr := by
  unfold State.raiseYield
  dsimp only
  split
  · split <;> simp
  · simp
@[simp] theorem State.wrBit_eq (s : State) (g : Field) (i : Nat) (b : Bool) : (s.wrBit g i b).eq = s.eq := rfl
@[simp] theorem State.wantYield_eq (s : State) (c d : Bool) : (s.wantYield c d).eq = s.eq := rfl
@[simp] theorem State.raiseYield_eq (s : State) (b : Nat) : (s.raiseYield b).eq = s.eq := by
  unfold State.raiseYield
  dsimp only
  split
  · split <;> simp
  · simp
@[simp] theorem State.wrBit_engines (s : State) (g : Field) (i : Nat) (b : Bool) : (s.wrBit g i b).engines = s.engines := rfl
@[simp] theorem State.wantYield_engines (s : State) (c d : Bool) : (s.wantYield c d).engines = s.engines := rfl
@[simp] theorem State.raiseYield_engines (s : State) (b : Nat) : (s.raiseYield b).engines = s.engines := by
  unfold State.raiseYield
  dsimp only
  split
  · split <;> simp
  · simp
@[simp] theorem State.wrBit_spokes (s : State) (g : Field) (i : Nat) (b : Bool) : (s.wrBit g i b).spokes = s.spokes := rfl
@[simp] theorem State.wantYield_spokes (s : State) (c d : Bool) : (s.wantYield c d).spokes = s.spokes := rfl
@[simp] theorem State.raiseYield_spokes (s : State) (b : Nat) : (s.raiseYield b).spokes = s.spokes := by
  unfold State.raiseYield
  dsimp only
  split
  · split <;> simp
  · simp
@[simp] theorem State.wrBit_cells (s : State) (g : Field) (i : Nat) (b : Bool) : (s.wrBit g i b).cells = s.cells := rfl
@[simp] theorem State.wantYield_cells (s : State) (c d : Bool) : (s.wantYield c d).cells = s.cells := rfl
@[simp] theorem State.raiseYield_cells (s : State) (b : Nat) : (s.raiseYield b).cells = s.cells := by
  unfold State.raiseYield
  dsimp only
  split
  · split <;> simp
  · simp
@[simp] theorem State.wrBit_arms (s : State) (g : Field) (i : Nat) (b : Bool) : (s.wrBit g i b).arms = s.arms := rfl
@[simp] theorem State.wantYield_arms (s : State) (c d : Bool) : (s.wantYield c d).arms = s.arms := rfl
@[simp] theorem State.raiseYield_arms (s : State) (b : Nat) : (s.raiseYield b).arms = s.arms := by
  unfold State.raiseYield
  dsimp only
  split
  · split <;> simp
  · simp
@[simp] theorem State.wrBit_image (s : State) (g : Field) (i : Nat) (b : Bool) : (s.wrBit g i b).image = s.image := rfl
@[simp] theorem State.wantYield_image (s : State) (c d : Bool) : (s.wantYield c d).image = s.image := rfl
@[simp] theorem State.raiseYield_image (s : State) (b : Nat) : (s.raiseYield b).image = s.image := by
  unfold State.raiseYield
  dsimp only
  split
  · split <;> simp
  · simp
@[simp] theorem State.wrBit_c0 (s : State) (g : Field) (i : Nat) (b : Bool) : (s.wrBit g i b).c0 = s.c0 := rfl
@[simp] theorem State.wantYield_c0 (s : State) (c d : Bool) : (s.wantYield c d).c0 = s.c0 := rfl
@[simp] theorem State.raiseYield_c0 (s : State) (b : Nat) : (s.raiseYield b).c0 = s.c0 := by
  unfold State.raiseYield
  dsimp only
  split
  · split <;> simp
  · simp
@[simp] theorem State.wrBit_lp (s : State) (g : Field) (i : Nat) (b : Bool) : (s.wrBit g i b).lp = s.lp := rfl
@[simp] theorem State.wantYield_lp (s : State) (c d : Bool) : (s.wantYield c d).lp = s.lp := rfl
@[simp] theorem State.raiseYield_lp (s : State) (b : Nat) : (s.raiseYield b).lp = s.lp := by
  unfold State.raiseYield
  dsimp only
  split
  · split <;> simp
  · simp
@[simp] theorem State.wrBit_adc (s : State) (g : Field) (i : Nat) (b : Bool) : (s.wrBit g i b).adc = s.adc := rfl
@[simp] theorem State.wantYield_adc (s : State) (c d : Bool) : (s.wantYield c d).adc = s.adc := rfl
@[simp] theorem State.raiseYield_adc (s : State) (b : Nat) : (s.raiseYield b).adc = s.adc := by
  unfold State.raiseYield
  dsimp only
  split
  · split <;> simp
  · simp
@[simp] theorem State.wrBit_slices (s : State) (g : Field) (i : Nat) (b : Bool) : (s.wrBit g i b).slices = s.slices := rfl
@[simp] theorem State.wantYield_slices (s : State) (c d : Bool) : (s.wantYield c d).slices = s.slices := rfl
@[simp] theorem State.raiseYield_slices (s : State) (b : Nat) : (s.raiseYield b).slices = s.slices := by
  unfold State.raiseYield
  dsimp only
  split
  · split <;> simp
  · simp
@[simp] theorem State.wrBit_sysCal (s : State) (g : Field) (i : Nat) (b : Bool) : (s.wrBit g i b).sysCal = s.sysCal := rfl
@[simp] theorem State.wantYield_sysCal (s : State) (c d : Bool) : (s.wantYield c d).sysCal = s.sysCal := rfl
@[simp] theorem State.raiseYield_sysCal (s : State) (b : Nat) : (s.raiseYield b).sysCal = s.sysCal := by
  unfold State.raiseYield
  dsimp only
  split
  · split <;> simp
  · simp
@[simp] theorem State.wrBit_tgDue (s : State) (g : Field) (i : Nat) (b : Bool) : (s.wrBit g i b).tgDue = s.tgDue := rfl
@[simp] theorem State.wantYield_tgDue (s : State) (c d : Bool) : (s.wantYield c d).tgDue = s.tgDue := rfl
@[simp] theorem State.raiseYield_tgDue (s : State) (b : Nat) : (s.raiseYield b).tgDue = s.tgDue := by
  unfold State.raiseYield
  dsimp only
  split
  · split <;> simp
  · simp
@[simp] theorem State.wrBit_setNow (s : State) (g : Field) (i : Nat) (b : Bool) : (s.wrBit g i b).setNow = s.setNow := rfl
@[simp] theorem State.wantYield_setNow (s : State) (c d : Bool) : (s.wantYield c d).setNow = s.setNow := rfl
@[simp] theorem State.raiseYield_setNow (s : State) (b : Nat) : (s.raiseYield b).setNow = s.setNow := by
  unfold State.raiseYield
  dsimp only
  split
  · split <;> simp
  · simp
@[simp] theorem State.wrBit_setSnap (s : State) (g : Field) (i : Nat) (b : Bool) : (s.wrBit g i b).setSnap = s.setSnap := rfl
@[simp] theorem State.wantYield_setSnap (s : State) (c d : Bool) : (s.wantYield c d).setSnap = s.setSnap := rfl
@[simp] theorem State.raiseYield_setSnap (s : State) (b : Nat) : (s.raiseYield b).setSnap = s.setSnap := by
  unfold State.raiseYield
  dsimp only
  split
  · split <;> simp
  · simp
@[simp] theorem State.wrBit_stp (s : State) (g : Field) (i : Nat) (b : Bool) : (s.wrBit g i b).stp = s.stp := rfl
@[simp] theorem State.wantYield_stp (s : State) (c d : Bool) : (s.wantYield c d).stp = s.stp := rfl
@[simp] theorem State.raiseYield_stp (s : State) (b : Nat) : (s.raiseYield b).stp = s.stp := by
  unfold State.raiseYield
  dsimp only
  split
  · split <;> simp
  · simp
@[simp] theorem State.wrBit_ports (s : State) (g : Field) (i : Nat) (b : Bool) : (s.wrBit g i b).ports = s.ports := rfl
@[simp] theorem State.wantYield_ports (s : State) (c d : Bool) : (s.wantYield c d).ports = s.ports := rfl
@[simp] theorem State.raiseYield_ports (s : State) (b : Nat) : (s.raiseYield b).ports = s.ports := by
  unfold State.raiseYield
  dsimp only
  split
  · split <;> simp
  · simp
@[simp] theorem State.wrBit_subs (s : State) (g : Field) (i : Nat) (b : Bool) : (s.wrBit g i b).subs = s.subs := rfl
@[simp] theorem State.wantYield_subs (s : State) (c d : Bool) : (s.wantYield c d).subs = s.subs := rfl
@[simp] theorem State.raiseYield_subs (s : State) (b : Nat) : (s.raiseYield b).subs = s.subs := by
  unfold State.raiseYield
  dsimp only
  split
  · split <;> simp
  · simp
@[simp] theorem State.wrBit_goose (s : State) (g : Field) (i : Nat) (b : Bool) : (s.wrBit g i b).goose = s.goose := rfl
@[simp] theorem State.wantYield_goose (s : State) (c d : Bool) : (s.wantYield c d).goose = s.goose := rfl
@[simp] theorem State.raiseYield_goose (s : State) (b : Nat) : (s.raiseYield b).goose = s.goose := by
  unfold State.raiseYield
  dsimp only
  split
  · split <;> simp
  · simp
@[simp] theorem State.wrBit_time (s : State) (g : Field) (i : Nat) (b : Bool) : (s.wrBit g i b).time = s.time := rfl
@[simp] theorem State.wantYield_time (s : State) (c d : Bool) : (s.wantYield c d).time = s.time := rfl
@[simp] theorem State.raiseYield_time (s : State) (b : Nat) : (s.raiseYield b).time = s.time := by
  unfold State.raiseYield
  dsimp only
  split
  · split <;> simp
  · simp
@[simp] theorem State.wrBit_recs (s : State) (g : Field) (i : Nat) (b : Bool) : (s.wrBit g i b).recs = s.recs := rfl
@[simp] theorem State.wantYield_recs (s : State) (c d : Bool) : (s.wantYield c d).recs = s.recs := rfl
@[simp] theorem State.raiseYield_recs (s : State) (b : Nat) : (s.raiseYield b).recs = s.recs := by
  unfold State.raiseYield
  dsimp only
  split
  · split <;> simp
  · simp
@[simp] theorem State.wrBit_captures (s : State) (g : Field) (i : Nat) (b : Bool) : (s.wrBit g i b).captures = s.captures := rfl
@[simp] theorem State.wantYield_captures (s : State) (c d : Bool) : (s.wantYield c d).captures = s.captures := rfl
@[simp] theorem State.raiseYield_captures (s : State) (b : Nat) : (s.raiseYield b).captures = s.captures := by
  unfold State.raiseYield
  dsimp only
  split
  · split <;> simp
  · simp
@[simp] theorem State.wrBit_saf (s : State) (g : Field) (i : Nat) (b : Bool) : (s.wrBit g i b).saf = s.saf := rfl
@[simp] theorem State.wantYield_saf (s : State) (c d : Bool) : (s.wantYield c d).saf = s.saf := rfl
@[simp] theorem State.raiseYield_saf (s : State) (b : Nat) : (s.raiseYield b).saf = s.saf := by
  unfold State.raiseYield
  dsimp only
  split
  · split <;> simp
  · simp
@[simp] theorem State.wrBit_sch (s : State) (g : Field) (i : Nat) (b : Bool) : (s.wrBit g i b).sch = s.sch := rfl
@[simp] theorem State.wantYield_sch (s : State) (c d : Bool) : (s.wantYield c d).sch = s.sch := rfl
@[simp] theorem State.raiseYield_sch (s : State) (b : Nat) : (s.raiseYield b).sch = s.sch := by
  unfold State.raiseYield
  dsimp only
  split
  · split <;> simp
  · simp
@[simp] theorem State.wrBit_irqCores (s : State) (g : Field) (i : Nat) (b : Bool) : (s.wrBit g i b).irqCores = s.irqCores := rfl
@[simp] theorem State.wantYield_irqCores (s : State) (c d : Bool) : (s.wantYield c d).irqCores = s.irqCores := rfl
@[simp] theorem State.raiseYield_irqCores (s : State) (b : Nat) : (s.raiseYield b).irqCores = s.irqCores := by
  unfold State.raiseYield
  dsimp only
  split
  · split <;> simp
  · simp
@[simp] theorem State.wrBit_irqRates (s : State) (g : Field) (i : Nat) (b : Bool) : (s.wrBit g i b).irqRates = s.irqRates := rfl
@[simp] theorem State.wantYield_irqRates (s : State) (c d : Bool) : (s.wantYield c d).irqRates = s.irqRates := rfl
@[simp] theorem State.raiseYield_irqRates (s : State) (b : Nat) : (s.raiseYield b).irqRates = s.irqRates := by
  unfold State.raiseYield
  dsimp only
  split
  · split <;> simp
  · simp
@[simp] theorem State.wrBit_coreFault (s : State) (g : Field) (i : Nat) (b : Bool) : (s.wrBit g i b).coreFault = s.coreFault := rfl
@[simp] theorem State.wantYield_coreFault (s : State) (c d : Bool) : (s.wantYield c d).coreFault = s.coreFault := rfl
@[simp] theorem State.raiseYield_coreFault (s : State) (b : Nat) : (s.raiseYield b).coreFault = s.coreFault := by
  unfold State.raiseYield
  dsimp only
  split
  · split <;> simp
  · simp
@[simp] theorem State.wrBit_mem (s : State) (g : Field) (i : Nat) (b : Bool) : (s.wrBit g i b).mem = s.mem := rfl
@[simp] theorem State.wantYield_mem (s : State) (c d : Bool) : (s.wantYield c d).mem = s.mem := rfl
@[simp] theorem State.raiseYield_mem (s : State) (b : Nat) : (s.raiseYield b).mem = s.mem := by
  unfold State.raiseYield
  dsimp only
  split
  · split <;> simp
  · simp
@[simp] theorem State.wrBit_coreMem (s : State) (g : Field) (i : Nat) (b : Bool) : (s.wrBit g i b).coreMem = s.coreMem := rfl
@[simp] theorem State.wantYield_coreMem (s : State) (c d : Bool) : (s.wantYield c d).coreMem = s.coreMem := rfl
@[simp] theorem State.raiseYield_coreMem (s : State) (b : Nat) : (s.raiseYield b).coreMem = s.coreMem := by
  unfold State.raiseYield
  dsimp only
  split
  · split <;> simp
  · simp
@[simp] theorem State.wrBit_dramKey (s : State) (g : Field) (i : Nat) (b : Bool) : (s.wrBit g i b).dramKey = s.dramKey := rfl
@[simp] theorem State.wantYield_dramKey (s : State) (c d : Bool) : (s.wantYield c d).dramKey = s.dramKey := rfl
@[simp] theorem State.raiseYield_dramKey (s : State) (b : Nat) : (s.raiseYield b).dramKey = s.dramKey := by
  unfold State.raiseYield
  dsimp only
  split
  · split <;> simp
  · simp
@[simp] theorem State.wrBit_freeCtr (s : State) (g : Field) (i : Nat) (b : Bool) : (s.wrBit g i b).freeCtr = s.freeCtr := rfl
@[simp] theorem State.wantYield_freeCtr (s : State) (c d : Bool) : (s.wantYield c d).freeCtr = s.freeCtr := rfl
@[simp] theorem State.raiseYield_freeCtr (s : State) (b : Nat) : (s.raiseYield b).freeCtr = s.freeCtr := by
  unfold State.raiseYield
  dsimp only
  split
  · split <;> simp
  · simp
@[simp] theorem State.wrBit_halted (s : State) (g : Field) (i : Nat) (b : Bool) : (s.wrBit g i b).halted = s.halted := rfl
@[simp] theorem State.wantYield_halted (s : State) (c d : Bool) : (s.wantYield c d).halted = s.halted := rfl
@[simp] theorem State.raiseYield_halted (s : State) (b : Nat) : (s.raiseYield b).halted = s.halted := by
  unfold State.raiseYield
  dsimp only
  split
  · split <;> simp
  · simp
@[simp] theorem State.wrBit_pending (s : State) (g : Field) (i : Nat) (b : Bool) : (s.wrBit g i b).pending = s.pending := rfl
@[simp] theorem State.wantYield_pending (s : State) (c d : Bool) : (s.wantYield c d).pending = s.pending := rfl
@[simp] theorem State.raiseYield_pending (s : State) (b : Nat) : (s.raiseYield b).pending = s.pending := by
  unfold State.raiseYield
  dsimp only
  split
  · split <;> simp
  · simp

theorem State.rd_raiseYield_ne (s : State) (b : Nat) (g : Field) (h1 : g.key ≠ Fld.TND_CAUSE_LIVE.key)
    (h2 : g.key ≠ Fld.TND_EVT_HELD_NO_TWIN.key) (h : ∀ x ∈ eventFields, g.key ≠ x.key) : (s.raiseYield b).rd g = s.rd g := by
  have h0 : (s.wrBit Fld.TND_CAUSE_LIVE b true).rd g = s.rd g := State.rd_wrBit_ne s b true h1
  unfold State.raiseYield
  dsimp only
  split
  · split
    · exact h0
    · rw [State.rd_raise_ne _ _ _ g h2 h, h0]
  · exact h0


theorem State.rd_raiseIf_ne (s : State) (b : Bool) (f : Field) (d : Nat) (g : Field) (hf : g.key ≠ f.key)
    (h : ∀ x ∈ eventFields, g.key ≠ x.key) : (s.raiseIf b f d).rd g = s.rd g := by
  unfold State.raiseIf
  split
  · exact State.rd_raise_ne s f d g hf h
  · rfl

/-! ### Accessors -/

@[simp] theorem State.wr_chan (s : State) (f : Field) (v : Nat) (i : Nat) : (s.wr f v).chan i = s.chan i := rfl
@[simp] theorem State.wr_queue (s : State) (f : Field) (v : Nat) (i : Nat) : (s.wr f v).queue i = s.queue i := rfl
@[simp] theorem State.wr_lpc (s : State) (f : Field) (v : Nat) (i : Nat) : (s.wr f v).lpc i = s.lpc i := rfl
@[simp] theorem State.wr_recd (s : State) (f : Field) (v : Nat) (i : Nat) : (s.wr f v).recd i = s.recd i := rfl
@[simp] theorem State.wr_port (s : State) (f : Field) (v : Nat) (i : Nat) : (s.wr f v).port i = s.port i := rfl
@[simp] theorem State.wr_sub (s : State) (f : Field) (v : Nat) (i : Nat) : (s.wr f v).sub i = s.sub i := rfl
@[simp] theorem State.wr_gooseOf (s : State) (f : Field) (v : Nat) (i : Nat) : (s.wr f v).gooseOf i = s.gooseOf i := rfl
@[simp] theorem State.wr_irqCore (s : State) (f : Field) (v : Nat) (i : Nat) : (s.wr f v).irqCore i = s.irqCore i := rfl
@[simp] theorem State.wr_base (s : State) (f : Field) (v : Nat) (i : Nat) : (s.wr f v).base i = s.base i := rfl
@[simp] theorem State.wr_history (s : State) (f : Field) (v : Nat) (i : Nat) : (s.wr f v).history i = s.history i := rfl
@[simp] theorem State.resetRange_spoke (s : State) (lo hi : Nat) (i : Nat) : (s.resetRange lo hi).spoke i = s.spoke i := rfl
@[simp] theorem State.resetRange_cell (s : State) (lo hi : Nat) (i : Nat) : (s.resetRange lo hi).cell i = s.cell i := rfl
@[simp] theorem State.resetRange_arm (s : State) (lo hi : Nat) (i : Nat) : (s.resetRange lo hi).arm i = s.arm i := rfl
@[simp] theorem State.resetRange_flashOf (s : State) (lo hi : Nat) (i : Nat) : (s.resetRange lo hi).flashOf i = s.flashOf i := rfl
@[simp] theorem State.resetRange_eng (s : State) (lo hi : Nat) (i : Nat) : (s.resetRange lo hi).eng i = s.eng i := rfl
@[simp] theorem State.resetRange_fn (s : State) (lo hi : Nat) (i : Nat) : (s.resetRange lo hi).fn i = s.fn i := rfl
@[simp] theorem State.resetRange_chan (s : State) (lo hi : Nat) (i : Nat) : (s.resetRange lo hi).chan i = s.chan i := rfl
@[simp] theorem State.resetRange_queue (s : State) (lo hi : Nat) (i : Nat) : (s.resetRange lo hi).queue i = s.queue i := rfl
@[simp] theorem State.resetRange_lpc (s : State) (lo hi : Nat) (i : Nat) : (s.resetRange lo hi).lpc i = s.lpc i := rfl
@[simp] theorem State.resetRange_recd (s : State) (lo hi : Nat) (i : Nat) : (s.resetRange lo hi).recd i = s.recd i := rfl
@[simp] theorem State.resetRange_port (s : State) (lo hi : Nat) (i : Nat) : (s.resetRange lo hi).port i = s.port i := rfl
@[simp] theorem State.resetRange_sub (s : State) (lo hi : Nat) (i : Nat) : (s.resetRange lo hi).sub i = s.sub i := rfl
@[simp] theorem State.resetRange_gooseOf (s : State) (lo hi : Nat) (i : Nat) : (s.resetRange lo hi).gooseOf i = s.gooseOf i := rfl
@[simp] theorem State.resetRange_irqCore (s : State) (lo hi : Nat) (i : Nat) : (s.resetRange lo hi).irqCore i = s.irqCore i := rfl
@[simp] theorem State.resetRange_base (s : State) (lo hi : Nat) (i : Nat) : (s.resetRange lo hi).base i = s.base i := rfl
@[simp] theorem State.resetRange_history (s : State) (lo hi : Nat) (i : Nat) : (s.resetRange lo hi).history i = s.history i := rfl
@[simp] theorem State.setSpoke_cell (s : State) (n : Nat) (f : Spoke → Spoke) (i : Nat) : (s.setSpoke n f).cell i = s.cell i := rfl
@[simp] theorem State.setSpoke_arm (s : State) (n : Nat) (f : Spoke → Spoke) (i : Nat) : (s.setSpoke n f).arm i = s.arm i := rfl
@[simp] theorem State.setSpoke_flashOf (s : State) (n : Nat) (f : Spoke → Spoke) (i : Nat) : (s.setSpoke n f).flashOf i = s.flashOf i := rfl
@[simp] theorem State.setSpoke_eng (s : State) (n : Nat) (f : Spoke → Spoke) (i : Nat) : (s.setSpoke n f).eng i = s.eng i := rfl
@[simp] theorem State.setSpoke_fn (s : State) (n : Nat) (f : Spoke → Spoke) (i : Nat) : (s.setSpoke n f).fn i = s.fn i := rfl
@[simp] theorem State.setSpoke_chan (s : State) (n : Nat) (f : Spoke → Spoke) (i : Nat) : (s.setSpoke n f).chan i = s.chan i := rfl
@[simp] theorem State.setSpoke_queue (s : State) (n : Nat) (f : Spoke → Spoke) (i : Nat) : (s.setSpoke n f).queue i = s.queue i := rfl
@[simp] theorem State.setSpoke_lpc (s : State) (n : Nat) (f : Spoke → Spoke) (i : Nat) : (s.setSpoke n f).lpc i = s.lpc i := rfl
@[simp] theorem State.setSpoke_recd (s : State) (n : Nat) (f : Spoke → Spoke) (i : Nat) : (s.setSpoke n f).recd i = s.recd i := rfl
@[simp] theorem State.setSpoke_port (s : State) (n : Nat) (f : Spoke → Spoke) (i : Nat) : (s.setSpoke n f).port i = s.port i := rfl
@[simp] theorem State.setSpoke_sub (s : State) (n : Nat) (f : Spoke → Spoke) (i : Nat) : (s.setSpoke n f).sub i = s.sub i := rfl
@[simp] theorem State.setSpoke_gooseOf (s : State) (n : Nat) (f : Spoke → Spoke) (i : Nat) : (s.setSpoke n f).gooseOf i = s.gooseOf i := rfl
@[simp] theorem State.setSpoke_irqCore (s : State) (n : Nat) (f : Spoke → Spoke) (i : Nat) : (s.setSpoke n f).irqCore i = s.irqCore i := rfl
@[simp] theorem State.setSpoke_base (s : State) (n : Nat) (f : Spoke → Spoke) (i : Nat) : (s.setSpoke n f).base i = s.base i := rfl
@[simp] theorem State.setSpoke_history (s : State) (n : Nat) (f : Spoke → Spoke) (i : Nat) : (s.setSpoke n f).history i = s.history i := rfl
@[simp] theorem State.setCell_spoke (s : State) (c : Nat) (f : Cell → Cell) (i : Nat) : (s.setCell c f).spoke i = s.spoke i := rfl
@[simp] theorem State.setCell_arm (s : State) (c : Nat) (f : Cell → Cell) (i : Nat) : (s.setCell c f).arm i = s.arm i := rfl
@[simp] theorem State.setCell_flashOf (s : State) (c : Nat) (f : Cell → Cell) (i : Nat) : (s.setCell c f).flashOf i = s.flashOf i := rfl
@[simp] theorem State.setCell_eng (s : State) (c : Nat) (f : Cell → Cell) (i : Nat) : (s.setCell c f).eng i = s.eng i := rfl
@[simp] theorem State.setCell_fn (s : State) (c : Nat) (f : Cell → Cell) (i : Nat) : (s.setCell c f).fn i = s.fn i := rfl
@[simp] theorem State.setCell_chan (s : State) (c : Nat) (f : Cell → Cell) (i : Nat) : (s.setCell c f).chan i = s.chan i := rfl
@[simp] theorem State.setCell_queue (s : State) (c : Nat) (f : Cell → Cell) (i : Nat) : (s.setCell c f).queue i = s.queue i := rfl
@[simp] theorem State.setCell_lpc (s : State) (c : Nat) (f : Cell → Cell) (i : Nat) : (s.setCell c f).lpc i = s.lpc i := rfl
@[simp] theorem State.setCell_recd (s : State) (c : Nat) (f : Cell → Cell) (i : Nat) : (s.setCell c f).recd i = s.recd i := rfl
@[simp] theorem State.setCell_port (s : State) (c : Nat) (f : Cell → Cell) (i : Nat) : (s.setCell c f).port i = s.port i := rfl
@[simp] theorem State.setCell_sub (s : State) (c : Nat) (f : Cell → Cell) (i : Nat) : (s.setCell c f).sub i = s.sub i := rfl
@[simp] theorem State.setCell_gooseOf (s : State) (c : Nat) (f : Cell → Cell) (i : Nat) : (s.setCell c f).gooseOf i = s.gooseOf i := rfl
@[simp] theorem State.setCell_irqCore (s : State) (c : Nat) (f : Cell → Cell) (i : Nat) : (s.setCell c f).irqCore i = s.irqCore i := rfl
@[simp] theorem State.setCell_base (s : State) (c : Nat) (f : Cell → Cell) (i : Nat) : (s.setCell c f).base i = s.base i := rfl
@[simp] theorem State.setCell_history (s : State) (c : Nat) (f : Cell → Cell) (i : Nat) : (s.setCell c f).history i = s.history i := rfl
@[simp] theorem State.setArm_spoke (s : State) (a : Nat) (f : Arm → Arm) (i : Nat) : (s.setArm a f).spoke i = s.spoke i := rfl
@[simp] theorem State.setArm_cell (s : State) (a : Nat) (f : Arm → Arm) (i : Nat) : (s.setArm a f).cell i = s.cell i := rfl
@[simp] theorem State.setArm_flashOf (s : State) (a : Nat) (f : Arm → Arm) (i : Nat) : (s.setArm a f).flashOf i = s.flashOf i := rfl
@[simp] theorem State.setArm_eng (s : State) (a : Nat) (f : Arm → Arm) (i : Nat) : (s.setArm a f).eng i = s.eng i := rfl
@[simp] theorem State.setArm_fn (s : State) (a : Nat) (f : Arm → Arm) (i : Nat) : (s.setArm a f).fn i = s.fn i := rfl
@[simp] theorem State.setArm_chan (s : State) (a : Nat) (f : Arm → Arm) (i : Nat) : (s.setArm a f).chan i = s.chan i := rfl
@[simp] theorem State.setArm_queue (s : State) (a : Nat) (f : Arm → Arm) (i : Nat) : (s.setArm a f).queue i = s.queue i := rfl
@[simp] theorem State.setArm_lpc (s : State) (a : Nat) (f : Arm → Arm) (i : Nat) : (s.setArm a f).lpc i = s.lpc i := rfl
@[simp] theorem State.setArm_recd (s : State) (a : Nat) (f : Arm → Arm) (i : Nat) : (s.setArm a f).recd i = s.recd i := rfl
@[simp] theorem State.setArm_port (s : State) (a : Nat) (f : Arm → Arm) (i : Nat) : (s.setArm a f).port i = s.port i := rfl
@[simp] theorem State.setArm_sub (s : State) (a : Nat) (f : Arm → Arm) (i : Nat) : (s.setArm a f).sub i = s.sub i := rfl
@[simp] theorem State.setArm_gooseOf (s : State) (a : Nat) (f : Arm → Arm) (i : Nat) : (s.setArm a f).gooseOf i = s.gooseOf i := rfl
@[simp] theorem State.setArm_irqCore (s : State) (a : Nat) (f : Arm → Arm) (i : Nat) : (s.setArm a f).irqCore i = s.irqCore i := rfl
@[simp] theorem State.setArm_base (s : State) (a : Nat) (f : Arm → Arm) (i : Nat) : (s.setArm a f).base i = s.base i := rfl
@[simp] theorem State.setArm_history (s : State) (a : Nat) (f : Arm → Arm) (i : Nat) : (s.setArm a f).history i = s.history i := rfl
@[simp] theorem State.setFlash_spoke (s : State) (n : Nat) (f : Flash → Flash) (i : Nat) : (s.setFlash n f).spoke i = s.spoke i := rfl
@[simp] theorem State.setFlash_cell (s : State) (n : Nat) (f : Flash → Flash) (i : Nat) : (s.setFlash n f).cell i = s.cell i := rfl
@[simp] theorem State.setFlash_arm (s : State) (n : Nat) (f : Flash → Flash) (i : Nat) : (s.setFlash n f).arm i = s.arm i := rfl
@[simp] theorem State.setFlash_eng (s : State) (n : Nat) (f : Flash → Flash) (i : Nat) : (s.setFlash n f).eng i = s.eng i := rfl
@[simp] theorem State.setFlash_fn (s : State) (n : Nat) (f : Flash → Flash) (i : Nat) : (s.setFlash n f).fn i = s.fn i := rfl
@[simp] theorem State.setFlash_chan (s : State) (n : Nat) (f : Flash → Flash) (i : Nat) : (s.setFlash n f).chan i = s.chan i := rfl
@[simp] theorem State.setFlash_queue (s : State) (n : Nat) (f : Flash → Flash) (i : Nat) : (s.setFlash n f).queue i = s.queue i := rfl
@[simp] theorem State.setFlash_lpc (s : State) (n : Nat) (f : Flash → Flash) (i : Nat) : (s.setFlash n f).lpc i = s.lpc i := rfl
@[simp] theorem State.setFlash_recd (s : State) (n : Nat) (f : Flash → Flash) (i : Nat) : (s.setFlash n f).recd i = s.recd i := rfl
@[simp] theorem State.setFlash_port (s : State) (n : Nat) (f : Flash → Flash) (i : Nat) : (s.setFlash n f).port i = s.port i := rfl
@[simp] theorem State.setFlash_sub (s : State) (n : Nat) (f : Flash → Flash) (i : Nat) : (s.setFlash n f).sub i = s.sub i := rfl
@[simp] theorem State.setFlash_gooseOf (s : State) (n : Nat) (f : Flash → Flash) (i : Nat) : (s.setFlash n f).gooseOf i = s.gooseOf i := rfl
@[simp] theorem State.setFlash_irqCore (s : State) (n : Nat) (f : Flash → Flash) (i : Nat) : (s.setFlash n f).irqCore i = s.irqCore i := rfl
@[simp] theorem State.setFlash_base (s : State) (n : Nat) (f : Flash → Flash) (i : Nat) : (s.setFlash n f).base i = s.base i := rfl
@[simp] theorem State.setFlash_history (s : State) (n : Nat) (f : Flash → Flash) (i : Nat) : (s.setFlash n f).history i = s.history i := rfl
@[simp] theorem State.setEng_spoke (s : State) (e : Nat) (f : Engine → Engine) (i : Nat) : (s.setEng e f).spoke i = s.spoke i := rfl
@[simp] theorem State.setEng_cell (s : State) (e : Nat) (f : Engine → Engine) (i : Nat) : (s.setEng e f).cell i = s.cell i := rfl
@[simp] theorem State.setEng_arm (s : State) (e : Nat) (f : Engine → Engine) (i : Nat) : (s.setEng e f).arm i = s.arm i := rfl
@[simp] theorem State.setEng_flashOf (s : State) (e : Nat) (f : Engine → Engine) (i : Nat) : (s.setEng e f).flashOf i = s.flashOf i := rfl
@[simp] theorem State.setEng_fn (s : State) (e : Nat) (f : Engine → Engine) (i : Nat) : (s.setEng e f).fn i = s.fn i := rfl
@[simp] theorem State.setEng_chan (s : State) (e : Nat) (f : Engine → Engine) (i : Nat) : (s.setEng e f).chan i = s.chan i := rfl
@[simp] theorem State.setEng_queue (s : State) (e : Nat) (f : Engine → Engine) (i : Nat) : (s.setEng e f).queue i = s.queue i := rfl
@[simp] theorem State.setEng_lpc (s : State) (e : Nat) (f : Engine → Engine) (i : Nat) : (s.setEng e f).lpc i = s.lpc i := rfl
@[simp] theorem State.setEng_recd (s : State) (e : Nat) (f : Engine → Engine) (i : Nat) : (s.setEng e f).recd i = s.recd i := rfl
@[simp] theorem State.setEng_port (s : State) (e : Nat) (f : Engine → Engine) (i : Nat) : (s.setEng e f).port i = s.port i := rfl
@[simp] theorem State.setEng_sub (s : State) (e : Nat) (f : Engine → Engine) (i : Nat) : (s.setEng e f).sub i = s.sub i := rfl
@[simp] theorem State.setEng_gooseOf (s : State) (e : Nat) (f : Engine → Engine) (i : Nat) : (s.setEng e f).gooseOf i = s.gooseOf i := rfl
@[simp] theorem State.setEng_irqCore (s : State) (e : Nat) (f : Engine → Engine) (i : Nat) : (s.setEng e f).irqCore i = s.irqCore i := rfl
@[simp] theorem State.setEng_base (s : State) (e : Nat) (f : Engine → Engine) (i : Nat) : (s.setEng e f).base i = s.base i := rfl
@[simp] theorem State.setEng_history (s : State) (e : Nat) (f : Engine → Engine) (i : Nat) : (s.setEng e f).history i = s.history i := rfl
@[simp] theorem State.setFn_spoke (s : State) (n : Nat) (f : HostFn → HostFn) (i : Nat) : (s.setFn n f).spoke i = s.spoke i := rfl
@[simp] theorem State.setFn_cell (s : State) (n : Nat) (f : HostFn → HostFn) (i : Nat) : (s.setFn n f).cell i = s.cell i := rfl
@[simp] theorem State.setFn_arm (s : State) (n : Nat) (f : HostFn → HostFn) (i : Nat) : (s.setFn n f).arm i = s.arm i := rfl
@[simp] theorem State.setFn_flashOf (s : State) (n : Nat) (f : HostFn → HostFn) (i : Nat) : (s.setFn n f).flashOf i = s.flashOf i := rfl
@[simp] theorem State.setFn_eng (s : State) (n : Nat) (f : HostFn → HostFn) (i : Nat) : (s.setFn n f).eng i = s.eng i := rfl
@[simp] theorem State.setFn_chan (s : State) (n : Nat) (f : HostFn → HostFn) (i : Nat) : (s.setFn n f).chan i = s.chan i := rfl
@[simp] theorem State.setFn_queue (s : State) (n : Nat) (f : HostFn → HostFn) (i : Nat) : (s.setFn n f).queue i = s.queue i := rfl
@[simp] theorem State.setFn_lpc (s : State) (n : Nat) (f : HostFn → HostFn) (i : Nat) : (s.setFn n f).lpc i = s.lpc i := rfl
@[simp] theorem State.setFn_recd (s : State) (n : Nat) (f : HostFn → HostFn) (i : Nat) : (s.setFn n f).recd i = s.recd i := rfl
@[simp] theorem State.setFn_port (s : State) (n : Nat) (f : HostFn → HostFn) (i : Nat) : (s.setFn n f).port i = s.port i := rfl
@[simp] theorem State.setFn_sub (s : State) (n : Nat) (f : HostFn → HostFn) (i : Nat) : (s.setFn n f).sub i = s.sub i := rfl
@[simp] theorem State.setFn_gooseOf (s : State) (n : Nat) (f : HostFn → HostFn) (i : Nat) : (s.setFn n f).gooseOf i = s.gooseOf i := rfl
@[simp] theorem State.setFn_irqCore (s : State) (n : Nat) (f : HostFn → HostFn) (i : Nat) : (s.setFn n f).irqCore i = s.irqCore i := rfl
@[simp] theorem State.setFn_base (s : State) (n : Nat) (f : HostFn → HostFn) (i : Nat) : (s.setFn n f).base i = s.base i := rfl
@[simp] theorem State.setFn_history (s : State) (n : Nat) (f : HostFn → HostFn) (i : Nat) : (s.setFn n f).history i = s.history i := rfl
@[simp] theorem State.setChan_spoke (s : State) (n : Nat) (f : AdcChan → AdcChan) (i : Nat) : (s.setChan n f).spoke i = s.spoke i := rfl
@[simp] theorem State.setChan_cell (s : State) (n : Nat) (f : AdcChan → AdcChan) (i : Nat) : (s.setChan n f).cell i = s.cell i := rfl
@[simp] theorem State.setChan_arm (s : State) (n : Nat) (f : AdcChan → AdcChan) (i : Nat) : (s.setChan n f).arm i = s.arm i := rfl
@[simp] theorem State.setChan_flashOf (s : State) (n : Nat) (f : AdcChan → AdcChan) (i : Nat) : (s.setChan n f).flashOf i = s.flashOf i := rfl
@[simp] theorem State.setChan_eng (s : State) (n : Nat) (f : AdcChan → AdcChan) (i : Nat) : (s.setChan n f).eng i = s.eng i := rfl
@[simp] theorem State.setChan_fn (s : State) (n : Nat) (f : AdcChan → AdcChan) (i : Nat) : (s.setChan n f).fn i = s.fn i := rfl
@[simp] theorem State.setChan_queue (s : State) (n : Nat) (f : AdcChan → AdcChan) (i : Nat) : (s.setChan n f).queue i = s.queue i := rfl
@[simp] theorem State.setChan_lpc (s : State) (n : Nat) (f : AdcChan → AdcChan) (i : Nat) : (s.setChan n f).lpc i = s.lpc i := rfl
@[simp] theorem State.setChan_recd (s : State) (n : Nat) (f : AdcChan → AdcChan) (i : Nat) : (s.setChan n f).recd i = s.recd i := rfl
@[simp] theorem State.setChan_port (s : State) (n : Nat) (f : AdcChan → AdcChan) (i : Nat) : (s.setChan n f).port i = s.port i := rfl
@[simp] theorem State.setChan_sub (s : State) (n : Nat) (f : AdcChan → AdcChan) (i : Nat) : (s.setChan n f).sub i = s.sub i := rfl
@[simp] theorem State.setChan_gooseOf (s : State) (n : Nat) (f : AdcChan → AdcChan) (i : Nat) : (s.setChan n f).gooseOf i = s.gooseOf i := rfl
@[simp] theorem State.setChan_irqCore (s : State) (n : Nat) (f : AdcChan → AdcChan) (i : Nat) : (s.setChan n f).irqCore i = s.irqCore i := rfl
@[simp] theorem State.setChan_base (s : State) (n : Nat) (f : AdcChan → AdcChan) (i : Nat) : (s.setChan n f).base i = s.base i := rfl
@[simp] theorem State.setChan_history (s : State) (n : Nat) (f : AdcChan → AdcChan) (i : Nat) : (s.setChan n f).history i = s.history i := rfl
@[simp] theorem State.setSlice_spoke (s : State) (i j : Nat) (f : AdcSlice → AdcSlice) (i : Nat) : (s.setSlice i j f).spoke i = s.spoke i := rfl
@[simp] theorem State.setSlice_cell (s : State) (i j : Nat) (f : AdcSlice → AdcSlice) (i : Nat) : (s.setSlice i j f).cell i = s.cell i := rfl
@[simp] theorem State.setSlice_arm (s : State) (i j : Nat) (f : AdcSlice → AdcSlice) (i : Nat) : (s.setSlice i j f).arm i = s.arm i := rfl
@[simp] theorem State.setSlice_flashOf (s : State) (i j : Nat) (f : AdcSlice → AdcSlice) (i : Nat) : (s.setSlice i j f).flashOf i = s.flashOf i := rfl
@[simp] theorem State.setSlice_eng (s : State) (i j : Nat) (f : AdcSlice → AdcSlice) (i : Nat) : (s.setSlice i j f).eng i = s.eng i := rfl
@[simp] theorem State.setSlice_fn (s : State) (i j : Nat) (f : AdcSlice → AdcSlice) (i : Nat) : (s.setSlice i j f).fn i = s.fn i := rfl
@[simp] theorem State.setSlice_chan (s : State) (i j : Nat) (f : AdcSlice → AdcSlice) (i : Nat) : (s.setSlice i j f).chan i = s.chan i := rfl
@[simp] theorem State.setSlice_queue (s : State) (i j : Nat) (f : AdcSlice → AdcSlice) (i : Nat) : (s.setSlice i j f).queue i = s.queue i := rfl
@[simp] theorem State.setSlice_lpc (s : State) (i j : Nat) (f : AdcSlice → AdcSlice) (i : Nat) : (s.setSlice i j f).lpc i = s.lpc i := rfl
@[simp] theorem State.setSlice_recd (s : State) (i j : Nat) (f : AdcSlice → AdcSlice) (i : Nat) : (s.setSlice i j f).recd i = s.recd i := rfl
@[simp] theorem State.setSlice_port (s : State) (i j : Nat) (f : AdcSlice → AdcSlice) (i : Nat) : (s.setSlice i j f).port i = s.port i := rfl
@[simp] theorem State.setSlice_sub (s : State) (i j : Nat) (f : AdcSlice → AdcSlice) (i : Nat) : (s.setSlice i j f).sub i = s.sub i := rfl
@[simp] theorem State.setSlice_gooseOf (s : State) (i j : Nat) (f : AdcSlice → AdcSlice) (i : Nat) : (s.setSlice i j f).gooseOf i = s.gooseOf i := rfl
@[simp] theorem State.setSlice_irqCore (s : State) (i j : Nat) (f : AdcSlice → AdcSlice) (i : Nat) : (s.setSlice i j f).irqCore i = s.irqCore i := rfl
@[simp] theorem State.setSlice_base (s : State) (i j : Nat) (f : AdcSlice → AdcSlice) (i : Nat) : (s.setSlice i j f).base i = s.base i := rfl
@[simp] theorem State.setSlice_history (s : State) (i j : Nat) (f : AdcSlice → AdcSlice) (i : Nat) : (s.setSlice i j f).history i = s.history i := rfl
@[simp] theorem State.setQueue_spoke (s : State) (q : Nat) (f : EventQ → EventQ) (i : Nat) : (s.setQueue q f).spoke i = s.spoke i := rfl
@[simp] theorem State.setQueue_cell (s : State) (q : Nat) (f : EventQ → EventQ) (i : Nat) : (s.setQueue q f).cell i = s.cell i := rfl
@[simp] theorem State.setQueue_arm (s : State) (q : Nat) (f : EventQ → EventQ) (i : Nat) : (s.setQueue q f).arm i = s.arm i := rfl
@[simp] theorem State.setQueue_flashOf (s : State) (q : Nat) (f : EventQ → EventQ) (i : Nat) : (s.setQueue q f).flashOf i = s.flashOf i := rfl
@[simp] theorem State.setQueue_eng (s : State) (q : Nat) (f : EventQ → EventQ) (i : Nat) : (s.setQueue q f).eng i = s.eng i := rfl
@[simp] theorem State.setQueue_fn (s : State) (q : Nat) (f : EventQ → EventQ) (i : Nat) : (s.setQueue q f).fn i = s.fn i := rfl
@[simp] theorem State.setQueue_chan (s : State) (q : Nat) (f : EventQ → EventQ) (i : Nat) : (s.setQueue q f).chan i = s.chan i := rfl
@[simp] theorem State.setQueue_lpc (s : State) (q : Nat) (f : EventQ → EventQ) (i : Nat) : (s.setQueue q f).lpc i = s.lpc i := rfl
@[simp] theorem State.setQueue_recd (s : State) (q : Nat) (f : EventQ → EventQ) (i : Nat) : (s.setQueue q f).recd i = s.recd i := rfl
@[simp] theorem State.setQueue_port (s : State) (q : Nat) (f : EventQ → EventQ) (i : Nat) : (s.setQueue q f).port i = s.port i := rfl
@[simp] theorem State.setQueue_sub (s : State) (q : Nat) (f : EventQ → EventQ) (i : Nat) : (s.setQueue q f).sub i = s.sub i := rfl
@[simp] theorem State.setQueue_gooseOf (s : State) (q : Nat) (f : EventQ → EventQ) (i : Nat) : (s.setQueue q f).gooseOf i = s.gooseOf i := rfl
@[simp] theorem State.setQueue_irqCore (s : State) (q : Nat) (f : EventQ → EventQ) (i : Nat) : (s.setQueue q f).irqCore i = s.irqCore i := rfl
@[simp] theorem State.setQueue_base (s : State) (q : Nat) (f : EventQ → EventQ) (i : Nat) : (s.setQueue q f).base i = s.base i := rfl
@[simp] theorem State.setQueue_history (s : State) (q : Nat) (f : EventQ → EventQ) (i : Nat) : (s.setQueue q f).history i = s.history i := rfl
@[simp] theorem State.setIrqCore_spoke (s : State) (t : Nat) (f : IrqCore → IrqCore) (i : Nat) : (s.setIrqCore t f).spoke i = s.spoke i := rfl
@[simp] theorem State.setIrqCore_cell (s : State) (t : Nat) (f : IrqCore → IrqCore) (i : Nat) : (s.setIrqCore t f).cell i = s.cell i := rfl
@[simp] theorem State.setIrqCore_arm (s : State) (t : Nat) (f : IrqCore → IrqCore) (i : Nat) : (s.setIrqCore t f).arm i = s.arm i := rfl
@[simp] theorem State.setIrqCore_flashOf (s : State) (t : Nat) (f : IrqCore → IrqCore) (i : Nat) : (s.setIrqCore t f).flashOf i = s.flashOf i := rfl
@[simp] theorem State.setIrqCore_eng (s : State) (t : Nat) (f : IrqCore → IrqCore) (i : Nat) : (s.setIrqCore t f).eng i = s.eng i := rfl
@[simp] theorem State.setIrqCore_fn (s : State) (t : Nat) (f : IrqCore → IrqCore) (i : Nat) : (s.setIrqCore t f).fn i = s.fn i := rfl
@[simp] theorem State.setIrqCore_chan (s : State) (t : Nat) (f : IrqCore → IrqCore) (i : Nat) : (s.setIrqCore t f).chan i = s.chan i := rfl
@[simp] theorem State.setIrqCore_queue (s : State) (t : Nat) (f : IrqCore → IrqCore) (i : Nat) : (s.setIrqCore t f).queue i = s.queue i := rfl
@[simp] theorem State.setIrqCore_lpc (s : State) (t : Nat) (f : IrqCore → IrqCore) (i : Nat) : (s.setIrqCore t f).lpc i = s.lpc i := rfl
@[simp] theorem State.setIrqCore_recd (s : State) (t : Nat) (f : IrqCore → IrqCore) (i : Nat) : (s.setIrqCore t f).recd i = s.recd i := rfl
@[simp] theorem State.setIrqCore_port (s : State) (t : Nat) (f : IrqCore → IrqCore) (i : Nat) : (s.setIrqCore t f).port i = s.port i := rfl
@[simp] theorem State.setIrqCore_sub (s : State) (t : Nat) (f : IrqCore → IrqCore) (i : Nat) : (s.setIrqCore t f).sub i = s.sub i := rfl
@[simp] theorem State.setIrqCore_gooseOf (s : State) (t : Nat) (f : IrqCore → IrqCore) (i : Nat) : (s.setIrqCore t f).gooseOf i = s.gooseOf i := rfl
@[simp] theorem State.setIrqCore_base (s : State) (t : Nat) (f : IrqCore → IrqCore) (i : Nat) : (s.setIrqCore t f).base i = s.base i := rfl
@[simp] theorem State.setIrqCore_history (s : State) (t : Nat) (f : IrqCore → IrqCore) (i : Nat) : (s.setIrqCore t f).history i = s.history i := rfl
@[simp] theorem State.setLp_spoke (s : State) (n : Nat) (f : LpChan → LpChan) (i : Nat) : (s.setLp n f).spoke i = s.spoke i := rfl
@[simp] theorem State.setLp_cell (s : State) (n : Nat) (f : LpChan → LpChan) (i : Nat) : (s.setLp n f).cell i = s.cell i := rfl
@[simp] theorem State.setLp_arm (s : State) (n : Nat) (f : LpChan → LpChan) (i : Nat) : (s.setLp n f).arm i = s.arm i := rfl
@[simp] theorem State.setLp_flashOf (s : State) (n : Nat) (f : LpChan → LpChan) (i : Nat) : (s.setLp n f).flashOf i = s.flashOf i := rfl
@[simp] theorem State.setLp_eng (s : State) (n : Nat) (f : LpChan → LpChan) (i : Nat) : (s.setLp n f).eng i = s.eng i := rfl
@[simp] theorem State.setLp_fn (s : State) (n : Nat) (f : LpChan → LpChan) (i : Nat) : (s.setLp n f).fn i = s.fn i := rfl
@[simp] theorem State.setLp_chan (s : State) (n : Nat) (f : LpChan → LpChan) (i : Nat) : (s.setLp n f).chan i = s.chan i := rfl
@[simp] theorem State.setLp_queue (s : State) (n : Nat) (f : LpChan → LpChan) (i : Nat) : (s.setLp n f).queue i = s.queue i := rfl
@[simp] theorem State.setLp_recd (s : State) (n : Nat) (f : LpChan → LpChan) (i : Nat) : (s.setLp n f).recd i = s.recd i := rfl
@[simp] theorem State.setLp_port (s : State) (n : Nat) (f : LpChan → LpChan) (i : Nat) : (s.setLp n f).port i = s.port i := rfl
@[simp] theorem State.setLp_sub (s : State) (n : Nat) (f : LpChan → LpChan) (i : Nat) : (s.setLp n f).sub i = s.sub i := rfl
@[simp] theorem State.setLp_gooseOf (s : State) (n : Nat) (f : LpChan → LpChan) (i : Nat) : (s.setLp n f).gooseOf i = s.gooseOf i := rfl
@[simp] theorem State.setLp_irqCore (s : State) (n : Nat) (f : LpChan → LpChan) (i : Nat) : (s.setLp n f).irqCore i = s.irqCore i := rfl
@[simp] theorem State.setLp_base (s : State) (n : Nat) (f : LpChan → LpChan) (i : Nat) : (s.setLp n f).base i = s.base i := rfl
@[simp] theorem State.setLp_history (s : State) (n : Nat) (f : LpChan → LpChan) (i : Nat) : (s.setLp n f).history i = s.history i := rfl
@[simp] theorem State.setRec_spoke (s : State) (d : Nat) (f : RecDef → RecDef) (i : Nat) : (s.setRec d f).spoke i = s.spoke i := rfl
@[simp] theorem State.setRec_cell (s : State) (d : Nat) (f : RecDef → RecDef) (i : Nat) : (s.setRec d f).cell i = s.cell i := rfl
@[simp] theorem State.setRec_arm (s : State) (d : Nat) (f : RecDef → RecDef) (i : Nat) : (s.setRec d f).arm i = s.arm i := rfl
@[simp] theorem State.setRec_flashOf (s : State) (d : Nat) (f : RecDef → RecDef) (i : Nat) : (s.setRec d f).flashOf i = s.flashOf i := rfl
@[simp] theorem State.setRec_eng (s : State) (d : Nat) (f : RecDef → RecDef) (i : Nat) : (s.setRec d f).eng i = s.eng i := rfl
@[simp] theorem State.setRec_fn (s : State) (d : Nat) (f : RecDef → RecDef) (i : Nat) : (s.setRec d f).fn i = s.fn i := rfl
@[simp] theorem State.setRec_chan (s : State) (d : Nat) (f : RecDef → RecDef) (i : Nat) : (s.setRec d f).chan i = s.chan i := rfl
@[simp] theorem State.setRec_queue (s : State) (d : Nat) (f : RecDef → RecDef) (i : Nat) : (s.setRec d f).queue i = s.queue i := rfl
@[simp] theorem State.setRec_lpc (s : State) (d : Nat) (f : RecDef → RecDef) (i : Nat) : (s.setRec d f).lpc i = s.lpc i := rfl
@[simp] theorem State.setRec_port (s : State) (d : Nat) (f : RecDef → RecDef) (i : Nat) : (s.setRec d f).port i = s.port i := rfl
@[simp] theorem State.setRec_sub (s : State) (d : Nat) (f : RecDef → RecDef) (i : Nat) : (s.setRec d f).sub i = s.sub i := rfl
@[simp] theorem State.setRec_gooseOf (s : State) (d : Nat) (f : RecDef → RecDef) (i : Nat) : (s.setRec d f).gooseOf i = s.gooseOf i := rfl
@[simp] theorem State.setRec_irqCore (s : State) (d : Nat) (f : RecDef → RecDef) (i : Nat) : (s.setRec d f).irqCore i = s.irqCore i := rfl
@[simp] theorem State.setRec_base (s : State) (d : Nat) (f : RecDef → RecDef) (i : Nat) : (s.setRec d f).base i = s.base i := rfl
@[simp] theorem State.setRec_history (s : State) (d : Nat) (f : RecDef → RecDef) (i : Nat) : (s.setRec d f).history i = s.history i := rfl
@[simp] theorem State.setPort_spoke (s : State) (n : Nat) (f : StpPort → StpPort) (i : Nat) : (s.setPort n f).spoke i = s.spoke i := rfl
@[simp] theorem State.setPort_cell (s : State) (n : Nat) (f : StpPort → StpPort) (i : Nat) : (s.setPort n f).cell i = s.cell i := rfl
@[simp] theorem State.setPort_arm (s : State) (n : Nat) (f : StpPort → StpPort) (i : Nat) : (s.setPort n f).arm i = s.arm i := rfl
@[simp] theorem State.setPort_flashOf (s : State) (n : Nat) (f : StpPort → StpPort) (i : Nat) : (s.setPort n f).flashOf i = s.flashOf i := rfl
@[simp] theorem State.setPort_eng (s : State) (n : Nat) (f : StpPort → StpPort) (i : Nat) : (s.setPort n f).eng i = s.eng i := rfl
@[simp] theorem State.setPort_fn (s : State) (n : Nat) (f : StpPort → StpPort) (i : Nat) : (s.setPort n f).fn i = s.fn i := rfl
@[simp] theorem State.setPort_chan (s : State) (n : Nat) (f : StpPort → StpPort) (i : Nat) : (s.setPort n f).chan i = s.chan i := rfl
@[simp] theorem State.setPort_queue (s : State) (n : Nat) (f : StpPort → StpPort) (i : Nat) : (s.setPort n f).queue i = s.queue i := rfl
@[simp] theorem State.setPort_lpc (s : State) (n : Nat) (f : StpPort → StpPort) (i : Nat) : (s.setPort n f).lpc i = s.lpc i := rfl
@[simp] theorem State.setPort_recd (s : State) (n : Nat) (f : StpPort → StpPort) (i : Nat) : (s.setPort n f).recd i = s.recd i := rfl
@[simp] theorem State.setPort_sub (s : State) (n : Nat) (f : StpPort → StpPort) (i : Nat) : (s.setPort n f).sub i = s.sub i := rfl
@[simp] theorem State.setPort_gooseOf (s : State) (n : Nat) (f : StpPort → StpPort) (i : Nat) : (s.setPort n f).gooseOf i = s.gooseOf i := rfl
@[simp] theorem State.setPort_irqCore (s : State) (n : Nat) (f : StpPort → StpPort) (i : Nat) : (s.setPort n f).irqCore i = s.irqCore i := rfl
@[simp] theorem State.setPort_base (s : State) (n : Nat) (f : StpPort → StpPort) (i : Nat) : (s.setPort n f).base i = s.base i := rfl
@[simp] theorem State.setPort_history (s : State) (n : Nat) (f : StpPort → StpPort) (i : Nat) : (s.setPort n f).history i = s.history i := rfl
@[simp] theorem State.setSub_spoke (s : State) (n : Nat) (f : SvSub → SvSub) (i : Nat) : (s.setSub n f).spoke i = s.spoke i := rfl
@[simp] theorem State.setSub_cell (s : State) (n : Nat) (f : SvSub → SvSub) (i : Nat) : (s.setSub n f).cell i = s.cell i := rfl
@[simp] theorem State.setSub_arm (s : State) (n : Nat) (f : SvSub → SvSub) (i : Nat) : (s.setSub n f).arm i = s.arm i := rfl
@[simp] theorem State.setSub_flashOf (s : State) (n : Nat) (f : SvSub → SvSub) (i : Nat) : (s.setSub n f).flashOf i = s.flashOf i := rfl
@[simp] theorem State.setSub_eng (s : State) (n : Nat) (f : SvSub → SvSub) (i : Nat) : (s.setSub n f).eng i = s.eng i := rfl
@[simp] theorem State.setSub_fn (s : State) (n : Nat) (f : SvSub → SvSub) (i : Nat) : (s.setSub n f).fn i = s.fn i := rfl
@[simp] theorem State.setSub_chan (s : State) (n : Nat) (f : SvSub → SvSub) (i : Nat) : (s.setSub n f).chan i = s.chan i := rfl
@[simp] theorem State.setSub_queue (s : State) (n : Nat) (f : SvSub → SvSub) (i : Nat) : (s.setSub n f).queue i = s.queue i := rfl
@[simp] theorem State.setSub_lpc (s : State) (n : Nat) (f : SvSub → SvSub) (i : Nat) : (s.setSub n f).lpc i = s.lpc i := rfl
@[simp] theorem State.setSub_recd (s : State) (n : Nat) (f : SvSub → SvSub) (i : Nat) : (s.setSub n f).recd i = s.recd i := rfl
@[simp] theorem State.setSub_port (s : State) (n : Nat) (f : SvSub → SvSub) (i : Nat) : (s.setSub n f).port i = s.port i := rfl
@[simp] theorem State.setSub_gooseOf (s : State) (n : Nat) (f : SvSub → SvSub) (i : Nat) : (s.setSub n f).gooseOf i = s.gooseOf i := rfl
@[simp] theorem State.setSub_irqCore (s : State) (n : Nat) (f : SvSub → SvSub) (i : Nat) : (s.setSub n f).irqCore i = s.irqCore i := rfl
@[simp] theorem State.setSub_base (s : State) (n : Nat) (f : SvSub → SvSub) (i : Nat) : (s.setSub n f).base i = s.base i := rfl
@[simp] theorem State.setSub_history (s : State) (n : Nat) (f : SvSub → SvSub) (i : Nat) : (s.setSub n f).history i = s.history i := rfl
@[simp] theorem State.setGoose_spoke (s : State) (n : Nat) (f : GooseFilter → GooseFilter) (i : Nat) : (s.setGoose n f).spoke i = s.spoke i := rfl
@[simp] theorem State.setGoose_cell (s : State) (n : Nat) (f : GooseFilter → GooseFilter) (i : Nat) : (s.setGoose n f).cell i = s.cell i := rfl
@[simp] theorem State.setGoose_arm (s : State) (n : Nat) (f : GooseFilter → GooseFilter) (i : Nat) : (s.setGoose n f).arm i = s.arm i := rfl
@[simp] theorem State.setGoose_flashOf (s : State) (n : Nat) (f : GooseFilter → GooseFilter) (i : Nat) : (s.setGoose n f).flashOf i = s.flashOf i := rfl
@[simp] theorem State.setGoose_eng (s : State) (n : Nat) (f : GooseFilter → GooseFilter) (i : Nat) : (s.setGoose n f).eng i = s.eng i := rfl
@[simp] theorem State.setGoose_fn (s : State) (n : Nat) (f : GooseFilter → GooseFilter) (i : Nat) : (s.setGoose n f).fn i = s.fn i := rfl
@[simp] theorem State.setGoose_chan (s : State) (n : Nat) (f : GooseFilter → GooseFilter) (i : Nat) : (s.setGoose n f).chan i = s.chan i := rfl
@[simp] theorem State.setGoose_queue (s : State) (n : Nat) (f : GooseFilter → GooseFilter) (i : Nat) : (s.setGoose n f).queue i = s.queue i := rfl
@[simp] theorem State.setGoose_lpc (s : State) (n : Nat) (f : GooseFilter → GooseFilter) (i : Nat) : (s.setGoose n f).lpc i = s.lpc i := rfl
@[simp] theorem State.setGoose_recd (s : State) (n : Nat) (f : GooseFilter → GooseFilter) (i : Nat) : (s.setGoose n f).recd i = s.recd i := rfl
@[simp] theorem State.setGoose_port (s : State) (n : Nat) (f : GooseFilter → GooseFilter) (i : Nat) : (s.setGoose n f).port i = s.port i := rfl
@[simp] theorem State.setGoose_sub (s : State) (n : Nat) (f : GooseFilter → GooseFilter) (i : Nat) : (s.setGoose n f).sub i = s.sub i := rfl
@[simp] theorem State.setGoose_irqCore (s : State) (n : Nat) (f : GooseFilter → GooseFilter) (i : Nat) : (s.setGoose n f).irqCore i = s.irqCore i := rfl
@[simp] theorem State.setGoose_base (s : State) (n : Nat) (f : GooseFilter → GooseFilter) (i : Nat) : (s.setGoose n f).base i = s.base i := rfl
@[simp] theorem State.setGoose_history (s : State) (n : Nat) (f : GooseFilter → GooseFilter) (i : Nat) : (s.setGoose n f).history i = s.history i := rfl
@[simp] theorem State.setBase_spoke (s : State) (n : Nat) (b : TimeBase) (i : Nat) : (s.setBase n b).spoke i = s.spoke i := rfl
@[simp] theorem State.setBase_cell (s : State) (n : Nat) (b : TimeBase) (i : Nat) : (s.setBase n b).cell i = s.cell i := rfl
@[simp] theorem State.setBase_arm (s : State) (n : Nat) (b : TimeBase) (i : Nat) : (s.setBase n b).arm i = s.arm i := rfl
@[simp] theorem State.setBase_flashOf (s : State) (n : Nat) (b : TimeBase) (i : Nat) : (s.setBase n b).flashOf i = s.flashOf i := rfl
@[simp] theorem State.setBase_eng (s : State) (n : Nat) (b : TimeBase) (i : Nat) : (s.setBase n b).eng i = s.eng i := rfl
@[simp] theorem State.setBase_fn (s : State) (n : Nat) (b : TimeBase) (i : Nat) : (s.setBase n b).fn i = s.fn i := rfl
@[simp] theorem State.setBase_chan (s : State) (n : Nat) (b : TimeBase) (i : Nat) : (s.setBase n b).chan i = s.chan i := rfl
@[simp] theorem State.setBase_queue (s : State) (n : Nat) (b : TimeBase) (i : Nat) : (s.setBase n b).queue i = s.queue i := rfl
@[simp] theorem State.setBase_lpc (s : State) (n : Nat) (b : TimeBase) (i : Nat) : (s.setBase n b).lpc i = s.lpc i := rfl
@[simp] theorem State.setBase_recd (s : State) (n : Nat) (b : TimeBase) (i : Nat) : (s.setBase n b).recd i = s.recd i := rfl
@[simp] theorem State.setBase_port (s : State) (n : Nat) (b : TimeBase) (i : Nat) : (s.setBase n b).port i = s.port i := rfl
@[simp] theorem State.setBase_sub (s : State) (n : Nat) (b : TimeBase) (i : Nat) : (s.setBase n b).sub i = s.sub i := rfl
@[simp] theorem State.setBase_gooseOf (s : State) (n : Nat) (b : TimeBase) (i : Nat) : (s.setBase n b).gooseOf i = s.gooseOf i := rfl
@[simp] theorem State.setBase_irqCore (s : State) (n : Nat) (b : TimeBase) (i : Nat) : (s.setBase n b).irqCore i = s.irqCore i := rfl
@[simp] theorem State.setBase_history (s : State) (n : Nat) (b : TimeBase) (i : Nat) : (s.setBase n b).history i = s.history i := rfl
@[simp] theorem State.accessFault_spoke (s : State) (u : Core) (addr : Nat) (i : Nat) : (s.accessFault u addr).spoke i = s.spoke i := rfl
@[simp] theorem State.accessFault_cell (s : State) (u : Core) (addr : Nat) (i : Nat) : (s.accessFault u addr).cell i = s.cell i := rfl
@[simp] theorem State.accessFault_arm (s : State) (u : Core) (addr : Nat) (i : Nat) : (s.accessFault u addr).arm i = s.arm i := rfl
@[simp] theorem State.accessFault_flashOf (s : State) (u : Core) (addr : Nat) (i : Nat) : (s.accessFault u addr).flashOf i = s.flashOf i := rfl
@[simp] theorem State.accessFault_eng (s : State) (u : Core) (addr : Nat) (i : Nat) : (s.accessFault u addr).eng i = s.eng i := rfl
@[simp] theorem State.accessFault_fn (s : State) (u : Core) (addr : Nat) (i : Nat) : (s.accessFault u addr).fn i = s.fn i := rfl
@[simp] theorem State.accessFault_chan (s : State) (u : Core) (addr : Nat) (i : Nat) : (s.accessFault u addr).chan i = s.chan i := rfl
@[simp] theorem State.accessFault_queue (s : State) (u : Core) (addr : Nat) (i : Nat) : (s.accessFault u addr).queue i = s.queue i := rfl
@[simp] theorem State.accessFault_lpc (s : State) (u : Core) (addr : Nat) (i : Nat) : (s.accessFault u addr).lpc i = s.lpc i := rfl
@[simp] theorem State.accessFault_recd (s : State) (u : Core) (addr : Nat) (i : Nat) : (s.accessFault u addr).recd i = s.recd i := rfl
@[simp] theorem State.accessFault_port (s : State) (u : Core) (addr : Nat) (i : Nat) : (s.accessFault u addr).port i = s.port i := rfl
@[simp] theorem State.accessFault_sub (s : State) (u : Core) (addr : Nat) (i : Nat) : (s.accessFault u addr).sub i = s.sub i := rfl
@[simp] theorem State.accessFault_gooseOf (s : State) (u : Core) (addr : Nat) (i : Nat) : (s.accessFault u addr).gooseOf i = s.gooseOf i := rfl
@[simp] theorem State.accessFault_irqCore (s : State) (u : Core) (addr : Nat) (i : Nat) : (s.accessFault u addr).irqCore i = s.irqCore i := rfl
@[simp] theorem State.accessFault_base (s : State) (u : Core) (addr : Nat) (i : Nat) : (s.accessFault u addr).base i = s.base i := rfl
@[simp] theorem State.accessFault_history (s : State) (u : Core) (addr : Nat) (i : Nat) : (s.accessFault u addr).history i = s.history i := rfl
@[simp] theorem State.imagePut_spoke (s : State) (c p : Nat) (v : BitVec 40) (i : Nat) : (s.imagePut c p v).spoke i = s.spoke i := rfl
@[simp] theorem State.imagePut_cell (s : State) (c p : Nat) (v : BitVec 40) (i : Nat) : (s.imagePut c p v).cell i = s.cell i := rfl
@[simp] theorem State.imagePut_arm (s : State) (c p : Nat) (v : BitVec 40) (i : Nat) : (s.imagePut c p v).arm i = s.arm i := rfl
@[simp] theorem State.imagePut_flashOf (s : State) (c p : Nat) (v : BitVec 40) (i : Nat) : (s.imagePut c p v).flashOf i = s.flashOf i := rfl
@[simp] theorem State.imagePut_eng (s : State) (c p : Nat) (v : BitVec 40) (i : Nat) : (s.imagePut c p v).eng i = s.eng i := rfl
@[simp] theorem State.imagePut_fn (s : State) (c p : Nat) (v : BitVec 40) (i : Nat) : (s.imagePut c p v).fn i = s.fn i := rfl
@[simp] theorem State.imagePut_chan (s : State) (c p : Nat) (v : BitVec 40) (i : Nat) : (s.imagePut c p v).chan i = s.chan i := rfl
@[simp] theorem State.imagePut_queue (s : State) (c p : Nat) (v : BitVec 40) (i : Nat) : (s.imagePut c p v).queue i = s.queue i := rfl
@[simp] theorem State.imagePut_lpc (s : State) (c p : Nat) (v : BitVec 40) (i : Nat) : (s.imagePut c p v).lpc i = s.lpc i := rfl
@[simp] theorem State.imagePut_recd (s : State) (c p : Nat) (v : BitVec 40) (i : Nat) : (s.imagePut c p v).recd i = s.recd i := rfl
@[simp] theorem State.imagePut_port (s : State) (c p : Nat) (v : BitVec 40) (i : Nat) : (s.imagePut c p v).port i = s.port i := rfl
@[simp] theorem State.imagePut_sub (s : State) (c p : Nat) (v : BitVec 40) (i : Nat) : (s.imagePut c p v).sub i = s.sub i := rfl
@[simp] theorem State.imagePut_gooseOf (s : State) (c p : Nat) (v : BitVec 40) (i : Nat) : (s.imagePut c p v).gooseOf i = s.gooseOf i := rfl
@[simp] theorem State.imagePut_irqCore (s : State) (c p : Nat) (v : BitVec 40) (i : Nat) : (s.imagePut c p v).irqCore i = s.irqCore i := rfl
@[simp] theorem State.imagePut_base (s : State) (c p : Nat) (v : BitVec 40) (i : Nat) : (s.imagePut c p v).base i = s.base i := rfl
@[simp] theorem State.imagePut_history (s : State) (c p : Nat) (v : BitVec 40) (i : Nat) : (s.imagePut c p v).history i = s.history i := rfl

end Sys2Proof.Machine
end

