-- ==== Sys2Proof/Laws/Encoding.lean ====
section
/-! SUPPORT. The fields of the words of R202: what each format puts where. -/

namespace Sys2Proof

/-- The field of width `w` at the bottom of an appended word is the lower part itself. -/
theorem extract_low {v w : Nat} (a : BitVec v) (b : BitVec w) : (a ++ b).extractLsb' 0 w = b := by
  apply BitVec.eq_of_getLsbD_eq
  intro i hi
  simp [BitVec.getLsbD_append, hi]

/-- A field above the lower part is a field of the upper part. -/
theorem extract_high {v w : Nat} (a : BitVec v) (b : BitVec w) (k n : Nat) : (a ++ b).extractLsb' (w + k) n = a.extractLsb' k n := by
  apply BitVec.eq_of_getLsbD_eq
  intro i hi
  simp [BitVec.getLsbD_append, Nat.add_assoc]

/-- A field inside the lower part. -/
theorem extract_in {v w : Nat} (a : BitVec v) (b : BitVec w) (k n : Nat) (h : k + n ≤ w) : (a ++ b).extractLsb' k n = b.extractLsb' k n := by
  apply BitVec.eq_of_getLsbD_eq
  intro i hi
  have : k + i < w := by omega
  simp [BitVec.getLsbD_append, this]

/-- A whole bit vector as a field. -/
theorem extract_all {w : Nat} (a : BitVec w) : a.extractLsb' 0 w = a := by
  apply BitVec.eq_of_getLsbD_eq
  intro i hi
  simp [hi]

/-! The fields of each format. -/

theorem wordR_fields (op : BitVec 6) (rd : BitVec 4) (rs1 : BitVec 4) (rs2 : BitVec 4) (fn : BitVec 14) :
    (wordR op rd rs1 rs2 fn).extractLsb' 26 6 = op ∧
    (wordR op rd rs1 rs2 fn).extractLsb' 22 4 = rd ∧
    (wordR op rd rs1 rs2 fn).extractLsb' 18 4 = rs1 ∧
    (wordR op rd rs1 rs2 fn).extractLsb' 14 4 = rs2 ∧
    (wordR op rd rs1 rs2 fn).extractLsb' 0 14 = fn := by
  unfold wordR
  refine ⟨?_, ?_, ?_, ?_, extract_low _ _⟩
  · rw [extract_high _ fn 12 6, extract_high _ rs2 8 6, extract_high _ rs1 4 6, extract_high _ rd 0 6, extract_all]
  · rw [extract_high _ fn 8 4, extract_high _ rs2 4 4, extract_high _ rs1 0 4, extract_low]
  · rw [extract_high _ fn 4 4, extract_high _ rs2 0 4, extract_low]
  · rw [extract_high _ fn 0 4, extract_low]

theorem wordA_fields (op : BitVec 6) (rx : BitVec 4) (rs1 : BitVec 4) (rs2 : BitVec 4) (fn : BitVec 12) (acc : BitVec 2) :
    (wordA op rx rs1 rs2 fn acc).extractLsb' 26 6 = op ∧
    (wordA op rx rs1 rs2 fn acc).extractLsb' 22 4 = rx ∧
    (wordA op rx rs1 rs2 fn acc).extractLsb' 18 4 = rs1 ∧
    (wordA op rx rs1 rs2 fn acc).extractLsb' 14 4 = rs2 ∧
    (wordA op rx rs1 rs2 fn acc).extractLsb' 2 12 = fn ∧
    (wordA op rx rs1 rs2 fn acc).extractLsb' 0 2 = acc := by
  unfold wordA
  refine ⟨?_, ?_, ?_, ?_, ?_, extract_low _ _⟩
  · rw [extract_high _ acc 24 6, extract_high _ fn 12 6, extract_high _ rs2 8 6, extract_high _ rs1 4 6, extract_high _ rx 0 6, extract_all]
  · rw [extract_high _ acc 20 4, extract_high _ fn 8 4, extract_high _ rs2 4 4, extract_high _ rs1 0 4, extract_low]
  · rw [extract_high _ acc 16 4, extract_high _ fn 4 4, extract_high _ rs2 0 4, extract_low]
  · rw [extract_high _ acc 12 4, extract_high _ fn 0 4, extract_low]
  · rw [extract_high _ acc 0 12, extract_low]

theorem wordF_fields (op : BitVec 6) (rd : BitVec 4) (rs1 : BitVec 4) (rs2 : BitVec 4) (rm : BitVec 3) (fn : BitVec 11) :
    (wordF op rd rs1 rs2 rm fn).extractLsb' 26 6 = op ∧
    (wordF op rd rs1 rs2 rm fn).extractLsb' 22 4 = rd ∧
    (wordF op rd rs1 rs2 rm fn).extractLsb' 18 4 = rs1 ∧
    (wordF op rd rs1 rs2 rm fn).extractLsb' 14 4 = rs2 ∧
    (wordF op rd rs1 rs2 rm fn).extractLsb' 11 3 = rm ∧
    (wordF op rd rs1 rs2 rm fn).extractLsb' 0 11 = fn := by
  unfold wordF
  refine ⟨?_, ?_, ?_, ?_, ?_, extract_low _ _⟩
  · rw [extract_high _ fn 15 6, extract_high _ rm 12 6, extract_high _ rs2 8 6, extract_high _ rs1 4 6, extract_high _ rd 0 6, extract_all]
  · rw [extract_high _ fn 11 4, extract_high _ rm 8 4, extract_high _ rs2 4 4, extract_high _ rs1 0 4, extract_low]
  · rw [extract_high _ fn 7 4, extract_high _ rm 4 4, extract_high _ rs2 0 4, extract_low]
  · rw [extract_high _ fn 3 4, extract_high _ rm 0 4, extract_low]
  · rw [extract_high _ fn 0 3, extract_low]

theorem wordV_fields (op : BitVec 6) (rd : BitVec 4) (rs1 : BitVec 4) (rs2 : BitVec 4) (kind : BitVec 4) (rk : BitVec 4) (rp : BitVec 4) (j : BitVec 2) :
    (wordV op rd rs1 rs2 kind rk rp j).extractLsb' 26 6 = op ∧
    (wordV op rd rs1 rs2 kind rk rp j).extractLsb' 22 4 = rd ∧
    (wordV op rd rs1 rs2 kind rk rp j).extractLsb' 18 4 = rs1 ∧
    (wordV op rd rs1 rs2 kind rk rp j).extractLsb' 14 4 = rs2 ∧
    (wordV op rd rs1 rs2 kind rk rp j).extractLsb' 10 4 = kind ∧
    (wordV op rd rs1 rs2 kind rk rp j).extractLsb' 6 4 = rk ∧
    (wordV op rd rs1 rs2 kind rk rp j).extractLsb' 2 4 = rp ∧
    (wordV op rd rs1 rs2 kind rk rp j).extractLsb' 0 2 = j := by
  unfold wordV
  refine ⟨?_, ?_, ?_, ?_, ?_, ?_, ?_, extract_low _ _⟩
  · rw [extract_high _ j 24 6, extract_high _ rp 20 6, extract_high _ rk 16 6, extract_high _ kind 12 6, extract_high _ rs2 8 6, extract_high _ rs1 4 6, extract_high _ rd 0 6, extract_all]
  · rw [extract_high _ j 20 4, extract_high _ rp 16 4, extract_high _ rk 12 4, extract_high _ kind 8 4, extract_high _ rs2 4 4, extract_high _ rs1 0 4, extract_low]
  · rw [extract_high _ j 16 4, extract_high _ rp 12 4, extract_high _ rk 8 4, extract_high _ kind 4 4, extract_high _ rs2 0 4, extract_low]
  · rw [extract_high _ j 12 4, extract_high _ rp 8 4, extract_high _ rk 4 4, extract_high _ kind 0 4, extract_low]
  · rw [extract_high _ j 8 4, extract_high _ rp 4 4, extract_high _ rk 0 4, extract_low]
  · rw [extract_high _ j 4 4, extract_high _ rp 0 4, extract_low]
  · rw [extract_high _ j 0 4, extract_low]

theorem wordI_fields (op : BitVec 6) (a b : BitVec 4) (x : BitVec 18) :
    (wordI op a b x).extractLsb' 26 6 = op ∧ (wordI op a b x).extractLsb' 22 4 = a ∧ (wordI op a b x).extractLsb' 18 4 = b ∧
    (wordI op a b x).extractLsb' 0 18 = x := by
  unfold wordI
  refine ⟨?_, ?_, ?_, extract_low _ _⟩
  · rw [extract_high _ x 8 6, extract_high _ b 4 6, extract_high _ a 0 6, extract_all]
  · rw [extract_high _ x 4 4, extract_high _ b 0 4, extract_low]
  · rw [extract_high _ x 0 4, extract_low]

theorem wordL_fields (op : BitVec 6) (a : BitVec 4) (x : BitVec 22) :
    (wordL op a x).extractLsb' 26 6 = op ∧ (wordL op a x).extractLsb' 22 4 = a ∧ (wordL op a x).extractLsb' 0 22 = x := by
  unfold wordL
  refine ⟨?_, ?_, extract_low _ _⟩
  · rw [extract_high _ x 4 6, extract_high _ a 0 6, extract_all]
  · rw [extract_high _ x 0 4, extract_low]

theorem wordB_fields (op : BitVec 6) (a b : BitVec 4) (c : BitVec 3) (x : BitVec 15) :
    (wordB op a b c x).extractLsb' 26 6 = op ∧ (wordB op a b c x).extractLsb' 22 4 = a ∧ (wordB op a b c x).extractLsb' 18 4 = b ∧
    (wordB op a b c x).extractLsb' 15 3 = c ∧ (wordB op a b c x).extractLsb' 0 15 = x := by
  unfold wordB
  refine ⟨?_, ?_, ?_, ?_, extract_low _ _⟩
  · rw [extract_high _ x 11 6, extract_high _ c 8 6, extract_high _ b 4 6, extract_high _ a 0 6, extract_all]
  · rw [extract_high _ x 7 4, extract_high _ c 4 4, extract_high _ b 0 4, extract_low]
  · rw [extract_high _ x 3 4, extract_high _ c 0 4, extract_low]
  · rw [extract_high _ x 0 3, extract_low]

end Sys2Proof
end

