-- ==== Sys2Proof/Machine/Words.lean ====
section
/-! DEFINITION. A word of an engine's instruction memory as the engine runs it (R202 to R204): the command it spells, and an illegal
instruction where it spells none. -/

namespace Sys2Proof.Machine

/-- Engine `e` runs the word `w`; an unlisted major opcode, function or kind is illegal (R204; log 157). When a DONE is counted and where
a long instruction is interrupted are no part of the word. -/
def runWord (e : Fin 32) (tick : BitVec 17) (stop : Option Nat) (w : BitVec 32) (s : State) : Host.Outcome State Fault Refusal :=
  match ceOfWord e tick stop w with
  | some c => exec c s
  | none => .next (if s.executing e then s.illegal e else s)

/-- Engine `e` runs the word at its PC. -/
def runNext (e : Fin 32) (tick : BitVec 17) (stop : Option Nat) (s : State) : Host.Outcome State Fault Refusal :=
  runWord e tick stop (FMap.get 0 (s.eng e).imem (s.eng e).pc) s

end Sys2Proof.Machine
end

