-- ==== Sys2Proof/WellFormed.lean ====
section
/-! DEFINITION. When a command is one the block can receive: the counts and field widths that the operand types leave open. The
meanings answer every command; these are the commands the manual speaks of. -/

namespace Sys2Proof

/-- The fields of a return burst fit their places (R129). -/
def Return.wf (r : Return) : Bool :=
  decide (r.rver < 16) && decide (r.slot < 128) && decide (r.cstate < 16)

/-- The fields of a discovery burst fit their places (R130). -/
def Discovery.wf (d : Discovery) : Bool := decide (d.rver < 16) && decide (d.slot < 128) && decide (d.r < 65536)

/-- The bits of a burst after its preamble: delimiter and 36 bytes of line code at G0, delimiter and blocks at G1 to G4 (R93, R129). -/
def burstWf (bits : List Bool) : Bool := decide (bits.length = 330) || decide (bits.length = 360)

/-- A granule lies in its memory; a function asks in C2 or C3, and of the DMA engines of these classes there are three; a sample record
comes in C1 from a receive path to the SRAM, and rows are of the DRAM (R17, R409, R410, R411, R416). -/
def Granule.wf (g : Granule) : Bool :=
  decide (g.addr < (match g.res with | .sram => 0x2D00000 | .dram => 0x100000000 | .die => 1 | .hif => 1)) &&
    (match g.who with | .fn _ => g.cls != .c1 | .dma k => g.cls == .c1 || decide (k.val < 3)) &&
    (g.sample.isNone || (g.cls == .c1 && g.who == .dma 0 && g.res == .sram)) && (g.opens.isNone || g.res == .dram)

/-- A command of the manual: eight strap readings and each fuse word once (R66, R69), sixteen CTLE steps and cadence readings
(R98, R532), five island samples (R457), at most eight slots a turn (R376), whole bursts, 16 bytes of a bulk entry (R374), and granules of their memory. -/
def Instr.wf : Instr → Bool
  | .startSequence fuses strap _ _ => decide (strap.length = 8) && decide (fuses.map (·.word)).Nodup
  | .fuseReread reads => decide (reads.map (·.word)).Nodup
  | .ctleSweep _ eyes => decide (eyes.length = 16)
  | .cadenceUpdate readings => decide (readings.length = 16)
  | .safetyCycle samples _ _ _ => decide (samples.length = 5)
  | .returnBurstReceive _ _ _ bits => burstWf bits
  | .discoveryBurst _ _ bits => burstWf bits
  | .shedWindow reqs => reqs.all (·.wf)
  | .descriptorFetch _ slots => decide (slots.length ≤ 8) &&
      slots.all (fun x => match x with | .slot d => d.bytes.length == 64 || d.bytes.length == 128 | .error => true | .timeout => true)
  | .bulkBufferFill _ entry => decide (entry.length = 16)
  | _ => true

end Sys2Proof
end

