-- ==== Sys2Proof/Tests/Slice0.lean ====
section
/-! SUPPORT. Small tests by the kernel: ill-formed commands are refused, words written out from the manual decode, and the hypotheses
of the statements are met. -/

namespace Sys2Proof.Machine

open Sys2Proof

/-! ### Ill-formed commands: one for each check of WellFormed -/

/-- A fetched descriptor of `n` bytes. -/
def aRead (n : Nat) : SlotRead := ⟨List.replicate n 0, true, .read, ⟨[], ⟨0, [], [], true, true, ⟨[], 0, 0, true, true, true, true, []⟩⟩⟩⟩

theorem test_wf_strap : (Instr.startSequence [] [1, 2] 0 ⟨true, false⟩).wf = false := by decide
theorem test_wf_strap_ok : (Instr.startSequence [] (List.replicate 8 1) 0 ⟨true, false⟩).wf = true := by decide
theorem test_wf_fuse_twice : (Instr.fuseReread [⟨3, 0, 0, 0⟩, ⟨3, 1, 1, 1⟩]).wf = false := by decide
theorem test_wf_start_fuse_twice : (Instr.startSequence [⟨3, 0, 0, 0⟩, ⟨3, 1, 1, 1⟩] (List.replicate 8 1) 0 ⟨true, false⟩).wf = false := by decide
theorem test_wf_ctle : (Instr.ctleSweep 0 [(1, 1)]).wf = false := by decide
theorem test_wf_cadence : (Instr.cadenceUpdate (List.replicate 17 5)).wf = false := by decide
theorem test_wf_samples : (Instr.safetyCycle [0, 0, 0, 0] 0 false true).wf = false := by decide
theorem test_wf_return : (Instr.returnBurstReceive 0 0 0 (List.replicate 329 false)).wf = false := by decide +kernel
theorem test_wf_return_ok : (Instr.returnBurstReceive 0 0 0 (List.replicate 330 false)).wf = true := by decide +kernel
theorem test_wf_discovery : (Instr.discoveryBurst 0 0 (List.replicate 361 false)).wf = false := by decide +kernel
theorem test_wf_discovery_ok : (Instr.discoveryBurst 0 0 (List.replicate 360 false)).wf = true := by decide +kernel
theorem test_wf_fetch : (Instr.descriptorFetch 0 (List.replicate 9 .error)).wf = false := by decide +kernel
theorem test_wf_fetch_bytes : (Instr.descriptorFetch 0 [.error, .slot (aRead 65)]).wf = false := by decide +kernel
theorem test_wf_fetch_ok : (Instr.descriptorFetch 0 [.timeout, .slot (aRead 128)]).wf = true := by decide +kernel
theorem test_wf_shed_end : (Instr.shedWindow [⟨.c1, .dma 0, .sram, 0x2D00000, none, none⟩]).wf = false := by decide +kernel
theorem test_wf_shed_class : (Instr.shedWindow [⟨.c1, .fn 0, .sram, 0, none, none⟩]).wf = false := by decide +kernel
theorem test_wf_shed_sample : (Instr.shedWindow [⟨.c1, .dma 1, .sram, 0, some 5, none⟩]).wf = false := by decide +kernel
theorem test_wf_shed_row : (Instr.shedWindow [⟨.c2, .fn 0, .sram, 0, none, some ⟨7, false⟩⟩]).wf = false := by decide +kernel
theorem test_wf_shed_ok : (Instr.shedWindow [⟨.c1, .dma 0, .sram, 0x2CFFFFF, none, none⟩]).wf = true := by decide +kernel

/-! ### Words of the engines, bit by bit from R202 and R203 -/

theorem test_word_addi (e : Fin 32) (k : BitVec 17) (o : Option Nat) :
    ceOfWord e k o 0b000010_0011_0001_111111111111111011#32 = some (.ceAddi e 3 1 0x3FFFB#18) := rfl
theorem test_word_lil (e : Fin 32) (k : BitVec 17) (o : Option Nat) :
    ceOfWord e k o 0b001001_0110_0000000101000010010000#32 = some (.ceLil e 6 0x5090#22) := rfl
theorem test_word_st (e : Fin 32) (k : BitVec 17) (o : Option Nat) :
    ceOfWord e k o 0b010001_0101_0111_000000000000000011#32 = some (.ceSt e 5 7 3#18) := rfl
theorem test_word_ordstat (e : Fin 32) (k : BitVec 17) (o : Option Nat) :
    ceOfWord e k o 0b110000_0101_0010_0011_0001_0100_0110_00#32 = some (.ceOrdstatM e 5 2 3 4 6 0 o) := rfl
theorem test_word_mac (e : Fin 32) (k : BitVec 17) (o : Option Nat) :
    ceOfWord e k o 0b011000_0000_0001_0010_000000000001_11#32 = some (.ceMac e 0 1 2 3) := rfl
theorem test_word_fsub (e : Fin 32) (k : BitVec 17) (o : Option Nat) :
    ceOfWord e k o 0b011100_0011_0001_0010_000_00000000001#32 = some (.ceFsub e 3 1 2 0) := rfl
theorem test_word_br (e : Fin 32) (k : BitVec 17) (o : Option Nat) :
    ceOfWord e k o 0b100000_0001_0010_101_000000000000111#32 = some (.ceBr e 1 2 5 7) := rfl
theorem test_word_unlisted (e : Fin 32) (k : BitVec 17) (o : Option Nat) :
    ceOfWord e k o 0b111111_0001_0010_101_000000000000111#32 = none := rfl
theorem test_word_fadd_of_manual : ceWord (.ceAddi 0 5 5 1) = some 0x09540001#32 := by decide

/-! ### The hypotheses of the statements are met: for each statement, and for its clauses where they meet -/

set_option Elab.async false

/-- The state after reset, with these register fields. -/
abbrev at' (l : List (Field × Nat)) : State := State.reset.wrs l
/-- The same, with TB3 at a second and a nanosecond. -/
abbrev atTime (sec ns : Nat) (l : List (Field × Nat)) : State := (at' l).setBase 3 ⟨sec, ns, 0⟩

theorem met_StepRunsTheFrontCommand : ({ State.reset with pending := [.feedLost .a, .feedLost .b] } : State).pending = .feedLost .a :: [.feedLost .b] ∧ State.reset.pending = [] := by decide +kernel
theorem met_EngineWords : ceOfWord 0 0 none 0b000010_0011_0001_111111111111111011#32 = some (.ceAddi 0 3 1 0x3FFFB#18) ∧
    ceWord (.ceAddi 0 3 1 0x3FFFB#18) = some 0b000010_0011_0001_111111111111111011#32 := by decide +kernel
theorem met_RoundedOnce : f40Finite fOne = true ∧ f40Finite (fAdd .nearest fOne fOne).val = true ∧ f40Finite (fSub .down fOne fOne).val = true ∧ f40Finite (fMul .up fOne fOne).val = true := by decide +kernel
theorem met_SchedulerStaysSound : TasksSound State.reset ∧ ∃ t, step State.reset = .next t := ⟨by decide +kernel, _, rfl⟩
theorem met_MemoriesStayCanonical : MapsCanonical State.reset ∧ ∃ t, step State.reset = .next t := ⟨⟨rfl, fun _ => ⟨rfl, rfl, rfl, rfl⟩, rfl, rfl, rfl, rfl, rfl, rfl, rfl, rfl, rfl⟩, _, rfl⟩
theorem met_QueueAndFusesKept : ∃ t, step State.reset = .next t := ⟨_, rfl⟩
theorem met_CadenceAndMargin :
    let s := at' [(Fld.HKP_CAD_CFG2_K_LOWER, 4), (Fld.HKP_CAD_STAT_K, 5), (Fld.HKP_RAIL_CFG_CORE_FLOOR_MV, 600), (Fld.HKP_RAIL_STAT_CORE_SET_MV, 601)]
    let u : State := { s with cad := { s.cad with shed := 1, calm := 100 } }
    let v : State := { s with cad := { s.cad with shed := 2, calm := 99 } }
    s.cad.shed = 0 ∧ s.rd Fld.HKP_CAD_CFG2_K_LOWER < s.rd Fld.HKP_CAD_STAT_K ∧ s.rd Fld.HKP_RAIL_CFG_CORE_FLOOR_MV < s.rd Fld.HKP_RAIL_STAT_CORE_SET_MV ∧
    0 < u.cad.shed ∧ 100 ≤ u.cad.calm ∧ 0 < v.cad.shed ∧ v.cad.calm < 100 ∧ mayWrite (.mgc 2) 13 = true := by decide +kernel
theorem met_FansAndPerturbation :
    let s := atTime 60 0 [(Fld.HKP_FAN_STAT_STATE 7, 1), (Fld.HKP_FAN_STAT_RETRIES 7, 3), (Fld.HKP_FAN_STAT_STATE 6, 4), (Fld.HKP_FAN_STAT_STATE 5, 2), (Fld.HKP_FAN_STAT_STATE 4, 3), (Fld.HKP_FAN_STAT_STATE 3, 1), (Fld.SEC_LC_STATE, 2)]
    FanIn 7 1 3 s ∧ s.rd (Fld.HKP_FAN_STAT_RETRIES 7) = 3 ∧ FanIn 3 1 3 s ∧ s.rd (Fld.HKP_FAN_STAT_RETRIES 3) < 3 ∧ FanIn 4 3 10 s ∧ FanIn 5 2 60 s ∧
    (FMap.get FanTime.reset s.fans 5).edge + 800000000 ≤ s.nowTick ∧ s.rd (Fld.HKP_FAN_STAT_STATE 6) = 4 ∧ s.rd Fld.SEC_LC_STATE = 2 ∧
    s.pertAllowed 2 = true ∧ pertValueOk 1 100 = true ∧ pertValueOk 1 101 = false ∧ State.reset.pertAllowed 2 = false ∧
    mayWrite (.mgc 2) 13 = true ∧ mayWrite (.mgc 1) 13 = false := by decide +kernel
theorem met_ResetsAreTaken :
    let r := State.reset.rst
    let s : State := { State.reset with rst := { r with runWdt := true, ordered := some 5, recoveryDone := some 0, phase := .hold .recovery } }
    let u := (s.setBase 3 ⟨1, 0, 0⟩).wrs [(Fld.RST_CFG_PARTNER_EN, 1), (Fld.TND_STAT_STATE, 2)]
    s.rst.runWdt = true ∧ s.debugHalted = false ∧ s.rst.startWdt = true ∧ s.rst.ordered = some 5 ∧ s.rst.phase ≠ .hold .storm ∧
    u.flag Fld.RST_CFG_PARTNER_EN = true ∧ u.activeOrSolo = false ∧ u.rst.recoveryDone = some 0 ∧ u.rst.phase = .hold .recovery ∧
    0 + 800000000 ≤ u.nowTick ∧ s.nowTick < 0 + 800000000 ∧ State.reset.rst.ordered = none := by decide +kernel
theorem met_StartSequenceSteps :
    let r := State.reset.rst
    let s (p : Phase) : State := { State.reset with rst := { r with phase := p } }
    (s .held).rst.phase = .held ∧ (s .held).rst.resetnLow = false ∧ (s .held).rst.porstLow = false ∧ State.reset.rst.phase = .waitClock ∧
    (s .starting).rst.phase = .starting ∧ (s .started).rst.phase = .started ∧ (s .configured).rst.phase = .configured ∧
    mayWrite (.mgc 0) 12 = true := by decide +kernel
theorem met_TamperAndFirmware :
    let s := atTime 60 0 [(Fld.RST_BACKUP_STAT_TAMP_NEXT, 7), (Fld.RST_FW_STAT_TRIAL, 1), (Fld.RST_FW_CFG_AUTO_CONFIRM, 1)]
    let u : State := { s with rst := { s.rst with phase := .started } }
    s.rd Fld.RST_BACKUP_STAT_TAMP_NEXT < 8 ∧ u.flag Fld.RST_FW_STAT_TRIAL = true ∧ u.flag Fld.RST_FW_CFG_AUTO_CONFIRM = true ∧ u.started = true ∧
    u.healthy = true ∧ u.rd Fld.TND_CFG_ROLE = 0 ∧ u.rst.doneAt + 60 * 800000000 ≤ u.nowTick ∧ u.rst.healthEnd ≤ u.nowTick ∧ u.tndState = 0 ∧
    State.reset.staging = none ∧ mayWrite (.mgc 3) 12 = true := by decide +kernel
theorem met_TamperAndFirmware_deferred :
    let r := State.reset.rst
    let s := at' [(Fld.TND_STAT_STATE, 4), (Fld.TND_STAT_TWIN_READY, 1)]
    let u : State := { s with rst := { r with deferred := true, healthEnd := 5, phase := .started } }
    let v : State := { State.reset with rst := { r with deferred := true } }
    u.rst.deferred = true ∧ u.mayBegin = true ∧ u.tndState = 4 ∧ u.flag Fld.TND_STAT_TWIN_READY = true ∧ u.nowTick < u.rst.healthEnd ∧
    v.rst.deferred = true ∧ v.mayBegin = true ∧ v.flag Fld.TND_STAT_TWIN_READY = false ∧ v.allServedBlocked = true ∧ v.rst.phase ≠ .hold .storm := by decide +kernel
theorem met_MemoryCommands :
    let s := at' [(Fld.MEM_BANKSTAT_STATE 63, 1), (Fld.MEM_CFG_AUTO, 1), (Fld.MEM_CFG_CORR_LIMIT, 9), (Fld.MEM_BANKMAP_PHYS 59, 59)]
    let u := at' [(Fld.MEM_BANKSTAT_STATE 60, 4), (Fld.MEM_BANKSTAT_STATE 61, 4), (Fld.MEM_BANKSTAT_STATE 63, 4), (Fld.MEM_BANKSTAT_STATE 62, 3), (Fld.MEM_BANKSTAT_LOGICAL 62, 59), (Fld.MEM_BANKMAP_PHYS 59, 61)]
    s.rd (Fld.MEM_BANKSTAT_STATE (s.rd (Fld.MEM_BANKMAP_PHYS 59))) = 0 ∧ s.bankIn 1 = some 60 ∧ s.flag Fld.MEM_CFG_AUTO = true ∧ s.rd Fld.MEM_CFG_CORR_LIMIT < 10 ∧
    u.swapTarget 59 = some 62 ∧ u.rd (Fld.MEM_BANKMAP_PHYS 59) ≠ 62 ∧ u.rd (Fld.MEM_BANKMAP_PHYS 59) < 64 ∧ s.swapTarget 59 = none ∧
    u.bankIn 1 = none ∧ u.swapping 59 = false ∧ mayWrite (.mgc 0) 17 = true ∧ mayWrite (.mgc 0) 18 = true ∧
    (let q : State := { s with qos := { QosUnit.reset with waiting := [(⟨.c2, .fn 3, .dram, 64, none, some ⟨9, true⟩⟩, false)], rows := [(9, 4096), (10, 4095)] } }
     (⟨.c2, .fn 3, .dram, 64, none, some ⟨9, true⟩⟩ : Granule) ∈ q.qos.waiting.map (·.1) ∧ 4096 ≤ FMap.get 0 q.qos.rows (9 : BitVec 32).toNat) := by decide +kernel
theorem test_targetedRowRefresh :
    (match exec .targetedRowRefresh ({ State.reset with qos := { QosUnit.reset with rows := [(9, 4096), (10, 4095)] } }) with
     | .next t => decide (t.rd Fld.MEM_CNT_TRR_CNT = 1) && decide (t.qos.rows = [(10, 4095)]) | _ => false) = true := by decide +kernel

/-- Engine 31 as it executes, with the rest of it and register fields given. -/
abbrev engAt (k : Engine → Engine) (l : List (Field × Nat)) : State :=
  (at' ((Fld.CE_STAT_STATE 31, 2) :: l)).setEng 31 (fun g => k { g with running := true })

theorem met_EngineAluInstructions : (engAt id []).executing 31 = true ∧ State.reset.executing 31 = false := by decide +kernel
theorem met_EngineImmediateInstructions : (engAt id []).executing 31 = true ∧ (63 : BitVec 18).toNat < 64 ∧ 64 ≤ (64 : BitVec 18).toNat ∧ (0x3FFFF : BitVec 22).toNat < 2 ^ 18 ∧ 2 ^ 18 ≤ (0x40000 : BitVec 22).toNat := by decide +kernel
theorem met_EngineMacInstructions_AccumulatorRounding : (engAt (fun g => { g with acc := [(3, 0x7FFFFFFFFF)] }) []).executing 31 = true := by decide +kernel
theorem met_EngineF40Instructions : (engAt id []).executing 31 = true ∧ (4 : BitVec 3).toNat ≤ 4 ∧ 4 < (5 : BitVec 3).toNat := by decide +kernel
theorem met_SubtractionAddsTheNegated :
    let s := engAt (fun g => { g with x := [(1, 0x3F80000000), (2, 0x3F80000000)] }) []
    s.executing 31 = true ∧ (3 : BitVec 4) ≠ 1 ∧ (0 : BitVec 3).toNat ≤ 4 ∧ ∃ u v w, exec (.ceFsub 31 4 1 2 0) s = .next u ∧ exec (.ceFneg 31 3 2 2 0) s = .next v ∧ exec (.ceFadd 31 4 1 3 0) v = .next w :=
  ⟨by decide +kernel, by decide, by decide, _, _, _, rfl, rfl, rfl⟩
theorem met_EngineLoadsAndStores :
    let s := engAt (fun g => { g with x := [(1, 0x7FFF)] }) []
    addrOk ((s.eng 31).addr 1 0) = true ∧ addrOk ((s.eng 31).addr 1 1) = false := by decide +kernel
theorem met_EngineControlInstructions :
    let g := (engAt (fun g => { g with pc := 16383, x := [(1, 5)], stagedN := 64 }) []).eng 31
    let h := (engAt (fun g => { g with hnd := true, c0Idle := true }) []).eng 31
    let d := engAt id [(Fld.SEC_LC_STATE, 4)]
    let s : State := { d with sec := { d.sec with debug := true } }
    g.getX 1 ≠ g.getX 2 ∧ (g.pc : Int) + (-16383 : BitVec 15).toInt = 0 ∧ (16384 : Int) ≤ g.pc + (1 : BitVec 15).toInt ∧ (g.csr 7).isSome = true ∧
    g.csr 8 = none ∧ 64 ≤ g.stagedN ∧ g.hnd = false ∧ g.ended = false ∧ h.hnd = true ∧ h.c0Idle = true ∧ h.waitC = false ∧ h.staged = [] ∧
    (s.eng 31).hnd = false ∧ (s.eng 31).stagedN < 64 ∧ s.mayDebug (32 + 31) = true ∧ (32 + 31) ∉ s.halted ∧ State.reset.mayDebug (32 + 31) = false := by decide +kernel
theorem met_EngineControlInstructions_done :
    let s : State := { engAt id [] with force := [(Fld.VLY_CWIN_C.key, 1), (Fld.VLY_ASM_A.key, 9)] }
    let n := s.timeline.a - s.timeline.c
    (BitVec.ofNat 17 (n - 1)).toNat < n ∧ n ≤ (BitVec.ofNat 17 n).toNat := by decide +kernel
theorem met_EngineOrderStatistics :
    let s := engAt (fun g => { g with x := [(1, 0x7D00), (2, 768), (3, 8), (4, 0x7D01), (5, 769)] }) []
    let g := s.eng 31
    s.executing 31 = true ∧ g.hnd = false ∧ g.resumed = false ∧ (g.getX 2).toNat = 768 ∧ (g.getX 1).toNat + 768 ≤ 0x8000 ∧ (g.getX 3).toNat / 4 % 16 ≤ 8 ∧
    0x8000 < (g.getX 4).toNat + 768 ∧ 768 < (g.getX 5).toNat ∧ (g.getX 6).toNat = 0 := by decide +kernel
theorem met_EngineHistVdotHandler :
    let s := engAt (fun g => { g with x := [(1, 0x7D00), (2, 768), (3, 0x7CC0), (4, 0x10)], c0In := [(1, 0)], container := none }) []
    let g := s.eng 31
    s.executing 31 = true ∧ g.hnd = false ∧ s.engState 31 = 2 ∧ (g.getX 2).toNat = 768 ∧ (g.getX 1).toNat + 768 ≤ 0x8000 ∧ (g.getX 3).toNat + 64 ≤ (g.getX 1).toNat ∧
    (g.getX 4).toNat + 768 ≤ 0x8000 ∧ g.c0In.head? = some (1, 0) := by decide +kernel

/-- A return of slot 95, as a cell sends it on an idle line. -/
def aReturn : Return :=
  { crcOk := true, rver := 1, slot := 95, sid := 0, fault := 0, sok := true, fw := false, blk := false, prq := false, resv := 0, epochLo := 0, vkey := 7,
    temp := 0, cstate := 3, svalid := true, sat := false, swcnt := 0, point := 0, value := 5, wtag := 0, pstat := 0, fdetail := 0, aux0 := 0, aux1 := 0, scrc := 0, lostv := 0 }
/-- A discovery burst of an unbound cell. -/
def aDiscovery : Discovery := { crcOk := true, rver := 1, slot := 0x7F, uid := 5, verMask := 7, gearMask := 1, r := 0, ctype := 0 }
/-- Spoke 127 with its receiver locked in the return window, and one cell in a state. -/
def hearAt (st : LState) : State :=
  ({ atTime 1 0 [(Fld.SPK_STAT_RX_AWAKE 127, 1)] with seqr := { Sequencer.reset with windowOpen := true } } : State).setCell (cellId 127 95) (fun x => { x with lstate := st })

theorem test_return_burst : hearReturn 0 false (returnBurst 0 false aReturn) = some aReturn ∧ (returnBurst 0 false aReturn).length = 360 ∧ (returnBurst 4 false aReturn).length = 330 := by decide +kernel
theorem test_discovery_burst : hearDiscovery 0 (discoveryBurst 0 true aDiscovery) = some aDiscovery := by decide +kernel
theorem met_ReturnBurstChecks :
    let s := hearAt .admitted
    let r := aReturn
    Hears 127 s ∧ ¬ Hears 127 State.reset ∧ s.standby = false ∧ s.rd Fld.HKP_PERT_CTL_ON = 0 ∧ hearReturn 0 false [] = none ∧ 0 ≤ searchUi 0 ∧
    (s.cell (cellId 127 95)).lstate.admitted? = true ∧ (s.cell (cellId 127 95)).outcome = .awaited ∧ r.crcOk = true ∧ r.epochLo.toNat = s.rd Fld.VLY_NOW2_EPOCH % 16 ∧
    r.slot = 95 ∧ r.sid.toNat = s.rd Fld.VLY_NOW2_SID_NOW ∧ ((hearAt .assigned).cell (cellId 127 95)).lstate = .assigned ∧
    ((hearAt .free).cell (cellId 127 95)).lstate = .free := by decide +kernel
theorem met_ReturnBurstChecks_bad :
    hearReturn 0 false (returnBurst 0 false { aReturn with crcOk := false }) = some { aReturn with crcOk := false } ∧
    hearReturn 0 false (returnBurst 0 false { aReturn with epochLo := 1 }) = some { aReturn with epochLo := 1 } ∧
    hearReturn 1 false (returnBurst 1 false { aReturn with slot := 94 }) = some { aReturn with slot := 94 } := by decide +kernel
theorem met_ReturnTimeouts :
    let s := ((hearAt .admitted).setCell 5 (fun x => { x with lstate := .assigned, assignAge := some 9, out := some ⟨⟨0, 0, true, false, 0, 0⟩, 0, some 0, false, false⟩ })).wrs [(Fld.VLY_NOW_VOLLEY, 256), (Fld.VLY_CFG_WR_TMO, 255), (Fld.VLY_CFG_MISS_LIMIT, 4)]
    let w := (s.setCell 6 (fun x => { x with lstate := .lol, inPlaceRun := 16 })).setCell 7 (fun x => { x with lstate := .admitted, missRun := 4 })
    WindowRuns s ∧ ¬ WindowRuns State.reset ∧ (s.cell 5).out.isSome = true ∧ s.rd Fld.VLY_CFG_WR_TMO ≤ (s.volley - 0).toNat ∧ (s.volley - 2).toNat < s.rd Fld.VLY_CFG_WR_TMO ∧
    s.inflight 0 0 = none ∧ (w.cell 7).missRun = w.rd Fld.VLY_CFG_MISS_LIMIT ∧ (w.cell 6).inPlaceRun = 16 ∧ (w.cell 5).lstate = .assigned ∧
    (w.cell 5).assignAge.any (fun v => decide (8 < v) || (v == 8 && !w.seqr.windowOpen)) = true ∧
    State.reset.rd Fld.VLY_NOW_VOLLEY % 2 ^ State.reset.inForce (Fld.VLY_ARMBUD_WIN_LOG2 47) = 0 ∧
    (({ s with qos := { s.qos with waiting := [(⟨.c1, .dma 0, .sram, 0, some 5, none⟩, false)] } } : State).qos.waiting.filterMap (fun g => g.1.sample)).map (·.val) = [5] := by decide +kernel
/-- Spoke 127 in Serving with one cell in slot 95, its discovery over, and register fields given. -/
def servingAt (l : List (Field × Nat)) : State :=
  let s := at' ([(Fld.SPK_CFG_ENABLE 127, 1), (Fld.SPK_STAT_ADMITTED 127, 1), (Fld.SEC_LC_STATE, 2), (Fld.SPK_STAT_RX_AWAKE 127, 1), (Fld.VLY_CFG_VER_ALLOW, 7)] ++ l)
  ({ s with rst := { s.rst with phase := .started } } : State).setCell (cellId 127 95) (fun x => { x with lstate := .admitted, uid := 9, ver := 2 })
/-- The same with the discovery interval of a serve open. -/
def openAt (l : List (Field × Nat)) : State := (servingAt l).setSpoke 127 (fun p => { p with discOpen := some (0, 1, 0), discAge := 60000 })

theorem met_DiscoveryAndBinding :
    let s := openAt [(Fld.VLY_DLIM_DLIM_10NS, 1)]
    let d := aDiscovery
    let u := s.asAdmitted (cellId 127 0) d 0
    s.spokeState 127 = .serving ∧ (s.spoke 127).plan = none ∧ (s.spoke 127).inB = false ∧ s.flag (Fld.SPK_STAT_RX_AWAKE 127) = true ∧
    hearDiscovery 0 [] = none ∧ d.crcOk = true ∧ d.slot = 0x7F ∧ d.r < 1 ∧ (∀ p ∈ s.cells, p.2.uid ≠ d.uid ∨ p.2.lstate = .free) ∧
    s.slotFor 127 d.uid = some 0 ∧ u.fits u.timeline = true ∧ (d.verMask.toNat &&& s.rd Fld.VLY_CFG_VER_ALLOW) % 8 = 7 ∧ (2 * (s.dlim : Int)) < 2001 ∧
    mayWrite (.mgc 1) 1 = true ∧ s.mayBind (cellId 127 95) 47 = true ∧ State.reset.spokeState 127 = .disabled ∧ State.reset.mayBind 0 48 = false := by decide +kernel
theorem met_SpokeBringUpAndGears :
    let s := servingAt [(Fld.SPK_CFG_AUTO_UP 127, 1), (Fld.SPK_STAT_GEAR_CAP 127, 4), (Fld.SPK_STAT_RIDER_GEAR 127, 4), (Fld.SPK_CFG_GEAR_MAX 127, 4), (Fld.LPW_BLK_STAT_BLOCKED, 255)]
    let u := servingAt [(Fld.SPK_STAT_GEAR_CAP 127, 1), (Fld.SPK_STAT_RIDER_GEAR 127, 1), (Fld.SPK_CFG_GEAR_MAX 127, 1), (Fld.TND_STAT_STATE, 4), (Fld.TND_STAT_LANES, 1), (Fld.CE_GDEMAND_DEMAND, 99999)]
    s.flag (Fld.SPK_CFG_AUTO_UP 127) = true ∧ s.spokeState 127 = .serving ∧ (s.spoke 127).plan = none ∧ (s.spoke 127).probe = .none ∧ (s.spoke 127).inB = false ∧
    s.spokeBlocked 127 = true ∧ s.targetGear 127 = 4 ∧ s.rd (Fld.SPK_STAT_GEAR 127) = 0 ∧ (s.spoke 127).refused ≠ some (s.refusedMemo 127) ∧
    s.gearFits 127 4 = true ∧ u.spokeState 127 = .serving ∧ u.targetGear 127 = 1 ∧ u.gearFits 127 1 = false ∧ mayWrite (.mgc 3) 0 = true ∧
    State.reset.rd (Fld.SPK_CFG_ENABLE 127) = 0 := by decide +kernel
theorem met_SpokeBringUpAndGears_times :
    let s := atTime 99 0 [(Fld.SPK_STAT_TRIAL 5, 1), (Fld.SPK_CFG_ENABLE 6, 1), (Fld.SPK_CFG_PROBE_S 6, 99), (Fld.SEC_LC_STATE, 3), (Fld.SPK_STAT_SWEEP 7, 1)]
    let u : State := ({ s with rst := { s.rst with phase := .started } } : State).setSpoke 5 (fun p => { p with trialAge := 1025, plan := some (1, 0), inB := true })
    let v := ((u.setSpoke 6 (fun p => { p with empty := some (some 0) })).setSpoke 8 (fun p => { p with probe := .probe, discCount := 64 })).setSpoke 9 (fun p => { p with probe := .bringUp, discCount := 64 })
    v.flag (Fld.SPK_STAT_TRIAL 5) = true ∧ 1025 ≤ (v.spoke 5).trialAge ∧ (∀ p ∈ v.admittedOf 5, p.2.trialMiss ≤ 4) ∧ (v.spoke 5).plan = some (1, 0) ∧ (v.spoke 5).inB = true ∧
    (v.spoke 6).empty.join = some 0 ∧ v.spokeState 6 = .empty ∧ v.mayServe = true ∧ 0 + v.rd (Fld.SPK_CFG_PROBE_S 6) * 800000000 ≤ v.nowTick ∧
    v.flag (Fld.SPK_STAT_SWEEP 7) = true ∧ (v.spoke 8).probe = .probe ∧ 64 ≤ (v.spoke 8).discCount ∧ (v.spoke 9).probe = .bringUp ∧ 64 ≤ (v.spoke 9).discCount := by decide +kernel
theorem met_SpokeFencesAndTests :
    let s := (at' [(Fld.SPK_STAT_FENCED 127, 1), (Fld.SPK_TEST_MODE 127, 4), (Fld.SPK_GCFG_MS_EN, 1), (Fld.SPK_CFG_ENABLE 127, 1), (Fld.SPK_STAT_ADMITTED 0, 1)]).setSpoke 0 (fun p => { p with noLock := 8 })
    mayWrite (.mgc 0) 0 = true ∧ s.flag (Fld.SPK_STAT_FENCED 127) = true ∧ s.rd (Fld.SPK_TEST_MODE 127) = 4 ∧ s.flag Fld.SPK_GCFG_MS_EN = true ∧
    s.flag (Fld.SPK_CFG_ENABLE 127) = true ∧ (s.spoke 0).noLock = 8 ∧ (s.spoke 0).lost = false ∧ 0 < s.rd (Fld.SPK_STAT_ADMITTED 0) ∧ s.standby = false ∧
    State.reset.flag (Fld.SPK_STAT_FENCED 127) = false := by decide +kernel
theorem met_PulseOutputs :
    let d := at' [(Fld.LPW_LP_CFG_EN 15, 1), (Fld.LPW_LP_CFG_EN 14, 1), (Fld.LPW_LP_CFG_ONESHOT 14, 1), (Fld.SEC_LC_STATE, 4)]
    let s := ({ d with sec := { d.sec with debug := true } } : State).setLp 14 (fun c => { c with shot := true })
    let u := s.setLp 15 (fun c => { c with period := 2, cmp := 1 })
    mayWrite (.mgc 0) 4 = true ∧ s.lpFrozen = false ∧ s.lpRuns 15 = true ∧ s.flag (Fld.LPW_LP_CFG_ONESHOT 15) = false ∧ (u.lpc 15).cmp < (u.lpc 15).period ∧
    u.rd (Fld.LPW_LP_STAT_CNT 15) ≤ (u.lpc 15).cmp ∧ s.lpRuns 14 = true ∧ (s.lpc 14).shot = true ∧ s.lpRuns 0 = false ∧ (State.reset.lpc 14).shot = false ∧
    s.mayDebug 63 = true ∧ 63 ∉ s.halted ∧ s.mayDebug 28 = false := by decide +kernel
theorem met_VolleyBoundary :
    let r := State.reset.rst
    let s : State := { State.reset with rst := { r with phase := .started }, seqr := { Sequencer.reset with phase := 0 } }
    let u : State := { State.reset with rst := { r with atBoundary := some ⟨.powerOn, false, 0⟩ } }
    s.started = true ∧ s.mayBegin = false ∧ u.rst.atBoundary = some ⟨.powerOn, false, 0⟩ ∧ u.started = false ∧ u.rst.phase ≠ .hold .storm ∧
    State.reset.rst.atBoundary = none ∧ State.reset.started = false ∧ State.reset.mayBegin = true ∧ State.reset.tnd.yieldDue = none ∧ State.reset.takeoverDue = false := by decide +kernel
theorem met_ComputeWindowOpens_ServeAssembly :
    let r := State.reset.rst
    let s : State := { atTime 1 0 [] with rst := { r with phase := .started }, seqr := { Sequencer.reset with phase := 0 } }
    let u : State := { s with seqr := { Sequencer.reset with phase := 1 } }
    s.started = true ∧ s.seqr.phase = 0 ∧ s.seqr.windowOpen = false ∧ s.time.boundaryTick + s.timeline.c ≤ s.nowTick ∧ (∀ f : Fin 32, s.engState f ≠ 3) ∧
    s.tndState = 0 ∧ u.seqr.phase = 1 ∧ u.time.boundaryTick + u.timeline.a ≤ u.nowTick := by decide +kernel

/-- A program container for four arms. -/
def aContainer : Container := ⟨0xCE400C01, 1, false, true, 0, some 0, 1, 1, 4, 0, [0], []⟩

theorem met_EngineControl :
    let s := (at' [(Fld.CE_STAT_STATE 31, 2), (Fld.CE_STAT_STATE 30, 3), (Fld.CE_STAT_STATE 29, 1)]).setEng 31 (fun g => { g with container := some aContainer, mig := some (0, true) })
    mayWrite (.mgc 0) 2 = true ∧ s.engBelow 30 = 3 ∧ s.engBelow 31 = 2 ∧ s.engBelow 0 = 0 ∧ (s.eng 0).container = none ∧ (s.eng 31).container = some aContainer ∧
    (s.enabling 31).demandFits (s.demand 31) = true ∧ s.admits (fun v => v.migrating 31 28 true aContainer) = true ∧ s.engState 28 = 0 ∧ s.ownRefused 31 48 = true ∧ s.ownRefused 31 0x47 = false ∧ s.engState 29 = 1 ∧ (∀ x ∈ s.ownsNow 31, x.1 < aContainer.armsMax) ∧
    (s.eng 31).mig = some (0, true) ∧ s.engState 0 ≠ 6 ∧ (s.eng 0).mig.any (·.2) = false := by decide +kernel
theorem met_AnalogueInputs :
    let c : CmpSet := ⟨true, false, 2, 1, -5, 5, false⟩
    let s := (at' [(Fld.ADC_CH_CFG_MODE 27, 2), (Fld.ADC_TG_CFG_KIND 0, 2), (Fld.ADC_CH_CFG_TSEL 27, 0), (Fld.ADC_TG_CFG_KIND 3, 3)]).setChan 27 (fun x => { x with convs := [⟨.continuous, 0, some 6, 16, 0⟩] })
    let u : State := { s with sysCal := ⟨some ⟨27, 2, 1024, 0⟩, none⟩ }
    let v : State := { s with sysCal := ⟨none, some (27, 0)⟩ }
    c.en = true ∧ c.sense = false ∧ c.live = false ∧ c.hi < 6 ∧ c.n ≤ 1 + 1 ∧ 0 + 1 < c.n ∧ c.lo ≤ -5 ∧ (State.reset.chan 27).convs = [] ∧ (s.chan 27).convs.head?.isSome = true ∧
    s.sysCal.run = none ∧ (s.slice 3 6).coef = none ∧ s.rd (Fld.ADC_TG_CFG_KIND 0) = 2 ∧ 2 ≤ s.adcMode 27 ∧ s.rd (Fld.ADC_TG_CFG_KIND 3) = 3 ∧ 3 ∉ s.tgDue ∧
    mayWrite (.mgc 0) 3 = true ∧ s.adcGuarded 27 = false ∧ v.sysCal.zero.map (·.1) = some 27 ∧ (s.showGroup 0).stalestIdle 0 ≠ none ∧ u.sysCal.run.map (·.n) = some 1024 := by decide +kernel
theorem met_TandemStates :
    let f : StatusFrame := ⟨true, 3, 2, 0, 0, 1, 0, 0, 0, true, 0⟩
    let s := atTime 99 0 [(Fld.TND_STAT_STATE, 2), (Fld.TND_STAT_LINK_UP, 1), (Fld.TND_STAT_VER_OK, 1), (Fld.TND_STAT_DIGEST_OK, 1), (Fld.TND_STAT_TIME_OK, 1), (Fld.TND_STAT_CLEAN, 256), (Fld.TND_CFG_ROLE, 1)]
    let u : State := { s with tnd := { s.tnd with twin := some f } }
    let v : State := { at' [(Fld.TND_STAT_STATE, 3)] with tnd := { s.tnd with decided := some 7, holdLost := some 5 } }
    let w : State := { at' [(Fld.TND_STAT_STATE, 4), (Fld.TND_STAT_TWIN_READY, 1)] with tnd := { s.tnd with yieldDue := some (true, false), yieldAt := 9 } }
    State.reset.tndState = 0 ∧ u.tndState = 2 ∧ u.waitBroken = false ∧ u.tnd.waitFrom + u.startWait ≤ u.nowTick ∧ u.mayBeReady = true ∧ 256 ≤ u.rd Fld.TND_STAT_CLEAN ∧
    v.tndState = 3 ∧ v.tnd.decided = some 7 ∧ v.tnd.holdLost = some 5 ∧ v.nowTick < max 7 (5 + 400) ∧ v.mayBeReady = false ∧
    w.tndState = 4 ∧ w.flag Fld.TND_STAT_TWIN_READY = true ∧ w.tnd.yieldDue.isSome = true ∧ w.nowTick ≤ w.tnd.yieldAt ∧ mayWrite (.mgc 1) 11 = true := by decide +kernel
theorem met_TandemStates_held :
    let s := at' [(Fld.TND_STAT_STATE, 5)]
    let v : State := { atTime 1 0 [(Fld.TND_STAT_STATE, 3)] with tnd := { s.tnd with decided := some 7, holdLost := some 5 } }
    let w : State := { at' [(Fld.TND_STAT_STATE, 1)] with tnd := { s.tnd with yieldDue := some (false, false) } }
    s.tndState = 5 ∧ s.rd Fld.TND_CAUSE_LIVE = 0 ∧ s.flag Fld.TND_STAT_TWIN_HOLD = false ∧ max 7 (5 + 400) ≤ v.nowTick ∧ w.tndState ≠ 4 ∧ w.mayBegin = true ∧ 3 ≤ ({ s.tnd with missing := 3 } : Tandem).missing := by decide +kernel
theorem met_TandemLinkAndFrames :
    let s := at' [(Fld.TND_STAT_STATE, 3), (Fld.TND_STAT_LINK_UP, 1)]
    let u : State := { s with tnd := { s.tnd with lanes := 8 } }
    let w : State := { at' [(Fld.TND_STAT_STATE, 4), (Fld.TND_STAT_TWIN_HOLD, 1)] with tnd := { s.tnd with hunt := some ⟨0, 3, 2⟩ } }
    u.tndState ≠ 0 ∧ u.tnd.lanes.getLsbD 3 = true ∧ u.tnd.lanes.getLsbD 2 = false ∧ u.standby = true ∧ u.flag Fld.TND_STAT_LINK_UP = true ∧
    w.tndState = 4 ∧ w.twinActive = true ∧ w.tnd.hunt.map (fun h => decide (h.left = 0 ∧ h.total < 2 * h.other)) = some true ∧ State.reset.tnd.hunt = none := by decide +kernel
/-- The descriptor of the example of chapter 13: P_REF = 400 MW for C2 (its MAC left 0). -/
def exampleBytes : List (BitVec 8) := [0x10, 5, 3, 0, 0xA7, 0, 0, 0, 0x42, 0x1F, 0, 0, 0, 0, 0, 0, 2, 0, 0, 0, 0, 0, 0, 0, 0, 0x20, 0xBC, 0xBE, 0x4D, 0, 0, 0] ++ List.replicate 32 0
theorem test_example_descriptor : readDescr { aRead 64 with bytes := exampleBytes } =
    { body := .setpoint 2 0 0x4DBEBC2000, auth := 1, cirq := true, order := false, csup := false, session := 3, tag := 0xA7, seq := 0x1F42, resvAt := none, bufLen := 0, buf := .read, macOk := true } := by decide +kernel
theorem test_example_completion : (CplRec.bytes ⟨0xA7, 0, 0x10, true, false, 7, 12, 3, 0, 0x42A10, 0⟩) =
    [0xA7, 0, 0, 0, 0, 0, 0x10, 1, 7, 0, 0, 0, 12, 0, 3, 0, 0, 0, 0, 0, 0, 0, 0, 0, 0x10, 0x2A, 4, 0, 0, 0, 0, 0] := by decide +kernel

/-- Descriptor 3 of function 255, accepted. -/
def aFlight (b : Body) (p : Progress := .accepted) : InFlight :=
  ⟨0, 3, { body := b, auth := 0, cirq := false, order := false, csup := false, session := 0, tag := 0, seq := 0, resvAt := none, bufLen := 0, buf := .read, macOk := true }, 0, p, none⟩
/-- Function 255 holds it, its rings open, with register fields given. -/
def flightAt (l : List (Field × Nat)) (b : Body) (p : Progress := .accepted) : State :=
  (at' ([(Fld.HIF_FN_STAT_OPEN 255, 1), (Fld.HIF_FN_STAT_LEVEL 255, 3), (Fld.HIF_PORT_STAT_ENABLED 1, 1), (Fld.HIF_FN_RING_SIZE_LOG2 255 0, 16), (Fld.HIF_FN_RING_SIZE_LOG2 255 1, 4),
    (Fld.HIF_FN_RING_SIZE_LOG2 255 2, 16), (Fld.HIF_FN_RING_SIZE_LOG2 255 3, 4)] ++ l)).setFn 255 (fun h => { h with inflight := [aFlight b p], count := 1 })
/-- The descriptor of body `b` is in flight and may be carried out. -/
abbrev Eligible (s : State) (b : Body) : Prop := s.runnable 255 3 = some (aFlight b) ∧ s.actable 255 3 = some (aFlight b)

theorem met_HostRings :
    let s := at' [(Fld.HIF_PORT_STAT_ENABLED 1, 1), (Fld.HIF_PORT_STAT_NUM_VF 1, 127)]
    let u : State := { s with rst := { s.rst with phase := .started } }
    let o := flightAt [(Fld.HIF_PORT_STAT_NUM_VF 1, 127), (Fld.HIF_FN_CPL_PTR_HEAD 255, 14), (Fld.HIF_FN_CPL_PTR_TAIL 255, 15)] .nop
    let v : State := { o with rst := { o.rst with phase := .started } }
    s.flag (Fld.HIF_FN_STAT_FLR_BUSY 255) = false ∧ s.flag (Fld.HIF_PORT_STAT_ENABLED (255 / 128)) = true ∧ s.fnOpen 255 = false ∧ s.fnReady 255 = false ∧ u.fnReady 255 = true ∧
    v.fnReady 255 = true ∧ v.fnOpen 255 = true ∧ (v.fn 255).inflight ≠ [] ∧ (v.fn 255).closing = false ∧ 65535 < v.ringSize 255 0 ∧ v.ringSize 255 0 ≤ 65536 ∧
    headOk (v.ringSize 255 1) (v.rd (Fld.HIF_FN_CPL_PTR_HEAD 255)) (v.rd (Fld.HIF_FN_CPL_PTR_TAIL 255)) 15 = true ∧
    headOk (v.ringSize 255 1) (v.rd (Fld.HIF_FN_CPL_PTR_HEAD 255)) (v.rd (Fld.HIF_FN_CPL_PTR_TAIL 255)) 13 = false ∧ 15 < v.ringSize 255 3 ∧ v.rd (Fld.HIF_FN_STAT_LEVEL 255) = 3 ∧
    0 < v.evtFree 255 ∧ v.rd (Fld.HIF_FN_RING_SIZE_LOG2 255 2) ≤ 16 := by decide +kernel
theorem met_HostRings_events :
    let e : EvtRec := ⟨true, 0, 0, 0, .evtLost 1 0⟩
    let s := ((flightAt [] .nop).setFn 255 (fun h => { h with evtQueue := [e] })).setVector 255 3 (fun x => { x with unsig := 1, masked := false })
    let u := (s.setBase 3 ⟨1, 0, 0⟩).wrs [(Fld.HIF_FN_MOD_RATE 255 3, 1)]
    let w := s.setVector 255 2 (fun x => { x with unsig := 1, sentAt := 5 })
    let v := flightAt [] .nop
    (s.fn 255).evtQueue.head? = some e ∧ (s.fn 255).lostEvts = 0 ∧ s.rd (Fld.HIF_FN_EVT_PTR_TAIL 255) < s.ringSize 255 2 ∧ 0 < (s.vector 255 3).unsig ∧
    (u.vector 255 3).first + 1000 * u.rd (Fld.HIF_FN_MOD_HOLD_US 255 3) ≤ (u.base 3).count ∧ (u.vector 255 3).masked = false ∧ (u.vector 255 3).capped = false ∧ 0 < u.msixCap 255 3 ∧ v.tagFree 255 = true ∧ v.rd (Fld.HIF_FN_STAT_LEVEL 255) = 3 ∧ u.msixFree 255 3 = true ∧
    (w.wrs [(Fld.HIF_FN_MOD_RATE 255 2, 1)]).msixFree 255 2 = false := by decide +kernel
theorem met_FetchAndFunctionResets :
    let s := flightAt [(Fld.HIF_FN_CMD_PTR_TAIL 255, 2)] .nop
    let u := (s.wrs [(Fld.SEC_CAP_WORD 255 0, 1), (Fld.SEC_CAP_WORD 255 6, 1)])
    let w := flightAt [] .nop .reading
    let d := readDescr (aRead 64)
    s.wantsFetch 255 = true ∧ s.aheadOf 255 = [] ∧ s.tagFree 255 = true ∧ s.portAnswers 0 = false ∧ (s.wr (Fld.HIF_PORT_STAT_LINK_UP 1) 1).portAnswers 1 = true ∧
    d.auth = 0 ∧ s.checkForm 255 0 d = none ∧ s.checkRest 255 d = none ∧ (∀ z ∈ (s.fn 255).inflight, z.serial ≠ (s.fn 255).count) ∧
    ringUsed (s.ringSize 255 0) (s.rd (Fld.HIF_FN_CMD_PTR_HEAD 255)) (s.rd (Fld.HIF_FN_CMD_PTR_TAIL 255)) = 2 ∧ (s.refill 255).allowed 255 d = true ∧
    (u.refill 255).allowed 255 d = false ∧ (w.fn 255).inflight = [aFlight .nop .reading] ∧ (∀ y ∈ (s.fn 255).inflight, y.at' ≠ .reading) ∧ (s.fn 255).held = 0 ∧
    s.flag (Fld.HIF_PORT_STAT_ENABLED 1) = true ∧ s.flag (Fld.HIF_PORT_STAT_ENABLED 0) = false ∧ State.reset.fnOpen 255 = false := by decide +kernel
theorem met_Descriptors : ∀ b ∈ ([.nop, .readPoints 0 1 511 1 0 8 false, .readPoints 95 1 0 1 0 8 true, .readReg 4 0 1 0, .readLink 0 1 0 8, .streamOpen 7 0 0, .streamClose 7,
      .setpoint 7 4 0, .emergencyBlock 255, .pointWrite 95 511 0, .cfgDmem 31 0x7FFF [1], .ceLoad 31 aContainer, .cellCtl 95 0, .cellCtl 95 1, .blockRelease 1, .reset true,
      .sessionClose 0] : List Body), Eligible (flightAt [] b) b := by decide +kernel
theorem met_ReadAndStreamDescriptors :
    let s := (flightAt [(Fld.REC_D_STAT_DONE 15, 128), (Fld.HIF_FN_BLK_PTR_TAIL 255, 1)] (.streamOpen 7 0 0x7F)).setFn 255 (fun h => { h with streams := [(6, some ⟨1, 0, 0, 0, 0⟩)] })
    FMap.get none (s.fn 255).streams 7 = none ∧ FMap.get none (s.fn 255).streams 6 ≠ none ∧ 0x7F % 65536 < 256 ∧ bitOf (s.rd (Fld.REC_D_STAT_DONE (0x7F % 16))) (0x7F / 16 % 8) = true ∧
    bitOf (s.rd (Fld.REC_D_STAT_READING (0x7F % 16))) (0x7F / 16 % 8) = false ∧ bitOf (s.rd (Fld.REC_D_STAT_DONE 0)) 0 = false ∧ (s.fn 255).closing = false ∧
    s.rd (Fld.HIF_FN_BLK_PTR_HEAD 255) ≠ s.rd (Fld.HIF_FN_BLK_PTR_TAIL 255) ∧ s.throttled 255 .c3 = false ∧ s.streamReady ⟨1, 0, 0, 0, 0⟩ = true := by decide +kernel
theorem met_ControlDescriptors :
    let w : PostedWrite := ⟨0, 0, false, false, 0, 0⟩
    let s := (flightAt [(Fld.CE_STAT_STATE 30, 2)] (.pointWrite 95 511 0)).setCell 95 (fun c => { c with lstate := .admitted, queue := [w, w, w] })
    let u := s.setCell 95 (fun c => { c with queue := [w, w, w, w] })
    let v : State := { s with staging := some ⟨254, 0, 33554432, 0⟩ }
    s.activeOrSolo = true ∧ (s.cell 95).queue.length = 3 ∧ (s.cell 95).lstate.admitted? = true ∧ (u.cell 95).queue.length = 4 ∧ (s.cell 94).lstate.admitted? = false ∧
    s.mayLoad 30 aContainer = false ∧ s.mayLoad 31 aContainer = true ∧ s.demandFits (s.demandOf 31 aContainer) = true ∧ (s.fn 255).standing = [] ∧ s.decidedNow = 0 ∧ s.mayLoad 31 { aContainer with minStep := 255 } = false ∧
    (s.signedReset false (.cmdHost 255)).isSome = true ∧ (((servingAt []).setCell 0 id).signedReset false (.cmdHost 255)).isSome = false ∧
    v.staging.any (fun g => g.owner != 255) = true ∧ v.staging.any (fun g => g.owner != 254) = false ∧ s.staging = none := by decide +kernel

/-- A grant for function 255 until second 9, and a custodian object with one good signature. -/
def aGrant : Grant := { formatAt := none, object := List.replicate 208 0, authSlot := 3, sigOk := true, target := 0, function := 255, verbs := 0, openedOk := true, grantId := 0, notBefore := 0, notAfter := 9, cfgKey := 0, secretOk := true }
def anObject (kind move : Nat) : CustObject :=
  { kind := kind, formatOk := true, bodyOk := true, length := 0, sigs := if kind = 0 then [] else [⟨0, 0, true⟩], target := 0, time0 := 0, time1 := 9, serial := 1, move := move, force := false, mask := 0,
    cap := none, auth := none, tamperAct := none, hash := 0, provK := 2, provKeys := [0, 0] }
/-- The same function in lifecycle state `lc`, with signer slot 3, signature slot 0 and its capability record in force. -/
def custAt (lc : Nat) (b : Body) : State :=
  let s := flightAt [(Fld.SEC_LC_STATE, lc), (Fld.SEC_AUTH_WORD 3 8, 1), (Fld.SEC_CUST_SLOT_OK, 1), (Fld.SEC_CUST_K, 1), (Fld.SEC_CAP_WORD 255 0, 1), (Fld.SEC_CAP_WORD 255 7, 2 ^ 24)] b
  { s with sec := { s.sec with idKey := true } }

theorem met_SessionsAndPermits :
    let s := custAt 2 (.sessionOpen 0 aGrant)
    let y : Session := ⟨5, 255, 0, 0, 0, 0, 3, 9, 0⟩
    let u : State := { custAt 2 (.sessionClose 5) with sec := { s.sec with sessions := [y], permit := some (1, 9) } }
    Eligible s (.sessionOpen 0 aGrant) ∧ s.checkGrant 255 aGrant = none ∧ (s.checkGrant 254 aGrant).isSome = true ∧ Eligible u (.sessionClose 5) ∧
    (u.sessionOf 255 5).isSome = true ∧ (u.sessionOf 255 4).isSome = false ∧ u.tSec < y.notAfter ∧ u.sec.permit = some (1, 9) ∧
    (∀ b ∈ ([.testPermit (anObject 3 0)] : List Body), Eligible (custAt 2 b) b) ∧ s.checkObject [3] (anObject 3 0) = none ∧ (s.checkObject [3] (anObject 2 0)).isSome = true ∧
    s.sec.permit = none ∧ s.actable 255 4 = none := by decide +kernel
theorem met_CustodianObjects :
    (∀ b ∈ ([.policy (anObject 1 0), .debugOpen (anObject 2 0)] : List Body), Eligible (custAt 2 b) b) ∧
    (custAt 0 .nop).checkObject [0, 1] (anObject 0 0) = none ∧ (∀ m ∈ [0, 2, 4, 5], (custAt 2 .nop).checkObject [0, 1] (anObject 1 m) = none) ∧
    (custAt 4 .nop).checkObject [0, 1] (anObject 1 3) = none ∧ (custAt 3 .nop).checkObject [0, 1] (anObject 1 1) = none ∧ (custAt 2 .nop).checkObject [2] (anObject 2 0) = none ∧ (custAt 0 .nop).checkObject [2] (anObject 2 0) ≠ none ∧
    (custAt 2 .nop).isServing = false ∧ ((custAt 2 .nop).wrs [(Fld.TND_STAT_STATE, 4), (Fld.TND_STAT_TWIN_READY, 1)]).isServing = true ∧
    (custAt 2 .nop).confirmedImage = none := by decide +kernel
theorem met_InterruptHub :
    let s := at' [(Fld.IRQ_SRC_CFG_MODE 20, 2), (Fld.IRQ_SRC_CFG_POL 20, 1), (Fld.IRQ_SRC_CFG_EN 20, 1), (Fld.IRQ_SRC_CFG_STORM_EN 20, 1), (Fld.IRQ_SRC_STAT_PENDING 20, 1), (Fld.IRQ_SRC_TGT_TGT 20, 1),
      (Fld.IRQ_SRC_CFG_PRI 20, 5), (Fld.IRQ_SRC_CFG_MODE 32, 0), (Fld.IRQ_SRC_CFG_POL 32, 1), (Fld.IRQ_SRC_CFG_EN 32, 1), (Fld.IRQ_SRC_CFG_STORM_EN 32, 1), (Fld.IRQ_STORM_RATE_CAP, 3)]
    let u : State := { s with irqRates := [(20, ⟨0, 4⟩)], irqCores := [(27, { IrqCore.reset with stack := [(5, 20)] })] }
    internalSource 20 = false ∧ knownSource 20 = true ∧ s.rd (Fld.IRQ_SRC_CFG_MODE 32) = 0 ∧ s.irqRaw 32 = true ∧ s.rd (Fld.IRQ_SRC_STAT_PENDING 32) = 0 ∧ s.irqRaw 20 = true ∧
    s.rd (Fld.IRQ_SRC_CFG_MODE 20) = 2 ∧ s.irqEligible 0 20 = true ∧ (u.irqCore 27).stack.head?.map (·.2) = some 20 ∧ (u.irqCore 0).stack.head?.map (·.2) ≠ some 20 ∧
    s.rd (Fld.IRQ_SRC_STAT_PENDING (288 + 27)) = 0 ∧ (FMap.get IrqRate.reset u.irqRates 20).win = (u.base 3).count / 1000000 ∧
    u.rd Fld.IRQ_STORM_RATE_CAP < (FMap.get IrqRate.reset u.irqRates 20).n ∧ (FMap.get IrqRate.reset s.irqRates 20).n ≤ s.rd Fld.IRQ_STORM_RATE_CAP := by decide +kernel
theorem met_InterruptHub_candidate :
    let s := at' [(Fld.IRQ_SRC_CFG_EN 20, 1), (Fld.IRQ_SRC_STAT_PENDING 20, 1), (Fld.IRQ_SRC_TGT_TGT 20, 1), (Fld.IRQ_SRC_CFG_VEC_EN 20, 1)]
    IsCandidate s 0 20 ∧ s.flag (Fld.IRQ_SRC_CFG_VEC_EN 20) = true ∧ ∀ n : Fin 1024, s.irqEligible 1 n = false := by decide +kernel
theorem met_EventQueues :
    let s := (at' [(Fld.IRQ_EQ_CFG_DEST 55, 2), (Fld.IRQ_EQ_CFG_DEST 54, 1), (Fld.IRQ_EQ_CFG_DEST 53, 0)]).setQueue 55 (fun x => { x with left := 1 })
    let u := (s.setQueue 54 (fun x => { x with left := 2, orphan := true })).setQueue 53 (fun x => { x with left := 1, ignore := true, groups := [[0xA0000000]] })
    (s.queue 55).left = 1 ∧ (s.queue 55).orphan = false ∧ (s.queue 55).ignore = false ∧ s.rd (Fld.IRQ_EQ_CFG_DEST 55) = 2 ∧ (∀ g ∈ (s.queue 55).groups, g ≠ []) ∧
    (u.queue 54).orphan = true ∧ (u.queue 53).ignore = true ∧ u.rd (Fld.IRQ_EQ_CFG_DEST 53) = 0 ∧ (u.queue 53).groups.head? = some [0xA0000000] ∧ (s.queue 32).left = 0 ∧
    (0xAF000000 : Reg32).toNat / 2 ^ 28 = 10 ∧ (queueWords s 32).length + 1 + (0xAF000000 : Reg32).toNat / 2 ^ 24 % 16 ≤ 2048 ∧ mayWrite (.mgc 0) 16 = true := by decide +kernel
theorem met_RecorderCommands :
    let s := at' [(Fld.REC_D_REGION_SIZE_MB 15, 1), (Fld.REC_D_STAT_STATE 14, 1), (Fld.REC_D_STAT_STATE 13, 2), (Fld.REC_D_STAT_STATE 12, 3), (Fld.REC_D_STAT_SEG 12, 7)]
    let u := (s.setRec 13 (fun x => { x with fires := [⟨0, 0, 0, 0, 2⟩] })).setRec 12 (fun x => { x with trigger := some ⟨0, 0, 0, 0, 2⟩, gap := some ⟨0, 0, 1⟩ })
    mayWrite (.mgc 0) 14 = true ∧ s.rd (Fld.REC_D_CFG_ENABLE 15) = 0 ∧ s.recMayEnable 15 = true ∧ (s.wr (Fld.REC_D_CFG_ENABLE 15) 1).memoryFits (s.wr (Fld.REC_D_CFG_ENABLE 15) 1).timeline = true ∧
    s.freeSeg 15 = some 0 ∧ (s.wrs [(Fld.REC_D_REGION_SIZE_MB 15, 0)]).recMayEnable 15 = false ∧ s.recState 14 = 1 ∧ s.rd (Fld.REC_D_LEN_PRE_V 14) ≤ (s.volley - (s.recd 14).armed).toNat ∧
    u.recState 13 = 2 ∧ (u.recd 13).fires ≠ [] ∧ u.recState 12 = 3 ∧ (u.recd 12).trigger.isSome = true ∧ u.rd (Fld.REC_D_STAT_SEG 12) < 8 ∧ (u.recd 12).gap.isSome = true ∧
    u.rd Fld.QOS_STAT_SHED = 0 ∧ (s.wr Fld.VLY_NOW_VOLLEY 5).rd (Fld.REC_D_LEN_POST_V 12) < ((s.wr Fld.VLY_NOW_VOLLEY 5).volley - 0).toNat := by decide +kernel
theorem met_ServiceCommands :
    let s := ((at' [(Fld.HKP_SVC_CFG_AUTO_MIG, 1), (Fld.CE_STAT_STATE 31, 2), (Fld.HKP_FENCE_APC_CORES, 0x800000), (Fld.HKP_SVC_CFG_CE_CORR_LIMIT, 1)]).setEng 31 (fun g => { g with ueccAt := [0, 0], fenceCause := some 4 })).setSpoke 127 (fun p => { p with fenceCause := some 1 })
    s.spokeHealed 127 = true ∧ s.spokeHealed 0 = false ∧ (s.eng 31).fenceCause = some 4 ∧ s.coreFenced 23 = true ∧ s.coreFenced 0 = false ∧ s.idle 0 = true ∧
    s.flag Fld.HKP_SVC_CFG_AUTO_MIG = true ∧ s.engState 31 = 2 ∧ 2 ≤ (lastHour s.secondsNow (s.eng 31).ueccAt).length ∧ s.engState 0 = 0 ∧
    (∀ t : Fin 32, ((List.range 32).foldl (fun v e => v.wr (Fld.CE_STAT_STATE e) 2) s).engState t ≠ 0) ∧ mayWrite (.mgc 2) 13 = true ∧ mayWrite (.mgc 0) 9 = true := by decide +kernel

/-- Core 0 runs task 1 of priority 2; tasks 5 and 4071 are ready at priority 31 and 3, task 6 waits for a time, task 7 for a note, task 8 is dormant. -/
def tasksAt (l : List (Field × Nat)) : State :=
  let s := at' ([(Fld.SCH_CFG_EN, 1), (Fld.SCH_CORE_RUN 0, 1), (Fld.SCH_CORE_IDLE 0, 0), (Fld.SCH_TASK_CFG_STATE 1, 3), (Fld.SCH_TASK_CFG_PRI 1, 2), (Fld.SCH_TASK_CFG_STATE 5, 2), (Fld.SCH_TASK_CFG_PRI 5, 31),
    (Fld.SCH_TASK_AFF_AFF 5, 0xFFFFFF), (Fld.SCH_TASK_CFG_STATE 4071, 2), (Fld.SCH_TASK_CFG_PRI 4071, 3), (Fld.SCH_TASK_AFF_AFF 4071, 0xFFFFFF), (Fld.SCH_TASK_CFG_STATE 6, 6), (Fld.SCH_TASK_CFG_STATE 7, 5), (Fld.SCH_TASK_CFG_STATE 8, 1)] ++ l)
  { s with sch := { s.sch with ready := [(3, [4071]), (31, [5])], us := [(9, 6)] } }

theorem met_TaskSelection :
    let s := tasksAt []
    let u := atTime 9 0 []
    s.selectFor 23 (fun t => !s.slottedElsewhere 23 t) = some 5 ∧ s.taskPri 5 = 31 ∧ (∀ x ∈ s.readyList 31, mayRun s 23 x = true) ∧ freshOn (tasksAt [(Fld.SCH_TASK_CFG_LAST 5, 23)]) 23 5 = true ∧
    freshOn s 23 5 = false ∧ u.selectFor 23 (fun t => !u.slottedElsewhere 23 t) = none ∧ (tasksAt [(Fld.SCH_CFG_EN, 0)]).flag Fld.SCH_CFG_EN = false ∧ s.coreFenced 23 = false ∧
    (s.preemptCore 5).isSome = true ∧ (tasksAt [(Fld.SCH_TASK_AFF_AFF 5, 0)]).preemptCore 5 = none := by decide +kernel
theorem met_TaskCommands_SwitchingCommands :
    let s := tasksAt [(Fld.SCH_TASK_CFG_NOTE 4071, 255), (Fld.SCH_TASK_CFG_NOTE 1, 1)]
    let u : State := { s with irqCores := [(0, { IrqCore.reset with stack := [(31, 256)] })] }
    TasksSound s ∧ s.idle 0 = false ∧ (s.irqCore 0).stack = [] ∧ 0 < s.rd (Fld.SCH_TASK_CFG_NOTE (s.running 0)) ∧ (tasksAt []).rd (Fld.SCH_TASK_CFG_NOTE ((tasksAt []).running 0)) = 0 ∧
    s.idle 1 = true ∧ 2 ≤ s.taskState 5 ∧ s.rd (Fld.SCH_TASK_CFG_NOTE 4071) = 255 ∧ s.taskState 6 = 6 ∧ s.taskState 7 = 5 ∧ s.taskState 8 = 1 ∧ s.taskState 9 = 0 ∧
    (u.irqCore 0).stack.map (·.2) = [256 + 0] ∧ u.slotOf 0 = none ∧ (u.wrs [(Fld.SCH_CORE_SLOT_VALID 0, 1), (Fld.SCH_CORE_SLOT 0, 5)]).slotOf 0 = some 5 ∧ s.taskPri 1 < s.taskPri 5 ∧
    mayWrite (.mgc 0) 15 = true := by decide +kernel
theorem met_TaskCommands_timedOut : let s := (tasksAt []).setTask 5 (fun x => { x with ret := some 1 })
    TasksSound s ∧ s.taskState 5 = 2 ∧ (s.task 5).ret = some 1 ∧ (s.task 5).readyAt = s.nowTick := by decide +kernel
theorem met_TimeBaseCommands :
    let s := atTime 1 0 [(Fld.TBS_TB_STAT_SYNC_LOCK 0, 1), (Fld.TBS_TB0_CTL_HOLD_MS, 1), (Fld.TBS_CFG_JUMP_MAX_NS, 100), (Fld.TBS_REF_HOLDOVER, 0), (Fld.TBS_REF_SEL, 1), (refOk 0, 1), (Fld.TBS_REF_REVERT, 1)]
    let u : State := { s with time := { s.time with ppsIn := some 799920001 } }
    mayWrite (.mgc 0) 6 = true ∧ s.time.syncAt + s.rd Fld.TBS_TB0_CTL_HOLD_MS * 800000 ≤ s.nowTick ∧ s.flag (Fld.TBS_TB_STAT_SYNC_LOCK 0) = true ∧ State.reset.flag (Fld.TBS_TB_STAT_SYNC_LOCK 0) = false ∧
    (BitVec.ofInt 32 (-100)).toInt.natAbs ≤ s.rd Fld.TBS_CFG_JUMP_MAX_NS ∧ s.rd Fld.TBS_CFG_JUMP_MAX_NS < (101 : BitVec 32).toInt.natAbs ∧
    s.rd Fld.TBS_REF_SEL = 1 ∧ s.rd Fld.TBS_REF_HOLDOVER = 0 ∧ s.flag (refOk 0) = true ∧ s.flag Fld.TBS_REF_REVERT = true ∧
    (State.reset.base 3).ns * 2 ^ 32 + (State.reset.base 3).frac < State.reset.baseInc 3 ∧ (∀ p ∈ s.time.ppsIn, p + 80000 ≤ s.nowTick) ∧ u.nowTick < 799920001 + 80000 := by decide +kernel
theorem met_ServosAndTicks :
    let s := at' [(Fld.TND_STAT_STATE, 2)]
    (State.reset.servoError 1).isSome = true ∧ (State.reset.servoError 2).isSome = true ∧ s.servoError 1 = none := by decide +kernel

/-- A station frame to the broadcast address. -/
def aFrame (etype : BitVec 16) (b : StationBody) : StationFrame := { dst := 0, src := 3, etype := etype, length := 2048, twoTags := false, pause := false, fcsOk := true, body := b }
/-- Port 3 up, subscription 63 and filter 63 of every port, whose addresses and identifiers are 0. -/
def stationAt (l : List (Field × Nat)) : State :=
  { at' ([(Fld.STP_ST_STAT_LINK_UP 3, 1), (Fld.STP_ST_STAT_LINK_UP 1, 1), (Fld.STP_GF_CFG_EN 63, 1), (Fld.STP_GF_CFG_PORTS 63, 15)] ++ l) with
    force := (at' [(Fld.STP_SV_CFG_EN 63, 1), (Fld.STP_SV_CFG_PORTS 63, 15), (Fld.STP_SV_CFG_NVAL_M1 63, 0), (Fld.STP_SV_CNT_CFG_SMPMAX 63, 3999)]).regs }
/-- A reset frame for serial number 0, counter 1, valid until second 9, under slot 3. -/
def aResetBytes : List (BitVec 8) := [1, 1, 0, 3] ++ leBytes 8 0 ++ leBytes 8 1 ++ leBytes 8 9 ++ List.replicate 64 0

theorem met_StationFrames :
    let s := stationAt []
    let a : Asdu := ⟨[], 0, true, 8, [⟨0, false, false⟩]⟩
    let f := aFrame 0x88BA (.sv 0 [a])
    FrameTaken 3 f s ∧ ¬ FrameTaken 2 f s ∧ ({ f with length := 2049 } : StationFrame).length > 2048 ∧ s.rd Fld.STP_BRIDGE_EN = 0 ∧ s.svMatches 3 63 f 0 = true ∧ s.svidMatches 63 a = true ∧
    (∀ j : Fin 64, j ≠ 63 → s.svMatches 3 j f 0 = false) ∧ 8 * (s.inForce (Fld.STP_SV_CFG_NVAL_M1 63) + 1) ≤ a.seqBytes ∧ 0 < 1000000 * s.rd Fld.HKP_CAD_STAT_K / 256 ∧
    s.flag (Fld.STP_SV_STAT_VALID 63) = false := by decide +kernel
theorem met_StationFrames_goose :
    let s := stationAt [(Fld.STP_GF_CFG_SIM 63, 1), (Fld.STP_ST_CFG_TO_APC 3, 1)]
    let f := aFrame 0x88B8 (.goose 0 [] 1 true 100)
    let x := (stationAt []).setGoose 63 (fun g => { g with last := some (0, 0) })
    s.gooseMatches 3 63 f 0 [] = true ∧ (∀ j : Fin 64, j ≠ 63 → s.gooseMatches 3 j f 0 [] = false) ∧ s.rd (Fld.STP_GF_CFG_SIM 63) = 1 ∧ (stationAt []).rd (Fld.STP_GF_CFG_SIM 63) = 0 ∧
    (0x800 : BitVec 16).toNat ≠ s.rd Fld.STP_ETYPE_ETYPE ∧ s.rd (Fld.STP_ST_CFG_TO_APC 3) = 1 ∧ (x.gooseOf 63).last = some (0, 0) ∧ x.rd (Fld.STP_GF_CFG_EN 63) = 1 ∧
    0 + 1600000 * 0 ≤ x.nowTick ∧ x.rd (Fld.STP_GF_CFG_EN 62) = 0 := by decide +kernel
theorem met_StationFrames_bridge :
    let s := stationAt [(Fld.STP_BRIDGE_EN, 1), (Fld.STP_ST_MAC_LO_MAC 1, 7)]
    let f := aFrame 0x88F7 (.ptp (.sync false) 0 0 1 0x7FFFFFFFFFFF0000)
    FrameTaken 1 f s ∧ s.rd Fld.STP_BRIDGE_EN = 1 ∧ f.dst ≠ 0x0180C200000E ∧ f.dst ≠ mac48 (s.rd (Fld.STP_ST_MAC_LO_MAC 1)) (s.rd (Fld.STP_ST_MAC_HI_MAC 1)) ∧
    (0x7FFFFFFFFFFF0000 : BitVec 64).toInt + 65535 + 4096 * s.rd (Fld.STP_ST_LINKDLY_LD 1) ≤ 0x7FFFFFFFFFFFFFFF ∧ 32768 < (((({ StpPort.reset with store := [(1, 30721)] } : StpPort).store.filter (fun x => decide (0 < x.1))).map (·.2)).sum) + f.length ∧
    (s.wr (Fld.STP_ST_CFG_SPEED 0) 2).rd (Fld.STP_ST_CFG_SPEED 0) ≠ s.rd (Fld.STP_ST_CFG_SPEED 1) ∧ s.rd (Fld.STP_ST_CFG_SPEED 0) = s.rd (Fld.STP_ST_CFG_SPEED 1) ∧ mayWrite (.mgc 0) 7 = true := by decide +kernel
theorem met_ResetFrames :
    let s := stationAt [(Fld.STP_ST_CFG_RST_EN 3, 1), (Fld.STP_RST_AUTH_MASK, 8), (Fld.SEC_AUTH_WORD 3 8, 1), (Fld.SEC_LC_STATE, 3)]
    let f := aFrame (BitVec.ofNat 16 (s.rd Fld.STP_ETYPE_ETYPE)) (.own aResetBytes true)
    let u := s.setPort 3 (fun p => { p with rstCount := 16 })
    FrameTaken 3 f s ∧ f.etype.toNat = s.rd Fld.STP_ETYPE_ETYPE ∧ byteAt aResetBytes 0 = 1 ∧ byteAt aResetBytes 1 = 1 ∧ (s.port 3).rstCount = 0 ∧ (u.port 3).rstSec = (u.base 3).count / 1000000000 ∧
    16 ≤ (u.port 3).rstCount ∧ resetVerdict s 3 (readReset aResetBytes true) = none ∧ resetVerdict s 3 (readReset aResetBytes false) = some .auth ∧ s.tndState = 0 ∧ s.anyServing = false ∧
    (servingAt []).anyServing = true := by decide +kernel
theorem met_SafetyIsland :
    let s := at' [(Fld.SAF_STAT_ISL_FAULT, 0), (Fld.SAF_STAT_ISL_HOLD, 0), (Fld.SAF_STAT_PSET_OK, 1), (Fld.SAF_SO_STAT_ON 3, 1), (Fld.SAF_SO_STAT_TEST 2, 2), (Fld.SAF_SO_STAT_ON 2, 1),
      (Fld.SAF_FN_CFG_EN 7, 1), (Fld.SAF_FN_CFG_TYPE 7, 2), (Fld.SAF_PAIR_CFG_EN 7, 1), (Fld.SAF_FN_CFG_REQ_PAIR 7, 7), (Fld.SAF_FN_CFG_LOCK_SO 7, 1), (Fld.SAF_PAIR_STAT_OPERATE 7, 1)]
    let u : State := { s with saf := { s.saf with now := 5000, differ := 3 } }
    let v := ((u.setSafFn 7 (fun f => { f with offFrom := some 0 })).setPair 7 (fun p => { p with fault := none })).setOut 3 (fun o => { o with bad := some 0, matched := true })
    let w : State := { atTime 1 0 [(Fld.SAF_STAT_ISL_FAULT, 1)] with saf := { s.saf with faultAt := 720000000 } }
    u.islandRuns = true ∧ u.rd Fld.SAF_STAT_PSET_OK = 1 ∧ 3 ≤ u.saf.differ ∧ s.saf.differ < 3 ∧ u.outOn 3 = true ∧ u.rd (Fld.SAF_SO_STAT_TEST 3) = 0 ∧ (u.safOut 3).tested + 5000 ≤ u.saf.now ∧
    u.outOn 2 = true ∧ u.rd (Fld.SAF_SO_STAT_TEST 2) = 2 ∧ longer (v.safOut 3).bad 20 v.saf.now = true ∧ u.pairUsed 7 = true ∧ u.rd (Fld.SAF_FN_CFG_TYPE 7) = 2 ∧
    longer (v.safFn 7).offFrom (20 * v.rd (Fld.SAF_FN_TIME_T_MS 7)) (v.saf.now + 1) = true ∧ w.islandRuns = false ∧ w.rd Fld.SAF_STAT_ISL_FAULT = 1 ∧ w.rd Fld.SAF_STAT_ISL_HOLD = 0 ∧
    w.saf.faultAt + 80000000 ≤ w.nowTick ∧ (w.setBase 3 ⟨0, 999999999, 0⟩).nowTick < w.saf.faultAt + 80000000 := by decide +kernel

/-- A consumed message of connection 9 and a parameter message of 304 data bytes, each with its CRC. -/
def aData : List (BitVec 8) :=
  let b : List (BitVec 8) := [2, 1, 1, 0] ++ leBytes 4 9 ++ leBytes 4 1 ++ leBytes 2 10 ++ leBytes 2 8 ++ [3, 0xFC] ++ leBytes 6 0
  b ++ leBytes 4 (crcSaf 3 b).toNat
def aParamHead : List (BitVec 8) := [2, 1, 2, 0] ++ leBytes 4 0 ++ leBytes 4 1 ++ leBytes 2 0 ++ leBytes 2 304 ++ [0x97, 0x4F, 0xB8, 0x45]
def aParam : List (BitVec 8) := aParamHead ++ List.replicate 300 0 ++ leBytes 4 0

theorem crc_of_zeros (n : Nat) : (List.replicate n 0).foldl crcSafByte 0#32 = 0#32 := by
  induction n with
  | zero => rfl
  | succ n ih =>
    rw [List.replicate_succ, List.foldl_cons, show crcSafByte 0#32 0 = 0#32 by decide]
    exact ih
theorem aParam_crc : msgCrcOk 0xFFFFFFFF aParam = true := by
  have hn : leAt aParam 14 2 = 304 := by decide +kernel
  have ht : aParam.take 320 = aParamHead ++ List.replicate 300 0 := by decide +kernel
  have hh : aParamHead.foldl crcSafByte 4294967295 = 0#32 := by decide +kernel
  have hc : crcSaf 4294967295 (aParam.take 320) = 0#32 := by
    rw [ht, crcSaf, List.foldl_append, hh, crc_of_zeros]
  have hl : aParam.length = 324 ∧ leAt aParam 320 4 = 0 := by decide +kernel
  simp only [msgCrcOk, hn, Nat.reduceAdd, hl.1, hl.2]
  rw [show (0xFFFFFFFF : BitVec 32) = 4294967295 from rfl, hc]
  rfl

theorem met_SafetyMessages :
    let s := at' [(Fld.SAF_STAT_ISL_FAULT, 0), (Fld.SAF_STAT_ISL_HOLD, 0), (Fld.SAF_CONN_CFG_EN 7, 1), (Fld.SAF_CONN_CFG_DIR 7, 0), (Fld.SAF_CONN_ID_CONN_ID 7, 9), (Fld.SAF_CONN_SEED_SEED 7, 3), (Fld.SAF_CONN_CFG_PORTS 7, 8),
      (Fld.SAF_CONN_CFG_WD_MS 7, 10), (Fld.SAF_CONN_STAT_ALIVE 7, 1), (Fld.SAF_CONN_CFG_EN 6, 1), (Fld.SAF_CONN_CFG_DIR 6, 1), (Fld.SAF_STAT_SRST_LOW, 1)]
    let m := readParam s.serial aParam
    let u : State := { s with saf := { s.saf with now := 1200000, lowFrom := some 0, pend := some m.set } }
    s.islandRuns = true ∧ s.connOf (BitVec.ofNat 32 (leAt aData 4 4)) = some 7 ∧ s.dataOk 7 3 (readData 3 0 aData) = true ∧ s.dataOk 7 2 (readData 3 0 aData) = false ∧ s.saf.msgCount + 1 ≤ 8000 ∧
    s.connOf 8 = none ∧ m.connId = 0 ∧ m.mtype = 2 ∧ m.len = 304 ∧ State.reset.serial.setWidth 32 = 0#32 ∧ m.wdMs = 0 ∧ seqOk s.saf.paramSeq m.seq = true ∧ s.rd Fld.SAF_STAT_SO_ON = 0 ∧
    s.flag (Fld.SAF_CONN_STAT_ALIVE 7) = true ∧ (u.safConn 7).at' + 20 * u.rd (Fld.SAF_CONN_CFG_WD_MS 7) < u.saf.now ∧ s.flag (Fld.SAF_CONN_CFG_DIR 6) = true ∧ s.sendDue 6 = true ∧
    u.saf.pendAt + 1200000 ≤ u.saf.now ∧ longer u.saf.lowFrom 100000 u.saf.now = true ∧ s.saf.ignore = false ∧ State.reset.saf.pend = none := by decide +kernel
theorem met_RegisterWrites :
    findReg regTable 0x8000001 = none ∧ findReg regTable 0x92FFFFC = none ∧ histAt (blockOf 0x92FFFFC) (0x92FFFFC % 0x100000) = none ∧ (findReg regTable 0x8100000).isSome = true ∧
    (∀ x ∈ findReg regTable 0x8100000, x.1.base ∈ plainRegs ∧ (InRange x.1 x.2.1 x.2.2 1000) ∧ ¬ InRange x.1 x.2.1 x.2.2 0) ∧ (invalidFlag (blockOf 0x8100000)).isSome = true ∧
    mayWrite (.mgc 0) 1 = true ∧ mayWrite (.apc 0) 1 = false ∧ mayReachSram (.mgc 3) = true ∧ mayReachDram (.mgc 0) = true ∧ mayReachSram (.sfc 0) = false := by decide +kernel
theorem met_LiveSourcesBlock_and_ForbiddenCoreCommands : mayWrite (.mgc 3) 4 = true ∧ ∀ b : Fin 19, mayWrite (.apc 23) b = false := by decide +kernel
theorem met_ServiceCommands_migration :
    let s := (at' [(Fld.HKP_SVC_CFG_AUTO_MIG, 1), (Fld.CE_STAT_STATE 31, 2)]).setEng 31 (fun g => { g with ueccAt := [0, 0], container := some aContainer })
    let w := s.wrs [(Fld.CE_MIG_TARGET 31, 0), (Fld.CE_MIG_COPY 31, 1)]
    s.flag Fld.HKP_SVC_CFG_AUTO_MIG = true ∧ s.engState 31 = 2 ∧ 2 ≤ (lastHour s.secondsNow (s.eng 31).ueccAt).length ∧ s.engState 0 = 0 ∧
    w.admits (fun v => v.migrating 31 0 true aContainer) = true := by decide +kernel
theorem met_TandemLinkAndFrames_dual :
    let s := at' [(Fld.TND_STAT_STATE, 4), (Fld.TND_STAT_TWIN_HOLD, 1), (Fld.TND_CFG_ROLE, 2)]
    s.tndState = 4 ∧ s.twinActive = true ∧ s.flag Fld.TND_STAT_LINK_UP = false ∧ s.rd Fld.TND_CFG_ROLE = 2 := by decide +kernel
theorem met_TandemStates_noTwin :
    let r := at' [(Fld.TND_STAT_STATE, 4), (Fld.TND_CFG_YIELD_EN, 1)]
    let s : State := { r.setBase 3 ⟨1, 0, 0⟩ with tnd := { r.tnd with yieldDue := some (true, false), yieldAt := 0 } }
    s.tndState = 4 ∧ bitOf (s.rd Fld.TND_CFG_YIELD_EN) 0 = true ∧ s.flag Fld.TND_STAT_TWIN_READY = false ∧ s.tnd.yieldAt < s.nowTick ∧ s.mayBegin = true := by decide +kernel
theorem met_CustodianObjects_due :
    let s := flightAt [] (.debugOpen (anObject 2 0)) .due
    s.actable 255 3 = some (aFlight (.debugOpen (anObject 2 0)) .due) ∧ (s.fn 255).closing = false := by decide +kernel
theorem met_ServeAssembly_standby :
    let s := (at' [(Fld.SPK_CFG_ENABLE 127, 1), (Fld.SPK_STAT_ADMITTED 127, 1), (Fld.SEC_LC_STATE, 2), (Fld.TND_STAT_STATE, 3), (Fld.CE_STAT_STATE 31, 6)]).setEng 31 (fun g => { g with stateWas := 2, ended := true, held := true })
    let u : State := { s with rst := { s.rst with phase := .started } }
    u.standby = true ∧ u.spokeState 127 = .listening ∧ u.serveNext 127 = true ∧ u.dueWindow 31 = true ∧ (u.eng 31).held = true := by decide +kernel

end Sys2Proof.Machine
end

section
/-! PROOFS. The state after a power-on reset. -/

namespace Sys2Proof.Machine

/-! ### Right after a power-on reset (R8, R64) -/

/-- A register field reads its reset value. -/
@[simp] theorem State.rd_reset (f : Field) : State.reset.rd f = f.reset := rfl

/-- No module that has not started serves (R395). -/
theorem State.serving_of_not_started {s : State} (h : s.started = false) (n : Nat) : s.serving n = false := by
  simp [State.serving, State.mayServe, h]

theorem reset_idle (c : Nat) : State.reset.idle c = true := rfl

theorem reset_slotOf (c : Nat) : State.reset.slotOf c = none := rfl

/-- The scheduler's invariant holds with every list empty, every core idle and every slot free (R485). -/
theorem tasksSound_reset : TasksSound State.reset := by
  have hready : ∀ p, State.reset.readyList p = [] := fun _ => rfl
  have hdelay : State.reset.sch.us ++ State.reset.sch.vol = [] := rfl
  refine ⟨fun p => ?ready, ?delayed, fun c hc => ?running, fun c t ht => ?slots⟩
  case ready => simp [hready]
  case delayed => simp [hdelay]
  case running => simp [reset_idle] at hc
  case slots => simp [reset_slotOf] at ht

end Sys2Proof.Machine

open Sys2Proof Sys2Proof.Machine

/-- Settles O2: no field is written, so each reads its reset value, and the module has not started. -/
theorem resetState : Obligations.ResetState := by
  unfold Obligations.ResetState
  exact ⟨State.rd_reset, rfl, rfl, rfl, fun _ => rfl, rfl, State.serving_of_not_started rfl, rfl, rfl, tasksSound_reset⟩

end

section
/-! PROOFS. The register table: where the fields of a register lie (R7, R22), and the registers that only hold a value. -/

namespace Sys2Proof.Machine

/-! ### Rows of the table -/

/-- The address of a row's register with indices `i` and `j`. -/
def RegDef.addrAt (d : RegDef) (i j : Nat) : Nat :=
  match d.strides with
  | [] => d.base
  | [(_, st)] => d.base + st * i
  | (_, st) :: (_, st') :: _ => d.base + st * i + st' * j

/-- The end of the addresses that a row covers. -/
def RegDef.top (d : RegDef) : Nat :=
  match d.strides with
  | [] => d.base + 1
  | (c, st) :: _ => d.base + st * c

/-- The fields of the row lie at its register's address, at bits that no index changes. -/
def RegDef.Aligned (d : RegDef) : Prop :=
  d.fields.Forall (fun fd => ∀ i j, (fd.fld i j).addr = d.addrAt i j ∧ (fd.fld i j).lsb = (fd.fld 0 0).lsb)

theorem regTable_aligned : regTable.Forall RegDef.Aligned := by
  repeat' apply And.intro
  all_goals (intro i j; exact ⟨rfl, rfl⟩)

theorem regTable_lsbs : ∀ d ∈ regTable,
    (d.fields.map (fun fd => (fd.fld 0 0).lsb)).Nodup ∧ ∀ fd ∈ d.fields, (fd.fld 0 0).lsb < 32 := by decide +kernel

theorem regTable_steps : ∀ d ∈ regTable, ∀ p ∈ d.strides, 0 < p.2 := by decide +kernel

/-- An address a row covers is that of its indices, and lies within the row. -/
theorem RegDef.of_indices {d : RegDef} {a i j : Nat} (hst : ∀ p ∈ d.strides, 0 < p.2) (h : d.indices a = some (i, j)) :
    d.addrAt i j = a ∧ d.base ≤ a ∧ a < d.top := by
  unfold RegDef.indices at h
  obtain ⟨hlo, h⟩ := Option.ite_none_left_eq_some.1 h
  rcases hd : d.strides with _ | ⟨⟨c, st⟩, _ | ⟨⟨c', st'⟩, rest⟩⟩
  case nil =>
    simp only [hd, Option.ite_none_right_eq_some] at h
    simp only [RegDef.addrAt, RegDef.top, hd]
    omega
  case cons.nil =>
    simp only [hd, Option.ite_none_right_eq_some, Option.some.injEq, Prod.mk.injEq] at h
    obtain ⟨⟨hmod, hlt⟩, hi, -⟩ := h
    have := Nat.mul_div_cancel' (Nat.dvd_of_mod_eq_zero hmod)
    have := (Nat.div_lt_iff_lt_mul (show 0 < st from hst (c, st) (by simp [hd]))).1 hlt
    rw [Nat.mul_comm] at this
    simp only [RegDef.addrAt, RegDef.top, hd, ← hi]
    omega
  case cons.cons =>
    simp only [hd, Option.ite_none_right_eq_some, Option.some.injEq, Prod.mk.injEq] at h
    obtain ⟨⟨hlt, hmod, -⟩, hi, hj⟩ := h
    have := Nat.div_add_mod (a - d.base) st
    have := Nat.mul_div_cancel' (Nat.dvd_of_mod_eq_zero hmod)
    have := (Nat.div_lt_iff_lt_mul (show 0 < st from hst (c, st) (by simp [hd]))).1 hlt
    rw [Nat.mul_comm] at this
    simp only [RegDef.addrAt, RegDef.top, hd, ← hi, ← hj]
    omega

theorem mem_and_indices_of_findReg {l : List RegDef} {a i j : Nat} {d : RegDef} (h : findReg l a = some (d, i, j)) :
    d ∈ l ∧ d.indices a = some (i, j) := by
  induction l with
  | nil => cases h
  | cons e t ih =>
    unfold findReg at h
    split at h
    · rename_i p q hpq
      cases h
      exact ⟨List.mem_cons_self, hpq⟩
    · obtain ⟨hmem, hind⟩ := ih h
      exact ⟨List.mem_cons_of_mem _ hmem, hind⟩

/-- A register found in the table: its row, its fields' address, and the row's range. -/
theorem findReg_regTable {a i j : Nat} {d : RegDef} (h : findReg regTable a = some (d, i, j)) :
    d ∈ regTable ∧ (∀ fd ∈ d.fields, (fd.fld i j).addr = a ∧ (fd.fld i j).lsb = (fd.fld 0 0).lsb) ∧ d.base ≤ a ∧ a < d.top := by
  obtain ⟨hd, hind⟩ := mem_and_indices_of_findReg h
  obtain ⟨haddr, hlo, hhi⟩ := RegDef.of_indices (regTable_steps d hd) hind
  refine ⟨hd, fun fd hfd => ?_, hlo, hhi⟩
  obtain ⟨h1, h2⟩ := List.forall_iff_forall_mem.1 (List.forall_iff_forall_mem.1 regTable_aligned d hd) fd hfd i j
  exact ⟨h1.trans haddr, h2⟩

theorem field_of_findReg {a i j : Nat} {d : RegDef} (h : findReg regTable a = some (d, i, j)) {fd : FieldDef}
    (hfd : fd ∈ d.fields) : (fd.fld i j).addr = a ∧ (fd.fld i j).lsb < 32 := by
  obtain ⟨hd, hfld, -⟩ := findReg_regTable h
  obtain ⟨ha, hl⟩ := hfld fd hfd
  exact ⟨ha, hl ▸ (regTable_lsbs d hd).2 fd hfd⟩

/-- Fields of one register have keys of their own. -/
theorem nodup_keys_of_findReg {a i j : Nat} {d : RegDef} (h : findReg regTable a = some (d, i, j)) :
    (d.fields.map (fun fd => (fd.fld i j).key)).Nodup := by
  obtain ⟨hd, hfld, -⟩ := findReg_regTable h
  have hkey : d.fields.map (fun fd => (fd.fld i j).key) = (d.fields.map (fun fd => (fd.fld 0 0).lsb)).map (fun n => a * 32 + n) := by
    rw [List.map_map]
    refine List.map_congr_left fun fd hfd => ?_
    obtain ⟨ha, hl⟩ := hfld fd hfd
    simp [Field.key, ha, hl]
  rw [hkey]
  exact (regTable_lsbs d hd).1.map fun m n hmn => Nat.add_left_cancel hmn

/-! ### Registers that only hold a value -/

/-- The address belongs to such a register. -/
def plainAt (a : Nat) : Bool := (findReg regTable a).any (fun x => plainRegs.contains x.1.base)

/-- What the rows of these registers have in common: every field is RW, and they lie in the blocks but the safety island. -/
theorem plain_rows : ∀ d ∈ regTable, d.base ∈ plainRegs →
    (∀ fd ∈ d.fields, fd.acc = .rw) ∧ 0x8000000 ≤ d.base ∧ d.top ≤ 0x9300000 ∧ (d.top ≤ 0x8500000 ∨ 0x8600000 ≤ d.base) := by
  decide +kernel

section
variable {a i j : Nat} {d : RegDef} (h : findReg regTable a = some (d, i, j)) (hb : d.base ∈ plainRegs)
include h hb

theorem plainAt_of_findReg : plainAt a = true := by simpa [plainAt, h] using hb

theorem plain_acc : ∀ fd ∈ d.fields, fd.acc = .rw := (plain_rows d (findReg_regTable h).1 hb).1

theorem plain_range : 0x8000000 ≤ a ∧ a < 0x9300000 ∧ blockOf a ≠ 5 := by
  obtain ⟨hd, -, hlo, hhi⟩ := findReg_regTable h
  obtain ⟨-, h1, h2, h3⟩ := plain_rows d hd hb
  refine ⟨by omega, by omega, ?_⟩
  unfold blockOf
  omega

/-- A field of a register that is none of them is another field. -/
theorem plain_key_ne {fd : FieldDef} (hfd : fd ∈ d.fields) {f : Field} (hf : plainAt f.addr = false) (hl : f.lsb < 32) :
    (fd.fld i j).key ≠ f.key := by
  obtain ⟨ha, hl'⟩ := field_of_findReg h hfd
  intro hk
  rw [← ((Field.key_inj hl' hl).1 hk).1, ha, plainAt_of_findReg h hb] at hf
  cases hf

end

/-! ### Flags of refused writes (R9) -/

/-- A one-bit field in the blocks whose register is none that only holds a value, and not the module log's. -/
def Field.isQuietFlag (f : Field) : Bool :=
  f.width == 1 && decide (f.lsb < 32) && decide (f.addr < 0x9300000) && !plainAt f.addr && eventFields.all (fun x => f.key != x.key)

theorem refusalFlags_quiet : ∀ b < 19, ∀ f ∈ refusalFlags b ++ nofitFlags, f.isQuietFlag = true := by decide +kernel

theorem eventFields_plainAt : ∀ f ∈ eventFields, plainAt f.addr = false ∧ f.lsb < 32 ∧ f.addr < 0x9300000 := by decide +kernel

theorem invalidFlag_isSome : ∀ b < 19, b ≠ 5 → (invalidFlag b).isSome = true := by decide

theorem invalidFlag_lt {b : Nat} {g : Field} (h : invalidFlag b = some g) : b < 19 := by
  by_contra hb
  rw [invalidFlag, List.getD_eq_default _ _ (by simp; omega)] at h
  cases h

theorem invalidFlag_mem {b : Nat} {g : Field} (h : invalidFlag b = some g) : g ∈ refusalFlags b := by
  simp [refusalFlags, h]

theorem Field.of_isQuietFlag {f : Field} (h : f.isQuietFlag = true) :
    f.width = 1 ∧ f.lsb < 32 ∧ f.addr < 0x9300000 ∧ plainAt f.addr = false ∧ ∀ x ∈ eventFields, f.key ≠ x.key := by
  simp only [Field.isQuietFlag, Bool.and_eq_true, beq_iff_eq, decide_eq_true_eq, Bool.not_eq_true', List.all_eq_true, bne_iff_ne] at h
  tauto

end Sys2Proof.Machine
end

section
/-! PROOFS. Writes of several fields and of one register word (R8, R9, R26). -/

namespace Sys2Proof.Machine

/-! ### Several fields in turn -/

theorem State.wrs_eq_foldl (l : List (Field × Nat)) : ∀ s : State, s.wrs l = l.foldl (fun s p => s.wr p.1 p.2) s := by
  induction l with
  | nil => intro s; rfl
  | cons p t ih => intro s; exact ih _

/-- Of writes to different fields each field holds its own. -/
theorem State.rd_wrs_mem {l : List (Field × Nat)} (hl : (l.map (fun p => p.1.key)).Nodup) {p : Field × Nat} (hp : p ∈ l) :
    ∀ s : State, (s.wrs l).rd p.1 = p.2 % 2 ^ p.1.width := by
  induction l with
  | nil => cases hp
  | cons q t ih =>
    intro s
    obtain ⟨hq, ht⟩ := List.nodup_cons.1 hl
    rcases List.mem_cons.1 hp with rfl | hp
    · rw [State.wrs_cons, State.rd_wrs_ne t p.1 _ fun r hr he => hq (List.mem_map.2 ⟨r, hr, he.symm⟩), State.rd_wr_self]
    · exact ih ht hp _

theorem OnlyRegs.refl (fs : List Field) (s : State) : OnlyRegs fs s s := ⟨fun _ _ => rfl, rfl⟩

theorem OnlyRegs.trans {fs : List Field} {s t u : State} (h : OnlyRegs fs s t) (k : OnlyRegs fs t u) : OnlyRegs fs s u := by
  obtain ⟨h1, h2⟩ := h
  obtain ⟨k1, k2⟩ := k
  exact ⟨fun g hg => (k1 g hg).trans (h1 g hg), by rw [k2, h2]⟩

theorem OnlyRegs.mono {fs gs : List Field} {s t : State} (h : OnlyRegs fs s t) (hs : ∀ f ∈ fs, f ∈ gs) : OnlyRegs gs s t :=
  ⟨fun g hg => h.1 g fun f hf => hg f (hs f hf), h.2⟩

theorem onlyRegs_wr (s : State) (f : Field) (v : Nat) : OnlyRegs [f] s (s.wr f v) :=
  ⟨fun _ hg => State.rd_wr_ne s v (hg f (by simp)), rfl⟩

theorem onlyRegs_wrs (s : State) (l : List (Field × Nat)) : OnlyRegs (l.map (·.1)) s (s.wrs l) :=
  ⟨fun g hg => State.rd_wrs_ne l g s fun p hp => hg p.1 (List.mem_map.2 ⟨p, hp, rfl⟩), State.wrs_eq l s⟩

/-- Steps that each change one field of a list change these fields and nothing else. -/
theorem onlyRegs_foldl {k : State → Field → State} (hk : ∀ s f, OnlyRegs [f] s (k s f)) (fs : List Field) :
    ∀ s : State, OnlyRegs fs s (fs.foldl k s) := by
  induction fs with
  | nil => intro s; exact OnlyRegs.refl [] s
  | cons f t ih =>
    intro s
    exact ((hk s f).mono (by simp)).trans ((ih (k s f)).mono fun g hg => List.mem_cons_of_mem f hg)

/-- Fields with keys of their own that are set to 0 in turn read 0. -/
theorem rd_foldl_clear {fs : List Field} (hfs : (fs.map Field.key).Nodup) {f : Field} (hf : f ∈ fs) (s : State) :
    (fs.foldl (fun (s : State) f => s.wr f 0) s).rd f = 0 := by
  have hwrs : fs.foldl (fun (s : State) f => s.wr f 0) s = s.wrs (fs.map (fun f => (f, 0))) := by
    rw [State.wrs_eq_foldl, List.foldl_map]
  rw [hwrs, State.rd_wrs_mem (p := (f, 0)) (by simpa [List.map_map, Function.comp_def] using hfs) (List.mem_map.2 ⟨f, hf, rfl⟩)]
  exact Nat.zero_mod _

/-! ### A word to a register that only holds a value -/

/-- The fields of a register with their parts of a word. -/
def RegDef.parts (d : RegDef) (i j v : Nat) : List (Field × Nat) := d.fields.map (fun fd => (fd.fld i j, (fd.fld i j).part v))

theorem Field.part_mod (f : Field) (v : Nat) : f.part v % 2 ^ f.width = f.part v := Nat.mod_mod _ _

/-- RW fields all take the write, whether the block is locked or not. -/
theorem State.putFields_of_rw (s : State) {d : RegDef} (h : ∀ fd ∈ d.fields, fd.acc = .rw) (i j v : Nat) (locked : Bool) :
    s.putFields d i j v locked = s.wrs (d.parts i j v) := by
  rw [State.putFields, State.wrs_eq_foldl, RegDef.parts, List.foldl_map]
  refine List.foldl_ext _ _ s fun u fd hfd => ?_
  rw [h fd hfd]
  rfl

theorem RegDef.valuesOk_of_rw {d : RegDef} (h : ∀ fd ∈ d.fields, fd.acc = .rw) (i j v : Nat) :
    d.valuesOk i j v = true ↔ InRange d i j v := by
  rw [RegDef.valuesOk, List.all_eq_true]
  refine forall₂_congr fun fd hfd => ?_
  rw [h fd hfd]
  exact decide_eq_true_iff

theorem State.violates_of_rw (s : State) {d : RegDef} (h : ∀ fd ∈ d.fields, fd.acc = .rw) (i j v : Nat) : s.violates d i j v = false := by
  rw [State.violates, List.any_eq_false]
  intro fd hfd
  rw [h fd hfd]
  simp

/-- No operation of its own, no condition on the values and no effect beside the fields stands behind these registers. -/
theorem State.whole_of_plain (s : State) (i j v : Nat) : ∀ b ∈ plainRegs, s.whole b i j v = none := by
  simp [plainRegs, State.whole]

theorem State.allowedWrite_of_plain (s t : State) (i j : Nat) : ∀ b ∈ plainRegs, s.allowedWrite t b i j = true := by
  simp [plainRegs, State.allowedWrite]

theorem State.afterWrite_of_plain (s t : State) (i v : Nat) : ∀ b ∈ plainRegs, s.afterWrite t b i v = t := by
  simp [plainRegs, State.afterWrite]

end Sys2Proof.Machine
end

section
/-! PROOFS. One word to a register that only holds a value, and the words of a core (R8, R9, R20 to R24, R26). -/

namespace Sys2Proof.Machine

section
variable {a i j : Nat} {d : RegDef} (h : findReg regTable a = some (d, i, j)) (hb : d.base ∈ plainRegs)
include h hb

/-- A word in range: its fields are written, and a staged register waits for the strobe. -/
theorem State.writeFields_of_inRange (s : State) {v : Nat} (hv : InRange d i j v) :
    s.writeFields d i j a v = { s.wrs (d.parts i j v) with seqr := { s.seqr with staged := s.seqr.staged || stagedAddr a } } := by
  have hrw := plain_acc h hb
  have hseqr : (s.wrs (d.parts i j v)).seqr = s.seqr := by rw [State.wrs_eq]
  simp only [State.writeFields, (RegDef.valuesOk_of_rw hrw i j v).2 hv, State.whole_of_plain s i j v d.base hb,
    State.violates_of_rw s hrw, State.putFields_of_rw _ hrw, State.allowedWrite_of_plain _ _ i j d.base hb,
    State.afterWrite_of_plain _ _ i v d.base hb, not_true, if_false, Bool.and_false, Bool.false_eq_true]
  split
  · rename_i hst; simp [hst, hseqr]
  · rename_i hst; simp [hst, ← hseqr]

theorem State.writeFields_of_not_inRange (s : State) {v : Nat} (hv : ¬ InRange d i j v) :
    s.writeFields d i j a v = s.refuse (blockOf a) i := by
  rw [State.writeFields, if_pos (mt (RegDef.valuesOk_of_rw (plain_acc h hb) i j v).1 hv)]

omit hb in
theorem rd_parts (s : State) {v : Nat} {fd : FieldDef} (hfd : fd ∈ d.fields) :
    (s.wrs (d.parts i j v)).rd (fd.fld i j) = (fd.fld i j).part v := by
  have hkeys : ((d.parts i j v).map (fun p => p.1.key)).Nodup := by
    simpa [RegDef.parts, List.map_map, Function.comp_def] using nodup_keys_of_findReg h
  rw [State.rd_wrs_mem (p := (fd.fld i j, (fd.fld i j).part v)) hkeys (List.mem_map.2 ⟨fd, hfd, rfl⟩)]
  exact Field.part_mod _ _

theorem State.holds_writeFields (s : State) {v : Nat} (hv : InRange d i j v) : Holds d i j a v s (s.writeFields d i j a v) ∧
    s.writeFields d i j a v = { s with regs := (s.writeFields d i j a v).regs, seqr := (s.writeFields d i j a v).seqr } := by
  obtain ⟨hregs, hrest⟩ := onlyRegs_wrs s (d.parts i j v)
  have hflds : (d.parts i j v).map (·.1) = d.fields.map (fun fd => fd.fld i j) := by simp [RegDef.parts, Function.comp_def]
  rw [hflds] at hregs
  rw [State.writeFields_of_inRange h hb s hv]
  refine ⟨⟨fun fd hfd => rd_parts h s hfd, hregs, ?force, rfl⟩, ?rest⟩
  case force => rw [hrest]
  case rest => rw [hrest]

end

/-! ### A refused word (R9) -/

theorem State.refuse_of_invalidFlag (s : State) {b : Nat} {g : Field} (h : invalidFlag b = some g) (n : Nat) : s.refuse b n = s.raise g n := by
  rw [State.refuse, h]

theorem quiet_of_invalidFlag {b : Nat} {g : Field} (h : invalidFlag b = some g) : g.isQuietFlag = true :=
  refusalFlags_quiet b (invalidFlag_lt h) g (List.mem_append_left _ (invalidFlag_mem h))

/-- An event changes its flag, its history and the log, and says so in them alone. -/
theorem State.onlyLogged_raise (s : State) (f : Field) (n : Nat) : OnlyLogged [f] s (s.raise f n) :=
  ⟨fun g hg => State.rd_raise_ne s f n g (hg f (by simp)) fun x hx => hg x (List.mem_append_right _ hx), State.raise_parts s f n⟩

/-- The flag of a refused write is set, with its history entry and log record. -/
theorem State.raised_quiet (s : State) {f : Field} (hf : f.isQuietFlag = true) (n : Nat) :
    (s.raise f n).rd f = 1 ∧ OnlyLogged [f] s (s.raise f n) ∧ Logs [(f, n)] s (s.raise f n) := by
  obtain ⟨hw, -, -, -, hev⟩ := Field.of_isQuietFlag hf
  have hone : [(f, n)].foldl (fun (u : State) e => u.raise e.1 e.2) s = s.raise f n := by rw [List.foldl_cons, List.foldl_nil]
  exact ⟨State.rd_raise_self s f n hw hev, State.onlyLogged_raise s f n, congrArg State.hist hone.symm, congrArg State.log hone.symm⟩

/-! ### Words of a core, by region (R20, R21) -/

theorem State.coreWrite_of_unaligned (s : State) (u : Core) {a : Nat} (v : Reg32) (h : a % 4 ≠ 0) : s.coreWrite u a v = s.accessFault u a :=
  if_pos h

theorem State.coreWrite_of_unmapped (s : State) (u : Core) {a : Nat} (v : Reg32)
    (h : a < 0x4000000 ∨ (0x4400000 ≤ a ∧ a < 0x8000000) ∨ (0x9300000 ≤ a ∧ a < 0x10000000) ∨ 0x200000000 ≤ a) :
    s.coreWrite u a v = s.accessFault u a := by
  have no (lo hi : Nat) (hr : a < lo ∨ hi ≤ a) : inRegion a lo hi = false := by simp [inRegion]; omega
  simp [State.coreWrite, no 0x8000000 0x9300000 (by omega), no 0x4000000 0x4400000 (by omega),
    no sramBase 0x12D00000 (by simp only [sramBase]; omega), no windowBase 0x22000000 (by simp only [windowBase]; omega),
    no dramBase 0x200000000 (by simp only [dramBase]; omega)]

theorem State.coreWrite_of_block (s : State) (u : Core) {a : Nat} (v : Reg32) (h4 : a % 4 = 0) (h : 0x8000000 ≤ a ∧ a < 0x9300000) :
    s.coreWrite u a v = s.blockWrite u a v.toNat := by
  simp [State.coreWrite, h4, inRegion, h]

/-- What stands in the four bytes that a core's word reaches in the cycle SRAM: bits [63:40] of a slot are ignored (R411). -/
def sramBytes (a : Nat) (v : Reg32) : List (BitVec 8) := leBytes 4 (if a % 8 = 4 then v.toNat % 256 else v.toNat)

theorem State.coreWrite_of_sram (s : State) (u : Core) {a : Nat} (v : Reg32) (h4 : a % 4 = 0) (h : 0x10000000 ≤ a ∧ a < 0x12D00000) :
    s.coreWrite u a v = if mayReachSram u = true then s.putBytes a (sramBytes a v) else s.accessFault u a := by
  have no (lo hi : Nat) (hr : a < lo ∨ hi ≤ a) : inRegion a lo hi = false := by simp [inRegion]; omega
  have yes : inRegion a sramBase 0x12D00000 = true := by simp [inRegion, sramBase, h]
  simp [State.coreWrite, h4, no 0x8000000 0x9300000 (by omega), no 0x4000000 0x4400000 (by omega), yes, sramBytes,
    no windowBase 0x22000000 (by simp only [windowBase]; omega), no dramBase 0x200000000 (by simp only [dramBase]; omega)]

theorem State.coreWrite_of_dram (s : State) (u : Core) {a : Nat} (v : Reg32) (h4 : a % 4 = 0) (h : 0x106000000 ≤ a ∧ a < 0x200000000) :
    s.coreWrite u a v = if mayReachDram u = true then s.putBytes a (leBytes 4 v.toNat) else s.accessFault u a := by
  have no (lo hi : Nat) (hr : a < lo ∨ hi ≤ a) : inRegion a lo hi = false := by simp [inRegion]; omega
  have yes : inRegion a dramBase 0x200000000 = true := by
    rw [inRegion, Bool.and_eq_true, decide_eq_true_eq, decide_eq_true_eq, dramBase]
    omega
  have hstore : s.dramStore (a - dramBase) v = s.putBytes a (leBytes 4 v.toNat) := by
    rw [State.dramStore, if_neg (by rw [dramBase]; omega), if_neg (by rw [dramBase]; omega),
      Nat.add_sub_cancel' (by rw [dramBase]; omega)]
  rw [State.coreWrite, if_neg (by simp [h4]), no 0x8000000 0x9300000 (by omega), no 0x4000000 0x4400000 (by omega),
    no sramBase 0x12D00000 (by simp only [sramBase]; omega), no windowBase 0x22000000 (by simp only [windowBase]; omega), yes, hstore]
  simp only [Bool.false_eq_true, false_and, true_and, if_false]

end Sys2Proof.Machine
end

section
/-! PROOFS. What a core's word does in the blocks and in the memories (R8, R9, R20 to R23, R411). -/

namespace Sys2Proof.Machine

/-! ### Words into the blocks (R22, R23) -/

theorem State.blockWrite_of_free (s : State) (u : Core) {a : Nat} (v : Nat) (h : findReg regTable a = none)
    (hh : histAt (blockOf a) (a % 0x100000) = none) : s.blockWrite u a v = s.accessFault u a := by
  simp [State.blockWrite, h, hh]

theorem State.blockWrite_of_forbidden (s : State) {u : Core} {a : Nat} (v : Nat) (h : findReg regTable a ≠ none)
    (hu : mayWrite u (blockOf a) = false) : s.blockWrite u a v = s.accessFault u (0x8000000 + blockOf a * 0x100000) := by
  obtain ⟨⟨d, i, j⟩, hx⟩ := Option.ne_none_iff_exists'.1 h
  simp only [State.blockWrite, hx]
  exact State.asWriter_not s _ hu

theorem State.blockWrite_of_plain (s : State) {u : Core} {a i j : Nat} {d : RegDef} (h : findReg regTable a = some (d, i, j))
    (hb : d.base ∈ plainRegs) (v : Nat) (hu : mayWrite u (blockOf a) = true) : s.blockWrite u a v = s.writeFields d i j a v := by
  obtain ⟨-, -, h5⟩ := plain_range h hb
  simp only [State.blockWrite, h]
  rw [State.asWriter_of s _ hu, if_neg h5]

/-! ### Words into the memories (R20, R411) -/

theorem length_leBytes (n : Nat) : ∀ v, (leBytes n v).length = n := by
  induction n with
  | zero => intro v; rfl
  | succ n ih => intro v; simp [leBytes, ih]

theorem getD_leBytes (n : Nat) : ∀ v k, k < n → (leBytes n v).getD k 0 = BitVec.ofNat 8 (v / 2 ^ (8 * k)) := by
  induction n with
  | zero => intro v k hk; omega
  | succ n ih =>
    intro v k hk
    cases k with
    | zero => simp [leBytes]
    | succ k =>
      rw [leBytes, List.getD_cons_succ, ih _ _ (by omega), Nat.div_div_eq_div_mul, Nat.mul_add, Nat.pow_add, Nat.mul_comm]

theorem get_putBytes_leBytes (s : State) (a v : Nat) (k : Fin 4) :
    FMap.get 0 (s.putBytes a (leBytes 4 v)).mem (a + k.val) = BitVec.ofNat 8 (v / 2 ^ (8 * k.val)) := by
  have hk := k.isLt
  rw [State.putBytes, FMap.get_setRange, length_leBytes, if_pos (by omega), Nat.add_sub_cancel_left, getD_leBytes 4 v k.val hk]

theorem mapBut_putBytes_leBytes (s : State) (a v : Nat) :
    MapBut 0 [a, a + 1, a + 2, a + 3] s.mem (s.putBytes a (leBytes 4 v)).mem := by
  intro k hk
  simp only [List.mem_cons, List.not_mem_nil, or_false, not_or] at hk
  rw [State.putBytes, FMap.get_setRange, length_leBytes, if_neg (by omega)]

/-- The upper half of a slot of the cycle SRAM keeps its low byte alone (R411). -/
theorem get_putBytes_sramBytes (s : State) (a : Nat) (v : Reg32) (k : Fin 4) :
    FMap.get 0 (s.putBytes a (sramBytes a v)).mem (a + k.val) =
      if a % 8 = 4 ∧ k ≠ 0 then 0 else BitVec.ofNat 8 (v.toNat / 2 ^ (8 * k.val)) := by
  rw [sramBytes, get_putBytes_leBytes]
  by_cases ha : a % 8 = 4
  · by_cases hk : k = 0
    · subst hk
      simpa [ha] using BitVec.eq_of_toNat_eq (by simp)
    · have hpow : 2 ^ 8 ≤ 2 ^ (8 * k.val) := Nat.pow_le_pow_right (by decide) (by omega)
      have hlow := Nat.mod_lt v.toNat (show 0 < 256 by decide)
      rw [if_pos ha, if_pos ⟨ha, hk⟩, Nat.div_eq_of_lt (by omega)]
      rfl
  · simp [ha]

end Sys2Proof.Machine
end

section
/-! PROOFS. A host's writes into its function's page: doorbells, the vector table and the ring registers (R354 to R356, R375). -/

namespace Sys2Proof.Machine

/-! ### What one function's record may change -/

/-- Nothing but the record of function `f` changes. -/
def OnlyFn (f : Nat) (s t : State) : Prop := MapBut HostFn.reset [f] s.host t.host ∧ t = { s with host := t.host }

theorem OnlyFn.refl (f : Nat) (s : State) : OnlyFn f s s := ⟨fun _ _ => rfl, rfl⟩

theorem OnlyFn.trans {f : Nat} {s t u : State} (h : OnlyFn f s t) (k : OnlyFn f t u) : OnlyFn f s u := by
  obtain ⟨h1, h2⟩ := h
  obtain ⟨k1, k2⟩ := k
  exact ⟨fun n hn => (k1 n hn).trans (h1 n hn), by rw [k2, h2]⟩

theorem onlyFn_setFn (s : State) (f : Nat) (k : HostFn → HostFn) : OnlyFn f s (s.setFn f k) :=
  ⟨fun n hn => FMap.get_modify_ne _ _ k (by simpa using hn), rfl⟩

theorem onlyFn_setVector (s : State) (f v : Nat) (k : Vector' → Vector') : OnlyFn f s (s.setVector f v k) := onlyFn_setFn s f _

theorem onlyFn_sendMsix (s : State) (f v : Nat) : OnlyFn f s (s.sendMsix f v) := onlyFn_setVector s f v _

theorem onlyFn_signal (s : State) (f v : Nat) : OnlyFn f s (s.signal f v) := by
  unfold State.signal
  dsimp only
  split
  · exact (onlyFn_setVector s f v _).trans (onlyFn_sendMsix _ f v)
  · exact onlyFn_setVector s f v _

/-! ### Vectors (R375) -/

@[simp] theorem State.vector_setVector_self (s : State) (f v : Nat) (k : Vector' → Vector') :
    (s.setVector f v k).vector f v = k (s.vector f v) := by
  simp [State.vector, State.setVector, State.fn, State.setFn]

theorem State.vector_setVector_ne (s : State) (f : Nat) {v w : Nat} (k : Vector' → Vector') (h : w ≠ v) :
    (s.setVector f v k).vector f w = s.vector f w := by
  simp [State.vector, State.setVector, State.fn, State.setFn, FMap.get_modify_ne _ _ _ h]

theorem State.vector_sendMsix_ne (s : State) (f : Nat) {v w : Nat} (h : w ≠ v) : (s.sendMsix f v).vector f w = s.vector f w :=
  State.vector_setVector_ne s f _ h

@[simp] theorem State.masked_sendMsix (s : State) (f v : Nat) : ((s.sendMsix f v).vector f v).masked = (s.vector f v).masked := by
  rw [State.sendMsix, State.vector_setVector_self]
  split
  · rfl
  · split <;> rfl

/-- An unmasked vector under no cap sends its address and data. -/
theorem State.vector_sendMsix_of_free (s : State) (f v : Nat) (hm : (s.vector f v).masked = false) (hc : (s.vector f v).capped = false) :
    (s.sendMsix f v).vector f v = { s.vector f v with
      sent := (s.vector f v).sent + 1, sentAt := (s.base 3).count, last := some ((s.vector f v).addr, (s.vector f v).data),
      unsig := 0, waits := false, capped := decide (0 < s.msixCap f v) } := by
  rw [State.sendMsix, State.vector_setVector_self]
  simp [hm, hc]

/-! ### The vector table (R354, R375) -/

section
variable (s : State) (f : Nat) (k : Fin 4) (v : Nat)

theorem State.barWrite_vectorUpper : s.barWrite f true (0x2000 + 16 * k.val + 4) v =
    s.setVector f k (fun x => { x with addr := BitVec.ofNat 64 (x.addr.toNat % 2 ^ 32 + v * 2 ^ 32) }) := by
  have hk : (0x2000 + 16 * k.val + 4) / 16 % 4 = k.val := by omega
  have hr : (0x2000 + 16 * k.val + 4) % 16 = 4 := by omega
  simp only [State.barWrite, hk, hr]
  rw [if_neg (by omega), if_pos (by omega), if_neg (by simp; omega), if_neg (by decide), if_pos trivial]

theorem State.barWrite_vectorData : s.barWrite f true (0x2000 + 16 * k.val + 8) v =
    s.setVector f k (fun x => { x with data := BitVec.ofNat 32 v }) := by
  have hk : (0x2000 + 16 * k.val + 8) / 16 % 4 = k.val := by omega
  have hr : (0x2000 + 16 * k.val + 8) % 16 = 8 := by omega
  simp only [State.barWrite, hk, hr]
  rw [if_neg (by omega), if_pos (by omega), if_neg (by simp; omega), if_neg (by decide), if_neg (by decide), if_pos trivial]

/-- The vector with the mask bit written. -/
def State.masking : State := s.setVector f k (fun x => { x with masked := bitOf v 0 })

/-- The vector control word: an unmasked pending vector sends. -/
theorem State.barWrite_vectorControl : s.barWrite f true (0x2000 + 16 * k.val + 12) v =
    if ¬ bitOf v 0 ∧ ((s.masking f k v).vector f k).pending then
      ((s.masking f k v).setVector f k (fun x => { x with pending := false })).sendMsix f k
    else s.masking f k v := by
  have hk : (0x2000 + 16 * k.val + 12) / 16 % 4 = k.val := by omega
  have hr : (0x2000 + 16 * k.val + 12) % 16 = 12 := by omega
  simp only [State.barWrite, hk, hr]
  rw [if_neg (by omega), if_pos (by omega), if_neg (by simp; omega), if_neg (by decide), if_neg (by decide), if_neg (by decide),
    if_pos trivial]
  rfl

/-- The mask is written; the vector is the same but for it, or has sent. -/
theorem State.masked_vectorControl : ((s.barWrite f true (0x2000 + 16 * k.val + 12) v).vector f k).masked = bitOf v 0 := by
  rw [State.barWrite_vectorControl]
  split <;> simp [State.masking]

theorem State.vectorControl_of_mask (h : bitOf v 0 = true) :
    (s.barWrite f true (0x2000 + 16 * k.val + 12) v).vector f k = { s.vector f k with masked := true } := by
  rw [State.barWrite_vectorControl, if_neg (by simp [h])]
  simp [State.masking, h]

theorem State.vectorControl_sends (h : bitOf v 0 = false) (hp : (s.vector f k).pending = true) (hc : (s.vector f k).capped = false) :
    let x := (s.barWrite f true (0x2000 + 16 * k.val + 12) v).vector f k
    x.pending = false ∧ x.sent = (s.vector f k).sent + 1 ∧ x.last = some ((s.vector f k).addr, (s.vector f k).data) := by
  rw [State.barWrite_vectorControl, if_pos (by simp [State.masking, h, hp]),
    State.vector_sendMsix_of_free _ f k (by simp [State.masking, h]) (by simp [State.masking, hc])]
  simp [State.masking]

theorem State.onlyFn_vectorControl : OnlyFn f s (s.barWrite f true (0x2000 + 16 * k.val + 12) v) := by
  rw [State.barWrite_vectorControl]
  split
  · exact ((onlyFn_setVector s f k _).trans (onlyFn_setVector _ f k _)).trans (onlyFn_sendMsix _ f k)
  · exact onlyFn_setVector s f k _

theorem State.vectorControl_ne {j : Nat} (hj : j ≠ k.val) :
    (s.barWrite f true (0x2000 + 16 * k.val + 12) v).vector f j = s.vector f j := by
  rw [State.barWrite_vectorControl]
  split
  · rw [State.vector_sendMsix_ne _ f hj, State.vector_setVector_ne _ f _ hj, State.masking, State.vector_setVector_ne _ f _ hj]
  · exact State.vector_setVector_ne s f _ hj

end

/-! ### The page of registers and doorbells (R354 to R356) -/

theorem State.barWrite_beyond (s : State) (f : Nat) (dword : Bool) {off : Nat} (v : Nat)
    (h : 0x4000 ≤ off ∨ (0x2040 ≤ off ∧ off < 0x4000) ∨ (dword = false ∧ 0x2000 ≤ off)) : s.barWrite f dword off v = s := by
  by_cases h4 : 0x4000 ≤ off
  · rw [State.barWrite, if_pos h4]
  · have h2 : 0x2000 ≤ off := by omega
    have hno : ¬ dword = true ∨ 0x2040 ≤ off := by rcases h with h | h | ⟨h, -⟩ <;> simp_all
    rw [State.barWrite, if_neg h4, if_pos h2, if_pos hno]

theorem State.barWrite_notDword (s : State) (f : Nat) {off : Nat} (v : Nat) (h : off < 0x2000) :
    s.barWrite f false off v = (s.wr (Fld.HIF_FN_STAT_ACC_ERR f) 1).signal f 3 := by
  rw [State.barWrite, if_neg (by omega), if_neg (by omega), if_pos (by simp)]

/-- The function answers writes of its registers and doorbells (R355, R356). -/
def State.answers (s : State) (f : Nat) : Bool := s.fnReady f && !s.flag (Fld.HIF_FN_STAT_FLR_BUSY f)

theorem State.barWrite_not_answers (s : State) (f : Nat) {off : Nat} (v : Nat) (h : off < 0x2000) (h8 : off ≠ 8)
    (hr : s.answers f = false) : s.barWrite f true off v = s := by
  rw [State.answers] at hr
  simp only [State.barWrite, hr]
  rw [if_neg (by omega), if_neg (by omega), if_neg (by simp), if_neg (by simp [h8]), if_pos (by simp)]

/-- What a word writes to the moderation register of vector `k` (R355). -/
def moderation (f k v : Nat) : List (Field × Nat) :=
  [(Fld.HIF_FN_MOD_HOLD_US f k, v), (Fld.HIF_FN_MOD_COUNT f k, v / 2 ^ 16), (Fld.HIF_FN_MOD_RATE f k, v / 2 ^ 24)]

theorem State.doorbell_not_answers (s : State) (f : Nat) (ok : Bool) (k : State → State) (hr : s.answers f = false) :
    s.doorbell f ok k = s := by
  have h : ¬ s.fnReady f ∨ s.flag (Fld.HIF_FN_STAT_FLR_BUSY f) := by
    simp only [State.answers, Bool.and_eq_false_iff, Bool.not_eq_false'] at hr
    simpa using hr
  rw [State.doorbell, if_pos h]

section
variable (s : State) (f v : Nat)

/-- A doorbell of the page acts as its command also for a function that does not answer: neither does anything. -/
theorem State.barWrite_of_doorbell {off : Nat} {ok : Bool} {k : State → State} (hoff : off < 0x2000) (h8 : off ≠ 8)
    (h : s.answers f = true → s.barWrite f true off v = s.doorbell f ok k) :
    s.barWrite f true off v = s.doorbell f ok k := by
  cases hr : s.answers f
  · rw [State.barWrite_not_answers s f v hoff h8 hr, State.doorbell_not_answers s f ok k hr]
  · exact h hr

theorem State.barWrite_dbCmd : s.barWrite f true 0x1000 v = s.dbCmd f v :=
  State.barWrite_of_doorbell s f v (by decide) (by decide) fun hr => by
    rw [State.answers] at hr
    simp [State.barWrite, hr, State.dbCmd]

theorem State.barWrite_dbCpl : s.barWrite f true 0x1004 v = s.dbCpl f v :=
  State.barWrite_of_doorbell s f v (by decide) (by decide) fun hr => by
    rw [State.answers] at hr
    simp [State.barWrite, hr, State.dbCpl]

theorem State.barWrite_dbEvt : s.barWrite f true 0x1008 v = s.dbEvt f v :=
  State.barWrite_of_doorbell s f v (by decide) (by decide) fun hr => by
    rw [State.answers] at hr
    simp [State.barWrite, hr, State.dbEvt]

theorem State.barWrite_dbBlk : s.barWrite f true 0x100C v = s.dbBlk f v :=
  State.barWrite_of_doorbell s f v (by decide) (by decide) fun hr => by
    rw [State.answers] at hr
    simp [State.barWrite, hr, State.dbBlk]

section
variable {s f} (hr : s.answers f = true)
include hr

theorem State.barWrite_evtMask : s.barWrite f true 0x3C v = s.wr (Fld.HIF_FN_EVT_MASK_TYPES f) (v / 2 % 512 ||| 3) := by
  rw [State.answers] at hr
  simp [State.barWrite, hr]

theorem State.barWrite_moderation (k : Fin 4) : s.barWrite f true (0x60 + 8 * k.val) v =
    if v / 2 ^ 16 % 256 = 0 then s.raise Fld.HIF_GSTAT_INVALID_WR f else s.wrs (moderation f k v) := by
  rw [State.answers] at hr
  fin_cases k <;> simp [State.barWrite, hr, moderation]

theorem State.barWrite_ringBaseHi (k : Fin 4) : s.barWrite f true (0x14 + 16 * k.val) v =
    if s.fnOpen f then s.wr (Fld.HIF_FN_STAT_WR_IGN f) 1 else s.wr (Fld.HIF_FN_RING_BASE_HI_ADDR f k) v := by
  rw [State.answers] at hr
  fin_cases k <;> simp [State.barWrite, hr]

end
end

end Sys2Proof.Machine
end

section
/-! PROOFS. What the module writes for hosts leaves alone: events, ended sessions and streams, completions (R359, R368 to R374, R389). -/

namespace Sys2Proof.Machine

/-! ### The page of a function (R354) -/

/-- The field lies in the register page of function `f`. -/
def OnPage (f : Nat) (g : Field) : Prop := fnBase f * 32 ≤ g.key ∧ g.key < (fnBase f + 0x10000) * 32

theorem OnPage.disjoint {f h : Nat} (hne : f ≠ h) {g : Field} (hf : OnPage f g) : ¬ OnPage h g := by
  unfold OnPage fnBase at *
  omega

/-- A field of the blocks lies in no function's page. -/
theorem not_onPage_of_block {g : Field} (ha : g.addr < 0x9300000) (hl : g.lsb < 32) (f : Nat) : ¬ OnPage f g := by
  unfold OnPage fnBase Field.key
  omega

/-- The page fields that events, completions, closing and a reset write or a reset clears. -/
def pageFields (f : Nat) : List Field :=
  [Fld.HIF_FN_STAT_OPEN f, Fld.HIF_FN_STAT_LEVEL f, Fld.HIF_FN_STAT_FLR_BUSY f, Fld.HIF_FN_STAT_CPL_WAIT f, Fld.HIF_FN_STAT_THROTTLED f,
   Fld.HIF_FN_STAT_EVT_OVF f, Fld.HIF_FN_CTL_LEVEL_MAX f, Fld.HIF_FN_CNT_DONE_CNT f, Fld.HIF_FN_CNT_REFUSED_CNT f, Fld.HIF_FN_CNT_AUTH_CNT f,
   Fld.HIF_FN_CNT_EVTLOST_CNT f, Fld.HIF_FN_CMD_PTR_HEAD f, Fld.HIF_FN_CMD_PTR_TAIL f, Fld.HIF_FN_CPL_PTR_TAIL f, Fld.HIF_FN_EVT_PTR_TAIL f,
   Fld.HIF_FN_INFLIGHT_N f]

theorem onPage_of_mem {f : Nat} {g : Field} (h : g ∈ pageFields f) : OnPage f g := by
  have hall : (pageFields f).Forall (fun g => (fnBase f ≤ g.addr ∧ g.addr < fnBase f + 0x10000) ∧ g.lsb < 32) := by
    simp [pageFields, fnBase, Fld.HIF_FN_STAT_OPEN, Fld.HIF_FN_STAT_LEVEL, Fld.HIF_FN_STAT_FLR_BUSY, Fld.HIF_FN_STAT_CPL_WAIT,
      Fld.HIF_FN_STAT_THROTTLED, Fld.HIF_FN_STAT_EVT_OVF, Fld.HIF_FN_CTL_LEVEL_MAX, Fld.HIF_FN_CNT_DONE_CNT, Fld.HIF_FN_CNT_REFUSED_CNT,
      Fld.HIF_FN_CNT_AUTH_CNT, Fld.HIF_FN_CNT_EVTLOST_CNT, Fld.HIF_FN_CMD_PTR_HEAD, Fld.HIF_FN_CMD_PTR_TAIL, Fld.HIF_FN_CPL_PTR_TAIL,
      Fld.HIF_FN_EVT_PTR_TAIL, Fld.HIF_FN_INFLIGHT_N]
    omega
  obtain ⟨⟨hlo, hhi⟩, hl⟩ := List.forall_iff_forall_mem.1 hall g h
  unfold OnPage Field.key
  omega

/-! ### Changes to one function: its record, its page and the rings it reads -/

/-- Nothing changes but the record, the page and the event ring of function `f`. -/
structure AtFn (f : Nat) (s t : State) : Prop where
  parts : t = { s with regs := t.regs, host := t.host, hostMem := t.hostMem }
  cpl : t.hostMem.cpl = s.hostMem.cpl
  host : MapBut HostFn.reset [f] s.host t.host
  regs : ∀ g, ¬ OnPage f g → t.rd g = s.rd g

theorem AtFn.trans {f : Nat} {s t u : State} (h : AtFn f s t) (k : AtFn f t u) : AtFn f s u where
  parts := by rw [k.parts, h.parts]
  cpl := k.cpl.trans h.cpl
  host n hn := (k.host n hn).trans (h.host n hn)
  regs g hg := (k.regs g hg).trans (h.regs g hg)

theorem OnlyFn.atFn {f : Nat} {s t : State} (h : OnlyFn f s t) : AtFn f s t where
  parts := by rw [h.2]
  cpl := by rw [h.2]
  host := h.1
  regs g _ := by rw [h.2]; rfl

theorem AtFn.refl (f : Nat) (s : State) : AtFn f s s := (OnlyFn.refl f s).atFn

theorem atFn_wr {f : Nat} {g : Field} (h : g ∈ pageFields f) (s : State) (v : Nat) : AtFn f s (s.wr g v) where
  parts := rfl
  cpl := rfl
  host _ _ := rfl
  regs _ hx := State.rd_wr_ne s v fun hk => hx (by simpa [OnPage, hk] using onPage_of_mem h)

theorem atFn_evt (f : Nat) (s : State) (m : FMap (Option EvtRec)) : AtFn f s { s with hostMem := { s.hostMem with evt := m } } :=
  ⟨rfl, rfl, fun _ _ => rfl, fun _ _ => rfl⟩

theorem atFn_putEvent (s : State) (f : Nat) (e : EvtRec) : AtFn f s (s.putEvent f e) := by
  have htail (u : State) (v : Nat) : AtFn f u (u.wr (Fld.HIF_FN_EVT_PTR_TAIL f) v) := atFn_wr (by simp [pageFields]) u v
  unfold State.putEvent
  dsimp only
  refine AtFn.trans ?_ (onlyFn_signal _ f 1).atFn
  split
  · exact ((atFn_evt f s _).trans (htail _ _)).trans (onlyFn_setFn _ f _).atFn
  · exact (atFn_evt f s _).trans (htail _ _)

theorem State.postEvent_of_closed (s : State) {f : Nat} (h : s.fnOpen f = false) (tag : BitVec 32) (b : EventBody) :
    s.postEvent f tag b = s := by
  rw [State.postEvent, if_pos (by simp [h])]

theorem atFn_postEvent (s : State) (f : Nat) (tag : BitVec 32) (b : EventBody) : AtFn f s (s.postEvent f tag b) := by
  unfold State.postEvent
  dsimp only
  split
  · exact AtFn.refl f s
  · split
    · exact atFn_putEvent s f _
    · split
      · exact (onlyFn_setFn s f _).atFn
      · exact ((onlyFn_setFn s f _).atFn.trans (atFn_wr (g := Fld.HIF_FN_CNT_EVTLOST_CNT f) (by simp [pageFields]) _ _)).trans
          (atFn_wr (g := Fld.HIF_FN_STAT_EVT_OVF f) (by simp [pageFields]) _ _)

/-! ### What hosts are told -/

/-- The field shows a host or a spectator nothing of functions, sessions or streams. -/
def Untold (g : Field) : Prop :=
  (∀ f, ¬ OnPage f g) ∧ g.key ≠ Fld.SEC_SESS_OPEN.key ∧ ∀ i < 16, g.key ≠ (Fld.REC_D_STAT_READING i).key

/-- Nothing changes but the functions, their pages and event rings, the sessions, and what shows sessions and streams. -/
structure Talks (s t : State) : Prop where
  parts : t = { s with regs := t.regs, host := t.host, hostMem := t.hostMem, sec := t.sec }
  cpl : t.hostMem.cpl = s.hostMem.cpl
  regs : ∀ g, Untold g → t.rd g = s.rd g

theorem Talks.refl (s : State) : Talks s s := ⟨rfl, rfl, fun _ _ => rfl⟩

theorem Talks.trans {s t u : State} (h : Talks s t) (k : Talks t u) : Talks s u where
  parts := by rw [k.parts, h.parts]
  cpl := k.cpl.trans h.cpl
  regs g hg := (k.regs g hg).trans (h.regs g hg)

theorem AtFn.talks {f : Nat} {s t : State} (h : AtFn f s t) : Talks s t where
  parts := by rw [h.parts]
  cpl := h.cpl
  regs g hg := h.regs g (hg.1 f)

theorem talks_sec (s : State) (x : SecStore) : Talks s { s with sec := x } := ⟨rfl, rfl, fun _ _ => rfl⟩

theorem talks_foldl {α : Type} {k : State → α → State} (hk : ∀ s x, Talks s (k s x)) (l : List α) : ∀ s, Talks s (l.foldl k s) := by
  induction l with
  | nil => exact Talks.refl
  | cons x t ih => intro s; exact (hk s x).trans (ih _)

theorem talks_showSessions (s : State) : Talks s s.showSessions := ⟨rfl, rfl, fun _ hg => State.rd_wr_ne s _ hg.2.1⟩

theorem talks_endSession (s : State) (handle : BitVec 16) (reason : Nat) : Talks s (s.endSession handle reason) := by
  unfold State.endSession
  split
  · exact Talks.refl s
  · exact ((talks_sec s _).trans (talks_showSessions _)).trans (atFn_postEvent _ _ _ _).talks

theorem talks_endSessions (s : State) (p : Session → Bool) (reason : Nat) : Talks s (s.endSessions p reason) :=
  talks_foldl (fun s (x : Session) => talks_endSession s x.handle reason) _ s

theorem talks_readingEnds (s : State) (st : Stream) : Talks s (s.readingEnds st) := by
  unfold State.readingEnds
  split
  · refine ⟨rfl, rfl, fun g hg => ?_⟩
    obtain ⟨-, -, hread⟩ := hg
    exact State.rd_wrBit_ne s _ _ (hread _ (Nat.mod_lt _ (by decide)))
  · exact Talks.refl s

theorem talks_endStream (s : State) (f stream reason : Nat) : Talks s (s.endStream f stream reason) := by
  unfold State.endStream
  split
  · exact Talks.refl s
  · exact ((talks_readingEnds s _).trans (onlyFn_setFn _ f _).atFn.talks).trans (atFn_postEvent _ _ _ _).talks

theorem talks_endStreams (s : State) (f : Nat) : Talks s (s.endStreams f) := talks_foldl (fun s k => talks_endStream s f k 0) _ s

theorem atFn_showFn (s : State) (f : Nat) : AtFn f s (s.showFn f) :=
  (atFn_wr (g := Fld.HIF_FN_INFLIGHT_N f) (by simp [pageFields]) s _).trans
    (atFn_wr (g := Fld.HIF_FN_STAT_CPL_WAIT f) (by simp [pageFields]) _ _)

theorem talks_finishClose (s : State) (f : Nat) : Talks s (s.finishClose f) := by
  have hwrs (u : State) : AtFn f u (u.wrs [(Fld.HIF_FN_STAT_OPEN f, 0), (Fld.HIF_FN_STAT_LEVEL f, 0), (Fld.HIF_FN_STAT_THROTTLED f, 0)]) :=
    ((atFn_wr (by simp [pageFields]) u 0).trans (atFn_wr (by simp [pageFields]) _ 0)).trans (atFn_wr (by simp [pageFields]) _ 0)
  have hrec (u : State) (k : HostFn → HostFn) : AtFn f u ((u.setFn f k).wrs
      [(Fld.HIF_FN_STAT_OPEN f, 0), (Fld.HIF_FN_STAT_LEVEL f, 0), (Fld.HIF_FN_STAT_THROTTLED f, 0)] |>.showFn f) :=
    ((onlyFn_setFn u f k).atFn.trans (hwrs _)).trans (atFn_showFn _ f)
  exact ((talks_endStreams s f).trans (talks_endSessions _ _ 0)).trans (hrec _ _).talks

end Sys2Proof.Machine
end

section
/-! PROOFS. Completions (R368, R369): the record of a completed descriptor, and what its completion leaves alone. -/

namespace Sys2Proof.Machine

/-- The state with another content of the completion rings. -/
def State.withCpl (s : State) (c : FMap (Option CplRec)) : State := { s with hostMem := { s.hostMem with cpl := c } }

/-- What a completion record says of the descriptor (R368). -/
def CplRec.says (r : CplRec) (x : InFlight) (st : Status) (result : BitVec 64) : Prop :=
  (r.tag, r.status, r.opcode, r.session, r.result) = (x.d.tag, st.code, x.d.body.opcode, x.d.session, result)

/-- The completion rings `c` hold the record of a descriptor where the ring of `f` ended, unless CSUP suppresses it. -/
def Recorded (s : State) (f : Nat) (x : InFlight) (st : Status) (result : BitVec 64) (c : FMap (Option CplRec)) : Prop :=
  x.d.csup = false ∨ st ≠ .ok → ∃ r : CplRec,
    c = FMap.set none s.hostMem.cpl (65536 * f + s.rd (Fld.HIF_FN_CPL_PTR_TAIL f)) (some r) ∧ r.says x st result

theorem State.putCompletion_talks (s : State) (f : Nat) (x : InFlight) (st : Status) (result : BitVec 64) (volley detail : BitVec 32) :
    ∃ c, Talks (s.withCpl c) (s.putCompletion f x st result volley detail) ∧ Recorded s f x st result c := by
  have htail (u : State) (v : Nat) : AtFn f u (u.wr (Fld.HIF_FN_CPL_PTR_TAIL f) v) := atFn_wr (by simp [pageFields]) u v
  have hphase (u : State) (b : Prop) [Decidable b] (k : HostFn → HostFn) : AtFn f u (if b then u.setFn f k else u) := by
    split
    · exact (onlyFn_setFn u f k).atFn
    · exact AtFn.refl f u
  have hsignal (u : State) (b : Prop) [Decidable b] : AtFn f u (if b then u.signal f 0 else u) := by
    split
    · exact (onlyFn_signal u f 0).atFn
    · exact AtFn.refl f u
  unfold State.putCompletion
  split
  · rename_i hsup
    refine ⟨s.hostMem.cpl, Talks.refl s, fun hrec => ?_⟩
    rcases hrec with h | h
    · simp [h] at hsup
    · exact absurd hsup.2 h
  · exact ⟨_, (((htail (s.withCpl _) _).trans (hphase _ _ _)).trans (hsignal _ _)).talks, fun _ => ⟨_, rfl, rfl⟩⟩

/-! ### The end of a descriptor -/

theorem atFn_bumpIf {f : Nat} {g : Field} (hg : g ∈ pageFields f) (u : State) (b : Prop) [Decidable b] :
    AtFn f u (if b then u.bump g else u) := by
  split
  · exact atFn_wr hg u _
  · exact AtFn.refl f u

theorem fn_bumpIf (g : Field) (u : State) (b : Prop) [Decidable b] (n : Nat) : (if b then u.bump g else u).fn n = u.fn n := by
  split <;> rfl

theorem State.fn_setFn_self (s : State) (f : Nat) (k : HostFn → HostFn) : (s.setFn f k).fn f = k (s.fn f) := FMap.get_modify_self _ _ _ _

theorem State.fn_showFn (s : State) (f n : Nat) : (s.showFn f).fn n = s.fn n := rfl

theorem State.fn_wrs (s : State) (l : List (Field × Nat)) (n : Nat) : (s.wrs l).fn n = s.fn n := by
  rw [State.wrs_eq]
  rfl

theorem State.inflight_finishClose (s : State) (f : Nat) : ((s.finishClose f).fn f).inflight = [] := by
  unfold State.finishClose
  dsimp only
  rw [State.fn_showFn, State.fn_wrs, State.fn_setFn_self]

/-- The descriptor is counted and leaves its function (R369); its completion record is written before, a CLOSE that waited ends after. -/
def State.leaveFlight (s : State) (f : Nat) (x : InFlight) (st : Status) : State :=
  let s := s.setFn f (fun h => { h with inflight := h.inflight.filter (fun y => y.serial != x.serial) })
  let s := s.bump (Fld.HIF_FN_CNT_DONE_CNT f)
  let s := if 0x10 ≤ st.code.toNat then s.bump (Fld.HIF_FN_CNT_REFUSED_CNT f) else s
  let s := if 0x20 ≤ st.code.toNat ∧ st.code.toNat ≤ 0x22 then s.bump (Fld.HIF_FN_CNT_AUTH_CNT f) else s
  s.showFn f

theorem State.complete_eq (s : State) (f : Nat) (x : InFlight) (st : Status) (result : BitVec 64) (volley detail : BitVec 32) :
    s.complete f x st result volley detail =
      let u := (s.putCompletion f x st result volley detail).leaveFlight f x st
      if (u.fn f).closing ∧ (u.fn f).inflight = [] then u.finishClose f else u := rfl

theorem atFn_leaveFlight (s : State) (f : Nat) (x : InFlight) (st : Status) : AtFn f s (s.leaveFlight f x st) := by
  unfold State.leaveFlight
  dsimp only
  refine AtFn.trans ?_ (atFn_showFn _ f)
  refine AtFn.trans ?_ (atFn_bumpIf (by simp [pageFields]) _ _)
  refine AtFn.trans ?_ (atFn_bumpIf (by simp [pageFields]) _ _)
  exact (onlyFn_setFn s f _).atFn.trans (atFn_wr (by simp [pageFields]) _ _)

theorem State.inflight_leaveFlight (s : State) (f : Nat) (x : InFlight) (st : Status) :
    ((s.leaveFlight f x st).fn f).inflight = (s.fn f).inflight.filter (fun y => y.serial != x.serial) := by
  unfold State.leaveFlight
  dsimp only
  rw [State.fn_showFn, fn_bumpIf, fn_bumpIf, State.bump, State.wr_fn, State.fn_setFn_self]

/-- A completed descriptor is recorded and in flight no longer; beside that hosts are told. -/
theorem State.done_talks (s : State) (f : Nat) (x : InFlight) (st : Status) (result detail : Nat) :
    (∃ c, Talks (s.withCpl c) (s.done f x st result detail) ∧ Recorded s f x st (BitVec.ofNat 64 result) c) ∧
    ∀ y ∈ ((s.done f x st result detail).fn f).inflight, y.serial ≠ x.serial := by
  obtain ⟨c, htalks, hrec⟩ := State.putCompletion_talks s f x st (BitVec.ofNat 64 result) s.volley (BitVec.ofNat 32 detail)
  have hleft := htalks.trans (atFn_leaveFlight _ f x st).talks
  rw [State.done, State.complete_eq]
  dsimp only
  split
  · exact ⟨⟨c, hleft.trans (talks_finishClose _ f), hrec⟩, by simp [State.inflight_finishClose]⟩
  · exact ⟨⟨c, hleft, hrec⟩, by simp [State.inflight_leaveFlight]⟩

/-- The completion as the statements name it. -/
theorem State.completedWith_done (s : State) (f : Nat) (x : InFlight) (st : Status) (result detail : Nat) :
    CompletedWith f x st result s (s.done f x st result detail) := by
  obtain ⟨⟨c, htalks, hrec⟩, hgone⟩ := State.done_talks s f x st result detail
  refine ⟨hgone, fun h => ?_⟩
  obtain ⟨r, hc, hsays⟩ := hrec h
  have hcpl : (s.done f x st result detail).hostMem.cpl = c := htalks.cpl
  rw [hcpl, hc, FMap.get_set_self, Option.map_some]
  exact congrArg some hsays

/-- What a completion leaves: registers hosts are not told of, the values in force, the sequencer and the cores' faults. -/
theorem State.done_frame (s : State) (f : Nat) (x : InFlight) (st : Status) (result detail : Nat) :
    (∀ g, Untold g → (s.done f x st result detail).rd g = s.rd g) ∧ (s.done f x st result detail).force = s.force ∧
    (s.done f x st result detail).seqr = s.seqr ∧ (s.done f x st result detail).coreFault = s.coreFault := by
  obtain ⟨⟨c, htalks, -⟩, -⟩ := State.done_talks s f x st result detail
  have hparts := htalks.parts
  exact ⟨htalks.regs, by rw [hparts]; rfl, by rw [hparts]; rfl, by rw [hparts]; rfl⟩

end Sys2Proof.Machine
end

section
/-! PROOFS. NumVFs written by a host: the functions it disables are reset (R351, R377, R389). -/

namespace Sys2Proof.Machine

/-! ### What a closed function keeps -/

/-- Function `f` keeps its record and the fields of its page that a reset is known by, and gains no session. -/
structure FnKept (f : Nat) (s t : State) : Prop where
  fn : t.fn f = s.fn f
  page : ∀ g ∈ pageFields f, t.rd g = s.rd g
  sessions : ∀ x ∈ t.sec.sessions, x ∈ s.sec.sessions

theorem FnKept.refl (f : Nat) (s : State) : FnKept f s s := ⟨rfl, fun _ _ => rfl, fun _ h => h⟩

theorem FnKept.trans {f : Nat} {s t u : State} (h : FnKept f s t) (k : FnKept f t u) : FnKept f s u where
  fn := k.fn.trans h.fn
  page g hg := (k.page g hg).trans (h.page g hg)
  sessions x hx := h.sessions x (k.sessions x hx)

theorem FnKept.fnOpen {f : Nat} {s t : State} (h : FnKept f s t) : t.fnOpen f = s.fnOpen f := by
  rw [State.fnOpen, State.flag, h.page _ (by simp [pageFields])]
  rfl

theorem AtFn.fnKept {f h : Nat} (hne : f ≠ h) {s t : State} (k : AtFn h s t) : FnKept f s t where
  fn := k.host f (by simpa using hne)
  page g hg := k.regs g ((onPage_of_mem hg).disjoint hne)
  sessions x hx := by rw [k.parts] at hx; exact hx

theorem fnKept_wr {f : Nat} {g : Field} (h : ∀ x ∈ pageFields f, x.key ≠ g.key) (s : State) (v : Nat) : FnKept f s (s.wr g v) where
  fn := rfl
  page x hx := State.rd_wr_ne s v (h x hx)
  sessions _ hx := hx

/-- A field of the blocks is no page field. -/
theorem pageFields_ne_block {g : Field} (ha : g.addr < 0x9300000) (hl : g.lsb < 32) {f : Nat} : ∀ x ∈ pageFields f, x.key ≠ g.key :=
  fun _ hx hk => not_onPage_of_block ha hl f (by simpa [OnPage, hk] using onPage_of_mem hx)

theorem fnKept_foldl {α : Type} {f : Nat} {k : State → α → State} (hk : ∀ s x, s.fnOpen f = false → FnKept f s (k s x)) (l : List α) :
    ∀ s, s.fnOpen f = false → FnKept f s (l.foldl k s) := by
  induction l with
  | nil => intro s _; exact FnKept.refl f s
  | cons x t ih =>
    intro s hs
    have hx := hk s x hs
    exact hx.trans (ih _ (hx.fnOpen.trans hs))

/-- An event reaches no function whose rings are closed. -/
theorem fnKept_postEvent {f : Nat} {s : State} (hf : s.fnOpen f = false) (h : Nat) (tag : BitVec 32) (b : EventBody) :
    FnKept f s (s.postEvent h tag b) := by
  by_cases hne : f = h
  · subst hne
    rw [State.postEvent_of_closed s hf]
    exact FnKept.refl f s
  · exact (atFn_postEvent s h tag b).fnKept hne

/-! ### Sessions that end (R389) -/

theorem AtFn.sec {f : Nat} {s t : State} (h : AtFn f s t) : t.sec = s.sec := by rw [h.parts]

/-- Ending a session takes every session of its handle away. -/
theorem State.sessions_endSession (s : State) (handle : BitVec 16) (reason : Nat) :
    (s.endSession handle reason).sec.sessions = s.sec.sessions.filter (fun y => y.handle != handle) := by
  unfold State.endSession
  split
  · rename_i h
    refine (List.filter_eq_self.2 fun y hy => ?_).symm
    simpa using List.find?_eq_none.1 h y hy
  · exact congrArg SecStore.sessions (atFn_postEvent _ _ _ _).sec

theorem fnKept_showSessions (f : Nat) (s : State) : FnKept f s s.showSessions := fnKept_wr (pageFields_ne_block (by decide) (by decide)) s _

theorem fnKept_dropSessions (f : Nat) (s : State) (p : Session → Bool) :
    FnKept f s { s with sec := { s.sec with sessions := s.sec.sessions.filter p } } :=
  ⟨rfl, fun _ _ => rfl, fun _ hx => List.mem_of_mem_filter hx⟩

theorem fnKept_endSession {f : Nat} {s : State} (hf : s.fnOpen f = false) (handle : BitVec 16) (reason : Nat) :
    FnKept f s (s.endSession handle reason) := by
  unfold State.endSession
  split
  · exact FnKept.refl f s
  · have hdrop := (fnKept_dropSessions f s (fun y => y.handle != handle)).trans (fnKept_showSessions f _)
    exact hdrop.trans (fnKept_postEvent (hdrop.fnOpen.trans hf) _ _ _)

theorem fnKept_endSessions {f : Nat} {s : State} (hf : s.fnOpen f = false) (p : Session → Bool) (reason : Nat) :
    FnKept f s (s.endSessions p reason) :=
  fnKept_foldl (fun _ (x : Session) h => fnKept_endSession h x.handle reason) _ s hf

theorem State.sessions_foldl_endSession (reason : Nat) (l : List Session) : ∀ (s : State) (y : Session),
    y ∈ (l.foldl (fun (s : State) x => s.endSession x.handle reason) s).sec.sessions ↔
      y ∈ s.sec.sessions ∧ ∀ x ∈ l, y.handle ≠ x.handle := by
  induction l with
  | nil => simp
  | cons x t ih =>
    intro s y
    simp [List.foldl_cons, ih, State.sessions_endSession, and_assoc]

/-- No session that the condition picks is left. -/
theorem State.not_of_mem_endSessions (s : State) (p : Session → Bool) (reason : Nat) :
    ∀ y ∈ (s.endSessions p reason).sec.sessions, p y = false := by
  intro y hy
  obtain ⟨hmem, hne⟩ := (State.sessions_foldl_endSession reason _ s y).1 hy
  by_contra hp
  exact hne y (List.mem_filter.2 ⟨hmem, by simpa using hp⟩) rfl

/-! ### One function reset (R377) -/

theorem FMap.get_clearRange {α : Type} (d : α) (m : FMap α) (lo hi k : Nat) :
    FMap.get d (FMap.clearRange m lo hi) k = if lo ≤ k ∧ k < hi then d else FMap.get d m k := by
  induction m with
  | nil => simp [FMap.clearRange]
  | cons p t ih =>
    unfold FMap.clearRange at ih ⊢
    by_cases hp : p.1 = k
    · by_cases hin : lo ≤ k ∧ k < hi
      · rw [List.filter_cons_of_neg (by simp; omega), ih]
        simp [hin]
      · rw [List.filter_cons_of_pos (by simp; omega), if_neg hin]
        simp [FMap.get, hp]
    · by_cases hkeep : p.1 < lo ∨ hi ≤ p.1
      · rw [List.filter_cons_of_pos (by simpa using hkeep), FMap.get, if_neg hp, ih, FMap.get, if_neg hp]
      · rw [List.filter_cons_of_neg (by simpa using hkeep), ih]
        simp [FMap.get, hp]

theorem State.rd_resetRange (s : State) (lo hi : Nat) (g : Field) :
    (s.resetRange lo hi).rd g = if lo * 32 ≤ g.key ∧ g.key < hi * 32 then g.reset else s.rd g := FMap.get_clearRange _ _ _ _ _

/-- The page of a function cleared: its fields read their reset values, every other page stays. -/
theorem rd_clearedPage (s : State) {f : Nat} {g : Field} (h : OnPage f g) : (s.resetRange (fnBase f) (fnBase f + 0x10000)).rd g = g.reset := by
  rw [State.rd_resetRange]
  exact if_pos h

theorem fnKept_clearedPage {f h : Nat} (hne : f ≠ h) (s : State) : FnKept f s (s.resetRange (fnBase h) (fnBase h + 0x10000)) where
  fn := rfl
  page g hg := by
    rw [State.rd_resetRange]
    exact if_neg ((onPage_of_mem hg).disjoint hne)
  sessions _ hx := hx

/-- The writes of a function orphaned, its FRESH reads dropped. -/
def State.orphan (s : State) (f : Nat) : State := { s with cells := FMap.mapVals Cell.reset (fun _ x => x.orphaned f) s.cells }

/-- The firmware that a function stages dropped. -/
def State.unstage (s : State) (f : Nat) : State :=
  match s.staging with
  | some g => if g.owner = f then { s with staging := none } else s
  | none => s

/-- The segments that streams read, read no longer. -/
def State.unread (s : State) (l : FMap (Option Stream)) : State :=
  l.foldl (fun s p => match p.2 with | some st => s.readingEnds st | none => s) s

/-- What a reset discards: sessions, FRESH reads, staged firmware and streams. -/
def State.dropWork (s : State) (f : Nat) : State :=
  let u := s.endSessions (fun x => x.fn == f) 3
  ((u.orphan f).unstage f).unread (u.fn f).streams

/-- What a reset leaves of the function, whose record was `h`. -/
def State.clearFn (s : State) (f : Nat) (h : HostFn) : State :=
  let waiting := (h.inflight.filter (fun x => x.at' == .reading)).length
  let s := s.resetRange (fnBase f) (fnBase f + 0x10000)
  let s := s.setFn f (fun _ => { HostFn.reset with held := h.held + waiting, standing := h.blocks })
  let s := s.bump (Fld.HIF_PORT_FLR_DROP_CNT (f / 128)) h.evtQueue.length
  (s.holdTags f waiting).wr (Fld.HIF_FN_STAT_FLR_BUSY f) 1

theorem State.resetFn_eq (s : State) (f : Nat) :
    s.resetFn f = (s.dropWork f).clearFn f ((s.endSessions (fun x => x.fn == f) 3).fn f) := rfl

theorem fnKept_readingEnds (f : Nat) (s : State) (st : Stream) : FnKept f s (s.readingEnds st) := by
  unfold State.readingEnds
  split
  · refine fnKept_wr (pageFields_ne_block ?_ (by simp [Fld.REC_D_STAT_READING])) s _
    show 0x8e00030 + 0x40 * (st.arg.toNat % 16) < 0x9300000
    omega
  · exact FnKept.refl f s

theorem fnKept_unstage (h : Nat) (s : State) (f : Nat) : FnKept h s (s.unstage f) := by
  unfold State.unstage
  split
  · split
    · exact ⟨rfl, fun _ _ => rfl, fun _ hx => hx⟩
    · exact FnKept.refl h s
  · exact FnKept.refl h s

theorem fnKept_unread (h : Nat) (l : FMap (Option Stream)) : ∀ s : State, FnKept h s (s.unread l) := by
  induction l with
  | nil => exact FnKept.refl h
  | cons p t ih =>
    intro s
    refine FnKept.trans ?_ (ih _)
    rcases p with ⟨-, - | st⟩
    · exact FnKept.refl h s
    · exact fnKept_readingEnds h s st

/-- After its sessions a function's other work ends without a change of any function's record or page. -/
theorem fnKept_dropWork_sessions (s : State) (f h : Nat) : FnKept h (s.endSessions (fun x => x.fn == f) 3) (s.dropWork f) := by
  have horphan (u : State) : FnKept h u (u.orphan f) := ⟨rfl, fun _ _ => rfl, fun _ hx => hx⟩
  exact ((horphan _).trans (fnKept_unstage h _ f)).trans (fnKept_unread h _ _)

/-- The counters of a port are no page fields, whatever its number: they lie at other places of the register pattern. -/
theorem pageFields_ne_port (n h : Nat) {g : Field}
    (hg : g ∈ [Fld.HIF_PORT_FLR_DROP_CNT n, Fld.HIF_PORT_TAGS_OUT n, Fld.HIF_PORT_TAGS_HELD n]) : ∀ x ∈ pageFields h, x.key ≠ g.key := by
  have hport : g.key % 8192 = 256 ∨ g.key % 8192 = 384 ∨ g.key % 8192 = 400 := by
    simp only [List.mem_cons, List.not_mem_nil, or_false] at hg
    rcases hg with rfl | rfl | rfl
    · left; simp only [Field.key, Fld.HIF_PORT_FLR_DROP_CNT]; omega
    · right; left; simp only [Field.key, Fld.HIF_PORT_TAGS_OUT]; omega
    · right; right; simp only [Field.key, Fld.HIF_PORT_TAGS_HELD]; omega
  have hpage : (pageFields h).Forall (fun x => x.key % 8192 ≠ 256 ∧ x.key % 8192 ≠ 384 ∧ x.key % 8192 ≠ 400) := by
    simp only [pageFields, List.Forall, Field.key, Fld.HIF_FN_STAT_OPEN, Fld.HIF_FN_STAT_LEVEL, Fld.HIF_FN_STAT_FLR_BUSY,
      Fld.HIF_FN_STAT_CPL_WAIT, Fld.HIF_FN_STAT_THROTTLED, Fld.HIF_FN_STAT_EVT_OVF, Fld.HIF_FN_CTL_LEVEL_MAX, Fld.HIF_FN_CNT_DONE_CNT,
      Fld.HIF_FN_CNT_REFUSED_CNT, Fld.HIF_FN_CNT_AUTH_CNT, Fld.HIF_FN_CNT_EVTLOST_CNT, Fld.HIF_FN_CMD_PTR_HEAD, Fld.HIF_FN_CMD_PTR_TAIL,
      Fld.HIF_FN_CPL_PTR_TAIL, Fld.HIF_FN_EVT_PTR_TAIL, Fld.HIF_FN_INFLIGHT_N]
    omega
  intro x hx hk
  obtain ⟨h1, h2, h3⟩ := List.forall_iff_forall_mem.1 hpage x hx
  rw [hk] at h1 h2 h3
  omega

/-- The counter of dropped events and the tags of a port are on no page. -/
theorem fnKept_portCounts (f h : Nat) (s : State) (n m : Nat) :
    FnKept h s ((s.bump (Fld.HIF_PORT_FLR_DROP_CNT (f / 128)) n).holdTags f m) :=
  ((fnKept_wr (pageFields_ne_port (f / 128) h (by simp)) s _).trans (fnKept_wr (pageFields_ne_port (f / 128) h (by simp)) _ _)).trans
    (fnKept_wr (pageFields_ne_port (f / 128) h (by simp)) _ _)

theorem fnKept_clearFn {f h : Nat} (hne : h ≠ f) (s : State) (r : HostFn) : FnKept h s (s.clearFn f r) := by
  unfold State.clearFn
  dsimp only
  have hbusy (u : State) : FnKept h u (u.wr (Fld.HIF_FN_STAT_FLR_BUSY f) 1) := (atFn_wr (by simp [pageFields]) u 1).fnKept hne
  exact (((fnKept_clearedPage hne s).trans ((onlyFn_setFn _ f _).atFn.fnKept hne)).trans (fnKept_portCounts f h _ _ _)).trans (hbusy _)

/-- A reset leaves a closed function of another number as it is. -/
theorem fnKept_resetFn {f h : Nat} (hne : h ≠ f) {s : State} (hs : s.fnOpen h = false) : FnKept h s (s.resetFn f) := by
  rw [State.resetFn_eq]
  exact ((fnKept_endSessions hs _ 3).trans (fnKept_dropWork_sessions s f h)).trans (fnKept_clearFn hne _ _)

/-- A page field of a cleared function, but FLR_BUSY, reads its reset value. -/
theorem State.rd_clearFn {f : Nat} (s : State) (r : HostFn) {g : Field} (hg : g ∈ pageFields f)
    (hne : g.key ≠ (Fld.HIF_FN_STAT_FLR_BUSY f).key) : (s.clearFn f r).rd g = g.reset := by
  unfold State.clearFn
  dsimp only
  rw [State.rd_wr_ne _ _ hne, (fnKept_portCounts f f _ _ _).page g hg]
  exact rd_clearedPage s (onPage_of_mem hg)

theorem State.fn_clearFn (s : State) (f : Nat) (r : HostFn) : (s.clearFn f r).fn f =
    { HostFn.reset with held := r.held + (r.inflight.filter (fun x => x.at' == .reading)).length, standing := r.blocks } := by
  unfold State.clearFn
  dsimp only
  rw [State.wr_fn, (fnKept_portCounts f f _ _ _).fn, State.fn_setFn_self]

theorem fnReset_clearFn {f : Nat} (s : State) (r : HostFn) (hs : ∀ x ∈ s.sec.sessions, x.fn ≠ f) :
    FnReset f (s.clearFn f r) := by
  have hpage {g : Field} (hg : g ∈ pageFields f) (hl : g.lsb ≠ 5) (hb : g.lsb < 32) : (s.clearFn f r).rd g = g.reset :=
    State.rd_clearFn s r hg fun hk => hl (((Field.key_inj hb (by decide : 5 < 32)).1 hk).2)
  have hfn := State.fn_clearFn s f r
  refine ⟨by rw [hfn]; rfl, by rw [hfn]; rfl, by rw [hfn]; rfl, by rw [hfn]; rfl, hs, ?open', ?busy, ?level, ?head, ?tail⟩
  case open' => rw [State.fnOpen, State.flag, hpage (by simp [pageFields]) (by simp [Fld.HIF_FN_STAT_OPEN]) (by simp [Fld.HIF_FN_STAT_OPEN])]; rfl
  case busy => exact State.rd_wr_self _ _ _
  case level => exact hpage (by simp [pageFields]) (by simp [Fld.HIF_FN_CTL_LEVEL_MAX]) (by simp [Fld.HIF_FN_CTL_LEVEL_MAX])
  case head => exact hpage (by simp [pageFields]) (by simp [Fld.HIF_FN_CMD_PTR_HEAD]) (by simp [Fld.HIF_FN_CMD_PTR_HEAD])
  case tail => exact hpage (by simp [pageFields]) (by simp [Fld.HIF_FN_CMD_PTR_TAIL]) (by simp [Fld.HIF_FN_CMD_PTR_TAIL])

theorem fnReset_resetFn (f : Nat) (s : State) : FnReset f (s.resetFn f) := by
  rw [State.resetFn_eq]
  refine fnReset_clearFn _ _ fun x hx => ?_
  have hgone := State.not_of_mem_endSessions s _ 3 x ((fnKept_dropWork_sessions s f f).sessions x hx)
  simpa using hgone

theorem fnOpen_of_fnReset {f : Nat} {s : State} (h : FnReset f s) : s.fnOpen f = false := by
  obtain ⟨-, -, -, -, -, hclosed, -⟩ := h
  exact hclosed

/-- A reset function stays so while its record and its page stay and no session is opened. -/
theorem fnReset_of_kept {f : Nat} {s t : State} (h : FnKept f s t) (hs : FnReset f s) : FnReset f t := by
  have hpage {g : Field} (hg : g ∈ pageFields f) : t.rd g = s.rd g := h.page g hg
  obtain ⟨h1, h2, h3, h4, h5, h6, h7, h8, h9, h10⟩ := hs
  rw [FnReset, h.fn, h.fnOpen, hpage (by simp [pageFields]), hpage (g := Fld.HIF_FN_CTL_LEVEL_MAX f) (by simp [pageFields]),
    hpage (g := Fld.HIF_FN_CMD_PTR_HEAD f) (by simp [pageFields]), hpage (g := Fld.HIF_FN_CMD_PTR_TAIL f) (by simp [pageFields])]
  exact ⟨h1, h2, h3, h4, fun x hx => h5 x (h.sessions x hx), h6, h7, h8, h9, h10⟩

/-- Of functions reset in turn each has been reset in the end. -/
theorem fnReset_foldl (q : Nat → Nat) {f : Nat} (l : List Nat) :
    ∀ s, FnReset f s ∨ f ∈ l.map q → FnReset f (l.foldl (fun (s : State) i => s.resetFn (q i)) s) := by
  induction l with
  | nil => intro s hs; simpa using hs
  | cons i t ih =>
    intro s hs
    refine ih _ ?_
    by_cases hfi : f = q i
    · exact .inl (hfi ▸ fnReset_resetFn (q i) s)
    · rcases hs with hs | hs
      · exact .inl (fnReset_of_kept (fnKept_resetFn hfi (fnOpen_of_fnReset hs)) hs)
      · exact .inr (by simpa [hfi] using hs)

/-! ### NumVFs (R351) -/

theorem State.sriovWrite_of_down (s : State) (p n : Nat) (h : s.portAnswers p = false) : s.sriovWrite p n = s := by
  rw [State.sriovWrite, if_neg (by simp [h])]

/-- The functions a smaller NumVFs disables, reset. -/
def State.resetBeyond (s : State) (p n : Nat) : State :=
  (List.range (s.rd (Fld.HIF_PORT_STAT_NUM_VF p) - n)).foldl (fun (s : State) i => s.resetFn (128 * p + n + 1 + i)) s

theorem State.sriovWrite_of_up (s : State) (p n : Nat) (h : s.portAnswers p = true) :
    s.sriovWrite p n = (s.resetBeyond p n).wr (Fld.HIF_PORT_STAT_NUM_VF p) (min n 127) := by
  rw [State.sriovWrite, if_pos h]
  rfl

theorem State.rd_sriovWrite (s : State) (p n : Nat) (h : s.portAnswers p = true) :
    (s.sriovWrite p n).rd (Fld.HIF_PORT_STAT_NUM_VF p) = min n 127 := by
  rw [State.sriovWrite_of_up s p n h, State.rd_wr_self]
  exact Nat.mod_eq_of_lt (show min n 127 < 2 ^ 7 by omega)

theorem State.onlyRegs_sriovWrite (s : State) (p n : Nat) (h : s.portAnswers p = true) (hn : s.rd (Fld.HIF_PORT_STAT_NUM_VF p) ≤ n) :
    OnlyRegs [Fld.HIF_PORT_STAT_NUM_VF p] s (s.sriovWrite p n) := by
  rw [State.sriovWrite_of_up s p n h, State.resetBeyond, Nat.sub_eq_zero_of_le hn]
  exact onlyRegs_wr s _ _

theorem fnReset_sriovWrite (s : State) (p : Fin 2) (n : Nat) (h : s.portAnswers p = true) (i : Fin 127) (hn : n ≤ i.val)
    (hi : i.val < s.rd (Fld.HIF_PORT_STAT_NUM_VF p)) : FnReset (128 * p.val + 1 + i.val) (s.sriovWrite p n) := by
  rw [State.sriovWrite_of_up s p n h]
  refine fnReset_of_kept (fnKept_wr (pageFields_ne_block ?_ (by simp [Fld.HIF_PORT_STAT_NUM_VF])) _ _) ?_
  · simp only [Fld.HIF_PORT_STAT_NUM_VF]
    omega
  · exact fnReset_foldl _ _ s (.inr (List.mem_map.2 ⟨i.val - n, List.mem_range.2 (by omega), by omega⟩))

end Sys2Proof.Machine
end

section
/-! PROOFS. CFG_WRITE of one word (R24, R26, R367): how its refusal is judged, and how its descriptor ends. -/

namespace Sys2Proof.Machine

/-! ### What a word into the blocks leaves alone -/

/-- Nothing changes but registers outside the functions' pages, the strobe's mark, history and log. -/
structure BlockOnly (s t : State) : Prop where
  parts : t = { s with regs := t.regs, seqr := t.seqr, hist := t.hist, log := t.log }
  page : ∀ f, ∀ g ∈ pageFields f, t.rd g = s.rd g

theorem BlockOnly.trans {s t u : State} (h : BlockOnly s t) (k : BlockOnly t u) : BlockOnly s u where
  parts := by rw [k.parts, h.parts]
  page f g hg := (k.page f g hg).trans (h.page f g hg)

theorem pageFields_kept {fs : List Field} {s t : State} (h : RegsBut fs s t) (hfs : ∀ g ∈ fs, g.addr < 0x9300000 ∧ g.lsb < 32) :
    ∀ f, ∀ g ∈ pageFields f, t.rd g = s.rd g :=
  fun _ g hg => h g fun x hx => pageFields_ne_block (hfs x hx).1 (hfs x hx).2 g hg

theorem OnlyRegs.blockOnly {fs : List Field} {s t : State} (h : OnlyRegs fs s t) (hfs : ∀ g ∈ fs, g.addr < 0x9300000 ∧ g.lsb < 32) :
    BlockOnly s t where
  parts := by rw [h.2]
  page := pageFields_kept h.1 hfs

theorem OnlyLogged.blockOnly {fs : List Field} {s t : State} (h : OnlyLogged fs s t) (hfs : ∀ g ∈ fs, g.addr < 0x9300000 ∧ g.lsb < 32) :
    BlockOnly s t where
  parts := by rw [h.2]
  page := pageFields_kept h.1 fun g hg => by
    rcases List.mem_append.1 hg with hg | hg
    · exact hfs g hg
    · obtain ⟨-, hl, ha⟩ := eventFields_plainAt g hg
      exact ⟨ha, hl⟩

theorem Holds.blockOnly {a i j v : Nat} {d : RegDef} {s t : State} (h : Holds d i j a v s t)
    (hparts : t = { s with regs := t.regs, seqr := t.seqr })
    (hfs : ∀ fd ∈ d.fields, (fd.fld i j).addr < 0x9300000 ∧ (fd.fld i j).lsb < 32) : BlockOnly s t where
  parts := by rw [hparts]
  page := pageFields_kept h.2.1 fun g hg => by
    obtain ⟨fd, hfd, rfl⟩ := List.mem_map.1 hg
    exact hfs fd hfd

/-! ### How a refusal is seen (R9, R145, R331, R335, R417, R445, R556) -/

/-- The flags that a refused write to the block sets. -/
def judgeFlags (blk : Nat) : List Field := refusalFlags blk ++ nofitFlags

/-- The flags cleared before the write is made. -/
def State.clearFlags (s : State) (fs : List Field) : State := fs.foldl (fun (s : State) f => s.wr f 0) s

/-- The flags that stood in `s` set again in `t`. -/
def State.restoreFlags (s t : State) (fs : List Field) : State := fs.foldl (fun (t : State) f => if s.flag f then t.wr f 1 else t) t

theorem State.judged_eq (s : State) (blk : Nat) (k : State → State) : s.judged blk k =
    let t := k (s.clearFlags (judgeFlags blk))
    (s.restoreFlags t (judgeFlags blk),
      if (refusalFlags blk).any (fun f => t.flag f) then some Status.range else if nofitFlags.any (fun f => t.flag f) then some .nofit else none) :=
  rfl

theorem nodup_judgeFlags : ∀ b < 19, ((judgeFlags b).map Field.key).Nodup := by decide +kernel

theorem onlyRegs_clearFlags (s : State) (fs : List Field) : OnlyRegs fs s (s.clearFlags fs) :=
  onlyRegs_foldl (fun s f => onlyRegs_wr s f 0) fs s

theorem onlyRegs_restoreFlags (s t : State) (fs : List Field) : OnlyRegs fs t (s.restoreFlags t fs) := by
  refine onlyRegs_foldl (fun u f => ?_) fs t
  split
  · exact onlyRegs_wr u f 1
  · exact OnlyRegs.refl [f] u

theorem flag_clearFlags (s : State) {b : Nat} (hb : b < 19) {f : Field} (hf : f ∈ judgeFlags b) : (s.clearFlags (judgeFlags b)).flag f = false := by
  rw [State.flag, State.clearFlags, rd_foldl_clear (nodup_judgeFlags b hb) hf]
  rfl

theorem judgeFlags_blocks {b : Nat} (hb : b < 19) : ∀ g ∈ judgeFlags b, g.addr < 0x9300000 ∧ g.lsb < 32 := fun g hg => by
  obtain ⟨-, hl, ha, -, -⟩ := Field.of_isQuietFlag (refusalFlags_quiet b hb g hg)
  exact ⟨ha, hl⟩

theorem State.judged_of_quiet (s : State) {blk : Nat} {k : State → State} {t : State} (hk : k (s.clearFlags (judgeFlags blk)) = t)
    (hquiet : ∀ g ∈ judgeFlags blk, t.flag g = false) : s.judged blk k = (s.restoreFlags t (judgeFlags blk), none) := by
  have hno {gs : List Field} (hgs : ∀ g ∈ gs, g ∈ judgeFlags blk) : ¬ gs.any (fun f => t.flag f) = true := by
    rw [List.any_eq_true]
    rintro ⟨g, hg, hset⟩
    simp [hquiet g (hgs g hg)] at hset
  rw [State.judged_eq, hk]
  dsimp only
  rw [if_neg (hno fun _ => List.mem_append_left _), if_neg (hno fun _ => List.mem_append_right _)]

theorem State.judged_of_refusal (s : State) {blk : Nat} {k : State → State} {t : State} (hk : k (s.clearFlags (judgeFlags blk)) = t)
    {g : Field} (hg : g ∈ refusalFlags blk) (hset : t.flag g = true) :
    s.judged blk k = (s.restoreFlags t (judgeFlags blk), some .range) := by
  rw [State.judged_eq, hk]
  dsimp only
  rw [if_pos (List.any_eq_true.2 ⟨g, hg, hset⟩)]

/-! ### One word on behalf of a descriptor -/

section
variable {a i j : Nat} {d : RegDef} (h : findReg regTable a = some (d, i, j)) (hb : d.base ∈ plainRegs)
include h hb

theorem plain_block : blockOf a < 19 := by
  obtain ⟨hlo, hhi, -⟩ := plain_range h hb
  unfold blockOf
  omega

theorem State.writeWord_of_plain (s : State) (v : Nat) :
    s.writeWord a v = s.judged (blockOf a) (fun s => s.writeFields d i j a v) := by
  have hw1c : d.fields.any (fun fd => fd.acc == .w1c) = false := by
    rw [List.any_eq_false]
    intro fd hfd
    rw [plain_acc h hb fd hfd]
    decide
  have hctl : ∀ b ∈ plainRegs, b ≠ 0x8c00054 := by decide
  simp only [State.writeWord, h]
  rw [if_neg (by simp [hw1c, hctl d.base hb])]

theorem plain_field_block : ∀ fd ∈ d.fields, (fd.fld i j).addr < 0x9300000 ∧ (fd.fld i j).lsb < 32 := fun fd hfd => by
  obtain ⟨haddr, hlsb⟩ := field_of_findReg h hfd
  exact ⟨haddr ▸ (plain_range h hb).2.1, hlsb⟩

/-- A field of such a register is none of the flags. -/
theorem plain_ne_judgeFlags {fd : FieldDef} (hfd : fd ∈ d.fields) : ∀ g ∈ judgeFlags (blockOf a), (fd.fld i j).key ≠ g.key := fun g hg => by
  obtain ⟨-, hl, -, hp, -⟩ := Field.of_isQuietFlag (refusalFlags_quiet _ (plain_block h hb) g hg)
  exact plain_key_ne h hb hfd hp hl

/-- A word in range is taken: nothing is refused, and the fields hold it. -/
theorem State.writeWord_of_inRange (s : State) {v : Nat} (hv : InRange d i j v) : ∃ u, s.writeWord a v = (u, none) ∧ BlockOnly s u ∧
    (∀ fd ∈ d.fields, u.rd (fd.fld i j) = (fd.fld i j).part v) ∧ u.seqr = { s.seqr with staged := s.seqr.staged || stagedAddr a } := by
  have hblk := plain_block h hb
  have hclear := onlyRegs_clearFlags s (judgeFlags (blockOf a))
  have hflags := fun g (hg : g ∈ judgeFlags (blockOf a)) => flag_clearFlags s hblk hg
  obtain ⟨hholds, hparts⟩ := State.holds_writeFields h hb (s.clearFlags (judgeFlags (blockOf a))) hv
  obtain ⟨t, ht⟩ : ∃ t, (s.clearFlags (judgeFlags (blockOf a))).writeFields d i j a v = t := ⟨_, rfl⟩
  have hrestore := onlyRegs_restoreFlags s t (judgeFlags (blockOf a))
  rw [ht] at hholds hparts
  have hquiet : ∀ g ∈ judgeFlags (blockOf a), t.flag g = false := fun g hg => by
    rw [State.flag, hholds.2.1 g, ← State.flag, hflags g hg]
    intro x hx
    obtain ⟨fd, hfd, rfl⟩ := List.mem_map.1 hx
    exact (plain_ne_judgeFlags h hb hfd g hg).symm
  have hjudged := State.judged_of_quiet s (k := fun s => s.writeFields d i j a v) ht hquiet
  refine ⟨_, (State.writeWord_of_plain h hb s v).trans hjudged, ?frame, fun fd hfd => ?fields, ?strobe⟩
  case frame =>
    exact ((hclear.blockOnly (judgeFlags_blocks hblk)).trans (hholds.blockOnly hparts (plain_field_block h hb))).trans
      (hrestore.blockOnly (judgeFlags_blocks hblk))
  case fields => rw [hrestore.1 _ (plain_ne_judgeFlags h hb hfd), hholds.1 fd hfd]
  case strobe =>
    obtain ⟨-, -, -, hseqr⟩ := hholds
    have hkept : (s.clearFlags (judgeFlags (blockOf a))).seqr = s.seqr := by rw [hclear.2]
    have hkept' : (s.restoreFlags t (judgeFlags (blockOf a))).seqr = t.seqr := by rw [hrestore.2]
    rw [hkept', hseqr, hkept]

/-- A word out of range is refused with RANGE, and the fields stay. -/
theorem State.writeWord_of_not_inRange (s : State) {v : Nat} (hv : ¬ InRange d i j v) : ∃ u, s.writeWord a v = (u, some .range) ∧
    BlockOnly s u ∧ (∀ fd ∈ d.fields, u.rd (fd.fld i j) = s.rd (fd.fld i j)) := by
  have hblk := plain_block h hb
  obtain ⟨-, -, h5⟩ := plain_range h hb
  obtain ⟨g, hg⟩ := Option.isSome_iff_exists.1 (invalidFlag_isSome _ hblk h5)
  have hquiet := quiet_of_invalidFlag hg
  have hclear := onlyRegs_clearFlags s (judgeFlags (blockOf a))
  obtain ⟨hset, hraise, -⟩ := State.raised_quiet (s.clearFlags (judgeFlags (blockOf a))) hquiet i
  have ht := (State.writeFields_of_not_inRange h hb (s.clearFlags (judgeFlags (blockOf a))) hv).trans
    (State.refuse_of_invalidFlag _ hg i)
  generalize (s.clearFlags (judgeFlags (blockOf a))).raise g i = t at hset hraise ht
  have hrestore := onlyRegs_restoreFlags s t (judgeFlags (blockOf a))
  have hjudged := State.judged_of_refusal s (k := fun s => s.writeFields d i j a v) ht (invalidFlag_mem hg) (by simp [State.flag, hset])
  refine ⟨_, (State.writeWord_of_plain h hb s v).trans hjudged, ?frame, fun fd hfd => ?fields⟩
  case frame =>
    have hflag := judgeFlags_blocks hblk g (List.mem_append_left _ (invalidFlag_mem hg))
    exact ((hclear.blockOnly (judgeFlags_blocks hblk)).trans (hraise.blockOnly (by simpa using hflag))).trans
      (hrestore.blockOnly (judgeFlags_blocks hblk))
  case fields =>
    have hother := plain_ne_judgeFlags h hb hfd
    rw [hrestore.1 _ hother, hraise.1 _ ?_, hclear.1 _ hother]
    intro x hx
    rcases List.mem_append.1 hx with hx | hx
    · rw [List.mem_singleton.1 hx]
      exact hother g (List.mem_append_left _ (invalidFlag_mem hg))
    · obtain ⟨hp, hl, -⟩ := eventFields_plainAt x hx
      exact plain_key_ne h hb hfd hp hl

end

end Sys2Proof.Machine
end

section
/-! PROOFS. The end of a CFG_WRITE of one word (R24, R26, R367), and REGISTER_WRITE as a whole. -/

namespace Sys2Proof.Machine

/-! ### The descriptor of a CFG_WRITE -/

/-- A field of a register that only holds a value tells hosts nothing of functions, sessions or streams. -/
theorem untold_of_plain {a i j : Nat} {d : RegDef} (h : findReg regTable a = some (d, i, j)) (hb : d.base ∈ plainRegs) {fd : FieldDef}
    (hfd : fd ∈ d.fields) : Untold (fd.fld i j) := by
  have hsess : plainAt Fld.SEC_SESS_OPEN.addr = false := by decide +kernel
  have hread : ∀ k < 16, plainAt (Fld.REC_D_STAT_READING k).addr = false := by decide +kernel
  obtain ⟨haddr, hlsb⟩ := plain_field_block h hb fd hfd
  refine ⟨not_onPage_of_block haddr hlsb, plain_key_ne h hb hfd hsess (by decide), fun k hk => ?_⟩
  exact plain_key_ne h hb hfd (hread k hk) (show 14 < 32 by decide)

/-- A completion after a word into the blocks stands where the ring ended before it. -/
theorem BlockOnly.completedWith {f : Nat} {x : InFlight} {st : Status} {n : Nat} {s u t : State} (h : BlockOnly s u)
    (k : CompletedWith f x st n u t) : CompletedWith f x st n s t := by
  rw [CompletedWith, h.page f (Fld.HIF_FN_CPL_PTR_TAIL f) (by simp [pageFields])] at k
  exact k

theorem BlockOnly.rest {s u : State} (h : BlockOnly s u) : u.host = s.host ∧ u.force = s.force ∧ u.coreFault = s.coreFault := by
  rw [h.parts]
  exact ⟨rfl, rfl, rfl⟩

/-- A descriptor with a new progress keeps its place. -/
theorem State.inflight_setProgress (s : State) (f serial : Nat) (p : Progress) : ((s.setProgress f serial p).fn f).inflight =
    (s.fn f).inflight.map (fun y => if y.serial = serial then { y with at' := p } else y) :=
  congrArg HostFn.inflight (State.fn_setFn_self s f _)

theorem State.progress_setProgress (s : State) (f : Nat) {x : InFlight} (p : Progress) (hx : x ∈ (s.fn f).inflight) :
    (((s.setProgress f x.serial p).fn f).inflight.find? (fun z => z.serial == x.serial)).map (·.at') = some p := by
  obtain ⟨z, hz⟩ := Option.isSome_iff_exists.1 (List.find?_isSome (p := fun z : InFlight => z.serial == x.serial) |>.2 ⟨x, hx, by simp⟩)
  have hserial : z.serial = x.serial := by simpa using List.find?_some hz
  have hkept : (fun z : InFlight => z.serial == x.serial) ∘ (fun y => if y.serial = x.serial then { y with at' := p } else y) =
      fun z => z.serial == x.serial := by
    funext y
    rw [Function.comp_apply]
    split <;> rfl
  rw [State.inflight_setProgress, List.find?_map, hkept, hz]
  simp [hserial]

theorem State.writeWords_single_refused {s u : State} {a : Nat} {w : Reg32} {st : Status} (hu : s.writeWord a w.toNat = (u, some st)) :
    s.writeWords a 0 false [w] = (u, 0, some st, false) := by
  simp only [State.writeWords, Nat.mul_zero, Nat.add_zero, hu]

theorem State.writeWords_single_taken {s u : State} {a : Nat} {w : Reg32} (hu : s.writeWord a w.toNat = (u, none)) :
    s.writeWords a 0 false [w] = (u, 1, none, stagedAddr a) := by
  simp only [State.writeWords, Nat.mul_zero, Nat.add_zero, Nat.zero_add, hu, Bool.false_or]

section
variable {s : State} {fn : Fin 256} {index : BitVec 16} {x : InFlight} (hx : s.runnable fn.val index.toNat = some x)
  {blk off : Nat} {w : Reg32} (hw : x.d.body = .cfgWrite blk off [w])
include hx hw

theorem execCfgWrite_island (h5 : blk = 5) : exec (.cfgWrite fn index) s =
    .next ((s.accessFault (.mgc 0) (blockAddr blk off)).done fn.val x .range 0 0) := by
  show execCfgWrite fn index s = _
  simp only [execCfgWrite, State.withDescr, hx, hw]
  rw [if_pos h5]

theorem execCfgWrite_refused (h5 : blk ≠ 5) {u : State} {st : Status} (hu : s.writeWord (blockAddr blk off) w.toNat = (u, some st)) :
    exec (.cfgWrite fn index) s = .next (u.done fn.val x st 0 0) := by
  show execCfgWrite fn index s = _
  simp only [execCfgWrite, State.withDescr, hx, hw, State.writeWords_single_refused hu]
  rw [if_neg h5]

theorem execCfgWrite_taken (h5 : blk ≠ 5) {u : State} (hu : s.writeWord (blockAddr blk off) w.toNat = (u, none)) (hhost : u.host = s.host) :
    exec (.cfgWrite fn index) s = .next (if stagedAddr (blockAddr blk off) = true then u.setProgress fn.val x.serial (.boundary 1)
      else u.done fn.val x .ok 1) := by
  have hthere : (u.inflightBy fn.val x.serial).isNone = false := by
    rw [Option.isNone_eq_false_iff, State.inflightBy, State.fn, hhost, List.find?_isSome]
    exact ⟨x, List.mem_of_find?_eq_some hx, by simp⟩
  show execCfgWrite fn index s = _
  simp only [execCfgWrite, State.withDescr, hx, hw, State.writeWords_single_taken hu, hthere]
  rw [if_neg h5, if_neg Bool.false_ne_true]

/-- Into the island: RANGE, and MGC0 bears the access fault (log 123). -/
theorem cfgWrite_island (h5 : blk = 5) : ∃ t, exec (.cfgWrite fn index) s = .next t ∧ CompletedWith fn.val x .range 0 s t ∧
    t.coreFault = (s.accessFault (.mgc 0) (blockAddr blk off)).coreFault := by
  obtain ⟨-, -, -, hfault⟩ := State.done_frame (s.accessFault (.mgc 0) (blockAddr blk off)) fn.val x .range 0 0
  exact ⟨_, execCfgWrite_island hx hw h5, State.completedWith_done (s.accessFault (.mgc 0) (blockAddr blk off)) fn.val x .range 0 0, hfault⟩

section
variable {i j : Nat} {d : RegDef} (h : findReg regTable (blockAddr blk off) = some (d, i, j)) (hb : d.base ∈ plainRegs) (h5 : blk ≠ 5)
include h hb h5

theorem cfgWrite_of_not_inRange (hv : ¬ InRange d i j w.toNat) : ∃ t, exec (.cfgWrite fn index) s = .next t ∧
    CompletedWith fn.val x .range 0 s t ∧ ∀ fd ∈ d.fields, t.rd (fd.fld i j) = s.rd (fd.fld i j) := by
  obtain ⟨u, hu, honly, hkept⟩ := State.writeWord_of_not_inRange h hb s hv
  obtain ⟨hregs, -⟩ := State.done_frame u fn.val x .range 0 0
  exact ⟨_, execCfgWrite_refused hx hw h5 hu, honly.completedWith (State.completedWith_done u fn.val x .range 0 0),
    fun fd hfd => (hregs _ (untold_of_plain h hb hfd)).trans (hkept fd hfd)⟩

theorem cfgWrite_of_inRange (hv : InRange d i j w.toNat) : ∃ t, exec (.cfgWrite fn index) s = .next t ∧
    (∀ fd ∈ d.fields, t.rd (fd.fld i j) = (fd.fld i j).part w.toNat) ∧ t.force = s.force ∧ t.coreFault = s.coreFault ∧
    (stagedAddr (blockAddr blk off) = false → CompletedWith fn.val x .ok 1 s t ∧ t.seqr = s.seqr) ∧
    (stagedAddr (blockAddr blk off) = true → t.seqr = { s.seqr with staged := true } ∧
      (t.fn fn.val).inflight.length = (s.fn fn.val).inflight.length ∧
      ((t.fn fn.val).inflight.find? (fun z => z.serial == x.serial)).map (·.at') = some (.boundary 1)) := by
  obtain ⟨u, hu, honly, hpart, hseqr⟩ := State.writeWord_of_inRange h hb s hv
  obtain ⟨hhost, hforce, hfault⟩ := honly.rest
  refine ⟨_, execCfgWrite_taken hx hw h5 hu hhost, ?_⟩
  cases hst : stagedAddr (blockAddr blk off)
  case false =>
    obtain ⟨hregs, hforce', hseqr', hfault'⟩ := State.done_frame u fn.val x .ok 1 0
    rw [if_neg Bool.false_ne_true]
    refine ⟨fun fd hfd => (hregs _ (untold_of_plain h hb hfd)).trans (hpart fd hfd), hforce'.trans hforce, hfault'.trans hfault,
      fun _ => ⟨honly.completedWith (State.completedWith_done u fn.val x .ok 1 0), ?_⟩, fun hno => absurd hno Bool.false_ne_true⟩
    rw [hseqr', hseqr, hst, Bool.or_false]
  case true =>
    rw [if_pos rfl]
    have hfn : u.fn fn.val = s.fn fn.val := by rw [State.fn, hhost]; rfl
    have hmem : x ∈ (u.fn fn.val).inflight := hfn ▸ List.mem_of_find?_eq_some hx
    refine ⟨hpart, hforce, hfault, fun hno => absurd hno.symm Bool.false_ne_true, fun _ => ⟨?_, ?_, u.progress_setProgress fn.val _ hmem⟩⟩
    · rw [hst, Bool.or_true] at hseqr
      exact hseqr
    · rw [State.inflight_setProgress, List.length_map, hfn]

end
end

end Sys2Proof.Machine
end

section
/-! PROOFS. REGISTER_WRITE and CFG_WRITE as a whole. -/

namespace Sys2Proof.Machine

/-! ### A core's word -/

/-- An address in the blocks that a word may be written to (R6, R22). -/
theorem inBlocks_iff (a : Nat) : (decide (0x8000000 ≤ a) && decide (a < 0x9300000) && a % 4 == 0) = true ↔
    (0x8000000 ≤ a ∧ a < 0x9300000) ∧ a % 4 = 0 := by simp

theorem registerWrite_core {s t : State} {u : Core} {addr : BitVec 40} {v : Reg32} (h : s.coreWrite u addr.toNat v = t) :
    exec (.registerWrite (.core u) addr v) s = .next t := by
  rw [← h]
  rfl

theorem discarded_of_eq {s t : State} {u : Core} {a : Nat} (h : t = s.accessFault u a) : Discarded u a s (.next t) := by
  rw [h]
  rfl

theorem State.coreWrite_of_plain (s : State) {u : Core} {a i j : Nat} {d : RegDef} (v : Reg32) (h4 : a % 4 = 0)
    (h : findReg regTable a = some (d, i, j)) (hb : d.base ∈ plainRegs) (hu : mayWrite u (blockOf a) = true) :
    s.coreWrite u a v = s.writeFields d i j a v.toNat := by
  obtain ⟨hlo, hhi, -⟩ := plain_range h hb
  rw [State.coreWrite_of_block s u v h4 ⟨hlo, hhi⟩, State.blockWrite_of_plain s h hb v.toNat hu]

/-! ### A host's word to its page -/

theorem registerWrite_host {s t : State} {fn : Fin 256} {dword : Bool} {addr : BitVec 40} {v : Reg32}
    (h : s.barWrite fn.val dword (addr.toNat % 0x10000) v.toNat = t) : exec (.registerWrite (.host fn dword) addr v) s = .next t := by
  rw [← h]
  rfl

theorem toNat_vectorUpper (x : BitVec 64) (v : Reg32) :
    (BitVec.ofNat 64 (x.toNat % 2 ^ 32 + v.toNat * 2 ^ 32)).toNat = x.toNat % 2 ^ 32 + v.toNat * 2 ^ 32 := by
  rw [BitVec.toNat_ofNat]
  exact Nat.mod_eq_of_lt (by omega)

/-- HOLD_US, COUNT and RATE of a vector take their parts of the word (R355). -/
theorem State.rd_moderation (s : State) (f k : Nat) (v : Reg32) :
    (s.wrs (moderation f k v.toNat)).rd (Fld.HIF_FN_MOD_HOLD_US f k) = v.toNat % 2 ^ 16 ∧
    (s.wrs (moderation f k v.toNat)).rd (Fld.HIF_FN_MOD_COUNT f k) = v.toNat / 2 ^ 16 % 2 ^ 8 ∧
    (s.wrs (moderation f k v.toNat)).rd (Fld.HIF_FN_MOD_RATE f k) = v.toNat / 2 ^ 24 ∧
    OnlyRegs [Fld.HIF_FN_MOD_HOLD_US f k, Fld.HIF_FN_MOD_COUNT f k, Fld.HIF_FN_MOD_RATE f k] s (s.wrs (moderation f k v.toNat)) := by
  have hkeys : ((moderation f k v.toNat).map (fun p => p.1.key)).Nodup := by
    simp [moderation, Field.key, Fld.HIF_FN_MOD_HOLD_US, Fld.HIF_FN_MOD_COUNT, Fld.HIF_FN_MOD_RATE]
  have hpart {g : Field} {n : Nat} (hp : (g, n) ∈ moderation f k v.toNat) : (s.wrs (moderation f k v.toNat)).rd g = n % 2 ^ g.width :=
    State.rd_wrs_mem hkeys hp s
  have hrate : v.toNat / 2 ^ 24 % 2 ^ 8 = v.toNat / 2 ^ 24 := Nat.mod_eq_of_lt (by omega)
  exact ⟨hpart (by simp [moderation]), hpart (n := v.toNat / 2 ^ 16) (by simp [moderation]),
    (hpart (n := v.toNat / 2 ^ 24) (by simp [moderation])).trans hrate, onlyRegs_wrs s (moderation f k v.toNat)⟩

theorem State.rd_evtMask (s : State) (f v : Nat) :
    (s.wr (Fld.HIF_FN_EVT_MASK_TYPES f) (v / 2 % 512 ||| 3)).rd (Fld.HIF_FN_EVT_MASK_TYPES f) = v / 2 % 512 ||| 3 := by
  rw [State.rd_wr_self]
  exact Nat.mod_eq_of_lt (Nat.or_lt_two_pow (n := 9) (by omega) (by omega))

/-- A host's non-dword into the page of registers sets ACC_ERR and signals vector 3 (R354). -/
theorem State.accErr_signalled (s : State) (f : Nat) :
    let t := (s.wr (Fld.HIF_FN_STAT_ACC_ERR f) 1).signal f 3
    t.rd (Fld.HIF_FN_STAT_ACC_ERR f) = 1 ∧ RegsBut [Fld.HIF_FN_STAT_ACC_ERR f] s t ∧ MapBut HostFn.reset [f] s.host t.host ∧
      t = { s with regs := t.regs, host := t.host } := by
  obtain ⟨hhost, hparts⟩ := onlyFn_signal (s.wr (Fld.HIF_FN_STAT_ACC_ERR f) 1) f 3
  have hregs (g : Field) : ((s.wr (Fld.HIF_FN_STAT_ACC_ERR f) 1).signal f 3).rd g = (s.wr (Fld.HIF_FN_STAT_ACC_ERR f) 1).rd g := by
    rw [hparts]
    rfl
  refine ⟨(hregs _).trans (State.rd_wr_self s _ 1), fun g hg => (hregs g).trans ((onlyRegs_wr s _ 1).1 g hg), hhost, ?_⟩
  rw [hparts]
  rfl

/-- The module's own INVALID_WR of the host interface (R9). -/
theorem raised_hifInvalid (s : State) (n : Nat) : (s.raise Fld.HIF_GSTAT_INVALID_WR n).rd Fld.HIF_GSTAT_INVALID_WR = 1 ∧
    OnlyLogged [Fld.HIF_GSTAT_INVALID_WR] s (s.raise Fld.HIF_GSTAT_INVALID_WR n) := by
  obtain ⟨hset, honly, -⟩ := State.raised_quiet s (quiet_of_invalidFlag (b := 8) rfl) n
  exact ⟨hset, honly⟩

end Sys2Proof.Machine

open Sys2Proof Sys2Proof.Machine

/-- Settles O59: a core's word by the region of its address, a host's by its offset in the page, NumVFs by the functions it
disables, and CFG_WRITE by the register its one word names. RANGE for a refused CFG_WRITE is the model's log 101 and 102, the
host's page and the limit of 127 are its log 108, the resets its log 207, and the fault MGC0 bears for a CFG_WRITE into the island log 123. -/
theorem registerWrites : Obligations.RegisterWrites := by
  unfold Obligations.RegisterWrites
  refine ⟨fun s u addr v => ?core, fun s fn dword addr v => ?host, fun s p addr v => ?sriov, fun s fn index x hx blk off w hw => ?cfg⟩
  case core =>
    refine ⟨fun h => ?unaligned, fun h => ?unmapped, fun hin h hh => ?free, fun hin hu h => ?forbidden, fun hin hu x h hb => ?plain,
      fun h4 hlo hhi => ?sram, fun h4 hlo hhi => ?dram⟩
    case unaligned => exact discarded_of_eq (State.coreWrite_of_unaligned s u v h)
    case unmapped => exact discarded_of_eq (State.coreWrite_of_unmapped s u v h)
    case free =>
      obtain ⟨hblk, h4⟩ := (inBlocks_iff _).1 hin
      exact discarded_of_eq ((State.coreWrite_of_block s u v h4 hblk).trans (State.blockWrite_of_free s u v.toNat h hh))
    case forbidden =>
      obtain ⟨hblk, h4⟩ := (inBlocks_iff _).1 hin
      exact discarded_of_eq ((State.coreWrite_of_block s u v h4 hblk).trans (State.blockWrite_of_forbidden s v.toNat h hu))
    case plain =>
      obtain ⟨-, h4⟩ := (inBlocks_iff _).1 hin
      have hwrite := s.coreWrite_of_plain v h4 h hb hu
      refine ⟨fun hv => ⟨_, registerWrite_core hwrite, State.holds_writeFields h hb s hv⟩, fun hv g hg => ?_⟩
      rw [State.writeFields_of_not_inRange h hb s hv, State.refuse_of_invalidFlag s hg] at hwrite
      exact ⟨_, registerWrite_core hwrite, State.raised_quiet s (quiet_of_invalidFlag hg) x.2.1⟩
    case sram =>
      have hwrite := State.coreWrite_of_sram s u v h4 ⟨hlo, hhi⟩
      refine ⟨fun hu => ?_, fun hu => ?_⟩
      · rw [if_pos hu] at hwrite
        exact ⟨_, registerWrite_core hwrite, get_putBytes_sramBytes s _ v, mapBut_putBytes_leBytes s _ _, rfl⟩
      · rw [if_neg (by simp [hu])] at hwrite
        exact discarded_of_eq hwrite
    case dram =>
      have hwrite := State.coreWrite_of_dram s u v h4 ⟨hlo, hhi⟩
      refine ⟨fun hu => ?_, fun hu => ?_⟩
      · rw [if_pos hu] at hwrite
        exact ⟨_, registerWrite_core hwrite, get_putBytes_leBytes s _ v.toNat, mapBut_putBytes_leBytes s _ _, rfl⟩
      · rw [if_neg (by simp [hu])] at hwrite
        exact discarded_of_eq hwrite
  case host =>
    refine ⟨fun h => registerWrite_host (s.barWrite_beyond _ dword _ h), fun hd hoff => ?notDword, fun hd => ?dword⟩
    case notDword => exact ⟨_, registerWrite_host (hd ▸ s.barWrite_notDword _ _ hoff), s.accErr_signalled _⟩
    case dword =>
      subst hd
      have hat {n : Nat} {t : State} (hoff : addr.toNat % 0x10000 = n) (ht : s.barWrite fn.val true n v.toNat = t) :
          exec (.registerWrite (.host fn true) addr v) s = .next t := registerWrite_host (hoff ▸ ht)
      refine ⟨fun h => hat h (s.barWrite_dbCmd _ _), fun h => hat h (s.barWrite_dbCpl _ _), fun h => hat h (s.barWrite_dbEvt _ _),
        fun h => hat h (s.barWrite_dbBlk _ _), fun k => ⟨fun h => ?data, fun h => ?upper, fun h => ?control, fun hr h hc => ?moderation,
          fun hr h hc => ?noCount, fun hr h _ => ?ring⟩, fun hr h => ?mask, fun hr hlo h8 => hat rfl (s.barWrite_not_answers _ _ hlo h8 hr)⟩
      case data =>
        refine ⟨_, hat h (s.barWrite_vectorData _ k _), ?_, fun j hj => ?_, (onlyFn_setVector s _ _ _).1, rfl⟩
        · simp
        · exact s.vector_setVector_ne _ _ (by omega)
      case upper =>
        refine ⟨_, hat h (s.barWrite_vectorUpper _ k _), ?_, fun j hj => s.vector_setVector_ne _ _ (by omega), rfl⟩
        rw [State.vector_setVector_self]
        exact toNat_vectorUpper _ v
      case control =>
        refine ⟨_, hat h rfl, s.masked_vectorControl _ k _, s.vectorControl_of_mask _ k _, s.vectorControl_sends _ k _,
          fun j hj => s.vectorControl_ne _ k _ (by omega), (s.onlyFn_vectorControl _ k _).2⟩
      case moderation =>
        exact ⟨_, hat h ((State.barWrite_moderation _ hr k).trans (if_neg hc)), s.rd_moderation fn.val k v⟩
      case noCount => exact ⟨_, hat h ((State.barWrite_moderation _ hr k).trans (if_pos hc)), raised_hifInvalid s _⟩
      case ring =>
        have hring := State.barWrite_ringBaseHi v.toNat hr k
        refine ⟨fun ho => ?closed, fun ho => ?open'⟩
        case closed =>
          rw [if_neg (by simp [ho])] at hring
          exact ⟨_, hat h hring, (s.rd_wr_self _ _).trans (Nat.mod_eq_of_lt v.isLt), onlyRegs_wr s _ _⟩
        case open' =>
          rw [if_pos ho] at hring
          exact ⟨_, hat h hring, s.rd_wr_self _ _, onlyRegs_wr s _ _⟩
      case mask => exact ⟨_, hat h (State.barWrite_evtMask _ hr), s.rd_evtMask _ _, onlyRegs_wr s _ _⟩
  case sriov =>
    refine ⟨fun h => congrArg _ (s.sriovWrite_of_down p v.toNat h), fun h => ⟨_, rfl, s.rd_sriovWrite p v.toNat h,
      s.onlyRegs_sriovWrite p v.toNat h, fnReset_sriovWrite s p v.toNat h⟩⟩
  case cfg =>
    exact ⟨cfgWrite_island hx hw, fun h5 y h hb _ => ⟨cfgWrite_of_inRange hx hw h hb h5, cfgWrite_of_not_inRange hx hw h hb h5⟩⟩
end

section
/-! PROOFS. The queue's front (R20, R443), and commands of cores that may not write a block (R21 to R23). -/

namespace Sys2Proof.Machine

/-- A register write of a core without the right is discarded and recorded at the block's base. -/
theorem discarded_asWriter {u : Core} {b : Nat} (s : State) (k : State → State) (h : mayWrite u b = false) :
    Discarded u (0x8000000 + b * 0x100000) s (.next (s.asWriter u b k)) :=
  congrArg Host.Outcome.next (State.asWriter_not s k h)

end Sys2Proof.Machine

open Sys2Proof Sys2Proof.Machine

/-- Settles O1: a step unfolds to the front command, or to a tick. -/
theorem stepRunsTheFrontCommand : Obligations.StepRunsTheFrontCommand := by
  unfold Obligations.StepRunsTheFrontCommand
  refine ⟨fun c s => rfl, fun s c r h => ?_, fun s h => ?_⟩ <;> simp only [step, h]

/-- Settles O60: every command of a core to a block goes through `State.asWriter` at that block. -/
theorem forbiddenCoreCommands : Obligations.ForbiddenCoreCommands := by
  unfold Obligations.ForbiddenCoreCommands
  intro s u x0 x1 x2 x3 x4 x5 x6 x7 x8 x9 x10 x11 x12 x13 x14 x15 x16 x17 x18 x19 x20
  refine ⟨?_, ?_, ?_, ?_, ?_, ?_, ?_, ?_, ?_, ?_, ?_, ?_, ?_, ?_, ?_⟩ <;>
    · intro h
      have hd := fun k => discarded_asWriter s k h
      repeat' apply And.intro
      all_goals exact hd _

end

section
/-! PROOFS. What every command keeps: the queue of waiting commands, and, but for the commands that burn, the fuses
(R403, log 1, 171). One lemma for each function of the model that gives a state, in the model's order: each follows from
those of the functions that it calls. -/

namespace Sys2Proof.Machine

/-- What a step keeps but for a burn: the waiting commands and the fuse words. -/
def State.kept (s : State) : List Instr × FMap (BitVec 32) := (s.pending, s.fuses.otp)

/-- The outcome, where it is a state, has the queue and the fuses of `s`. -/
def KeptBy (s : State) (o : Host.Outcome State Fault Refusal) : Prop := ∀ t, o = .next t → t.kept = s.kept

/-- The state, where there is one, has the queue and the fuses of `s`. -/
def KeptIn (s : State) (o : Option State) : Prop := ∀ t, o = some t → t.kept = s.kept

/-! ### The rules: an update of other fields, a branch, a fold -/

theorem kept_mk (a0 a1 a2 a3 a4 a5 a6 a7 a8 a9 a10 a11 a12 a13 a14 a15 a16 a17 a18 a19
    a20 a21 a22 a23 a24 a25 a26 a27 a28 a29 a30 a31 a32 a33 a34 a35 a36 a37 a38 a39
    a40 a41 a42 a43 a44 a45 a46 a47 a48 a49 a50 a51 a52) :
    State.kept (State.mk a0 a1 a2 a3 a4 a5 a6 a7 a8 a9 a10 a11 a12 a13 a14 a15 a16 a17 a18 a19
      a20 a21 a22 a23 a24 a25 a26 a27 a28 a29 a30 a31 a32 a33 a34 a35 a36 a37 a38 a39
      a40 a41 a42 a43 a44 a45 a46 a47 a48 a49 a50 a51 a52) =
      (a52, a6.otp) := by rw [State.kept]

theorem mk_kept (s : State) : (s.pending, s.fuses.otp) = s.kept := by rw [State.kept]

theorem kept_ite (c : Prop) [Decidable c] (a b : State) :
    (if c then a else b).kept = if c then a.kept else b.kept := apply_ite _ _ _ _

theorem kept_ite_of {c : Prop} [Decidable c] {a b : State} {k : List Instr × FMap (BitVec 32)} (ha : a.kept = k)
    (hb : b.kept = k) : (if c then a else b).kept = k := by rw [kept_ite, ha, hb, ite_self]

theorem kept_foldl {α : Type} (f : State → α → State) (l : List α) (s : State)
    (h : ∀ s a, (f s a).kept = s.kept) : (l.foldl f s).kept = s.kept := by
  induction l generalizing s with
  | nil => rfl
  | cons a l ih => exact (ih _).trans (h _ _)

theorem kept_foldl_fst {α β : Type} (f : State × β → α → State × β) (l : List α) (p : State × β)
    (h : ∀ p a, (f p a).1.kept = p.1.kept) : (l.foldl f p).1.kept = p.1.kept := by
  induction l generalizing p with
  | nil => rfl
  | cons a l ih => exact (ih _).trans (h _ _)

theorem keptBy_next (s t : State) : KeptBy s (.next t) ↔ t.kept = s.kept :=
  ⟨fun h => h t rfl, fun h u hu => by cases hu; exact h⟩

theorem keptBy_ite {s : State} (c : Prop) [Decidable c] {a b : Host.Outcome State Fault Refusal} (ha : KeptBy s a)
    (hb : KeptBy s b) : KeptBy s (if c then a else b) := by split <;> assumption

theorem keptIn_some (s t : State) : KeptIn s (some t) ↔ t.kept = s.kept :=
  ⟨fun h => h t rfl, fun h u hu => by cases hu; exact h⟩

theorem keptIn_none (s : State) : KeptIn s none := fun _ h => by cases h

theorem keptIn_ite (s : State) (c : Prop) [Decidable c] (a b : Option State) :
    KeptIn s (if c then a else b) = if c then KeptIn s a else KeptIn s b := apply_ite _ _ _ _

/-! ### Machine/Ops -/

theorem State.wr_kept (s : State) (f : Field) (v : Nat) : (s.wr f v).kept = s.kept := by
  simp only [State.wr, kept_mk, mk_kept]

theorem State.wrB_kept (s : State) (f : Field) (b : Bool) : (s.wrB f b).kept = s.kept := by
  simp only [State.wrB, State.wr_kept]

theorem State.wrs_kept (s : State) (a0 : List (Field × Nat)) : (s.wrs a0).kept = s.kept := by
  induction a0 generalizing s with
  | nil => rfl
  | cons p t ih => rw [State.wrs, ih, State.wr_kept]

theorem State.bump_kept (s : State) (f : Field) (n : Nat) : (s.bump f n).kept = s.kept := by
  simp only [State.bump, State.wr_kept]

theorem State.bumpWrap_kept (s : State) (f : Field) (n : Nat) : (s.bumpWrap f n).kept = s.kept := by
  simp only [State.bumpWrap, State.wr_kept]

theorem State.resetRange_kept (s : State) (lo hi : Nat) : (s.resetRange lo hi).kept = s.kept := by
  simp only [State.resetRange, kept_mk, mk_kept]

theorem State.setSpoke_kept (s : State) (n : Nat) (f : Spoke → Spoke) : (s.setSpoke n f).kept = s.kept := by
  simp only [State.setSpoke, kept_mk, mk_kept]

theorem State.setCell_kept (s : State) (c : Nat) (f : Cell → Cell) : (s.setCell c f).kept = s.kept := by
  simp only [State.setCell, kept_mk, mk_kept]

theorem State.setArm_kept (s : State) (a : Nat) (f : Arm → Arm) : (s.setArm a f).kept = s.kept := by
  simp only [State.setArm, kept_mk, mk_kept]

theorem State.setFlash_kept (s : State) (n : Nat) (f : Flash → Flash) : (s.setFlash n f).kept = s.kept := by
  simp only [State.setFlash, kept_mk, mk_kept]

theorem State.freeBit_kept (s : State) : s.freeBit.2.kept = s.kept := by
  simp only [State.freeBit, kept_mk, mk_kept]

theorem State.freeNat_kept (s : State) : s.freeNat.2.kept = s.kept := by
  simp only [State.freeNat, kept_mk, mk_kept]

theorem State.freeWord_kept (s : State) : s.freeWord.2.kept = s.kept := by
  simp only [State.freeWord, kept_mk, mk_kept]

theorem State.logPut_kept (s : State) (kind part block unit : Nat) (body : BitVec 128) :
    (s.logPut kind part block unit body).kept = s.kept := by
  simp only [State.logPut, State.wr_kept, kept_mk, mk_kept]

theorem State.raiseCore_kept (s : State) (f : Field) (detail : Nat) : (s.raiseCore f detail).kept = s.kept := by
  simp only [State.raiseCore, State.wr_kept, State.logPut_kept, kept_ite, ite_self, kept_mk, mk_kept]

theorem State.logAppend_kept (s : State) (kind part block unit : Nat) (body : BitVec 128) :
    (s.logAppend kind part block unit body).kept = s.kept := by
  simp only [State.logAppend, State.logPut_kept, State.raiseCore_kept, kept_ite, ite_self]

theorem State.raise_kept (s : State) (f : Field) (detail : Nat) : (s.raise f detail).kept = s.kept := by
  simp only [State.raise, State.raiseCore_kept, kept_ite, ite_self]

theorem State.raiseIf_kept (s : State) (b : Bool) (f : Field) (detail : Nat) :
    (s.raiseIf b f detail).kept = s.kept := by
  simp only [State.raiseIf, State.raise_kept, kept_ite, ite_self]

theorem State.accessFault_kept (s : State) (u : Core) (a : Nat) : (s.accessFault u a).kept = s.kept := by
  simp only [State.accessFault, kept_mk, mk_kept]

theorem State.asWriter_kept (s : State) (u : Core) (block : Nat) (k : State → State) (hk : ∀ s, (k s).kept = s.kept) :
    (s.asWriter u block k).kept = s.kept := by
  simp only [State.asWriter, State.accessFault_kept, hk, kept_ite, ite_self]

theorem State.wrBit_kept (s : State) (f : Field) (i : Nat) (b : Bool) : (s.wrBit f i b).kept = s.kept := by
  simp only [State.wrBit, State.wr_kept]

theorem State.wantYield_kept (s : State) (cmd dual : Bool) : (s.wantYield cmd dual).kept = s.kept := by
  simp only [State.wantYield, kept_mk, mk_kept]

theorem State.raiseYield_kept (s : State) (bit : Nat) : (s.raiseYield bit).kept = s.kept := by
  simp only [State.raiseYield, State.raise_kept, State.wrBit_kept, State.wantYield_kept, kept_ite, ite_self]

theorem State.clearYield_kept (s : State) (bit : Nat) : (s.clearYield bit).kept = s.kept := by
  simp only [State.clearYield, State.wrBit_kept]

/-! ### Machine/Fuses -/

theorem State.showSticky_kept (s : State) : s.showSticky.kept = s.kept := by
  simp only [State.showSticky, State.wr_kept]

theorem State.addSticky_kept (s : State) (w : Nat) (r : BitVec 32) (rs : List (BitVec 32)) :
    (s.addSticky w r rs).kept = s.kept := by
  simp only [State.addSticky, State.wr_kept, State.wrBit_kept, State.showSticky_kept, kept_mk, mk_kept]

theorem State.readFuse_kept (s : State) (w : Nat) (r l h : BitVec 32) : (s.readFuse w r l h).kept = s.kept := by
  simp only [State.readFuse, State.wr_kept, State.addSticky_kept, kept_ite, ite_self, kept_mk, mk_kept]

theorem State.readFuses_kept (s : State) (reads : List FuseRead) : (s.readFuses reads).kept = s.kept := by
  unfold State.readFuses
  rw [kept_foldl]
  · simp only [State.showSticky_kept, kept_mk, mk_kept]
  · intro s w
    split <;> exact State.readFuse_kept _ _ _ _ _

theorem State.showLifecycle_kept (s : State) : s.showLifecycle.kept = s.kept := by
  simp only [State.showLifecycle, State.wr_kept, State.wrs_kept]

/-! ### Machine/Firmware -/

theorem State.saveSettings_kept (s : State) : s.saveSettings.kept = s.kept := by
  simp only [State.saveSettings, State.setFlash_kept]

theorem State.readSettings_kept (s : State) (f : Flash) (fmt : BitVec 16) : (s.readSettings f fmt).kept = s.kept := by
  unfold State.readSettings
  split <;> simp only [State.wr_kept, kept_mk, mk_kept]

theorem State.confirm_kept (s : State) : s.confirm.kept = s.kept := by
  simp only [State.confirm, State.wrs_kept, State.setFlash_kept, kept_mk, mk_kept]

@[simp] theorem execFwConfirm_kept (u : Core) (s : State) : KeptBy s (execFwConfirm u s) := by
  simp only [execFwConfirm, State.asWriter_kept, State.confirm_kept, keptBy_next, implies_true, kept_ite, ite_self]

@[simp] theorem execFwAutoConfirm_kept (s : State) : KeptBy s (execFwAutoConfirm s) := by
  simp only [execFwAutoConfirm, State.confirm_kept, keptBy_next, kept_ite, ite_self]

@[simp] theorem execFwSave_kept (u : Core) (s : State) : KeptBy s (execFwSave u s) := by
  simp only [execFwSave, State.asWriter_kept, State.saveSettings_kept, keptBy_next, implies_true, kept_mk, mk_kept]

theorem State.endStaging_kept (s : State) : s.endStaging.kept = s.kept := by
  simp only [State.endStaging, kept_mk, mk_kept]

theorem State.clearStage_kept (s : State) : s.clearStage.kept = s.kept := by
  simp only [State.clearStage, State.wr_kept, State.setFlash_kept, State.endStaging_kept]

@[simp] theorem execFwClrStage_kept (u : Core) (s : State) : KeptBy s (execFwClrStage u s) := by
  simp only [execFwClrStage, State.asWriter_kept, State.clearStage_kept, keptBy_next, implies_true]

@[simp] theorem execStagingTimeout_kept (s : State) : KeptBy s (execStagingTimeout s) := by
  unfold execStagingTimeout
  split <;> simp only [State.endStaging_kept, keptBy_next, kept_ite, ite_self]

@[simp] theorem execMirrorCopyDone_kept (answered : Bool) (s : State) : KeptBy s (execMirrorCopyDone answered s) := by
  simp only [execMirrorCopyDone]
  (repeat' split) <;> simp only [State.setFlash_kept, State.raise_kept, keptBy_next, kept_mk, mk_kept]

/-! ### Machine/HostOps -/

theorem State.setFn_kept (s : State) (f : Nat) (k : HostFn → HostFn) : (s.setFn f k).kept = s.kept := by
  simp only [State.setFn, kept_mk, mk_kept]

theorem State.setVector_kept (s : State) (f v : Nat) (k : Vector' → Vector') : (s.setVector f v k).kept = s.kept := by
  simp only [State.setVector, State.setFn_kept]

theorem State.sendMsix_kept (s : State) (f v : Nat) : (s.sendMsix f v).kept = s.kept := by
  simp only [State.sendMsix, State.setVector_kept]

theorem State.signal_kept (s : State) (f v : Nat) : (s.signal f v).kept = s.kept := by
  simp only [State.signal, State.setVector_kept, State.sendMsix_kept, kept_ite, ite_self]

theorem State.putEvent_kept (s : State) (f : Nat) (e : EvtRec) : (s.putEvent f e).kept = s.kept := by
  simp only [State.putEvent, State.wr_kept, State.setFn_kept, State.signal_kept, kept_ite, ite_self, kept_mk, mk_kept]

theorem State.postEvent_kept (s : State) (f : Nat) (tag : BitVec 32) (b : EventBody) :
    (s.postEvent f tag b).kept = s.kept := by
  simp only [State.postEvent, State.wr_kept, State.bump_kept, State.setFn_kept, State.putEvent_kept, kept_ite,
      ite_self]

theorem State.postScoped_kept (s : State) (mask : BitVec 8) (b : EventBody) :
    (s.postScoped mask b).kept = s.kept := by
  simp only [State.postScoped, State.postEvent_kept, implies_true, kept_ite, ite_self, kept_foldl]

theorem State.postAll_kept (s : State) (b : EventBody) : (s.postAll b).kept = s.kept := by
  simp only [State.postAll, State.postEvent_kept, implies_true, kept_foldl]

theorem State.postCell_kept (s : State) (c kind : Nat) : (s.postCell c kind).kept = s.kept := by
  simp only [State.postCell, State.postEvent_kept, implies_true, kept_ite, ite_self, kept_foldl]

theorem State.drainEvents_kept (s : State) (f a0 : Nat) : (s.drainEvents f a0).kept = s.kept := by
  induction a0 generalizing s with
  | zero => rfl
  | succ n ih =>
    unfold State.drainEvents
    split
    · rfl
    · dsimp only
      split
      · simp only [ih, State.putEvent_kept, State.setFn_kept]
      · split <;> simp only [ih, State.putEvent_kept, State.setFn_kept]

theorem State.showSessions_kept (s : State) : s.showSessions.kept = s.kept := by
  simp only [State.showSessions, State.wr_kept]

theorem State.endSession_kept (s : State) (handle : BitVec 16) (reason : Nat) :
    (s.endSession handle reason).kept = s.kept := by
  unfold State.endSession
  split <;> simp only [State.postEvent_kept, State.showSessions_kept, kept_mk, mk_kept]

theorem State.endSessions_kept (s : State) (p : Session → Bool) (reason : Nat) :
    (s.endSessions p reason).kept = s.kept := by
  simp only [State.endSessions, State.endSession_kept, implies_true, kept_foldl]

theorem State.endAllSessions_kept (s : State) (reason : Nat) : (s.endAllSessions reason).kept = s.kept := by
  simp only [State.endAllSessions, State.endSessions_kept]

theorem State.readingEnds_kept (s : State) (st : Stream) : (s.readingEnds st).kept = s.kept := by
  simp only [State.readingEnds, State.wrBit_kept, kept_ite, ite_self]

theorem State.endStream_kept (s : State) (f stream reason : Nat) : (s.endStream f stream reason).kept = s.kept := by
  unfold State.endStream
  split <;> simp only [State.setFn_kept, State.postEvent_kept, State.readingEnds_kept]

theorem State.endStreams_kept (s : State) (f : Nat) : (s.endStreams f).kept = s.kept := by
  simp only [State.endStreams, State.endStream_kept, implies_true, kept_foldl]

theorem State.showFn_kept (s : State) (f : Nat) : (s.showFn f).kept = s.kept := by
  simp only [State.showFn, State.wr_kept, State.wrB_kept]

theorem State.putCompletion_kept (s : State) (f : Nat) (x : InFlight) (st : Status) (result : BitVec 64) (volley
    detail : BitVec 32) :
    (s.putCompletion f x st result volley detail).kept = s.kept := by
  simp only [State.putCompletion, State.wr_kept, State.setFn_kept, State.signal_kept, kept_ite, ite_self, kept_mk,
      mk_kept]

theorem State.finishClose_kept (s : State) (f : Nat) : (s.finishClose f).kept = s.kept := by
  simp only [State.finishClose, State.wrs_kept, State.setFn_kept, State.endSessions_kept, State.endStreams_kept,
      State.showFn_kept]

theorem State.complete_kept (s : State) (f : Nat) (x : InFlight) (st : Status) (result : BitVec 64) (volley detail :
    BitVec 32) :
    (s.complete f x st result volley detail).kept = s.kept := by
  simp only [State.complete, State.bump_kept, State.setFn_kept, State.showFn_kept, State.putCompletion_kept,
      State.finishClose_kept, kept_ite, ite_self]

theorem State.done_kept (s : State) (f : Nat) (x : InFlight) (st : Status) (result detail : Nat) :
    (s.done f x st result detail).kept = s.kept := by
  simp only [State.done, State.complete_kept]

theorem State.setInFlight_kept (s : State) (f serial : Nat) (k : InFlight → InFlight) :
    (s.setInFlight f serial k).kept = s.kept := by
  simp only [State.setInFlight, State.setFn_kept]

theorem State.setProgress_kept (s : State) (f serial : Nat) (p : Progress) :
    (s.setProgress f serial p).kept = s.kept := by
  simp only [State.setProgress, State.setInFlight_kept]

theorem State.putSetpoint_kept (s : State) (f serial c q : Nat) (v : BitVec 40) :
    (s.putSetpoint f serial c q v).kept = s.kept := by
  simp only [State.putSetpoint, State.setInFlight_kept, kept_mk, mk_kept]

theorem State.dma_kept (s : State) (f : Nat) (addr : BitVec 64) (size : Nat) (words : List (BitVec 64)) :
    (s.dma f addr size words).kept = s.kept := by
  simp only [State.dma, kept_mk, mk_kept]

theorem State.fnError_kept (s : State) (f cause : Nat) : (s.fnError f cause).kept = s.kept := by
  simp only [State.fnError, State.wrs_kept, State.signal_kept]

theorem State.dbErr_kept (s : State) (f : Nat) : (s.dbErr f).kept = s.kept := by
  simp only [State.dbErr, State.wr_kept, State.signal_kept]

theorem State.holdTags_kept (s : State) (f n : Nat) : (s.holdTags f n).kept = s.kept := by
  simp only [State.holdTags, State.wrs_kept]

theorem State.resetFn_kept (s : State) (f : Nat) : (s.resetFn f).kept = s.kept := by
  simp only [State.resetFn, State.wr_kept, State.holdTags_kept, State.bump_kept, State.setFn_kept,
      State.resetRange_kept]
  rw [kept_foldl]
  · split <;> simp only [kept_ite, kept_mk, mk_kept, ite_self, State.endSessions_kept]
  · intro s p
    split
    · exact State.readingEnds_kept _ _
    · rfl

/-! ### Machine/Spokes -/

theorem State.noteNofit_kept (s u : State) (t : Timeline) : (s.noteNofit u t).kept = s.kept := by
  simp only [State.noteNofit, State.raiseIf_kept]

theorem State.refuseFit_kept (s u : State) (t : Timeline) : (s.refuseFit u t).kept = s.kept := by
  simp only [State.refuseFit, State.raise_kept, State.raiseIf_kept]

theorem State.showFits_kept (s : State) : s.showFits.kept = s.kept := by
  simp only [State.showFits, State.wrs_kept]

theorem State.showSpoke_kept (s : State) (n : Nat) : (s.showSpoke n).kept = s.kept := by
  simp only [State.showSpoke, State.wrs_kept, State.setSpoke_kept]

theorem State.showCells_kept (s : State) : s.showCells.kept = s.kept := by
  simp only [State.showCells, State.wrs_kept]

theorem State.due_kept (s : State) (n : Nat) (i : ServeItem) : (s.due n i).kept = s.kept := by
  simp only [State.due, State.setSpoke_kept]

theorem State.dueReq_kept (s : State) (c op point : Nat) (wtag : BitVec 6) (value : BitVec 40) :
    (s.dueReq c op point wtag value).kept = s.kept := by
  simp only [State.dueReq, State.due_kept]

theorem State.dueBack_kept (s : State) (c point : Nat) : (s.dueBack c point).kept = s.kept := by
  simp only [State.dueBack, State.due_kept]

theorem State.startWrite_kept (s : State) (c : Nat) : (s.startWrite c).kept = s.kept := by
  simp only [State.startWrite, kept_ite]
  (repeat' split) <;> simp only [State.setCell_kept, State.dueReq_kept]

theorem State.writeFailed_kept (s : State) (c : Nat) (w : PostedWrite) (cause : Nat) :
    (s.writeFailed c w cause).kept = s.kept := by
  simp only [State.writeFailed, State.bump_kept, State.raise_kept, State.postEvent_kept, kept_ite, ite_self]

theorem State.dropReqs_kept (s : State) (c : Nat) : (s.dropReqs c).kept = s.kept := by
  simp only [State.dropReqs, State.setSpoke_kept]

theorem State.dropBacks_kept (s : State) (c : Nat) : (s.dropBacks c).kept = s.kept := by
  simp only [State.dropBacks, State.setSpoke_kept, State.setCell_kept]

theorem State.endWrite_kept (s : State) (c : Nat) : (s.endWrite c).kept = s.kept := by
  simp only [State.endWrite, State.setCell_kept, State.startWrite_kept, State.dropReqs_kept, State.dropBacks_kept]

theorem State.failWrites_kept (s : State) (c cause : Nat) : (s.failWrites c cause).kept = s.kept := by
  simp only [State.failWrites, State.setCell_kept, State.startWrite_kept, State.writeFailed_kept,
      State.dropReqs_kept, State.dropBacks_kept, implies_true, kept_foldl]

theorem State.adjustAtGc_kept (s : State) (c : Nat) : (s.adjustAtGc c).kept = s.kept := by
  simp only [State.adjustAtGc]
  (repeat' split) <;> simp only [State.due_kept]

theorem State.adjust_kept (s : State) (c : Nat) : (s.adjust c).kept = s.kept := by
  simp only [State.adjust, State.setCell_kept, State.due_kept, State.adjustAtGc_kept]

theorem State.retail_kept (s : State) (n : Nat) : (s.retail n).kept = s.kept := by
  unfold State.retail
  refine kept_foldl _ _ _ fun s p => ?_
  split <;> simp only [kept_ite, State.setCell_kept, State.adjust_kept, ite_self]

theorem State.showArm_kept (s : State) (a : Nat) : (s.showArm a).kept = s.kept := by
  simp only [State.showArm, State.setArm_kept]

theorem State.showBound_kept (s : State) (old new : Option (Nat × Nat)) : (s.showBound old new).kept = s.kept := by
  simp only [State.showBound]
  (repeat' split) <;> simp only [State.showArm_kept]

theorem State.bindCell_kept (s : State) (c : Nat) : (s.bindCell c).kept = s.kept := by
  simp only [State.bindCell, State.wr_kept, State.wrs_kept, State.setCell_kept, State.startWrite_kept,
      State.showBound_kept, kept_ite, ite_self]

theorem State.bindDone_kept (s : State) (c : Nat) (v : BitVec 40) : (s.bindDone c v).kept = s.kept := by
  simp only [State.bindDone, State.wr_kept, State.setCell_kept, State.showBound_kept]

theorem State.freeCell_kept (s : State) (c : Nat) : (s.freeCell c).kept = s.kept := by
  simp only [State.freeCell, State.wrs_kept, State.setSpoke_kept, State.setCell_kept, State.showSpoke_kept,
      State.showCells_kept, State.failWrites_kept, State.retail_kept, State.showBound_kept]

theorem State.manualStep_kept (s : State) (n : Nat) : (s.manualStep n).kept = s.kept := by
  simp only [State.manualStep, State.setSpoke_kept, kept_ite, ite_self]

theorem State.gearSet_kept (s : State) (n g : Nat) : (s.gearSet n g).kept = s.kept := by
  simp only [State.gearSet, State.wrs_kept, State.setSpoke_kept, State.manualStep_kept]

theorem State.bringUp_kept (s : State) (n : Nat) : (s.bringUp n).kept = s.kept := by
  simp only [State.bringUp, State.wr_kept, State.setSpoke_kept, State.showSpoke_kept, State.freeCell_kept,
      State.gearSet_kept, implies_true, kept_foldl]

theorem State.planGear_kept (s : State) (n g : Nat) : (s.planGear n g).kept = s.kept := by
  simp only [State.planGear, State.setSpoke_kept, State.adjustAtGc_kept, implies_true, kept_ite, ite_self, kept_foldl]

theorem State.tryStep_kept (s : State) (n : Nat) (auto : Bool) : (s.tryStep n auto).kept = s.kept := by
  simp only [State.tryStep, State.setSpoke_kept, State.raise_kept, State.noteNofit_kept, State.planGear_kept,
      kept_ite, ite_self]

@[simp] theorem execGearStepAuto_kept (spoke : Fin 128) (s : State) : KeptBy s (execGearStepAuto spoke s) := by
  simp only [execGearStepAuto, State.tryStep_kept, keptBy_next, kept_ite, ite_self]

theorem State.tryRestep_kept (s : State) (n : Nat) : (s.tryRestep n).kept = s.kept := by
  simp only [State.tryRestep, State.wr_kept, State.tryStep_kept, kept_ite, ite_self]

theorem State.restep_kept (s : State) (n : Nat) : (s.restep n).kept = s.kept := by
  simp only [State.restep, State.wr_kept, State.tryRestep_kept]

@[simp] theorem execSpkRestep_kept (u : Core) (spoke : Fin 128) (s : State) : KeptBy s (execSpkRestep u spoke s) := by
  simp only [execSpkRestep, State.asWriter_kept, State.restep_kept, keptBy_next, implies_true]

@[simp] theorem execSpkClrCap_kept (u : Core) (spoke : Fin 128) (s : State) : KeptBy s (execSpkClrCap u spoke s) := by
  simp only [execSpkClrCap, State.wr_kept, State.asWriter_kept, keptBy_next, implies_true]

theorem State.spkCntClear_kept (s : State) (n : Nat) : (s.spkCntClear n).kept = s.kept := by
  simp only [State.spkCntClear, State.wrs_kept]

@[simp] theorem execSpkCntClr_kept (u : Core) (spoke : Fin 128) (s : State) : KeptBy s (execSpkCntClr u spoke s) := by
  simp only [execSpkCntClr, State.asWriter_kept, State.spkCntClear_kept, keptBy_next, implies_true]

@[simp] theorem execGearChangeVolley_kept (spoke : Fin 128) (s : State) :
    KeptBy s (execGearChangeVolley spoke s) := by
  simp only [execGearChangeVolley]
  (repeat' split) <;> simp only [State.wr_kept, State.setSpoke_kept, State.setCell_kept, State.raise_kept,
      State.gearSet_kept, keptBy_next, implies_true, kept_ite, ite_self, kept_foldl]

@[simp] theorem execGearTrialEnd_kept (spoke : Fin 128) (s : State) : KeptBy s (execGearTrialEnd spoke s) := by
  simp only [execGearTrialEnd]
  (repeat' split) <;> simp only [State.wr_kept, State.raise_kept, State.planGear_kept, keptBy_next]

@[simp] theorem execCtleSweep_kept (spoke : Fin 128) (eyes : List (BitVec 8 × BitVec 8)) (s : State) :
    KeptBy s (execCtleSweep spoke eyes s) := by
  simp only [execCtleSweep]
  (repeat' split) <;> simp only [State.wrs_kept, State.setSpoke_kept, State.raiseIf_kept, keptBy_next]

theorem State.enableSpoke_kept (s : State) (n : Nat) : (s.enableSpoke n).kept = s.kept := by
  simp only [State.enableSpoke, State.wr_kept, State.bringUp_kept, kept_ite, ite_self]

@[simp] theorem execSpokeEnable_kept (u : Core) (spoke : Fin 128) (s : State) :
    KeptBy s (execSpokeEnable u spoke s) := by
  simp only [execSpokeEnable, State.asWriter_kept, State.enableSpoke_kept, keptBy_next, implies_true]

theorem State.disableSpoke_kept (s : State) (n : Nat) : (s.disableSpoke n).kept = s.kept := by
  simp only [State.disableSpoke, State.wr_kept, State.setSpoke_kept, State.showSpoke_kept, State.freeCell_kept,
      implies_true, kept_foldl]

@[simp] theorem execSpokeDisable_kept (u : Core) (spoke : Fin 128) (s : State) :
    KeptBy s (execSpokeDisable u spoke s) := by
  simp only [execSpokeDisable, State.asWriter_kept, State.disableSpoke_kept, keptBy_next, implies_true]

@[simp] theorem execSpokeProbeStart_kept (spoke : Fin 128) (s : State) : KeptBy s (execSpokeProbeStart spoke s) := by
  simp only [execSpokeProbeStart, State.wr_kept, State.setSpoke_kept, State.showSpoke_kept, State.gearSet_kept,
      keptBy_next, kept_ite, ite_self]

@[simp] theorem execSpokeProbeEnd_kept (spoke : Fin 128) (s : State) : KeptBy s (execSpokeProbeEnd spoke s) := by
  simp only [execSpokeProbeEnd, State.setSpoke_kept, State.showSpoke_kept, keptBy_next, kept_ite, ite_self]

@[simp] theorem execDiscoveryEnd_kept (spoke : Fin 128) (s : State) : KeptBy s (execDiscoveryEnd spoke s) := by
  simp only [execDiscoveryEnd]
  (repeat' split) <;> simp only [State.setSpoke_kept, State.raiseIf_kept, State.showSpoke_kept, keptBy_next]

theorem State.hostFence_kept (s : State) (n : Nat) (on : Bool) : (s.hostFence n on).kept = s.kept := by
  simp only [State.hostFence, State.wrB_kept]

@[simp] theorem execHostFence_kept (u : Core) (spoke : Fin 128) (fence : Bool) (s : State) :
    KeptBy s (execHostFence u spoke fence s) := by
  simp only [execHostFence, State.asWriter_kept, State.hostFence_kept, keptBy_next, implies_true]

theorem State.fenceSpoke_kept (s : State) (n code : Nat) : (s.fenceSpoke n code).kept = s.kept := by
  simp only [State.fenceSpoke, State.setSpoke_kept, kept_ite, ite_self]

theorem State.logFence_kept (s : State) (block unit code : Nat) (fence : Bool) :
    (s.logFence block unit code fence).kept = s.kept := by
  simp only [State.logFence, State.logAppend_kept]

theorem State.applyFence_kept (s : State) (n : Nat) : (s.applyFence n).kept = s.kept := by
  simp only [State.applyFence, State.wrs_kept, State.setSpoke_kept, State.wrBit_kept, State.showSpoke_kept,
      State.failWrites_kept, State.bringUp_kept, implies_true, kept_ite, ite_self, kept_foldl]
  (repeat' split) <;> simp only [State.wr_kept, State.raise_kept, State.logFence_kept]

theorem State.laneTest_kept (s : State) (n mode : Nat) (light : Bool) : (s.laneTest n mode light).kept = s.kept := by
  simp only [State.laneTest, State.wrs_kept, State.raise_kept, State.showSpoke_kept, kept_ite, ite_self]

@[simp] theorem execLaneTestSelect_kept (u : Core) (spoke : Fin 128) (mode : BitVec 3) (light : Bool) (s : State) :
    KeptBy s (execLaneTestSelect u spoke mode light s) := by
  simp only [execLaneTestSelect, State.asWriter_kept, State.laneTest_kept, keptBy_next, implies_true]

@[simp] theorem execPrbsLock_kept (spoke : Fin 128) (locked : Bool) (errors : Nat) (s : State) :
    KeptBy s (execPrbsLock spoke locked errors s) := by
  simp only [execPrbsLock, State.wrB_kept, State.bump_kept, keptBy_next, kept_ite, ite_self]

@[simp] theorem execTransceiverPoll_kept (spoke : Fin 128) (reading : Option XcvrReading) (s : State) :
    KeptBy s (execTransceiverPoll spoke reading s) := by
  simp only [execTransceiverPoll]
  (repeat' split) <;> simp only [State.wr_kept, State.wrs_kept, State.setSpoke_kept, State.raise_kept,
      State.raiseIf_kept, State.fenceSpoke_kept, keptBy_next]

theorem State.spokeLoss_kept (s : State) : s.spokeLoss.kept = s.kept := by
  simp only [State.spokeLoss, State.raiseYield_kept, State.clearYield_kept, kept_ite, ite_self]

@[simp] theorem execSpokeLos_kept (spoke : Fin 128) (s : State) : KeptBy s (execSpokeLos spoke s) := by
  simp only [execSpokeLos, State.setSpoke_kept, State.raise_kept, State.spokeLoss_kept, keptBy_next, kept_ite,
      ite_self]

/-! ### Machine/RecOps -/

theorem State.setRec_kept (s : State) (d : Nat) (f : RecDef → RecDef) : (s.setRec d f).kept = s.kept := by
  simp only [State.setRec, kept_mk, mk_kept]

theorem State.recFill_kept (s : State) (d : Nat) : (s.recFill d).kept = s.kept := by
  unfold State.recFill
  split <;> simp only [State.wr_kept, State.wrs_kept, State.raise_kept, State.setRec_kept, kept_mk, mk_kept]

theorem State.recFree_kept (s : State) (d k : Nat) : (s.recFree d k).kept = s.kept := by
  simp only [State.recFree, State.wrBit_kept, State.recFill_kept, kept_ite, ite_self, kept_mk, mk_kept]

theorem State.recPut_kept (s : State) (d : Nat) (ts : BitVec 32) (kind index aux : Nat) (data : BitVec 64) :
    (s.recPut d ts kind index aux data).kept = s.kept := by
  simp only [State.recPut, State.wr_kept, State.bump_kept, State.setRec_kept, kept_ite, ite_self]

theorem State.recAll_kept (s : State) (bit : Nat) (sel : Nat → Bool) (ts : BitVec 32) (kind index aux : Nat) (data :
    BitVec 64) :
    (s.recAll bit sel ts kind index aux data).kept = s.kept := by
  simp only [State.recAll, State.recPut_kept, implies_true, kept_ite, ite_self, kept_foldl]

theorem State.recFire_kept (s : State) (source aux : Nat) (sel : Nat → Bool) :
    (s.recFire source aux sel).kept = s.kept := by
  simp only [State.recFire, State.setRec_kept, implies_true, kept_ite, ite_self, kept_foldl]

theorem State.recBlock_kept (s : State) (mask : BitVec 8) : (s.recBlock mask).kept = s.kept := by
  simp only [State.recBlock, State.recFire_kept]

theorem State.recTrip_kept (s : State) (k : Nat) : (s.recTrip k).kept = s.kept := by
  simp only [State.recTrip, State.recFire_kept]

/-! ### Machine/AdcOps -/

theorem State.setChan_kept (s : State) (k : Nat) (f : AdcChan → AdcChan) : (s.setChan k f).kept = s.kept := by
  simp only [State.setChan, kept_mk, mk_kept]

theorem State.setSlice_kept (s : State) (g j : Nat) (f : AdcSlice → AdcSlice) : (s.setSlice g j f).kept = s.kept := by
  simp only [State.setSlice, kept_mk, mk_kept]

theorem State.showGroup_kept (s : State) (g : Nat) : (s.showGroup g).kept = s.kept := by
  simp only [State.showGroup, State.wrs_kept]

theorem State.dropSwap_kept (s : State) (g j : Nat) : (s.dropSwap g j).kept = s.kept := by
  simp only [State.dropSwap, State.setChan_kept, implies_true, kept_ite, ite_self, kept_foldl]

theorem State.adcNext_kept (s : State) (k ts : Nat) : (s.adcNext k ts).kept = s.kept := by
  simp only [State.adcNext, State.setChan_kept, kept_ite, ite_self]

theorem State.adcCatchUp_kept (s : State) (k : Nat) : (s.adcCatchUp k).kept = s.kept := by
  simp only [State.adcCatchUp, State.adcNext_kept, implies_true, kept_ite, ite_self, kept_foldl]

theorem State.urgDrop_kept (s : State) (k : Nat) : (s.urgDrop k).kept = s.kept := by
  simp only [State.urgDrop, State.bump_kept, State.raise_kept]

theorem State.adcTrigger_kept (s : State) (k : Nat) : (s.adcTrigger k).kept = s.kept := by
  simp only [State.adcTrigger, State.bump_kept, State.raise_kept, State.setChan_kept, State.adcNext_kept,
      State.adcCatchUp_kept, State.urgDrop_kept, kept_ite, ite_self]

theorem State.adcUrgent_kept (s : State) (k : Nat) : (s.adcUrgent k).kept = s.kept := by
  simp only [State.adcUrgent, State.setChan_kept, State.adcCatchUp_kept, State.urgDrop_kept, kept_ite, ite_self]

theorem State.adcSwap_kept (s : State) (k now : Nat) : (s.adcSwap k now).kept = s.kept := by
  simp only [State.adcSwap]
  (repeat' split) <;> simp only [State.wr_kept, State.setChan_kept]

theorem State.adcSwaps_kept (s : State) : s.adcSwaps.kept = s.kept := by
  simp only [State.adcSwaps, State.adcSwap_kept, implies_true, kept_foldl]

theorem State.adcBlocked_kept (s : State) (mask : BitVec 8) : (s.adcBlocked mask).kept = s.kept := by
  simp only [State.adcBlocked, State.adcUrgent_kept, implies_true, kept_ite, ite_self, kept_foldl]

theorem State.sysCalFail_kept (s : State) : s.sysCalFail.kept = s.kept := by
  simp only [State.sysCalFail, State.wr_kept, State.raise_kept, kept_mk, mk_kept]

theorem State.sysCalReleased_kept (s : State) (rel : BitVec 8) : (s.sysCalReleased rel).kept = s.kept := by
  unfold State.sysCalReleased
  split <;> simp only [State.sysCalFail_kept, kept_ite, ite_self]

/-! ### Machine/EventQueue -/

theorem State.setQueue_kept (s : State) (q : Nat) (f : EventQ → EventQ) : (s.setQueue q f).kept = s.kept := by
  simp only [State.setQueue, kept_mk, mk_kept]

theorem State.showQueue_kept (s : State) (q : Nat) : (s.showQueue q).kept = s.kept := by
  simp only [State.showQueue, State.wrs_kept]

theorem State.logItem_kept (s : State) (q : Nat) (ws : List (BitVec 32)) : (s.logItem q ws).kept = s.kept := by
  simp only [State.logItem, State.logAppend_kept, implies_true, kept_foldl]

theorem State.itemWhole_kept (s : State) (q : Nat) (ws : List (BitVec 32)) : (s.itemWhole q ws).kept = s.kept := by
  simp only [State.itemWhole, State.bump_kept, State.postScoped_kept, State.setQueue_kept, State.logItem_kept,
      kept_ite, ite_self]

theorem State.eqWord_kept (s : State) (q : Nat) (w : BitVec 32) : (s.eqWord q w).kept = s.kept := by
  simp only [State.eqWord, State.bump_kept, State.raise_kept, State.setQueue_kept, State.itemWhole_kept, kept_ite,
      ite_self]

theorem State.eqWords_kept (s : State) (q : Nat) (ws : List (BitVec 32)) : (s.eqWords q ws).kept = s.kept := by
  simp only [State.eqWords, State.showQueue_kept, State.eqWord_kept, implies_true, kept_foldl]

theorem State.eqStaged_kept (s : State) (e : Nat) (ws : List (BitVec 32)) : (s.eqStaged e ws).kept = s.kept := by
  simp only [State.eqStaged, State.bump_kept, State.eqWords_kept, kept_ite, ite_self]

@[simp] theorem execEvqW_kept (u : Core) (word : Reg32) (s : State) : KeptBy s (execEvqW u word s) := by
  unfold execEvqW
  split <;> simp only [State.eqWords_kept, keptBy_next]

theorem State.eqPop_kept (s : State) (k : Nat) : (s.eqPop k).kept = s.kept := by
  simp only [State.eqPop, State.wrs_kept, kept_ite]
  (repeat' split) <;> simp only [State.wr_kept, State.wrs_kept, State.setQueue_kept, State.showQueue_kept,
      implies_true, kept_foldl]

@[simp] theorem execIrqEqPop_kept (q : Fin 60) (s : State) : KeptBy s (execIrqEqPop q s) := by
  simp only [execIrqEqPop, State.eqPop_kept, keptBy_next]

theorem State.eqFlush_kept (s : State) (q : Nat) : (s.eqFlush q).kept = s.kept := by
  simp only [State.eqFlush, State.setQueue_kept, State.showQueue_kept]

@[simp] theorem execEqFlush_kept (u : Core) (q : Fin 60) (s : State) : KeptBy s (execEqFlush u q s) := by
  simp only [execEqFlush, State.asWriter_kept, State.eqFlush_kept, keptBy_next, implies_true]

theorem State.eqCntClear_kept (s : State) (q : Nat) : (s.eqCntClear q).kept = s.kept := by
  simp only [State.eqCntClear, State.wrs_kept]

@[simp] theorem execEqCntClr_kept (u : Core) (q : Fin 60) (s : State) : KeptBy s (execEqCntClr u q s) := by
  simp only [execEqCntClr, State.asWriter_kept, State.eqCntClear_kept, keptBy_next, implies_true]

/-! ### Machine/EngineOps -/

theorem State.setEng_kept (s : State) (e : Nat) (f : Engine → Engine) : (s.setEng e f).kept = s.kept := by
  simp only [State.setEng, kept_mk, mk_kept]

theorem State.setEngState_kept (s : State) (e st : Nat) : (s.setEngState e st).kept = s.kept := by
  simp only [State.setEngState, State.wr_kept, State.setEng_kept, kept_ite, ite_self]

theorem State.showEngine_kept (s : State) (e : Nat) : (s.showEngine e).kept = s.kept := by
  simp only [State.showEngine, State.wrs_kept]

theorem State.putMem_kept (s : State) (e a : Nat) (v : W40) : (s.putMem e a v).kept = s.kept := by
  simp only [State.putMem]
  (repeat' split) <;> simp only [State.setEng_kept]

theorem State.putMems_kept (s : State) (e a : Nat) (a0 : List W40) : (s.putMems e a a0).kept = s.kept := by
  induction a0 generalizing s a with
  | nil => rfl
  | cons v t ih => rw [State.putMems, ih, State.putMem_kept]

theorem State.fillMem_kept (s : State) (e a : Nat) (v : W40) (a0 : Nat) : (s.fillMem e a v a0).kept = s.kept := by
  induction a0 generalizing s a with
  | zero => rfl
  | succ n ih => rw [State.fillMem, ih, State.putMem_kept]

theorem State.overrun_kept (s : State) (e : Nat) : (s.overrun e).kept = s.kept := by
  simp only [State.overrun, State.wrs_kept, State.bump_kept, State.raise_kept, State.raiseYield_kept,
      State.setEng_kept, kept_ite, ite_self]

theorem State.waitedEntry_kept (s : State) (e : Nat) : (s.waitedEntry e).kept = s.kept := by
  simp only [State.waitedEntry, State.setEng_kept, kept_ite, ite_self]

theorem State.idleEnd_kept (s : State) (e : Nat) : (s.idleEnd e).kept = s.kept := by
  simp only [State.idleEnd, State.eqStaged_kept, State.setEng_kept, State.showEngine_kept, State.waitedEntry_kept,
      kept_ite, ite_self]

theorem State.stopEngine_kept (s : State) (e : Nat) : (s.stopEngine e).kept = s.kept := by
  simp only [State.stopEngine, State.setEng_kept, State.showEngine_kept, State.overrun_kept, State.idleEnd_kept,
      kept_ite, ite_self]

theorem State.illegal_kept (s : State) (e : Nat) : (s.illegal e).kept = s.kept := by
  simp only [State.illegal, State.raise_kept, State.setEng_kept, State.stopEngine_kept]

theorem State.accFault_kept (s : State) (e u : Nat) : (s.accFault e u).kept = s.kept := by
  simp only [State.accFault, State.raise_kept, State.setEng_kept, State.stopEngine_kept]

theorem State.instr_kept (s : State) (e : Nat) (legal : Bool) (units : Nat) (k : Engine → Engine) :
    (s.instr e legal units k).kept = s.kept := by
  simp only [State.instr, State.setEng_kept, State.illegal_kept, kept_ite, ite_self]

theorem State.jump_kept (s : State) (e : Nat) (target : Int) (k : Engine → Engine) :
    (s.jump e target k).kept = s.kept := by
  simp only [State.jump, State.setEng_kept, State.accFault_kept, kept_ite, ite_self]

theorem State.scan_kept (s : State) (e : Nat) (p : LongOp) (a0 : Nat) : (s.scan e p a0).1.kept = s.kept := by
  induction a0 generalizing s p with
  | zero => rfl
  | succ n ih =>
    unfold State.scan
    split <;> simp only [ih, State.putMem_kept]

theorem State.longInstr_kept (s : State) (e : Nat) (k : VKind) (rd rs1 rs2 rk rp : BitVec 4) (j : BitVec 2) (stop :
    Option Nat) :
    (s.longInstr e k rd rs1 rs2 rk rp j stop).kept = s.kept := by
  refine kept_ite_of rfl (kept_ite_of (State.illegal_kept _ _) ?_)
  extract_lets g cont s1 started s2 entering
  have h1 : s1.kept = s.kept := kept_ite_of (by rw [State.raise_kept, State.setEng_kept]) rfl
  have h2 : s2.kept = s.kept := (kept_ite_of (State.fillMem_kept _ _ _ _ _) rfl).trans h1
  clear_value s1 started
  cases started with
  | none => simp only [State.showEngine_kept, State.setEng_kept, h1]
  | some p =>
    refine kept_ite_of ((State.accFault_kept _ _ _).trans h1) ?_
    extract_lets total cut
    clear_value s2 cut
    cases cut <;> simp only [State.showEngine_kept, State.setEng_kept, State.scan_kept, h2]

theorem State.handlerEntry_kept (s : State) (e : Nat) : (s.handlerEntry e).kept = s.kept := by
  simp only [State.handlerEntry]
  (repeat' split) <;> simp only [State.raise_kept, State.setEng_kept, State.showEngine_kept]

theorem State.c0Event_kept (s : State) (m : BitVec 8) (reason : Nat) : (s.c0Event m reason).kept = s.kept := by
  simp only [State.c0Event, State.setEng_kept, implies_true, kept_ite, ite_self, kept_foldl]

theorem State.endHandler_kept (s : State) (e : Nat) (k : Engine → Engine) : (s.endHandler e k).kept = s.kept := by
  simp only [State.endHandler, State.setEng_kept, State.showEngine_kept, State.idleEnd_kept, kept_ite, ite_self]

theorem State.putCsr_kept (s : State) (e n : Nat) (v : W40) : (s.putCsr e n v).kept = s.kept := by
  simp only [State.putCsr, State.bump_kept, State.raise_kept, State.setEng_kept, kept_ite, ite_self]

/-! ### Machine/PulseOps -/

theorem State.setLp_kept (s : State) (n : Nat) (f : LpChan → LpChan) : (s.setLp n f).kept = s.kept := by
  simp only [State.setLp, kept_mk, mk_kept]

theorem State.lpShow_kept (s : State) (outs : List Bool) (n : Nat) : (s.lpShow outs n).kept = s.kept := by
  simp only [State.lpShow, State.wrs_kept, State.setLp_kept]

theorem State.lpPulses_kept (s : State) (outs : List Bool) : (s.lpPulses outs).kept = s.kept := by
  simp only [State.lpPulses, kept_mk, mk_kept]

theorem State.lpUpdate_kept (s : State) : s.lpUpdate.kept = s.kept := by
  simp only [State.lpUpdate, State.wrB_kept, State.setLp_kept, State.lpShow_kept, State.lpPulses_kept, implies_true,
      kept_ite, ite_self, kept_foldl]

theorem State.lpTake_kept (s : State) (n : Nat) : (s.lpTake n).kept = s.kept := by
  simp only [State.lpTake, State.wr_kept, State.setLp_kept]

theorem State.lpTakePend_kept (s : State) (n : Nat) : (s.lpTakePend n).kept = s.kept := by
  simp only [State.lpTakePend, State.lpTake_kept, kept_ite, ite_self]

/-! ### Machine/Protection -/

theorem State.sendBlock_kept (s : State) (n : Nat) (mask : BitVec 8) (reason : Nat) :
    (s.sendBlock n mask reason).kept = s.kept := by
  simp only [State.sendBlock]
  (repeat' split) <;> simp only [State.setSpoke_kept]

theorem State.sendBlocks_kept (s : State) (mask : BitVec 8) (reason : Nat) :
    (s.sendBlocks mask reason).kept = s.kept := by
  simp only [State.sendBlocks, State.sendBlock_kept, implies_true, kept_ite, ite_self, kept_foldl]

theorem State.recordSources_kept (s : State) (src : List Source) (new : Bool) (c : Nat) :
    (s.recordSources src new c).kept = s.kept := by
  simp only [State.recordSources, kept_ite]
  (repeat' split) <;> simp only [State.wr_kept, State.wrs_kept]

theorem State.refuseReleases_kept (s : State) (m : BitVec 8) : (s.refuseReleases m).kept = s.kept := by
  simp only [State.refuseReleases, kept_ite, ite_self, kept_mk, mk_kept]

theorem State.c0Lower_kept (s : State) (m : BitVec 8) (reason : Nat) : (s.c0Lower m reason).kept = s.kept := by
  simp only [State.c0Lower, State.setEng_kept, implies_true, kept_ite, ite_self, kept_foldl]

theorem State.blockDecision_kept (s : State) (src : List Source) : (s.blockDecision src).kept = s.kept := by
  simp only [State.blockDecision, State.wr_kept, State.bump_kept, State.raise_kept, State.raiseIf_kept,
      State.postScoped_kept, State.recBlock_kept, State.adcBlocked_kept, State.c0Event_kept, State.lpUpdate_kept,
      State.sendBlocks_kept, State.recordSources_kept, State.refuseReleases_kept, State.c0Lower_kept, implies_true,
      kept_ite, ite_self, kept_mk, mk_kept, kept_foldl]

theorem State.evaluate_kept (s : State) : s.evaluate.kept = s.kept := by
  simp only [State.evaluate, State.blockDecision_kept, kept_ite, ite_self]

theorem State.examineReleases_kept (s : State) : s.examineReleases.kept = s.kept := by
  simp only [State.examineReleases, State.wr_kept, State.raiseIf_kept, State.refuseReleases_kept, kept_mk, mk_kept]

theorem State.applyReleases_kept (s : State) : s.applyReleases.kept = s.kept := by
  simp only [State.applyReleases, State.wrs_kept, State.postScoped_kept, State.sysCalReleased_kept,
      State.lpUpdate_kept, implies_true, kept_ite, ite_self, kept_mk, mk_kept, kept_foldl]

theorem State.faultTap_kept (s : State) (c : Nat) (fault : BitVec 5) : (s.faultTap c fault).kept = s.kept := by
  simp only [State.faultTap]
  (repeat' split) <;> simp only [State.blockDecision_kept, kept_mk, mk_kept]

theorem State.faultWindow_kept (s : State) : s.faultWindow.kept = s.kept := by
  simp only [State.faultWindow, kept_mk, mk_kept]

@[simp] theorem execBlockInActive_kept (pin : Fin 2) (s : State) : KeptBy s (execBlockInActive pin s) := by
  simp only [execBlockInActive, State.evaluate_kept, keptBy_next, kept_mk, mk_kept]

@[simp] theorem execBlockInInactive_kept (pin : Fin 2) (s : State) : KeptBy s (execBlockInInactive pin s) := by
  simp only [execBlockInInactive, keptBy_next, kept_mk, mk_kept]

@[simp] theorem execPairDisc_kept (s : State) : KeptBy s (execPairDisc s) := by
  simp only [execPairDisc, State.raiseIf_kept, keptBy_next]

@[simp] theorem execSidebandLoss_kept (die : Fin 2) (s : State) : KeptBy s (execSidebandLoss die s) := by
  simp only [execSidebandLoss, State.raise_kept, State.evaluate_kept, keptBy_next, kept_mk, mk_kept]

@[simp] theorem execSidebandRestore_kept (die : Fin 2) (s : State) : KeptBy s (execSidebandRestore die s) := by
  simp only [execSidebandRestore, keptBy_next, kept_mk, mk_kept]

theorem State.requestRelease_kept (s : State) (mask : BitVec 8) : (s.requestRelease mask).kept = s.kept := by
  simp only [State.requestRelease, State.wr_kept, State.raiseIf_kept, State.refuseReleases_kept]

@[simp] theorem execLpwBlkRel_kept (u : Core) (mask : BitVec 8) (s : State) : KeptBy s (execLpwBlkRel u mask s) := by
  simp only [execLpwBlkRel, State.asWriter_kept, State.requestRelease_kept, keptBy_next, implies_true]

@[simp] theorem execLpwLock_kept (u : Core) (s : State) : KeptBy s (execLpwLock u s) := by
  simp only [execLpwLock, State.wr_kept, State.asWriter_kept, keptBy_next, implies_true]

theorem State.lpCommit_kept (s : State) (n : Nat) : (s.lpCommit n).kept = s.kept := by
  simp only [State.lpCommit, State.wr_kept, State.lpUpdate_kept, State.lpTake_kept, kept_ite, ite_self]

@[simp] theorem execLpCommit_kept (u : Core) (channel : Fin 16) (s : State) :
    KeptBy s (execLpCommit u channel s) := by
  simp only [execLpCommit, State.asWriter_kept, State.lpCommit_kept, keptBy_next, implies_true]

theorem State.lpFire_kept (s : State) (n : Nat) : (s.lpFire n).kept = s.kept := by
  simp only [State.lpFire, State.wr_kept, State.raise_kept, State.setLp_kept, State.lpUpdate_kept, kept_ite, ite_self]

@[simp] theorem execLpFire_kept (u : Core) (channel : Fin 16) (s : State) : KeptBy s (execLpFire u channel s) := by
  simp only [execLpFire, State.asWriter_kept, State.lpFire_kept, keptBy_next, implies_true]

@[simp] theorem execLpPeriodWrap_kept (channel : Fin 16) (s : State) : KeptBy s (execLpPeriodWrap channel s) := by
  simp only [execLpPeriodWrap, State.wr_kept, State.lpUpdate_kept, State.lpTakePend_kept, keptBy_next, kept_ite,
      ite_self]

@[simp] theorem execLpCmpMatch_kept (channel : Fin 16) (s : State) : KeptBy s (execLpCmpMatch channel s) := by
  simp only [execLpCmpMatch, State.wr_kept, State.lpUpdate_kept, keptBy_next, kept_ite, ite_self]

@[simp] theorem execLpOneshotEnd_kept (channel : Fin 16) (s : State) : KeptBy s (execLpOneshotEnd channel s) := by
  simp only [execLpOneshotEnd, State.wr_kept, State.setLp_kept, State.lpUpdate_kept, State.lpTakePend_kept,
      keptBy_next, kept_ite, ite_self]

@[simp] theorem execLpDeadTimeEnd_kept (channel : Fin 16) (s : State) : KeptBy s (execLpDeadTimeEnd channel s) := by
  simp only [execLpDeadTimeEnd, State.setLp_kept, State.lpUpdate_kept, keptBy_next]

theorem State.lpConfigured_kept (s : State) (n : Nat) (was : Bool) : (s.lpConfigured n was).kept = s.kept := by
  simp only [State.lpConfigured, State.wr_kept, State.setLp_kept, State.lpUpdate_kept, State.lpTakePend_kept,
      kept_ite, ite_self]

theorem State.lpSync_kept (s : State) : s.lpSync.kept = s.kept := by
  simp only [State.lpSync, State.wr_kept, State.lpUpdate_kept, State.lpTakePend_kept, implies_true, kept_ite,
      ite_self, kept_foldl]

/-! ### Machine/Adc -/

theorem State.cmpTripped_kept (s : State) (k : Nat) (one : Bool) : (s.cmpTripped k one).kept = s.kept := by
  simp only [State.cmpTripped, State.raise_kept, State.wrBit_kept, State.recTrip_kept]

theorem State.deliver_kept (s : State) (k : Nat) (c : AdcConv) (nv : Int) : (s.deliver k c nv).kept = s.kept := by
  simp only [State.deliver, State.evaluate_kept, State.cmpTripped_kept, kept_ite, ite_self]
  (repeat' split) <;> simp only [State.wrs_kept, State.recAll_kept, State.setChan_kept, kept_mk, mk_kept]

@[simp] theorem execConversionComplete_kept (channel : Fin 28) (nanovolts : Int) (s : State) :
    KeptBy s (execConversionComplete channel nanovolts s) := by
  simp only [execConversionComplete, keptBy_next]
  (repeat' split) <;> simp only [State.setChan_kept, State.adcNext_kept, State.adcSwap_kept, State.deliver_kept]

@[simp] theorem execTriggerGeneratorEvent_kept (tg : Fin 4) (s : State) :
    KeptBy s (execTriggerGeneratorEvent tg s) := by
  simp only [execTriggerGeneratorEvent, State.adcTrigger_kept, keptBy_next, implies_true, kept_ite, ite_self,
      kept_mk, mk_kept, kept_foldl]

theorem State.tgSkips_kept (s : State) : s.tgSkips.kept = s.kept := by
  simp only [State.tgSkips, State.raiseIf_kept, implies_true, kept_foldl]

theorem State.adcUrg_kept (s : State) (mask : Nat) : (s.adcUrg mask).kept = s.kept := by
  simp only [State.adcUrg, State.adcUrgent_kept, implies_true, kept_ite, ite_self, kept_foldl]

@[simp] theorem execAdcUrg_kept (u : Core) (mask : BitVec 28) (s : State) : KeptBy s (execAdcUrg u mask s) := by
  simp only [execAdcUrg, State.asWriter_kept, State.adcUrg_kept, keptBy_next, implies_true]

@[simp] theorem execBackgroundCalStep_kept (group : Fin 4) (offset : Int) (gain : Nat) (s : State) :
    KeptBy s (execBackgroundCalStep group offset gain s) := by
  simp only [execBackgroundCalStep, keptBy_next]
  (repeat' split) <;> simp only [State.wr_kept, State.raise_kept, State.setChan_kept, State.setSlice_kept,
      State.showGroup_kept, State.dropSwap_kept]

theorem State.sysCalStart_kept (s : State) (ch step : Nat) : (s.sysCalStart ch step).kept = s.kept := by
  simp only [State.sysCalStart, State.wrs_kept, State.raise_kept, kept_ite, ite_self, kept_mk, mk_kept]

@[simp] theorem execSyscalStart_kept (u : Core) (ch : BitVec 5) (step : BitVec 2) (s : State) :
    KeptBy s (execSyscalStart u ch step s) := by
  simp only [execSyscalStart, State.asWriter_kept, State.sysCalStart_kept, keptBy_next, implies_true]

theorem State.sysCalDone_kept (s : State) (r : SysCalRun) : (s.sysCalDone r).kept = s.kept := by
  simp only [State.sysCalDone, State.wr_kept, State.wrs_kept, State.raise_kept, State.saveSettings_kept,
      State.setChan_kept, State.sysCalFail_kept, kept_ite, ite_self, kept_mk, mk_kept]

@[simp] theorem execSyscalStepDone_kept (s : State) : KeptBy s (execSyscalStepDone s) := by
  unfold execSyscalStepDone
  split <;> simp only [State.sysCalDone_kept, keptBy_next, kept_ite, ite_self]

@[simp] theorem execVrefOutOfWindow_kept (group : Fin 4) (s : State) : KeptBy s (execVrefOutOfWindow group s) := by
  simp only [execVrefOutOfWindow, State.wr_kept, State.raise_kept, keptBy_next]

@[simp] theorem execVrefRecover_kept (group : Fin 4) (s : State) : KeptBy s (execVrefRecover group s) := by
  simp only [execVrefRecover, State.wr_kept, keptBy_next]

theorem State.adcCntClear_kept (s : State) : s.adcCntClear.kept = s.kept := by
  simp only [State.adcCntClear, State.wrs_kept, implies_true, kept_foldl]

@[simp] theorem execAdcCntClr_kept (u : Core) (s : State) : KeptBy s (execAdcCntClr u s) := by
  simp only [execAdcCntClr, State.asWriter_kept, State.adcCntClear_kept, keptBy_next, implies_true]

theorem State.adcConfigured_kept (s : State) (k was : Nat) : (s.adcConfigured k was).kept = s.kept := by
  simp only [State.adcConfigured, State.wrs_kept, State.setChan_kept, State.showGroup_kept, State.adcNext_kept,
      kept_ite, ite_self]
  (repeat' split) <;> simp only [State.dropSwap_kept]

theorem State.cmpConfigured_kept (s : State) (k : Nat) : (s.cmpConfigured k).kept = s.kept := by
  simp only [State.cmpConfigured, State.wr_kept, State.setChan_kept, kept_ite, ite_self]

theorem State.calWritten_kept (s : State) (k : Nat) : (s.calWritten k).kept = s.kept := by
  simp only [State.calWritten, State.setChan_kept]

theorem State.adcBoundary_kept (s : State) : s.adcBoundary.kept = s.kept := by
  simp only [State.adcBoundary, kept_mk, mk_kept]

/-! ### Machine/Bus -/

theorem State.putBytes_kept (s : State) (a : Nat) (bs : List (BitVec 8)) : (s.putBytes a bs).kept = s.kept := by
  simp only [State.putBytes, kept_mk, mk_kept]

theorem State.imageStore_kept (s : State) (o : Nat) (v : BitVec 32) : (s.imageStore o v).kept = s.kept := by
  simp only [State.imageStore, kept_mk, mk_kept]

theorem State.dramStore_kept (s : State) (o : Nat) (v : BitVec 32) : (s.dramStore o v).kept = s.kept := by
  simp only [State.dramStore, State.putBytes_kept, State.imageStore_kept, kept_ite, ite_self]

/-! ### Machine/EngineCtl -/

theorem State.ueccData_kept (s : State) (e a : Nat) : (s.ueccData e a).kept = s.kept := by
  simp only [State.ueccData, State.raise_kept, State.raiseYield_kept, State.setEng_kept, State.putMem_kept,
      State.stopEngine_kept, kept_ite, ite_self]

theorem State.ueccInstr_kept (s : State) (e a : Nat) : (s.ueccInstr e a).kept = s.kept := by
  simp only [State.ueccInstr, State.raise_kept, State.raiseYield_kept, State.setEng_kept, State.stopEngine_kept,
      kept_ite, ite_self]

@[simp] theorem execEngineEccScrub_kept (e : Fin 32) (instr : Bool) (addr : Fin 32768) (corrected : Bool) (s :
    State) :
    KeptBy s (execEngineEccScrub e instr addr corrected s) := by
  simp only [execEngineEccScrub, State.bump_kept, State.setEng_kept, State.ueccData_kept, State.ueccInstr_kept,
      keptBy_next, kept_ite, ite_self]

theorem State.showDemand_kept (s : State) : s.showDemand.kept = s.kept := by
  simp only [State.showDemand, State.wr_kept, implies_true, kept_foldl]

theorem State.withEnabled_kept (s : State) : s.withEnabled.kept = s.kept := by
  simp only [State.withEnabled, State.wr_kept, implies_true, kept_ite, ite_self, kept_foldl]

theorem State.admitDemand_kept (s : State) (k : State → State) (hk : (k s).kept = s.kept) :
    (s.admitDemand k).1.kept = s.kept := by
  unfold State.admitDemand
  split <;> simp only [State.refuseFit_kept, State.showDemand_kept, hk]

theorem State.withDemand_kept (s : State) (d : Nat) : (s.withDemand d).kept = s.kept := by
  simp only [State.withDemand, State.wr_kept, State.withEnabled_kept]

theorem State.install_kept (s : State) (e : Nat) (c : Container) (st : Nat) : (s.install e c st).kept = s.kept := by
  simp only [State.install, State.wrs_kept, State.setEng_kept]

theorem State.uninstall_kept (s : State) (e : Nat) : (s.uninstall e).kept = s.kept := by
  simp only [State.uninstall, State.wrs_kept, State.setEng_kept, State.setEngState_kept]

theorem State.loadContainer_kept (s : State) (e : Nat) (c : Container) : (s.loadContainer e c).1.kept = s.kept := by
  unfold State.loadContainer
  split <;> simp only [State.refuseFit_kept, State.showDemand_kept, State.install_kept]

theorem State.enabling_kept (s : State) (e : Nat) : (s.enabling e).kept = s.kept := by
  simp only [State.enabling, State.wr_kept, State.setEng_kept]

theorem State.turnOn_kept (s : State) (e : Nat) : (s.turnOn e).kept = s.kept := by
  simp only [State.turnOn, State.refuseFit_kept, State.enabling_kept, kept_ite, ite_self]

theorem State.startLoads_kept (s : State) (ps : List (Nat × Container)) : (s.startLoads ps).kept = s.kept := by
  simp only [State.startLoads, State.wr_kept, State.loadContainer_kept, State.turnOn_kept, implies_true, kept_ite,
      ite_self, kept_foldl]

theorem State.ceEnable_kept (s : State) (e : Nat) (on : Bool) : (s.ceEnable e on).kept = s.kept := by
  simp only [State.ceEnable, State.wr_kept, State.raise_kept, State.setEng_kept, State.turnOn_kept, kept_ite,
      ite_self]

@[simp] theorem execCeEnable_kept (u : Core) (e : Fin 32) (on : Bool) (s : State) :
    KeptBy s (execCeEnable u e on s) := by
  simp only [execCeEnable, State.asWriter_kept, State.ceEnable_kept, keptBy_next, implies_true]

theorem State.ceArmown_kept (s : State) (e v : Nat) : (s.ceArmown e v).kept = s.kept := by
  simp only [State.ceArmown, State.wrs_kept, State.raise_kept, kept_ite, ite_self, kept_mk, mk_kept]

@[simp] theorem execCeArmownWrite_kept (u : Core) (e : Fin 32) (value : Reg32) (s : State) :
    KeptBy s (execCeArmownWrite u e value s) := by
  simp only [execCeArmownWrite, State.asWriter_kept, State.ceArmown_kept, keptBy_next, implies_true]

theorem State.migFail_kept (s : State) (e : Nat) : (s.migFail e).kept = s.kept := by
  unfold State.migFail
  split <;> simp only [State.wrs_kept, State.raise_kept, State.setEng_kept, State.setEngState_kept,
      State.showDemand_kept, State.uninstall_kept, kept_ite, ite_self]

theorem State.migrating_kept (s : State) (e t : Nat) (copy : Bool) (c : Container) :
    (s.migrating e t copy c).kept = s.kept := by
  simp only [State.migrating, State.wr_kept, State.wrs_kept, State.setEng_kept, State.install_kept, kept_ite,
      ite_self]

theorem State.migStart_kept (s : State) (e t : Nat) (copy : Bool) : (s.migStart e t copy).kept = s.kept := by
  simp only [State.migStart]
  (repeat' split) <;> simp only [State.raise_kept, State.admitDemand_kept, State.migrating_kept]

theorem State.migWrite_kept (s : State) (e t : Nat) (copy start abort : Bool) :
    (s.migWrite e t copy start abort).kept = s.kept := by
  simp only [State.migWrite, State.wrs_kept, State.migFail_kept, State.migStart_kept, kept_ite, ite_self]

@[simp] theorem execMigrationStart_kept (u : Core) (e target : Fin 32) (copy : Bool) (s : State) :
    KeptBy s (execMigrationStart u e target copy s) := by
  simp only [execMigrationStart, State.asWriter_kept, State.migWrite_kept, keptBy_next, implies_true]

@[simp] theorem execMigrationCopied_kept (e : Fin 32) (s : State) : KeptBy s (execMigrationCopied e s) := by
  unfold execMigrationCopied
  split <;> simp only [State.wrs_kept, State.setEng_kept, keptBy_next]

@[simp] theorem execMigrationAbort_kept (u : Core) (e : Fin 32) (s : State) :
    KeptBy s (execMigrationAbort u e s) := by
  simp only [execMigrationAbort, State.asWriter_kept, State.migFail_kept, keptBy_next, implies_true]

theorem State.handOver_kept (s : State) (e t : Nat) : (s.handOver e t).kept = s.kept := by
  simp only [State.handOver, State.wrs_kept, State.raise_kept, State.setEng_kept, State.setEngState_kept,
      State.showEngine_kept, implies_true, kept_mk, mk_kept, kept_foldl]

theorem State.applyEngineFence_kept (s : State) (e : Nat) : (s.applyEngineFence e).kept = s.kept := by
  simp only [State.applyEngineFence, State.wrBit_kept, State.setEng_kept, State.setEngState_kept,
      State.showEngine_kept, kept_ite, ite_self]
  (repeat' split) <;> simp only [State.raise_kept, State.logFence_kept, State.setEng_kept]

theorem State.enginesAtBoundary_kept (s : State) : s.enginesAtBoundary.kept = s.kept := by
  simp only [State.enginesAtBoundary, State.showDemand_kept]
  rw [kept_foldl _ _ _ State.applyEngineFence_kept, kept_foldl, kept_foldl, kept_foldl]
  · intro s e
    split <;> simp only [kept_ite, State.migFail_kept, ite_self]
  · intro s e
    split <;> simp only [kept_ite, State.handOver_kept, ite_self]
  · intro s e
    split <;> simp only [kept_ite, State.setEng_kept, State.setEngState_kept, State.showEngine_kept, ite_self]

theorem State.ceFence_kept (s : State) (e : Nat) (on : Bool) : (s.ceFence e on).kept = s.kept := by
  simp only [State.ceFence, State.wrB_kept]

@[simp] theorem execCeHostFence_kept (u : Core) (e : Fin 32) (on : Bool) (s : State) :
    KeptBy s (execCeHostFence u e on s) := by
  simp only [execCeHostFence, State.asWriter_kept, State.ceFence_kept, keptBy_next, implies_true]

theorem State.ceCntClr_kept (s : State) (e : Nat) : (s.ceCntClr e).kept = s.kept := by
  simp only [State.ceCntClr, State.wrs_kept]

@[simp] theorem execCeCntClr_kept (u : Core) (e : Fin 32) (s : State) : KeptBy s (execCeCntClr u e s) := by
  simp only [execCeCntClr, State.asWriter_kept, State.ceCntClr_kept, keptBy_next, implies_true]

@[simp] theorem execDlmaxClr_kept (u : Core) (e : Fin 32) (s : State) : KeptBy s (execDlmaxClr u e s) := by
  simp only [execDlmaxClr, State.wr_kept, State.asWriter_kept, keptBy_next, implies_true]

theorem State.haltUnit_kept (s : State) (k : Nat) : (s.haltUnit k).kept = s.kept := by
  simp only [State.haltUnit, State.wr_kept, State.setEng_kept, State.showEngine_kept, State.lpUpdate_kept,
      State.showDemand_kept, kept_ite, ite_self, kept_mk, mk_kept]

theorem State.resumeUnit_kept (s : State) (k : Nat) : (s.resumeUnit k).kept = s.kept := by
  simp only [State.resumeUnit, State.wr_kept, State.showEngine_kept, State.lpUpdate_kept, State.showDemand_kept,
      kept_ite, ite_self, kept_mk, mk_kept]

@[simp] theorem execDebugHalt_kept (unit : Fin 64) (s : State) : KeptBy s (execDebugHalt unit s) := by
  simp only [execDebugHalt, State.haltUnit_kept, keptBy_next, kept_ite, ite_self]

@[simp] theorem execDebugHaltEnd_kept (unit : Fin 64) (s : State) : KeptBy s (execDebugHaltEnd unit s) := by
  simp only [execDebugHaltEnd, State.resumeUnit_kept, keptBy_next]

@[simp] theorem execCeTrap_kept (e : Fin 32) (rd rs1 rs2 : BitVec 4) (s : State) :
    KeptBy s (execCeTrap e rd rs1 rs2 s) := by
  simp only [execCeTrap, State.setEng_kept, State.illegal_kept, State.haltUnit_kept, keptBy_next, kept_ite, ite_self]

/-! ### Machine/Island -/

theorem State.setPair_kept (s : State) (p : Nat) (f : SafPair → SafPair) : (s.setPair p f).kept = s.kept := by
  simp only [State.setPair, kept_mk, mk_kept]

theorem State.setSafFn_kept (s : State) (f : Nat) (k : SafFn → SafFn) : (s.setSafFn f k).kept = s.kept := by
  simp only [State.setSafFn, kept_mk, mk_kept]

theorem State.setOut_kept (s : State) (i : Nat) (f : SafOut → SafOut) : (s.setOut i f).kept = s.kept := by
  simp only [State.setOut, kept_mk, mk_kept]

theorem State.setConn_kept (s : State) (c : Nat) (f : SafConn → SafConn) : (s.setConn c f).kept = s.kept := by
  simp only [State.setConn, kept_mk, mk_kept]

theorem State.showIsland_kept (s : State) : s.showIsland.kept = s.kept := by
  simp only [State.showIsland, State.wrB_kept, State.wrBit_kept, implies_true, kept_foldl]

theorem State.switchOut_kept (s : State) (i : Nat) (on : Bool) : (s.switchOut i on).kept = s.kept := by
  simp only [State.switchOut, State.wr_kept, State.wrB_kept, State.setOut_kept, kept_ite, ite_self]

theorem State.lockOut_kept (s : State) (i : Nat) (c : LockCause) : (s.lockOut i c).kept = s.kept := by
  simp only [State.lockOut, State.setOut_kept, State.switchOut_kept]

theorem State.pairFault_kept (s : State) (p cause : Nat) : (s.pairFault p cause).kept = s.kept := by
  simp only [State.pairFault, State.wrs_kept, State.raise_kept, State.setPair_kept, State.lockOut_kept,
      implies_true, kept_ite, ite_self, kept_foldl]

theorem State.sampleLands_kept (s : State) (v : BitVec 16) : (s.sampleLands v).kept = s.kept := by
  simp only [State.sampleLands, implies_true, kept_mk, mk_kept, kept_foldl]

theorem State.pairCycle_kept (s : State) (p : Nat) : (s.pairCycle p).kept = s.kept := by
  simp only [State.pairCycle, State.wrB_kept, kept_ite]
  (repeat' split) <;> simp only [State.wrs_kept, State.setPair_kept, State.pairFault_kept]

theorem State.fnCycle_kept (s : State) (f : Nat) : (s.fnCycle f).kept = s.kept := by
  simp only [State.fnCycle, State.setSafFn_kept, kept_ite, ite_self]

theorem State.guardCycle_kept (s : State) (f : Nat) : (s.guardCycle f).kept = s.kept := by
  simp only [State.guardCycle, State.setSafFn_kept, kept_ite, ite_self]

theorem State.outCycle_kept (s : State) (rb : BitVec 8) (i : Nat) : (s.outCycle rb i).kept = s.kept := by
  simp only [State.outCycle, State.wrs_kept, State.setOut_kept, State.switchOut_kept, kept_ite, ite_self]

@[simp] theorem execSafetyCycle_kept (samples : List (BitVec 16)) (rb : BitVec 8) (srstLow agree : Bool) (s : State) :
    KeptBy s (execSafetyCycle samples rb srstLow agree s) := by
  simp only [execSafetyCycle, State.wrB_kept, State.showIsland_kept, State.sampleLands_kept, State.pairCycle_kept,
      State.fnCycle_kept, State.guardCycle_kept, State.outCycle_kept, keptBy_next, implies_true, kept_ite, ite_self,
      kept_mk, mk_kept, kept_foldl]

@[simp] theorem execGuardLockRelease_kept (fn : Fin 8) (s : State) : KeptBy s (execGuardLockRelease fn s) := by
  simp only [execGuardLockRelease, State.setSafFn_kept, State.showIsland_kept, State.switchOut_kept, keptBy_next,
      kept_ite, ite_self]

@[simp] theorem execOffPulseTest_kept (out : Fin 4) (s : State) : KeptBy s (execOffPulseTest out s) := by
  simp only [execOffPulseTest, State.wr_kept, State.setOut_kept, keptBy_next, kept_ite, ite_self]

theorem State.outFault_kept (s : State) (i cause : Nat) : (s.outFault i cause).kept = s.kept := by
  simp only [State.outFault, State.wr_kept, State.raise_kept, State.setOut_kept, State.showIsland_kept,
      State.lockOut_kept]

@[simp] theorem execOffPulseSample_kept (out : Fin 4) (rba rbb : Bool) (s : State) :
    KeptBy s (execOffPulseSample out rba rbb s) := by
  simp only [execOffPulseSample, State.wr_kept, State.wrs_kept, State.outFault_kept, keptBy_next, kept_ite, ite_self]

@[simp] theorem execReadbackFault_kept (out : Fin 4) (s : State) : KeptBy s (execReadbackFault out s) := by
  simp only [execReadbackFault, State.outFault_kept, keptBy_next, kept_ite, ite_self]

theorem State.islandFault_kept (s : State) (cause : IslandCause) : (s.islandFault cause).kept = s.kept := by
  simp only [State.islandFault, State.wrs_kept, State.showIsland_kept, State.lockOut_kept, implies_true, kept_ite,
      kept_mk, mk_kept, kept_foldl]
  (repeat' split) <;> simp only [State.raise_kept]

@[simp] theorem execIslandFault_kept (cause : IslandCause) (s : State) : KeptBy s (execIslandFault cause s) := by
  simp only [execIslandFault, State.islandFault_kept, keptBy_next]

@[simp] theorem execIslandRestart_kept (s : State) : KeptBy s (execIslandRestart s) := by
  simp only [execIslandRestart, State.wr_kept, State.bump_kept, State.showIsland_kept, keptBy_next, implies_true,
      kept_ite, ite_self, kept_mk, mk_kept, kept_foldl]

theorem State.loadWord_kept (s : State) (addr v : Nat) : (s.loadWord addr v).kept = s.kept := by
  unfold State.loadWord
  split <;> simp only [State.wr_kept, implies_true, kept_foldl]

theorem State.loadImage_kept (s : State) (ws : List (BitVec 32)) : (s.loadImage ws).kept = s.kept := by
  simp only [State.loadImage, State.loadWord_kept, implies_true, kept_foldl]

theorem State.adoptSet_kept (s : State) (p : ParamSet) : (s.adoptSet p).kept = s.kept := by
  simp only [State.adoptSet, State.wr_kept, State.wrs_kept, State.resetRange_kept, State.raise_kept,
      State.loadImage_kept, implies_true, kept_ite, ite_self, kept_mk, mk_kept, kept_foldl]

theorem State.offeredSet_kept (s : State) (p : Option ParamSet) : (s.offeredSet p).kept = s.kept := by
  unfold State.offeredSet
  split <;> simp only [State.putBytes_kept, State.adoptSet_kept]

theorem State.countMsg_kept (s : State) : s.countMsg.1.kept = s.kept := by
  simp only [State.countMsg, kept_mk, mk_kept]

theorem State.msgBad_kept (s : State) : s.msgBad.kept = s.kept := by
  simp only [State.msgBad, State.bump_kept, State.raise_kept]

@[simp] theorem execParamMessage_kept (payload : List (BitVec 8)) (s : State) :
    KeptBy s (execParamMessage payload s) := by
  simp only [execParamMessage, State.wrs_kept, State.countMsg_kept, State.msgBad_kept, keptBy_next, kept_ite,
      ite_self, kept_mk, mk_kept]

theorem State.dropPending_kept (s : State) : s.dropPending.kept = s.kept := by
  simp only [State.dropPending, State.wrs_kept, kept_mk, mk_kept]

@[simp] theorem execPendingSetDiscard_kept (s : State) : KeptBy s (execPendingSetDiscard s) := by
  simp only [execPendingSetDiscard, State.dropPending_kept, keptBy_next, kept_ite, ite_self]

theorem State.clearLocks_kept (s : State) (i : Nat) : (s.clearLocks i).kept = s.kept := by
  simp only [State.clearLocks, State.wr_kept, State.bump_kept, State.setOut_kept, kept_ite, ite_self]

theorem State.clearPair_kept (s : State) (p : Nat) : (s.clearPair p).kept = s.kept := by
  simp only [State.clearPair, State.wrB_kept, State.wrs_kept, State.setPair_kept, kept_ite, ite_self]

theorem State.deliberate_kept (s : State) : s.deliberate.kept = s.kept := by
  simp only [State.deliberate]
  (repeat' split) <;> simp only [State.resetRange_kept, State.saveSettings_kept, State.setSafFn_kept,
      State.showIsland_kept, State.adoptSet_kept, State.dropPending_kept, State.clearLocks_kept,
      State.clearPair_kept, implies_true, kept_ite, ite_self, kept_foldl]

@[simp] theorem execDeliberateReset_kept (highMs : Nat) (s : State) : KeptBy s (execDeliberateReset highMs s) := by
  simp only [execDeliberateReset, State.wr_kept, State.bump_kept, State.raise_kept, State.deliberate_kept,
      keptBy_next, kept_ite, ite_self, kept_mk, mk_kept]

@[simp] theorem execSrstStuck_kept (s : State) : KeptBy s (execSrstStuck s) := by
  simp only [execSrstStuck, State.raise_kept, keptBy_next, kept_ite, ite_self, kept_mk, mk_kept]

@[simp] theorem execDataMessage_kept (port : Fin 4) (src : BitVec 48) (payload : List (BitVec 8)) (s : State) :
    KeptBy s (execDataMessage port src payload s) := by
  simp only [execDataMessage, keptBy_next, kept_ite]
  (repeat' split) <;> simp only [State.wrs_kept, State.setConn_kept, State.countMsg_kept, State.msgBad_kept]

@[simp] theorem execConnectionTimeout_kept (conn : Fin 8) (s : State) : KeptBy s (execConnectionTimeout conn s) := by
  simp only [execConnectionTimeout, State.wr_kept, State.bump_kept, State.raise_kept, keptBy_next, kept_ite, ite_self]

@[simp] theorem execProducedMessageSend_kept (conn : Fin 8) (s : State) :
    KeptBy s (execProducedMessageSend conn s) := by
  simp only [execProducedMessageSend, State.wrs_kept, State.setConn_kept, keptBy_next, kept_ite, ite_self, kept_mk,
      mk_kept]

/-! ### Machine/Power -/

theorem State.setFeed_kept (s : State) (f : Feed) (k : FeedUnit → FeedUnit) : (s.setFeed f k).kept = s.kept := by
  simp only [State.setFeed, kept_mk, mk_kept]

theorem State.feedBits_kept (s : State) : s.feedBits.kept = s.kept := by
  simp only [State.feedBits, State.wrB_kept, implies_true, kept_foldl]

theorem State.showFeeds_kept (s : State) : s.showFeeds.kept = s.kept := by
  simp only [State.showFeeds, State.wrB_kept, State.raise_kept, State.feedBits_kept, kept_ite, ite_self]

@[simp] theorem execFeedUsable_kept (f : Feed) (mv : BitVec 16) (s : State) : KeptBy s (execFeedUsable f mv s) := by
  simp only [execFeedUsable, State.setFeed_kept, State.showFeeds_kept, keptBy_next]

@[simp] theorem execFeedWarning_kept (f : Feed) (mv : BitVec 16) (s : State) : KeptBy s (execFeedWarning f mv s) := by
  simp only [execFeedWarning, State.raiseIf_kept, State.setFeed_kept, State.showFeeds_kept, keptBy_next]

@[simp] theorem execFeedLost_kept (f : Feed) (s : State) : KeptBy s (execFeedLost f s) := by
  simp only [execFeedLost, State.setFeed_kept, State.showFeeds_kept, keptBy_next]

@[simp] theorem execFeedOverVoltage_kept (f : Feed) (s : State) : KeptBy s (execFeedOverVoltage f s) := by
  simp only [execFeedOverVoltage, State.raise_kept, State.setFeed_kept, State.showFeeds_kept, keptBy_next]

@[simp] theorem execFeedOvRecover_kept (f : Feed) (mv : BitVec 16) (s : State) :
    KeptBy s (execFeedOvRecover f mv s) := by
  simp only [execFeedOvRecover, State.setFeed_kept, State.showFeeds_kept, keptBy_next]

@[simp] theorem execReverseCurrent_kept (f : Feed) (s : State) : KeptBy s (execReverseCurrent f s) := by
  simp only [execReverseCurrent, State.raise_kept, State.setFeed_kept, State.showFeeds_kept, keptBy_next]

@[simp] theorem execReverseReclose_kept (f : Feed) (s : State) : KeptBy s (execReverseReclose f s) := by
  simp only [execReverseReclose, State.setFeed_kept, State.showFeeds_kept, keptBy_next]

@[simp] theorem execVbatCheck_kept (mv : Nat) (s : State) : KeptBy s (execVbatCheck mv s) := by
  simp only [execVbatCheck, State.raiseIf_kept, keptBy_next]

@[simp] theorem execRailOutOfRange_kept (rail : Fin 8) (s : State) : KeptBy s (execRailOutOfRange rail s) := by
  simp only [execRailOutOfRange, State.wr_kept, State.raise_kept, State.raiseYield_kept, State.islandFault_kept,
      keptBy_next, kept_ite, ite_self]

@[simp] theorem execJunctionTempFlag_kept (tj : BitVec 8) (s : State) : KeptBy s (execJunctionTempFlag tj s) := by
  simp only [execJunctionTempFlag, State.wr_kept, State.raiseIf_kept, keptBy_next]

/-! ### Machine/Recorder -/

theorem State.recEnable_kept (s : State) (d : Nat) : (s.recEnable d).kept = s.kept := by
  simp only [State.recEnable, State.wr_kept, State.raise_kept, State.noteNofit_kept, State.recFill_kept, kept_ite,
      ite_self]

@[simp] theorem execRecEnable_kept (u : Core) (d : Fin 16) (s : State) : KeptBy s (execRecEnable u d s) := by
  simp only [execRecEnable, State.asWriter_kept, State.recEnable_kept, keptBy_next, implies_true]

theorem State.recDisable_kept (s : State) (d : Nat) : (s.recDisable d).kept = s.kept := by
  simp only [State.recDisable, State.wrs_kept, State.setRec_kept]

@[simp] theorem execRecDisable_kept (u : Core) (d : Fin 16) (s : State) : KeptBy s (execRecDisable u d s) := by
  simp only [execRecDisable, State.asWriter_kept, State.recDisable_kept, keptBy_next, implies_true]

@[simp] theorem execRecArmed_kept (d : Fin 16) (s : State) : KeptBy s (execRecArmed d s) := by
  simp only [execRecArmed, State.wr_kept, keptBy_next, kept_ite, ite_self]

theorem State.recMark_kept (s : State) (d : Nat) (x : RecFire) : (s.recMark d x).kept = s.kept := by
  simp only [State.recMark, State.wr_kept, State.bump_kept, State.setRec_kept, State.recPut_kept, implies_true,
      kept_ite, ite_self, kept_foldl]

@[simp] theorem execRecTrigger_kept (d : Fin 16) (s : State) : KeptBy s (execRecTrigger d s) := by
  simp only [execRecTrigger, State.setRec_kept, State.recMark_kept, keptBy_next, implies_true, kept_foldl]

theorem State.recHost_kept (s : State) (mask : Nat) : (s.recHost mask).kept = s.kept := by
  simp only [State.recHost, State.recFire_kept]

@[simp] theorem execRecHostTrig_kept (u : Core) (mask : BitVec 16) (s : State) :
    KeptBy s (execRecHostTrig u mask s) := by
  simp only [execRecHostTrig, State.asWriter_kept, State.recHost_kept, keptBy_next, implies_true]

@[simp] theorem execRecPostEnd_kept (d : Fin 16) (s : State) : KeptBy s (execRecPostEnd d s) := by
  simp only [execRecPostEnd, keptBy_next]
  (repeat' split) <;> simp only [State.raise_kept, State.wrBit_kept, State.recFill_kept, kept_mk, mk_kept]

@[simp] theorem execGapEntryWrite_kept (d : Fin 16) (s : State) : KeptBy s (execGapEntryWrite d s) := by
  simp only [execGapEntryWrite, keptBy_next]
  (repeat' split) <;> simp only [State.raise_kept, State.setRec_kept]

theorem State.recCntClear_kept (s : State) : s.recCntClear.kept = s.kept := by
  simp only [State.recCntClear, State.wrs_kept, implies_true, kept_foldl]

@[simp] theorem execRecCntClr_kept (u : Core) (s : State) : KeptBy s (execRecCntClr u s) := by
  simp only [execRecCntClr, State.asWriter_kept, State.recCntClear_kept, keptBy_next, implies_true]

theorem State.recStart_kept (s : State) : s.recStart.kept = s.kept := by
  simp only [State.recStart, State.wr_kept, State.recFill_kept, implies_true, kept_ite, ite_self, kept_foldl]

/-! ### Machine/SecTime -/

theorem State.noteSync_kept (s : State) : s.noteSync.kept = s.kept := by
  simp only [State.noteSync, kept_ite, ite_self, kept_mk, mk_kept]

/-! ### Machine/Housekeeping -/

theorem State.showShed_kept (s : State) : s.showShed.kept = s.kept := by
  simp only [State.showShed, State.wr_kept, State.wrB_kept]

theorem State.marginTaken_kept (s : State) : s.marginTaken.kept = s.kept := by
  simp only [State.marginTaken, State.wr_kept, State.logAppend_kept, State.raise_kept]

theorem State.marginActions_kept (s : State) : s.marginActions.kept = s.kept := by
  simp only [State.marginActions, State.wr_kept, State.raiseYield_kept, State.showShed_kept, State.marginTaken_kept,
      kept_ite, ite_self, kept_mk, mk_kept]

@[simp] theorem execCadenceUpdate_kept (readings : List (BitVec 10)) (s : State) :
    KeptBy s (execCadenceUpdate readings s) := by
  simp only [execCadenceUpdate, State.wr_kept, State.wrs_kept, State.clearYield_kept, State.marginActions_kept,
      keptBy_next, implies_true, kept_ite, ite_self, kept_mk, mk_kept, kept_foldl]

@[simp] theorem execMarginUndo_kept (s : State) : KeptBy s (execMarginUndo s) := by
  simp only [execMarginUndo]
  (repeat' split) <;> simp only [State.wr_kept, State.showShed_kept, keptBy_next, kept_mk, mk_kept]

@[simp] theorem execKminClr_kept (u : Core) (s : State) : KeptBy s (execKminClr u s) := by
  simp only [execKminClr, State.wr_kept, State.asWriter_kept, keptBy_next, implies_true]

theorem State.fanEnter_kept (s : State) (f st : Nat) : (s.fanEnter f st).kept = s.kept := by
  simp only [State.fanEnter, State.wr_kept, kept_mk, mk_kept]

theorem State.fanUpdate_kept (s : State) (boost : Bool) (f : Nat) : (s.fanUpdate boost f).kept = s.kept := by
  simp only [State.fanUpdate, State.wr_kept, State.fanEnter_kept, kept_ite, ite_self]

theorem State.fansUpdate_kept (s : State) : s.fansUpdate.kept = s.kept := by
  simp only [State.fansUpdate, State.wrB_kept, State.fanUpdate_kept, implies_true, kept_foldl]

theorem State.fanFailed_kept (s : State) (f : Nat) : (s.fanFailed f).kept = s.kept := by
  simp only [State.fanFailed, State.wr_kept, State.raise_kept, State.fanEnter_kept, State.fansUpdate_kept, kept_ite,
      ite_self]

@[simp] theorem execFanTachEdges_kept (fan : Fin 8) (periodUs : Nat) (s : State) :
    KeptBy s (execFanTachEdges fan periodUs s) := by
  simp only [execFanTachEdges, State.wr_kept, State.fanEnter_kept, State.fansUpdate_kept, keptBy_next, kept_ite,
      ite_self, kept_mk, mk_kept]

@[simp] theorem execFanStartTimeout_kept (fan : Fin 8) (s : State) : KeptBy s (execFanStartTimeout fan s) := by
  simp only [execFanStartTimeout, State.wrs_kept, State.fanFailed_kept, keptBy_next, kept_ite, ite_self]

@[simp] theorem execFanStall_kept (fan : Fin 8) (s : State) : KeptBy s (execFanStall fan s) := by
  simp only [execFanStall, State.wrs_kept, State.raise_kept, State.fanFailed_kept, keptBy_next, kept_ite, ite_self]

@[simp] theorem execFanRetry_kept (fan : Fin 8) (s : State) : KeptBy s (execFanRetry fan s) := by
  simp only [execFanRetry, State.fanEnter_kept, State.fansUpdate_kept, keptBy_next, kept_ite, ite_self]

@[simp] theorem execFanRecovered_kept (fan : Fin 8) (s : State) : KeptBy s (execFanRecovered fan s) := by
  simp only [execFanRecovered, State.wr_kept, keptBy_next, kept_ite, ite_self]

theorem State.fanClear_kept (s : State) (f : Nat) : (s.fanClear f).kept = s.kept := by
  simp only [State.fanClear, State.wr_kept, State.fanEnter_kept, State.fansUpdate_kept, kept_ite, ite_self]

@[simp] theorem execFanClr_kept (u : Core) (fan : Fin 8) (s : State) : KeptBy s (execFanClr u fan s) := by
  simp only [execFanClr, State.asWriter_kept, State.fanClear_kept, keptBy_next, implies_true]

theorem State.pertEnd_kept (s : State) : s.pertEnd.kept = s.kept := by
  simp only [State.pertEnd, State.resetRange_kept, State.raise_kept, kept_mk, mk_kept]

theorem State.pertPut_kept (s : State) (r v : Nat) : (s.pertPut r v).kept = s.kept := by
  simp only [State.pertPut, State.wr_kept, State.wrs_kept, kept_ite, ite_self]

theorem State.pertWrite_kept (s : State) (r v : Nat) : (s.pertWrite r v).kept = s.kept := by
  simp only [State.pertWrite, State.raise_kept, State.pertPut_kept, kept_ite, ite_self, kept_mk, mk_kept]

@[simp] theorem execPertCtlWrite_kept (u : Core) (reg : Fin 8) (value : Reg32) (s : State) :
    KeptBy s (execPertCtlWrite u reg value s) := by
  simp only [execPertCtlWrite, State.asWriter_kept, State.pertWrite_kept, keptBy_next, implies_true]

/-! ### Machine/SecOps -/

theorem State.freeReg_kept (s : State) : s.freeReg.2.kept = s.kept := by
  simp only [State.freeReg, State.freeNat_kept]

theorem State.free64_kept (s : State) : s.free64.2.kept = s.kept := by
  simp only [State.free64, State.freeNat_kept]

theorem State.free64s_kept (s : State) (a0 : Nat) : (s.free64s a0).2.kept = s.kept := by
  induction a0 generalizing s with
  | zero => rfl
  | succ n ih => exact (ih _).trans (State.free64_kept s)

theorem State.drawKey_kept (s : State) : s.drawKey.2.kept = s.kept := by
  simp only [State.drawKey, State.free64s_kept]

theorem State.drawIdentity_kept (s : State) : s.drawIdentity.kept = s.kept := by
  simp only [State.drawIdentity, State.wr_kept, State.drawKey_kept, implies_true, kept_mk, mk_kept, kept_foldl]

theorem State.dropIdentity_kept (s : State) : s.dropIdentity.kept = s.kept := by
  simp only [State.dropIdentity, State.wr_kept, implies_true, kept_mk, mk_kept, kept_foldl]

theorem State.dropPermit_kept (s : State) : s.dropPermit.kept = s.kept := by
  simp only [State.dropPermit, State.wrs_kept, kept_mk, mk_kept]

theorem State.zeroise_kept (s : State) : s.zeroise.kept = s.kept := by
  simp only [State.zeroise, State.dropIdentity_kept, State.dropPermit_kept, kept_mk, mk_kept]

theorem State.zeroiseFailed_kept (s : State) : s.zeroiseFailed.kept = s.kept := by
  simp only [State.zeroiseFailed, State.wr_kept, State.raise_kept, kept_mk, mk_kept]

theorem State.secureStart_kept (s : State) (zeroised : Bool) : (s.secureStart zeroised).kept = s.kept := by
  simp only [State.secureStart, State.wr_kept, State.wrB_kept, State.drawIdentity_kept, State.zeroise_kept,
      State.zeroiseFailed_kept, kept_ite, ite_self, kept_mk, mk_kept]

theorem State.joinTandem_kept (s : State) : s.joinTandem.kept = s.kept := by
  simp only [State.joinTandem, State.wrs_kept, State.postAll_kept, kept_ite, ite_self, kept_mk, mk_kept]

theorem State.tamperReact_kept (s : State) : s.tamperReact.kept = s.kept := by
  simp only [State.tamperReact, State.raise_kept, State.endAllSessions_kept, State.dropIdentity_kept, kept_ite,
      ite_self, kept_mk, mk_kept]

/-! ### Machine/Reset -/

theorem State.writeCause_kept (s : State) (srcs : List ResetSource) (cold restart heldStrap heldStorm : Bool) :
    (s.writeCause srcs cold restart heldStrap heldStorm).kept = s.kept := by
  simp only [State.writeCause, State.wrs_kept]

theorem State.cleared_kept (s : State) (cold : Bool) : (s.cleared cold).kept = s.kept := by
  simp only [State.cleared, kept_mk, mk_kept]

theorem State.holdRecord_kept (s : State) (k : Option HoldKind) : (s.holdRecord k).kept = s.kept := by
  simp only [State.holdRecord, State.wrs_kept]

theorem State.doReset_kept (s : State) (src : ResetSource) : (s.doReset src).kept = s.kept := by
  simp only [State.doReset, State.wrB_kept, State.feedBits_kept, State.writeCause_kept, State.cleared_kept,
      State.holdRecord_kept, kept_mk, mk_kept]

theorem State.takeReset_kept (s : State) (src : ResetSource) : (s.takeReset src).kept = s.kept := by
  simp only [State.takeReset, State.doReset_kept, kept_ite, ite_self]

@[simp] theorem execPowerOn_kept (retained : Bool) (s : State) : KeptBy s (execPowerOn retained s) := by
  simp only [execPowerOn, State.takeReset_kept, keptBy_next, kept_mk, mk_kept]

theorem State.pulseTaken_kept (s : State) (lo hi ns : Nat) : (s.pulseTaken lo hi ns).2.kept = s.kept := by
  simp only [State.pulseTaken]
  (repeat' split) <;> simp only [State.freeBit_kept]

@[simp] theorem execPorstNAssert_kept (ns : Nat) (s : State) : KeptBy s (execPorstNAssert ns s) := by
  simp only [execPorstNAssert]
  (repeat' split) <;> simp only [State.takeReset_kept, State.pulseTaken_kept, keptBy_next, kept_mk, mk_kept]

@[simp] theorem execResetNAssert_kept (ns : Nat) (s : State) : KeptBy s (execResetNAssert ns s) := by
  simp only [execResetNAssert]
  (repeat' split) <;> simp only [State.takeReset_kept, State.pulseTaken_kept, keptBy_next, kept_mk, mk_kept]

@[simp] theorem execResetPinRelease_kept (pin : ResetPin) (s : State) : KeptBy s (execResetPinRelease pin s) := by
  simp only [execResetPinRelease]
  (repeat' split) <;> simp only [keptBy_next, kept_mk, mk_kept]

@[simp] theorem execSupervisorUndervoltage_kept (s : State) : KeptBy s (execSupervisorUndervoltage s) := by
  simp only [execSupervisorUndervoltage, State.takeReset_kept, keptBy_next]

@[simp] theorem execRunWatchdogExpire_kept (s : State) : KeptBy s (execRunWatchdogExpire s) := by
  simp only [execRunWatchdogExpire, State.takeReset_kept, keptBy_next, kept_ite, ite_self]

@[simp] theorem execStartWatchdogExpire_kept (s : State) : KeptBy s (execStartWatchdogExpire s) := by
  simp only [execStartWatchdogExpire, State.takeReset_kept, keptBy_next, kept_ite, ite_self]

@[simp] theorem execModuleOrderedReset_kept (s : State) : KeptBy s (execModuleOrderedReset s) := by
  unfold execModuleOrderedReset
  split <;> simp only [State.takeReset_kept, keptBy_next]

@[simp] theorem execRecoveryReset_kept (s : State) : KeptBy s (execRecoveryReset s) := by
  unfold execRecoveryReset
  split <;> simp only [State.takeReset_kept, keptBy_next, kept_ite, ite_self]

theorem State.signedReset_kept (s : State) (force : Bool) (src : ResetSource) :
    KeptIn s (State.signedReset s force src) := by
  simp only [State.signedReset, keptIn_ite, keptIn_some, keptIn_none, kept_mk, mk_kept, ite_self]

@[simp] theorem execTandemPartnerReset_kept (s : State) : KeptBy s (execTandemPartnerReset s) := by
  simp only [execTandemPartnerReset, State.takeReset_kept, keptBy_next, kept_ite, ite_self]

@[simp] theorem execStartRefclkLocked_kept (s : State) : KeptBy s (execStartRefclkLocked s) := by
  simp only [execStartRefclkLocked, State.wrs_kept, keptBy_next, kept_ite, ite_self, kept_mk, mk_kept]

theorem State.backupCheck_kept (s : State) : s.backupCheck.kept = s.kept := by
  simp only [State.backupCheck, State.wr_kept, State.wrs_kept, State.bump_kept, State.resetRange_kept,
      State.tamperReact_kept, kept_ite, ite_self, kept_mk, mk_kept]

theorem State.stormCount_kept (s : State) : s.stormCount.kept = s.kept := by
  simp only [State.stormCount, State.wr_kept, State.wrs_kept, kept_ite, ite_self]

theorem State.enterHold_kept (s : State) (k : HoldKind) : (s.enterHold k).kept = s.kept := by
  simp only [State.enterHold, State.holdRecord_kept, kept_mk, mk_kept]

theorem State.configureBlocks_kept (s : State) (st : Option Settings) (im : Image) :
    (s.configureBlocks st im).kept = s.kept := by
  simp only [State.configureBlocks, State.wr_kept, State.showFits_kept, State.lpUpdate_kept, State.lpTake_kept,
      State.adcConfigured_kept, State.calWritten_kept, State.showDemand_kept, State.startLoads_kept,
      State.offeredSet_kept, State.recStart_kept, State.fansUpdate_kept, implies_true, kept_ite, ite_self, kept_mk,
      mk_kept, kept_foldl]

theorem State.startComplete_kept (s : State) : s.startComplete.kept = s.kept := by
  simp only [State.startComplete, State.wr_kept, State.setSpoke_kept, State.joinTandem_kept, implies_true, kept_ite,
      ite_self, kept_mk, mk_kept, kept_foldl]

theorem State.kickWrite_kept (s : State) (kick done : Bool) (key : Nat) :
    (s.kickWrite kick done key).kept = s.kept := by
  simp only [State.kickWrite, State.raise_kept, State.startComplete_kept, kept_ite, ite_self, kept_mk, mk_kept]

theorem State.startImage_kept (s : State) : s.startImage.kept = s.kept := by
  unfold State.startImage
  extract_lets p s1
  have h1 : s1.kept = s.kept := State.setFlash_kept _ _ _
  clear_value s1
  generalize s1.chooseIn (s1.flashOf p) = c
  obtain ⟨c, f, fell⟩ := c
  dsimp -zeta only
  extract_lets s2 s3 pick
  have h2 : s2.kept = s.kept := (State.setFlash_kept _ _ _).trans h1
  have hp : pick.2.kept = s.kept := by
    unfold pick
    cases c with
    | some i => exact h2
    | none =>
      dsimp -zeta only
      generalize (s2.chooseIn (s2.flashOf (1 - p))).1 = c'
      cases c' <;> exact (State.setFlash_kept _ _ _).trans h2
  clear_value s2 pick
  obtain ⟨o, t⟩ := pick
  cases o with
  | none => exact (State.enterHold_kept _ _).trans hp
  | some x =>
    obtain ⟨fl, i, fell'⟩ := x
    dsimp -zeta only
    generalize (t.flashOf fl).slot i = x
    obtain ⟨st, trial, attempts, image, key⟩ := x
    cases image with
    | none => exact (State.enterHold_kept _ _).trans hp
    | some im =>
      simp only [State.kickWrite_kept, kept_mk, mk_kept, State.configureBlocks_kept, State.readSettings_kept,
          State.wrs_kept, State.setFlash_kept]
      exact hp

theorem State.startStep2_kept (s : State) (fuses : List FuseRead) (seconds : BitVec 32) (keys : KeyStoreRead) :
    (s.startStep2 fuses seconds keys).kept = s.kept := by
  simp only [State.startStep2, State.wr_kept, State.readFuses_kept, State.showLifecycle_kept,
      State.secureStart_kept, State.tamperReact_kept, State.backupCheck_kept, State.stormCount_kept, kept_ite,
      ite_self, kept_mk, mk_kept]

@[simp] theorem execStartSequence_kept (fuses : List FuseRead) (strap : List (BitVec 12)) (seconds : BitVec 32)
    (keys : KeyStoreRead) (s : State) :
    KeptBy s (execStartSequence fuses strap seconds keys s) := by
  unfold execStartSequence
  refine keptBy_ite _ ((keptBy_next _ _).2 rfl) ?_
  have h1 := State.startStep2_kept s fuses seconds keys
  generalize s.startStep2 fuses seconds keys = s1 at h1 ⊢
  refine keptBy_ite _ ?_ ?_
  · simp only [keptBy_next, State.enterHold_kept, kept_mk, mk_kept, h1]
  refine keptBy_ite _ ?_ ?_
  · simp only [keptBy_next, State.enterHold_kept, State.wr_kept, h1]
  refine keptBy_ite _ ?_ ?_
  · simp only [keptBy_next, State.enterHold_kept, State.wrs_kept, State.wr_kept, kept_mk, mk_kept, h1]
  split
  rename_i k t ht
  replace ht : t.kept = s.kept := by
    have h := congrArg (fun p => State.kept p.2) ht
    refine h.symm.trans ?_
    rw [State.freeWord_kept, kept_mk, mk_kept, State.wrs_kept, State.wr_kept, h1]
  extract_lets s4
  have h4 : s4.kept = s.kept := by rw [kept_mk, mk_kept, ht]
  clear_value s4
  have hq : (if s4.flag Fld.RST_CAUSE_COLD = true then s4.freeWord else (s4.dramKey, s4)).2.kept = s.kept := by
    rw [apply_ite Prod.snd, kept_ite, State.freeWord_kept, ite_self, h4]
  generalize (if s4.flag Fld.RST_CAUSE_COLD = true then s4.freeWord else (s4.dramKey, s4)) = q at hq ⊢
  obtain ⟨dk, u⟩ := q
  refine keptBy_ite _ ?_ ?_
  · simp only [keptBy_next, State.enterHold_kept, kept_mk, mk_kept]; exact hq
  · simp only [keptBy_next, State.startImage_kept, kept_mk, mk_kept]; exact hq

@[simp] theorem execStormWindowClear_kept (s : State) : KeptBy s (execStormWindowClear s) := by
  simp only [execStormWindowClear, State.wr_kept, keptBy_next, kept_ite, ite_self]

@[simp] theorem execWdtKick_kept (u : Core) (key : BitVec 16) (s : State) : KeptBy s (execWdtKick u key s) := by
  simp only [execWdtKick, State.asWriter_kept, State.kickWrite_kept, keptBy_next, implies_true]

@[simp] theorem execStartDone_kept (u : Core) (key : BitVec 16) (s : State) : KeptBy s (execStartDone u key s) := by
  simp only [execStartDone, State.asWriter_kept, State.kickWrite_kept, keptBy_next, implies_true]

@[simp] theorem execRstCfgLock_kept (u : Core) (s : State) : KeptBy s (execRstCfgLock u s) := by
  simp only [execRstCfgLock, State.wr_kept, State.asWriter_kept, keptBy_next, implies_true]

@[simp] theorem execTamperInput_kept (input : Fin 2) (seconds : BitVec 32) (s : State) :
    KeptBy s (execTamperInput input seconds s) := by
  simp only [execTamperInput, State.wrs_kept, State.bump_kept, State.tamperReact_kept, keptBy_next, kept_ite,
      ite_self, kept_mk, mk_kept]

theorem State.imageFailed_kept (s : State) : s.imageFailed.kept = s.kept := by
  simp only [State.imageFailed, State.wr_kept, State.wrs_kept, State.setFlash_kept, State.takeReset_kept, kept_ite,
      ite_self, kept_mk, mk_kept]

@[simp] theorem execFwReject_kept (u : Core) (s : State) : KeptBy s (execFwReject u s) := by
  simp only [execFwReject, State.asWriter_kept, State.imageFailed_kept, keptBy_next, implies_true, kept_ite, ite_self]

@[simp] theorem execHealthExpire_kept (s : State) : KeptBy s (execHealthExpire s) := by
  simp only [execHealthExpire, State.imageFailed_kept, keptBy_next, kept_ite, ite_self]

/-! ### Machine/TimeBases -/

theorem State.setBase_kept (s : State) (n : Nat) (b : TimeBase) : (s.setBase n b).kept = s.kept := by
  simp only [State.setBase, kept_mk, mk_kept]

theorem State.setInc_kept (s : State) (n : Nat) (inc : Int) : (s.setInc n inc).kept = s.kept := by
  simp only [State.setInc, State.wrs_kept]

theorem State.servo_kept (s : State) (n : Nat) : (s.servo n).kept = s.kept := by
  unfold State.servo
  split <;> simp only [State.wr_kept, State.freeNat_kept, State.raiseIf_kept, State.setBase_kept, State.setInc_kept,
      kept_ite, ite_self, kept_mk, mk_kept]

@[simp] theorem execServoStep_kept (base : Fin 2) (s : State) : KeptBy s (execServoStep base s) := by
  simp only [execServoStep, State.servo_kept, keptBy_next]

theorem State.incWrite_kept (s : State) (ns : Nat) : (s.incWrite ns).kept = s.kept := by
  simp only [State.incWrite, State.wr_kept, State.raise_kept, kept_ite, ite_self, kept_mk, mk_kept]

@[simp] theorem execTb0IncNsWrite_kept (u : Core) (ns : BitVec 8) (s : State) :
    KeptBy s (execTb0IncNsWrite u ns s) := by
  simp only [execTb0IncNsWrite, State.asWriter_kept, State.incWrite_kept, keptBy_next, implies_true]

theorem State.adjWrite_kept (s : State) (v : BitVec 32) : (s.adjWrite v).kept = s.kept := by
  simp only [State.adjWrite, State.raise_kept, kept_ite, ite_self, kept_mk, mk_kept]

@[simp] theorem execTb0Adj_kept (u : Core) (adj : BitVec 32) (s : State) : KeptBy s (execTb0Adj u adj s) := by
  simp only [execTb0Adj, State.asWriter_kept, State.adjWrite_kept, keptBy_next, implies_true]

theorem State.syncLost_kept (s : State) : s.syncLost.kept = s.kept := by
  simp only [State.syncLost, State.wr_kept, State.raise_kept, kept_ite, ite_self]

theorem State.setWrite_kept (s : State) (ns : Nat) : (s.setWrite ns).kept = s.kept := by
  simp only [State.setWrite, State.raise_kept, State.syncLost_kept, kept_ite, ite_self, kept_mk, mk_kept]

@[simp] theorem execTb0Set_kept (u : Core) (ns : BitVec 32) (s : State) : KeptBy s (execTb0Set u ns s) := by
  simp only [execTb0Set, State.asWriter_kept, State.setWrite_kept, keptBy_next, implies_true]

theorem State.syncDecl_kept (s : State) (on : Bool) : (s.syncDecl on).kept = s.kept := by
  simp only [State.syncDecl, State.wr_kept, State.wrB_kept, State.noteSync_kept, State.syncLost_kept, kept_ite,
      ite_self, kept_mk, mk_kept]

@[simp] theorem execSyncDecl_kept (u : Core) (on : Bool) (s : State) : KeptBy s (execSyncDecl u on s) := by
  simp only [execSyncDecl, State.asWriter_kept, State.syncDecl_kept, keptBy_next, implies_true]

@[simp] theorem execSyncHoldExpire_kept (s : State) : KeptBy s (execSyncHoldExpire s) := by
  simp only [execSyncHoldExpire, State.noteSync_kept, State.syncLost_kept, keptBy_next, kept_ite, ite_self]

@[simp] theorem execReferenceFail_kept (ref : Fin 2) (s : State) : KeptBy s (execReferenceFail ref s) := by
  simp only [execReferenceFail, State.wr_kept, State.raise_kept, keptBy_next, kept_ite, ite_self]

@[simp] theorem execReferenceRevert_kept (s : State) : KeptBy s (execReferenceRevert s) := by
  simp only [execReferenceRevert, State.wr_kept, keptBy_next, kept_ite, ite_self]

@[simp] theorem execReferenceReselect_kept (ref : Fin 2) (s : State) : KeptBy s (execReferenceReselect ref s) := by
  simp only [execReferenceReselect, State.wr_kept, State.wrs_kept, keptBy_next, kept_ite, ite_self]

@[simp] theorem execPpsOut_kept (s : State) : KeptBy s (execPpsOut s) := by
  simp only [execPpsOut, keptBy_next, kept_ite, ite_self, kept_mk, mk_kept]

@[simp] theorem execPpsInEdge_kept (s : State) : KeptBy s (execPpsInEdge s) := by
  simp only [execPpsInEdge, State.wrs_kept, State.bumpWrap_kept, State.raise_kept, keptBy_next, kept_ite, ite_self,
      kept_mk, mk_kept]

/-! ### Machine/Station -/

theorem State.setPort_kept (s : State) (n : Nat) (f : StpPort → StpPort) : (s.setPort n f).kept = s.kept := by
  simp only [State.setPort, kept_mk, mk_kept]

theorem State.setSub_kept (s : State) (k : Nat) (f : SvSub → SvSub) : (s.setSub k f).kept = s.kept := by
  simp only [State.setSub, kept_mk, mk_kept]

theorem State.setGoose_kept (s : State) (k : Nat) (f : GooseFilter → GooseFilter) :
    (s.setGoose k f).kept = s.kept := by
  simp only [State.setGoose, kept_mk, mk_kept]

theorem State.toPtp_kept (s : State) (n : Nat) (f : StationFrame) : (s.toPtp n f).kept = s.kept := by
  simp only [State.toPtp, kept_mk, mk_kept]

theorem State.toApc_kept (s : State) (n : Nat) (f : StationFrame) : (s.toApc n f).kept = s.kept := by
  simp only [State.toApc, kept_mk, mk_kept]

theorem State.otherFrame_kept (s : State) (n : Nat) (f : StationFrame) : (s.otherFrame n f).kept = s.kept := by
  simp only [State.otherFrame, State.bump_kept, State.toApc_kept, kept_ite, ite_self]

theorem State.transparent_kept (s : State) (n : Nat) (r16 : Int) (a0 : StationBody) :
    (s.transparent n r16 a0).2.kept = s.kept := by
  simp only [State.transparent]
  (repeat' split) <;> simp only [State.bump_kept, State.raise_kept, kept_mk, mk_kept]

theorem State.forward_kept (s : State) (n : Nat) (f : StationFrame) (wait : Option Nat) :
    (s.forward n f wait).kept = s.kept := by
  unfold State.forward
  extract_lets out send s1
  have hsend (u : State) (r : Nat) (b : Bool) : (send u r b).kept = u.kept := by
    have h := State.transparent_kept u n r (if f.etype = 0x88F7 then f.body else .other)
    unfold send
    split <;> (rename_i heq; rw [heq] at h)
    · exact h
    · rw [State.setPort_kept]; exact h
  have h1 : s1.kept = s.kept := hsend _ _ _
  clear_value send s1
  refine kept_ite_of rfl ?_
  cases wait with
  | none => simp only [kept_ite, State.bump_kept, h1, ite_self]
  | some r => simp only [kept_ite, State.raise_kept, State.setPort_kept, State.bump_kept, hsend, ite_self]

theorem State.svSameTick_kept (s : State) (k : Nat) (x : SvSample) : (s.svSameTick k x).kept = s.kept := by
  unfold State.svSameTick
  split <;> simp only [State.setSub_kept, kept_ite, ite_self]

theorem State.svSample_kept (s : State) (n k : Nat) (f : StationFrame) (a : Asdu) :
    (s.svSample n k f a).kept = s.kept := by
  simp only [State.svSample, State.wrs_kept, State.bump_kept, State.recAll_kept, State.setSub_kept,
      State.toApc_kept, State.svSameTick_kept, implies_true, kept_ite, ite_self, kept_foldl]

theorem State.svFrame_kept (s : State) (n : Nat) (f : StationFrame) (appid : BitVec 16) (asdus : List Asdu) :
    (s.svFrame n f appid asdus).kept = s.kept := by
  simp only [State.svFrame, State.bump_kept, State.raise_kept, State.otherFrame_kept, State.svSample_kept,
      implies_true, kept_ite, ite_self, kept_mk, mk_kept, kept_foldl]

theorem State.svBoundary_kept (s : State) : s.svBoundary.kept = s.kept := by
  simp only [State.svBoundary, State.wr_kept, implies_true, kept_ite, ite_self, kept_mk, mk_kept, kept_foldl]

theorem State.gooseFrame_kept (s : State) (n : Nat) (f : StationFrame) (appid : BitVec 16) (ref : List (BitVec 8))
    (st : BitVec 32) (sim : Bool) (tal : Nat) :
    (s.gooseFrame n f appid ref st sim tal).kept = s.kept := by
  simp only [State.gooseFrame, State.setGoose_kept, State.toApc_kept, State.otherFrame_kept, implies_true, kept_ite,
      ite_self, kept_foldl]

@[simp] theorem execGooseTalExpire_kept (filter : Fin 64) (s : State) : KeptBy s (execGooseTalExpire filter s) := by
  simp only [execGooseTalExpire, keptBy_next]
  (repeat' split) <;> simp only [State.raise_kept, State.wrBit_kept, State.setGoose_kept]

theorem State.countResetSig_kept (s : State) (n : Nat) (r : ResetFrame) : (s.countResetSig n r).kept = s.kept := by
  simp only [State.countResetSig, State.bump_kept, kept_ite, ite_self]

theorem State.answerReset_kept (s : State) (n : Nat) (f : StationFrame) (r : ResetFrame) (st : Status) :
    (s.answerReset n f r st).kept = s.kept := by
  simp only [State.answerReset, State.setPort_kept]

theorem State.resetFrame_kept (s : State) (n : Nat) (f : StationFrame) (r : ResetFrame) :
    (s.resetFrame n f r).kept = s.kept := by
  unfold State.resetFrame
  extract_lets sec count s1 verdict s2
  refine kept_ite_of (State.bump_kept _ _ _) ?_
  have h2 : s2.kept = s.kept := by rw [State.countResetSig_kept, State.setPort_kept]
  clear_value s2 verdict
  cases verdict with
  | some st => simp only [State.raise_kept, State.bump_kept, State.answerReset_kept, h2]
  | none =>
    dsimp only
    split
    · rw [State.raise_kept, State.answerReset_kept, h2]
    · rename_i t ht
      rw [State.answerReset_kept, kept_mk, mk_kept, State.signedReset_kept _ _ _ t ht, h2]

theorem State.ownFrame_kept (s : State) (n : Nat) (f : StationFrame) : (s.ownFrame n f).kept = s.kept := by
  unfold State.ownFrame
  split <;> simp only [State.bump_kept, State.toApc_kept, State.resetFrame_kept, kept_ite, ite_self]

theorem State.classify_kept (s : State) (n : Nat) (f : StationFrame) : (s.classify n f).kept = s.kept := by
  simp only [State.classify, State.toPtp_kept, State.otherFrame_kept, State.ownFrame_kept, kept_ite, ite_self]
  (repeat' split) <;> simp only [State.otherFrame_kept, State.svFrame_kept, State.gooseFrame_kept]

@[simp] theorem execStationFrameReceive_kept (port : Fin 4) (f : StationFrame) (wait : Option Nat) (s : State) :
    KeptBy s (execStationFrameReceive port f wait s) := by
  simp only [execStationFrameReceive, State.bump_kept, State.forward_kept, State.classify_kept, keptBy_next,
      kept_ite, ite_self]

@[simp] theorem execStationLinkChange_kept (port : Fin 4) (up : Bool) (s : State) :
    KeptBy s (execStationLinkChange port up s) := by
  simp only [execStationLinkChange, State.wrs_kept, keptBy_next, kept_ite, ite_self]

theorem State.bridgeWrite_kept (s : State) (on : Bool) : (s.bridgeWrite on).kept = s.kept := by
  simp only [State.bridgeWrite, State.wrB_kept, State.raise_kept, kept_ite, ite_self]

@[simp] theorem execStpBridgeEnable_kept (u : Core) (on : Bool) (s : State) :
    KeptBy s (execStpBridgeEnable u on s) := by
  simp only [execStpBridgeEnable, State.asWriter_kept, State.bridgeWrite_kept, keptBy_next, implies_true]

@[simp] theorem execStpLock_kept (u : Core) (s : State) : KeptBy s (execStpLock u s) := by
  simp only [execStpLock, State.wr_kept, State.asWriter_kept, keptBy_next, implies_true]

theorem State.stpCntClear_kept (s : State) : s.stpCntClear.kept = s.kept := by
  simp only [State.stpCntClear, State.wrs_kept, implies_true, kept_foldl]

@[simp] theorem execStpCntClr_kept (u : Core) (s : State) : KeptBy s (execStpCntClr u s) := by
  simp only [execStpCntClr, State.asWriter_kept, State.stpCntClear_kept, keptBy_next, implies_true]

/-! ### Machine/StdProgram -/

theorem State.setPflag_kept (s : State) (e i : Nat) (b : Bool) : (s.setPflag e i b).kept = s.kept := by
  simp only [State.setPflag, State.putMem_kept]

theorem State.stdRecord_kept (s : State) (e type arm i detail : Nat) :
    (s.stdRecord e type arm i detail).kept = s.kept := by
  simp only [State.stdRecord, State.putCsr_kept]

theorem State.stdBank_kept (s : State) (e : Nat) : (s.stdBank e).1.kept = s.kept := by
  simp only [State.stdBank]
  (repeat' split) <;> simp only [State.putMem_kept, State.setPflag_kept, State.stdRecord_kept]

theorem State.stdTracker_kept (s : State) (e : Nat) : (s.stdTracker e).1.kept = s.kept := by
  simp only [State.stdTracker]
  (repeat' split) <;> simp only [State.putMem_kept, State.putMems_kept, State.stdRecord_kept]

theorem State.evRecord_kept (s : State) (e type i detail : Nat) : (s.evRecord e type i detail).kept = s.kept := by
  simp only [State.evRecord, State.stdRecord_kept]

theorem State.stdEvent_kept (s : State) (e : Nat) (t : TrackStep) (trig i : Nat) :
    (s.stdEvent e t trig i).1.kept = s.kept := by
  simp only [State.stdEvent]
  (repeat' split) <;> simp only [State.putMem_kept, State.putMems_kept, State.evRecord_kept]

theorem State.stdEvents_kept (s : State) (e : Nat) (t : TrackStep) : (s.stdEvents e t).1.kept = s.kept := by
  exact kept_foldl_fst _ _ _ fun p i => State.stdEvent_kept _ _ _ _ _

theorem State.profileSteps_kept (s : State) (e q : Nat) (held : Bool) (a0 : Nat) :
    (s.profileSteps e q held a0).kept = s.kept := by
  induction a0 generalizing s held with
  | zero => rfl
  | succ n ih => rw [State.profileSteps, ih, State.putMems_kept]

theorem State.stdProfiles_kept (s : State) (e : Nat) (held : List Bool) : (s.stdProfiles e held).kept = s.kept := by
  simp only [State.stdProfiles, State.putMem_kept, State.setPflag_kept, State.stdRecord_kept,
      State.profileSteps_kept, implies_true, kept_ite, ite_self, kept_foldl]

theorem State.holdKeys_kept (s : State) (e i : Nat) : (s.holdKeys e i).kept = s.kept := by
  simp only [State.holdKeys, State.putMem_kept, implies_true, kept_ite, ite_self, kept_foldl]

theorem State.piLoop_kept (s : State) (e a : Nat) (kp ki err dt : W40) (hold : Bool) :
    (s.piLoop e a kp ki err dt hold).1.kept = s.kept := by
  simp only [State.piLoop, State.putMem_kept, kept_ite, ite_self]

theorem State.stdOuter_kept (s : State) (e : Nat) (eUp eLo : W40) : (s.stdOuter e eUp eLo).kept = s.kept := by
  simp only [State.stdOuter, State.putMems_kept, State.piLoop_kept, kept_ite, ite_self]

theorem State.stdDeblock_kept (s : State) (e : Nat) (eUp eLo : W40) : (s.stdDeblock e eUp eLo).kept = s.kept := by
  simp only [State.stdDeblock, State.putMem_kept, State.putMems_kept, implies_true, kept_ite, ite_self, kept_foldl]

theorem State.stdArm_kept (s : State) (e i : Nat) : (s.stdArm e i).1.kept = s.kept := by
  simp only [State.stdArm, State.piLoop_kept]

theorem State.writePlan_kept (s : State) (e i : Nat) (neg dir : Bool) (rot : Nat) (plan : List (Nat × Int)) :
    (s.writePlan e i neg dir rot plan).kept = s.kept := by
  simp only [State.writePlan, State.putMem_kept, State.putMems_kept, implies_true, kept_ite, ite_self, kept_foldl]

theorem State.stdRot_kept (s : State) (e i : Nat) : (s.stdRot e i).1.kept = s.kept := by
  simp only [State.stdRot, State.putMem_kept]

theorem State.stdEdges_kept (s : State) (e i rot : Nat) (u imeas vbar : W40) :
    (s.stdEdges e i rot u imeas vbar).1.kept = s.kept := by
  simp only [State.stdEdges, State.putMem_kept, State.setPflag_kept, State.stdRecord_kept, State.writePlan_kept,
      kept_ite, ite_self]

theorem State.stdCheck_kept (s : State) (e k arm : Nat) (fails : Bool) :
    (s.stdCheck e k arm fails).kept = s.kept := by
  simp only [State.stdCheck, State.putMem_kept, State.putMems_kept, State.stdRecord_kept, kept_ite, ite_self]

theorem State.stdBreakRuns_kept (s : State) (e : Nat) : (s.stdBreakRuns e).kept = s.kept := by
  simp only [State.stdBreakRuns, State.putMem_kept, implies_true, kept_foldl]

theorem State.stdObserve_kept (s : State) (e i : Nat) (u imeas emeas : W40) :
    (s.stdObserve e i u imeas emeas).1.kept = s.kept := by
  simp only [State.stdObserve, State.putMem_kept]

theorem State.stdSummary_kept (s : State) (e i trig : Nat) (emeas iref u n : W40) (eFail kFail : Bool) :
    (s.stdSummary e i trig emeas iref u n eFail kFail).kept = s.kept := by
  simp only [State.stdSummary, State.putMems_kept]

theorem State.stdIdle_kept (s : State) (e trig : Nat) (eUp eLo : W40) : (s.stdIdle e trig eUp eLo).kept = s.kept := by
  simp only [State.stdIdle, State.putMem_kept, State.stdSummary_kept]

theorem State.stdVolley_kept (s : State) (e : Nat) : (s.stdVolley e).kept = s.kept := by
  unfold State.stdVolley
  dsimp -zeta only
  have h0 := State.stdBank_kept s e
  refine kept_ite_of ((State.stdIdle_kept _ _ _ _ _).trans ((kept_ite_of rfl ?_).trans h0)) ?_
  · rw [State.setPflag_kept, State.stdRecord_kept]
  extract_lets s1 m waits s2 blocked s3 s4 s5 s6 s7 kcl fK s8
  have h2 : s2.kept = s.kept := by
    simp only [s2, s1, State.holdKeys_kept, State.stdEvents_kept, State.stdTracker_kept, State.setPflag_kept, h0]
  clear_value s1 s2
  have h3 : s3.kept = s.kept := kept_ite_of ((State.stdDeblock_kept _ _ _ _).trans h2) h2
  clear_value s3
  have h4 : s4.kept = s.kept := (State.setPflag_kept _ _ _ _).trans h3
  clear_value s4
  have h5 : s5.kept = s.kept := kept_ite_of ((State.stdBreakRuns_kept _ _).trans h4) h4
  clear_value s5
  have h6 : s6.kept = s.kept := kept_ite_of (by rw [State.setPflag_kept, State.setPflag_kept, h5]) h5
  clear_value s6
  have h7 : s7.kept = s.kept := by rw [State.stdOuter_kept, State.stdProfiles_kept, h6]
  clear_value s7
  refine kept_ite_of ?_ ?_
  · rw [State.stdIdle_kept, State.stdRot_kept, State.stdRot_kept, h7]
  · simp only [s8, State.stdSummary_kept, State.stdCheck_kept, State.stdObserve_kept, State.stdEdges_kept,
      State.stdArm_kept, State.stdRot_kept, h7]

/-! ### Machine/Returns -/

theorem State.imagePut_kept (s : State) (c p : Nat) (v : BitVec 40) : (s.imagePut c p v).kept = s.kept := by
  simp only [State.imagePut, kept_mk, mk_kept]

theorem State.imageForget_kept (s : State) (c : Nat) : (s.imageForget c).kept = s.kept := by
  simp only [State.imageForget, kept_mk, mk_kept]

theorem State.freshDone_kept (s : State) (c : Nat) (r : FreshRead) (st : Status) (detail : Nat) :
    (s.freshDone c r st detail).kept = s.kept := by
  simp only [State.freshDone]
  (repeat' split) <;> simp only [State.setCell_kept, State.done_kept, State.dma_kept]

theorem State.freshFromImage_kept (s : State) (c : Nat) : (s.freshFromImage c).kept = s.kept := by
  simp only [State.freshFromImage, State.freshDone_kept, implies_true, kept_foldl]

theorem State.failOut_kept (s : State) (c cause : Nat) : (s.failOut c cause).kept = s.kept := by
  unfold State.failOut
  split <;> simp only [State.setCell_kept, State.writeFailed_kept, State.endWrite_kept, kept_ite, ite_self]

theorem State.writeDone_kept (s : State) (c : Nat) (o : OutWrite) : (s.writeDone c o).kept = s.kept := by
  simp only [State.writeDone, State.endWrite_kept, State.bindDone_kept, State.imagePut_kept, kept_ite, ite_self]

theorem State.pointMissing_kept (s : State) (c : Nat) (q : PointReq) : (s.pointMissing c q).kept = s.kept := by
  simp only [State.pointMissing, State.dueReq_kept, State.dueBack_kept, kept_ite, ite_self]

theorem State.unknownTag_kept (s : State) (c : Nat) (o : OutWrite) : (s.unknownTag c o).kept = s.kept := by
  simp only [State.unknownTag, State.setCell_kept, State.dueReq_kept, kept_ite, ite_self]

theorem State.pointAnswer_kept (s : State) (c : Nat) (q : PointReq) (r : Return) :
    (s.pointAnswer c q r).kept = s.kept := by
  simp only [State.pointAnswer, State.freshDone_kept, State.pointMissing_kept, implies_true, kept_ite, ite_self,
      kept_foldl]
  (repeat' split) <;> simp only [State.setCell_kept, State.dueReq_kept, State.dueBack_kept, State.failOut_kept,
      State.writeDone_kept, State.unknownTag_kept]

theorem State.pointPart_kept (s : State) (c : Nat) (r : Return) : (s.pointPart c r).kept = s.kept := by
  simp only [State.pointPart]
  (repeat' split) <;> simp only [State.setCell_kept, State.imagePut_kept, State.freshDone_kept,
      State.pointMissing_kept, State.pointAnswer_kept, implies_true, kept_foldl]

@[simp] theorem execWriteTimeout_kept (spoke : Fin 128) (slot : Fin 96) (s : State) :
    KeptBy s (execWriteTimeout spoke slot s) := by
  simp only [execWriteTimeout, keptBy_next]
  (repeat' split) <;> simp only [State.failOut_kept]

@[simp] theorem execFreshReadTimeout_kept (fn : Fin 256) (index : BitVec 16) (s : State) :
    KeptBy s (execFreshReadTimeout fn index s) := by
  simp only [execFreshReadTimeout, keptBy_next]
  (repeat' split) <;> simp only [State.freshDone_kept]

theorem State.dropCell_kept (s : State) (c : Nat) : (s.dropCell c).kept = s.kept := by
  simp only [State.dropCell, State.setCell_kept, State.raise_kept, State.postCell_kept, State.showSpoke_kept,
      State.due_kept, State.failWrites_kept, kept_ite, ite_self]

theorem State.rerangeCell_kept (s : State) (c : Nat) : (s.rerangeCell c).kept = s.kept := by
  simp only [State.rerangeCell, State.setCell_kept, State.raise_kept, State.noteNofit_kept, State.showCells_kept,
      State.adjust_kept, State.retail_kept, State.dropCell_kept, kept_ite, ite_self]

theorem State.notePlace_kept (s : State) (c : Nat) (off : Int) (good missing : Bool) :
    (s.notePlace c off good missing).kept = s.kept := by
  simp only [State.notePlace, State.setCell_kept]

theorem State.admitCell_kept (s : State) (c : Nat) : (s.admitCell c).kept = s.kept := by
  simp only [State.admitCell, State.setSpoke_kept, State.setCell_kept, State.showSpoke_kept, State.showCells_kept,
      State.dueReq_kept, State.bindCell_kept, State.imageForget_kept, kept_ite, ite_self]

theorem State.countSwitch_kept (s : State) (c : Nat) (sw : BitVec 16) : (s.countSwitch c sw).kept = s.kept := by
  simp only [State.countSwitch]
  (repeat' split) <;> simp only [State.bump_kept, State.setCell_kept]

theorem State.loss_kept (s : State) (c : Nat) (r : Return) : (s.loss c r).kept = s.kept := by
  simp only [State.loss, State.setCell_kept, State.startWrite_kept, kept_ite, ite_self]

theorem State.useReturn_kept (s : State) (c : Nat) (r : Return) (stale : Bool) :
    (s.useReturn c r stale).kept = s.kept := by
  simp only [State.useReturn, State.setCell_kept, State.countSwitch_kept, State.loss_kept, kept_ite, ite_self]

theorem State.countHunt_kept (s : State) (other : Bool) : (s.countHunt other).kept = s.kept := by
  unfold State.countHunt
  split <;> simp only [kept_ite, ite_self, kept_mk, mk_kept]

theorem State.hear_kept (s : State) (n : Nat) (off : Int) : (s.hear n off).kept = s.kept := by
  simp only [State.hear, State.setSpoke_kept, kept_ite, ite_self]

theorem State.adoptCell_kept (s : State) (c : Nat) (r : Return) : (s.adoptCell c r).kept = s.kept := by
  simp only [State.adoptCell, State.setCell_kept, State.freeNat_kept, State.showSpoke_kept, State.showCells_kept,
      kept_ite, ite_self]

theorem State.hearBinding_kept (s : State) (c : Nat) (v : BitVec 40) : (s.hearBinding c v).kept = s.kept := by
  simp only [State.hearBinding, State.showBound_kept, kept_ite]
  (repeat' split) <;> simp only [State.wr_kept, State.setCell_kept]

theorem State.pertDrop_kept (s : State) (n k : Nat) : (s.pertDrop n k).2.kept = s.kept := by
  simp only [State.pertDrop, State.setSpoke_kept, kept_ite, ite_self]

theorem State.pertCrc_kept (s : State) (n : Nat) : (s.pertCrc n).2.kept = s.kept := by
  simp only [State.pertCrc, State.setSpoke_kept, kept_ite, ite_self]

theorem State.noLockAt_kept (s : State) (c : Nat) : (s.noLockAt c).kept = s.kept := by
  simp only [State.noLockAt, State.bump_kept, State.setCell_kept, kept_ite, ite_self]

theorem State.burstLocked_kept (s : State) (n : Nat) : (s.burstLocked n).kept = s.kept := by
  simp only [State.burstLocked, State.bumpWrap_kept, State.setSpoke_kept, State.spokeLoss_kept, kept_ite, ite_self]

theorem State.noteFault_kept (s : State) (c : Nat) (fault : BitVec 5) : (s.noteFault c fault).kept = s.kept := by
  simp only [State.noteFault, State.setCell_kept, State.faultTap_kept, kept_ite, ite_self]

theorem State.misplaced_kept (s : State) (c : Nat) (off : Int) (r : Return) :
    (s.misplaced c off r).kept = s.kept := by
  simp only [State.misplaced, State.bump_kept, State.setCell_kept, State.rerangeCell_kept, State.notePlace_kept,
      State.noteFault_kept, kept_ite, ite_self]

theorem State.ownReturn_kept (s : State) (c : Nat) (off : Int) (r : Return) :
    (s.ownReturn c off r).kept = s.kept := by
  simp only [State.ownReturn, State.bump_kept, State.setCell_kept, State.pointPart_kept, State.rerangeCell_kept,
      State.notePlace_kept, State.admitCell_kept, State.useReturn_kept, State.adoptCell_kept,
      State.hearBinding_kept, kept_ite, ite_self]

theorem State.foreignReturn_kept (s : State) (c : Nat) (off : Int) : (s.foreignReturn c off).kept = s.kept := by
  simp only [State.foreignReturn, State.bump_kept, State.setCell_kept, State.raise_kept, State.notePlace_kept,
      kept_ite, ite_self]

theorem State.lockedReturn_kept (s : State) (c : Nat) (off : Int) (r : Return) :
    (s.lockedReturn c off r).kept = s.kept := by
  simp only [State.lockedReturn, State.bump_kept, State.setCell_kept, State.countHunt_kept, State.hear_kept,
      State.burstLocked_kept, State.noteFault_kept, State.misplaced_kept, State.ownReturn_kept,
      State.foreignReturn_kept, kept_ite, ite_self]

@[simp] theorem execReturnBurstReceive_kept (spoke : Fin 128) (slot : Fin 96) (off : Int) (bits : List Bool) (s :
    State) :
    KeptBy s (execReturnBurstReceive spoke slot off bits s) := by
  simp only [execReturnBurstReceive]
  (repeat' split) <;> simp only [State.pertDrop_kept, State.pertCrc_kept, State.noLockAt_kept,
      State.lockedReturn_kept, keptBy_next]

@[simp] theorem execSlotNoLock_kept (spoke : Fin 128) (slot : Fin 96) (s : State) :
    KeptBy s (execSlotNoLock spoke slot s) := by
  simp only [execSlotNoLock, State.noLockAt_kept, keptBy_next]

theorem State.closeCell_kept (s : State) (c : Nat) : (s.closeCell c).kept = s.kept := by
  simp only [State.closeCell, kept_ite]
  (repeat' split) <;> simp only [State.setCell_kept, State.pointMissing_kept]

theorem State.closeSpoke_kept (s : State) (n : Nat) : (s.closeSpoke n).kept = s.kept := by
  simp only [State.closeSpoke]
  (repeat' split) <;> simp only [State.wr_kept, State.setSpoke_kept]

theorem State.recCell_kept (s : State) (c : Nat) : (s.recCell c).kept = s.kept := by
  simp only [State.recCell]
  (repeat' split) <;> simp only [State.setCell_kept, State.recAll_kept]

theorem State.sampleLate_kept (s : State) (c : Nat) : (s.sampleLate c).kept = s.kept := by
  simp only [State.sampleLate, State.bump_kept, State.setCell_kept, State.raise_kept, kept_ite, ite_self]

theorem State.forgetLate_kept (s : State) : s.forgetLate.kept = s.kept := by
  simp only [State.forgetLate, kept_mk, mk_kept]

@[simp] theorem execReturnWindowClose_kept (s : State) : KeptBy s (execReturnWindowClose s) := by
  unfold execReturnWindowClose
  split <;> simp only [State.faultWindow_kept, State.closeCell_kept, State.closeSpoke_kept, State.recCell_kept,
      State.sampleLate_kept, State.forgetLate_kept, keptBy_next, implies_true, kept_mk, mk_kept, kept_foldl]

@[simp] theorem execCellLost_kept (spoke : Fin 128) (slot : Fin 96) (s : State) :
    KeptBy s (execCellLost spoke slot s) := by
  simp only [execCellLost, State.setCell_kept, State.raise_kept, State.postCell_kept, State.failWrites_kept,
      keptBy_next, kept_ite, ite_self]

@[simp] theorem execCellAutoResume_kept (spoke : Fin 128) (slot : Fin 96) (s : State) :
    KeptBy s (execCellAutoResume spoke slot s) := by
  simp only [execCellAutoResume, State.setCell_kept, State.due_kept, keptBy_next, kept_ite, ite_self]

@[simp] theorem execAdmissionTimeout_kept (spoke : Fin 128) (slot : Fin 96) (s : State) :
    KeptBy s (execAdmissionTimeout spoke slot s) := by
  simp only [execAdmissionTimeout, State.due_kept, State.freeCell_kept, keptBy_next, kept_ite, ite_self]

@[simp] theorem execBudgetWindowEnd_kept (arm : Fin 48) (s : State) : KeptBy s (execBudgetWindowEnd arm s) := by
  simp only [execBudgetWindowEnd, keptBy_next, kept_ite, ite_self, kept_mk, mk_kept]

@[simp] theorem execDiscoveryOffer_kept (spoke : Fin 128) (doff : Nat) (s : State) :
    KeptBy s (execDiscoveryOffer spoke doff s) := by
  simp only [execDiscoveryOffer, State.setSpoke_kept, State.due_kept, keptBy_next, kept_ite, ite_self]

theorem State.refuseCell_kept (s : State) (n : Nat) (slot : Option Nat) (uid : BitVec 48) (reason : Nat) :
    (s.refuseCell n slot uid reason).kept = s.kept := by
  unfold State.refuseCell
  split <;> simp only [State.freeNat_kept, State.raise_kept, State.postEvent_kept, State.postCell_kept,
      State.due_kept, implies_true, kept_ite, ite_self, kept_foldl]

theorem State.assignCell_kept (s : State) (n : Nat) (d : Discovery) (d2 : Int) :
    (s.assignCell n d d2).kept = s.kept := by
  simp only [State.assignCell]
  (repeat' split) <;> simp only [State.setCell_kept, State.noteNofit_kept, State.showSpoke_kept, State.due_kept,
      State.adjustAtGc_kept, State.retail_kept, State.freeCell_kept, State.refuseCell_kept, implies_true, kept_ite,
      ite_self, kept_foldl]

@[simp] theorem execDiscoveryBurst_kept (spoke : Fin 128) (tp : Int) (bits : List Bool) (s : State) :
    KeptBy s (execDiscoveryBurst spoke tp bits s) := by
  simp only [execDiscoveryBurst, keptBy_next]
  (repeat' split) <;> simp only [State.raise_kept, State.assignCell_kept]

theorem State.bindWrite_kept (s : State) (n k : Nat) (high : Bool) (v : Nat) :
    (s.bindWrite n k high v).kept = s.kept := by
  simp only [State.bindWrite, State.wr_kept, State.wrs_kept, State.raise_kept, kept_ite, ite_self]

@[simp] theorem execVlyBindWrite_kept (u : Core) (spoke : Fin 128) (slot : Fin 96) (high : Bool) (value : Reg32) (s
    : State) :
    KeptBy s (execVlyBindWrite u spoke slot high value s) := by
  simp only [execVlyBindWrite, State.asWriter_kept, State.bindWrite_kept, keptBy_next, implies_true]

theorem State.mapWrite_kept (s : State) (n k a : Nat) (fb valid : Bool) :
    (s.mapWrite n k a fb valid).kept = s.kept := by
  simp only [State.mapWrite, State.wrs_kept, State.raise_kept, State.bindCell_kept, State.evaluate_kept, kept_ite,
      ite_self]

@[simp] theorem execVlyArmmapWrite_kept (u : Core) (spoke : Fin 128) (slot : Fin 96) (arm : BitVec 6) (fb valid :
    Bool) (s : State) :
    KeptBy s (execVlyArmmapWrite u spoke slot arm fb valid s) := by
  simp only [execVlyArmmapWrite, State.asWriter_kept, State.mapWrite_kept, keptBy_next, implies_true]

/-! ### Machine/HostCheck -/

theorem State.setSession_kept (s : State) (h : BitVec 16) (k : Session → Session) :
    (s.setSession h k).kept = s.kept := by
  simp only [State.setSession, kept_mk, mk_kept]

theorem State.countAuth_kept (s : State) (d : Descr) (ok : Bool) : (s.countAuth d ok).kept = s.kept := by
  simp only [State.countAuth, State.bump_kept, kept_ite, ite_self]

theorem State.authFailed_kept (s : State) (f : Nat) (h : BitVec 16) : (s.authFailed f h).kept = s.kept := by
  simp only [State.authFailed]
  (repeat' split) <;> simp only [State.endSession_kept, State.setSession_kept]

theorem State.checkAuth_kept (s : State) (f : Nat) (d : Descr) (x : Session) :
    (s.checkAuth f d x).1.kept = s.kept := by
  simp only [State.checkAuth]
  (repeat' split) <;> simp only [State.bump_kept, State.setSession_kept, State.countAuth_kept, State.authFailed_kept]

theorem State.checkDescr_kept (s : State) (f index : Nat) (d : Descr) : (s.checkDescr f index d).1.kept = s.kept := by
  simp only [State.checkDescr]
  (repeat' split) <;> simp only [State.checkAuth_kept]

/-! ### Machine/Sec -/

theorem State.drawHandle_kept (s : State) : s.drawHandle.2.kept = s.kept := by
  simp only [State.drawHandle, State.freeNat_kept]

theorem State.openSession_kept (s : State) (f : Nat) (x : InFlight) (reply : BitVec 64) (g : Grant) :
    (s.openSession f x reply g).kept = s.kept := by
  simp only [State.openSession]
  (repeat' split) <;> simp only [State.bump_kept, State.raise_kept, State.showSessions_kept, State.done_kept,
      State.dma_kept, State.drawKey_kept, State.drawHandle_kept, kept_mk, mk_kept]

theorem State.withDescr_kept (s : State) (f : Nat) (index : BitVec 16) (k : InFlight → State) (hk : ∀ x,
    (k x).kept = s.kept) :
    (s.withDescr f index k).kept = s.kept := by
  unfold State.withDescr
  split
  · exact hk _
  · rfl

@[simp] theorem execSessionOpen_kept (fn : Fin 256) (index : BitVec 16) (s : State) :
    KeptBy s (execSessionOpen fn index s) := by
  refine (keptBy_next _ _).2 (State.withDescr_kept _ _ _ _ fun x => ?_)
  split
  · exact State.openSession_kept _ _ _ _ _
  · rfl

@[simp] theorem execSessionClose_kept (fn : Fin 256) (index : BitVec 16) (s : State) :
    KeptBy s (execSessionClose fn index s) := by
  refine (keptBy_next _ _).2 (State.withDescr_kept _ _ _ _ fun x => ?_)
  split
  · simp only [kept_ite, State.done_kept, State.endSession_kept, ite_self]
  · rfl

@[simp] theorem execSessionExpiry_kept (handle : BitVec 16) (s : State) : KeptBy s (execSessionExpiry handle s) := by
  unfold execSessionExpiry
  split <;> simp only [State.endSession_kept, keptBy_next, kept_ite, ite_self]

theorem State.countSigs_kept (s : State) (r : Refused) (o : CustObject) : (s.countSigs r o).kept = s.kept := by
  simp only [State.countSigs, State.bump_kept, implies_true, kept_ite, ite_self, kept_foldl]

theorem State.refuseObject_kept (s : State) (f : Nat) (x : InFlight) (r : Status × Nat) :
    (s.refuseObject f x r).kept = s.kept := by
  simp only [State.refuseObject, State.bump_kept, State.raise_kept, State.done_kept]

theorem State.putWords_kept (s : State) (g : Nat → Field) (ws : List (BitVec 32)) :
    (s.putWords g ws).kept = s.kept := by
  simp only [State.putWords, State.wr_kept, implies_true, kept_foldl]

theorem State.applyCap_kept (s : State) (rs : List (List (BitVec 32))) : (s.applyCap rs).kept = s.kept := by
  simp only [State.applyCap, State.setFn_kept, State.endSessions_kept, State.putWords_kept, implies_true, kept_ite,
      ite_self, kept_foldl]

theorem State.applyAuth_kept (s : State) (as : List (List (BitVec 32))) : (s.applyAuth as).kept = s.kept := by
  simp only [State.applyAuth, State.endSessions_kept, State.putWords_kept, implies_true, kept_ite, ite_self,
      kept_foldl]

theorem State.applyBundle_kept (s : State) (o : CustObject) : (s.applyBundle o).kept = s.kept := by
  simp only [State.applyBundle, State.wr_kept, State.raise_kept, implies_true, kept_mk, mk_kept, kept_foldl]
  (repeat' split) <;> simp only [State.applyCap_kept, State.applyAuth_kept, kept_mk, mk_kept]

theorem State.moveTo_kept (s : State) (lc : Nat) : (s.moveTo lc).kept = s.kept := by
  simp only [State.moveTo, State.raise_kept, State.showLifecycle_kept, State.endAllSessions_kept,
      State.joinTandem_kept, kept_mk, mk_kept]

theorem State.clearTamper_kept (s : State) : s.clearTamper.kept = s.kept := by
  simp only [State.clearTamper, State.wrs_kept, State.resetRange_kept, State.drawIdentity_kept, kept_ite, ite_self,
      kept_mk, mk_kept]

theorem State.orderReset_kept (s : State) (why : Nat) : (s.orderReset why).kept = s.kept := by
  simp only [State.orderReset, kept_mk, mk_kept]

theorem State.yieldFirst_kept (s : State) (f serial : Nat) : (s.yieldFirst f serial).kept = s.kept := by
  simp only [State.yieldFirst, State.wantYield_kept, State.setProgress_kept]

theorem State.wakeOpens_kept (s : State) : s.wakeOpens.kept = s.kept := by
  simp only [State.wakeOpens, State.refuseObject_kept, implies_true, kept_ite, ite_self, kept_mk, mk_kept, kept_foldl]

@[simp] theorem execTestPermit_kept (fn : Fin 256) (index : BitVec 16) (s : State) :
    KeptBy s (execTestPermit fn index s) := by
  refine (keptBy_next _ _).2 (State.withDescr_kept _ _ _ _ fun x => ?_)
  split
  · dsimp only
    split
    · rw [State.refuseObject_kept, State.countSigs_kept]
    · simp only [State.done_kept, kept_mk, mk_kept, State.wrs_kept, State.countSigs_kept]
  · rfl

@[simp] theorem execPermitLapse_kept (s : State) : KeptBy s (execPermitLapse s) := by
  simp only [execPermitLapse]
  (repeat' split) <;> simp only [State.raise_kept, State.pertEnd_kept, State.dropPermit_kept, keptBy_next]

@[simp] theorem execFuseReread_kept (reads : List FuseRead) (s : State) : KeptBy s (execFuseReread reads s) := by
  simp only [execFuseReread, State.raise_kept, State.wrBit_kept, State.addSticky_kept, keptBy_next, implies_true,
      kept_ite, ite_self, kept_foldl]

/-! ### Machine/Tandem -/

theorem State.setEpoch_kept (s : State) (e : BitVec 16) : (s.setEpoch e).kept = s.kept := by
  simp only [State.setEpoch, State.wrs_kept, State.saveSettings_kept]

theorem State.enterTnd_kept (s : State) (st : Nat) : (s.enterTnd st).kept = s.kept := by
  simp only [State.enterTnd, State.wr_kept, State.postAll_kept, kept_ite, ite_self, kept_mk, mk_kept]

theorem State.showSpokes_kept (s : State) : s.showSpokes.kept = s.kept := by
  simp only [State.showSpokes, State.showSpoke_kept, implies_true, kept_ite, ite_self, kept_foldl]

theorem State.showTwin_kept (s : State) : s.showTwin.kept = s.kept := by
  simp only [State.showTwin, State.wrB_kept]

theorem State.watching_kept (s : State) (k : State → State) (hk : ∀ s, (k s).kept = s.kept) :
    (s.watching k).kept = s.kept := by
  simp only [State.watching, hk, kept_ite, ite_self, kept_mk, mk_kept]

theorem State.takeoverDecision_kept (s : State) : s.takeoverDecision.kept = s.kept := by
  simp only [State.takeoverDecision, State.pertEnd_kept, kept_ite, ite_self, kept_mk, mk_kept]

@[simp] theorem execTkovHoldRecognised_kept (s : State) : KeptBy s (execTkovHoldRecognised s) := by
  simp only [execTkovHoldRecognised, State.wr_kept, State.enterTnd_kept, State.watching_kept, keptBy_next,
      implies_true, kept_ite, ite_self, kept_mk, mk_kept]

@[simp] theorem execTkovHoldLost_kept (s : State) : KeptBy s (execTkovHoldLost s) := by
  simp only [execTkovHoldLost, State.wr_kept, State.watching_kept, State.takeoverDecision_kept, keptBy_next,
      implies_true, kept_ite, ite_self, kept_mk, mk_kept]

@[simp] theorem execTkovReadyChange_kept (ready : Bool) (s : State) : KeptBy s (execTkovReadyChange ready s) := by
  simp only [execTkovReadyChange, State.showTwin_kept, keptBy_next, kept_ite, ite_self, kept_mk, mk_kept]

@[simp] theorem execTkovFault_kept (s : State) : KeptBy s (execTkovFault s) := by
  unfold execTkovFault
  split <;> simp only [State.raiseIf_kept, keptBy_next]

theorem State.keepFound_kept (s : State) : s.keepFound.kept = s.kept := by
  simp only [State.keepFound, State.setSpoke_kept, implies_true, kept_ite, ite_self, kept_foldl]

@[simp] theorem execStartRuleActive_kept (s : State) : KeptBy s (execStartRuleActive s) := by
  simp only [execStartRuleActive, State.wr_kept, State.setEpoch_kept, State.enterTnd_kept, State.showSpokes_kept,
      State.keepFound_kept, keptBy_next, kept_ite, ite_self, kept_mk, mk_kept]

@[simp] theorem execTakeoverTxEnable_kept (s : State) : KeptBy s (execTakeoverTxEnable s) := by
  unfold execTakeoverTxEnable
  split <;> simp only [State.wr_kept, State.enterTnd_kept, State.showSpokes_kept, State.keepFound_kept, keptBy_next,
      kept_ite, ite_self, kept_mk, mk_kept]

theorem State.takeoverReason_kept (s : State) (m : BitVec 8) : (s.takeoverReason m).2.kept = s.kept := by
  simp only [State.takeoverReason]
  (repeat' split) <;> simp only [State.freeNat_kept]

theorem State.takeOver_kept (s : State) : s.takeOver.kept = s.kept := by
  simp only [State.takeOver, State.wr_kept, State.bump_kept, State.setSpoke_kept, State.raise_kept,
      State.setEpoch_kept, State.takeoverReason_kept, implies_true, kept_ite, ite_self, kept_mk, mk_kept, kept_foldl]

@[simp] theorem execYieldCondition_kept (cond : Fin 6) (found : Mismatch) (s : State) :
    KeptBy s (execYieldCondition cond found s) := by
  unfold execYieldCondition
  split <;> simp only [State.raiseYield_kept, State.blockDecision_kept, keptBy_next, kept_ite, ite_self, kept_mk,
      mk_kept]

theorem State.yieldNow_kept (s : State) (cmd dual : Bool) : (s.yieldNow cmd dual).kept = s.kept := by
  simp only [State.yieldNow, State.wrs_kept, State.bump_kept, State.setSpoke_kept, State.raise_kept,
      State.failWrites_kept, State.freshFromImage_kept, State.wakeOpens_kept, State.enterTnd_kept,
      State.showSpokes_kept, implies_true, kept_ite, ite_self, kept_mk, mk_kept, kept_foldl]

theorem State.yieldIfDue_kept (s : State) : s.yieldIfDue.kept = s.kept := by
  unfold State.yieldIfDue
  split <;> simp only [State.raise_kept, State.yieldNow_kept, kept_ite, ite_self, kept_mk, mk_kept]

theorem State.tndSwitch_kept (s : State) : s.tndSwitch.kept = s.kept := by
  simp only [State.tndSwitch, State.raise_kept, State.wantYield_kept, kept_ite, ite_self]

@[simp] theorem execTndSwitch_kept (u : Core) (s : State) : KeptBy s (execTndSwitch u s) := by
  simp only [execTndSwitch, State.asWriter_kept, State.tndSwitch_kept, keptBy_next, implies_true]

theorem State.tndRejoin_kept (s : State) : s.tndRejoin.kept = s.kept := by
  simp only [State.tndRejoin, State.wr_kept, State.raise_kept, State.enterTnd_kept, kept_ite, ite_self]

@[simp] theorem execTndRejoin_kept (u : Core) (s : State) : KeptBy s (execTndRejoin u s) := by
  simp only [execTndRejoin, State.asWriter_kept, State.tndRejoin_kept, keptBy_next, implies_true]

theorem State.tndPartnerRst_kept (s : State) : s.tndPartnerRst.kept = s.kept := by
  simp only [State.tndPartnerRst, State.raise_kept, kept_ite, ite_self, kept_mk, mk_kept]

@[simp] theorem execTndPartnerRst_kept (u : Core) (s : State) : KeptBy s (execTndPartnerRst u s) := by
  simp only [execTndPartnerRst, State.asWriter_kept, State.tndPartnerRst_kept, keptBy_next, implies_true]

theorem State.tndCntClr_kept (s : State) : s.tndCntClr.kept = s.kept := by
  simp only [State.tndCntClr, State.wrs_kept]

@[simp] theorem execTndCntClr_kept (u : Core) (s : State) : KeptBy s (execTndCntClr u s) := by
  simp only [execTndCntClr, State.asWriter_kept, State.tndCntClr_kept, keptBy_next, implies_true]

@[simp] theorem execTndLock_kept (u : Core) (s : State) : KeptBy s (execTndLock u s) := by
  simp only [execTndLock, State.wr_kept, State.asWriter_kept, keptBy_next, implies_true]

theorem State.tndSync_kept (s : State) (n base len : Nat) : (s.tndSync n base len).kept = s.kept := by
  simp only [State.tndSync, State.wr_kept, State.wrs_kept, State.raise_kept, kept_ite, ite_self]

@[simp] theorem execTndSyncWrite_kept (u : Core) (n : Fin 32) (base : BitVec 15) (len : BitVec 11) (s : State) :
    KeptBy s (execTndSyncWrite u n base len s) := by
  simp only [execTndSyncWrite, State.asWriter_kept, State.tndSync_kept, keptBy_next, implies_true]

theorem State.setLanes_kept (s : State) (v : BitVec 4) : (s.setLanes v).kept = s.kept := by
  simp only [State.setLanes, State.wr_kept, State.wrs_kept, kept_mk, mk_kept]

@[simp] theorem execTandemLaneLost_kept (lane : Fin 4) (s : State) : KeptBy s (execTandemLaneLost lane s) := by
  simp only [execTandemLaneLost, State.raise_kept, State.raiseIf_kept, State.showTwin_kept, State.watching_kept,
      State.takeoverDecision_kept, State.setLanes_kept, keptBy_next, implies_true, kept_ite, ite_self]

@[simp] theorem execTandemLaneRejoin_kept (lane : Fin 4) (s : State) : KeptBy s (execTandemLaneRejoin lane s) := by
  simp only [execTandemLaneRejoin, State.showTwin_kept, State.watching_kept, State.setLanes_kept, keptBy_next,
      implies_true, kept_ite, ite_self]

theorem State.skew_kept (s : State) (n : Nat) (delta : Int) : (s.skew n delta).kept = s.kept := by
  unfold State.skew
  split <;> simp only [State.wrs_kept, State.raiseIf_kept]

@[simp] theorem execStatusFrameReceive_kept (f : StatusFrame) (s : State) :
    KeptBy s (execStatusFrameReceive f s) := by
  simp only [execStatusFrameReceive, State.wr_kept, State.wrs_kept, State.raiseIf_kept, State.spokeLoss_kept,
      State.showTwin_kept, State.watching_kept, State.skew_kept, keptBy_next, implies_true, kept_ite, ite_self,
      kept_mk, mk_kept, kept_foldl]

@[simp] theorem execShadowFrameReceive_kept (f : ShadowFrame) (s : State) :
    KeptBy s (execShadowFrameReceive f s) := by
  simp only [execShadowFrameReceive, State.wrs_kept, State.setSpoke_kept, State.gearSet_kept, keptBy_next,
      implies_true, kept_ite, ite_self, kept_mk, mk_kept, kept_foldl]

@[simp] theorem execYieldFrameReceive_kept (crcOk : Bool) (epoch : BitVec 16) (mask : BitVec 8) (s : State) :
    KeptBy s (execYieldFrameReceive crcOk epoch mask s) := by
  simp only [execYieldFrameReceive, State.wr_kept, State.takeoverDecision_kept, keptBy_next, kept_ite, ite_self,
      kept_mk, mk_kept]

theorem State.countClean_kept (s : State) : s.countClean.kept = s.kept := by
  simp only [State.countClean, State.wr_kept, State.bump_kept, kept_ite, ite_self]

@[simp] theorem execReadyReached_kept (s : State) : KeptBy s (execReadyReached s) := by
  simp only [execReadyReached, State.enterTnd_kept, keptBy_next, kept_ite, ite_self, kept_mk, mk_kept]

@[simp] theorem execReadinessLost_kept (s : State) : KeptBy s (execReadinessLost s) := by
  simp only [execReadinessLost, State.wr_kept, State.enterTnd_kept, keptBy_next, kept_ite, ite_self]

@[simp] theorem execDualActiveDetect_kept (s : State) : KeptBy s (execDualActiveDetect s) := by
  simp only [execDualActiveDetect, State.raise_kept, State.wantYield_kept, keptBy_next, kept_ite, ite_self]

@[simp] theorem execEpochHunt_kept (s : State) : KeptBy s (execEpochHunt s) := by
  unfold execEpochHunt
  split <;> simp only [State.raise_kept, State.setEpoch_kept, keptBy_next, kept_ite, ite_self, kept_mk, mk_kept]

/-! ### Machine/Window -/

theorem State.stream_kept (s : State) (e a : Nat) (ws : List W40) : (s.stream e a ws).kept = s.kept := by
  simp only [State.stream]
  (repeat' split) <;> simp only [State.setEng_kept]

theorem State.extracts_kept (s : State) (e : Nat) : (s.extracts e).kept = s.kept := by
  simp only [State.extracts, State.stream_kept, implies_true, kept_ite, ite_self, kept_foldl]

theorem State.streamInputs_kept (s : State) (e : Nat) (measured : List W40) :
    (s.streamInputs e measured).kept = s.kept := by
  simp only [State.streamInputs, State.setArm_kept, State.stream_kept, State.extracts_kept, implies_true, kept_foldl]

theorem State.shadowLate_kept (s : State) : s.shadowLate.kept = s.kept := by
  simp only [State.shadowLate, State.bump_kept, State.raise_kept, kept_ite, ite_self, kept_mk, mk_kept]

theorem State.applyShadow_kept (s : State) : s.applyShadow.kept = s.kept := by
  simp only [State.applyShadow, kept_ite]
  (repeat' split) <;> simp only [State.stream_kept, State.shadowLate_kept, implies_true, kept_mk, mk_kept, kept_foldl]

theorem State.clearValid_kept (s : State) (e : Nat) : (s.clearValid e).kept = s.kept := by
  simp only [State.clearValid, State.putMem_kept, implies_true, kept_ite, ite_self, kept_foldl]

theorem State.openEngine_kept (s : State) (e : Nat) (measured : List W40) (late : Bool) :
    (s.openEngine e measured late).kept = s.kept := by
  simp only [State.openEngine, State.bump_kept, State.raise_kept, State.setEng_kept, State.showEngine_kept,
      State.streamInputs_kept, State.clearValid_kept, kept_ite, ite_self]

@[simp] theorem execComputeWindowOpen_kept (late : BitVec 32) (s : State) :
    KeptBy s (execComputeWindowOpen late s) := by
  simp only [execComputeWindowOpen, State.wrB_kept, State.applyShadow_kept, State.openEngine_kept, keptBy_next,
      implies_true, kept_ite, ite_self, kept_mk, mk_kept, kept_foldl]

theorem State.recArms_kept (s : State) (e : Nat) : (s.recArms e).kept = s.kept := by
  simp only [State.recArms, State.recAll_kept, State.recFire_kept, implies_true, kept_ite, ite_self, kept_foldl]

theorem State.commitEngine_kept (s : State) (e tick : Nat) : (s.commitEngine e tick).kept = s.kept := by
  simp only [State.commitEngine, State.wrs_kept, State.clearYield_kept, State.eqStaged_kept, State.setEng_kept,
      State.recArms_kept, kept_ite, ite_self]

@[simp] theorem execCeDone_kept (e : Fin 32) (rd rs1 rs2 : BitVec 4) (tick : BitVec 17) (s : State) :
    KeptBy s (execCeDone e rd rs1 rs2 tick s) := by
  refine (keptBy_next _ _).2 (kept_ite_of rfl (kept_ite_of (State.illegal_kept _ _) ?_))
  extract_lets s1 std
  have h1 : s1.kept = s.kept := State.setEng_kept _ _ _
  clear_value s1
  refine kept_ite_of ?_ ((State.stopEngine_kept _ _).trans h1)
  rw [State.showEngine_kept, State.commitEngine_kept]
  exact (kept_ite_of (State.stdVolley_kept _ _) rfl).trans h1

/-! ### Machine/Assembly -/

theorem State.armShown_kept (s : State) (a rule fixed : Nat) : (s.armShown a rule fixed).kept = s.kept := by
  simp only [State.armShown, State.wrs_kept, State.raiseIf_kept]

theorem State.assembleArm_kept (s : State) (a : Nat) : (s.assembleArm a).1.kept = s.kept := by
  unfold State.assembleArm
  split <;> simp only [State.bump_kept, State.setArm_kept, State.raiseIf_kept, State.armShown_kept]

theorem State.assembleArms_kept (s : State) : s.assembleArms.1.kept = s.kept := by
  exact kept_foldl_fst _ _ _ fun p a => State.assembleArm_kept _ _

theorem State.noteSent_kept (s : State) (n : Nat) (x : Serve) : (s.noteSent n x).kept = s.kept := by
  refine (kept_foldl_fst _ _ _ fun p m => ?_).trans (kept_foldl _ _ _ fun s q => ?_)
  · split
    · exact State.setCell_kept _ _ _
    · rfl
  · simp only [kept_ite, State.dueBack_kept, State.setCell_kept, ite_self]

theorem State.assembleSpoke_kept (s : State) (outs : List ArmOut) (n : Nat) :
    (s.assembleSpoke outs n).kept = s.kept := by
  simp only [State.assembleSpoke, State.setSpoke_kept, State.noteSent_kept, kept_ite, ite_self]

theorem State.sendShadow_kept (s : State) : s.sendShadow.kept = s.kept := by
  simp only [State.sendShadow, kept_ite, ite_self, kept_mk, mk_kept]

theorem State.deadline_kept (s : State) (e : Nat) : (s.deadline e).kept = s.kept := by
  simp only [State.deadline, State.setEng_kept, State.showEngine_kept, State.overrun_kept, kept_ite, ite_self]

theorem State.assembleAll_kept (s : State) : s.assembleAll.kept = s.kept := by
  simp only [State.assembleAll, State.assembleArms_kept, State.assembleSpoke_kept, implies_true, kept_foldl]

theorem State.assembleServes_kept (s : State) : s.assembleServes.kept = s.kept := by
  unfold State.assembleServes
  extract_lets t
  have ht : t.kept = s.kept := State.assembleAll_kept s
  split
  · exact ht
  · rw [State.assembleAll_kept, kept_foldl _ _ _ fun s c => State.setCell_kept _ _ _]

@[simp] theorem execServeAssemblyStart_kept (s : State) : KeptBy s (execServeAssemblyStart s) := by
  simp only [execServeAssemblyStart, State.examineReleases_kept, State.sendShadow_kept, State.deadline_kept,
      State.assembleServes_kept, keptBy_next, implies_true, kept_ite, ite_self, kept_mk, mk_kept, kept_foldl]

/-! ### Machine/Opcodes -/

@[simp] theorem execHostNop_kept (fn : Fin 256) (index : BitVec 16) (s : State) :
    KeptBy s (execHostNop fn index s) := by
  refine (keptBy_next _ _).2 (State.withDescr_kept _ _ _ _ fun x => ?_)
  split
  · exact State.done_kept _ _ _ _ _ _
  · rfl

@[simp] theorem execReadPoints_kept (fn : Fin 256) (index : BitVec 16) (s : State) :
    KeptBy s (execReadPoints fn index s) := by
  refine (keptBy_next _ _).2 (State.withDescr_kept _ _ _ _ fun x => ?_)
  split
  · simp only [kept_ite, State.done_kept, State.dma_kept, State.dueReq_kept, State.setCell_kept,
      State.setProgress_kept, ite_self]
  · rfl

@[simp] theorem execReadLink_kept (fn : Fin 256) (index : BitVec 16) (s : State) :
    KeptBy s (execReadLink fn index s) := by
  refine (keptBy_next _ _).2 (State.withDescr_kept _ _ _ _ fun x => ?_)
  split
  · rw [State.done_kept, State.dma_kept]
  · rfl

theorem State.putStream_kept (s : State) (f k : Nat) (st : Stream) : (s.putStream f k st).kept = s.kept := by
  simp only [State.putStream, State.setFn_kept]

@[simp] theorem execStreamOpen_kept (fn : Fin 256) (index : BitVec 16) (s : State) :
    KeptBy s (execStreamOpen fn index s) := by
  refine (keptBy_next _ _).2 (State.withDescr_kept _ _ _ _ fun x => ?_)
  split
  · simp only [kept_ite, State.done_kept, State.putStream_kept, State.wrBit_kept, ite_self]
  · rfl

@[simp] theorem execStreamClose_kept (fn : Fin 256) (index : BitVec 16) (s : State) :
    KeptBy s (execStreamClose fn index s) := by
  refine (keptBy_next _ _).2 (State.withDescr_kept _ _ _ _ fun x => ?_)
  split
  · rw [State.done_kept, State.endStream_kept]
  · rfl

theorem State.bulkBack_kept (s : State) (f used stream : Nat) (last : Bool) :
    (s.bulkBack f used stream last).kept = s.kept := by
  simp only [State.bulkBack, State.wr_kept, State.setFn_kept, State.signal_kept, kept_ite, ite_self, kept_mk, mk_kept]

theorem State.fillCapture_kept (s : State) (f k : Nat) (st : Stream) (e : BulkEntry) :
    (s.fillCapture f k st e).kept = s.kept := by
  simp only [State.fillCapture]
  (repeat' split) <;> simp only [State.endStream_kept, State.dma_kept, State.recFree_kept, State.putStream_kept,
      State.bulkBack_kept]

theorem State.fillLog_kept (s : State) (f k : Nat) (st : Stream) (e : BulkEntry) :
    (s.fillLog f k st e).kept = s.kept := by
  simp only [State.fillLog, State.postEvent_kept, State.dma_kept, State.putStream_kept, State.bulkBack_kept,
      kept_ite, ite_self]

@[simp] theorem execBulkBufferFill_kept (fn : Fin 256) (entry : List (BitVec 8)) (s : State) :
    KeptBy s (execBulkBufferFill fn entry s) := by
  simp only [execBulkBufferFill]
  (repeat' split) <;> simp only [State.bulkBack_kept, State.fillCapture_kept, State.fillLog_kept, keptBy_next]

@[simp] theorem execSetpoint_kept (fn : Fin 256) (index : BitVec 16) (s : State) :
    KeptBy s (execSetpoint fn index s) := by
  refine (keptBy_next _ _).2 (State.withDescr_kept _ _ _ _ fun x => ?_)
  split
  · split
    · exact State.complete_kept _ _ _ _ _ _ _
    · simp only [kept_ite, State.done_kept, State.complete_kept, State.putSetpoint_kept, ite_self]
  · rfl

@[simp] theorem execEmergencyBlock_kept (fn : Fin 256) (index : BitVec 16) (s : State) :
    KeptBy s (execEmergencyBlock fn index s) := by
  refine (keptBy_next _ _).2 ?_
  split
  · split
    · rw [State.blockDecision_kept, State.setFn_kept]
    · rfl
  · refine State.withDescr_kept _ _ _ _ fun x => ?_
    split
    · rw [State.done_kept, State.blockDecision_kept]
    · rfl

@[simp] theorem execPointWrite_kept (fn : Fin 256) (index : BitVec 16) (s : State) :
    KeptBy s (execPointWrite fn index s) := by
  refine (keptBy_next _ _).2 (State.withDescr_kept _ _ _ _ fun x => ?_)
  split
  · simp only [kept_ite, State.done_kept, State.startWrite_kept, State.setCell_kept, State.writeFailed_kept, ite_self]
  · rfl

@[simp] theorem execCfgDmem_kept (fn : Fin 256) (index : BitVec 16) (s : State) :
    KeptBy s (execCfgDmem fn index s) := by
  refine (keptBy_next _ _).2 (State.withDescr_kept _ _ _ _ fun x => ?_)
  split
  · rw [State.done_kept, kept_foldl _ _ _ fun s i => State.putMem_kept _ _ _ _]
  · rfl

@[simp] theorem execCeLoad_kept (fn : Fin 256) (index : BitVec 16) (s : State) :
    KeptBy s (execCeLoad fn index s) := by
  refine (keptBy_next _ _).2 (State.withDescr_kept _ _ _ _ fun x => ?_)
  split
  · simp only [kept_ite, State.done_kept, State.loadContainer_kept, ite_self]
  · rfl

theorem State.cellCtl_kept (s : State) (f : Nat) (index : BitVec 16) (want : Nat) :
    (s.cellCtl f index want).kept = s.kept := by
  refine State.withDescr_kept _ _ _ _ fun x => ?_
  split
  · simp only [kept_ite, State.done_kept, State.due_kept, State.freeCell_kept, ite_self]
  · rfl

@[simp] theorem execCellCtlRelease_kept (fn : Fin 256) (index : BitVec 16) (s : State) :
    KeptBy s (execCellCtlRelease fn index s) := by
  simp only [execCellCtlRelease, State.cellCtl_kept, keptBy_next]

@[simp] theorem execCellCtlResume_kept (fn : Fin 256) (index : BitVec 16) (s : State) :
    KeptBy s (execCellCtlResume fn index s) := by
  simp only [execCellCtlResume, State.cellCtl_kept, keptBy_next]

@[simp] theorem execBlockRelease_kept (fn : Fin 256) (index : BitVec 16) (s : State) :
    KeptBy s (execBlockRelease fn index s) := by
  refine (keptBy_next _ _).2 (State.withDescr_kept _ _ _ _ fun x => ?_)
  split
  · rw [State.setProgress_kept, State.requestRelease_kept]
  · rfl

@[simp] theorem execResetCmd_kept (fn : Fin 256) (index : BitVec 16) (s : State) :
    KeptBy s (execResetCmd fn index s) := by
  refine (keptBy_next _ _).2 (State.withDescr_kept _ _ _ _ fun x => ?_)
  split
  · split
    · exact State.done_kept _ _ _ _ _ _
    · rename_i t ht
      exact (State.done_kept _ _ _ _ _ _).trans (State.signedReset_kept _ _ _ t ht)
  · rfl

theorem State.eraseStaging_kept (s : State) (fl : Nat) : (s.eraseStaging fl).kept = s.kept := by
  simp only [State.eraseStaging, State.wr_kept, State.setFlash_kept, kept_ite, ite_self]

theorem State.stagePiece_kept (s : State) (f fl got : Nat) (final : Bool) (im : Image) :
    (s.stagePiece f fl got final im).1.kept = s.kept := by
  simp only [State.stagePiece]
  (repeat' split) <;> simp only [State.wr_kept, State.setFlash_kept, State.endStaging_kept, State.eraseStaging_kept,
      kept_mk, mk_kept]

@[simp] theorem execFwStage_kept (fn : Fin 256) (index : BitVec 16) (s : State) :
    KeptBy s (execFwStage fn index s) := by
  refine (keptBy_next _ _).2 (State.withDescr_kept _ _ _ _ fun x => ?_)
  split
  · simp only [kept_ite, State.done_kept, State.stagePiece_kept, State.eraseStaging_kept, ite_self]
  · rfl

/-! ### Machine/Irq -/

theorem State.setIrqCore_kept (s : State) (t : Nat) (f : IrqCore → IrqCore) : (s.setIrqCore t f).kept = s.kept := by
  simp only [State.setIrqCore, kept_mk, mk_kept]

theorem State.irqPend_kept (s : State) (n : Nat) : (s.irqPend n).kept = s.kept := by
  simp only [State.irqPend, State.wr_kept, kept_ite, ite_self, kept_mk, mk_kept]

@[simp] theorem execIrqSourcePending_kept (source : Fin 1024) (s : State) :
    KeptBy s (execIrqSourcePending source s) := by
  simp only [execIrqSourcePending]
  (repeat' split) <;> simp only [State.bump_kept, State.irqPend_kept, keptBy_next]

@[simp] theorem execIrqSwi_kept (core : Fin 28) (value : Reg32) (s : State) : KeptBy s (execIrqSwi core value s) := by
  simp only [execIrqSwi, State.irqPend_kept, keptBy_next, kept_ite, ite_self]

theorem State.showIrqCore_kept (s : State) (t : Nat) : (s.showIrqCore t).kept = s.kept := by
  simp only [State.showIrqCore, State.wrs_kept]

theorem State.irqTake_kept (s : State) (t n : Nat) : (s.irqTake t n).kept = s.kept := by
  simp only [State.irqTake, State.wrs_kept, State.setIrqCore_kept, State.showIrqCore_kept]

@[simp] theorem execIrqClaim_kept (core : Fin 28) (s : State) : KeptBy s (execIrqClaim core s) := by
  unfold execIrqClaim
  dsimp only
  split
  · exact (keptBy_next _ _).2 ((State.setIrqCore_kept _ _ _).trans (State.irqTake_kept _ _ _))
  · exact (keptBy_next _ _).2 (State.setIrqCore_kept _ _ _)

@[simp] theorem execVectoredEntry_kept (core : Fin 28) (s : State) : KeptBy s (execVectoredEntry core s) := by
  unfold execVectoredEntry
  dsimp only
  split
  · refine keptBy_ite _ ((keptBy_next _ _).2 ?_) ((keptBy_next _ _).2 (State.setIrqCore_kept _ _ _))
    exact (State.setIrqCore_kept _ _ _).trans (State.irqTake_kept _ _ _)
  · exact (keptBy_next _ _).2 (State.setIrqCore_kept _ _ _)

theorem State.irqEnd_kept (s : State) (t n : Nat) : (s.irqEnd t n).kept = s.kept := by
  unfold State.irqEnd
  split <;> simp only [State.wr_kept, State.raise_kept, State.setIrqCore_kept, State.showIrqCore_kept, kept_ite,
      ite_self]

@[simp] theorem execIrqEoi_kept (core : Fin 28) (source : BitVec 10) (s : State) :
    KeptBy s (execIrqEoi core source s) := by
  simp only [execIrqEoi, State.irqEnd_kept, keptBy_next]

theorem State.irqMask_kept (s : State) (n : Nat) (stuck : Bool) : (s.irqMask n stuck).kept = s.kept := by
  simp only [State.irqMask, State.wrs_kept, State.raise_kept, State.wrBit_kept, State.irqPend_kept]

@[simp] theorem execIrqStormMask_kept (source : Fin 1024) (stuck : Bool) (s : State) :
    KeptBy s (execIrqStormMask source stuck s) := by
  simp only [execIrqStormMask, State.irqMask_kept, keptBy_next, kept_ite, ite_self]

theorem State.irqEnabled_kept (s : State) (n : Nat) : (s.irqEnabled n).kept = s.kept := by
  simp only [State.irqEnabled, State.wrs_kept, State.wrBit_kept, kept_mk, mk_kept]

/-! ### Machine/Scheduler -/

theorem State.setTask_kept (s : State) (t : Nat) (f : Task → Task) : (s.setTask t f).kept = s.kept := by
  simp only [State.setTask, kept_mk, mk_kept]

theorem State.setReady_kept (s : State) (p : Nat) (f : List Nat → List Nat) : (s.setReady p f).kept = s.kept := by
  simp only [State.setReady, kept_mk, mk_kept]

theorem State.putSlot_kept (s : State) (c : Nat) (t : Option Nat) : (s.putSlot c t).kept = s.kept := by
  simp only [State.putSlot, kept_ite]
  (repeat' split) <;> simp only [State.wr_kept, State.wrs_kept, State.freeBit_kept]

theorem State.dropSlots_kept (s : State) (t : Nat) : (s.dropSlots t).kept = s.kept := by
  simp only [State.dropSlots, State.putSlot_kept, implies_true, kept_ite, ite_self, kept_foldl]

theorem State.reslot_kept (s : State) : s.reslot.kept = s.kept := by
  simp only [State.reslot, State.putSlot_kept, implies_true, kept_foldl]

theorem State.placeReady_kept (s : State) (t : Nat) : (s.placeReady t).kept = s.kept := by
  simp only [State.placeReady, kept_ite]
  (repeat' split) <;> simp only [State.irqPend_kept, State.putSlot_kept]

theorem State.unlist_kept (s : State) (t : Nat) : (s.unlist t).kept = s.kept := by
  simp only [State.unlist, State.setReady_kept, State.dropSlots_kept, kept_mk, mk_kept]

theorem State.becomeReady_kept (s : State) (t : Nat) : (s.becomeReady t).kept = s.kept := by
  simp only [State.becomeReady, State.wrs_kept, State.setTask_kept, State.setReady_kept, State.reslot_kept,
      State.placeReady_kept, State.unlist_kept]

theorem State.schResult_kept (s : State) (c code t : Nat) : (s.schResult c code t).kept = s.kept := by
  simp only [State.schResult, kept_mk, mk_kept]

theorem State.runTask_kept (s : State) (c t : Nat) : (s.runTask c t).kept = s.kept := by
  unfold State.runTask
  extract_lets s1
  have h1 : s1.kept = s.kept := by rw [State.wrs_kept, State.unlist_kept]
  split
  · rw [State.schResult_kept, State.setTask_kept, h1]
  · exact h1

theorem State.runIdle_kept (s : State) (c : Nat) : (s.runIdle c).kept = s.kept := by
  simp only [State.runIdle, State.wrs_kept]

theorem State.switchTo_kept (s : State) (c : Nat) (take : Option Nat) : (s.switchTo c take).kept = s.kept := by
  simp only [State.switchTo, State.bump_kept, State.reslot_kept, kept_ite, ite_self]
  (repeat' split) <;> simp only [State.bump_kept, State.runTask_kept, State.runIdle_kept]

theorem State.switch_kept (s : State) (c : Nat) : (s.switch c).kept = s.kept := by
  simp only [State.switch, State.switchTo_kept]

theorem State.badOp_kept (s : State) (c t : Nat) : (s.badOp c t).kept = s.kept := by
  simp only [State.badOp, State.raise_kept, State.schResult_kept]

theorem State.switching_kept (s : State) (c : Nat) (high : BitVec 23) (bad : Bool) (k : Nat → State → State) (hk : ∀
    n s, (k n s).kept = s.kept) :
    (s.switching c high bad k).kept = s.kept := by
  simp only [State.switching, State.raise_kept, State.schResult_kept, State.badOp_kept, hk, kept_ite, ite_self]

@[simp] theorem execSchYield_kept (core : Fin 24) (task : BitVec 12) (list : Bool) (arg : BitVec 24) (high : BitVec
    23) (s : State) :
    KeptBy s (execSchYield core task list arg high s) := by
  simp only [execSchYield, State.wr_kept, State.setTask_kept, State.setReady_kept, State.switchTo_kept,
      State.switching_kept, keptBy_next, implies_true]

theorem State.delayTask_kept (s : State) (t n : Nat) (volley : Bool) : (s.delayTask t n volley).kept = s.kept := by
  simp only [State.delayTask, State.wr_kept, kept_ite, ite_self, kept_mk, mk_kept]

@[simp] theorem execSchDelay_kept (core : Fin 24) (task : BitVec 12) (list : Bool) (arg : BitVec 24) (high : BitVec
    23) (s : State) :
    KeptBy s (execSchDelay core task list arg high s) := by
  simp only [execSchDelay, State.wr_kept, State.setTask_kept, State.switch_kept, State.switching_kept,
      State.delayTask_kept, keptBy_next, implies_true]

@[simp] theorem execSchWait_kept (core : Fin 24) (task : BitVec 12) (list : Bool) (arg : BitVec 24) (high : BitVec
    23) (s : State) :
    KeptBy s (execSchWait core task list arg high s) := by
  simp only [execSchWait]
  (repeat' split) <;> simp only [State.wr_kept, State.setTask_kept, State.schResult_kept, State.switch_kept,
      State.switching_kept, State.delayTask_kept, keptBy_next, implies_true]

@[simp] theorem execSchSignal_kept (core : Fin 24) (task : BitVec 12) (list : Bool) (arg : BitVec 24) (high : BitVec
    23) (s : State) :
    KeptBy s (execSchSignal core task list arg high s) := by
  simp only [execSchSignal]
  (repeat' split) <;> simp only [State.wr_kept, State.raise_kept, State.setTask_kept, State.becomeReady_kept,
      State.schResult_kept, State.badOp_kept, keptBy_next]

@[simp] theorem execSchExit_kept (core : Fin 24) (task : BitVec 12) (list : Bool) (arg : BitVec 24) (high : BitVec
    23) (s : State) :
    KeptBy s (execSchExit core task list arg high s) := by
  simp only [execSchExit, State.wr_kept, State.switch_kept, State.switching_kept, keptBy_next, implies_true]

theorem State.setPri_kept (s : State) (t p : Nat) : (s.setPri t p).kept = s.kept := by
  simp only [State.setPri, State.wr_kept, State.unlist_kept, State.becomeReady_kept, implies_true, kept_ite,
      ite_self, kept_foldl]

@[simp] theorem execSchPrio_kept (core : Fin 24) (task : BitVec 12) (list : Bool) (arg : BitVec 24) (high : BitVec
    23) (s : State) :
    KeptBy s (execSchPrio core task list arg high s) := by
  unfold execSchPrio
  split <;> simp only [State.schResult_kept, State.badOp_kept, State.setPri_kept, keptBy_next]

@[simp] theorem execSchPreempt_kept (core : Fin 24) (task : BitVec 12) (list : Bool) (arg : BitVec 24) (high :
    BitVec 23) (s : State) :
    KeptBy s (execSchPreempt core task list arg high s) := by
  simp only [execSchPreempt]
  (repeat' split) <;> simp only [State.wr_kept, State.bump_kept, State.irqEnd_kept, State.setTask_kept,
      State.setReady_kept, State.reslot_kept, State.schResult_kept, State.runTask_kept, State.badOp_kept, keptBy_next]

@[simp] theorem execDelayWake_kept (volley : Bool) (s : State) : KeptBy s (execDelayWake volley s) := by
  simp only [execDelayWake, State.becomeReady_kept, keptBy_next, implies_true, kept_foldl]

theorem State.schRefuse_kept (s : State) (t : Nat) : (s.schRefuse t).kept = s.kept := by
  simp only [State.schRefuse, State.raise_kept]

theorem State.taskStart_kept (s : State) (t : Nat) : (s.taskStart t).kept = s.kept := by
  simp only [State.taskStart, State.becomeReady_kept, State.schRefuse_kept, kept_ite, ite_self]

theorem State.taskStop_kept (s : State) (t : Nat) : (s.taskStop t).kept = s.kept := by
  simp only [State.taskStop, State.wrs_kept, State.setTask_kept, State.reslot_kept, State.unlist_kept,
      State.schRefuse_kept, kept_ite, ite_self]

theorem State.taskCfg_kept (s : State) (t pri : Nat) (configured : Bool) :
    (s.taskCfg t pri configured).kept = s.kept := by
  simp only [State.taskCfg, State.wrs_kept, State.setPri_kept, State.schRefuse_kept, kept_ite, ite_self]

theorem State.taskAff_kept (s : State) (t aff : Nat) : (s.taskAff t aff).kept = s.kept := by
  simp only [State.taskAff, State.wr_kept, State.reslot_kept, State.schRefuse_kept, kept_ite, ite_self]

@[simp] theorem execTaskStart_kept (u : Core) (task : Fin 4096) (s : State) : KeptBy s (execTaskStart u task s) := by
  simp only [execTaskStart, State.asWriter_kept, State.taskStart_kept, keptBy_next, implies_true]

@[simp] theorem execTaskStop_kept (u : Core) (task : Fin 4096) (s : State) : KeptBy s (execTaskStop u task s) := by
  simp only [execTaskStop, State.asWriter_kept, State.taskStop_kept, keptBy_next, implies_true]

@[simp] theorem execTaskConfigure_kept (u : Core) (task : Fin 4096) (pri : BitVec 5) (configured : Bool) (s : State) :
    KeptBy s (execTaskConfigure u task pri configured s) := by
  simp only [execTaskConfigure, State.asWriter_kept, State.taskCfg_kept, keptBy_next, implies_true]

theorem State.schCntClear_kept (s : State) : s.schCntClear.kept = s.kept := by
  simp only [State.schCntClear, State.wrs_kept]

@[simp] theorem execSchCntClr_kept (u : Core) (s : State) : KeptBy s (execSchCntClr u s) := by
  simp only [execSchCntClr, State.asWriter_kept, State.schCntClear_kept, keptBy_next, implies_true]

theorem State.coreStops_kept (s : State) (c : Nat) : (s.coreStops c).kept = s.kept := by
  simp only [State.coreStops, State.wr_kept, State.setTask_kept, State.putSlot_kept, State.reslot_kept,
      State.runIdle_kept, kept_ite, ite_self]

/-! ### Machine/Service -/

theorem State.lift_kept (s : State) (kind index : Nat) (testPassed : Bool) :
    (s.lift kind index testPassed).kept = s.kept := by
  simp only [State.lift, State.setSpoke_kept, State.raise_kept, State.setEng_kept, kept_ite, ite_self, kept_mk,
      mk_kept]

@[simp] theorem execHkpLift_kept (u : Core) (kind : BitVec 2) (index : BitVec 7) (testPassed : Bool) (s : State) :
    KeptBy s (execHkpLift u kind index testPassed s) := by
  simp only [execHkpLift, State.wrs_kept, State.raise_kept, State.asWriter_kept, State.lift_kept, keptBy_next,
      implies_true, kept_ite, ite_self]

theorem State.applyLifts_kept (s : State) : s.applyLifts.kept = s.kept := by
  simp only [State.applyLifts, State.wrBit_kept, State.logFence_kept, State.reslot_kept, implies_true, kept_ite,
      ite_self, kept_mk, mk_kept, kept_foldl]

@[simp] theorem execAutoMigration_kept (engine : Fin 32) (s : State) : KeptBy s (execAutoMigration engine s) := by
  simp only [execAutoMigration]
  (repeat' split) <;> simp only [State.raise_kept, State.setEng_kept, State.migWrite_kept, keptBy_next]

@[simp] theorem execApcFence_kept (core : Fin 24) (s : State) : KeptBy s (execApcFence core s) := by
  simp only [execApcFence]
  (repeat' split) <;> simp only [State.raise_kept, State.wrBit_kept, State.logFence_kept, State.coreStops_kept,
      keptBy_next, kept_mk, mk_kept]

theorem State.secCntClear_kept (s : State) : s.secCntClear.kept = s.kept := by
  simp only [State.secCntClear, State.wrs_kept]

@[simp] theorem execSecCntClr_kept (u : Core) (s : State) : KeptBy s (execSecCntClr u s) := by
  simp only [execSecCntClr, State.asWriter_kept, State.secCntClear_kept, keptBy_next, implies_true]

/-! ### Machine/Boundary -/

theorem State.commitStaged_kept (s : State) : s.commitStaged.1.kept = s.kept := by
  simp only [State.commitStaged]
  (repeat' split) <;> simp only [State.refuseFit_kept, State.fenceSpoke_kept, implies_true, kept_ite, ite_self,
      kept_mk, mk_kept, kept_foldl]

theorem State.completeStaged_kept (s : State) (failed : Bool) : (s.completeStaged failed).kept = s.kept := by
  unfold State.completeStaged
  refine kept_foldl _ _ _ fun s f => kept_foldl _ _ _ fun s x => ?_
  split
  · split <;> exact State.done_kept _ _ _ _ _ _
  · rfl

theorem State.completeReleases_kept (s : State) : s.completeReleases.kept = s.kept := by
  unfold State.completeReleases
  refine kept_foldl _ _ _ fun s f => kept_foldl _ _ _ fun s x => ?_
  split
  · split
    · rfl
    · exact State.done_kept _ _ _ _ _ _
  · rfl

theorem State.v1Check_kept (s : State) (n : Nat) : (s.v1Check n).kept = s.kept := by
  simp only [State.v1Check, State.fenceSpoke_kept, kept_ite, ite_self]

theorem State.noteEmpty_kept (s : State) (n : Nat) : (s.noteEmpty n).kept = s.kept := by
  simp only [State.noteEmpty, State.setSpoke_kept, kept_ite, ite_self]

theorem State.spokeAtBoundary_kept (s : State) (n : Nat) : (s.spokeAtBoundary n).kept = s.kept := by
  simp only [State.spokeAtBoundary, State.wr_kept, State.setSpoke_kept, State.bringUp_kept, State.tryRestep_kept,
      State.applyFence_kept, State.v1Check_kept, State.noteEmpty_kept, kept_ite, ite_self]

theorem State.sendStrobe_kept (s : State) (n : Nat) : (s.sendStrobe n).kept = s.kept := by
  simp only [State.sendStrobe, State.setSpoke_kept]

theorem State.unsent_kept (s : State) (n : Nat) : (s.unsent n).kept = s.kept := by
  unfold State.unsent
  split <;> simp only [State.setSpoke_kept, State.setCell_kept, implies_true, kept_foldl]

theorem State.orderCells_kept (s : State) (n : Nat) : (s.orderCells n).kept = s.kept := by
  simp only [State.orderCells, State.setSpoke_kept, State.setCell_kept, implies_true, kept_foldl]

theorem State.sendServe_kept (s : State) (n : Nat) (late : Bool) : (s.sendServe n late).kept = s.kept := by
  unfold State.sendServe
  split <;> simp only [State.bump_kept, State.setSpoke_kept, State.raise_kept, State.unsent_kept,
      State.orderCells_kept, kept_ite, ite_self]

theorem State.sendIdle_kept (s : State) (n : Nat) : (s.sendIdle n).kept = s.kept := by
  simp only [State.sendIdle, State.setSpoke_kept, State.unsent_kept, State.orderCells_kept, kept_ite, ite_self]

theorem State.sendAll_kept (s : State) (on : Bool) (late : BitVec 128) : (s.sendAll on late).kept = s.kept := by
  simp only [State.sendAll, State.setSpoke_kept, State.sendStrobe_kept, State.sendServe_kept, State.sendIdle_kept,
      implies_true, kept_ite, ite_self, kept_mk, mk_kept, kept_foldl]

theorem State.cellsAtBoundary_kept (s : State) (sends : Bool) : (s.cellsAtBoundary sends).kept = s.kept := by
  simp only [State.cellsAtBoundary, kept_mk, mk_kept]

theorem State.sendStatus_kept (s : State) : s.sendStatus.kept = s.kept := by
  simp only [State.sendStatus, kept_ite, ite_self, kept_mk, mk_kept]

theorem State.pertGuard_kept (s : State) : s.pertGuard.kept = s.kept := by
  simp only [State.pertGuard, State.pertEnd_kept, kept_ite, ite_self]

theorem State.newVolley_kept (s : State) (late : BitVec 128) : (s.newVolley late).kept = s.kept := by
  simp only [State.newVolley, State.bumpWrap_kept, State.showFits_kept, State.applyReleases_kept, State.lpSync_kept,
      State.tgSkips_kept, State.adcBoundary_kept, State.enginesAtBoundary_kept, State.svBoundary_kept,
      State.wakeOpens_kept, State.showSpokes_kept, State.takeOver_kept, State.countClean_kept,
      State.applyLifts_kept, State.commitStaged_kept, State.completeStaged_kept, State.completeReleases_kept,
      State.spokeAtBoundary_kept, State.sendAll_kept, State.cellsAtBoundary_kept, State.sendStatus_kept,
      State.pertGuard_kept, implies_true, kept_ite, ite_self, kept_mk, mk_kept, kept_foldl]

theorem State.boundaryReset_kept (s : State) : KeptIn s (State.boundaryReset s) := by
  unfold State.boundaryReset
  split
  · simp only [keptIn_ite, keptIn_some, keptIn_none, State.takeReset_kept, ite_self]
  · exact keptIn_none s

theorem State.boundaryYield_kept (s : State) : s.boundaryYield.kept = s.kept := by
  unfold State.boundaryYield
  split <;> simp only [State.raise_kept, State.yieldNow_kept, State.yieldIfDue_kept, kept_ite, ite_self, kept_mk,
      mk_kept]

@[simp] theorem execTandemYield_kept (s : State) : KeptBy s (execTandemYield s) := by
  simp only [execTandemYield, State.yieldIfDue_kept, keptBy_next, kept_ite, ite_self]

@[simp] theorem execDeferredFallbackReset_kept (s : State) : KeptBy s (execDeferredFallbackReset s) := by
  simp only [execDeferredFallbackReset]
  (repeat' split) <;> simp only [State.takeReset_kept, keptBy_next, kept_mk, mk_kept]

@[simp] theorem execVolleyBoundary_kept (late : BitVec 128) (s : State) : KeptBy s (execVolleyBoundary late s) := by
  refine (keptBy_next _ _).2 (kept_ite_of rfl ?_)
  split
  · rename_i t ht
    exact State.boundaryReset_kept s t ht
  · simp only [kept_ite, State.newVolley_kept, State.boundaryYield_kept, kept_mk, mk_kept, ite_self]

/-! ### Machine/Engine -/

theorem State.alu_kept (s : State) (e : Nat) (rd rs1 rs2 : BitVec 4) (f : W40 → W40 → W40) :
    (s.alu e rd rs1 rs2 f).kept = s.kept := by
  simp only [State.alu, State.instr_kept]

theorem State.aluI_kept (s : State) (e : Nat) (legal : Bool) (rd rs1 : BitVec 4) (f : W40 → W40) :
    (s.aluI e legal rd rs1 f).kept = s.kept := by
  simp only [State.aluI, State.instr_kept]

theorem State.memOp_kept (s : State) (e : Nat) (legal : Bool) (rs1 : BitVec 4) (imm : BitVec 18) (k : Nat → State →
    State) (hk : ∀ n s, (k n s).kept = s.kept) :
    (s.memOp e legal rs1 imm k).kept = s.kept := by
  simp only [State.memOp, State.setEng_kept, State.illegal_kept, State.accFault_kept, hk, kept_ite, ite_self]

theorem State.f40_kept (s : State) (e : Nat) (rd rs1 rs2 : BitVec 4) (rm : BitVec 3) (units : Nat) (f : RMode → W40
    → W40 → FRes) :
    (s.f40 e rd rs1 rs2 rm units f).kept = s.kept := by
  simp only [State.f40, State.instr_kept]

@[simp] theorem execCeNop_kept (e : Fin 32) (rd rs1 rs2 : BitVec 4) (s : State) :
    KeptBy s (execCeNop e rd rs1 rs2 s) := by
  simp only [execCeNop, State.instr_kept, keptBy_next]

@[simp] theorem execCeResume_kept (e : Fin 32) (rd rs1 rs2 : BitVec 4) (s : State) :
    KeptBy s (execCeResume e rd rs1 rs2 s) := by
  simp only [execCeResume, State.illegal_kept, State.endHandler_kept, keptBy_next, kept_ite, ite_self]

@[simp] theorem execCeAbandon_kept (e : Fin 32) (rd rs1 rs2 : BitVec 4) (s : State) :
    KeptBy s (execCeAbandon e rd rs1 rs2 s) := by
  simp only [execCeAbandon, State.setEng_kept, State.illegal_kept, State.endHandler_kept, keptBy_next, kept_ite,
      ite_self]

@[simp] theorem execCeAdd_kept (e : Fin 32) (rd rs1 rs2 : BitVec 4) (s : State) :
    KeptBy s (execCeAdd e rd rs1 rs2 s) := by
  simp only [execCeAdd, State.alu_kept, keptBy_next]

@[simp] theorem execCeSub_kept (e : Fin 32) (rd rs1 rs2 : BitVec 4) (s : State) :
    KeptBy s (execCeSub e rd rs1 rs2 s) := by
  simp only [execCeSub, State.alu_kept, keptBy_next]

@[simp] theorem execCeAnd_kept (e : Fin 32) (rd rs1 rs2 : BitVec 4) (s : State) :
    KeptBy s (execCeAnd e rd rs1 rs2 s) := by
  simp only [execCeAnd, State.alu_kept, keptBy_next]

@[simp] theorem execCeOr_kept (e : Fin 32) (rd rs1 rs2 : BitVec 4) (s : State) :
    KeptBy s (execCeOr e rd rs1 rs2 s) := by
  simp only [execCeOr, State.alu_kept, keptBy_next]

@[simp] theorem execCeXor_kept (e : Fin 32) (rd rs1 rs2 : BitVec 4) (s : State) :
    KeptBy s (execCeXor e rd rs1 rs2 s) := by
  simp only [execCeXor, State.alu_kept, keptBy_next]

@[simp] theorem execCeShl_kept (e : Fin 32) (rd rs1 rs2 : BitVec 4) (s : State) :
    KeptBy s (execCeShl e rd rs1 rs2 s) := by
  simp only [execCeShl, State.alu_kept, keptBy_next]

@[simp] theorem execCeShr_kept (e : Fin 32) (rd rs1 rs2 : BitVec 4) (s : State) :
    KeptBy s (execCeShr e rd rs1 rs2 s) := by
  simp only [execCeShr, State.alu_kept, keptBy_next]

@[simp] theorem execCeSar_kept (e : Fin 32) (rd rs1 rs2 : BitVec 4) (s : State) :
    KeptBy s (execCeSar e rd rs1 rs2 s) := by
  simp only [execCeSar, State.alu_kept, keptBy_next]

@[simp] theorem execCeSlt_kept (e : Fin 32) (rd rs1 rs2 : BitVec 4) (s : State) :
    KeptBy s (execCeSlt e rd rs1 rs2 s) := by
  simp only [execCeSlt, State.alu_kept, keptBy_next]

@[simp] theorem execCeSltu_kept (e : Fin 32) (rd rs1 rs2 : BitVec 4) (s : State) :
    KeptBy s (execCeSltu e rd rs1 rs2 s) := by
  simp only [execCeSltu, State.alu_kept, keptBy_next]

@[simp] theorem execCeMin_kept (e : Fin 32) (rd rs1 rs2 : BitVec 4) (s : State) :
    KeptBy s (execCeMin e rd rs1 rs2 s) := by
  simp only [execCeMin, State.alu_kept, keptBy_next]

@[simp] theorem execCeMax_kept (e : Fin 32) (rd rs1 rs2 : BitVec 4) (s : State) :
    KeptBy s (execCeMax e rd rs1 rs2 s) := by
  simp only [execCeMax, State.alu_kept, keptBy_next]

@[simp] theorem execCeMinu_kept (e : Fin 32) (rd rs1 rs2 : BitVec 4) (s : State) :
    KeptBy s (execCeMinu e rd rs1 rs2 s) := by
  simp only [execCeMinu, State.alu_kept, keptBy_next]

@[simp] theorem execCeMaxu_kept (e : Fin 32) (rd rs1 rs2 : BitVec 4) (s : State) :
    KeptBy s (execCeMaxu e rd rs1 rs2 s) := by
  simp only [execCeMaxu, State.alu_kept, keptBy_next]

@[simp] theorem execCeMul_kept (e : Fin 32) (rd rs1 rs2 : BitVec 4) (s : State) :
    KeptBy s (execCeMul e rd rs1 rs2 s) := by
  simp only [execCeMul, State.alu_kept, keptBy_next]

@[simp] theorem execCeClz_kept (e : Fin 32) (rd rs1 rs2 : BitVec 4) (s : State) :
    KeptBy s (execCeClz e rd rs1 rs2 s) := by
  simp only [execCeClz, State.aluI_kept, keptBy_next]

@[simp] theorem execCeAddi_kept (e : Fin 32) (rd rs1 : BitVec 4) (imm : BitVec 18) (s : State) :
    KeptBy s (execCeAddi e rd rs1 imm s) := by
  simp only [execCeAddi, State.aluI_kept, keptBy_next]

@[simp] theorem execCeAndi_kept (e : Fin 32) (rd rs1 : BitVec 4) (imm : BitVec 18) (s : State) :
    KeptBy s (execCeAndi e rd rs1 imm s) := by
  simp only [execCeAndi, State.aluI_kept, keptBy_next]

@[simp] theorem execCeOri_kept (e : Fin 32) (rd rs1 : BitVec 4) (imm : BitVec 18) (s : State) :
    KeptBy s (execCeOri e rd rs1 imm s) := by
  simp only [execCeOri, State.aluI_kept, keptBy_next]

@[simp] theorem execCeXori_kept (e : Fin 32) (rd rs1 : BitVec 4) (imm : BitVec 18) (s : State) :
    KeptBy s (execCeXori e rd rs1 imm s) := by
  simp only [execCeXori, State.aluI_kept, keptBy_next]

@[simp] theorem execCeShli_kept (e : Fin 32) (rd rs1 : BitVec 4) (imm : BitVec 18) (s : State) :
    KeptBy s (execCeShli e rd rs1 imm s) := by
  simp only [execCeShli, State.aluI_kept, keptBy_next]

@[simp] theorem execCeShri_kept (e : Fin 32) (rd rs1 : BitVec 4) (imm : BitVec 18) (s : State) :
    KeptBy s (execCeShri e rd rs1 imm s) := by
  simp only [execCeShri, State.aluI_kept, keptBy_next]

@[simp] theorem execCeSari_kept (e : Fin 32) (rd rs1 : BitVec 4) (imm : BitVec 18) (s : State) :
    KeptBy s (execCeSari e rd rs1 imm s) := by
  simp only [execCeSari, State.aluI_kept, keptBy_next]

@[simp] theorem execCeLil_kept (e : Fin 32) (rd : BitVec 4) (imm : BitVec 22) (s : State) :
    KeptBy s (execCeLil e rd imm s) := by
  simp only [execCeLil, State.aluI_kept, keptBy_next]

@[simp] theorem execCeLih_kept (e : Fin 32) (rd : BitVec 4) (imm : BitVec 22) (s : State) :
    KeptBy s (execCeLih e rd imm s) := by
  simp only [execCeLih, State.aluI_kept, keptBy_next]

@[simp] theorem execCeLd_kept (e : Fin 32) (rd rs1 : BitVec 4) (imm : BitVec 18) (s : State) :
    KeptBy s (execCeLd e rd rs1 imm s) := by
  simp only [execCeLd, State.setEng_kept, State.memOp_kept, keptBy_next, implies_true]

@[simp] theorem execCeSt_kept (e : Fin 32) (rd rs1 : BitVec 4) (imm : BitVec 18) (s : State) :
    KeptBy s (execCeSt e rd rs1 imm s) := by
  simp only [execCeSt, State.putMem_kept, State.memOp_kept, keptBy_next, implies_true]

@[simp] theorem execCeLda_kept (e : Fin 32) (rd rs1 : BitVec 4) (imm : BitVec 18) (s : State) :
    KeptBy s (execCeLda e rd rs1 imm s) := by
  simp only [execCeLda, State.setEng_kept, State.memOp_kept, keptBy_next, implies_true]

@[simp] theorem execCeSta_kept (e : Fin 32) (rd rs1 : BitVec 4) (imm : BitVec 18) (s : State) :
    KeptBy s (execCeSta e rd rs1 imm s) := by
  simp only [execCeSta, State.putMem_kept, State.memOp_kept, keptBy_next, implies_true]

@[simp] theorem execCeMpy_kept (e : Fin 32) (rx rs1 rs2 : BitVec 4) (acc : BitVec 2) (s : State) :
    KeptBy s (execCeMpy e rx rs1 rs2 acc s) := by
  simp only [execCeMpy, State.instr_kept, keptBy_next]

@[simp] theorem execCeMac_kept (e : Fin 32) (rx rs1 rs2 : BitVec 4) (acc : BitVec 2) (s : State) :
    KeptBy s (execCeMac e rx rs1 rs2 acc s) := by
  simp only [execCeMac, State.instr_kept, keptBy_next]

@[simp] theorem execCeMsu_kept (e : Fin 32) (rx rs1 rs2 : BitVec 4) (acc : BitVec 2) (s : State) :
    KeptBy s (execCeMsu e rx rs1 rs2 acc s) := by
  simp only [execCeMsu, State.instr_kept, keptBy_next]

@[simp] theorem execCeAclr_kept (e : Fin 32) (rx rs1 rs2 : BitVec 4) (acc : BitVec 2) (s : State) :
    KeptBy s (execCeAclr e rx rs1 rs2 acc s) := by
  simp only [execCeAclr, State.instr_kept, keptBy_next]

@[simp] theorem execCeAmov_kept (e : Fin 32) (rx rs1 rs2 : BitVec 4) (acc : BitVec 2) (s : State) :
    KeptBy s (execCeAmov e rx rs1 rs2 acc s) := by
  simp only [execCeAmov, State.instr_kept, keptBy_next]

@[simp] theorem execCeArnd_kept (e : Fin 32) (rx rs1 rs2 : BitVec 4) (acc : BitVec 2) (s : State) :
    KeptBy s (execCeArnd e rx rs1 rs2 acc s) := by
  simp only [execCeArnd, State.instr_kept, keptBy_next]

@[simp] theorem execCeAext_kept (e : Fin 32) (rx rs1 rs2 : BitVec 4) (acc : BitVec 2) (s : State) :
    KeptBy s (execCeAext e rx rs1 rs2 acc s) := by
  simp only [execCeAext, State.instr_kept, keptBy_next]

@[simp] theorem execCeAadd_kept (e : Fin 32) (rx rs1 rs2 : BitVec 4) (acc : BitVec 2) (s : State) :
    KeptBy s (execCeAadd e rx rs1 rs2 acc s) := by
  simp only [execCeAadd, State.instr_kept, keptBy_next]

@[simp] theorem execCeFadd_kept (e : Fin 32) (rd rs1 rs2 : BitVec 4) (rm : BitVec 3) (s : State) :
    KeptBy s (execCeFadd e rd rs1 rs2 rm s) := by
  simp only [execCeFadd, State.f40_kept, keptBy_next]

@[simp] theorem execCeFsub_kept (e : Fin 32) (rd rs1 rs2 : BitVec 4) (rm : BitVec 3) (s : State) :
    KeptBy s (execCeFsub e rd rs1 rs2 rm s) := by
  simp only [execCeFsub, State.f40_kept, keptBy_next]

@[simp] theorem execCeFmul_kept (e : Fin 32) (rd rs1 rs2 : BitVec 4) (rm : BitVec 3) (s : State) :
    KeptBy s (execCeFmul e rd rs1 rs2 rm s) := by
  simp only [execCeFmul, State.f40_kept, keptBy_next]

@[simp] theorem execCeFdiv_kept (e : Fin 32) (rd rs1 rs2 : BitVec 4) (rm : BitVec 3) (s : State) :
    KeptBy s (execCeFdiv e rd rs1 rs2 rm s) := by
  simp only [execCeFdiv, State.f40_kept, keptBy_next]

@[simp] theorem execCeFsqrt_kept (e : Fin 32) (rd rs1 rs2 : BitVec 4) (rm : BitVec 3) (s : State) :
    KeptBy s (execCeFsqrt e rd rs1 rs2 rm s) := by
  simp only [execCeFsqrt, State.f40_kept, keptBy_next]

@[simp] theorem execCeFma_kept (e : Fin 32) (rd rs1 rs2 : BitVec 4) (rm : BitVec 3) (s : State) :
    KeptBy s (execCeFma e rd rs1 rs2 rm s) := by
  simp only [execCeFma, State.instr_kept, keptBy_next]

@[simp] theorem execCeFmin_kept (e : Fin 32) (rd rs1 rs2 : BitVec 4) (rm : BitVec 3) (s : State) :
    KeptBy s (execCeFmin e rd rs1 rs2 rm s) := by
  simp only [execCeFmin, State.f40_kept, keptBy_next]

@[simp] theorem execCeFmax_kept (e : Fin 32) (rd rs1 rs2 : BitVec 4) (rm : BitVec 3) (s : State) :
    KeptBy s (execCeFmax e rd rs1 rs2 rm s) := by
  simp only [execCeFmax, State.f40_kept, keptBy_next]

@[simp] theorem execCeFeq_kept (e : Fin 32) (rd rs1 rs2 : BitVec 4) (rm : BitVec 3) (s : State) :
    KeptBy s (execCeFeq e rd rs1 rs2 rm s) := by
  simp only [execCeFeq, State.f40_kept, keptBy_next]

@[simp] theorem execCeFlt_kept (e : Fin 32) (rd rs1 rs2 : BitVec 4) (rm : BitVec 3) (s : State) :
    KeptBy s (execCeFlt e rd rs1 rs2 rm s) := by
  simp only [execCeFlt, State.f40_kept, keptBy_next]

@[simp] theorem execCeFle_kept (e : Fin 32) (rd rs1 rs2 : BitVec 4) (rm : BitVec 3) (s : State) :
    KeptBy s (execCeFle e rd rs1 rs2 rm s) := by
  simp only [execCeFle, State.f40_kept, keptBy_next]

@[simp] theorem execCeFcvtQf_kept (e : Fin 32) (rd rs1 rs2 : BitVec 4) (rm : BitVec 3) (s : State) :
    KeptBy s (execCeFcvtQf e rd rs1 rs2 rm s) := by
  simp only [execCeFcvtQf, State.f40_kept, keptBy_next]

@[simp] theorem execCeFcvtFq_kept (e : Fin 32) (rd rs1 rs2 : BitVec 4) (rm : BitVec 3) (s : State) :
    KeptBy s (execCeFcvtFq e rd rs1 rs2 rm s) := by
  simp only [execCeFcvtFq, State.f40_kept, keptBy_next]

@[simp] theorem execCeFcvtIf_kept (e : Fin 32) (rd rs1 rs2 : BitVec 4) (rm : BitVec 3) (s : State) :
    KeptBy s (execCeFcvtIf e rd rs1 rs2 rm s) := by
  simp only [execCeFcvtIf, State.f40_kept, keptBy_next]

@[simp] theorem execCeFcvtFi_kept (e : Fin 32) (rd rs1 rs2 : BitVec 4) (rm : BitVec 3) (s : State) :
    KeptBy s (execCeFcvtFi e rd rs1 rs2 rm s) := by
  simp only [execCeFcvtFi, State.f40_kept, keptBy_next]

@[simp] theorem execCeFclass_kept (e : Fin 32) (rd rs1 rs2 : BitVec 4) (rm : BitVec 3) (s : State) :
    KeptBy s (execCeFclass e rd rs1 rs2 rm s) := by
  simp only [execCeFclass, State.f40_kept, keptBy_next]

@[simp] theorem execCeFneg_kept (e : Fin 32) (rd rs1 rs2 : BitVec 4) (rm : BitVec 3) (s : State) :
    KeptBy s (execCeFneg e rd rs1 rs2 rm s) := by
  simp only [execCeFneg, State.f40_kept, keptBy_next]

@[simp] theorem execCeFabs_kept (e : Fin 32) (rd rs1 rs2 : BitVec 4) (rm : BitVec 3) (s : State) :
    KeptBy s (execCeFabs e rd rs1 rs2 rm s) := by
  simp only [execCeFabs, State.f40_kept, keptBy_next]

@[simp] theorem execCeBr_kept (e : Fin 32) (rs1 rs2 : BitVec 4) (cond : BitVec 3) (off : BitVec 15) (s : State) :
    KeptBy s (execCeBr e rs1 rs2 cond off s) := by
  simp only [execCeBr, keptBy_next, kept_ite]
  (repeat' split) <;> simp only [State.setEng_kept, State.illegal_kept, State.jump_kept]

@[simp] theorem execCeJal_kept (e : Fin 32) (rd : BitVec 4) (off : BitVec 22) (s : State) :
    KeptBy s (execCeJal e rd off s) := by
  simp only [execCeJal, State.jump_kept, keptBy_next, kept_ite, ite_self]

@[simp] theorem execCeJalr_kept (e : Fin 32) (rd rs1 : BitVec 4) (imm : BitVec 18) (s : State) :
    KeptBy s (execCeJalr e rd rs1 imm s) := by
  simp only [execCeJalr, State.jump_kept, keptBy_next, kept_ite, ite_self]

@[simp] theorem execCeCsrr_kept (e : Fin 32) (rd rs1 : BitVec 4) (imm : BitVec 18) (s : State) :
    KeptBy s (execCeCsrr e rd rs1 imm s) := by
  simp only [execCeCsrr, keptBy_next, kept_ite]
  (repeat' split) <;> simp only [State.illegal_kept, State.instr_kept]

@[simp] theorem execCeCsrw_kept (e : Fin 32) (rd rs1 : BitVec 4) (imm : BitVec 18) (s : State) :
    KeptBy s (execCeCsrw e rd rs1 imm s) := by
  simp only [execCeCsrw, State.setEng_kept, State.illegal_kept, State.putCsr_kept, keptBy_next, kept_ite, ite_self]

@[simp] theorem execCeOrdstat_kept (e : Fin 32) (rd rs1 rs2 rk rp : BitVec 4) (j : BitVec 2) (stop : Option Nat) (s
    : State) :
    KeptBy s (execCeOrdstat e rd rs1 rs2 rk rp j stop s) := by
  exact (keptBy_next _ _).2 (State.longInstr_kept _ _ _ _ _ _ _ _ _ _)

@[simp] theorem execCeOrdstatM_kept (e : Fin 32) (rd rs1 rs2 rk rp : BitVec 4) (j : BitVec 2) (stop : Option Nat) (s
    : State) :
    KeptBy s (execCeOrdstatM e rd rs1 rs2 rk rp j stop s) := by
  exact (keptBy_next _ _).2 (State.longInstr_kept _ _ _ _ _ _ _ _ _ _)

@[simp] theorem execCeOrdstatm_kept (e : Fin 32) (rd rs1 rs2 rk rp : BitVec 4) (j : BitVec 2) (stop : Option Nat) (s
    : State) :
    KeptBy s (execCeOrdstatm e rd rs1 rs2 rk rp j stop s) := by
  exact (keptBy_next _ _).2 (State.longInstr_kept _ _ _ _ _ _ _ _ _ _)

@[simp] theorem execCeOrdstatmM_kept (e : Fin 32) (rd rs1 rs2 rk rp : BitVec 4) (j : BitVec 2) (stop : Option Nat)
    (s : State) :
    KeptBy s (execCeOrdstatmM e rd rs1 rs2 rk rp j stop s) := by
  exact (keptBy_next _ _).2 (State.longInstr_kept _ _ _ _ _ _ _ _ _ _)

@[simp] theorem execCeHist_kept (e : Fin 32) (rd rs1 rs2 rk rp : BitVec 4) (j : BitVec 2) (stop : Option Nat) (s :
    State) :
    KeptBy s (execCeHist e rd rs1 rs2 rk rp j stop s) := by
  exact (keptBy_next _ _).2 (State.longInstr_kept _ _ _ _ _ _ _ _ _ _)

@[simp] theorem execCeVdot_kept (e : Fin 32) (rd rs1 rs2 rk rp : BitVec 4) (j : BitVec 2) (stop : Option Nat) (s :
    State) :
    KeptBy s (execCeVdot e rd rs1 rs2 rk rp j stop s) := by
  exact (keptBy_next _ _).2 (State.longInstr_kept _ _ _ _ _ _ _ _ _ _)

@[simp] theorem execC0HandlerEntry_kept (e : Fin 32) (s : State) : KeptBy s (execC0HandlerEntry e s) := by
  simp only [execC0HandlerEntry, State.handlerEntry_kept, keptBy_next]

/-! ### Machine/Host -/

theorem State.openFn_kept (s : State) (f : Nat) : (s.openFn f).kept = s.kept := by
  simp only [State.openFn, State.wrs_kept, State.resetRange_kept, State.setFn_kept, State.fnError_kept, kept_ite,
      ite_self, kept_mk, mk_kept]

@[simp] theorem execHifOpen_kept (fn : Fin 256) (s : State) : KeptBy s (execHifOpen fn s) := by
  simp only [execHifOpen, State.openFn_kept, keptBy_next]

theorem State.closeFn_kept (s : State) (f : Nat) : (s.closeFn f).kept = s.kept := by
  simp only [State.closeFn, State.setFn_kept, State.finishClose_kept, kept_ite, ite_self]

@[simp] theorem execHifClose_kept (fn : Fin 256) (s : State) : KeptBy s (execHifClose fn s) := by
  simp only [execHifClose, State.closeFn_kept, keptBy_next]

@[simp] theorem execHifCloseAbandon_kept (fn : Fin 256) (s : State) : KeptBy s (execHifCloseAbandon fn s) := by
  simp only [execHifCloseAbandon, State.setFn_kept, State.finishClose_kept, State.holdTags_kept, keptBy_next,
      kept_ite, ite_self, kept_mk, mk_kept]

theorem State.doorbell_kept (s : State) (f : Nat) (ok : Bool) (k : State → State) (hk : ∀ s, (k s).kept = s.kept) :
    (s.doorbell f ok k).kept = s.kept := by
  simp only [State.doorbell, State.showFn_kept, State.dbErr_kept, hk, kept_ite, ite_self]

theorem State.dbCmd_kept (s : State) (f v : Nat) : (s.dbCmd f v).kept = s.kept := by
  simp only [State.dbCmd, State.wr_kept, State.doorbell_kept, implies_true]

theorem State.dbCpl_kept (s : State) (f v : Nat) : (s.dbCpl f v).kept = s.kept := by
  simp only [State.dbCpl, State.wr_kept, State.doorbell_kept, implies_true]

theorem State.dbEvt_kept (s : State) (f v : Nat) : (s.dbEvt f v).kept = s.kept := by
  simp only [State.dbEvt, State.wr_kept, State.doorbell_kept, implies_true]

theorem State.dbBlk_kept (s : State) (f v : Nat) : (s.dbBlk f v).kept = s.kept := by
  simp only [State.dbBlk, State.wr_kept, State.doorbell_kept, implies_true]

@[simp] theorem execHifDbCmd_kept (fn : Fin 256) (value : Reg32) (s : State) :
    KeptBy s (execHifDbCmd fn value s) := by
  simp only [execHifDbCmd, State.dbCmd_kept, keptBy_next]

@[simp] theorem execHifDbCpl_kept (fn : Fin 256) (value : Reg32) (s : State) :
    KeptBy s (execHifDbCpl fn value s) := by
  simp only [execHifDbCpl, State.dbCpl_kept, keptBy_next]

@[simp] theorem execHifDbEvt_kept (fn : Fin 256) (value : Reg32) (s : State) :
    KeptBy s (execHifDbEvt fn value s) := by
  simp only [execHifDbEvt, State.dbEvt_kept, keptBy_next]

@[simp] theorem execHifDbBlk_kept (fn : Fin 256) (value : Reg32) (s : State) :
    KeptBy s (execHifDbBlk fn value s) := by
  simp only [execHifDbBlk, State.dbBlk_kept, keptBy_next]

theorem State.cto_kept (s : State) (f : Nat) : (s.cto f).kept = s.kept := by
  simp only [State.cto, State.bump_kept]

@[simp] theorem execShadowTailPoll_kept (fn : Fin 256) (tail : TailRead) (s : State) :
    KeptBy s (execShadowTailPoll fn tail s) := by
  unfold execShadowTailPoll
  split <;> simp only [State.fnError_kept, State.dbCmd_kept, State.cto_kept, keptBy_next, kept_ite, ite_self]

theorem State.refill_kept (s : State) (f : Nat) : (s.refill f).kept = s.kept := by
  simp only [State.refill, State.setFn_kept]

theorem State.stage_kept (s : State) (f : Nat) (x : InFlight) : (s.stage f x).kept = s.kept := by
  unfold State.stage
  split <;> simp only [State.putSetpoint_kept, kept_ite, ite_self]

theorem State.accept_kept (s : State) (f index : Nat) (d : Descr) : (s.accept f index d).kept = s.kept := by
  simp only [State.accept, State.wr_kept, State.setFn_kept, State.showFn_kept, State.setProgress_kept, kept_ite]
  (repeat' split) <;> simp only [State.setFn_kept, State.showFn_kept, State.done_kept, State.setInFlight_kept,
      State.checkDescr_kept, State.cto_kept, State.stage_kept]

theorem State.skipTurn_kept (s : State) (f : Nat) : (s.skipTurn f).kept = s.kept := by
  simp only [State.skipTurn, State.wr_kept, State.bump_kept]

theorem State.fetch_kept (s : State) (f : Nat) (a0 : List SlotFetch) (a1 : Nat) :
    (s.fetch f a0 a1).kept = s.kept := by
  induction a0 generalizing s a1 with
  | nil => rfl
  | cons x t ih =>
    unfold State.fetch
    extract_lets head n new s1 s2
    have h1 : s1.kept = s.kept := State.refill_kept _ _
    have h2 : s2.kept = s.kept := (State.wr_kept _ _ _).trans h1
    clear_value s1 s2
    refine kept_ite_of ?_ ?_
    · rw [State.showFn_kept]
      exact kept_ite_of (State.wr_kept _ _ _) rfl
    · cases x with
      | error => exact State.fnError_kept _ _ _
      | timeout => exact (State.fnError_kept _ _ _).trans (State.cto_kept _ _)
      | slot r =>
        refine kept_ite_of (State.showFn_kept _ _) (kept_ite_of ?_ ?_)
        · exact kept_ite_of ((State.skipTurn_kept _ _).trans h1) ((State.wr_kept _ _ _).trans h1)
        · simp only [ih, State.accept_kept, State.wr_kept, State.setFn_kept, h2]

@[simp] theorem execDescriptorFetch_kept (fn : Fin 256) (slots : List SlotFetch) (s : State) :
    KeptBy s (execDescriptorFetch fn slots s) := by
  simp only [execDescriptorFetch, State.skipTurn_kept, State.fetch_kept, keptBy_next, implies_true, kept_ite,
      ite_self, kept_mk, mk_kept, kept_foldl]

@[simp] theorem execHostReadTimeout_kept (fn : Fin 256) (index : BitVec 16) (s : State) :
    KeptBy s (execHostReadTimeout fn index s) := by
  simp only [execHostReadTimeout]
  (repeat' split) <;> simp only [State.wr_kept, State.setFn_kept, State.done_kept, State.cto_kept, keptBy_next]

@[simp] theorem execEventRingSpace_kept (fn : Fin 256) (s : State) : KeptBy s (execEventRingSpace fn s) := by
  simp only [execEventRingSpace, State.drainEvents_kept, keptBy_next, kept_ite, ite_self]

@[simp] theorem execMsixHoldExpire_kept (fn : Fin 256) (vector : Fin 4) (s : State) :
    KeptBy s (execMsixHoldExpire fn vector s) := by
  simp only [execMsixHoldExpire, State.sendMsix_kept, keptBy_next, kept_ite, ite_self]

@[simp] theorem execMsixRateCapExpire_kept (fn : Fin 256) (vector : Fin 4) (s : State) :
    KeptBy s (execMsixRateCapExpire fn vector s) := by
  simp only [execMsixRateCapExpire, State.setVector_kept, State.sendMsix_kept, keptBy_next, kept_ite, ite_self]

theorem State.flr_kept (s : State) (f : Nat) : (s.flr f).kept = s.kept := by
  simp only [State.flr, State.wr_kept, State.bump_kept, State.resetFn_kept, implies_true, kept_ite, ite_self,
      kept_foldl]

@[simp] theorem execFunctionLevelReset_kept (fn : Fin 256) (s : State) : KeptBy s (execFunctionLevelReset fn s) := by
  simp only [execFunctionLevelReset, State.flr_kept, keptBy_next, kept_ite, ite_self]

@[simp] theorem execFlrComplete_kept (fn : Fin 256) (s : State) : KeptBy s (execFlrComplete fn s) := by
  simp only [execFlrComplete, State.wr_kept, keptBy_next]

@[simp] theorem execPortReset_kept (port : Fin 2) (s : State) : KeptBy s (execPortReset port s) := by
  simp only [execPortReset, State.wrs_kept, State.resetFn_kept, keptBy_next, implies_true, kept_foldl]

@[simp] theorem execPcieLinkUp_kept (port : Fin 2) (speed : BitVec 3) (width : BitVec 4) (s : State) :
    KeptBy s (execPcieLinkUp port speed width s) := by
  simp only [execPcieLinkUp, State.wrs_kept, keptBy_next, kept_ite, ite_self]

theorem State.barWrite_kept (s : State) (f : Nat) (dword : Bool) (off v : Nat) :
    (s.barWrite f dword off v).kept = s.kept := by
  simp only [State.barWrite, State.wr_kept, State.wrs_kept, State.raise_kept, State.setVector_kept,
      State.sendMsix_kept, State.signal_kept, State.openFn_kept, State.closeFn_kept, State.dbCmd_kept,
      State.dbCpl_kept, State.dbEvt_kept, State.dbBlk_kept, implies_true, kept_ite, ite_self, kept_foldl]

/-! ### Machine/Traffic -/

theorem State.countWaits_kept (s : State) (r : ShareRound) : (s.countWaits r).1.kept = s.kept := by
  refine kept_foldl_fst _ _ _ fun p x => ?_
  split
  · simp only [apply_ite Prod.fst, kept_ite, State.bump_kept, ite_self]
  · rfl

@[simp] theorem execShedWindow_kept (reqs : List Granule) (s : State) : KeptBy s (execShedWindow reqs s) := by
  simp only [execShedWindow, State.bump_kept, State.showShed_kept, State.countWaits_kept, keptBy_next, kept_ite,
      ite_self, kept_mk, mk_kept]

/-! ### Machine/Memory -/

theorem State.dramTemp_kept (s : State) (t : BitVec 8) : (s.dramTemp t).kept = s.kept := by
  simp only [State.dramTemp, State.wrs_kept]

theorem State.testMemory_kept (s : State) : s.testMemory.kept = s.kept := by
  simp only [State.testMemory, State.raiseIf_kept, State.showFits_kept]

@[simp] theorem execDramTempChange_kept (tdram : BitVec 8) (s : State) : KeptBy s (execDramTempChange tdram s) := by
  simp only [execDramTempChange, State.raiseIf_kept, State.dramTemp_kept, State.testMemory_kept, keptBy_next]

@[simp] theorem execFeedMeasureRefresh_kept (mvA currA mvB currB : BitVec 16) (coreMv : BitVec 10) (tj tdram :
    BitVec 8) (s : State) :
    KeptBy s (execFeedMeasureRefresh mvA currA mvB currB coreMv tj tdram s) := by
  simp only [execFeedMeasureRefresh, State.wrs_kept, State.raiseIf_kept, State.setFeed_kept, State.showFeeds_kept,
      State.fansUpdate_kept, State.dramTemp_kept, State.testMemory_kept, keptBy_next, kept_ite, ite_self]

@[simp] theorem execTargetedRowRefresh_kept (s : State) : KeptBy s (execTargetedRowRefresh s) := by
  simp only [execTargetedRowRefresh, State.bump_kept, keptBy_next, kept_mk, mk_kept]

theorem State.qosCntClr_kept (s : State) : s.qosCntClr.kept = s.kept := by
  simp only [State.qosCntClr, State.wrs_kept, State.resetRange_kept]

@[simp] theorem execQosCntClr_kept (u : Core) (s : State) : KeptBy s (execQosCntClr u s) := by
  simp only [execQosCntClr, State.asWriter_kept, State.qosCntClr_kept, keptBy_next, implies_true]

theorem State.showBanks_kept (s : State) : s.showBanks.kept = s.kept := by
  simp only [State.showBanks, State.wrs_kept]

theorem State.startSwap_kept (s : State) (l : Nat) : (s.startSwap l).kept = s.kept := by
  simp only [State.startSwap, kept_ite]
  (repeat' split) <;> simp only [State.wrs_kept, State.raise_kept, State.showBanks_kept]

theorem State.spareStart_kept (s : State) (l : Nat) : (s.spareStart l).kept = s.kept := by
  simp only [State.spareStart, State.wr_kept, State.raise_kept, State.startSwap_kept, kept_ite, ite_self]

@[simp] theorem execBankSwapStart_kept (u : Option Core) (bank : BitVec 6) (corrected : Nat) (s : State) :
    KeptBy s (execBankSwapStart u bank corrected s) := by
  unfold execBankSwapStart
  split <;> simp only [State.bump_kept, State.asWriter_kept, State.startSwap_kept, State.spareStart_kept,
      keptBy_next, implies_true, kept_ite, ite_self]

@[simp] theorem execBankSwapSwitch_kept (bank : Fin 60) (s : State) : KeptBy s (execBankSwapSwitch bank s) := by
  simp only [execBankSwapSwitch, keptBy_next]
  (repeat' split) <;> simp only [State.wrs_kept, State.raise_kept, State.showBanks_kept]

theorem State.poisoned_kept (s : State) (a0 : Poison) : (s.poisoned a0).kept = s.kept := by
  unfold State.poisoned
  split <;> simp only [State.setCell_kept, State.ueccData_kept]

@[simp] theorem execSramUncorrectable_kept (place : SramRow) (inTarget : Bool) (what : Poison) (s : State) :
    KeptBy s (execSramUncorrectable place inTarget what s) := by
  simp only [execSramUncorrectable, keptBy_next]
  (repeat' split) <;> simp only [State.wr_kept, State.wrs_kept, State.bump_kept, State.raise_kept,
      State.raiseYield_kept, State.putBytes_kept, State.showBanks_kept, State.startSwap_kept, State.poisoned_kept]

/-! ### Machine/RegRead -/

theorem State.shown_kept (s : State) (b i : Nat) : (s.shown b i).kept = s.kept := by
  simp only [State.shown, State.wr_kept, State.wrB_kept, kept_ite, ite_self]

theorem State.readWord_kept (s : State) (blk offset : Nat) : (s.readWord blk offset).2.kept = s.kept := by
  unfold State.readWord
  generalize findReg regTable (blockAddr blk offset) = r
  cases histAt blk offset with
  | some x => rfl
  | none =>
    cases r with
    | none => rfl
    | some x =>
      obtain ⟨d, i, j⟩ := x
      dsimp -zeta only
      split
      · exact State.wrs_kept _ _
      · split
        · exact State.eqPop_kept _ _
        · rfl

/-! ### Machine/CoreBus -/

theorem State.windowWrite_kept (s : State) (e o : Nat) (v : BitVec 32) : KeptIn s (State.windowWrite s e o v) := by
  simp only [State.windowWrite, keptIn_ite, keptIn_some, keptIn_none, State.setEng_kept, State.putMem_kept,
      State.showEngine_kept, kept_mk, mk_kept, ite_self]

theorem State.busRead_kept (s : State) (u : Core) (a : Nat) : (s.busRead u a).2.kept = s.kept := by
  simp only [State.busRead]
  (repeat' split) <;> simp only [State.accessFault_kept, State.readWord_kept, kept_mk, mk_kept]

/-- A recursion on a number whose steps keep the state that they carry. -/
theorem kept_brecOn {β : Type} {s : State} {F : (n : Nat) → Nat.below (motive := fun _ => β × State) n → β × State}
    (h0 : ∀ b, (F 0 b).2.kept = s.kept) (h : ∀ n p b, (F (n + 1) ⟨p, b⟩).2.kept = p.2.kept) (n : Nat) :
    (Nat.brecOn (motive := fun _ => β × State) n F).2.kept = s.kept := by
  induction n with
  | zero => exact h0 _
  | succ n ih => exact (h n _ _).trans ih


theorem State.readWords_kept (s : State) (blk offset a0 : Nat) : (s.readWords blk offset a0).2.kept = s.kept := by
  have hread : ∀ s u a, (State.busRead s u a).2.kept = s.kept := State.busRead_kept
  delta State.readWords
  generalize hF : State.readWords._f s blk offset = F
  delta State.readWords._f at hF
  revert hread hF
  generalize State.busRead = read
  revert read
  refine id fun read hread hF => ?_
  subst hF
  exact kept_brecOn (fun _ => rfl) (fun n p b => hread _ (.mgc 0) (blockAddr blk (offset + 4 * n))) a0

@[simp] theorem execReadReg_kept (fn : Fin 256) (index : BitVec 16) (s : State) :
    KeptBy s (execReadReg fn index s) := by
  refine (keptBy_next _ _).2 (State.withDescr_kept _ _ _ _ fun x => ?_)
  split
  · simp only [State.done_kept, State.dma_kept, State.readWords_kept]
  · rfl

/-! ### Machine/RegWrite -/

theorem State.refuse_kept (s : State) (blk detail : Nat) : (s.refuse blk detail).kept = s.kept := by
  unfold State.refuse
  split <;> simp only [State.raise_kept]

theorem State.putField_kept (s : State) (acc : Access) (f : Field) (v : Nat) (locked : Bool) :
    (s.putField acc f v locked).kept = s.kept := by
  unfold State.putField
  split <;> simp only [State.wr_kept, kept_ite, ite_self]

theorem State.putFields_kept (s : State) (d : RegDef) (i j v : Nat) (locked : Bool) :
    (s.putFields d i j v locked).kept = s.kept := by
  simp only [State.putFields, State.putField_kept, implies_true, kept_foldl]

theorem State.onBit_kept (s : State) (v n : Nat) (k : State → State) (hk : ∀ s, (k s).kept = s.kept) :
    (s.onBit v n k).kept = s.kept := by
  simp only [State.onBit, hk, kept_ite, ite_self]

theorem State.tndCtl_kept (s : State) (v : Nat) : (s.tndCtl v).kept = s.kept := by
  simp only [State.tndCtl, State.wr_kept, State.tndSwitch_kept, State.tndRejoin_kept, State.tndPartnerRst_kept,
      State.tndCntClr_kept, State.onBit_kept, implies_true]

theorem State.liftWrite_kept (s : State) (v : Nat) : (s.liftWrite v).kept = s.kept := by
  simp only [State.liftWrite, State.wrs_kept, State.freeBit_kept, State.lift_kept, kept_ite, ite_self]

theorem State.fwCtl_kept (s : State) (v : Nat) : (s.fwCtl v).kept = s.kept := by
  simp only [State.fwCtl, State.saveSettings_kept, State.confirm_kept, State.clearStage_kept,
      State.imageFailed_kept, State.onBit_kept, implies_true, kept_ite, ite_self, kept_mk, mk_kept]

theorem State.whole_kept (s : State) (b i j v : Nat) : KeptIn s (State.whole s b i j v) := by
  simp only [State.whole, keptIn_ite, keptIn_some, keptIn_none, State.laneTest_kept, State.bindWrite_kept,
      State.mapWrite_kept, State.ceArmown_kept, State.migWrite_kept, State.sysCalStart_kept, State.kickWrite_kept,
      State.tndCtl_kept, State.tndSync_kept, State.wr_kept, State.incWrite_kept, State.adjWrite_kept,
      State.refuse_kept, State.setWrite_kept, State.bridgeWrite_kept, State.spareStart_kept, State.taskCfg_kept,
      State.taskAff_kept, State.onBit_kept, State.taskStart_kept, State.taskStop_kept, State.pertWrite_kept,
      State.liftWrite_kept, State.fwCtl_kept, kept_ite, implies_true, ite_self]

theorem State.ceCfg_kept (s t : State) (ht : t.kept = s.kept) (e v : Nat) : (s.ceCfg t e v).kept = s.kept := by
  have hw : (t.wr (Fld.CE_CFG_ENABLE e) (s.rd (Fld.CE_CFG_ENABLE e))).kept = s.kept := by rw [State.wr_kept, ht]
  unfold State.ceCfg
  refine kept_ite_of (State.refuse_kept _ _ _) ?_
  have ha := State.admitDemand_kept s (fun _ => t.wr (Fld.CE_CFG_ENABLE e) (s.rd (Fld.CE_CFG_ENABLE e))) hw
  generalize s.admitDemand (fun _ => t.wr (Fld.CE_CFG_ENABLE e) (s.rd (Fld.CE_CFG_ENABLE e))) = q at ha ⊢
  obtain ⟨u, ok⟩ := q
  exact kept_ite_of ((State.ceEnable_kept _ _ _).trans ha) ha

theorem State.recCfg_kept (s t : State) (ht : t.kept = s.kept) (d v : Nat) : (s.recCfg t d v).kept = s.kept := by
  refine kept_ite_of (kept_ite_of ((State.recDisable_kept _ _).trans ht) ht) ?_
  have hu : ((t.wr (Fld.REC_D_CFG_ENABLE d) 0).recEnable d).kept = s.kept := by
    rw [State.recEnable_kept, State.wr_kept, ht]
  refine kept_ite_of hu ?_
  rw [kept_mk, mk_kept, hu]

theorem State.extCfg_kept (s t : State) (ht : t.kept = s.kept) : (s.extCfg t).kept = s.kept := by
  exact kept_ite_of ((State.showFits_kept t).trans ht) (State.refuseFit_kept _ _ _)

theorem State.spkCfg_kept (s : State) (n : Nat) : (s.spkCfg n).kept = s.kept := by
  simp only [State.spkCfg, State.setSpoke_kept, State.manualStep_kept, kept_ite, ite_self]

theorem State.afterWrite_kept (s t : State) (ht : t.kept = s.kept) (b i v : Nat) :
    (s.afterWrite t b i v).kept = s.kept := by
  simp only [State.afterWrite, State.spkCfg_kept, State.enableSpoke_kept, State.disableSpoke_kept, State.onBit_kept,
      State.restep_kept, State.wr_kept, State.spkCntClear_kept, State.ceCfg_kept s t ht, State.ceCntClr_kept,
      State.extCfg_kept s t ht, State.requestRelease_kept, State.evaluate_kept, State.lpConfigured_kept,
      State.lpUpdate_kept, State.lpCommit_kept, State.lpFire_kept, State.adcUrg_kept, kept_mk, mk_kept,
      State.adcCntClear_kept, State.adcConfigured_kept, State.calWritten_kept, State.cmpConfigured_kept,
      State.syncDecl_kept, State.stpCntClear_kept, State.setGoose_kept, State.clearYield_kept,
      State.secCntClear_kept, State.fansUpdate_kept, State.fanClear_kept, State.recCfg_kept s t ht,
      State.recHost_kept, State.recCntClear_kept, State.reslot_kept, State.schCntClear_kept, State.irqEnabled_kept,
      State.eqFlush_kept, State.eqCntClear_kept, State.qosCntClr_kept, implies_true, kept_ite, ht, ite_self]

theorem State.writeFields_kept (s : State) (d : RegDef) (i j a v : Nat) :
    (s.writeFields d i j a v).kept = s.kept := by
  unfold State.writeFields
  extract_lets blk locked r t u
  have hr : r.kept = s.kept := by
    unfold r
    split
    · split
      · exact State.raise_kept _ _ _
      · rfl
    · rfl
  have ht : t.kept = r.kept := State.putFields_kept _ _ _ _ _ _
  have hu : u.kept = s.kept := (State.afterWrite_kept r t ht _ _ _).trans hr
  have hs : ({ u with seqr := { u.seqr with staged := true } } : State).kept = s.kept := by
    rw [kept_mk, mk_kept, hu]
  have hw := State.whole_kept s d.base i j v
  clear_value u t r
  refine kept_ite_of (State.refuse_kept _ _ _) ?_
  split
  · exact hw _ (by assumption)
  · exact kept_ite_of ((State.refuse_kept _ _ _).trans hr) (kept_ite_of hs hu)

theorem State.judged_kept (s : State) (blk : Nat) (k : State → State) (hk : ∀ s, (k s).kept = s.kept) :
    (s.judged blk k).1.kept = s.kept := by
  simp only [State.judged, State.wr_kept, hk, implies_true, kept_ite, ite_self, kept_foldl]

theorem State.writeWord_kept (s : State) (a v : Nat) : (s.writeWord a v).1.kept = s.kept := by
  simp only [State.writeWord]
  (repeat' split) <;> simp only [State.writeFields_kept, State.judged_kept, implies_true]

theorem State.writeWords_kept (s : State) (a n : Nat) (staged : Bool) (a0 : List (BitVec 32)) :
    (s.writeWords a n staged a0).1.kept = s.kept := by
  induction a0 generalizing s n staged with
  | nil => rfl
  | cons w ws ih =>
    rw [State.writeWords]
    have hw := State.writeWord_kept s (a + 4 * n) w.toNat
    generalize s.writeWord (a + 4 * n) w.toNat = q at hw ⊢
    obtain ⟨t, st⟩ := q
    cases st with
    | some st => exact hw
    | none => exact (ih _ _ _).trans hw

@[simp] theorem execCfgWrite_kept (fn : Fin 256) (index : BitVec 16) (s : State) :
    KeptBy s (execCfgWrite fn index s) := by
  refine (keptBy_next _ _).2 (State.withDescr_kept _ _ _ _ fun x => ?_)
  split
  · rename_i blk off ws _
    refine kept_ite_of ((State.done_kept _ _ _ _ _ _).trans (State.accessFault_kept _ _ _)) ?_
    have hw := State.writeWords_kept s (blockAddr blk off) 0 false ws
    generalize s.writeWords (blockAddr blk off) 0 false ws = q at hw ⊢
    obtain ⟨t, n, st, staged⟩ := q
    replace hw : t.kept = s.kept := hw
    cases st with
    | some st => exact (State.done_kept _ _ _ _ _ _).trans hw
    | none => simp only [kept_ite, State.setProgress_kept, State.done_kept, hw, ite_self]
  · rfl

theorem State.blockWrite_kept (s : State) (u : Core) (a v : Nat) : (s.blockWrite u a v).kept = s.kept := by
  unfold State.blockWrite
  generalize findReg regTable a = r
  cases r with
  | none => exact kept_ite_of (State.asWriter_kept _ _ _ _ fun _ => rfl) (State.accessFault_kept _ _ _)
  | some x =>
    obtain ⟨d, i, j⟩ := x
    refine State.asWriter_kept _ _ _ _ fun s => kept_ite_of ?_ (State.writeFields_kept _ _ _ _ _ _)
    exact kept_foldl _ _ _ fun s fd => State.wr_kept _ _ _

theorem State.coreWrite_kept (s : State) (u : Core) (a : Nat) (v : BitVec 32) :
    (s.coreWrite u a v).kept = s.kept := by
  unfold State.coreWrite
  have hw := State.windowWrite_kept s ((a - windowBase) / 0x100000) (a % 0x100000) v
  generalize s.windowWrite ((a - windowBase) / 0x100000) (a % 0x100000) v = o at hw ⊢
  have ho : (o.getD (s.accessFault u a)).kept = s.kept := by
    cases o with
    | none => exact State.accessFault_kept _ _ _
    | some t => exact hw t rfl
  simp only [kept_ite, State.accessFault_kept, State.blockWrite_kept, State.putBytes_kept, State.dramStore_kept, ho,
      ite_self]

theorem State.sriovWrite_kept (s : State) (p n : Nat) : (s.sriovWrite p n).kept = s.kept := by
  simp only [State.sriovWrite, State.wr_kept, State.resetFn_kept, implies_true, kept_ite, ite_self, kept_foldl]

@[simp] theorem execRegisterWrite_kept (w : Writer) (addr : BitVec 40) (value : Reg32) (s : State) :
    KeptBy s (execRegisterWrite w addr value s) := by
  unfold execRegisterWrite
  split <;> simp only [State.barWrite_kept, State.coreWrite_kept, State.sriovWrite_kept, keptBy_next]

/-! ### Machine/Tick -/

theorem State.tickTb0_kept (s : State) : s.tickTb0.kept = s.kept := by
  unfold State.tickTb0
  split <;> simp only [State.setBase_kept, kept_mk, mk_kept]

theorem State.tickBase_kept (s : State) (n : Nat) : (s.tickBase n).kept = s.kept := by
  simp only [State.tickBase, State.setBase_kept]

theorem State.tickLp_kept (s : State) (n : Nat) : (s.tickLp n).kept = s.kept := by
  simp only [State.tickLp, State.wr_kept, kept_ite, ite_self]

theorem State.tickTamper_kept (s : State) (f : Field) : (s.tickTamper f).kept = s.kept := by
  simp only [State.tickTamper, State.wrB_kept, State.freeBit_kept, kept_ite, ite_self]

theorem State.tickWatchdogs_kept (s : State) : s.tickWatchdogs.kept = s.kept := by
  simp only [State.tickWatchdogs, kept_ite, ite_self, kept_mk, mk_kept]

theorem State.tick_kept (s : State) : s.tick.kept = s.kept := by
  simp only [State.tick, State.wr_kept, State.bumpWrap_kept, State.adcSwaps_kept, State.evaluate_kept,
      State.noteSync_kept, State.servo_kept, State.tickTb0_kept, State.tickBase_kept, State.tickLp_kept,
      State.tickTamper_kept, State.tickWatchdogs_kept, implies_true, kept_ite, ite_self, kept_foldl]

end Sys2Proof.Machine
end

section
/-! PROOFS. The commands that burn fuses clear no bit (R403), and every step keeps the rest of the queue. -/

namespace Sys2Proof.Machine

/-- From `s` to `t` no command joined or left the queue, and no burnt fuse bit was cleared. -/
def BurnsOnly (s t : State) : Prop := t.pending = s.pending ∧ FusesOnlyBurn s t

namespace BurnsOnly
variable {s t u : State}

theorem of_kept (h : t.kept = s.kept) : BurnsOnly s t := by
  obtain ⟨hp, ho⟩ := Prod.mk.inj h
  exact ⟨hp, fun w => by rw [ho, BitVec.and_self]⟩

theorem trans (h : BurnsOnly s t) (h' : BurnsOnly t u) : BurnsOnly s u :=
  ⟨h'.1.trans h.1, fun w => by rw [← h.2 w, BitVec.and_assoc, h'.2 w]⟩

theorem refl : BurnsOnly s s := of_kept rfl

theorem before (h : BurnsOnly t u) (hk : t.kept = s.kept) : BurnsOnly s u := (of_kept hk).trans h

theorem after (h : BurnsOnly s t) (hk : u.kept = t.kept) : BurnsOnly s u := h.trans (of_kept hk)

theorem ite {c : Prop} [Decidable c] (ht : BurnsOnly s t) (hu : BurnsOnly s u) : BurnsOnly s (if c then t else u) := by
  split <;> assumption

theorem foldl {α : Type} {f : State → α → State} (h : ∀ s a, BurnsOnly s (f s a)) (l : List α) (s : State) :
    BurnsOnly s (l.foldl f s) := by
  induction l generalizing s with
  | nil => exact refl
  | cons a l ih => exact (h s a).trans (ih _)

end BurnsOnly

/-- A burn sets bits of one word and clears none (R403). -/
theorem burnsOnly_burn (s : State) (w : Nat) (bits : BitVec 32) (verified : Bool) : BurnsOnly s (s.burn w bits verified) := by
  let v := FMap.get 0 s.fuses.otp w ||| bits
  have hset : BurnsOnly s { s with fuses := { s.fuses with otp := FMap.set 0 s.fuses.otp w v } } := by
    refine ⟨rfl, fun x => ?_⟩
    rw [FMap.get_set]
    split
    · next hx => subst hx; exact BitVec.eq_of_getElem_eq fun i hi => by simp +contextual [v]
    · exact BitVec.and_self
  refine hset.after ?_
  exact kept_ite_of (State.wr_kept _ _ _) ((State.raise_kept _ _ _).trans (State.addSticky_kept _ _ _ _))

theorem burnsOnly_burnRollback (s : State) (n : Nat) (verified : Bool) : BurnsOnly s (s.burnRollback n verified) :=
  BurnsOnly.foldl (fun s _ => BurnsOnly.ite BurnsOnly.refl (burnsOnly_burn s _ _ _)) _ s

theorem burnsOnly_moveToField (s : State) (verified : Bool) : BurnsOnly s (s.moveToField verified).1 := by
  unfold State.moveToField
  split
  · split
    · exact (burnsOnly_burnRollback s _ verified).after (State.showLifecycle_kept _)
    · exact BurnsOnly.refl
  · exact BurnsOnly.refl

theorem burnsOnly_reprovision (s : State) (verified : Bool) : BurnsOnly s (s.reprovision verified).1 := by
  have hb := burnsOnly_burn s 58 (BitVec.ofNat 32 (2 ^ s.reprovs)) verified
  unfold State.reprovision
  generalize s.burn 58 (BitVec.ofNat 32 (2 ^ s.reprovs)) verified = t at hb ⊢
  extract_lets t1 t2 t3 src t4 t5
  split
  · exact hb
  · refine hb.after ?_
    simp only [t5, t4, t3, t2, t1, State.orderReset_kept, State.raise_kept, State.drawIdentity_kept,
      State.endAllSessions_kept, kept_mk, mk_kept, State.resetRange_kept]

theorem burnsOnly_retire (s : State) (verified zeroised : Bool) : BurnsOnly s (s.retire verified zeroised).1 := by
  unfold State.retire
  extract_lets t1 t2
  have hz : t1.kept = s.kept := by rw [State.zeroise_kept, State.endAllSessions_kept]
  clear_value t1
  split
  · exact BurnsOnly.of_kept ((State.zeroiseFailed_kept _).trans hz)
  · exact ((burnsOnly_burn t1 _ _ _).before hz).after (by rw [State.orderReset_kept, State.raise_kept])

theorem burnsOnly_provision (s : State) (o : CustObject) (verified : Bool) : BurnsOnly s (s.provision o verified).1 := by
  unfold State.provision
  extract_lets n s1 s2 s3 s4 s5
  have h3 : BurnsOnly s s3 :=
    ((BurnsOnly.foldl (fun s _ => BurnsOnly.foldl (fun s _ => burnsOnly_burn s _ _ _) _ s) _ s1).trans
      (burnsOnly_burn s2 _ _ _)).before (State.drawIdentity_kept s)
  have h4 : BurnsOnly s s4 := h3.after (by rw [kept_mk, mk_kept])
  split
  · exact h4.after (by rw [State.raise_kept, State.showLifecycle_kept])
  · exact h4.after (by rw [State.showLifecycle_kept, State.wr_kept, kept_mk, mk_kept])

theorem burnsOnly_applyMove (s : State) (o : CustObject) (verified zeroised : Bool) :
    BurnsOnly s (s.applyMove o verified zeroised).1 := by
  have hr := burnsOnly_reprovision s verified
  have hz := burnsOnly_retire s verified zeroised
  have hf := burnsOnly_moveToField s verified
  unfold State.applyMove
  split
  · exact burnsOnly_provision s o verified
  split
  · dsimp only
    split
    · refine hr.after ?_
      rw [State.raise_kept, State.wr_kept, kept_mk, mk_kept]
    · exact hr
  split
  · exact BurnsOnly.ite (hz.after (State.applyBundle_kept _ _)) hz
  split
  · dsimp only
    split
    · exact hf.after ((State.moveTo_kept _ _).trans (State.applyBundle_kept _ _))
    · exact hf
  refine BurnsOnly.of_kept ?_
  split
  · rw [State.moveTo_kept, State.applyBundle_kept]
  split
  · rw [State.raise_kept, State.clearTamper_kept, State.applyBundle_kept]
  · exact State.applyBundle_kept _ _

theorem burnsOnly_policy (s : State) (f : Nat) (index : BitVec 16) (want : CustObject → Bool) (verified zeroised : Bool) :
    BurnsOnly s (s.policy f index want verified zeroised) := by
  unfold State.policy
  split
  · exact BurnsOnly.refl
  split
  · refine BurnsOnly.ite BurnsOnly.refl (BurnsOnly.ite ?_ ?_)
    · exact (burnsOnly_applyMove s _ _ _).after (State.done_kept _ _ _ _ _ _)
    extract_lets r t
    have ht : t.kept = s.kept := State.countSigs_kept _ _ _
    clear_value t r
    cases r with
    | some r => exact BurnsOnly.of_kept ((State.refuseObject_kept _ _ _ _).trans ht)
    | none =>
      refine BurnsOnly.ite (BurnsOnly.of_kept ?_) ?_
      · simp only [kept_ite, State.yieldFirst_kept, State.refuseObject_kept, ite_self, ht]
      · exact ((burnsOnly_applyMove t _ _ _).after (State.done_kept _ _ _ _ _ _)).before ht
  · exact BurnsOnly.refl

theorem burnsOnly_carryOpen (s : State) (f : Nat) (x : InFlight) (verified zeroised : Bool) :
    BurnsOnly s (s.carryOpen f x verified zeroised) := by
  unfold State.carryOpen
  extract_lets s1 s2 s3 s4
  have h3 : s3.kept = s.kept := by
    simp only [s3, s2, s1, State.zeroise_kept, kept_ite, State.pertEnd_kept, ite_self, State.endAllSessions_kept]
  refine BurnsOnly.ite (BurnsOnly.of_kept ?_) ?_
  · rw [State.done_kept, State.zeroiseFailed_kept, h3]
  · exact ((burnsOnly_burn s3 _ _ _).before h3).after (by rw [State.orderReset_kept, State.done_kept, State.raise_kept])

theorem burnsOnly_debugOpen (s : State) (f : Nat) (index : BitVec 16) (verified zeroised : Bool) :
    BurnsOnly s (s.debugOpen f index verified zeroised) := by
  unfold State.debugOpen
  split
  · exact BurnsOnly.refl
  split
  · refine BurnsOnly.ite (burnsOnly_carryOpen _ _ _ _ _) ?_
    extract_lets r t
    have ht : t.kept = s.kept := State.countSigs_kept _ _ _
    clear_value t r
    cases r with
    | some r => exact BurnsOnly.of_kept ((State.refuseObject_kept _ _ _ _).trans ht)
    | none =>
      refine BurnsOnly.ite (BurnsOnly.of_kept ?_) ((burnsOnly_carryOpen t _ _ _ _).before ht)
      simp only [kept_ite, State.yieldFirst_kept, State.setProgress_kept, State.refuseObject_kept, ite_self, ht]
  · exact BurnsOnly.refl

/-- A command that keeps the queue and the fuses burns nothing. -/
theorem KeptBy.burnsOnly {s t : State} {o : Host.Outcome State Fault Refusal} (h : KeptBy s o) (ho : o = .next t) :
    BurnsOnly s t := BurnsOnly.of_kept (h t ho)

/-- The outcome of a command that goes on in `t`. -/
theorem BurnsOnly.of_next {s t u : State} (h : BurnsOnly s t)
    (hu : (.next t : Host.Outcome State Fault Refusal) = .next u) : BurnsOnly s u := by
  cases hu; exact h

theorem exec_burnsOnly (c : Instr) (s t : State) (h : exec c s = .next t) : BurnsOnly s t := by
  cases c
  case secPolicy => exact (burnsOnly_policy _ _ _ _ _ _).of_next h
  case secProvision => exact (burnsOnly_policy _ _ _ _ _ _).of_next h
  case move0PolicyOnly => exact (burnsOnly_policy _ _ _ _ _ _).of_next h
  case move1 => exact (burnsOnly_policy _ _ _ _ _ _).of_next h
  case move2 => exact (burnsOnly_policy _ _ _ _ _ _).of_next h
  case move3Reprovision => exact (burnsOnly_policy _ _ _ _ _ _).of_next h
  case move4Retire => exact (burnsOnly_policy _ _ _ _ _ _).of_next h
  case move5ClearTamper => exact (burnsOnly_policy _ _ _ _ _ _).of_next h
  case debugOpen => exact (burnsOnly_debugOpen _ _ _ _ _).of_next h
  all_goals exact KeptBy.burnsOnly (by simp [exec]) h

end Sys2Proof.Machine

open Sys2Proof Sys2Proof.Machine

/-- Settles O9: a tick and every command keep the queue, and a burn only sets bits. -/
theorem queueAndFusesKept : Obligations.QueueAndFusesKept := by
  unfold Obligations.QueueAndFusesKept
  intro s t h
  unfold step at h
  cases hp : s.pending with
  | nil =>
    rw [hp] at h
    obtain ⟨hq, hf⟩ := (BurnsOnly.of_kept (State.tick_kept s)).of_next h
    exact ⟨hq.trans hp, hf⟩
  | cons c rest =>
    rw [hp] at h
    exact exec_burnsOnly c _ t h

end

section
/-! PROOFS. The compute window on a YIELDED module (R322, R330). -/

namespace Sys2Proof.Machine

/-- A YIELDED module at tick C with one set-point in force and, from its twin, the SHADOW frame of the last volley, which carries
none. -/
def yieldedWithShadow : State :=
  let s := atTime 1 0 [(Fld.TND_STAT_STATE, 5)]
  { s with
    rst := { s.rst with phase := .started }, seqr := { Sequencer.reset with phase := 0 }, setNow := [(0, ⟨1, 1⟩)]
    tnd := { s.tnd with shadow := some ⟨true, -1, 0, 0, 0, 0, 0, 0, [], [], [], [], []⟩ } }

/-- The state is one that the statement speaks of: started, in phase 0 at tick C, no engine in MIG_SRC, neither SYNCING nor READY. -/
theorem yieldedWithShadow_opens :
    yieldedWithShadow.started = true ∧ yieldedWithShadow.seqr.phase = 0 ∧ yieldedWithShadow.seqr.windowOpen = false ∧
    yieldedWithShadow.time.boundaryTick + yieldedWithShadow.timeline.c ≤ yieldedWithShadow.nowTick ∧
    (∀ f : Fin 32, yieldedWithShadow.engState f ≠ 3) ∧ yieldedWithShadow.tndState ≠ 2 ∧ yieldedWithShadow.tndState ≠ 3 := by
  decide +kernel

/-- The window applies the shadow: the set-points of the frame replace those in force. -/
theorem yieldedWithShadow_setNow_replaced :
    (match exec (.computeWindowOpen 0) yieldedWithShadow with
      | .next t => decide (t.setNow = yieldedWithShadow.setNow)
      | _ => true) = false := by decide +kernel

end Sys2Proof.Machine

open Sys2Proof Sys2Proof.Machine

/-- Refutes O34: a YIELDED module is a standby too, and its window replaces the set-points by those of the shadow. -/
theorem not_computeWindowOpens : ¬ Obligations.ComputeWindowOpens := by
  unfold Obligations.ComputeWindowOpens
  intro h
  obtain ⟨hstarted, hphase, hclosed, htick, hmig, hsyncing, hready⟩ := yieldedWithShadow_opens
  obtain ⟨t, ht, -, -, hset, -⟩ := (h yieldedWithShadow 0 0).2 hstarted hphase hclosed htick hmig hsyncing hready
  have hne := yieldedWithShadow_setNow_replaced
  rw [ht] at hne
  exact of_decide_eq_false hne hset

end

section
/-! PROOFS. A reset that is taken at the boundary leaves the live bits of the reference clocks (R456). -/

namespace Sys2Proof.Machine

/-- A started module at a boundary for which a reset is ordered. Reference clock A has failed. -/
def resetWithoutRefA : State :=
  let s := at' [(Fld.TBS_REF_A_OK, 0)]
  { s with rst := { s.rst with phase := .started, atBoundary := some ⟨.self 5, false, 0⟩ } }

theorem resetWithoutRefA_due :
    resetWithoutRefA.rst.atBoundary = some ⟨.self 5, false, 0⟩ ∧ resetWithoutRefA.mayBegin = true ∧
    resetWithoutRefA.rst.phase ≠ .hold .storm := by
  decide +kernel

/-- The reset keeps A_OK, which shows the failed clock and so differs from its reset value. -/
theorem resetWithoutRefA_keeps_aOk :
    (match exec (.volleyBoundary 0) resetWithoutRefA with
      | .next t => decide (t.rd Fld.TBS_REF_A_OK = Fld.TBS_REF_A_OK.reset)
      | _ => true) = false := by decide +kernel

end Sys2Proof.Machine

open Sys2Proof Sys2Proof.Machine

/-- Refutes O33: it says that a reset taken at the boundary returns every register field of block TBS to its reset value, but the
live bit A_OK of a failed reference clock stays 0. -/
theorem not_volleyBoundary : ¬ Obligations.VolleyBoundary := by
  unfold Obligations.VolleyBoundary
  intro h
  obtain ⟨hdue, hbegin, hhold⟩ := resetWithoutRefA_due
  obtain ⟨-, hreset, -⟩ := h resetWithoutRefA 0 0 0
  obtain ⟨t, ht, -, -, -, -, -, -, hregs, -⟩ := hreset _ hdue (.inl rfl) (.inr hbegin) hhold
  have hne := resetWithoutRefA_keeps_aOk
  rw [ht] at hne
  exact of_decide_eq_false hne (hregs Fld.TBS_REF_A_OK (by decide) (by decide))

end

section
/-! PROOFS. The admission time-out on a spoke with a tail (R134, R135, R148). -/

namespace Sys2Proof.Machine

/-- Spoke 0 at G0. Cell 0 is assigned and has not answered for nine volleys; cell 1, the one cell of the tail, was polled second in the
last volley and answers there in the window. -/
def polledTail : State :=
  (State.reset.setCell 0 (fun x => { x with lstate := .assigned, assignAge := some 9 })).setCell 1 (fun x => { x with
    lstate := .tail, tailPos := some 0, pos := slotUi 0 })

theorem polledTail_times_out :
    (polledTail.cell (cellId 0 0)).lstate = .assigned ∧
    (polledTail.cell (cellId 0 0)).assignAge.any
      (fun v => decide (8 < v) || (v == 8 && !polledTail.seqr.windowOpen)) = true := by decide +kernel

/-- When the slot of cell 0 is freed, the tail is numbered anew, and cell 1 is told the place of its tail slot. -/
theorem polledTail_moves :
    (match exec (.admissionTimeout 0 0) polledTail with
      | .next t => decide ((FMap.get Cell.reset t.cells 1).pos = (FMap.get Cell.reset polledTail.cells 1).pos)
      | _ => true) = false := by decide +kernel

end Sys2Proof.Machine

open Sys2Proof Sys2Proof.Machine

/-- Refutes O27: it says that the admission time-out changes no other cell, but the tail of the spoke is numbered anew when a slot is
freed, and a tail cell that stands elsewhere, as a POLL leaves it, moves to its place. -/
theorem not_returnTimeouts : ¬ Obligations.ReturnTimeouts := by
  unfold Obligations.ReturnTimeouts
  intro h
  obtain ⟨hassigned, hage⟩ := polledTail_times_out
  obtain ⟨-, -, -, -, -, -, -, -, -, -, -, -, htimeout, -⟩ := h polledTail 0 0
  obtain ⟨t, ht, -, -, -, hcells, -⟩ := htimeout hassigned hage
  have hne := polledTail_moves
  rw [ht] at hne
  exact of_decide_eq_false hne (congrArg Cell.pos (hcells 1 (by decide)))

end

section
/-! PROOFS. CELL_CTL releases a cell of the tail (R141, R148; log 68). -/

namespace Sys2Proof.Machine

/-- Function 255 holds a CELL_CTL that releases cell 0 of spoke 0, the first cell in the spoke's tail; cell 1 is the second. -/
def releaseFromTail : State :=
  ((flightAt [] (.cellCtl 0 0)).setCell 0 (fun x => { x with lstate := .tail, tailPos := some 0 })).setCell 1 (fun x => { x with
    lstate := .tail, tailPos := some 1 })

theorem releaseFromTail_runs : releaseFromTail.runnable 255 3 = some (aFlight (.cellCtl 0 0)) := by decide +kernel

/-- The second cell of the tail becomes the first. -/
theorem releaseFromTail_moves_up :
    (match exec (.cellCtlRelease 255 3) releaseFromTail with
      | .next t => decide ((FMap.get Cell.reset t.cells 1).tailPos = (FMap.get Cell.reset releaseFromTail.cells 1).tailPos)
      | _ => true) = false := by decide +kernel

end Sys2Proof.Machine

open Sys2Proof Sys2Proof.Machine

/-- Refutes O43: it says that a CELL_CTL changes no cell but the one released, but when a cell leaves the tail of its spoke the later
ones move up. -/
theorem not_controlDescriptors : ¬ Obligations.ControlDescriptors := by
  unfold Obligations.ControlDescriptors
  intro h
  obtain ⟨-, -, -, -, -, hctl, -⟩ := h releaseFromTail 255 3 _ releaseFromTail_runs
  obtain ⟨hrelease, -⟩ := hctl 0 0 rfl
  obtain ⟨t, ht, -, -, hcells, -⟩ := hrelease rfl
  have hne := releaseFromTail_moves_up
  rw [ht] at hne
  exact of_decide_eq_false hne (congrArg Cell.tailPos (hcells 1 (by decide)))

end

section
/-! PROOFS. A due request that names a slot beyond its spoke (R141). -/

namespace Sys2Proof.Machine

/-- Tick A has come. Spoke 0 serves and holds one due write, of slot 128, which no cell of a spoke has; spoke 1 serves not. -/
def writeBeyondSpoke : State :=
  let s := (atTime 1 0 [(Fld.SPK_CFG_ENABLE 0, 1), (Fld.SPK_STAT_ADMITTED 0, 1), (Fld.SEC_LC_STATE, 2)]).setSpoke 0 (fun p => { p with
    litAt := some 0, items := [.req { slot := 128, op := 1, point := 0, wtag := 0, value := 0, back := false }] })
  { s with rst := { s.rst with phase := .started }, seqr := { s.seqr with phase := 1 } }

theorem writeBeyondSpoke_assembles :
    writeBeyondSpoke.started = true ∧ writeBeyondSpoke.seqr.phase = 1 ∧ writeBeyondSpoke.serveNext 1 = false ∧
    writeBeyondSpoke.time.boundaryTick + writeBeyondSpoke.timeline.a ≤ writeBeyondSpoke.nowTick := by decide +kernel

/-- The write leaves in the serve of spoke 0; its read-back becomes due on spoke 1. -/
theorem writeBeyondSpoke_readBack :
    (match exec .serveAssemblyStart writeBeyondSpoke with
      | .next t => decide ((t.spoke 1).items = (writeBeyondSpoke.spoke 1).items)
      | _ => true) = false := by decide +kernel

end Sys2Proof.Machine

open Sys2Proof Sys2Proof.Machine

/-- Refutes O35: it says that the entries of a spoke that serves not stay due as they were, in every state, also where a due write
names a slot beyond its spoke, whose read-back becomes due on the spoke of that cell number. -/
theorem not_serveAssembly : ¬ Obligations.ServeAssembly := by
  unfold Obligations.ServeAssembly
  intro h
  obtain ⟨hstarted, hphase, hserve, htick⟩ := writeBeyondSpoke_assembles
  obtain ⟨t, ht, -, -, -, -, -, -, hidle, -⟩ := (h writeBeyondSpoke 0 1 0 0).2 hstarted hphase htick
  have hne := writeBeyondSpoke_readBack
  rw [ht] at hne
  exact of_decide_eq_false hne (hidle hserve).2

end

section
/-! PROOFS. A function-level reset where two functions hold sessions of one handle (R377, R388). -/

namespace Sys2Proof.Machine

/-- The session of handle 1 of a function. -/
def sessionOne (f : Nat) : Session := ⟨1, f, 0, 0, 0, 0, 0, 0, 0⟩

/-- The link of port 1 is up; functions 254 and 255 each hold a session of handle 1. -/
def sharedHandle : State :=
  let s := at' [(Fld.HIF_PORT_STAT_ENABLED 1, 1), (Fld.HIF_PORT_STAT_LINK_UP 1, 1)]
  { s with sec := { s.sec with sessions := [sessionOne 254, sessionOne 255] } }

theorem sharedHandle_answers : sharedHandle.portAnswers 1 = true := by decide +kernel

/-- The reset of function 255 ends the session of function 254 too. -/
theorem sharedHandle_reset_ends_both :
    (match exec (.functionLevelReset 255) sharedHandle with
      | .next t => decide (sessionOne 254 ∈ t.sec.sessions)
      | _ => true) = false := by decide +kernel

end Sys2Proof.Machine

open Sys2Proof Sys2Proof.Machine

/-- Refutes O41: it says of every state that the reset of a virtual function ends no session of another, but a session ends by its
handle, and where another function holds a session of the same handle that one ends with it. -/
theorem not_fetchAndFunctionResets : ¬ Obligations.FetchAndFunctionResets := by
  unfold Obligations.FetchAndFunctionResets
  intro h
  obtain ⟨-, -, -, -, -, -, -, -, -, -, hreset, -⟩ := h sharedHandle 255 0 0
  obtain ⟨t, ht, -, -, -, -, hvirtual, -⟩ := hreset sharedHandle_answers
  obtain ⟨-, hsessions⟩ := hvirtual (by decide)
  have hgone := sharedHandle_reset_ends_both
  rw [ht] at hgone
  exact of_decide_eq_false hgone (hsessions (sessionOne 254) (by decide +kernel) (by decide))

end

section
/-! PROOFS. The sharing of a window (R18, R409, R416, R419 to R421): what a grant takes, what a chain of grants keeps, and that a class is
served until it is empty where nothing limits it. -/

namespace Sys2Proof.Machine

/-! ### One grant -/

theorem FMap.get_le_modify_succ (m : FMap Nat) (k j : Nat) : FMap.get 0 m j ≤ FMap.get 0 (FMap.modify 0 m k (· + 1)) j := by
  by_cases h : j = k
  · subst h
    simp
  · rw [FMap.get_modify_ne _ _ _ h]

/-- The granules that wait. -/
def ShareRound.left (r : ShareRound) : List Granule := r.waiting.map (·.1)

theorem turnFrom_mem {turn k : Nat} {ks : List Nat} (h : turnFrom turn ks = some k) : k ∈ ks := by
  unfold turnFrom at h
  split at h
  next j hj =>
    cases h
    exact (List.mem_filter.1 (List.min?_mem hj)).1
  next => exact List.min?_mem h

theorem turnFrom_eq_none {turn : Nat} {ks : List Nat} (h : turnFrom turn ks = none) : ks = [] := by
  unfold turnFrom at h
  split at h
  next => cases h
  next => exact List.min?_eq_none_iff.1 h

/-- What is picked waits, and may be granted. -/
theorem ShareRound.of_pick {r : ShareRound} {s : State} {res : Resource} {c : TrafficClass} {x : Granule × Bool}
    (h : r.pick s res c = some x) : x ∈ r.waiting ∧ r.mayGrant s res c x.1 = true := by
  unfold ShareRound.pick at h
  dsimp only at h
  split at h
  next => cases h
  next =>
    split at h
    next => exact List.mem_filter.1 (List.mem_filter.1 (List.mem_of_find?_eq_some h)).1
    next => cases h

/-- Nothing is picked only where nothing may be granted. -/
theorem ShareRound.of_pick_none {r : ShareRound} {s : State} {res : Resource} {c : TrafficClass} (h : r.pick s res c = none) :
    ∀ x ∈ r.waiting, r.mayGrant s res c x.1 = false := by
  have hmay : r.waiting.filter (fun x => r.mayGrant s res c x.1) = [] := by
    unfold ShareRound.pick at h
    dsimp only at h
    split at h
    next hhead => exact List.head?_eq_none_iff.1 hhead
    next x hhead =>
      have hx := List.mem_of_mem_head? hhead
      split at h
      next k hk =>
        obtain ⟨y, hy, hyk⟩ := List.mem_map.1 (turnFrom_mem hk)
        exact absurd (List.find?_eq_none.1 h y hy) (by simp [hyk])
      next hk =>
        have hnone := List.map_eq_nil_iff.1 (turnFrom_eq_none hk)
        exact absurd (List.filter_eq_nil_iff.1 hnone x hx) (by simp)
  intro x hx
  simpa using List.filter_eq_nil_iff.1 hmay x hx

theorem ShareRound.mayGrant_iff {r : ShareRound} {s : State} {res : Resource} {c : TrafficClass} {g : Granule} :
    r.mayGrant s res c g = true ↔ g.res = res ∧ g.cls = c ∧ r.tokensFor g = true ∧ r.capFor s g = true ∧ r.portFree s g = true ∧ r.rowFree g = true := by
  simp [ShareRound.mayGrant, and_assoc]

theorem ShareRound.activate_eq (r : ShareRound) (g : Granule) : r.activate g = { r with rows := (r.activate g).rows } := by
  unfold ShareRound.activate
  split <;> rfl

@[simp] theorem ShareRound.activate_waiting (r : ShareRound) (g : Granule) : (r.activate g).waiting = r.waiting := by
  rw [ShareRound.activate_eq]

@[simp] theorem ShareRound.activate_ports (r : ShareRound) (g : Granule) : (r.activate g).ports = r.ports := by rw [ShareRound.activate_eq]

@[simp] theorem ShareRound.activate_banks (r : ShareRound) (g : Granule) : (r.activate g).banks = r.banks := by rw [ShareRound.activate_eq]

@[simp] theorem ShareRound.grant_waiting (r : ShareRound) (s : State) (x : Granule × Bool) :
    (r.grant s x).waiting = r.waiting.erase x := by
  unfold ShareRound.grant
  dsimp only
  split
  · simp
  · split <;> simp

@[simp] theorem ShareRound.grant_rows (r : ShareRound) (s : State) (x : Granule × Bool) : (r.grant s x).rows = (r.activate x.1).rows := by
  unfold ShareRound.grant
  dsimp only
  split
  · rfl
  · split <;> rfl

@[simp] theorem ShareRound.grant_ports (r : ShareRound) (s : State) (x : Granule × Bool) :
    (r.grant s x).ports = FMap.modify 0 r.ports (s.portOf x.1) (· + 1) := by
  unfold ShareRound.grant
  dsimp only
  split
  · simp
  · split <;> simp

/-- A grant of a memory to a function counts at the function and bank. -/
theorem ShareRound.grant_banks (r : ShareRound) (s : State) {x : Granule × Bool} {f : Fin 256} (hwho : x.1.who = .fn f)
    (hmem : inMemory x.1 = true) : (r.grant s x).banks = FMap.modify 0 r.banks (bankKeyOf f.val (s.granuleBank x.1)) (· + 1) := by
  simp [ShareRound.grant, hwho, hmem]

theorem ShareRound.get_banks_le_grant (r : ShareRound) (s : State) (x : Granule × Bool) (k : Nat) :
    FMap.get 0 r.banks k ≤ FMap.get 0 (r.grant s x).banks k := by
  unfold ShareRound.grant
  dsimp only
  split
  · simp
  · split
    · rw [ShareRound.activate_banks]
      exact FMap.get_le_modify_succ _ _ _
    · simp

/-! ### Chains of grants -/

/-- `r'` is `r` after the grant of one granule, of a resource and class that `A` lets be served. -/
def ShareRound.Grants (s : State) (A : Resource → TrafficClass → Prop) (r r' : ShareRound) : Prop :=
  ∃ x ∈ r.waiting, A x.1.res x.1.cls ∧ r.mayGrant s x.1.res x.1.cls x.1 = true ∧ r' = r.grant s x

/-- `r'` is `r` after some grants. -/
abbrev ShareRound.Chain (s : State) (A : Resource → TrafficClass → Prop) : ShareRound → ShareRound → Prop :=
  Relation.ReflTransGen (ShareRound.Grants s A)

theorem ShareRound.Chain.mono {s : State} {A B : Resource → TrafficClass → Prop} (h : ∀ res c, A res c → B res c) {r r' : ShareRound}
    (hr : ShareRound.Chain s A r r') : ShareRound.Chain s B r r' :=
  Relation.ReflTransGen.mono (fun _ _ ⟨x, hx, hA, hmay⟩ => ⟨x, hx, h _ _ hA, hmay⟩) _ _ hr

/-- Serving a class at a resource is a chain of grants of it. -/
theorem ShareRound.serve_chain (s : State) (res : Resource) (c : TrafficClass) (n : Nat) : ∀ r : ShareRound,
    ShareRound.Chain s (fun res' c' => res' = res ∧ c' = c) r (ShareRound.serve s res c n r) := by
  induction n with
  | zero => exact fun r => .refl
  | succ n ih =>
    intro r
    unfold ShareRound.serve
    split
    next x hx =>
      obtain ⟨hmem, hmay⟩ := ShareRound.of_pick hx
      obtain ⟨rfl, rfl, -⟩ := ShareRound.mayGrant_iff.1 hmay
      exact .head ⟨x, hmem, ⟨rfl, rfl⟩, hmay, rfl⟩ (ih _)
    next => exact .refl

theorem ShareRound.share_chain (s : State) (res : Resource) (c : TrafficClass) (n : Nat) (r : ShareRound) :
    ShareRound.Chain s (fun res' c' => res' = res ∧ c' = c) r (r.share s res c n).1 := ShareRound.serve_chain s res c _ r

theorem ShareRound.Chain.sublist {s : State} {A : Resource → TrafficClass → Prop} {r r' : ShareRound} (h : ShareRound.Chain s A r r') :
    r'.waiting.Sublist r.waiting := by
  induction h with
  | refl => exact List.Sublist.refl _
  | tail _ hstep ih =>
    obtain ⟨x, -, -, -, rfl⟩ := hstep
    rw [ShareRound.grant_waiting]
    exact (List.erase_sublist).trans ih

/-- Granules that are not served stay, in their order. -/
theorem ShareRound.Chain.filter_eq {s : State} {A : Resource → TrafficClass → Prop} {r r' : ShareRound} (h : ShareRound.Chain s A r r')
    {p : Granule → Bool} (hp : ∀ g, p g = true → ¬ A g.res g.cls) : r'.left.filter p = r.left.filter p := by
  induction h with
  | refl => rfl
  | tail _ hstep ih =>
    obtain ⟨x, -, hA, -, rfl⟩ := hstep
    rw [← ih, ShareRound.left, ShareRound.left, List.filter_map, List.filter_map, ShareRound.grant_waiting, ← List.erase_filter,
      List.erase_of_not_mem]
    intro hx
    exact hp x.1 (List.mem_filter.1 hx).2 hA

/-- A granted granule is one granule less of those that count with it. -/
theorem ShareRound.countP_grant (r : ShareRound) (s : State) {x : Granule × Bool} (hx : x ∈ r.waiting) (p : Granule → Bool) :
    r.left.countP p = (r.grant s x).left.countP p + if p x.1 = true then 1 else 0 := by
  simp only [ShareRound.left, List.countP_map, ShareRound.grant_waiting, (List.perm_cons_erase hx).countP_eq, List.countP_cons,
    Function.comp_apply]

/-- Where each granule of a kind is granted only below `cap` of a count that it raises, at most `cap` of the kind are granted. -/
theorem ShareRound.Chain.countP_le_add_cap {s : State} {A : Resource → TrafficClass → Prop} {r r' : ShareRound}
    (h : ShareRound.Chain s A r r') (p : Granule → Bool) (count : ShareRound → Nat) (cap : Nat)
    (hgrant : ∀ (r : ShareRound) (x : Granule × Bool), p x.1 = true → r.mayGrant s x.1.res x.1.cls x.1 = true →
      count r < cap ∧ count (r.grant s x) = count r + 1)
    (hother : ∀ (r : ShareRound) (x : Granule × Bool), count r ≤ count (r.grant s x)) :
    r.left.countP p ≤ r'.left.countP p + count r' ∧ r.left.countP p ≤ r'.left.countP p + cap := by
  induction h with
  | refl => exact ⟨Nat.le_add_right _ _, Nat.le_add_right _ _⟩
  | @tail r1 _ _ hstep ih =>
    obtain ⟨x, hx, -, hmay, rfl⟩ := hstep
    have hcount := ShareRound.countP_grant r1 s hx p
    by_cases hp : p x.1 = true
    · obtain ⟨hlt, hsucc⟩ := hgrant r1 x hp hmay
      rw [if_pos hp] at hcount
      omega
    · have hle := hother r1 x
      rw [if_neg hp] at hcount
      omega

/-! ### Ports and banks -/

/-- At a port of the cycle SRAM at most 250 granules are granted (R411). -/
theorem ShareRound.Chain.port_le {s : State} {A : Resource → TrafficClass → Prop} {r r' : ShareRound} (h : ShareRound.Chain s A r r') (k : Nat) :
    r.left.countP (fun x => x.res == .sram && s.portOf x == k) ≤ r'.left.countP (fun x => x.res == .sram && s.portOf x == k) + 250 := by
  refine (h.countP_le_add_cap _ (fun r => FMap.get 0 r.ports k) 250 (fun r x hp hmay => ?_) (fun r x => ?_)).2
  · obtain ⟨hres, hport⟩ : x.1.res = .sram ∧ s.portOf x.1 = k := by simpa using hp
    obtain ⟨-, -, -, -, hfree, -⟩ := ShareRound.mayGrant_iff.1 hmay
    refine ⟨?_, by simp [hport]⟩
    simpa [ShareRound.portFree, State.portCap, hres, hport] using hfree
  · rw [ShareRound.grant_ports]
    exact FMap.get_le_modify_succ _ _ _

theorem bankKeyOf_inj {f f' : Fin 256} {b b' : Nat} (h : bankKeyOf f.val b = bankKeyOf f'.val b') : f = f' ∧ b = b' := by
  unfold bankKeyOf at h
  omega

/-- Of one function and bank at most BANKCAP granules are granted (R421). -/
theorem ShareRound.Chain.bank_le {s : State} {A : Resource → TrafficClass → Prop} {r r' : ShareRound} (h : ShareRound.Chain s A r r')
    (f : Fin 256) (b : Nat) :
    r.left.countP (fun x => x.who == .fn f && inMemory x && s.granuleBank x == b) ≤
      r'.left.countP (fun x => x.who == .fn f && inMemory x && s.granuleBank x == b) + s.rd Fld.QOS_CFG_BANKCAP := by
  refine (h.countP_le_add_cap _ (fun r => FMap.get 0 r.banks (bankKeyOf f.val b)) _ (fun r x hp hmay => ?_) (fun r x => ?_)).2
  · obtain ⟨⟨hwho, hmem⟩, hbank⟩ : (x.1.who = .fn f ∧ inMemory x.1 = true) ∧ s.granuleBank x.1 = b := by simpa using hp
    obtain ⟨-, -, -, hcap, -⟩ := ShareRound.mayGrant_iff.1 hmay
    refine ⟨?_, by simp [ShareRound.grant_banks r s hwho hmem, hbank]⟩
    simpa [ShareRound.capFor, hwho, hmem, hbank] using hcap
  · exact ShareRound.get_banks_le_grant r s x _

/-! ### Rows -/

/-- An activation counts at its row alone, and only at a row that does not wait for a refresh (R416). -/
theorem ShareRound.get_rows_grant (r : ShareRound) (s : State) {x : Granule × Bool} (hfree : r.rowFree x.1 = true) (k : Nat) :
    FMap.get 0 (r.grant s x).rows k = FMap.get 0 r.rows k ∨
      FMap.get 0 r.rows k < 4096 ∧ FMap.get 0 (r.grant s x).rows k ≤ 4096 ∧ ∃ a, activates x.1 = some a ∧ a.row.toNat = k := by
  rw [ShareRound.grant_rows]
  unfold ShareRound.activate
  unfold ShareRound.rowFree at hfree
  split
  next a ha =>
    rw [ha] at hfree
    have hlt : FMap.get 0 r.rows a.row.toNat < 4096 := of_decide_eq_true hfree
    by_cases hk : k = a.row.toNat
    · subst hk
      refine .inr ⟨hlt, ?_, a, ha, rfl⟩
      simp only [FMap.get_set_self]
      split <;> omega
    · exact .inl (FMap.get_set_ne _ _ _ hk)
  next => exact .inl rfl

theorem ShareRound.Chain.row_le {s : State} {A : Resource → TrafficClass → Prop} {r r' : ShareRound} (h : ShareRound.Chain s A r r') (k : Nat) :
    FMap.get 0 r'.rows k ≤ max (FMap.get 0 r.rows k) 4096 := by
  induction h with
  | refl => exact Nat.le_max_left _ _
  | tail _ hstep ih =>
    obtain ⟨x, -, -, hmay, rfl⟩ := hstep
    obtain ⟨-, -, -, -, -, hfree⟩ := ShareRound.mayGrant_iff.1 hmay
    rcases ShareRound.get_rows_grant _ s hfree k with heq | ⟨-, hle, -⟩
    · rw [heq]
      exact ih
    · exact hle.trans (Nat.le_max_right _ _)

/-- A granule that activates a row which waits for a targeted refresh is not granted, and the row goes on waiting (R416). -/
theorem ShareRound.Chain.blocked {s : State} {A : Resource → TrafficClass → Prop} {r r' : ShareRound} (h : ShareRound.Chain s A r r')
    {g : Granule} (hg : g ∈ r.left) {a : Activation} (ha : activates g = some a) (hrow : 4096 ≤ FMap.get 0 r.rows a.row.toNat) :
    g ∈ r'.left ∧ 4096 ≤ FMap.get 0 r'.rows a.row.toNat := by
  induction h with
  | refl => exact ⟨hg, hrow⟩
  | tail _ hstep ih =>
    obtain ⟨x, -, -, hmay, rfl⟩ := hstep
    obtain ⟨hmem, hwaits⟩ := ih
    obtain ⟨-, -, -, -, -, hfree⟩ := ShareRound.mayGrant_iff.1 hmay
    refine ⟨?_, ?_⟩
    · obtain ⟨y, hy, rfl⟩ := List.mem_map.1 hmem
      refine List.mem_map.2 ⟨y, ?_, rfl⟩
      have hne : y ≠ x := by
        rintro rfl
        rw [ShareRound.rowFree, ha] at hfree
        exact absurd hwaits (Nat.not_le.2 (of_decide_eq_true hfree))
      rw [ShareRound.grant_waiting]
      exact (List.mem_erase_of_ne hne).2 hy
    · rcases ShareRound.get_rows_grant _ s hfree a.row.toNat with heq | ⟨hlt, -⟩
      · rw [heq]
        exact hwaits
      · omega

/-! ### A class served until it is empty, and one served within a number of grants -/

theorem ShareRound.serve_all (s : State) (res : Resource) (c : TrafficClass) (n : Nat) : ∀ r : ShareRound, r.waiting.length ≤ n →
    (ShareRound.serve s res c n r).pick s res c = none := by
  induction n with
  | zero =>
    intro r hr
    rw [ShareRound.serve, ShareRound.pick, List.eq_nil_of_length_eq_zero (Nat.le_zero.1 hr)]
    rfl
  | succ n ih =>
    intro r hr
    rw [ShareRound.serve]
    split
    next x hx =>
      refine ih _ ?_
      rw [ShareRound.grant_waiting, List.length_erase_of_mem (ShareRound.of_pick hx).1]
      omega
    next hnone => exact hnone

theorem ShareRound.length_le_serve (s : State) (res : Resource) (c : TrafficClass) (n : Nat) : ∀ r : ShareRound,
    r.waiting.length ≤ (ShareRound.serve s res c n r).waiting.length + n := by
  induction n with
  | zero => exact fun r => Nat.le_refl _
  | succ n ih =>
    intro r
    rw [ShareRound.serve]
    split
    next x hx =>
      have hstep := ih (r.grant s x)
      rw [ShareRound.grant_waiting, List.length_erase_of_mem (ShareRound.of_pick hx).1] at hstep
      omega
    next => omega

/-- What a class takes of a resource is within the number of grants given, and the rest of the number is answered. -/
theorem ShareRound.countP_share (r : ShareRound) (s : State) (res : Resource) (c : TrafficClass) (n : Nat) (p : Granule → Bool) :
    r.left.countP p + (r.share s res c n).2 ≤ (r.share s res c n).1.left.countP p + n := by
  have hsub := (ShareRound.share_chain s res c n r).sublist
  have hcount := (hsub.map (·.1)).le_countP p
  have hlen := hsub.length_le
  have htaken := ShareRound.length_le_serve s res c (min n r.waiting.length) r
  simp only [List.length_map] at hcount
  simp only [ShareRound.left, ShareRound.share] at hcount hlen ⊢
  omega

/-- C1 of the die-to-die interface and of the HIF DMA engine, which nothing limits, is served whole (R18, R409). -/
theorem ShareRound.share_c1_free (r : ShareRound) (s : State) {res : Resource} (hres : res = .die ∨ res = .hif) {n : Nat}
    (hn : r.waiting.length ≤ n) : ∀ g ∈ (r.share s res .c1 n).1.left, g.cls = .c1 → g.res ≠ res := by
  intro g hg hcls hgres
  obtain ⟨x, hx, rfl⟩ := List.mem_map.1 hg
  have hnone : (r.share s res .c1 n).1.pick s res .c1 = none := by
    rw [ShareRound.share, Nat.min_eq_right hn]
    exact ShareRound.serve_all s res .c1 _ r (Nat.le_refl _)
  have hmay := ShareRound.of_pick_none hnone x hx
  have hyes : (r.share s res .c1 n).1.mayGrant s res .c1 x.1 = true := by
    refine ShareRound.mayGrant_iff.2 ⟨hgres, hcls, ?_, ?_, ?_, ?_⟩
    · unfold ShareRound.tokensFor
      split
      next hc3 => rw [hcls] at hc3; cases hc3
      next => rfl
      next => rfl
    · unfold ShareRound.capFor
      rcases hres with rfl | rfl <;> split <;> simp [inMemory, hgres]
    · rcases hres with rfl | rfl <;> simp [ShareRound.portFree, State.portCap, hgres]
    · rcases hres with rfl | rfl <;> simp [ShareRound.rowFree, activates, hgres]
  rw [hyes] at hmay
  cases hmay

end Sys2Proof.Machine

end

section
/-! PROOFS. SHED_WINDOW as a whole (R18, R409, R419 to R421). -/

namespace Sys2Proof.Machine

/-! ### The rounds of a window -/

/-- The resources that are not the DRAM. -/
def fabric : List Resource := [.sram, .die, .hif]

/-- The window as it begins: `reqs` wait after those that wait already. -/
def State.windowStart (s : State) (reqs : List Granule) : ShareRound :=
  { waiting := s.qos.waiting ++ reqs.map (fun g => (g, false)), lack := s.lacks, banks := [], ports := [], turns := s.qos.turns, rows := s.qos.rows }

/-- One class served at the resources in turn. -/
def ShareRound.shareAll (r : ShareRound) (s : State) (c : TrafficClass) (n : Nat) (l : List Resource) : ShareRound :=
  l.foldl (fun (r : ShareRound) res => (r.share s res c n).1) r

/-- The grants that a back-pressure test leaves of one for each granule. -/
def State.windowGrants (s : State) (reqs : List Granule) : Nat := s.afterPressure (s.windowStart reqs).waiting.length

/-- The window when C1 has been served. -/
def State.windowC1 (s : State) (reqs : List Granule) : ShareRound :=
  (s.windowStart reqs).shareAll s .c1 (s.windowGrants reqs) (fabric ++ [.dram])

/-- C2 and then C3 of the DRAM, each with what is left of the remainder. -/
def State.windowDram2 (s : State) (reqs : List Granule) : ShareRound × Nat :=
  (s.windowC1 reqs).share s .dram .c2 (s.afterPressure s.dramRemainder)

def State.windowDram3 (s : State) (reqs : List Granule) : ShareRound × Nat :=
  (s.windowDram2 reqs).1.share s .dram .c3 (s.windowDram2 reqs).2

/-- The window when C2 of the fabric has been served, and when all has been. -/
def State.windowC2 (s : State) (reqs : List Granule) : ShareRound :=
  (s.windowDram3 reqs).1.shareAll s .c2 (if 2 ≤ s.cad.shed then 0 else s.windowGrants reqs) fabric

def State.windowEnd (s : State) (reqs : List Granule) : ShareRound :=
  (s.windowC2 reqs).shareAll s .c3 (if 1 ≤ s.cad.shed then 0 else s.windowGrants reqs) fabric

/-- C2, or C3, of the DRAM is left waiting by the remainder. -/
def State.windowC2Short (s : State) (reqs : List Granule) : Bool :=
  (s.windowDram2 reqs).2 == 0 && ((s.windowDram2 reqs).1.pick s .dram .c2).isSome

def State.windowC3Short (s : State) (reqs : List Granule) : Bool :=
  (s.windowDram3 reqs).2 == 0 && ((s.windowDram3 reqs).1.pick s .dram .c3).isSome

/-- The state in which what the window leaves is kept. -/
def State.windowKept (s : State) (reqs : List Granule) : State :=
  let r := s.windowEnd reqs
  let w := s.countWaits r
  { w.1 with
    dramShed := if s.windowC2Short reqs then 2 else if s.windowC3Short reqs then 1 else 0
    qos := { w.1.qos with waiting := w.2, bulk := r.lack.map (fun p => (p.1, (p.2, (w.1.base 3).count))), turns := r.turns, rows := r.rows } }

theorem exec_shedWindow (s : State) (reqs : List Granule) : exec (.shedWindow reqs) s = .next (
    let t := (s.windowKept reqs).showShed
    let t := if s.windowC2Short reqs ∨ s.windowC3Short reqs then t.bump Fld.QOS_CNT_SHED3_CNT else t
    if s.windowC2Short reqs then t.bump Fld.QOS_CNT_SHED2_CNT else t) := rfl

/-! ### What the window grants -/

theorem ShareRound.share_chain_pos (s : State) (res : Resource) (c : TrafficClass) (n : Nat) (r : ShareRound) :
    ShareRound.Chain s (fun res' c' => res' = res ∧ c' = c ∧ n ≠ 0) r (r.share s res c n).1 := by
  by_cases hn : n = 0
  · subst hn
    rw [ShareRound.share, Nat.zero_min]
    exact .refl
  · exact (ShareRound.share_chain s res c n r).mono fun _ _ h => ⟨h.1, h.2, hn⟩

theorem ShareRound.shareAll_chain (s : State) (c : TrafficClass) (n : Nat) (l : List Resource) : ∀ r : ShareRound,
    ShareRound.Chain s (fun res' c' => res' ∈ l ∧ c' = c ∧ n ≠ 0) r (r.shareAll s c n l) := by
  induction l with
  | nil => exact fun r => .refl
  | cons res t ih =>
    intro r
    exact ((ShareRound.share_chain_pos s res c n r).mono fun _ _ h => ⟨by simp [h.1], h.2⟩).trans
      ((ih _).mono fun _ _ h => ⟨List.mem_cons_of_mem _ h.1, h.2⟩)

theorem State.windowC1_chain (s : State) (reqs : List Granule) :
    ShareRound.Chain s (fun _ c => c = .c1) (s.windowStart reqs) (s.windowC1 reqs) :=
  (ShareRound.shareAll_chain s .c1 _ _ _).mono fun _ _ h => h.2.1

theorem State.windowDram_chain (s : State) (reqs : List Granule) :
    ShareRound.Chain s (fun res c => res = .dram ∧ c ≠ .c1) (s.windowC1 reqs) (s.windowDram3 reqs).1 :=
  ((ShareRound.share_chain s .dram .c2 _ _).mono fun _ _ h => ⟨h.1, by simp [h.2]⟩).trans
    ((ShareRound.share_chain s .dram .c3 _ _).mono fun _ _ h => ⟨h.1, by simp [h.2]⟩)

/-- What may be served of the fabric beside C1, by the shedding of the cadence margin (R17, R419). -/
def State.fabricServes (s : State) (res : Resource) (c : TrafficClass) : Prop :=
  res ≠ .dram ∧ (c = .c2 ∧ s.cad.shed < 2 ∨ c = .c3 ∧ s.cad.shed < 1)

theorem State.windowFabric_chain (s : State) (reqs : List Granule) :
    ShareRound.Chain s s.fabricServes (s.windowDram3 reqs).1 (s.windowEnd reqs) := by
  have hfabric (res : Resource) (h : res ∈ fabric) : res ≠ .dram := by
    rintro rfl
    simp [fabric] at h
  refine ((ShareRound.shareAll_chain s .c2 _ fabric _).mono fun res c h => ?_).trans
    ((ShareRound.shareAll_chain s .c3 _ fabric _).mono fun res c h => ?_)
  all_goals
    obtain ⟨hres, rfl, hn⟩ := h
    refine ⟨hfabric res hres, ?_⟩
    by_contra hshed
    exact hn (if_pos (by simp at hshed; omega))

/-- A window grants C1, of the DRAM the other classes, and of the fabric what is not shed. -/
theorem State.window_chain (s : State) (reqs : List Granule) :
    ShareRound.Chain s (fun res c => c = .c1 ∨ res = .dram ∨ s.fabricServes res c) (s.windowStart reqs) (s.windowEnd reqs) :=
  (((s.windowC1_chain reqs).mono fun _ _ h => .inl h).trans ((s.windowDram_chain reqs).mono fun _ _ h => .inr (.inl h.1))).trans
    ((s.windowFabric_chain reqs).mono fun _ _ h => .inr (.inr h))

@[simp] theorem State.windowStart_left (s : State) (reqs : List Granule) :
    (s.windowStart reqs).left = s.qos.waiting.map (·.1) ++ reqs := by
  simp [State.windowStart, ShareRound.left, Function.comp_def]

/-- C2 and C3 take of the DRAM no more than its remainder (R419). -/
theorem State.window_dram_le (s : State) (reqs : List Granule) :
    (s.windowStart reqs).left.countP (fun g => g.res == .dram && g.cls != .c1) ≤
      (s.windowEnd reqs).left.countP (fun g => g.res == .dram && g.cls != .c1) + s.afterPressure s.dramRemainder := by
  have hc1 := (s.windowC1_chain reqs).filter_eq (p := fun g => g.res == .dram && g.cls != .c1) (by simp)
  have hfabric := (s.windowFabric_chain reqs).filter_eq (p := fun g => g.res == .dram && g.cls != .c1) (by
    intro g hg hserves
    exact hserves.1 (by simpa using (by simpa using hg : g.res = .dram ∧ g.cls ≠ .c1).1))
  have h2 := ShareRound.countP_share (s.windowC1 reqs) s .dram .c2 (s.afterPressure s.dramRemainder) (fun g => g.res == .dram && g.cls != .c1)
  have h3 := ShareRound.countP_share (s.windowDram2 reqs).1 s .dram .c3 (s.windowDram2 reqs).2 (fun g => g.res == .dram && g.cls != .c1)
  rw [← State.windowDram2] at h2
  rw [← State.windowDram3] at h3
  rw [List.countP_eq_length_filter, List.countP_eq_length_filter, hfabric, ← hc1, ← List.countP_eq_length_filter, ← List.countP_eq_length_filter]
  omega

theorem ShareRound.shareAll_c1_free (s : State) (n : Nat) (l : List Resource) : ∀ r : ShareRound, r.waiting.length ≤ n →
    ∀ g ∈ (r.shareAll s .c1 n l).left, g.cls = .c1 → g.res ∈ l → g.res = .sram ∨ g.res = .dram := by
  induction l with
  | nil => exact fun r hr g hg hcls hres => absurd hres (by simp)
  | cons res t ih =>
    intro r hr g hg hcls hres
    rcases List.mem_cons.1 hres with hres | hres
    · have hshared : g ∈ (r.share s res .c1 n).1.left := ((ShareRound.shareAll_chain s .c1 n t _).sublist.map _).subset hg
      by_contra hfree
      have hdieHif : res = .die ∨ res = .hif := by
        rw [hres] at hfree
        cases res <;> simp at hfree ⊢
      exact ShareRound.share_c1_free r s hdieHif hr g hshared hcls hres
    · exact ih _ ((ShareRound.share_chain s res .c1 n r).sublist.length_le.trans hr) g hg hcls hres

/-- Without a back-pressure test no C1 waits for the die-to-die interface or the HIF DMA engine (R18). -/
theorem State.window_c1_served (s : State) (reqs : List Granule) (hpert : s.pert 1 = false) :
    ∀ g ∈ (s.windowEnd reqs).left, g.cls = .c1 → g.res = .sram ∨ g.res = .dram := by
  have hn : s.windowGrants reqs = (s.windowStart reqs).waiting.length := by simp [State.windowGrants, State.afterPressure, hpert]
  have hdram := (s.windowDram_chain reqs).sublist
  have hfabric := (s.windowFabric_chain reqs).sublist
  intro g hg hcls
  exact ShareRound.shareAll_c1_free s _ _ _ hn.ge g (((hfabric.trans hdram).map _).subset hg) hcls (by cases g.res <;> simp [fabric])

end Sys2Proof.Machine

end

section
/-! PROOFS. The registers after a window (R18, R420, R421), and SHED_WINDOW as a whole. -/

namespace Sys2Proof.Machine

/-- The counters of waits. -/
def waitFields : List Field := Fld.QOS_CNT_BANKCAP_CNT :: (List.range 256).map Fld.QOS_FN_CNT_CNT

theorem onlyRegs_bump (s : State) (f : Field) (n : Nat) : OnlyRegs [f] s (s.bump f n) := onlyRegs_wr s f _

/-- One granule that waits on: counted once, and kept. -/
def ShareRound.waitCounted (r : ShareRound) (s : State) (a : State × List (Granule × Bool)) (x : Granule × Bool) :
    State × List (Granule × Bool) :=
  match x.1.who with
  | .fn f =>
    let cap := !r.capFor s x.1
    let tok := !r.tokensFor x.1
    if (cap || tok) && !x.2 then
      let t := a.1.bump (Fld.QOS_FN_CNT_CNT f.val)
      (if cap then t.bump Fld.QOS_CNT_BANKCAP_CNT else t, a.2 ++ [(x.1, true)])
    else (a.1, a.2 ++ [x])
  | .dma _ => (a.1, a.2 ++ [x])

theorem State.countWaits_eq_foldl (s : State) (r : ShareRound) : s.countWaits r = r.waiting.foldl (r.waitCounted s) (s, []) := rfl

theorem ShareRound.waitCounted_spec (r : ShareRound) (s : State) (a : State × List (Granule × Bool)) (x : Granule × Bool) :
    OnlyRegs waitFields a.1 (r.waitCounted s a x).1 ∧ (r.waitCounted s a x).2.map (·.1) = a.2.map (·.1) ++ [x.1] := by
  have hfn (f : Fin 256) : OnlyRegs waitFields a.1 (a.1.bump (Fld.QOS_FN_CNT_CNT f.val)) :=
    (onlyRegs_bump _ _ _).mono fun g hg => by
      rw [List.mem_singleton.1 hg]
      exact List.mem_cons_of_mem _ (List.mem_map.2 ⟨f.val, List.mem_range.2 f.isLt, rfl⟩)
  unfold ShareRound.waitCounted
  split
  next f _ =>
    dsimp only
    split
    · refine ⟨?_, by simp⟩
      split
      · exact (hfn f).trans ((onlyRegs_bump _ _ _).mono (by simp [waitFields]))
      · exact hfn f
    · exact ⟨OnlyRegs.refl _ _, by simp⟩
  next => exact ⟨OnlyRegs.refl _ _, by simp⟩

theorem State.countWaits_spec (s : State) (r : ShareRound) :
    OnlyRegs waitFields s (s.countWaits r).1 ∧ (s.countWaits r).2.map (·.1) = r.left := by
  have hfold (l : List (Granule × Bool)) : ∀ a : State × List (Granule × Bool),
      OnlyRegs waitFields a.1 (l.foldl (r.waitCounted s) a).1 ∧ (l.foldl (r.waitCounted s) a).2.map (·.1) = a.2.map (·.1) ++ l.map (·.1) := by
    induction l with
    | nil => exact fun a => ⟨OnlyRegs.refl _ _, by simp⟩
    | cons x t ih =>
      intro a
      obtain ⟨hregs, hmap⟩ := r.waitCounted_spec s a x
      obtain ⟨hregs', hmap'⟩ := ih (r.waitCounted s a x)
      exact ⟨hregs.trans hregs', by rw [List.foldl_cons, hmap', hmap]; simp⟩
  exact hfold r.waiting (s, [])

/-- What SHED_WINDOW shows and counts of a window that leaves C2 or C3 of the DRAM waiting. -/
def State.showWindow (s : State) (c2Short c3Short : Bool) : State :=
  let t := s.showShed
  let t := if c2Short ∨ c3Short then t.bump Fld.QOS_CNT_SHED3_CNT else t
  if c2Short then t.bump Fld.QOS_CNT_SHED2_CNT else t

def shedFields : List Field := [Fld.QOS_STAT_SHED, Fld.QOS_STAT_SHED_CAD, Fld.QOS_CNT_SHED3_CNT, Fld.QOS_CNT_SHED2_CNT]

theorem onlyRegs_bumpIf (s : State) (p : Prop) [Decidable p] (f : Field) : OnlyRegs [f] s (if p then s.bump f else s) := by
  split
  · exact onlyRegs_bump s f 1
  · exact OnlyRegs.refl _ s

theorem rd_bumpIf_self (s : State) (p : Prop) [Decidable p] (f : Field) :
    (if p then s.bump f else s).rd f = if p then min (s.rd f + 1) (2 ^ f.width - 1) else s.rd f := by
  split
  · exact State.rd_bump_self s f 1
  · rfl

theorem onlyRegs_showShed (s : State) : OnlyRegs [Fld.QOS_STAT_SHED, Fld.QOS_STAT_SHED_CAD] s s.showShed :=
  ((onlyRegs_wr s _ _).mono (by simp)).trans ((onlyRegs_wr _ Fld.QOS_STAT_SHED_CAD _).mono (by simp))

theorem State.rd_showShed (s : State) : s.showShed.rd Fld.QOS_STAT_SHED = max s.cad.shed s.dramShed % 4 :=
  (State.rd_wrB_ne _ _ (by decide)).trans (State.rd_wr_self s _ _)

theorem State.showWindow_spec (s : State) (c2 c3 : Bool) :
    OnlyRegs shedFields s (s.showWindow c2 c3) ∧ (s.showWindow c2 c3).rd Fld.QOS_STAT_SHED = max s.cad.shed s.dramShed % 4 ∧
    (s.showWindow c2 c3).rd Fld.QOS_CNT_SHED3_CNT =
      (if c2 = true ∨ c3 = true then min (s.rd Fld.QOS_CNT_SHED3_CNT + 1) (2 ^ Fld.QOS_CNT_SHED3_CNT.width - 1) else s.rd Fld.QOS_CNT_SHED3_CNT) ∧
    (s.showWindow c2 c3).rd Fld.QOS_CNT_SHED2_CNT =
      (if c2 = true then min (s.rd Fld.QOS_CNT_SHED2_CNT + 1) (2 ^ Fld.QOS_CNT_SHED2_CNT.width - 1) else s.rd Fld.QOS_CNT_SHED2_CNT) := by
  have h0 := onlyRegs_showShed s
  have h3 := onlyRegs_bumpIf s.showShed (c2 = true ∨ c3 = true) Fld.QOS_CNT_SHED3_CNT
  have h2 := onlyRegs_bumpIf (if c2 = true ∨ c3 = true then s.showShed.bump Fld.QOS_CNT_SHED3_CNT else s.showShed) (c2 = true) Fld.QOS_CNT_SHED2_CNT
  refine ⟨((h0.mono (by simp [shedFields])).trans (h3.mono (by simp [shedFields]))).trans (h2.mono (by simp [shedFields])), ?_, ?_, ?_⟩
  · exact ((h2.1 _ (by decide)).trans (h3.1 _ (by decide))).trans s.rd_showShed
  · refine (h2.1 _ (by decide)).trans ((rd_bumpIf_self _ _ _).trans ?_)
    rw [h0.1 _ (by decide)]
  · refine (rd_bumpIf_self _ _ _).trans ?_
    rw [h3.1 _ (by decide), h0.1 _ (by decide)]

/-- Fields of one address range: what lies outside it stays. -/
theorem OnlyRegs.regsButIn {fs : List Field} {s t : State} (h : OnlyRegs fs s t) {lo hi : Nat}
    (hfs : ∀ f ∈ fs, lo ≤ f.addr ∧ f.addr < hi ∧ f.lsb < 32) : RegsButIn [(lo, hi)] s t := by
  intro g hg hout
  refine h.1 g fun f hf hkey => ?_
  obtain ⟨hlo, hhi, hlsb⟩ := hfs f hf
  obtain ⟨haddr, -⟩ := (Field.key_inj hg hlsb).1 hkey
  have := hout (lo, hi) (by simp)
  dsimp only at this
  omega

theorem RegsButIn.trans {rs : List (Nat × Nat)} {s t u : State} (h : RegsButIn rs s t) (k : RegsButIn rs t u) : RegsButIn rs s u :=
  fun g hg hout => (k g hg hout).trans (h g hg hout)

theorem waitFields_qos : ∀ f ∈ waitFields, 0x9100000 ≤ f.addr ∧ f.addr < 0x9200000 ∧ f.lsb < 32 := by decide +kernel

theorem shedFields_qos : ∀ f ∈ shedFields, 0x9100000 ≤ f.addr ∧ f.addr < 0x9200000 ∧ f.lsb < 32 := by decide

theorem shedFields_waitFields : ∀ f ∈ shedFields, ∀ g ∈ waitFields, f.key ≠ g.key := by decide +kernel

theorem State.eq_of_regs_of_qos {s u k t : State} (hu : u = { s with regs := u.regs })
    (hk : k = { u with dramShed := k.dramShed, qos := k.qos }) (ht : t = { k with regs := t.regs }) :
    t = { s with regs := t.regs, dramShed := t.dramShed, qos := t.qos } := by
  rw [ht, hk, hu]

/-- SHED_WINDOW: what waits on, the rows, the shedding in force and its counters (R18, R409, R419). -/
theorem exec_shedWindow_spec (s : State) (reqs : List Granule) : ∃ t, exec (.shedWindow reqs) s = .next t ∧
    t.qos.waiting.map (·.1) = (s.windowEnd reqs).left ∧ t.qos.rows = (s.windowEnd reqs).rows ∧
    t.dramShed = (if s.windowC2Short reqs = true then 2 else if s.windowC3Short reqs = true then 1 else 0) ∧
    t.rd Fld.QOS_STAT_SHED = max s.cad.shed t.dramShed % 4 ∧
    t.rd Fld.QOS_CNT_SHED3_CNT = (if t.dramShed = 0 then s.rd Fld.QOS_CNT_SHED3_CNT
      else min (s.rd Fld.QOS_CNT_SHED3_CNT + 1) (2 ^ Fld.QOS_CNT_SHED3_CNT.width - 1)) ∧
    t.rd Fld.QOS_CNT_SHED2_CNT = (if t.dramShed = 2 then min (s.rd Fld.QOS_CNT_SHED2_CNT + 1) (2 ^ Fld.QOS_CNT_SHED2_CNT.width - 1)
      else s.rd Fld.QOS_CNT_SHED2_CNT) ∧
    RegsButIn [(0x9100000, 0x9200000)] s t ∧ t = { s with regs := t.regs, dramShed := t.dramShed, qos := t.qos } := by
  obtain ⟨hwaits, hleft⟩ := s.countWaits_spec (s.windowEnd reqs)
  obtain ⟨hshow, hshed, h3, h2⟩ := (s.windowKept reqs).showWindow_spec (s.windowC2Short reqs) (s.windowC3Short reqs)
  have hkept (g : Field) : (s.windowKept reqs).rd g = (s.countWaits (s.windowEnd reqs)).1.rd g := rfl
  have hrd (g : Field) (hg : g ∈ shedFields) : (s.windowKept reqs).rd g = s.rd g := hwaits.1 g (shedFields_waitFields g hg)
  have hcad : (s.windowKept reqs).cad = s.cad :=
    show (s.countWaits (s.windowEnd reqs)).1.cad = s.cad from (congrArg State.cad hwaits.2).trans rfl
  have hdram : ((s.windowKept reqs).showWindow (s.windowC2Short reqs) (s.windowC3Short reqs)).dramShed = (s.windowKept reqs).dramShed :=
    (congrArg State.dramShed hshow.2).trans rfl
  have hqos : ((s.windowKept reqs).showWindow (s.windowC2Short reqs) (s.windowC3Short reqs)).qos = (s.windowKept reqs).qos :=
    (congrArg State.qos hshow.2).trans rfl
  have hto : (s.windowKept reqs).dramShed = (if s.windowC2Short reqs = true then 2 else if s.windowC3Short reqs = true then 1 else 0) := rfl
  refine ⟨_, exec_shedWindow s reqs, ?_, ?_, ?_, ?_, ?_, ?_, ?_, ?_⟩
  · exact (congrArg (fun q => q.waiting.map (·.1)) hqos).trans hleft
  · exact congrArg QosUnit.rows hqos
  · exact hdram
  · exact hshed.trans (by rw [hcad, ← hdram]; rfl)
  · refine (h3.trans ?_).trans (congrArg (fun k => if k = 0 then _ else _) hdram).symm
    rw [hrd _ (by simp [shedFields]), hto]
    cases s.windowC2Short reqs <;> cases s.windowC3Short reqs <;> rfl
  · refine (h2.trans ?_).trans (congrArg (fun k => if k = 2 then _ else _) hdram).symm
    rw [hrd _ (by simp [shedFields]), hto]
    cases s.windowC2Short reqs <;> cases s.windowC3Short reqs <;> rfl
  · exact (show RegsButIn _ s (s.windowKept reqs) from hwaits.regsButIn waitFields_qos).trans (hshow.regsButIn shedFields_qos)
  · exact State.eq_of_regs_of_qos hwaits.2 (k := s.windowKept reqs) rfl hshow.2

end Sys2Proof.Machine

end

section
/-! PROOFS. The memory's other commands (R413 to R425): temperature, row refresh, counters, spare banks and uncorrectable errors. -/

namespace Sys2Proof.Machine

/-! ### Changes of registers, with events -/

theorem OnlyLogged.refl (fs : List Field) (s : State) : OnlyLogged fs s s := ⟨fun _ _ => rfl, rfl⟩

theorem OnlyLogged.trans {fs : List Field} {s t u : State} (h : OnlyLogged fs s t) (k : OnlyLogged fs t u) : OnlyLogged fs s u := by
  obtain ⟨h1, h2⟩ := h
  obtain ⟨k1, k2⟩ := k
  exact ⟨fun g hg => (k1 g hg).trans (h1 g hg), by rw [k2, h2]⟩

theorem OnlyLogged.mono {fs gs : List Field} {s t : State} (h : OnlyLogged fs s t) (hs : ∀ f ∈ fs, f ∈ gs) : OnlyLogged gs s t := by
  refine ⟨fun g hg => h.1 g fun f hf => hg f ?_, h.2⟩
  rcases List.mem_append.1 hf with hf | hf
  · exact List.mem_append_left _ (hs f hf)
  · exact List.mem_append_right _ hf

theorem OnlyRegs.onlyLogged {fs : List Field} {s t : State} (h : OnlyRegs fs s t) : OnlyLogged fs s t := by
  refine ⟨fun g hg => h.1 g fun f hf => hg f (List.mem_append_left _ hf), ?_⟩
  obtain ⟨-, heq⟩ := h
  rw [heq]

theorem onlyLogged_raiseIf (s : State) (b : Bool) (f : Field) (n : Nat) : OnlyLogged [f] s (s.raiseIf b f n) := by
  unfold State.raiseIf
  split
  · exact s.onlyLogged_raise f n
  · exact OnlyLogged.refl _ s

theorem State.rd_raiseIf_self (s : State) (b : Bool) (f : Field) (n : Nat) (hw : f.width = 1) (h : ∀ x ∈ eventFields, f.key ≠ x.key) :
    (s.raiseIf b f n).rd f = if b = true then 1 else s.rd f := by
  unfold State.raiseIf
  split
  · exact State.rd_raise_self s f n hw h
  · rfl

/-! ### Temperature and rows of the DRAM (R414, R416, R417) -/

def dramTempFields : List Field := [Fld.HKP_THERM_TDRAM, Fld.HKP_THERM_DRAM_HOT, Fld.MEM_DRAM_STAT_BW_GBS, Fld.MEM_DRAM_STAT_REFRESH]

/-- What a DRAM temperature writes. -/
def dramTempWrites (td : BitVec 8) : List (Field × Nat) :=
  [(Fld.HKP_THERM_TDRAM, td.toNat), (Fld.HKP_THERM_DRAM_HOT, if decide (85 < td.toInt) = true then 1 else 0),
    (Fld.MEM_DRAM_STAT_BW_GBS, if decide (105 < td.toInt) = true then 160 else if decide (85 < td.toInt) = true then 220 else 256),
    (Fld.MEM_DRAM_STAT_REFRESH, if decide (105 < td.toInt) = true then 2 else if decide (85 < td.toInt) = true then 1 else 0)]

theorem State.dramTemp_eq (s : State) (td : BitVec 8) : s.dramTemp td = s.wrs (dramTempWrites td) := rfl

theorem onlyRegs_dramTemp (s : State) (td : BitVec 8) : OnlyRegs dramTempFields s (s.dramTemp td) := onlyRegs_wrs s (dramTempWrites td)

theorem State.dramTemp_spec (s : State) (td : BitVec 8) :
    (s.dramTemp td).rd Fld.HKP_THERM_TDRAM = td.toNat ∧
    (s.dramTemp td).rd Fld.HKP_THERM_DRAM_HOT = (if 85 < td.toInt then 1 else 0) ∧
    (s.dramTemp td).rd Fld.MEM_DRAM_STAT_BW_GBS = (if 105 < td.toInt then 160 else if 85 < td.toInt then 220 else 256) ∧
    (s.dramTemp td).rd Fld.MEM_DRAM_STAT_REFRESH = (if 105 < td.toInt then 2 else if 85 < td.toInt then 1 else 0) := by
  have hkeys : (dramTempFields.map Field.key).Nodup := by decide
  have hrd {p : Field × Nat} (hp : p ∈ dramTempWrites td) : (s.dramTemp td).rd p.1 = p.2 % 2 ^ p.1.width :=
    State.rd_wrs_mem (l := dramTempWrites td) hkeys hp s
  refine ⟨(hrd (.head _)).trans (Nat.mod_eq_of_lt td.isLt), (hrd (.tail _ (.head _))).trans ?_,
    (hrd (.tail _ (.tail _ (.head _)))).trans ?_, (hrd (.tail _ (.tail _ (.tail _ (.head _))))).trans ?_⟩
  all_goals
    simp only [decide_eq_true_eq]
    split_ifs <;> rfl

def fitFields : List Field := [Fld.QOS_STAT_NOFIT, Fld.QOS_DEM_DRAM_BYTES, Fld.QOS_CAP_DRAM_BYTES, Fld.QOS_SLACK_SLACK, Fld.TND_SHBYTES_BYTES, Fld.TND_SHCAP_CAP]

theorem onlyLogged_testMemory (s : State) : OnlyLogged fitFields s s.testMemory :=
  ((onlyLogged_raiseIf s (!s.memoryFits s.timeline) Fld.QOS_STAT_NOFIT 0).mono (by simp [fitFields])).trans
    ((onlyRegs_wrs _ _).onlyLogged.mono (by simp [fitFields]))

theorem exec_dramTempChange_spec (s : State) (td : BitVec 8) : ∃ t, exec (.dramTempChange td) s = .next t ∧ t.rd Fld.HKP_THERM_TDRAM = td.toNat ∧
    t.rd Fld.HKP_THERM_DRAM_HOT = (if 85 < td.toInt then 1 else 0) ∧
    t.rd Fld.MEM_DRAM_STAT_BW_GBS = (if 105 < td.toInt then 160 else if 85 < td.toInt then 220 else 256) ∧
    t.rd Fld.MEM_DRAM_STAT_REFRESH = (if 105 < td.toInt then 2 else if 85 < td.toInt then 1 else 0) ∧
    t.rd Fld.MEM_EVT_DRAM_HOT2 = (if 105 < td.toInt then 1 else s.rd Fld.MEM_EVT_DRAM_HOT2) ∧
    OnlyLogged (dramTempFields ++ Fld.MEM_EVT_DRAM_HOT2 :: fitFields) s t := by
  have h1 := onlyRegs_dramTemp s td
  have h2 := onlyLogged_raiseIf (s.dramTemp td) (decide (105 < td.toInt)) Fld.MEM_EVT_DRAM_HOT2 0
  have h3 := onlyLogged_testMemory ((s.dramTemp td).raiseIf (decide (105 < td.toInt)) Fld.MEM_EVT_DRAM_HOT2)
  obtain ⟨htd, hhot, hbw, href⟩ := s.dramTemp_spec td
  refine ⟨_, rfl, ((h3.1 _ (by decide)).trans (h2.1 _ (by decide))).trans htd, ((h3.1 _ (by decide)).trans (h2.1 _ (by decide))).trans hhot,
    ((h3.1 _ (by decide)).trans (h2.1 _ (by decide))).trans hbw, ((h3.1 _ (by decide)).trans (h2.1 _ (by decide))).trans href,
    (h3.1 _ (by decide)).trans ?_, ?_⟩
  · rw [State.rd_raiseIf_self _ _ _ _ rfl (by decide), h1.1 _ (by decide)]
    simp only [decide_eq_true_eq]
  · exact ((h1.onlyLogged.mono fun f hf => List.mem_append_left _ hf).trans (h2.mono fun f hf => List.mem_append_right _ (by simp at hf; simp [hf]))).trans
      (h3.mono fun f hf => List.mem_append_right _ (List.mem_cons_of_mem _ hf))

theorem exec_targetedRowRefresh_spec (s : State) : ∃ t, exec .targetedRowRefresh s = .next t ∧
    t.rd Fld.MEM_CNT_TRR_CNT = min (s.rd Fld.MEM_CNT_TRR_CNT + (s.qos.rows.filter (fun p => decide (4096 ≤ p.2))).length)
      (2 ^ Fld.MEM_CNT_TRR_CNT.width - 1) ∧
    (∀ p, p ∈ t.qos.rows ↔ p ∈ s.qos.rows ∧ p.2 < 4096) ∧
    OnlyRegs [Fld.MEM_CNT_TRR_CNT] { s with qos := { s.qos with rows := t.qos.rows } } t :=
  ⟨_, rfl, State.rd_bump_self _ _ _, fun _ => List.mem_filter.trans (and_congr_right fun _ => decide_eq_true_iff), onlyRegs_bump _ _ _⟩

/-! ### Counters (R424) -/

def qosCounters : List Field := [Fld.QOS_CNT_C1MISS_CNT, Fld.QOS_CNT_SHED3_CNT, Fld.QOS_CNT_SHED2_CNT, Fld.QOS_CNT_BANKCAP_CNT]

theorem State.qosCntClr_spec (s : State) :
    (∀ f ∈ qosCounters, s.qosCntClr.rd f = 0) ∧ RegsButIn [(0x9100000, 0x9200000)] s s.qosCntClr ∧ s.qosCntClr = { s with regs := s.qosCntClr.regs } := by
  refine ⟨fun f hf => ?_, fun g hg hout => ?_, ?_⟩
  · have hbelow : ∀ f ∈ qosCounters, ¬ (0x9101000 * 32 ≤ f.key ∧ f.key < 0x9101400 * 32) := by decide
    rw [State.qosCntClr, State.rd_resetRange, if_neg (hbelow f hf)]
    refine (State.rd_wrs_mem (by decide) (p := (f, 0)) ?_ s).trans (Nat.zero_mod _)
    simpa [qosCounters] using hf
  · have hfar := hout (0x9100000, 0x9200000) (by simp)
    dsimp only at hfar
    have hcounters : ∀ f ∈ qosCounters, 0x9100000 ≤ f.addr ∧ f.addr < 0x9200000 ∧ f.lsb < 32 := by decide
    rw [State.qosCntClr, State.rd_resetRange, if_neg (by unfold Field.key; omega)]
    exact OnlyRegs.regsButIn (fs := qosCounters) (onlyRegs_wrs s (qosCounters.map (fun f => (f, 0)))) hcounters g hg hout
  · rfl

/-! ### Spare banks (R422, R423) -/

/-- The physical bank of a logical one. -/
abbrev State.physBank (s : State) (l : Nat) : Nat := s.rd (Fld.MEM_BANKMAP_PHYS l)

theorem State.bankIn_congr {s t : State} (h : ∀ b : Nat, t.rd (Fld.MEM_BANKSTAT_STATE b) = s.rd (Fld.MEM_BANKSTAT_STATE b)) (st : Nat) :
    t.bankIn st = s.bankIn st := by
  unfold State.bankIn
  exact congrArg (fun p => List.find? p (List.range 64)) (funext fun b => by rw [h b])

theorem State.swapTarget_congr {s t : State} (hs : ∀ b : Nat, t.rd (Fld.MEM_BANKSTAT_STATE b) = s.rd (Fld.MEM_BANKSTAT_STATE b))
    (hl : ∀ b : Nat, t.rd (Fld.MEM_BANKSTAT_LOGICAL b) = s.rd (Fld.MEM_BANKSTAT_LOGICAL b)) (l : Nat) : t.swapTarget l = s.swapTarget l := by
  unfold State.swapTarget
  exact congrArg (fun p => List.find? p (List.range 64)) (funext fun b => by rw [hs b, hl b])

theorem State.of_bankIn {s : State} {st x : Nat} (h : s.bankIn st = some x) : x < 64 ∧ s.rd (Fld.MEM_BANKSTAT_STATE x) = st := by
  have hx := List.find?_some h
  exact ⟨List.mem_range.1 (List.mem_of_find?_eq_some h), by simpa using hx⟩

theorem State.isSome_bankIn {s : State} {st x : Nat} (hx : x < 64) (h : s.rd (Fld.MEM_BANKSTAT_STATE x) = st) : (s.bankIn st).isSome = true :=
  List.find?_isSome.2 ⟨x, List.mem_range.2 hx, by simp [h]⟩

theorem State.of_swapTarget {s : State} {l x : Nat} (h : s.swapTarget l = some x) :
    x < 64 ∧ s.rd (Fld.MEM_BANKSTAT_STATE x) = 3 ∧ s.rd (Fld.MEM_BANKSTAT_LOGICAL x) = l := by
  have hmem := List.mem_range.1 (List.mem_of_find?_eq_some h)
  have hx := List.find?_some h
  simp only [Bool.and_eq_true, beq_iff_eq] at hx
  exact ⟨hmem, hx⟩

/-- The keys of the fields of a bank, by their places in BANKSTAT. -/
theorem key_bankState (b : Nat) : (Fld.MEM_BANKSTAT_STATE b).key = 0x9200100 * 32 + 128 * b + 16 := by
  simp only [Field.key, Fld.MEM_BANKSTAT_STATE]
  omega

theorem key_bankLogical (b : Nat) : (Fld.MEM_BANKSTAT_LOGICAL b).key = 0x9200100 * 32 + 128 * b + 19 := by
  simp only [Field.key, Fld.MEM_BANKSTAT_LOGICAL]
  omega

theorem key_bankCorr (b : Nat) : (Fld.MEM_BANKSTAT_CORR b).key = 0x9200100 * 32 + 128 * b := by
  simp only [Field.key, Fld.MEM_BANKSTAT_CORR]
  omega

theorem key_bankPhys (b : Nat) : (Fld.MEM_BANKMAP_PHYS b).key = 0x9200000 * 32 + 128 * b := by
  simp only [Field.key, Fld.MEM_BANKMAP_PHYS]
  omega

theorem key_spareSrc : Fld.MEM_SPARE_CTL_SRC.key = 0x9200200 * 32 := rfl
theorem key_spareBusy : Fld.MEM_SPARE_CTL_BUSY.key = 0x9200200 * 32 + 7 := rfl
theorem key_spareLeft : Fld.MEM_SPARE_CTL_LEFT.key = 0x9200200 * 32 + 8 := rfl

/-- The fields that the start of a swap from physical bank `p` to bank `x` writes. -/
def swapFields (p x : Nat) : List Field :=
  [Fld.MEM_BANKSTAT_STATE p, Fld.MEM_BANKSTAT_STATE x, Fld.MEM_BANKSTAT_LOGICAL x, Fld.MEM_SPARE_CTL_LEFT, Fld.MEM_SPARE_CTL_BUSY]

theorem not_swapFields {p x : Nat} {g : Field} (hp : g.key ≠ 0x9200100 * 32 + 128 * p + 16) (hx : g.key ≠ 0x9200100 * 32 + 128 * x + 16)
    (hl : g.key ≠ 0x9200100 * 32 + 128 * x + 19) (hleft : g.key ≠ 0x9200200 * 32 + 8) (hbusy : g.key ≠ 0x9200200 * 32 + 7) :
    ∀ f ∈ swapFields p x, g.key ≠ f.key := by
  simp only [swapFields, List.forall_mem_cons, List.not_mem_nil, false_imp_iff, implies_true, and_true, key_bankState, key_bankLogical,
    key_spareLeft, key_spareBusy]
  exact ⟨hp, hx, hl, hleft, hbusy⟩

theorem onlyRegs_showBanks (s : State) : OnlyRegs [Fld.MEM_SPARE_CTL_LEFT, Fld.MEM_SPARE_CTL_BUSY] s s.showBanks :=
  onlyRegs_wrs s [(Fld.MEM_SPARE_CTL_LEFT, _), (Fld.MEM_SPARE_CTL_BUSY, _)]

theorem State.rd_showBanks_busy (s : State) : s.showBanks.rd Fld.MEM_SPARE_CTL_BUSY = if (s.bankIn 3).isSome = true then 1 else 0 := by
  have hkeys : ([Fld.MEM_SPARE_CTL_LEFT, Fld.MEM_SPARE_CTL_BUSY].map Field.key).Nodup := by decide
  refine (State.rd_wrs_mem (l := [(Fld.MEM_SPARE_CTL_LEFT, _), (Fld.MEM_SPARE_CTL_BUSY, _)]) hkeys (.tail _ (.head _)) s).trans ?_
  split_ifs <;> rfl

theorem State.startSwap_of_none {s : State} {l : Nat} (hphys : s.rd (Fld.MEM_BANKSTAT_STATE (s.physBank l)) ≠ 2) (hnone : s.bankIn 1 = none) :
    s.startSwap l = s.raise Fld.MEM_EVT_NO_SPARE l := by
  rw [State.startSwap, if_neg (by simpa [State.swapping] using hphys), hnone]

/-- A swap starts: the source is in state 2, the first spare in state 3 for it (R422). -/
theorem State.startSwap_spec {s : State} {l x : Nat} (hphys : s.rd (Fld.MEM_BANKSTAT_STATE (s.physBank l)) ≠ 2) (hx : s.bankIn 1 = some x)
    (hne : s.physBank l ≠ x) :
    OnlyRegs (swapFields (s.physBank l) x) s (s.startSwap l) ∧ (s.startSwap l).rd (Fld.MEM_BANKSTAT_STATE (s.physBank l)) = 2 ∧
    (s.startSwap l).rd (Fld.MEM_BANKSTAT_STATE x) = 3 ∧ (s.startSwap l).rd (Fld.MEM_BANKSTAT_LOGICAL x) = l % 64 ∧
    (s.startSwap l).rd Fld.MEM_SPARE_CTL_BUSY = 1 := by
  have heq : s.startSwap l = (s.wrs [(Fld.MEM_BANKSTAT_STATE (s.physBank l), 2), (Fld.MEM_BANKSTAT_STATE x, 3),
      (Fld.MEM_BANKSTAT_LOGICAL x, l)]).showBanks := by
    rw [State.startSwap, if_neg (by simpa [State.swapping] using hphys), hx]
  have hwrs := onlyRegs_wrs s [(Fld.MEM_BANKSTAT_STATE (s.physBank l), 2), (Fld.MEM_BANKSTAT_STATE x, 3), (Fld.MEM_BANKSTAT_LOGICAL x, l)]
  have hkeys : ([(Fld.MEM_BANKSTAT_STATE (s.physBank l), 2), (Fld.MEM_BANKSTAT_STATE x, 3), (Fld.MEM_BANKSTAT_LOGICAL x, l)].map
      (fun p => p.1.key)).Nodup := by
    simp [key_bankState, key_bankLogical]
    omega
  have hshow := onlyRegs_showBanks (s.wrs [(Fld.MEM_BANKSTAT_STATE (s.physBank l), 2), (Fld.MEM_BANKSTAT_STATE x, 3), (Fld.MEM_BANKSTAT_LOGICAL x, l)])
  have hstate (b : Nat) : ∀ f ∈ [Fld.MEM_SPARE_CTL_LEFT, Fld.MEM_SPARE_CTL_BUSY], (Fld.MEM_BANKSTAT_STATE b).key ≠ f.key := by
    simp only [List.forall_mem_cons, List.not_mem_nil, false_imp_iff, implies_true, and_true, key_bankState, key_spareLeft, key_spareBusy]
    omega
  have hlogical : ∀ f ∈ [Fld.MEM_SPARE_CTL_LEFT, Fld.MEM_SPARE_CTL_BUSY], (Fld.MEM_BANKSTAT_LOGICAL x).key ≠ f.key := by
    simp only [List.forall_mem_cons, List.not_mem_nil, false_imp_iff, implies_true, and_true, key_bankLogical, key_spareLeft, key_spareBusy]
    omega
  have htarget : (s.wrs [(Fld.MEM_BANKSTAT_STATE (s.physBank l), 2), (Fld.MEM_BANKSTAT_STATE x, 3), (Fld.MEM_BANKSTAT_LOGICAL x, l)]).rd
      (Fld.MEM_BANKSTAT_STATE x) = 3 := State.rd_wrs_mem hkeys (.tail _ (.head _)) s
  rw [heq]
  refine ⟨(hwrs.mono (by simp [swapFields])).trans (hshow.mono (by simp [swapFields])), (hshow.1 _ (hstate _)).trans (State.rd_wrs_mem hkeys (.head _) s),
    (hshow.1 _ (hstate _)).trans htarget, (hshow.1 _ hlogical).trans (State.rd_wrs_mem hkeys (.tail _ (.tail _ (.head _))) s), ?_⟩
  rw [State.rd_showBanks_busy, if_pos (State.isSome_bankIn (State.of_bankIn hx).1 htarget)]

/-- A field that is neither state nor logical bank of a physical bank nor in the map of the logical ones. -/
def Field.OffBanks (f : Field) : Prop := f.key < 0x9200000 * 32 ∨ 0x9200100 * 32 ≤ f.key ∧ f.key % 32 ≠ 16 ∧ f.key % 32 ≠ 19

/-- States and logical banks of the physical banks, and the bank of logical bank `l`, are as before. -/
structure SameBanks (l : Nat) (s t : State) : Prop where
  state (b : Nat) : t.rd (Fld.MEM_BANKSTAT_STATE b) = s.rd (Fld.MEM_BANKSTAT_STATE b)
  logical (b : Nat) : t.rd (Fld.MEM_BANKSTAT_LOGICAL b) = s.rd (Fld.MEM_BANKSTAT_LOGICAL b)
  phys : t.physBank l = s.physBank l

theorem RegsBut.sameBanks {fs : List Field} {s t : State} (h : RegsBut fs s t) (hfs : ∀ f ∈ fs, f.OffBanks) {l : Nat} (hl : l < 60) :
    SameBanks l s t where
  state b := h _ fun f hf hkey => by
    have hoff := hfs f hf
    rw [Field.OffBanks, ← hkey, key_bankState] at hoff
    omega
  logical b := h _ fun f hf hkey => by
    have hoff := hfs f hf
    rw [Field.OffBanks, ← hkey, key_bankLogical] at hoff
    omega
  phys := h _ fun f hf hkey => by
    have hoff := hfs f hf
    rw [Field.OffBanks, ← hkey, key_bankPhys] at hoff
    omega

/-- A swap that starts after changes which leave the banks as they were. -/
theorem SameBanks.startSwap_spec {s t : State} {l x : Nat} (h : SameBanks l s t) (hphys : s.rd (Fld.MEM_BANKSTAT_STATE (s.physBank l)) = 0)
    (hx : s.bankIn 1 = some x) :
    OnlyRegs (swapFields (s.physBank l) x) t (t.startSwap l) ∧ (t.startSwap l).rd (Fld.MEM_BANKSTAT_STATE (s.physBank l)) = 2 ∧
    (t.startSwap l).rd (Fld.MEM_BANKSTAT_STATE x) = 3 ∧ (t.startSwap l).rd (Fld.MEM_BANKSTAT_LOGICAL x) = l % 64 ∧
    (t.startSwap l).rd Fld.MEM_SPARE_CTL_BUSY = 1 := by
  have hne : s.physBank l ≠ x := by
    rintro rfl
    rw [(State.of_bankIn hx).2] at hphys
    cases hphys
  rw [← h.phys]
  refine State.startSwap_spec ?_ ((State.bankIn_congr h.state 1).trans hx) (by rwa [h.phys])
  rw [h.state, h.phys, hphys]
  decide

theorem offBanks_of_mem {fs : List Field} (h : fs.all (fun f => decide (f.key < 0x9200000 * 32) ||
    decide (0x9200100 * 32 ≤ f.key) && decide (f.key % 32 ≠ 16) && decide (f.key % 32 ≠ 19)) = true) : ∀ f ∈ fs, f.OffBanks := by
  intro f hf
  have hoff := List.all_eq_true.1 h f hf
  simp only [Bool.or_eq_true, Bool.and_eq_true, decide_eq_true_eq] at hoff
  rw [Field.OffBanks]
  tauto

theorem exec_bankSwapStart_core (s : State) {u : Core} (hu : mayWrite u 18 = true) (b : BitVec 6) (n : Nat) :
    exec (.bankSwapStart (some u) b n) s = .next (s.spareStart b.toNat) := congrArg Host.Outcome.next (State.asWriter_of s _ hu)

/-- MEM_SPARE_CTL.START (R422). -/
theorem State.spareStart_spec {s : State} {b x : Nat} (hb : b ≤ 59) (hphys : s.rd (Fld.MEM_BANKSTAT_STATE (s.physBank b)) = 0)
    (hx : s.bankIn 1 = some x) :
    (s.spareStart b).rd (Fld.MEM_BANKSTAT_STATE (s.physBank b)) = 2 ∧ (s.spareStart b).rd (Fld.MEM_BANKSTAT_STATE x) = 3 ∧
    (s.spareStart b).rd (Fld.MEM_BANKSTAT_LOGICAL x) = b ∧ (s.spareStart b).rd Fld.MEM_SPARE_CTL_SRC = b ∧
    (s.spareStart b).rd Fld.MEM_SPARE_CTL_BUSY = 1 ∧
    OnlyRegs (Fld.MEM_SPARE_CTL_SRC :: swapFields (s.physBank b) x) s (s.spareStart b) := by
  have heq : s.spareStart b = (s.wr Fld.MEM_SPARE_CTL_SRC b).startSwap b := by
    rw [State.spareStart, if_neg]
    simp [State.swapping, hphys]
    omega
  have hsrc := onlyRegs_wr s Fld.MEM_SPARE_CTL_SRC b
  have hsame : SameBanks b s (s.wr Fld.MEM_SPARE_CTL_SRC b) := hsrc.1.sameBanks (offBanks_of_mem (by decide)) (by omega)
  obtain ⟨hregs, hstate, htarget, hlogical, hbusy⟩ := hsame.startSwap_spec hphys hx
  have hkeep : ∀ f ∈ swapFields (s.physBank b) x, Fld.MEM_SPARE_CTL_SRC.key ≠ f.key :=
    not_swapFields (by rw [key_spareSrc]; omega) (by rw [key_spareSrc]; omega) (by rw [key_spareSrc]; omega) (by decide) (by decide)
  rw [heq]
  refine ⟨hstate, htarget, hlogical.trans (Nat.mod_eq_of_lt (by omega)), ?_, hbusy, (hsrc.mono (by simp)).trans (hregs.mono fun f hf => .tail _ hf)⟩
  exact (hregs.1 _ hkeep).trans ((State.rd_wr_self _ _ _).trans (Nat.mod_eq_of_lt (by simp only [Fld.MEM_SPARE_CTL_SRC]; omega)))

theorem State.spareStart_refused {s : State} {b : Nat} (hb : 59 < b) : s.spareStart b = s.raise Fld.MEM_EVT_INVALID_WR b := by
  rw [State.spareStart, if_pos (.inl hb)]

/-- A field of the same place reads what is written, where that is not the reset value of the field it is written by. -/
theorem State.rd_wr_of_key_eq (s : State) {f g : Field} {v : Nat} (hkey : g.key = f.key) (hv : v % 2 ^ f.width ≠ f.reset) :
    (s.wr f v).rd g = v % 2 ^ f.width := by
  show FMap.get g.reset (FMap.set f.reset s.regs f.key (v % 2 ^ f.width)) g.key = _
  rw [FMap.set, if_neg hv, FMap.get_insert _ _ _ _ _ (FMap.erase_keys _ _), if_pos hkey]

/-- MGC3's own start after more corrected errors than CORR_LIMIT (R413, R422). -/
theorem exec_bankSwapStart_own (s : State) {b : BitVec 6} {n x : Nat} (hb : b.toNat ≤ 59) (hauto : s.flag Fld.MEM_CFG_AUTO = true)
    (hn : s.rd Fld.MEM_CFG_CORR_LIMIT < n) (hphys : s.rd (Fld.MEM_BANKSTAT_STATE (s.physBank b.toNat)) = 0) (hx : s.bankIn 1 = some x) :
    ∃ t, exec (.bankSwapStart none b n) s = .next t ∧ t.rd (Fld.MEM_BANKSTAT_STATE (s.physBank b.toNat)) = 2 ∧
      t.rd (Fld.MEM_BANKSTAT_STATE x) = 3 ∧ t.rd (Fld.MEM_BANKSTAT_LOGICAL x) = b.toNat ∧
      t.rd (Fld.MEM_BANKSTAT_CORR (s.physBank b.toNat)) = min (s.rd (Fld.MEM_BANKSTAT_CORR (s.physBank b.toNat)) + n) 65535 := by
  have hcorr := onlyRegs_bump s (Fld.MEM_BANKSTAT_CORR (s.physBank b.toNat)) n
  have hself := State.rd_bump_self s (Fld.MEM_BANKSTAT_CORR (s.physBank b.toNat)) n
  have hsame : SameBanks b.toNat s (s.bump (Fld.MEM_BANKSTAT_CORR (s.physBank b.toNat)) n) := by
    refine hcorr.1.sameBanks (fun f hf => ?_) (by omega)
    rw [List.mem_singleton.1 hf, Field.OffBanks, key_bankCorr]
    omega
  have hauto' : (s.bump (Fld.MEM_BANKSTAT_CORR (s.physBank b.toNat)) n).flag Fld.MEM_CFG_AUTO = true := by
    by_cases hkey : Fld.MEM_CFG_AUTO.key = (Fld.MEM_BANKSTAT_CORR (s.physBank b.toNat)).key
    · have hpos : min (s.rd (Fld.MEM_BANKSTAT_CORR (s.physBank b.toNat)) + n) 65535 % 65536 ≠ 0 := by omega
      exact bne_iff_ne.2 fun hzero => hpos ((State.rd_wr_of_key_eq s hkey hpos).symm.trans hzero)
    · rw [State.flag, State.rd_bump_ne _ _ hkey]
      exact hauto
  have hlimit : (s.bump (Fld.MEM_BANKSTAT_CORR (s.physBank b.toNat)) n).rd Fld.MEM_CFG_CORR_LIMIT = s.rd Fld.MEM_CFG_CORR_LIMIT := by
    refine State.rd_bump_ne _ _ ?_
    rw [key_bankCorr, show Fld.MEM_CFG_CORR_LIMIT.key = 0x9200204 * 32 + 1 from rfl]
    omega
  obtain ⟨hregs, hstate, htarget, hlogical, -⟩ := hsame.startSwap_spec hphys hx
  have hkeep : ∀ f ∈ swapFields (s.physBank b.toNat) x, (Fld.MEM_BANKSTAT_CORR (s.physBank b.toNat)).key ≠ f.key :=
    not_swapFields (by rw [key_bankCorr]; omega) (by rw [key_bankCorr]; omega) (by rw [key_bankCorr]; omega)
      (by rw [key_bankCorr]; omega) (by rw [key_bankCorr]; omega)
  refine ⟨_, ?_, hstate, htarget, hlogical.trans (Nat.mod_eq_of_lt (by omega)), (hregs.1 _ hkeep).trans hself⟩
  show Host.Outcome.next _ = _
  refine congrArg Host.Outcome.next ?_
  rw [if_neg (by omega)]
  exact if_pos ⟨hauto', hlimit ▸ hn⟩

/-- The fields that the end of a swap from physical bank `p` to bank `x` writes. -/
def switchFields (l p x : Nat) : List Field :=
  [Fld.MEM_BANKMAP_PHYS l, Fld.MEM_BANKSTAT_STATE x, Fld.MEM_BANKSTAT_STATE p, Fld.MEM_BANKSTAT_LOGICAL p]

/-- BANK_SWAP_SWITCH (R422). -/
theorem exec_bankSwapSwitch_spec (s : State) {b : Fin 60} {x : Nat} (hx : s.swapTarget b.val = some x) (hne : s.physBank b.val ≠ x) :
    ∃ t, exec (.bankSwapSwitch b) s = .next t ∧ t.rd (Fld.MEM_BANKMAP_PHYS b.val) = x ∧ t.rd (Fld.MEM_BANKSTAT_STATE x) = 0 ∧
      t.rd (Fld.MEM_BANKSTAT_STATE (s.physBank b.val)) = 4 ∧ t.rd (Fld.MEM_BANKSTAT_LOGICAL (s.physBank b.val)) = 63 ∧
      t.rd Fld.MEM_EVT_SWAP_DONE = 1 ∧
      OnlyLogged (switchFields b.val (s.physBank b.val) x ++ [Fld.MEM_SPARE_CTL_BUSY, Fld.MEM_SPARE_CTL_LEFT, Fld.MEM_EVT_SWAP_DONE]) s t := by
  obtain ⟨hx64, -, -⟩ := State.of_swapTarget hx
  let w := [(Fld.MEM_BANKMAP_PHYS b.val, x), (Fld.MEM_BANKSTAT_STATE x, 0), (Fld.MEM_BANKSTAT_STATE (s.physBank b.val), 4),
    (Fld.MEM_BANKSTAT_LOGICAL (s.physBank b.val), 63)]
  have hkeys : (w.map (fun p => p.1.key)).Nodup := by
    simp [w, key_bankState, key_bankLogical, key_bankPhys]
    omega
  have hrest : OnlyLogged [Fld.MEM_SPARE_CTL_BUSY, Fld.MEM_SPARE_CTL_LEFT, Fld.MEM_EVT_SWAP_DONE] (s.wrs w)
      ((s.wrs w).showBanks.raise Fld.MEM_EVT_SWAP_DONE b.val) :=
    ((onlyRegs_showBanks _).onlyLogged.mono (by simp)).trans ((State.onlyLogged_raise _ _ _).mono (by simp))
  have hexec : exec (.bankSwapSwitch b) s = .next ((s.wrs w).showBanks.raise Fld.MEM_EVT_SWAP_DONE b.val) := by
    show execBankSwapSwitch b s = _
    rw [execBankSwapSwitch, hx]
  have hsame := hrest.1.sameBanks (offBanks_of_mem (by decide)) b.isLt
  have hrd {p : Field × Nat} (hp : p ∈ w) : (s.wrs w).rd p.1 = p.2 % 2 ^ p.1.width := State.rd_wrs_mem hkeys hp s
  refine ⟨_, hexec, (hsame.phys.trans (hrd (.head _))).trans (Nat.mod_eq_of_lt hx64), (hsame.state _).trans (hrd (.tail _ (.head _))),
    (hsame.state _).trans (hrd (.tail _ (.tail _ (.head _)))), (hsame.logical _).trans (hrd (.tail _ (.tail _ (.tail _ (.head _))))), ?_, ?_⟩
  · exact State.rd_raise_self _ _ _ rfl (by decide)
  · exact ((onlyRegs_wrs s w).onlyLogged.mono fun f hf => List.mem_append_left _ hf).trans (hrest.mono fun f hf => List.mem_append_right _ hf)

theorem exec_bankSwapSwitch_of_none {s : State} {b : Fin 60} (h : s.swapTarget b.val = none) : exec (.bankSwapSwitch b) s = .next s := by
  show execBankSwapSwitch b s = _
  rw [execBankSwapSwitch, h]

/-! ### Uncorrectable errors (R413, R423) -/

theorem testBit_setBit {v i w : Nat} (hi : i < w) : Nat.testBit ((if bitOf v i = true then v else v + 2 ^ i) % 2 ^ w) i = true := by
  rw [Nat.testBit_mod_two_pow, decide_eq_true hi, Bool.true_and]
  split
  next h => exact h
  next h =>
    rw [Nat.add_comm, Nat.testBit_two_pow_add_eq]
    simpa [bitOf] using h

theorem State.rd_wrBit_true (s : State) {f : Field} {i : Nat} (hi : i < f.width) : bitOf ((s.wrBit f i true).rd f) i = true := by
  rw [State.wrBit, State.rd_wr_self]
  exact testBit_setBit hi

theorem State.raiseYield_live (s : State) {b : Nat} (hb : b < 6) : bitOf ((s.raiseYield b).rd Fld.TND_CAUSE_LIVE) b = true := by
  have h0 : bitOf ((s.wrBit Fld.TND_CAUSE_LIVE b true).rd Fld.TND_CAUSE_LIVE) b = true := s.rd_wrBit_true hb
  unfold State.raiseYield
  dsimp only
  split
  · split
    · exact h0
    · rw [State.rd_raise_ne _ _ _ _ (by decide) (by decide)]
      exact h0
  · exact h0

/-- Nothing but registers, events and what is due of the tandem changes. -/
def SameButYield (s t : State) : Prop := t = { s with regs := t.regs, hist := t.hist, log := t.log, tnd := t.tnd }

theorem SameButYield.trans {s t u : State} (h : SameButYield s t) (k : SameButYield t u) : SameButYield s u := by
  unfold SameButYield at *
  rw [k, h]

theorem OnlyLogged.sameButYield {fs : List Field} {s t : State} (h : OnlyLogged fs s t) : SameButYield s t := by
  obtain ⟨-, heq⟩ := h
  unfold SameButYield
  rw [heq]

theorem State.wantYield_sameButYield (s : State) (c d : Bool) : SameButYield s (s.wantYield c d) := rfl

theorem State.raiseYield_sameButYield (s : State) (b : Nat) : SameButYield s (s.raiseYield b) := by
  have h0 : SameButYield s (s.wrBit Fld.TND_CAUSE_LIVE b true) := (onlyRegs_wr s Fld.TND_CAUSE_LIVE _).onlyLogged.sameButYield
  unfold State.raiseYield
  dsimp only
  split
  · split
    · exact h0.trans (State.wantYield_sameButYield _ _ _)
    · exact h0.trans (State.onlyLogged_raise _ _ _).sameButYield
  · exact h0

/-- What counts an uncorrectable error of a logical bank and makes it a cause to yield (R413). -/
def State.uncorrectable (s : State) (l : Nat) : State := ((s.bump Fld.MEM_CNT_UECC_CNT).raise Fld.MEM_EVT_UECC_SRAM l).raiseYield 1

def uncorrectableFields : List Field :=
  [Fld.MEM_CNT_UECC_CNT, Fld.MEM_EVT_UECC_SRAM, Fld.TND_CAUSE_LIVE, Fld.TND_EVT_HELD_NO_TWIN] ++ loggedFields

theorem regsBut_raiseYield (s : State) (b : Nat) : RegsBut ([Fld.TND_CAUSE_LIVE, Fld.TND_EVT_HELD_NO_TWIN] ++ loggedFields) s (s.raiseYield b) :=
  fun g hg => State.rd_raiseYield_ne s b g (hg _ (by simp)) (hg _ (by simp)) fun x hx => hg x (List.mem_append_right _ hx)

theorem RegsBut.trans {fs : List Field} {s t u : State} (h : RegsBut fs s t) (k : RegsBut fs t u) : RegsBut fs s u :=
  fun g hg => (k g hg).trans (h g hg)

theorem RegsBut.mono {fs gs : List Field} {s t : State} (h : RegsBut fs s t) (hs : ∀ f ∈ fs, f ∈ gs) : RegsBut gs s t :=
  fun g hg => h g fun f hf => hg f (hs f hf)

theorem State.uncorrectable_spec (s : State) (l : Nat) :
    (s.uncorrectable l).rd Fld.MEM_CNT_UECC_CNT = min (s.rd Fld.MEM_CNT_UECC_CNT + 1) (2 ^ Fld.MEM_CNT_UECC_CNT.width - 1) ∧
    (s.uncorrectable l).rd Fld.MEM_EVT_UECC_SRAM = 1 ∧ bitOf ((s.uncorrectable l).rd Fld.TND_CAUSE_LIVE) 1 = true ∧
    RegsBut uncorrectableFields s (s.uncorrectable l) ∧
    SameButYield s (s.uncorrectable l) := by
  have h1 := onlyRegs_bump s Fld.MEM_CNT_UECC_CNT 1
  have h2 := State.onlyLogged_raise (s.bump Fld.MEM_CNT_UECC_CNT) Fld.MEM_EVT_UECC_SRAM l
  have h3 := regsBut_raiseYield ((s.bump Fld.MEM_CNT_UECC_CNT).raise Fld.MEM_EVT_UECC_SRAM l) 1
  refine ⟨((h3 _ (by decide)).trans (h2.1 _ (by decide))).trans (State.rd_bump_self _ _ _), (h3 _ (by decide)).trans ?_,
    State.raiseYield_live _ (by decide), ?_, ?_⟩
  · exact State.rd_raise_self _ _ _ rfl (by decide)
  · exact ((h1.1.mono (by simp [uncorrectableFields])).trans (h2.1.mono (by simp [uncorrectableFields, loggedFields]))).trans
      (h3.mono (by simp [uncorrectableFields, loggedFields]))
  · exact (h1.onlyLogged.sameButYield.trans h2.sameButYield).trans (State.raiseYield_sameButYield _ _)

theorem State.uncorrectable_sameBanks (s : State) {l : Nat} (hl : l < 60) : SameBanks l s (s.uncorrectable l) := by
  obtain ⟨-, -, -, hregs, -⟩ := s.uncorrectable_spec l
  exact hregs.sameBanks (offBanks_of_mem (by decide)) hl

/-- The granule of a row in a logical bank rewritten as 0. -/
def State.rewritten (s : State) (l q : Nat) : State := s.putBytes (sramBase + s.sramAddr l q) (List.replicate 64 0)

theorem State.putBytes_eq (s : State) (a : Nat) (bs : List (BitVec 8)) : s.putBytes a bs = { s with mem := (s.putBytes a bs).mem } := rfl

theorem State.rewritten_eq (s : State) (l q : Nat) : s.rewritten l q = { s with mem := (s.rewritten l q).mem } := State.putBytes_eq s _ _

theorem State.rd_putBytes (s : State) (a : Nat) (bs : List (BitVec 8)) (f : Field) : (s.putBytes a bs).rd f = s.rd f := rfl

theorem State.rd_rewritten (s : State) (l q : Nat) (f : Field) : (s.rewritten l q).rd f = s.rd f := State.rd_putBytes s _ _ f

theorem State.rewritten_cells (s : State) (l q : Nat) : (s.rewritten l q).cells = s.cells := by rw [State.rewritten_eq]

theorem State.mem_putBytes (s : State) (a : Nat) (bs : List (BitVec 8)) : (s.putBytes a bs).mem = FMap.setRange 0 s.mem a bs := rfl

theorem State.rewritten_mem (s : State) (l q : Nat) :
    (s.rewritten l q).mem = FMap.setRange 0 s.mem (sramBase + s.sramAddr l q) (List.replicate 64 0) := State.mem_putBytes s _ _

theorem State.sramAddr_congr {s t : State} (h : t.bankKey = s.bankKey) (l q : Nat) : t.sramAddr l q = s.sramAddr l q := by
  unfold State.sramAddr State.bankRow
  rw [h]

theorem SameBanks.rewritten {l : Nat} {s t : State} (h : SameBanks l s t) (b q : Nat) : SameBanks l s (t.rewritten b q) :=
  ⟨fun x => (State.rd_rewritten t b q _).trans (h.state x), fun x => (State.rd_rewritten t b q _).trans (h.logical x),
    (State.rd_rewritten t b q _).trans h.phys⟩

/-- A bank whose row holds an uncorrectable error: the granule is rewritten as 0 and a swap starts (R413). -/
theorem exec_sramUncorrectable_row (s : State) (b : Fin 60) (q : Fin 12288) (what : Poison) :
    exec (.sramUncorrectable ⟨b, q⟩ false what) s =
      .next ((((s.uncorrectable b.val).rewritten b.val q.val).poisoned what).startSwap b.val) := rfl

theorem State.poisoned_other (s : State) : s.poisoned .other = s := rfl

theorem State.poisoned_sample_cells (s : State) (n : Fin 128) (k : Fin 96) :
    (s.poisoned (.sample n k)).cells = FMap.modify Cell.reset s.cells (cellId n.val k.val) (fun x => if x.lstate = .free then x
      else { x with outcome := .noLock, sampleOk := false }) := rfl

/-- The target of a failed swap retired, and the failure shown (R423). -/
def State.retireTarget (s : State) (l x : Nat) : State :=
  (s.wrs [(Fld.MEM_BANKSTAT_STATE x, 4), (Fld.MEM_BANKSTAT_LOGICAL x, 63)]).raise Fld.MEM_EVT_SWAP_FAIL l

theorem State.retireTarget_spec (s : State) {l : Nat} (hl : l < 60) (x : Nat) :
    (s.retireTarget l x).rd (Fld.MEM_BANKSTAT_STATE x) = 4 ∧ (s.retireTarget l x).rd Fld.MEM_EVT_SWAP_FAIL = 1 ∧
    (s.retireTarget l x).physBank l = s.physBank l ∧ State.SameButLogged s (s.retireTarget l x) := by
  have hwrs := onlyRegs_wrs s [(Fld.MEM_BANKSTAT_STATE x, 4), (Fld.MEM_BANKSTAT_LOGICAL x, 63)]
  have hretired : (s.wrs [(Fld.MEM_BANKSTAT_STATE x, 4), (Fld.MEM_BANKSTAT_LOGICAL x, 63)]).rd (Fld.MEM_BANKSTAT_STATE x) = 4 :=
    State.rd_wrs_mem (l := [(Fld.MEM_BANKSTAT_STATE x, 4), (Fld.MEM_BANKSTAT_LOGICAL x, 63)])
      (by simp [key_bankState, key_bankLogical]) (.head _) s
  have hphys : (s.wrs [(Fld.MEM_BANKSTAT_STATE x, 4), (Fld.MEM_BANKSTAT_LOGICAL x, 63)]).physBank l = s.physBank l :=
    hwrs.1 _ (by simp [key_bankState, key_bankLogical, key_bankPhys]; omega)
  have hraise := State.onlyLogged_raise (s.wrs [(Fld.MEM_BANKSTAT_STATE x, 4), (Fld.MEM_BANKSTAT_LOGICAL x, 63)]) Fld.MEM_EVT_SWAP_FAIL l
  have hsame : SameBanks l _ _ := hraise.1.sameBanks (offBanks_of_mem (by decide)) hl
  exact ⟨(hsame.state x).trans hretired, State.rd_raise_self _ _ _ rfl (by decide), hsame.phys.trans hphys,
    State.SameButLogged.trans hwrs.onlyLogged.2 hraise.2⟩

theorem exec_sramUncorrectable_target {s : State} {b : Fin 60} (q : Fin 12288) (what : Poison) {x : Nat}
    (hx : (s.uncorrectable b.val).swapTarget b.val = some x) :
    exec (.sramUncorrectable ⟨b, q⟩ true what) s = .next (((((s.uncorrectable b.val).retireTarget b.val x).wr
      (Fld.MEM_BANKSTAT_STATE (((s.uncorrectable b.val).retireTarget b.val x).physBank b.val)) 0).startSwap b.val).showBanks) := by
  have hx' : (((s.bump Fld.MEM_CNT_UECC_CNT).raise Fld.MEM_EVT_UECC_SRAM b.val).raiseYield 1).swapTarget b.val = some x := hx
  show execSramUncorrectable ⟨b, q⟩ true what s = _
  simp only [execSramUncorrectable, if_true, hx']
  rfl

theorem State.startSwap_sameButLogged (s : State) (l : Nat) : State.SameButLogged s (s.startSwap l) := by
  unfold State.startSwap
  split
  · exact State.SameButLogged.refl s
  · split
    · exact State.raise_sameButLogged s _ _
    · exact State.SameButLogged.trans (onlyRegs_wrs s _).onlyLogged.2 (onlyRegs_showBanks _).onlyLogged.2

theorem State.eq_of_memory {s u v t : State} (hu : SameButYield s u) (hv : v = { u with mem := v.mem }) (ht : State.SameButLogged v t) :
    t = { s with regs := t.regs, hist := t.hist, log := t.log, tnd := t.tnd, mem := t.mem } := by
  unfold SameButYield at hu
  unfold State.SameButLogged at ht
  rw [ht, hv, hu]

theorem SameButYield.mem {s t : State} (h : SameButYield s t) : t.mem = s.mem := (congrArg State.mem h).trans rfl
theorem SameButYield.bankKey {s t : State} (h : SameButYield s t) : t.bankKey = s.bankKey := (congrArg State.bankKey h).trans rfl
theorem SameButYield.cells {s t : State} (h : SameButYield s t) : t.cells = s.cells := (congrArg State.cells h).trans rfl
theorem SameButYield.engines {s t : State} (h : SameButYield s t) : t.engines = s.engines := (congrArg State.engines h).trans rfl

theorem State.SameButLogged.sameButYield {s t : State} (h : State.SameButLogged s t) : SameButYield s t := by
  unfold State.SameButLogged at h
  unfold SameButYield
  rw [h]

theorem exec_sramUncorrectable_noSpare (s : State) (b : Fin 60) (q : Fin 12288) (hnone : s.bankIn 1 = none) (hswap : s.swapping b.val = false) :
    ∃ t, exec (.sramUncorrectable ⟨b, q⟩ false .other) s = .next t ∧
      t.mem = FMap.setRange 0 s.mem (sramBase + s.sramAddr b.val q.val) (List.replicate 64 0) ∧
      t.rd Fld.MEM_CNT_UECC_CNT = min (s.rd Fld.MEM_CNT_UECC_CNT + 1) (2 ^ Fld.MEM_CNT_UECC_CNT.width - 1) ∧ t.rd Fld.MEM_EVT_UECC_SRAM = 1 ∧
      bitOf (t.rd Fld.TND_CAUSE_LIVE) 1 = true ∧ t.rd Fld.MEM_EVT_NO_SPARE = 1 ∧
      RegsBut ([Fld.MEM_CNT_UECC_CNT, Fld.MEM_EVT_UECC_SRAM, Fld.MEM_EVT_NO_SPARE, Fld.TND_CAUSE_LIVE, Fld.TND_EVT_HELD_NO_TWIN] ++ loggedFields) s t ∧
      t = { s with regs := t.regs, hist := t.hist, log := t.log, tnd := t.tnd, mem := t.mem } := by
  obtain ⟨hcnt, huecc, hlive, hregs, heq⟩ := s.uncorrectable_spec b.val
  have hsame := (s.uncorrectable_sameBanks b.isLt).rewritten b.val q.val
  have hexec := exec_sramUncorrectable_row s b q .other
  have hmem := (s.uncorrectable b.val).rewritten_mem b.val q.val
  have hrest := (s.uncorrectable b.val).rewritten_eq b.val q.val
  have hrd := (s.uncorrectable b.val).rd_rewritten b.val q.val
  rw [heq.mem, State.sramAddr_congr heq.bankKey] at hmem
  rw [State.poisoned_other] at hexec
  generalize (s.uncorrectable b.val).rewritten b.val q.val = v at *
  have hphys : v.rd (Fld.MEM_BANKSTAT_STATE (v.physBank b.val)) ≠ 2 := by
    rw [hsame.state, hsame.phys]
    simpa [State.swapping] using hswap
  rw [State.startSwap_of_none hphys ((State.bankIn_congr hsame.state 1).trans hnone)] at hexec
  have hraise := State.onlyLogged_raise v Fld.MEM_EVT_NO_SPARE b.val
  have hregs' : RegsBut uncorrectableFields s v := fun g hg => (hrd g).trans (hregs g hg)
  refine ⟨_, hexec, (State.raise_mem _ _ _).trans hmem, ((hraise.1 _ (by decide)).trans (hrd _)).trans hcnt,
    ((hraise.1 _ (by decide)).trans (hrd _)).trans huecc, ?_, State.rd_raise_self _ _ _ rfl (by decide), ?_,
    State.eq_of_memory heq hrest (State.raise_sameButLogged v _ _)⟩
  · rw [hraise.1 _ (by decide), hrd]
    exact hlive
  · exact (hregs'.mono (by simp [uncorrectableFields, loggedFields])).trans (hraise.1.mono (by simp [loggedFields]))

theorem exec_sramUncorrectable_swaps (s : State) (b : Fin 60) (q : Fin 12288) {x : Nat} (hx : s.bankIn 1 = some x)
    (hphys : s.rd (Fld.MEM_BANKSTAT_STATE (s.physBank b.val)) = 0) :
    ∃ t, exec (.sramUncorrectable ⟨b, q⟩ false .other) s = .next t ∧ t.rd Fld.MEM_EVT_UECC_SRAM = 1 ∧
      t.rd (Fld.MEM_BANKSTAT_STATE (s.physBank b.val)) = 2 ∧ t.rd (Fld.MEM_BANKSTAT_STATE x) = 3 ∧
      t = { s with regs := t.regs, hist := t.hist, log := t.log, tnd := t.tnd, mem := t.mem } := by
  obtain ⟨-, huecc, -, -, heq⟩ := s.uncorrectable_spec b.val
  have hsame := (s.uncorrectable_sameBanks b.isLt).rewritten b.val q.val
  have hexec := exec_sramUncorrectable_row s b q .other
  have hrest := (s.uncorrectable b.val).rewritten_eq b.val q.val
  have hrd := (s.uncorrectable b.val).rd_rewritten b.val q.val
  rw [State.poisoned_other] at hexec
  generalize (s.uncorrectable b.val).rewritten b.val q.val = v at *
  obtain ⟨hregs, hstate, htarget, -⟩ := hsame.startSwap_spec hphys hx
  have hflag : ∀ f ∈ swapFields (s.physBank b.val) x, Fld.MEM_EVT_UECC_SRAM.key ≠ f.key := by
    have hkey : Fld.MEM_EVT_UECC_SRAM.key = 0x9200208 * 32 + 3 := rfl
    exact not_swapFields (by omega) (by omega) (by omega) (by decide) (by decide)
  exact ⟨_, hexec, ((hregs.1 _ hflag).trans (hrd _)).trans huecc, hstate, htarget,
    State.eq_of_memory heq hrest (State.startSwap_sameButLogged v b.val)⟩

/-- A poisoned sample record makes the sample of an occupied slot invalid (R413). -/
theorem exec_sramUncorrectable_sample (s : State) (b : Fin 60) (q : Fin 12288) (n : Fin 128) (k : Fin 96)
    (hcell : (s.cell (cellId n.val k.val)).lstate ≠ .free) :
    ∃ t, exec (.sramUncorrectable ⟨b, q⟩ false (.sample n k)) s = .next t ∧ (t.cell (cellId n.val k.val)).sampleOk = false ∧
      MapBut Cell.reset [cellId n.val k.val] s.cells t.cells := by
  obtain ⟨-, -, -, -, heq⟩ := s.uncorrectable_spec b.val
  have hexec := exec_sramUncorrectable_row s b q (.sample n k)
  have hcells := ((s.uncorrectable b.val).rewritten b.val q.val).poisoned_sample_cells n k
  rw [State.rewritten_cells, heq.cells] at hcells
  generalize ((s.uncorrectable b.val).rewritten b.val q.val).poisoned (.sample n k) = v at *
  have hswap : (v.startSwap b.val).cells = v.cells := (congrArg State.cells (State.startSwap_sameButLogged v b.val)).trans rfl
  refine ⟨_, hexec, ?_, fun c hc => ?_⟩
  · have hmine := FMap.get_modify_self Cell.reset s.cells (cellId n.val k.val) (fun x => if x.lstate = .free then x
      else { x with outcome := .noLock, sampleOk := false })
    rw [State.cell, hswap, hcells, hmine]
    exact congrArg Cell.sampleOk (if_neg hcell)
  · rw [hswap, hcells, FMap.get_modify_ne _ _ _ (by simpa using hc)]

/-- The start of a swap keeps a retired bank and every flag of MEM_EVT but NO_SPARE. -/
theorem State.startSwap_keeps {s : State} {l x : Nat} (hl : l < 60) (hphys : s.rd (Fld.MEM_BANKSTAT_STATE (s.physBank l)) = 0)
    (hx : s.rd (Fld.MEM_BANKSTAT_STATE x) = 4) :
    (s.startSwap l).rd (Fld.MEM_BANKSTAT_STATE x) = 4 ∧ (s.startSwap l).rd Fld.MEM_EVT_SWAP_FAIL = s.rd Fld.MEM_EVT_SWAP_FAIL := by
  have hp : s.physBank l ≠ x := by
    rintro rfl
    omega
  cases hspare : s.bankIn 1 with
  | none =>
    rw [State.startSwap_of_none (by omega) hspare]
    have hraise := s.onlyLogged_raise Fld.MEM_EVT_NO_SPARE l
    exact ⟨((hraise.1.sameBanks (offBanks_of_mem (by decide)) hl).state x).trans hx, hraise.1 _ (by decide)⟩
  | some y =>
    obtain ⟨-, hy⟩ := State.of_bankIn hspare
    have hyx : y ≠ x := by
      rintro rfl
      omega
    obtain ⟨hregs, -⟩ := State.startSwap_spec (l := l) (by omega) hspare (by rintro rfl; omega)
    have hkey : Fld.MEM_EVT_SWAP_FAIL.key = 0x9200208 * 32 + 1 := rfl
    have hstate := key_bankState x
    exact ⟨(hregs.1 _ (not_swapFields (by omega) (by omega) (by omega) (by omega) (by omega))).trans hx,
      hregs.1 _ (not_swapFields (by omega) (by omega) (by omega) (by omega) (by omega))⟩

/-- An uncorrectable error in the target of a swap retires the target (R423). -/
theorem exec_sramUncorrectable_inTarget (s : State) (b : Fin 60) (q : Fin 12288) (what : Poison) {x : Nat} (hx : s.swapTarget b.val = some x)
    (hne : s.physBank b.val ≠ x) :
    ∃ t, exec (.sramUncorrectable ⟨b, q⟩ true what) s = .next t ∧ t.rd Fld.MEM_EVT_SWAP_FAIL = 1 ∧ t.rd (Fld.MEM_BANKSTAT_STATE x) = 4 ∧
      t.cells = s.cells ∧ t.engines = s.engines := by
  obtain ⟨-, -, -, -, heq⟩ := s.uncorrectable_spec b.val
  have hsame := s.uncorrectable_sameBanks b.isLt
  have hexec := exec_sramUncorrectable_target q what ((State.swapTarget_congr hsame.state hsame.logical b.val).trans hx)
  obtain ⟨hretired, hfail, hphys1, hlogged⟩ := (s.uncorrectable b.val).retireTarget_spec b.isLt x
  generalize (s.uncorrectable b.val).retireTarget b.val x = w at *
  -- The source goes on.
  have hphys : w.physBank b.val = s.physBank b.val := hphys1.trans hsame.phys
  have hwr := onlyRegs_wr w (Fld.MEM_BANKSTAT_STATE (w.physBank b.val)) 0
  have hsource : (w.wr (Fld.MEM_BANKSTAT_STATE (w.physBank b.val)) 0).rd (Fld.MEM_BANKSTAT_STATE (w.physBank b.val)) = 0 := State.rd_wr_self _ _ _
  have hother {g : Field} (hg : g.key ≠ (Fld.MEM_BANKSTAT_STATE (w.physBank b.val)).key) := hwr.1 g (by simpa using hg)
  have hfailKey : Fld.MEM_EVT_SWAP_FAIL.key = 0x9200208 * 32 + 1 := rfl
  have hphys3 : (w.wr (Fld.MEM_BANKSTAT_STATE (w.physBank b.val)) 0).physBank b.val = w.physBank b.val :=
    hother (by rw [key_bankPhys, key_bankState]; omega)
  have hretired3 := (hother (g := Fld.MEM_BANKSTAT_STATE x) (by rw [key_bankState, key_bankState]; omega)).trans hretired
  have hfail3 := (hother (g := Fld.MEM_EVT_SWAP_FAIL) (by rw [key_bankState]; omega)).trans hfail
  generalize w.wr (Fld.MEM_BANKSTAT_STATE (w.physBank b.val)) 0 = z at *
  -- The next spare starts.
  obtain ⟨hstate, hflag⟩ := State.startSwap_keeps b.isLt (by rw [hphys3]; exact hsource) hretired3
  have hshow := onlyRegs_showBanks (z.startSwap b.val)
  have hsame4 : SameBanks b.val (z.startSwap b.val) (z.startSwap b.val).showBanks := hshow.1.sameBanks (offBanks_of_mem (by decide)) b.isLt
  have hall := ((hlogged.trans hwr.onlyLogged.2).trans (State.startSwap_sameButLogged z b.val)).trans hshow.onlyLogged.2
  exact ⟨_, hexec, ((hshow.1 _ (by decide)).trans hflag).trans hfail3, (hsame4.state x).trans hstate,
    hall.sameButYield.cells.trans heq.cells, hall.sameButYield.engines.trans heq.engines⟩

end Sys2Proof.Machine

open Sys2Proof Sys2Proof.Machine

/-- Settles O17, command by command; a window of grants by the chain of its grants. -/
theorem memoryCommands : Obligations.MemoryCommands := by
  unfold Obligations.MemoryCommands
  intro s
  refine ⟨exec_dramTempChange_spec s, exec_targetedRowRefresh_spec s, fun reqs => ?window, fun u hu => ?clear, fun u b n hu hb hphys x hx => ?start,
    fun u b n hu hb => ?refused, fun b n hb hauto hn hphys x hx => exec_bankSwapStart_own s hb hauto hn hphys hx,
    fun b x hx hne _ => exec_bankSwapSwitch_spec s hx hne, fun b h => exec_bankSwapSwitch_of_none h,
    fun b q hnone hswap => exec_sramUncorrectable_noSpare s b q hnone hswap, fun b q x hx hphys => exec_sramUncorrectable_swaps s b q hx hphys,
    fun b q n k hcell => exec_sramUncorrectable_sample s b q n k hcell, fun b q what x hx hne => exec_sramUncorrectable_inTarget s b q what hx hne⟩
  case window =>
    obtain ⟨t, hexec, hleft, hrows, hto, hshed, h3, h2, hregs, heq⟩ := exec_shedWindow_spec s reqs
    have hchain := s.window_chain reqs
    have hall := s.windowStart_left reqs
    refine ⟨t, hexec, ?grants, ?shedding, hshed, h3, h2, hregs, heq⟩
    case shedding =>
      rw [hto]
      split_ifs <;> decide
    rw [hleft, hrows, ← hall]
    refine ⟨hchain.sublist.map _, ?_, fun hcad => ?_, fun hcad => ?_, s.window_c1_served reqs, fun g _ _ => ?_, fun g _ f _ _ => ?_, hchain.row_le,
      fun g hg a hres hopens hrow => ?_⟩
    · simpa only [List.countP_eq_length_filter] using s.window_dram_le reqs
    · refine hchain.filter_eq fun g hg hserves => ?_
      obtain ⟨hres, hcls⟩ : g.res ≠ .dram ∧ g.cls = .c3 := by simpa using hg
      rcases hserves with hc1 | hdram | ⟨-, ⟨hc2, -⟩ | ⟨-, hlt⟩⟩
      · rw [hcls] at hc1
        cases hc1
      · exact hres hdram
      · rw [hcls] at hc2
        cases hc2
      · omega
    · refine hchain.filter_eq fun g hg hserves => ?_
      obtain ⟨hres, hcls⟩ : g.res ≠ .dram ∧ g.cls = .c2 := by simpa using hg
      rcases hserves with hc1 | hdram | ⟨-, ⟨-, hlt⟩ | ⟨hc3, -⟩⟩
      · rw [hcls] at hc1
        cases hc1
      · exact hres hdram
      · omega
      · rw [hcls] at hc3
        cases hc3
    · simpa only [List.countP_eq_length_filter] using hchain.port_le (s.portOf g)
    · simpa only [List.countP_eq_length_filter] using hchain.bank_le f (s.granuleBank g)
    · exact (hchain.blocked hg (by rw [activates, if_pos hres, hopens]) hrow).1
  case clear =>
    obtain ⟨hzero, hregs, heq⟩ := s.qosCntClr_spec
    exact ⟨_, congrArg Host.Outcome.next (State.asWriter_of s _ hu), hzero _ (by simp [qosCounters]), hzero _ (by simp [qosCounters]),
      hzero _ (by simp [qosCounters]), hzero _ (by simp [qosCounters]), hregs, heq⟩
  case start =>
    obtain ⟨hstate, htarget, hlogical, hsrc, hbusy, hregs⟩ := State.spareStart_spec hb hphys hx
    exact ⟨_, exec_bankSwapStart_core s hu b n, hstate, htarget, hlogical, hsrc, hbusy, hregs.mono (by simp [swapFields])⟩
  case refused =>
    have hraise := (State.spareStart_refused (s := s) hb).symm ▸ s.onlyLogged_raise Fld.MEM_EVT_INVALID_WR b.toNat
    refine ⟨_, exec_bankSwapStart_core s hu b n, ?_, hraise⟩
    rw [State.spareStart_refused hb]
    exact State.rd_raise_self _ _ _ rfl (by decide)

end

section
/-! PROOFS. What a block decision of C0 and what hosts are told leave of the volley, its cells and the tandem state (R284 to R289, R368 to
R374). -/

namespace Sys2Proof.Machine

/-! ### Registers of the volley and of the module's state -/

/-- The field lies in the blocks SPK and VLY, or in one of the registers that say whether the module is active and may serve. -/
def Field.OfVolley (g : Field) : Prop :=
  g.lsb < 32 ∧ (g.addr < 0x8200000 ∨ g.addr = 0x8900000 ∨ g.addr = 0x8b00000 ∨ g.addr = 0x8b0000c)

/-- The field lies in none of these registers. -/
def Field.OffVolley (f : Field) : Prop :=
  0x8200000 ≤ f.addr ∧ f.lsb < 32 ∧ f.addr ≠ 0x8900000 ∧ f.addr ≠ 0x8b00000 ∧ f.addr ≠ 0x8b0000c

theorem Field.OffVolley.key_ne {f g : Field} (h : f.OffVolley) (hg : g.OfVolley) : g.key ≠ f.key := by
  unfold Field.OffVolley at h
  unfold Field.OfVolley at hg
  unfold Field.key
  omega

theorem Field.OfVolley.untold {g : Field} (hg : g.OfVolley) : Untold g := by
  obtain ⟨hlsb, haddr⟩ := hg
  refine ⟨not_onPage_of_block (by omega) hlsb, ?_, fun i _ => ?_⟩
  · simp only [Field.key, Fld.SEC_SESS_OPEN]
    omega
  · simp only [Field.key, Fld.REC_D_STAT_READING]
    omega

theorem eventFields_offVolley : ∀ f ∈ eventFields, f.OffVolley := by
  unfold Field.OffVolley
  decide

/-! ### What stands beside the volley -/

/-- Cells, image, tandem records and the registers of the volley are as before, and no spoke begins or ends probing. -/
structure Beside (s t : State) : Prop where
  cells : t.cells = s.cells
  image : t.image = s.image
  tnd : t.tnd = s.tnd
  rst : t.rst = s.rst
  probe (n : Nat) : (t.spoke n).probe = (s.spoke n).probe
  regs (g : Field) : g.OfVolley → t.rd g = s.rd g

theorem Beside.refl (s : State) : Beside s s := ⟨rfl, rfl, rfl, rfl, fun _ => rfl, fun _ _ => rfl⟩

theorem Beside.trans {s t u : State} (h : Beside s t) (k : Beside t u) : Beside s u where
  cells := k.cells.trans h.cells
  image := k.image.trans h.image
  tnd := k.tnd.trans h.tnd
  rst := k.rst.trans h.rst
  probe n := (k.probe n).trans (h.probe n)
  regs g hg := (k.regs g hg).trans (h.regs g hg)

theorem beside_foldl {α : Type} {k : State → α → State} (l : List α) (hk : ∀ x ∈ l, ∀ s, Beside s (k s x)) : ∀ s, Beside s (l.foldl k s) := by
  induction l with
  | nil => exact Beside.refl
  | cons x t ih =>
    intro s
    exact (hk x (.head _) s).trans (ih (fun y hy => hk y (.tail _ hy)) _)

theorem beside_ite {s t u : State} (p : Prop) [Decidable p] (h : Beside s t) (k : Beside s u) : Beside s (if p then t else u) := by
  split
  · exact h
  · exact k

theorem beside_wr (s : State) {f : Field} (h : f.OffVolley) (v : Nat) : Beside s (s.wr f v) :=
  ⟨rfl, rfl, rfl, rfl, fun _ => rfl, fun _ hg => State.rd_wr_ne s v (h.key_ne hg)⟩

theorem beside_wrs {l : List (Field × Nat)} (h : ∀ p ∈ l, p.1.OffVolley) (s : State) : Beside s (s.wrs l) := by
  rw [State.wrs_eq_foldl]
  exact beside_foldl l (fun p hp u => beside_wr u (h p hp) p.2) s

theorem State.SameButLogged.beside {s t : State} (h : State.SameButLogged s t) (hregs : ∀ g : Field, g.OfVolley → t.rd g = s.rd g) : Beside s t :=
  ⟨(congrArg State.cells h).trans rfl, (congrArg State.image h).trans rfl, (congrArg State.tnd h).trans rfl, (congrArg State.rst h).trans rfl,
    fun n => (congrArg (fun u => (State.spoke u n).probe) h).trans rfl, hregs⟩

theorem beside_raise (s : State) {f : Field} (h : f.OffVolley) (n : Nat) : Beside s (s.raise f n) :=
  (State.raise_sameButLogged s f n).beside fun g hg => State.rd_raise_ne s f n g (h.key_ne hg) fun x hx =>
    (eventFields_offVolley x hx).key_ne hg

theorem beside_raiseIf (s : State) (b : Bool) {f : Field} (h : f.OffVolley) (n : Nat) : Beside s (s.raiseIf b f n) :=
  beside_ite _ (beside_raise s h n) (Beside.refl s)

theorem Talks.beside {s t : State} (h : Talks s t) : Beside s t := by
  obtain ⟨hparts, -, hregs⟩ := h
  exact ⟨(congrArg State.cells hparts).trans rfl, (congrArg State.image hparts).trans rfl, (congrArg State.tnd hparts).trans rfl,
    (congrArg State.rst hparts).trans rfl, fun n => (congrArg (fun u => (State.spoke u n).probe) hparts).trans rfl, fun g hg => hregs g hg.untold⟩

theorem beside_postEvent (s : State) (f : Nat) (tag : BitVec 32) (b : EventBody) : Beside s (s.postEvent f tag b) :=
  (atFn_postEvent s f tag b).talks.beside

theorem beside_done (s : State) (f : Nat) (x : InFlight) (st : Status) (result detail : Nat) : Beside s (s.done f x st result detail) := by
  obtain ⟨⟨c, htalks, -⟩, -⟩ := s.done_talks f x st result detail
  have hcpl : Beside s (s.withCpl c) := ⟨rfl, rfl, rfl, rfl, fun _ => rfl, fun _ _ => rfl⟩
  exact hcpl.trans htalks.beside

theorem beside_dma (s : State) (f : Nat) (addr : BitVec 64) (size : Nat) (words : List (BitVec 64)) : Beside s (s.dma f addr size words) :=
  ⟨rfl, rfl, rfl, rfl, fun _ => rfl, fun _ _ => rfl⟩

theorem beside_setSpoke (s : State) (n : Nat) {k : Spoke → Spoke} (hk : ∀ p, (k p).probe = p.probe) : Beside s (s.setSpoke n k) := by
  refine ⟨rfl, rfl, rfl, rfl, fun i => ?_, fun _ _ => rfl⟩
  by_cases hi : i = n
  · subst hi
    rw [State.setSpoke_spoke_self, hk]
  · rw [State.setSpoke_spoke_ne _ _ _ hi]

theorem beside_setEng (s : State) (e : Nat) (k : Engine → Engine) : Beside s (s.setEng e k) := ⟨rfl, rfl, rfl, rfl, fun _ => rfl, fun _ _ => rfl⟩

theorem beside_setLp (s : State) (n : Nat) (k : LpChan → LpChan) : Beside s (s.setLp n k) := ⟨rfl, rfl, rfl, rfl, fun _ => rfl, fun _ _ => rfl⟩

theorem beside_setRec (s : State) (d : Nat) (k : RecDef → RecDef) : Beside s (s.setRec d k) := ⟨rfl, rfl, rfl, rfl, fun _ => rfl, fun _ _ => rfl⟩

theorem beside_setChan (s : State) (n : Nat) (k : AdcChan → AdcChan) : Beside s (s.setChan n k) := ⟨rfl, rfl, rfl, rfl, fun _ => rfl, fun _ _ => rfl⟩

theorem beside_c0 (s : State) (x : C0Unit) : Beside s { s with c0 := x } := ⟨rfl, rfl, rfl, rfl, fun _ => rfl, fun _ _ => rfl⟩

/-! ### Block decisions of C0 -/

theorem offVolley_blkSrc {c : Nat} (hc : c < 8) : (Fld.LPW_BLK_SRC_SRC c).OffVolley ∧ (Fld.LPW_BLK_SRC_REASON c).OffVolley ∧
    (Fld.LPW_BLK_TS_TB3_NS c).OffVolley ∧ (Fld.LPW_BLK_SRC_CELL_ID c).OffVolley := by
  simp only [Field.OffVolley, Fld.LPW_BLK_SRC_SRC, Fld.LPW_BLK_SRC_REASON, Fld.LPW_BLK_TS_TB3_NS, Fld.LPW_BLK_SRC_CELL_ID]
  omega

theorem beside_recordSources (s : State) (src : List Source) (new : Bool) {c : Nat} (hc : c < 8) : Beside s (s.recordSources src new c) := by
  obtain ⟨hsrc, hreason, hts, hcell⟩ := offVolley_blkSrc hc
  unfold State.recordSources
  dsimp only
  split
  · exact Beside.refl s
  · have hfirst (u : State) (prev id : Nat) : Beside u (if bitOf prev 0 = true then u else u.wr (Fld.LPW_BLK_SRC_CELL_ID c) id) :=
      beside_ite _ (Beside.refl u) (beside_wr u hcell id)
    have hmid (u : State) (a b d : Nat) (p : Bool) : Beside u (if new = true then u.wrs [(Fld.LPW_BLK_SRC_REASON c, a), (Fld.LPW_BLK_TS_TB3_NS c, b)]
        else if p = true then u.wr (Fld.LPW_BLK_SRC_REASON c) d else u) := by
      split
      · exact beside_wrs (by simp [hreason, hts]) u
      · exact beside_ite _ (beside_wr u hreason d) (Beside.refl u)
    split
    · exact ((beside_wr s hsrc _).trans (hmid _ _ _ _ _)).trans (hfirst _ _ _)
    · exact (beside_wr s hsrc _).trans (hmid _ _ _ _ _)

theorem beside_refuseReleases (s : State) (m : BitVec 8) : Beside s (s.refuseReleases m) :=
  beside_ite _ (Beside.refl s) ⟨rfl, rfl, rfl, rfl, fun _ => rfl, fun _ _ => rfl⟩

theorem beside_c0Lower (s : State) (m : BitVec 8) (reason : Nat) : Beside s (s.c0Lower m reason) :=
  beside_foldl _ (fun _ _ u => beside_ite _ (Beside.refl u) (beside_setEng u _ _)) s

theorem beside_c0Event (s : State) (m : BitVec 8) (reason : Nat) : Beside s (s.c0Event m reason) :=
  beside_foldl _ (fun _ _ u => beside_ite _ (Beside.refl u) (beside_setEng u _ _)) s

theorem beside_postScoped (s : State) (mask : BitVec 8) (b : EventBody) : Beside s (s.postScoped mask b) :=
  beside_foldl _ (fun f _ u => beside_ite _ (beside_postEvent u f 0 b) (Beside.refl u)) s

theorem beside_sendBlock (s : State) (n : Nat) (mask : BitVec 8) (reason : Nat) : Beside s (s.sendBlock n mask reason) := by
  unfold State.sendBlock
  dsimp only
  split
  · exact beside_setSpoke s n fun _ => rfl
  · exact beside_setSpoke s n fun _ => rfl

theorem beside_sendBlocks (s : State) (mask : BitVec 8) (reason : Nat) : Beside s (s.sendBlocks mask reason) :=
  beside_ite _ (Beside.refl s) (beside_foldl _ (fun n _ u => beside_ite _ (beside_sendBlock u n mask reason) (Beside.refl u)) s)

theorem offVolley_lpStat {n : Nat} (hn : n < 16) : (Fld.LPW_LP_STAT_OUT n).OffVolley ∧ (Fld.LPW_LP_STAT_MASKED n).OffVolley ∧
    (Fld.LPW_LP_STAT_IL_HOLD n).OffVolley ∧ (Fld.LPW_LP_STAT_FROZEN n).OffVolley := by
  simp only [Field.OffVolley, Fld.LPW_LP_STAT_OUT, Fld.LPW_LP_STAT_MASKED, Fld.LPW_LP_STAT_IL_HOLD, Fld.LPW_LP_STAT_FROZEN]
  omega

theorem beside_lpShow (s : State) (outs : List Bool) {n : Nat} (hn : n < 16) : Beside s (s.lpShow outs n) := by
  obtain ⟨-, hmasked, hhold, hfrozen⟩ := offVolley_lpStat hn
  exact (beside_setLp s n _).trans (beside_wrs (by simp [hmasked, hhold, hfrozen]) _)

theorem beside_lpPulses (s : State) (outs : List Bool) : Beside s (s.lpPulses outs) := ⟨rfl, rfl, rfl, rfl, fun _ => rfl, fun _ _ => rfl⟩

theorem beside_lpUpdate (s : State) : Beside s s.lpUpdate := by
  have hlevel : Beside s (if s.lpFrozen = true then s
      else (List.range 16).foldl (fun s n => s.setLp n (fun x => { x with level := s.lpLevel n })) s) :=
    beside_ite _ (Beside.refl s) (beside_foldl _ (fun n _ u => beside_setLp u n _) s)
  refine ((hlevel.trans (beside_lpPulses _ _)).trans (beside_foldl _ (fun n hn u => beside_lpShow u _ (List.mem_range.1 hn)) _)).trans
    (beside_foldl _ (fun n hn u => ?_) _)
  exact beside_wr u (offVolley_lpStat (List.mem_range.1 hn)).1 _

theorem beside_recBlock (s : State) (mask : BitVec 8) : Beside s (s.recBlock mask) :=
  beside_foldl _ (fun d _ u => beside_ite _ (beside_setRec u d _) (Beside.refl u)) s

theorem beside_adcNext (s : State) (k ts : Nat) : Beside s (s.adcNext k ts) := by
  unfold State.adcNext
  dsimp only
  split
  · exact beside_ite _ (Beside.refl s) (beside_setChan s k _)
  · split
    · exact beside_ite _ (Beside.refl s) (beside_setChan s k _)
    · exact Beside.refl s

theorem beside_adcCatchUp (s : State) (k : Nat) : Beside s (s.adcCatchUp k) :=
  beside_foldl _ (fun _ _ u => beside_ite _ (beside_adcNext u k _) (Beside.refl u)) s

theorem beside_urgDrop (s : State) {k : Nat} (hk : k < 28) : Beside s (s.urgDrop k) := by
  have hcnt : (Fld.ADC_CH_CNT_URG_DROP k).OffVolley := by
    simp only [Field.OffVolley, Fld.ADC_CH_CNT_URG_DROP]
    omega
  exact (beside_wr s hcnt _).trans (beside_raise _ (by unfold Field.OffVolley; decide) _)

theorem beside_adcUrgent (s : State) {k : Nat} (hk : k < 28) : Beside s (s.adcUrgent k) := by
  unfold State.adcUrgent
  dsimp only
  split
  · exact Beside.refl s
  · exact (beside_adcCatchUp s k).trans (beside_ite _ (beside_urgDrop _ hk) (beside_setChan _ k _))

theorem beside_adcBlocked (s : State) (mask : BitVec 8) : Beside s (s.adcBlocked mask) := by
  unfold State.adcBlocked
  split
  · exact Beside.refl s
  · exact beside_foldl _ (fun k hk u => beside_adcUrgent u (List.mem_range.1 hk)) s

theorem blkFields_offVolley : ∀ f ∈ [Fld.LPW_BLK_EVT_REL_REFUSED, Fld.LPW_BLK_REL_REL, Fld.LPW_BLK_STAT_BLOCKED, Fld.LPW_BLK_EVT_BLOCK,
    Fld.LPW_CNT_BLOCK_CNT], f.OffVolley := by
  unfold Field.OffVolley
  decide

theorem beside_blockDecision (s : State) (src : List Source) : Beside s (s.blockDecision src) := by
  have hoff := blkFields_offVolley
  simp only [List.mem_cons, List.not_mem_nil, or_false, forall_eq_or_imp, forall_eq] at hoff
  obtain ⟨hrefused, hrel, hblocked, hevt, hcnt⟩ := hoff
  have hrecorded (u : State) (f : Nat → Bool) : Beside u ((List.range 8).foldl (fun s c => s.recordSources src (f c) c) u) :=
    beside_foldl _ (fun c hc u => beside_recordSources u src (f c) (List.mem_range.1 hc)) u
  have hrefuse {u : State} (x : C0Unit) (b : Bool) (d v : Nat) (m : BitVec 8) (h : Beside s u) :
      Beside s ((((({ u with c0 := x } : State).raiseIf b Fld.LPW_BLK_EVT_REL_REFUSED d).wr Fld.LPW_BLK_REL_REL v).refuseReleases m)) :=
    (((h.trans (beside_c0 u x)).trans (beside_raiseIf _ b hrefused d)).trans (beside_wr _ hrel v)).trans (beside_refuseReleases _ m)
  have hlower {u : State} {p : Prop} [Decidable p] (m : BitVec 8) (r : Nat) (h : Beside s u) : Beside s (if p then u else u.c0Lower m r) :=
    beside_ite _ h (h.trans (beside_c0Lower u m r))
  have hblock {u : State} (x : C0Unit) (v : Nat) (h : Beside s u) : Beside s (({ u with c0 := x } : State).wr Fld.LPW_BLK_STAT_BLOCKED v) :=
    (h.trans (beside_c0 u x)).trans (beside_wr _ hblocked v)
  have hnews {u : State} {p : Prop} [Decidable p] (d r : Nat) (m : BitVec 8) (b : EventBody) (h : Beside s u) :
      Beside s (if p then u else (((u.raise Fld.LPW_BLK_EVT_BLOCK d).bump Fld.LPW_CNT_BLOCK_CNT).c0Event m r).postScoped m b) :=
    beside_ite _ h ((((h.trans (beside_raise u hevt d)).trans (beside_wr _ hcnt _)).trans (beside_c0Event _ m r)).trans (beside_postScoped _ m b))
  have hsend {u : State} (m : BitVec 8) (r : Nat) (h : Beside s u) : Beside s (u.sendBlocks m r).lpUpdate :=
    (h.trans (beside_sendBlocks u m r)).trans (beside_lpUpdate _)
  have hout {u : State} {p : Prop} [Decidable p] (o : BitVec 8) (h : Beside s u) : Beside s (if p then u else (u.recBlock o).adcBlocked o) :=
    beside_ite _ h ((h.trans (beside_recBlock u o)).trans (beside_adcBlocked _ o))
  unfold State.blockDecision
  dsimp only
  split
  · exact hrefuse _ _ _ _ _ (hrecorded _ _)
  · exact hout _ (hsend _ _ (hnews _ _ _ _ (hblock _ _ (hlower _ _ (hrefuse _ _ _ _ _ (hrecorded _ _))))))

end Sys2Proof.Machine

end

section
/-! PROOFS. What writes, point responses, a new range and a new place leave of the cells' returns (R131, R139 to R141, R153 to R155). -/

namespace Sys2Proof.Machine

/-! ### What stays of a cell, and of the counters of returns -/

/-- What the last return gave, the link state and the places of the last returns are the same. -/
structure Cell.SameRecord (x y : Cell) : Prop where
  outcome : y.outcome = x.outcome
  sid : y.sid = x.sid
  vkey : y.vkey = x.vkey
  cstate : y.cstate = x.cstate
  sok : y.sok = x.sok
  blk : y.blk = x.blk
  fault : y.fault = x.fault
  sampleOk : y.sampleOk = x.sampleOk
  dropped : y.dropped = x.dropped
  lstate : y.lstate = x.lstate
  last16 : y.last16 = x.last16

theorem Cell.SameRecord.refl (x : Cell) : Cell.SameRecord x x := ⟨rfl, rfl, rfl, rfl, rfl, rfl, rfl, rfl, rfl, rfl, rfl⟩

theorem Cell.SameRecord.trans {x y z : Cell} (h : Cell.SameRecord x y) (k : Cell.SameRecord y z) : Cell.SameRecord x z where
  outcome := k.outcome.trans h.outcome
  sid := k.sid.trans h.sid
  vkey := k.vkey.trans h.vkey
  cstate := k.cstate.trans h.cstate
  sok := k.sok.trans h.sok
  blk := k.blk.trans h.blk
  fault := k.fault.trans h.fault
  sampleOk := k.sampleOk.trans h.sampleOk
  dropped := k.dropped.trans h.dropped
  lstate := k.lstate.trans h.lstate
  last16 := k.last16.trans h.last16

/-- What the last return gave is the same, but for the sample of a cell that is dropped; an admitted cell stays admitted. -/
structure Cell.SameReturn (x y : Cell) : Prop where
  outcome : y.outcome = x.outcome
  sid : y.sid = x.sid
  vkey : y.vkey = x.vkey
  cstate : y.cstate = x.cstate
  sok : y.sok = x.sok
  blk : y.blk = x.blk
  fault : y.fault = x.fault
  sample : y.sampleOk = x.sampleOk ∧ y.dropped = x.dropped ∨ y.sampleOk = false ∧ y.dropped = true
  admitted : x.lstate.admitted? = true → y.lstate.admitted? = true

theorem Cell.SameRecord.sameReturn {x y : Cell} (h : Cell.SameRecord x y) : Cell.SameReturn x y :=
  ⟨h.outcome, h.sid, h.vkey, h.cstate, h.sok, h.blk, h.fault, .inl ⟨h.sampleOk, h.dropped⟩, fun ha => by rw [h.lstate]; exact ha⟩

theorem Cell.SameReturn.trans {x y z : Cell} (h : Cell.SameReturn x y) (k : Cell.SameReturn y z) : Cell.SameReturn x z where
  outcome := k.outcome.trans h.outcome
  sid := k.sid.trans h.sid
  vkey := k.vkey.trans h.vkey
  cstate := k.cstate.trans h.cstate
  sok := k.sok.trans h.sok
  blk := k.blk.trans h.blk
  fault := k.fault.trans h.fault
  sample := by
    rcases k.sample with ⟨hok, hdrop⟩ | hgone
    · rw [hok, hdrop]
      exact h.sample
    · exact .inr hgone
  admitted ha := k.admitted (h.admitted ha)

/-- The field is VOLLEY, the state of the module, or a counter that returns count in. -/
def Field.CountsReturns (g : Field) : Prop :=
  g.lsb = 0 ∧ (g.addr % 256 = 0x1c ∧ g.addr < 0x8100000 ∨ g.addr = 0x8100024 ∨ g.addr = 0x8100038 ∨ g.addr = 0x810003c ∨ g.addr = 0x8100040 ∨
    g.addr = 0x8b0000c)

theorem Field.CountsReturns.ofVolley {g : Field} (h : g.CountsReturns) : g.OfVolley := by
  unfold Field.CountsReturns at h
  unfold Field.OfVolley
  omega

theorem Field.CountsReturns.key_ne {f g : Field} (hg : g.CountsReturns) (hf : f.lsb < 32 ∧ ¬ f.CountsReturns) : g.key ≠ f.key := by
  unfold Field.CountsReturns at *
  unfold Field.key
  omega

/-- Every cell is related to what it was, the image and the counters of returns stay. -/
structure Keeps (R : Cell → Cell → Prop) (s t : State) : Prop where
  cells (c : Nat) : R (s.cell c) (t.cell c)
  image : t.image = s.image
  regs (g : Field) : g.CountsReturns → t.rd g = s.rd g

abbrev KeepsRecord : State → State → Prop := Keeps Cell.SameRecord
abbrev KeepsReturn : State → State → Prop := Keeps Cell.SameReturn

theorem KeepsRecord.refl (s : State) : KeepsRecord s s := ⟨fun c => .refl (s.cell c), rfl, fun _ _ => rfl⟩

theorem KeepsRecord.trans {s t u : State} (h : KeepsRecord s t) (k : KeepsRecord t u) : KeepsRecord s u :=
  ⟨fun c => (h.cells c).trans (k.cells c), k.image.trans h.image, fun g hg => (k.regs g hg).trans (h.regs g hg)⟩

theorem KeepsReturn.trans {s t u : State} (h : KeepsReturn s t) (k : KeepsReturn t u) : KeepsReturn s u :=
  ⟨fun c => (h.cells c).trans (k.cells c), k.image.trans h.image, fun g hg => (k.regs g hg).trans (h.regs g hg)⟩

theorem KeepsRecord.keepsReturn {s t : State} (h : KeepsRecord s t) : KeepsReturn s t :=
  ⟨fun c => (h.cells c).sameReturn, h.image, h.regs⟩

theorem KeepsReturn.refl (s : State) : KeepsReturn s s := (KeepsRecord.refl s).keepsReturn

theorem Beside.cell {s t : State} (h : Beside s t) (c : Nat) : t.cell c = s.cell c := by
  unfold State.cell
  rw [h.cells]

theorem Beside.keepsRecord {s t : State} (h : Beside s t) : KeepsRecord s t := by
  refine ⟨fun c => ?_, h.image, fun g hg => h.regs g hg.ofVolley⟩
  rw [h.cell]
  exact .refl _

theorem keepsRecord_ite {s t u : State} {p : Prop} [Decidable p] (h : KeepsRecord s t) (k : KeepsRecord s u) :
    KeepsRecord s (if p then t else u) := by
  split
  · exact h
  · exact k

theorem keepsReturn_ite {s t u : State} {p : Prop} [Decidable p] (h : KeepsReturn s t) (k : KeepsReturn s u) :
    KeepsReturn s (if p then t else u) := by
  split
  · exact h
  · exact k

theorem keepsRecord_foldl {α : Type} {k : State → α → State} (hk : ∀ s x, KeepsRecord s (k s x)) (l : List α) :
    ∀ s, KeepsRecord s (l.foldl k s) := by
  induction l with
  | nil => exact KeepsRecord.refl
  | cons x t ih => exact fun s => (hk s x).trans (ih _)

/-! ### Single changes -/

theorem keepsRecord_wr (s : State) {f : Field} (h : f.lsb < 32 ∧ ¬ f.CountsReturns) (v : Nat) : KeepsRecord s (s.wr f v) :=
  ⟨fun c => .refl (s.cell c), rfl, fun _ hg => State.rd_wr_ne s v (hg.key_ne h)⟩

theorem keepsRecord_wrs {l : List (Field × Nat)} (h : ∀ p ∈ l, p.1.lsb < 32 ∧ ¬ p.1.CountsReturns) (s : State) : KeepsRecord s (s.wrs l) := by
  induction l generalizing s with
  | nil => exact KeepsRecord.refl s
  | cons p t ih => exact (keepsRecord_wr s (h p (.head _)) _).trans (ih (fun q hq => h q (.tail _ hq)) _)

theorem keepsRecord_raise (s : State) {f : Field} (h : f.lsb < 32 ∧ ¬ f.CountsReturns) (n : Nat) : KeepsRecord s (s.raise f n) := by
  refine ⟨fun c => ?_, State.raise_image s f n, fun g hg => State.rd_raise_ne s f n g (hg.key_ne h) fun x hx =>
    (eventFields_offVolley x hx).key_ne hg.ofVolley⟩
  rw [State.raise_cell]
  exact .refl _

theorem keepsRecord_raiseIf (s : State) (b : Bool) {f : Field} (h : f.lsb < 32 ∧ ¬ f.CountsReturns) (n : Nat) : KeepsRecord s (s.raiseIf b f n) :=
  keepsRecord_ite (keepsRecord_raise s h n) (KeepsRecord.refl s)

theorem keepsRecord_setSpoke (s : State) (n : Nat) (k : Spoke → Spoke) : KeepsRecord s (s.setSpoke n k) :=
  ⟨fun c => .refl (s.cell c), rfl, fun _ _ => rfl⟩

theorem keepsRecord_setArm (s : State) (a : Nat) (k : Arm → Arm) : KeepsRecord s (s.setArm a k) := ⟨fun c => .refl (s.cell c), rfl, fun _ _ => rfl⟩

/-- A change of one cell relates every cell to what it was. -/
theorem keeps_setCell {R : Cell → Cell → Prop} (hR : ∀ x, R x x) (s : State) (c : Nat) {k : Cell → Cell} (hk : R (s.cell c) (k (s.cell c))) :
    Keeps R s (s.setCell c k) := by
  refine ⟨fun d => ?_, rfl, fun _ _ => rfl⟩
  by_cases hd : d = c
  · subst hd
    rw [State.setCell_cell_self]
    exact hk
  · rw [State.setCell_cell_ne _ _ _ hd]
    exact hR _

theorem keepsRecord_setCell (s : State) (c : Nat) {k : Cell → Cell} (hk : Cell.SameRecord (s.cell c) (k (s.cell c))) :
    KeepsRecord s (s.setCell c k) := keeps_setCell Cell.SameRecord.refl s c hk

theorem keepsReturn_setCell (s : State) (c : Nat) {k : Cell → Cell} (hk : Cell.SameReturn (s.cell c) (k (s.cell c))) :
    KeepsReturn s (s.setCell c k) := keeps_setCell (fun x => (Cell.SameRecord.refl x).sameReturn) s c hk

/-! ### Entries that become due -/

theorem keepsRecord_dueReq (s : State) (c op point : Nat) (wtag : BitVec 6) (v : BitVec 40) : KeepsRecord s (s.dueReq c op point wtag v) :=
  keepsRecord_setSpoke s _ _

theorem keepsRecord_dueBack (s : State) (c point : Nat) : KeepsRecord s (s.dueBack c point) := keepsRecord_setSpoke s _ _

theorem keepsRecord_due (s : State) (n : Nat) (i : ServeItem) : KeepsRecord s (s.due n i) := keepsRecord_setSpoke s n _

theorem keepsRecord_dropReqs (s : State) (c : Nat) : KeepsRecord s (s.dropReqs c) := keepsRecord_setSpoke s _ _

theorem keepsRecord_dropBacks (s : State) (c : Nat) : KeepsRecord s (s.dropBacks c) :=
  (keepsRecord_setCell s c ⟨rfl, rfl, rfl, rfl, rfl, rfl, rfl, rfl, rfl, rfl, rfl⟩).trans (keepsRecord_setSpoke _ _ _)

theorem keepsRecord_adjustAtGc (s : State) (c : Nat) : KeepsRecord s (s.adjustAtGc c) := by
  unfold State.adjustAtGc
  dsimp only
  split
  · exact keepsRecord_due s _ _
  · exact KeepsRecord.refl s

theorem keepsRecord_adjust (s : State) (c : Nat) : KeepsRecord s (s.adjust c) :=
  ((keepsRecord_setCell s c ⟨rfl, rfl, rfl, rfl, rfl, rfl, rfl, rfl, rfl, rfl, rfl⟩).trans (keepsRecord_due _ _ _)).trans
    (keepsRecord_adjustAtGc _ c)

theorem keepsRecord_retail (s : State) (n : Nat) : KeepsRecord s (s.retail n) := by
  refine keepsRecord_foldl (fun u p => ?_) _ s
  split
  · exact KeepsRecord.refl u
  · have hset (j : Option Nat) : KeepsRecord u (u.setCell p.1 (fun x => { x with tailPos := j })) :=
      keepsRecord_setCell u p.1 ⟨rfl, rfl, rfl, rfl, rfl, rfl, rfl, rfl, rfl, rfl, rfl⟩
    exact keepsRecord_ite (hset _) ((hset _).trans (keepsRecord_adjust _ _))

theorem keepsRecord_postCell (s : State) (c kind : Nat) : KeepsRecord s (s.postCell c kind) :=
  keepsRecord_foldl (fun u f => keepsRecord_ite (beside_postEvent u f 0 _).keepsRecord (KeepsRecord.refl u)) _ s

theorem spokeShown_off (n : Nat) : ∀ f ∈ [Fld.SPK_STAT_ADMITTED n, Fld.SPK_STAT_RIDER_GEAR n, Fld.SPK_STAT_TX_AWAKE n, Fld.SPK_STAT_RX_AWAKE n],
    f.lsb < 32 ∧ ¬ f.CountsReturns := by
  simp [Field.CountsReturns, Fld.SPK_STAT_ADMITTED, Fld.SPK_STAT_RIDER_GEAR, Fld.SPK_STAT_TX_AWAKE, Fld.SPK_STAT_RX_AWAKE]

theorem keepsRecord_showSpoke (s : State) (n : Nat) : KeepsRecord s (s.showSpoke n) := by
  have hoff := spokeShown_off n
  simp only [List.mem_cons, List.not_mem_nil, or_false, forall_eq_or_imp, forall_eq] at hoff
  obtain ⟨hadm, hgear, htx, hrx⟩ := hoff
  exact ((keepsRecord_wrs (by simp [hadm, hgear]) s).trans (keepsRecord_wrs (by simp [htx, hrx]) _)).trans (keepsRecord_setSpoke _ n _)

theorem keepsRecord_showCells (s : State) : KeepsRecord s s.showCells := by
  have hdmax : Fld.VLY_DMAX_DMAX.lsb < 32 ∧ ¬ Fld.VLY_DMAX_DMAX.CountsReturns := by unfold Field.CountsReturns; decide
  have hcells : Fld.VLY_DMAX_CELLS.lsb < 32 ∧ ¬ Fld.VLY_DMAX_CELLS.CountsReturns := by unfold Field.CountsReturns; decide
  unfold State.showCells
  exact keepsRecord_wrs (by simp [hdmax, hcells]) s

theorem keepsRecord_showArm (s : State) (a : Nat) : KeepsRecord s (s.showArm a) := keepsRecord_setArm s a _

theorem keepsRecord_showBound (s : State) (old new : Option (Nat × Nat)) : KeepsRecord s (s.showBound old new) := by
  have harm (u : State) (m : Option (Nat × Nat)) : KeepsRecord u (match m with | some (a, _) => u.showArm a | none => u) := by
    split
    · exact keepsRecord_showArm u _
    · exact KeepsRecord.refl u
  exact (harm s old).trans (harm _ new)

/-! ### Posted writes (R139 to R141, R160) -/

theorem keepsRecord_writeFailed (s : State) (c : Nat) (w : PostedWrite) (cause : Nat) : KeepsRecord s (s.writeFailed c w cause) := by
  have hfail : KeepsRecord s (s.raise Fld.VLY_EVT_WR_FAIL c) := keepsRecord_raise s (by unfold Field.CountsReturns; decide) c
  have hdrop : (Fld.HIF_PORT_FLR_DROP_CNT (w.fn / 128)).lsb < 32 ∧ ¬ (Fld.HIF_PORT_FLR_DROP_CNT (w.fn / 128)).CountsReturns := by
    simp only [Field.CountsReturns, Fld.HIF_PORT_FLR_DROP_CNT]
    omega
  unfold State.writeFailed
  dsimp only
  split
  · exact hfail
  · split
    · exact hfail.trans (keepsRecord_wr _ hdrop _)
    · exact hfail.trans (beside_postEvent _ _ _ _).keepsRecord

theorem keepsRecord_startWrite (s : State) (c : Nat) : KeepsRecord s (s.startWrite c) := by
  have hgo {x : Cell} (hx : Cell.SameRecord (s.cell c) x) (op point : Nat) (tag : BitVec 6) (v : BitVec 40) :
      KeepsRecord s ((s.setCell c (fun _ => x)).dueReq c op point tag v) := (keepsRecord_setCell s c hx).trans (keepsRecord_dueReq _ _ _ _ _ _)
  unfold State.startWrite
  dsimp only
  split
  · exact KeepsRecord.refl s
  · split
    · split
      · refine hgo ?_ _ _ _ _
        exact ⟨rfl, rfl, rfl, rfl, rfl, rfl, rfl, rfl, rfl, rfl, rfl⟩
      · split
        · refine hgo ?_ _ _ _ _
          exact ⟨rfl, rfl, rfl, rfl, rfl, rfl, rfl, rfl, rfl, rfl, rfl⟩
        · exact KeepsRecord.refl s
    · split
      · refine hgo ?_ _ _ _ _
        exact ⟨rfl, rfl, rfl, rfl, rfl, rfl, rfl, rfl, rfl, rfl, rfl⟩
      · exact KeepsRecord.refl s

theorem keepsRecord_endWrite (s : State) (c : Nat) : KeepsRecord s (s.endWrite c) :=
  (((keepsRecord_setCell s c ⟨rfl, rfl, rfl, rfl, rfl, rfl, rfl, rfl, rfl, rfl, rfl⟩).trans (keepsRecord_dropReqs _ c)).trans
    (keepsRecord_dropBacks _ c)).trans (keepsRecord_startWrite _ c)

theorem keepsRecord_failWrites (s : State) (c cause : Nat) : KeepsRecord s (s.failWrites c cause) :=
  ((((keepsRecord_setCell s c ⟨rfl, rfl, rfl, rfl, rfl, rfl, rfl, rfl, rfl, rfl, rfl⟩).trans (keepsRecord_dropReqs _ c)).trans
    (keepsRecord_dropBacks _ c)).trans (keepsRecord_foldl (fun u w => keepsRecord_writeFailed u c w cause) _ _)).trans (keepsRecord_startWrite _ c)

theorem keepsRecord_failOut (s : State) (c cause : Nat) : KeepsRecord s (s.failOut c cause) := by
  unfold State.failOut
  split
  · exact KeepsRecord.refl s
  · exact ((keepsRecord_writeFailed s c _ cause).trans (keepsRecord_ite
      (keepsRecord_setCell _ c ⟨rfl, rfl, rfl, rfl, rfl, rfl, rfl, rfl, rfl, rfl, rfl⟩) (KeepsRecord.refl _))).trans (keepsRecord_endWrite _ c)

theorem keepsRecord_unknownTag (s : State) (c : Nat) (o : OutWrite) : KeepsRecord s (s.unknownTag c o) := by
  have hset := keepsRecord_setCell s c (k := fun x => { x with out := some { o with unknown := !o.unknown } })
    ⟨rfl, rfl, rfl, rfl, rfl, rfl, rfl, rfl, rfl, rfl, rfl⟩
  exact keepsRecord_ite (hset.trans (keepsRecord_dueReq _ _ _ _ _ _)) (hset.trans (keepsRecord_dueReq _ _ _ _ _ _))

theorem bindDone_off (i j : Nat) : (Fld.VLY_ARMMAP_BIND_DONE i j).lsb < 32 ∧ ¬ (Fld.VLY_ARMMAP_BIND_DONE i j).CountsReturns := by
  simp [Field.CountsReturns, Fld.VLY_ARMMAP_BIND_DONE]

theorem keepsRecord_bindDone (s : State) (c : Nat) (v : BitVec 40) : KeepsRecord s (s.bindDone c v) :=
  ((keepsRecord_setCell s c ⟨rfl, rfl, rfl, rfl, rfl, rfl, rfl, rfl, rfl, rfl, rfl⟩).trans (keepsRecord_wr _ (bindDone_off _ _) _)).trans
    (keepsRecord_showBound _ _ _)

/-- A written point is put into the image as the cell confirmed it; beside that records and counters stay. -/
theorem keepsRecord_writeDone (s : State) (c : Nat) (o : OutWrite) : KeepsRecord (s.imagePut c o.w.point o.w.value) (s.writeDone c o) := by
  unfold State.writeDone
  dsimp only
  split
  · exact (keepsRecord_bindDone _ c _).trans (keepsRecord_endWrite _ c)
  · exact keepsRecord_endWrite _ c

/-! ### Point responses (R131, R137 to R141) -/

/-- Records and counters stay; of the image at most the point that the return carries changes, and to its value. -/
structure TakesPoint (c : Nat) (r : Return) (s t : State) : Prop where
  cells (d : Nat) : Cell.SameRecord (s.cell d) (t.cell d)
  image : t.image = s.image ∨ t.image = (s.imagePut c r.point.val r.value).image ∨ r.pstat ≠ 0
  regs (g : Field) : g.CountsReturns → t.rd g = s.rd g

theorem KeepsRecord.takesPoint {s t : State} (h : KeepsRecord s t) (c : Nat) (r : Return) : TakesPoint c r s t := ⟨h.cells, .inl h.image, h.regs⟩

theorem keepsRecord_pointMissing (s : State) (c : Nat) (q : PointReq) : KeepsRecord s (s.pointMissing c q) := by
  unfold State.pointMissing
  dsimp only
  split
  · exact keepsRecord_dueReq _ _ _ _ _ _
  · split
    · exact keepsRecord_dueBack _ _ _
    · split
      · exact keepsRecord_dueReq _ _ _ _ _ _
      · exact KeepsRecord.refl s

theorem keepsRecord_freshDone (s : State) (c : Nat) (r : FreshRead) (st : Status) (detail : Nat) : KeepsRecord s (s.freshDone c r st detail) := by
  have hset := keepsRecord_setCell s c (k := fun x => { x with fresh := x.fresh.filter (fun y => y != r) })
    ⟨rfl, rfl, rfl, rfl, rfl, rfl, rfl, rfl, rfl, rfl, rfl⟩
  unfold State.freshDone
  dsimp only
  split
  · split
    · exact hset.trans ((beside_dma _ _ _ _ _).trans (beside_done _ _ _ _ _ _)).keepsRecord
    · exact hset
  · exact hset

theorem isReadBack_point {x : Cell} {q : PointReq} {o : OutWrite} (h : isReadBack x q = true) (ho : x.out = some o) : q.point = o.w.point := by
  rw [isReadBack, ho] at h
  simp only [Bool.and_eq_true, beq_iff_eq] at h
  exact h.2

/-- The return of a write confirmed puts into the image what the return itself carries. -/
theorem takesPoint_writeDone (s : State) (c : Nat) (o : OutWrite) (r : Return)
    (h : r.pstat ≠ 0 ∨ (r.point.val = o.w.point ∧ r.value = o.w.value)) : TakesPoint c r s (s.writeDone c o) := by
  have hk := keepsRecord_writeDone s c o
  refine ⟨hk.cells, ?_, hk.regs⟩
  rcases h with hp | ⟨hpoint, hvalue⟩
  · exact .inr (.inr hp)
  · rw [hpoint, hvalue]
    exact .inr (.inl hk.image)

theorem takesPoint_pointAnswer (s : State) (c : Nat) (q : PointReq) (r : Return) : TakesPoint c r s (s.pointAnswer c q r) := by
  have hreq (op point : Nat) (tag : BitVec 6) (v : BitVec 40) : TakesPoint c r s (s.dueReq c op point tag v) :=
    (keepsRecord_dueReq s c op point tag v).takesPoint c r
  have hfail (cause : Nat) : TakesPoint c r s (s.failOut c cause) := (keepsRecord_failOut s c cause).takesPoint c r
  have hrefl : TakesPoint c r s s := (KeepsRecord.refl s).takesPoint c r
  unfold State.pointAnswer
  dsimp only
  split
  next =>
    split
    next => exact hrefl
    next o _ =>
      split
      · exact hreq _ _ _ _
      split
      next hp => exact takesPoint_writeDone s c o r (.inl (by rw [hp]; decide))
      split
      · exact hfail _
      split
      · exact hfail _
      split
      · exact hfail _
      split
      · exact hfail _
      split
      · exact (keepsRecord_unknownTag s c o).takesPoint c r
      · exact hreq _ _ _ _
  split
  next hback =>
    split
    next => exact hrefl
    next o ho =>
      split
      · exact (keepsRecord_dueBack s c _).takesPoint c r
      next hsame =>
        split
        next hvalue =>
          rw [not_or, not_not, not_not] at hsame
          exact takesPoint_writeDone s c o r (.inr ⟨hsame.2.trans (isReadBack_point hback ho), hvalue⟩)
        split
        · exact hfail _
        · exact ((keepsRecord_setCell s c ⟨rfl, rfl, rfl, rfl, rfl, rfl, rfl, rfl, rfl, rfl, rfl⟩).trans
            (keepsRecord_dueReq _ _ _ _ _ _)).takesPoint c r
  split
  · exact hrefl
  split
  · exact (keepsRecord_foldl (fun u f => keepsRecord_freshDone u c f _ _) _ s).takesPoint c r
  split
  · exact (keepsRecord_pointMissing s c q).takesPoint c r
  · exact hrefl

theorem KeepsRecord.volley {s t : State} (h : KeepsRecord s t) : t.volley = s.volley := by
  rw [State.volley, State.volley, h.regs _ (by unfold Field.CountsReturns; decide)]

theorem get_imagePut (s : State) (c p : Nat) (v : BitVec 40) :
    FMap.get ImagePoint.reset (s.imagePut c p v).image (imageKey c p) = ⟨v, true, s.volley.setWidth 16⟩ := FMap.get_set_self _ _ _ _

/-- The awaited answer of the cell is taken from the return. -/
theorem takesPoint_answer (s : State) (c : Nat) (r : Return) :
    TakesPoint c r s (match (s.cell c).answerTo with
      | none => s
      | some q =>
        let s := s.setCell c (fun x => { x with answerTo := none })
        if r.prq then s.pointAnswer c q r else s.pointMissing c q) := by
  have hset := keepsRecord_setCell s c (k := fun x => { x with answerTo := none }) ⟨rfl, rfl, rfl, rfl, rfl, rfl, rfl, rfl, rfl, rfl, rfl⟩
  split
  · exact (KeepsRecord.refl s).takesPoint c r
  next q _ =>
    dsimp only
    split
    · have hans := takesPoint_pointAnswer (s.setCell c (fun x => { x with answerTo := none })) c q r
      exact ⟨fun d => (hset.cells d).trans (hans.cells d), hans.image, fun g hg => (hans.regs g hg).trans (hset.regs g hg)⟩
    · exact (hset.trans (keepsRecord_pointMissing _ c q)).takesPoint c r

/-- What a point response does before an awaited answer is looked at: its value goes to the image and to the reads that wait. -/
def State.pointTaken (s : State) (c : Nat) (r : Return) : State :=
  let s := s.imagePut c r.point r.value
  let s := if r.point = 386 then s.setCell c (fun x => { x with lsb := some r.value.toNat }) else s
  (s.freshOf c r.point).foldl (fun s f => s.freshDone c f .ok 0) s

theorem keepsRecord_pointTaken (s : State) (c : Nat) (r : Return) : KeepsRecord (s.imagePut c r.point.val r.value) (s.pointTaken c r) :=
  (keepsRecord_ite (keepsRecord_setCell _ c ⟨rfl, rfl, rfl, rfl, rfl, rfl, rfl, rfl, rfl, rfl, rfl⟩) (KeepsRecord.refl _)).trans
    (keepsRecord_foldl (fun u f => keepsRecord_freshDone u c f _ _) _ _)

theorem State.pointPart_eq (s : State) (c : Nat) (r : Return) : s.pointPart c r =
    (let s := if r.pstat = 0 then s.pointTaken c r else s
     match (s.cell c).answerTo with
      | none => s
      | some q =>
        let s := s.setCell c (fun x => { x with answerTo := none })
        if r.prq then s.pointAnswer c q r else s.pointMissing c q) := rfl

/-- The point that a return carries: with PSTAT 0 it stands in the image with the volley of receipt (R138). -/
theorem pointPart_spec (s : State) (c : Nat) (r : Return) :
    (∀ d, Cell.SameRecord (s.cell d) ((s.pointPart c r).cell d)) ∧ (∀ g : Field, g.CountsReturns → (s.pointPart c r).rd g = s.rd g) ∧
    (r.pstat = 0 → FMap.get ImagePoint.reset (s.pointPart c r).image (imageKey c r.point.val) = ⟨r.value, true, s.volley.setWidth 16⟩) := by
  rw [State.pointPart_eq]
  dsimp only
  by_cases hp : r.pstat = 0
  · rw [if_pos hp]
    have htaken := keepsRecord_pointTaken s c r
    have hans := takesPoint_answer (s.pointTaken c r) c r
    refine ⟨fun d => (htaken.cells d).trans (hans.cells d), fun g hg => (hans.regs g hg).trans (htaken.regs g hg), fun _ => ?_⟩
    rcases hans.image with himage | himage | hne
    · rw [himage, htaken.image]
      exact get_imagePut s c r.point.val r.value
    · rw [himage, get_imagePut, htaken.volley]
      rfl
    · exact absurd hp hne
  · rw [if_neg hp]
    have hans := takesPoint_answer s c r
    exact ⟨hans.cells, hans.regs, fun h => absurd h hp⟩

/-! ### The use of a return (R131, R143, R149, R173) -/

theorem heldCnt_off (a : Nat) : (Fld.VLY_ARMCNT_HELD_CNT a).lsb < 32 ∧ ¬ (Fld.VLY_ARMCNT_HELD_CNT a).CountsReturns := by
  simp only [Field.CountsReturns, Fld.VLY_ARMCNT_HELD_CNT]
  omega

theorem keepsRecord_countSwitch (s : State) (c : Nat) (sw : BitVec 16) : KeepsRecord s (s.countSwitch c sw) := by
  unfold State.countSwitch
  dsimp only
  split
  · exact keepsRecord_setCell s c ⟨rfl, rfl, rfl, rfl, rfl, rfl, rfl, rfl, rfl, rfl, rfl⟩
  · exact (keepsRecord_ite (keepsRecord_wr s (heldCnt_off _) _) (KeepsRecord.refl s)).trans
      (keepsRecord_setCell _ c ⟨rfl, rfl, rfl, rfl, rfl, rfl, rfl, rfl, rfl, rfl, rfl⟩)

theorem Cell.normal_admitted (x : Cell) : x.normal.admitted? = true := by
  unfold Cell.normal
  split
  · rfl
  split
  · rfl
  split <;> rfl

/-- Lost or found again on its link, an admitted cell stays admitted, and a cell that is not admitted stays what it is. -/
theorem keepsReturn_loss (s : State) (c : Nat) (r : Return) :
    KeepsReturn s (s.loss c r) ∧ ((s.cell c).lstate = .assigned → KeepsRecord s (s.loss c r)) ∧
    ((s.cell c).lstate = .admitted → r.fw = false → KeepsRecord s (s.loss c r)) := by
  unfold State.loss
  dsimp only
  split
  next h =>
    obtain ⟨hadm, -, hfw, -⟩ := h
    refine ⟨keepsReturn_setCell s c ⟨rfl, rfl, rfl, rfl, rfl, rfl, rfl, .inl ⟨rfl, rfl⟩, fun _ => rfl⟩, fun ha => ?_, fun _ hno => ?_⟩
    · rw [ha] at hadm
      cases hadm
    · rw [hno] at hfw
      cases hfw
  split
  next h =>
    refine ⟨(keepsReturn_setCell s c ⟨rfl, rfl, rfl, rfl, rfl, rfl, rfl, .inl ⟨rfl, rfl⟩, fun _ => ?_⟩).trans
      (keepsRecord_startWrite _ c).keepsReturn, fun ha => ?_, fun ha => ?_⟩
    · exact Cell.normal_admitted _
    · rw [ha] at h
      cases h.1
    · rw [ha] at h
      cases h.1
  · exact ⟨KeepsReturn.refl s, fun _ => KeepsRecord.refl s, fun _ _ => KeepsRecord.refl s⟩

/-- What a return gives its cell (R131); of a stale one the sample and its key are not taken. -/
def Cell.taking (x : Cell) (r : Return) (stale : Bool) : Cell :=
  { x with
    cstate := r.cstate, blk := r.blk, sok := r.sok, sid := if stale then x.sid else r.sid, vkey := if stale then x.vkey else r.vkey
    sat := if stale then x.sat else r.sat, sampleOk := !stale && !x.dropped }

/-- A cell that was lost and has 16 returns in place is no longer lost (R149). -/
def Cell.found (x : Cell) : Cell := { x with wasLost := false, lstate := if x.lstate = .lost then { x with wasLost := false }.normal else x.lstate }

theorem State.useReturn_eq (s : State) (c : Nat) (r : Return) (stale : Bool) : s.useReturn c r stale =
    (let t := ((s.setCell c (fun x => x.taking r stale)).countSwitch c r.swcnt).loss c r
     if (t.cell c).wasLost ∧ 16 ≤ (t.cell c).inPlaceRun then t.setCell c Cell.found else t) := rfl

theorem keepsReturn_found (s : State) (c : Nat) : KeepsReturn s (s.setCell c Cell.found) := by
  refine keepsReturn_setCell s c ⟨rfl, rfl, rfl, rfl, rfl, rfl, rfl, .inl ⟨rfl, rfl⟩, fun ha => ?_⟩
  unfold Cell.found
  dsimp only
  split
  · exact Cell.normal_admitted _
  · exact ha

theorem keepsRecord_found {s : State} {c : Nat} (h : (s.cell c).lstate ≠ .lost) : KeepsRecord s (s.setCell c Cell.found) :=
  keepsRecord_setCell s c ⟨rfl, rfl, rfl, rfl, rfl, rfl, rfl, rfl, rfl, if_neg h, rfl⟩

/-- What follows the taking of a return keeps what was taken; of a cell that is not yet admitted, or admitted and well on its link, the
link state too. -/
theorem useReturn_spec (s : State) (c : Nat) (r : Return) (stale : Bool) :
    KeepsReturn (s.setCell c (fun x => x.taking r stale)) (s.useReturn c r stale) ∧
    ((s.cell c).lstate = .assigned ∨ (s.cell c).lstate = .admitted ∧ r.fw = false →
      KeepsRecord (s.setCell c (fun x => x.taking r stale)) (s.useReturn c r stale)) := by
  rw [State.useReturn_eq]
  dsimp only
  have hstate : ((s.setCell c (fun x => x.taking r stale)).cell c).lstate = (s.cell c).lstate := by rw [State.setCell_cell_self]; rfl
  have hswitch := keepsRecord_countSwitch (s.setCell c (fun x => x.taking r stale)) c r.swcnt
  obtain ⟨hloss, hassigned, hadmitted⟩ := keepsReturn_loss ((s.setCell c (fun x => x.taking r stale)).countSwitch c r.swcnt) c r
  have hstate2 := ((hswitch.cells c).lstate).trans hstate
  refine ⟨(hswitch.keepsReturn.trans hloss).trans (keepsReturn_ite (keepsReturn_found _ c) (KeepsReturn.refl _)), fun h => ?_⟩
  have hkeep : KeepsRecord ((s.setCell c (fun x => x.taking r stale)).countSwitch c r.swcnt)
      (((s.setCell c (fun x => x.taking r stale)).countSwitch c r.swcnt).loss c r) := by
    rcases h with h | ⟨h, hfw⟩
    · exact hassigned (hstate2.trans h)
    · exact hadmitted (hstate2.trans h) hfw
  have hlost : ((((s.setCell c (fun x => x.taking r stale)).countSwitch c r.swcnt).loss c r).cell c).lstate ≠ .lost := by
    rw [(hkeep.cells c).lstate, hstate2]
    rcases h with h | ⟨h, -⟩ <;> simp [h]
  exact (hswitch.trans hkeep).trans (keepsRecord_ite (keepsRecord_found hlost) (KeepsRecord.refl _))

/-! ### A new range (R153 to R155) -/

theorem keepsRecord_noteNofit (s u : State) (t : Timeline) : KeepsRecord s (s.noteNofit u t) :=
  ((keepsRecord_raiseIf s _ (by unfold Field.CountsReturns; decide) _).trans
    (keepsRecord_raiseIf _ _ (by unfold Field.CountsReturns; decide) _)).trans
    (keepsRecord_raiseIf _ _ (by unfold Field.CountsReturns; decide) _)

/-- A dropped cell gives no sample; it stays admitted, in the tail or muted. -/
theorem keepsReturn_dropCell (s : State) (c : Nat) : KeepsReturn s (s.dropCell c) := by
  have hraise (u : State) {f : Field} (h : f.lsb < 32 ∧ ¬ f.CountsReturns) (kind : Nat) : KeepsRecord u ((u.raise f c).postCell c kind) :=
    (keepsRecord_raise u h c).trans (keepsRecord_postCell _ c kind)
  have hdrop : KeepsReturn s (s.setCell c (fun x => { x with dropped := true, sampleOk := false, last16 := [], reranges := [] })) :=
    keepsReturn_setCell s c ⟨rfl, rfl, rfl, rfl, rfl, rfl, rfl, .inr ⟨rfl, rfl⟩, id⟩
  have hnoted := hdrop.trans (hraise _ (f := Fld.VLY_EVT_DROP_EXC) (by unfold Field.CountsReturns; decide) 1).keepsReturn
  have hstate (u : State) (l : LState) (hl : l.admitted? = true) : KeepsReturn u (u.setCell c (fun x => { x with lstate := l })) :=
    keepsReturn_setCell u c ⟨rfl, rfl, rfl, rfl, rfl, rfl, rfl, .inl ⟨rfl, rfl⟩, fun _ => hl⟩
  unfold State.dropCell
  dsimp only
  split
  · exact hnoted.trans (hstate _ .exception rfl)
  · refine (hnoted.trans (hstate _ .muted rfl)).trans (KeepsRecord.keepsReturn ?_)
    exact (((keepsRecord_failWrites _ c 7).trans (keepsRecord_due _ _ _)).trans
      (hraise _ (f := Fld.VLY_EVT_SILENCED) (by unfold Field.CountsReturns; decide) 2)).trans (keepsRecord_showSpoke _ _)

/-- Only an admitted cell with two returns out of place or more is given a new range. -/
theorem rerangeCell_of_few {s : State} {c : Nat} (h : (s.cell c).last16.length < 2) : s.rerangeCell c = s := by
  have hfew : (((s.cell c).last16.filter (·.1)).map (·.2)).length < 2 := by
    rw [List.length_map]
    exact (List.length_filter_le _ _).trans_lt h
  unfold State.rerangeCell
  dsimp only
  rw [if_pos (.inl hfew)]

theorem rerangeCell_of_assigned {s : State} {c : Nat} (h : (s.cell c).lstate = .assigned) : s.rerangeCell c = s := by
  unfold State.rerangeCell
  dsimp only
  rw [if_pos (.inr (.inr (by simp [h])))]

theorem keepsReturn_rerangeCell (s : State) (c : Nat) : KeepsReturn s (s.rerangeCell c) := by
  have hnofit {u v : State} (w : State) (tl : Timeline) (h : KeepsReturn u v) : KeepsReturn u (v.noteNofit w tl) :=
    h.trans (keepsRecord_noteNofit v w tl).keepsReturn
  have hdrop {u v : State} (h : KeepsReturn u v) : KeepsReturn u (v.dropCell c) := h.trans (keepsReturn_dropCell v c)
  have hadjust {u v : State} (h : KeepsReturn u v) : KeepsReturn u (v.adjust c) := h.trans (keepsRecord_adjust v c).keepsReturn
  have hshow {u v : State} (h : KeepsReturn u v) : KeepsReturn u v.showCells := h.trans (keepsRecord_showCells v).keepsReturn
  have htail {u v : State} (h : KeepsReturn u v) (n : Nat) : KeepsReturn u ((v.retail n).raise Fld.VLY_EVT_TAIL c) :=
    h.trans ((keepsRecord_retail v n).trans (keepsRecord_raise _ (by unfold Field.CountsReturns; decide) c)).keepsReturn
  have hshift (d : Int) (l : List (BitVec 32)) : KeepsReturn s (s.setCell c (fun x => { x with
      delay2 := x.delay2 + d, last16 := [], reranges := l, rerange := min (x.rerange + 1) 255 })) :=
    keepsReturn_setCell s c ⟨rfl, rfl, rfl, rfl, rfl, rfl, rfl, .inl ⟨rfl, rfl⟩, id⟩
  have hmove {u v : State} (h : KeepsReturn u v) (j : Nat) : KeepsReturn u (v.setCell c (fun x => { x with
      tailPos := some j, lstate := if x.lstate = .admitted then .tail else x.lstate, reranges := [] })) := by
    refine h.trans (keepsReturn_setCell v c ⟨rfl, rfl, rfl, rfl, rfl, rfl, rfl, .inl ⟨rfl, rfl⟩, fun ha => ?_⟩)
    dsimp only
    split
    · rfl
    · exact ha
  unfold State.rerangeCell
  dsimp only
  split
  · exact KeepsReturn.refl s
  split
  · exact hdrop (hnofit _ _ (KeepsReturn.refl s))
  split
  · exact hshow (hadjust (hshift _ _))
  split
  · exact hshow (htail (hadjust (hmove (hshift _ _) _)) _)
  · exact hshow (hdrop (keepsReturn_ite (hnofit _ _ (hshift _ _)) (hshift _ _)))

end Sys2Proof.Machine

end

section
/-! PROOFS. What a burst changes when it locks, before its return is used (R96, R131, R135). -/

namespace Sys2Proof.Machine

/-! ### What the use of a return reads -/

/-- The counters that a used return counts in, and those of misplaced and foreign ones (R157). -/
def returnCounters : List Field := [Fld.VLY_CNT_STALE_CNT, Fld.VLY_CNT_EPOCH_CNT, Fld.VLY_CNT_MISPLACED_CNT]

/-- The registers that say the state of a spoke, and whether the module is a standby (R99, R325). -/
def stateFields (n : Nat) : List Field :=
  [Fld.SPK_CFG_ENABLE n, Fld.SPK_STAT_FENCED n, Fld.SPK_STAT_ADMITTED n, Fld.TND_STAT_STATE, Fld.TND_CFG_ROLE, Fld.SEC_LC_STATE, Fld.SEC_LC_HOLD]

/-- With them the registers that the check of a return reads (R131). -/
def readFields (n : Nat) : List Field :=
  stateFields n ++ [Fld.SPK_STAT_GEAR n, Fld.VLY_NOW2_EPOCH, Fld.VLY_NOW2_SID_NOW, Fld.VLY_NOW_VOLLEY] ++ returnCounters

/-- With them the counter of returns out of place (R114). -/
def burstFields (n : Nat) : List Field := Fld.SPK_CNT_PLACE_CNT n :: readFields n

theorem burstFields_ofVolley {n : Nat} (hn : n < 128) : ∀ g ∈ burstFields n, g.OfVolley := by
  simp [burstFields, readFields, stateFields, returnCounters, Field.OfVolley, Fld.SPK_CNT_PLACE_CNT, Fld.SPK_CFG_ENABLE, Fld.SPK_STAT_FENCED,
    Fld.SPK_STAT_ADMITTED, Fld.SPK_STAT_GEAR, Fld.VLY_NOW2_EPOCH, Fld.VLY_NOW2_SID_NOW, Fld.VLY_NOW_VOLLEY, Fld.TND_STAT_STATE, Fld.TND_CFG_ROLE,
    Fld.SEC_LC_STATE, Fld.SEC_LC_HOLD, Fld.VLY_CNT_STALE_CNT, Fld.VLY_CNT_EPOCH_CNT, Fld.VLY_CNT_MISPLACED_CNT]
  omega

theorem burstFields_ne_lock {n : Nat} (hn : n < 128) : ∀ g ∈ burstFields n, g.key ≠ (Fld.SPK_CNT_LOCK_CNT n).key := by
  simp only [burstFields, readFields, stateFields, returnCounters, List.cons_append, List.nil_append, List.mem_cons, List.not_mem_nil, or_false, forall_eq_or_imp,
    forall_eq, Field.key, Fld.SPK_CNT_PLACE_CNT, Fld.SPK_CNT_LOCK_CNT, Fld.SPK_CFG_ENABLE, Fld.SPK_STAT_FENCED, Fld.SPK_STAT_ADMITTED,
    Fld.SPK_STAT_GEAR, Fld.VLY_NOW2_EPOCH, Fld.VLY_NOW2_SID_NOW, Fld.VLY_NOW_VOLLEY, Fld.TND_STAT_STATE, Fld.TND_CFG_ROLE, Fld.SEC_LC_STATE,
    Fld.SEC_LC_HOLD, Fld.VLY_CNT_STALE_CNT, Fld.VLY_CNT_EPOCH_CNT, Fld.VLY_CNT_MISPLACED_CNT]
  omega

theorem readFields_ne_place {n : Nat} (hn : n < 128) : ∀ g ∈ readFields n, g.key ≠ (Fld.SPK_CNT_PLACE_CNT n).key := by
  simp only [readFields, stateFields, returnCounters, List.cons_append, List.nil_append, List.mem_cons, List.not_mem_nil, or_false, forall_eq_or_imp,
    forall_eq, Field.key, Fld.SPK_CNT_PLACE_CNT, Fld.SPK_CFG_ENABLE, Fld.SPK_STAT_FENCED, Fld.SPK_STAT_ADMITTED,
    Fld.SPK_STAT_GEAR, Fld.VLY_NOW2_EPOCH, Fld.VLY_NOW2_SID_NOW, Fld.VLY_NOW_VOLLEY, Fld.TND_STAT_STATE, Fld.TND_CFG_ROLE, Fld.SEC_LC_STATE,
    Fld.SEC_LC_HOLD, Fld.VLY_CNT_STALE_CNT, Fld.VLY_CNT_EPOCH_CNT, Fld.VLY_CNT_MISPLACED_CNT]
  omega

/-- The fields read as before, the image stays, and what else says the state of a spoke. -/
structure Heard (fs : List Field) (s t : State) : Prop where
  image : t.image = s.image
  rst : t.rst = s.rst
  taking : t.tnd.taking = s.tnd.taking
  probe (n : Nat) : (t.spoke n).probe = (s.spoke n).probe
  regs (g : Field) : g ∈ fs → t.rd g = s.rd g

theorem Heard.refl (fs : List Field) (s : State) : Heard fs s s := ⟨rfl, rfl, rfl, fun _ => rfl, fun _ _ => rfl⟩

theorem Heard.trans {fs : List Field} {s t u : State} (h : Heard fs s t) (k : Heard fs t u) : Heard fs s u where
  image := k.image.trans h.image
  rst := k.rst.trans h.rst
  taking := k.taking.trans h.taking
  probe n := (k.probe n).trans (h.probe n)
  regs g hg := (k.regs g hg).trans (h.regs g hg)

theorem Heard.mono {fs gs : List Field} {s t : State} (h : Heard fs s t) (hs : ∀ g ∈ gs, g ∈ fs) : Heard gs s t :=
  ⟨h.image, h.rst, h.taking, h.probe, fun g hg => h.regs g (hs g hg)⟩

theorem Heard.read {n : Nat} {s t : State} (h : Heard (burstFields n) s t) : Heard (readFields n) s t := h.mono fun _ => List.mem_cons_of_mem _

theorem heard_ite {fs : List Field} {s t u : State} {p : Prop} [Decidable p] (h : Heard fs s t) (k : Heard fs s u) :
    Heard fs s (if p then t else u) := by
  split
  · exact h
  · exact k

theorem Beside.heard {s t : State} (h : Beside s t) {n : Nat} (hn : n < 128) : Heard (burstFields n) s t :=
  ⟨h.image, h.rst, congrArg Tandem.taking h.tnd, h.probe, fun g hg => h.regs g (burstFields_ofVolley hn g hg)⟩

theorem heard_setCell (fs : List Field) (s : State) (c : Nat) (k : Cell → Cell) : Heard fs s (s.setCell c k) :=
  ⟨rfl, rfl, rfl, fun _ => rfl, fun _ _ => rfl⟩

theorem heard_wr {fs : List Field} {f : Field} (hf : ∀ g ∈ fs, g.key ≠ f.key) (s : State) (v : Nat) : Heard fs s (s.wr f v) :=
  ⟨rfl, rfl, rfl, fun _ => rfl, fun g hg => State.rd_wr_ne s v (hf g hg)⟩

theorem Heard.state {n : Nat} {s t : State} (h : Heard (readFields n) s t) : Heard (stateFields n) s t :=
  h.mono fun _ hg => List.mem_append_left _ (List.mem_append_left _ hg)

/-- What says the state of the spoke stays, so its state stays (R99). -/
theorem Heard.spokeState {n : Nat} {s t : State} (h : Heard (stateFields n) s t) : t.spokeState n = s.spokeState n := by
  have hregs := h.regs
  simp only [stateFields, List.mem_cons, List.not_mem_nil, or_false, forall_eq_or_imp, forall_eq] at hregs
  obtain ⟨henable, hfenced, hadmitted, hstate, hrole, hlc, hhold⟩ := hregs
  unfold State.spokeState State.mayServe State.activeOrSolo State.tndState State.flag State.started
  rw [h.rst, h.taking, h.probe, henable, hfenced, hadmitted, hstate, hrole, hlc, hhold]

theorem Heard.standby {n : Nat} {s t : State} (h : Heard (stateFields n) s t) : t.standby = s.standby := by
  unfold State.standby State.tndState
  rw [h.regs _ (by simp [stateFields])]

/-! ### A burst locks (R96, R332) -/

theorem State.raiseYield_taking (s : State) (b : Nat) : (s.raiseYield b).tnd.taking = s.tnd.taking := by
  unfold State.raiseYield
  dsimp only
  split
  · split
    · rfl
    · rw [State.raise_tnd]
      rfl
  · rfl

theorem heard_raiseYield {n : Nat} (hn : n < 128) (s : State) (b : Nat) : Heard (burstFields n) s (s.raiseYield b) := by
  refine ⟨State.raiseYield_image s b, State.raiseYield_rst s b, State.raiseYield_taking s b, fun i => ?_, fun g hg => ?_⟩
  · rw [State.spoke, State.spoke, State.raiseYield_spokes]
  · have hvolley := burstFields_ofVolley hn g hg
    exact State.rd_raiseYield_ne s b g (Field.OffVolley.key_ne (by unfold Field.OffVolley; decide) hvolley)
      (Field.OffVolley.key_ne (by unfold Field.OffVolley; decide) hvolley) fun x hx => (eventFields_offVolley x hx).key_ne hvolley

theorem heard_clearYield {n : Nat} (hn : n < 128) (s : State) (b : Nat) : Heard (burstFields n) s (s.clearYield b) :=
  (beside_wr s (f := Fld.TND_CAUSE_LIVE) (by unfold Field.OffVolley; decide) _).heard hn

theorem heard_spokeLoss {n : Nat} (hn : n < 128) (s : State) : Heard (burstFields n) s s.spokeLoss :=
  heard_ite (heard_ite (Heard.refl _ s) (heard_raiseYield hn s 5)) (heard_clearYield hn s 5)

theorem heard_setSpoke (fs : List Field) (s : State) (n : Nat) {k : Spoke → Spoke} (hk : ∀ p, (k p).probe = p.probe) : Heard fs s (s.setSpoke n k) :=
  ⟨rfl, rfl, rfl, (beside_setSpoke s n hk).probe, fun _ _ => rfl⟩

/-- The burst counts as a lock, and its spoke is no longer lost. -/
def State.lockCounted (s : State) (n : Nat) : State :=
  (s.setSpoke n (fun p => { p with lockedNow := true, lost := false, sinceLock := 0 })).bumpWrap (Fld.SPK_CNT_LOCK_CNT n)

theorem State.burstLocked_eq (s : State) (n : Nat) :
    s.burstLocked n = if (s.spoke n).lost then (s.lockCounted n).spokeLoss else s.lockCounted n := rfl

theorem State.lockCounted_lost (s : State) (n : Nat) : ((s.lockCounted n).spoke n).lost = false :=
  congrArg Spoke.lost (State.setSpoke_spoke_self s n (fun p => { p with lockedNow := true, lost := false, sinceLock := 0 }))

theorem heard_lockCounted {n : Nat} (hn : n < 128) (s : State) : Heard (burstFields n) s (s.lockCounted n) := by
  have hset : Heard (burstFields n) s (s.setSpoke n (fun p => { p with lockedNow := true, lost := false, sinceLock := 0 })) :=
    heard_setSpoke _ s n fun _ => rfl
  exact hset.trans (heard_wr (burstFields_ne_lock hn) _ _)

theorem heard_burstLocked {n : Nat} (hn : n < 128) (s : State) : Heard (burstFields n) s (s.burstLocked n) := by
  rw [State.burstLocked_eq]
  exact heard_ite ((heard_lockCounted hn s).trans (heard_spokeLoss hn _)) (heard_lockCounted hn s)

theorem State.spokeLoss_sameButYield (s : State) : SameButYield s s.spokeLoss := by
  unfold State.spokeLoss
  dsimp only
  split
  · split
    · rfl
    · exact State.raiseYield_sameButYield s 5
  · rfl

theorem regsBut_spokeLoss (s : State) : RegsBut ([Fld.TND_CAUSE_LIVE, Fld.TND_EVT_HELD_NO_TWIN] ++ loggedFields) s s.spokeLoss := by
  unfold State.spokeLoss
  dsimp only
  split
  · split
    · exact fun _ _ => rfl
    · exact regsBut_raiseYield s 5
  · exact fun g hg => State.rd_wr_ne s _ (hg _ (by simp))

/-- The lock of a burst: beside its spoke, its counter and the yield condition of lost spokes nothing changes. -/
theorem burstLocked_spec {n : Nat} (hn : n < 128) (s : State) :
    (s.burstLocked n).rd (Fld.SPK_CNT_LOCK_CNT n) = (s.rd (Fld.SPK_CNT_LOCK_CNT n) + 1) % 2 ^ 32 ∧ ((s.burstLocked n).spoke n).lost = false ∧
    RegsBut ([Fld.SPK_CNT_LOCK_CNT n, Fld.TND_CAUSE_LIVE, Fld.TND_EVT_HELD_NO_TWIN] ++ loggedFields) s (s.burstLocked n) ∧
    s.burstLocked n = { s with
      regs := (s.burstLocked n).regs, hist := (s.burstLocked n).hist, log := (s.burstLocked n).log, spokes := (s.burstLocked n).spokes
      tnd := (s.burstLocked n).tnd } := by
  have hcount : (s.lockCounted n).rd (Fld.SPK_CNT_LOCK_CNT n) = (s.rd (Fld.SPK_CNT_LOCK_CNT n) + 1) % 2 ^ 32 := State.rd_bumpWrap_self _ _ _
  have hregs : RegsBut ([Fld.SPK_CNT_LOCK_CNT n, Fld.TND_CAUSE_LIVE, Fld.TND_EVT_HELD_NO_TWIN] ++ loggedFields) s (s.lockCounted n) :=
    fun g hg => State.rd_bumpWrap_ne _ _ (hg _ (.head _))
  have hloss := regsBut_spokeLoss (s.lockCounted n)
  have hsame := State.spokeLoss_sameButYield (s.lockCounted n)
  rw [State.burstLocked_eq]
  split
  · refine ⟨(hloss _ ?_).trans hcount, ?_, hregs.trans (hloss.mono fun _ => List.mem_cons_of_mem _), ?_⟩
    · simp only [loggedFields, Field.key, Fld.SPK_CNT_LOCK_CNT, Fld.TND_CAUSE_LIVE, Fld.TND_EVT_HELD_NO_TWIN, Fld.HKP_LOG_SEQ_LO_SEQ,
        Fld.HKP_LOG_SEQ_HI_SEQ, Fld.HKP_SVC_EVT_LOG_WRAP, List.cons_append, List.nil_append, List.mem_cons, List.not_mem_nil, or_false,
        forall_eq_or_imp, forall_eq]
      omega
    · rw [hsame]
      exact s.lockCounted_lost n
    · rw [hsame]
      rfl
  · exact ⟨hcount, s.lockCounted_lost n, hregs, rfl⟩

theorem State.burstLocked_cells (s : State) (n : Nat) : (s.burstLocked n).cells = s.cells := by
  unfold State.burstLocked
  dsimp only
  split
  · exact (State.spokeLoss_sameButYield _).cells
  · rfl

/-! ### A return is heard (R131, R326, R340) -/

theorem heard_countHunt (fs : List Field) (s : State) (other : Bool) : Heard fs s (s.countHunt other) := by
  unfold State.countHunt
  split
  · exact heard_ite (Heard.refl fs s) ⟨rfl, rfl, rfl, fun _ => rfl, fun _ _ => rfl⟩
  · exact Heard.refl fs s

theorem State.countHunt_cells (s : State) (other : Bool) : (s.countHunt other).cells = s.cells := by
  unfold State.countHunt
  split
  · split <;> rfl
  · rfl

/-- A return is read: its sample record waits at the cell that it names. -/
def State.sampled (s : State) (n : Nat) (r : Return) : State :=
  if r.slot < 96 ∧ (s.cell (cellId n r.slot)).lstate ≠ .free then
    s.setCell (cellId n r.slot) (fun x => { x with sample := some (returnSample r) }) else s

/-- The EPOCH_LO of the return is the module's (R131). -/
def State.ownEpoch (s : State) (r : Return) : Bool := r.epochLo.toNat == s.rd Fld.VLY_NOW2_EPOCH % 16

/-- A burst that locked and passed its CRC has been read. -/
def State.lockedIn (s : State) (n : Nat) (r : Return) : State :=
  ((s.burstLocked n).sampled n r).countHunt (!(s.burstLocked n).ownEpoch r && !r.sok)

/-- The return arrived in a slot whose cell it may be of: its fault bits act, and it counts where it is out of place. -/
def State.heardIn (s : State) (c : Nat) (off : Int) (r : Return) : State :=
  let t := (s.noteFault c r.fault).hear (c / 128) off
  if decide (inPlaceUi (s.rd (Fld.SPK_STAT_GEAR (c / 128))) < off.natAbs) then t.bump (Fld.SPK_CNT_PLACE_CNT (c / 128)) else t

theorem State.lockedReturn_eq (s : State) (c : Nat) (off : Int) (r : Return) : s.lockedReturn c off r =
    if ¬ r.crcOk then ((s.burstLocked (c / 128)).bump (Fld.SPK_CNT_CRC_CNT (c / 128))).setCell c
      (fun x => if x.lstate = .free then x else { x with outcome := .crcFail })
    else if (s.burstLocked (c / 128)).ownEpoch r ∧ r.slot ≠ c % 128 then (s.lockedIn (c / 128) r).misplaced c off r
    else if (s.burstLocked (c / 128)).ownEpoch r then ((s.lockedIn (c / 128) r).heardIn c off r).ownReturn c off r
    else ((s.lockedIn (c / 128) r).heardIn c off r).foreignReturn c off := rfl

theorem State.burstLocked_ownEpoch {n : Nat} (hn : n < 128) (s : State) (r : Return) : (s.burstLocked n).ownEpoch r = s.ownEpoch r := by
  unfold State.ownEpoch
  rw [(heard_burstLocked hn s).regs _ (by simp [burstFields, readFields])]

theorem heard_lockedIn {n : Nat} (hn : n < 128) (s : State) (r : Return) : Heard (burstFields n) s (s.lockedIn n r) :=
  ((heard_burstLocked hn s).trans (heard_ite (heard_setCell _ _ _ _) (Heard.refl _ _))).trans (heard_countHunt _ _ _)

/-- Of the cells at most the sample that waits changes. -/
theorem State.lockedIn_cell (s : State) (n : Nat) (r : Return) (d : Nat) : ∃ m, (s.lockedIn n r).cell d = { s.cell d with sample := m } := by
  have hlocked : (s.burstLocked n).cell d = s.cell d := by rw [State.cell, State.cell, State.burstLocked_cells]
  have hread : (s.lockedIn n r).cell d = ((s.burstLocked n).sampled n r).cell d := by
    rw [State.cell, State.cell, State.lockedIn, State.countHunt_cells]
  rw [hread]
  unfold State.sampled
  split
  · by_cases hd : d = cellId n r.slot
    · subst hd
      rw [State.setCell_cell_self, hlocked]
      exact ⟨_, rfl⟩
    · rw [State.setCell_cell_ne _ _ _ hd, hlocked]
      exact ⟨_, rfl⟩
  · rw [hlocked]
    exact ⟨_, rfl⟩

theorem State.lockedIn_cells_of_free {s : State} {n : Nat} {r : Return} (h : (s.cell (cellId n r.slot)).lstate = .free) :
    (s.lockedIn n r).cells = s.cells := by
  have hlocked : (s.burstLocked n).cell (cellId n r.slot) = s.cell (cellId n r.slot) := by rw [State.cell, State.cell, State.burstLocked_cells]
  rw [State.lockedIn, State.countHunt_cells, State.sampled, hlocked, if_neg (fun hno => hno.2 h), State.burstLocked_cells]

theorem beside_faultTap (s : State) (c : Nat) (fault : BitVec 5) : Beside s (s.faultTap c fault) := by
  unfold State.faultTap
  dsimp only
  split
  · exact Beside.refl s
  · exact beside_ite _ (Beside.refl s) ((beside_c0 s _).trans (beside_blockDecision _ _))

theorem heard_noteFault {n : Nat} (hn : n < 128) (s : State) (c : Nat) (fault : BitVec 5) : Heard (burstFields n) s (s.noteFault c fault) :=
  (heard_ite (Heard.refl _ s) (heard_setCell _ s c _)).trans ((beside_faultTap _ c fault).heard hn)

theorem State.noteFault_cells_of_free {s : State} {c : Nat} (h : (s.cell c).lstate = .free) (fault : BitVec 5) :
    (s.noteFault c fault).cells = s.cells := by
  rw [State.noteFault, if_pos h, (beside_faultTap s c fault).cells]

/-- The fault bits of a cell that is not free stand for it. -/
theorem State.noteFault_cells {s : State} {c : Nat} (h : (s.cell c).lstate ≠ .free) (fault : BitVec 5) :
    (s.noteFault c fault).cells = (s.setCell c (fun x => { x with fault := x.fault ||| fault })).cells := by
  rw [State.noteFault, if_neg h, (beside_faultTap _ c fault).cells]

theorem State.noteFault_cell_self {s : State} {c : Nat} (h : (s.cell c).lstate ≠ .free) (fault : BitVec 5) :
    (s.noteFault c fault).cell c = { s.cell c with fault := (s.cell c).fault ||| fault } := by
  rw [State.cell, State.noteFault_cells h]
  exact State.setCell_cell_self s c _

theorem State.noteFault_cell_ne (s : State) {c d : Nat} (hd : d ≠ c) (fault : BitVec 5) : (s.noteFault c fault).cell d = s.cell d := by
  by_cases h : (s.cell c).lstate = .free
  · rw [State.cell, State.noteFault_cells_of_free h]
    rfl
  · rw [State.cell, State.noteFault_cells h]
    exact State.setCell_cell_ne s c _ hd

theorem State.hear_of_active {s : State} (h : s.standby = false) (n : Nat) (off : Int) : s.hear n off = s := by
  rw [State.hear, if_neg (by simp [h])]

/-- On a module that is no standby a return heard leaves its fault bits, and counts where it is out of place. -/
theorem heardIn_spec {s : State} (hstandby : s.standby = false) {c : Nat} (hc : c / 128 < 128) (off : Int) (r : Return) :
    (s.heardIn c off r).cells = (s.noteFault c r.fault).cells ∧ Heard (readFields (c / 128)) s (s.heardIn c off r) ∧
    (s.heardIn c off r).rd (Fld.SPK_CNT_PLACE_CNT (c / 128)) = (if inPlaceUi (s.rd (Fld.SPK_STAT_GEAR (c / 128))) < off.natAbs then
      min (s.rd (Fld.SPK_CNT_PLACE_CNT (c / 128)) + 1) (2 ^ 32 - 1) else s.rd (Fld.SPK_CNT_PLACE_CNT (c / 128))) := by
  have hfault := heard_noteFault hc s c r.fault
  have hplace := hfault.regs (Fld.SPK_CNT_PLACE_CNT (c / 128)) (by simp [burstFields])
  have hact : (s.noteFault c r.fault).standby = false := hfault.read.state.standby.trans hstandby
  unfold State.heardIn
  dsimp only
  rw [State.hear_of_active hact]
  by_cases hout : inPlaceUi (s.rd (Fld.SPK_STAT_GEAR (c / 128))) < off.natAbs
  · rw [if_pos (by simpa using hout), if_pos hout]
    exact ⟨rfl, hfault.read.trans (heard_wr (readFields_ne_place hc) _ _), by rw [State.rd_bump_self, hplace]; rfl⟩
  · rw [if_neg (by simpa using hout), if_neg hout]
    exact ⟨rfl, hfault.read, hplace⟩

/-! ### The first return in place (R135) -/

theorem keepsRecord_bindCell (s : State) (c : Nat) : KeepsRecord s (s.bindCell c) := by
  have hmember (v : Nat) : KeepsRecord s (s.wrs [(Fld.VLY_ARMMAP_MEMBER (c / 128) (c % 128), v)]) :=
    keepsRecord_wr s (by simp [Field.CountsReturns, Fld.VLY_ARMMAP_MEMBER]) v
  unfold State.bindCell
  dsimp only
  split
  · exact (((hmember _).trans (keepsRecord_setCell _ c ⟨rfl, rfl, rfl, rfl, rfl, rfl, rfl, rfl, rfl, rfl, rfl⟩)).trans
      (keepsRecord_wr _ (bindDone_off _ _) _)).trans (keepsRecord_showBound _ _ _)
  · exact (((hmember _).trans (keepsRecord_setCell _ c ⟨rfl, rfl, rfl, rfl, rfl, rfl, rfl, rfl, rfl, rfl, rfl⟩)).trans
      (keepsRecord_wr _ (bindDone_off _ _) _)).trans (keepsRecord_startWrite _ c)

/-- The cell is admitted and forgets what the image held of it. -/
def State.admitted (s : State) (c : Nat) : State := (s.setCell c (fun x => { x with lstate := .admitted, missRun := 0 })).imageForget c

theorem State.admitted_cell (s : State) (c : Nat) : (s.admitted c).cell c = { s.cell c with lstate := .admitted, missRun := 0 } :=
  State.setCell_cell_self s c (fun x => { x with lstate := .admitted, missRun := 0 })

/-- What else an admission starts leaves the records of returns. -/
theorem keepsRecord_admitCell (s : State) (c : Nat) : KeepsRecord (s.admitted c) (s.admitCell c) := by
  have hbind {u v : State} {p : Prop} [Decidable p] (h : KeepsRecord u v) : KeepsRecord u (if p then v.bindCell c else v) :=
    keepsRecord_ite (h.trans (keepsRecord_bindCell v c)) h
  have hshow {u v : State} (h : KeepsRecord u v) (n : Nat) : KeepsRecord u (v.showSpoke n).showCells :=
    (h.trans (keepsRecord_showSpoke v n)).trans (keepsRecord_showCells _)
  unfold State.admitCell
  exact hshow (hbind ((keepsRecord_setSpoke (s.admitted c) _ _).trans (keepsRecord_dueReq _ _ _ _ _ _))) _

/-- An admitted cell keeps the places of its last returns. -/
theorem State.admitCell_cell (s : State) (c : Nat) :
    ((s.admitCell c).cell c).lstate = .admitted ∧ ((s.admitCell c).cell c).last16 = (s.cell c).last16 := by
  have hkeep := (keepsRecord_admitCell s c).cells c
  rw [hkeep.lstate, hkeep.last16, State.admitted_cell]
  exact ⟨rfl, rfl⟩

end Sys2Proof.Machine

end

section
/-! PROOFS. What each outcome of a return burst leaves: no lock, a CRC error, a foreign EPOCH, another slot, and a used return (R96, R131,
R135, R138). -/

namespace Sys2Proof.Machine

theorem cellId_div (n : Nat) (k : Fin 96) : cellId n k.val / 128 = n := by
  unfold cellId
  omega

theorem cellId_mod (n : Nat) (k : Fin 96) : cellId n k.val % 128 = k.val := by
  unfold cellId
  omega

theorem State.hears_iff (s : State) (n : Nat) : s.hears n = true ↔ Hears n s := by
  simp [State.hears, State.hearing, Hears, WindowRuns, and_assoc]

/-! ### The command (R96, R131, R537) -/

theorem exec_returnBurst_of_not_hears {s : State} {n : Fin 128} (h : ¬ Hears n.val s) (k : Fin 96) (off : Int) (bits : List Bool) :
    exec (.returnBurstReceive n k off bits) s = .next s := by
  have hdeaf : ¬ s.hears n.val = true := fun hh => h ((s.hears_iff n.val).1 hh)
  exact if_pos hdeaf

theorem State.pert_of_off {s : State} (h : s.rd Fld.HKP_PERT_CTL_ON = 0) (i : Nat) : s.pert i = false := by
  rw [State.pert, h]
  simp [bitOf]

/-- Without perturbations a burst that is heard is looked for, then read. -/
theorem exec_returnBurst {s : State} {n : Fin 128} (h : Hears n.val s) (hpert : s.rd Fld.HKP_PERT_CTL_ON = 0) (k : Fin 96) (off : Int)
    (bits : List Bool) :
    exec (.returnBurstReceive n k off bits) s = .next (
      if searchUi (s.rd (Fld.SPK_STAT_GEAR n.val)) < off.natAbs then s.noLockAt (cellId n.val k.val)
      else match hearReturn (s.rd (Fld.SPK_STAT_GEAR n.val)) false bits with
        | none => s.noLockAt (cellId n.val k.val)
        | some r => s.lockedReturn (cellId n.val k.val) off r) := by
  have hrow : exec (.returnBurstReceive n k off bits) s = execReturnBurstReceive n k off bits s := rfl
  have hhear : s.hears n.val = true := (s.hears_iff n.val).2 h
  rw [hrow, execReturnBurstReceive]
  simp only [hhear, not_true_eq_false, if_false, State.pertOff, State.pertDrop, State.pertCrc, State.pert_of_off hpert, Bool.false_and,
    Bool.false_eq_true, false_and, false_or]
  split <;> rfl

/-! ### No lock (R96) -/

theorem noLockAt_spec {s : State} {n c : Nat} (hc : c / 128 = n) (hhear : Hears n s) (hadm : (s.cell c).lstate.admitted? = true)
    (hmuted : (s.cell c).lstate ≠ .muted) (hwait : (s.cell c).outcome = .awaited) : NoLockCounted n c s (s.noLockAt c) := by
  subst hc
  rw [State.noLockAt, if_pos ⟨hadm, hmuted, hwait, (s.hears_iff _).2 hhear⟩]
  refine ⟨State.rd_bump_self s _ 1, State.setCell_cell_self _ c _, fun d hd => ?_, fun g hg => ?_, rfl⟩
  · exact State.setCell_cell_ne _ c _ (by simpa using hd)
  · exact State.rd_bump_ne s 1 (hg _ (.head _))

theorem noLockAt_of_idle {s : State} {c : Nat}
    (h : ¬ ((s.cell c).lstate.admitted? = true ∧ (s.cell c).lstate ≠ .muted ∧ (s.cell c).outcome = .awaited)) : s.noLockAt c = s := by
  rw [State.noLockAt, if_neg fun hh => h ⟨hh.1, hh.2.1, hh.2.2.1⟩]

/-! ### A CRC error (R131) -/

theorem crcField_ne {n : Nat} (hn : n < 128) : ∀ g ∈ Fld.SPK_CNT_LOCK_CNT n :: [Fld.TND_CAUSE_LIVE, Fld.TND_EVT_HELD_NO_TWIN] ++ loggedFields,
    (Fld.SPK_CNT_CRC_CNT n).key ≠ g.key := by
  simp only [loggedFields, List.cons_append, List.nil_append, List.mem_cons, List.not_mem_nil, or_false, forall_eq_or_imp, forall_eq, Field.key,
    Fld.SPK_CNT_CRC_CNT, Fld.SPK_CNT_LOCK_CNT, Fld.TND_CAUSE_LIVE, Fld.TND_EVT_HELD_NO_TWIN, Fld.HKP_LOG_SEQ_LO_SEQ, Fld.HKP_LOG_SEQ_HI_SEQ,
    Fld.HKP_SVC_EVT_LOG_WRAP]
  omega

theorem lockedReturn_crcFail (s : State) {n c : Nat} (hc : c / 128 = n) (hn : n < 128) (off : Int) {r : Return} (hcrc : r.crcOk = false) :
    (s.lockedReturn c off r).rd (Fld.SPK_CNT_CRC_CNT n) = min (s.rd (Fld.SPK_CNT_CRC_CNT n) + 1) (2 ^ 32 - 1) ∧
    (s.lockedReturn c off r).rd (Fld.SPK_CNT_LOCK_CNT n) = (s.rd (Fld.SPK_CNT_LOCK_CNT n) + 1) % 2 ^ 32 ∧
    ((s.lockedReturn c off r).spoke n).lost = false ∧
    ((s.cell c).lstate ≠ .free → (s.lockedReturn c off r).cell c = { s.cell c with outcome := .crcFail }) ∧
    MapBut Cell.reset [c] s.cells (s.lockedReturn c off r).cells ∧
    RegsBut ([Fld.SPK_CNT_CRC_CNT n, Fld.SPK_CNT_LOCK_CNT n, Fld.TND_CAUSE_LIVE, Fld.TND_EVT_HELD_NO_TWIN] ++ loggedFields) s
      (s.lockedReturn c off r) ∧
    s.lockedReturn c off r = { s with
      regs := (s.lockedReturn c off r).regs, hist := (s.lockedReturn c off r).hist, log := (s.lockedReturn c off r).log
      cells := (s.lockedReturn c off r).cells, spokes := (s.lockedReturn c off r).spokes, tnd := (s.lockedReturn c off r).tnd } := by
  subst hc
  obtain ⟨hlock, hlost, hregs, hsame⟩ := burstLocked_spec hn s
  have hcell (d : Nat) : (s.burstLocked (c / 128)).cell d = s.cell d := by rw [State.cell, State.cell, State.burstLocked_cells]
  rw [State.lockedReturn_eq, if_pos (by simp [hcrc])]
  refine ⟨?_, ?_, hlost, fun hfree => ?_, fun d hd => ?_, fun g hg => ?_, ?_⟩
  · exact (State.rd_bump_self _ _ 1).trans (by rw [hregs _ (crcField_ne hn)]; rfl)
  · exact (State.rd_bump_ne _ 1 (crcField_ne hn _ (.head _)).symm).trans hlock
  · have hbump : ((s.burstLocked (c / 128)).bump (Fld.SPK_CNT_CRC_CNT (c / 128))).cell c = s.cell c := hcell c
    rw [State.setCell_cell_self, hbump, if_neg hfree]
  · exact (State.setCell_cell_ne _ c _ (by simpa using hd)).trans (hcell d)
  · exact (State.rd_bump_ne _ 1 (hg _ (.head _))).trans (hregs g fun f hf => hg f (List.mem_cons_of_mem _ hf))
  · rw [hsame]
    rfl

theorem State.rd_notePlace (s : State) (c : Nat) (off : Int) (good missing : Bool) (g : Field) : (s.notePlace c off good missing).rd g = s.rd g :=
  rfl

/-! ### A burst of another slot (R131, R147) -/

/-- The samples of both cells are missing: the one of the slot is displaced. -/
def State.displaced (s : State) (c c' : Nat) (r : Return) : State :=
  ((s.bump Fld.VLY_CNT_MISPLACED_CNT).noteFault c' r.fault).setCell c (fun x => if x.lstate = .free then x else { x with outcome := .displaced })

/-- The burst is of cell `c'`, out of its place. -/
def State.misplacedAt (s : State) (c' : Nat) (off : Int) : State :=
  ((s.setCell c' (fun x => { x with outcome := .misplaced, sampleOk := false })).notePlace c' off false false).rerangeCell c'

theorem State.misplaced_eq (s : State) (c : Nat) (off : Int) (r : Return) : ∃ o : Int, s.misplaced c off r =
    if r.slot < 96 ∧ ((s.displaced c (cellId (c / 128) r.slot) r).cell (cellId (c / 128) r.slot)).lstate ≠ .free then
      (s.displaced c (cellId (c / 128) r.slot) r).misplacedAt (cellId (c / 128) r.slot) o
    else s.displaced c (cellId (c / 128) r.slot) r := ⟨_, rfl⟩

theorem displaced_spec {s : State} {n : Nat} (hn : n < 128) {c c' : Nat} (hne : c ≠ c') (r : Return) :
    (s.displaced c c' r).rd Fld.VLY_CNT_MISPLACED_CNT = min (s.rd Fld.VLY_CNT_MISPLACED_CNT + 1) (2 ^ 32 - 1) ∧
    (s.displaced c c' r).image = s.image ∧
    (s.displaced c c' r).cell c = (if (s.cell c).lstate = .free then s.cell c else { s.cell c with outcome := .displaced }) ∧
    ((s.cell c').lstate ≠ .free → (s.displaced c c' r).cell c' = { s.cell c' with fault := (s.cell c').fault ||| r.fault }) := by
  have hfault := heard_noteFault hn (s.bump Fld.VLY_CNT_MISPLACED_CNT) c' r.fault
  have hcount := hfault.regs Fld.VLY_CNT_MISPLACED_CNT (by simp [burstFields, readFields, returnCounters])
  refine ⟨?_, ?_, ?_, fun hfree => ?_⟩
  · rw [State.displaced, State.setCell_rd, hcount, State.rd_bump_self]
    rfl
  · rw [State.displaced, State.setCell_image, hfault.image]
    rfl
  · rw [State.displaced, State.setCell_cell_self, State.noteFault_cell_ne _ hne]
    rfl
  · rw [State.displaced, State.setCell_cell_ne _ _ _ hne.symm, State.noteFault_cell_self (s := s.bump Fld.VLY_CNT_MISPLACED_CNT) hfree]
    rfl

/-- Beside its outcome, the sample and the places the cell keeps what it was; the others keep their return. -/
theorem misplacedAt_spec (s : State) (c' : Nat) (off : Int) :
    (∀ g : Field, g.CountsReturns → (s.misplacedAt c' off).rd g = s.rd g) ∧ (s.misplacedAt c' off).image = s.image ∧
    (∀ d, d ≠ c' → Cell.SameReturn (s.cell d) ((s.misplacedAt c' off).cell d)) ∧
    ((s.misplacedAt c' off).cell c').outcome = .misplaced ∧ ((s.misplacedAt c' off).cell c').sampleOk = false ∧
    ((s.misplacedAt c' off).cell c').fault = (s.cell c').fault ∧ ((s.misplacedAt c' off).cell c').vkey = (s.cell c').vkey := by
  have hkeep := keepsReturn_rerangeCell
    ((s.setCell c' (fun x => { x with outcome := .misplaced, sampleOk := false })).notePlace c' off false false) c'
  have hself := hkeep.cells c'
  rw [State.notePlace, State.setCell_cell_self, State.setCell_cell_self] at hself
  refine ⟨fun g hg => ?_, ?_, fun d hd => ?_, hself.outcome, ?_, hself.fault, hself.vkey⟩
  · rw [State.misplacedAt, hkeep.regs g hg, State.rd_notePlace, State.setCell_rd]
  · rw [State.misplacedAt, hkeep.image, State.notePlace, State.setCell_image, State.setCell_image]
  · have hother := hkeep.cells d
    rw [State.notePlace, State.setCell_cell_ne _ _ _ hd, State.setCell_cell_ne _ _ _ hd] at hother
    exact hother
  · rcases hself.sample with ⟨hok, -⟩ | ⟨hok, -⟩ <;> exact hok

theorem lockedReturn_misplaced (s : State) {n c : Nat} (hc : c / 128 = n) (hn : n < 128) (off : Int) {r : Return} (hcrc : r.crcOk = true)
    (hepoch : s.ownEpoch r = true) (hslot : r.slot ≠ c % 128) :
    (s.lockedReturn c off r).rd Fld.VLY_CNT_MISPLACED_CNT = min (s.rd Fld.VLY_CNT_MISPLACED_CNT + 1) (2 ^ 32 - 1) ∧
    ((s.cell c).lstate ≠ .free → ((s.lockedReturn c off r).cell c).outcome = .displaced ∧
      ((s.lockedReturn c off r).cell c).sid = (s.cell c).sid ∧ ((s.lockedReturn c off r).cell c).vkey = (s.cell c).vkey) ∧
    (r.slot < 96 → (s.cell (cellId n r.slot)).lstate ≠ .free → ((s.lockedReturn c off r).cell (cellId n r.slot)).outcome = .misplaced ∧
      ((s.lockedReturn c off r).cell (cellId n r.slot)).sampleOk = false ∧
      ((s.lockedReturn c off r).cell (cellId n r.slot)).fault = (s.cell (cellId n r.slot)).fault ||| r.fault ∧
      ((s.lockedReturn c off r).cell (cellId n r.slot)).vkey = (s.cell (cellId n r.slot)).vkey) ∧
    (s.lockedReturn c off r).image = s.image := by
  subst hc
  have hne : c ≠ cellId (c / 128) r.slot := by
    unfold cellId
    omega
  have hlocked := heard_lockedIn hn s r
  obtain ⟨m, hcell⟩ := s.lockedIn_cell (c / 128) r c
  obtain ⟨m', hcell'⟩ := s.lockedIn_cell (c / 128) r (cellId (c / 128) r.slot)
  obtain ⟨o, hmis⟩ := (s.lockedIn (c / 128) r).misplaced_eq c off r
  obtain ⟨hcount, himage, hself, hnamed⟩ := displaced_spec (s := s.lockedIn (c / 128) r) hn hne r
  rw [hlocked.regs _ (by simp [burstFields, readFields, returnCounters])] at hcount
  rw [hlocked.image] at himage
  rw [hcell] at hself
  rw [hcell'] at hnamed
  rw [State.lockedReturn_eq, if_neg (by simp [hcrc]), if_pos ⟨by rw [State.burstLocked_ownEpoch hn, hepoch], hslot⟩, hmis]
  have hdisplaced (hfree : (s.cell c).lstate ≠ .free) := hself.trans (if_neg hfree)
  split
  next h =>
    obtain ⟨hregs, hsameImage, hothers, hout, hok, hfault, hkey⟩ := misplacedAt_spec
      ((s.lockedIn (c / 128) r).displaced c (cellId (c / 128) r.slot) r) (cellId (c / 128) r.slot) o
    have hc := hothers c hne
    refine ⟨(hregs _ (by unfold Field.CountsReturns; decide)).trans hcount, fun hfree => ?_, fun hs hfree => ?_, hsameImage.trans himage⟩
    · rw [hc.outcome, hc.sid, hc.vkey, hdisplaced hfree]
      exact ⟨rfl, rfl, rfl⟩
    · refine ⟨hout, hok, ?_, ?_⟩
      · rw [hfault, hnamed hfree]
      · rw [hkey, hnamed hfree]
  next h =>
    refine ⟨hcount, fun hfree => ?_, fun hs hfree => absurd ⟨hs, ?_⟩ h, himage⟩
    · rw [hdisplaced hfree]
      exact ⟨rfl, rfl, rfl⟩
    · rw [hnamed hfree]
      exact hfree

/-! ### A return in its own slot, or of a foreign EPOCH, has arrived -/

/-- The burst locked and passed its CRC, and its fault bits act. -/
def State.arrived (s : State) (c : Nat) (off : Int) (r : Return) : State := (s.lockedIn (c / 128) r).heardIn c off r

theorem heard_arrived {s : State} {c : Nat} (hn : c / 128 < 128) (hstandby : s.standby = false) (off : Int) (r : Return) :
    Heard (readFields (c / 128)) s (s.arrived c off r) := by
  have hlocked := (heard_lockedIn hn s r).read
  exact hlocked.trans (heardIn_spec (hlocked.state.standby.trans hstandby) hn off r).2.1

theorem State.rd_arrived_place {s : State} {c : Nat} (hn : c / 128 < 128) (hstandby : s.standby = false) (off : Int) (r : Return) :
    (s.arrived c off r).rd (Fld.SPK_CNT_PLACE_CNT (c / 128)) = (if inPlaceUi (s.rd (Fld.SPK_STAT_GEAR (c / 128))) < off.natAbs then
      min (s.rd (Fld.SPK_CNT_PLACE_CNT (c / 128)) + 1) (2 ^ 32 - 1) else s.rd (Fld.SPK_CNT_PLACE_CNT (c / 128))) := by
  have hlocked := heard_lockedIn hn s r
  have hgear := hlocked.regs (Fld.SPK_STAT_GEAR (c / 128)) (by simp [burstFields, readFields])
  have hplace := hlocked.regs (Fld.SPK_CNT_PLACE_CNT (c / 128)) (by simp [burstFields])
  rw [State.arrived, (heardIn_spec (hlocked.read.state.standby.trans hstandby) hn off r).2.2, hgear, hplace]

theorem State.arrived_cells {s : State} {c : Nat} (hn : c / 128 < 128) (hstandby : s.standby = false) (off : Int) (r : Return) :
    (s.arrived c off r).cells = ((s.lockedIn (c / 128) r).noteFault c r.fault).cells :=
  (heardIn_spec ((heard_lockedIn hn s r).read.state.standby.trans hstandby) hn off r).1

theorem State.arrived_cell_self {s : State} {c : Nat} (hn : c / 128 < 128) (hstandby : s.standby = false) (hfree : (s.cell c).lstate ≠ .free)
    (off : Int) (r : Return) : ∃ m, (s.arrived c off r).cell c = { s.cell c with sample := m, fault := (s.cell c).fault ||| r.fault } := by
  obtain ⟨m, hcell⟩ := s.lockedIn_cell (c / 128) r c
  have hread : (s.arrived c off r).cell c = ((s.lockedIn (c / 128) r).noteFault c r.fault).cell c := by
    rw [State.cell, State.cell, State.arrived_cells hn hstandby]
  refine ⟨m, ?_⟩
  rw [hread, State.noteFault_cell_self (by rw [hcell]; exact hfree), hcell]

theorem State.arrived_cell_ne {s : State} {c d : Nat} (hn : c / 128 < 128) (hstandby : s.standby = false) (hd : d ≠ c) (off : Int) (r : Return) :
    ∃ m, (s.arrived c off r).cell d = { s.cell d with sample := m } := by
  obtain ⟨m, hcell⟩ := s.lockedIn_cell (c / 128) r d
  have hread : (s.arrived c off r).cell d = ((s.lockedIn (c / 128) r).noteFault c r.fault).cell d := by
    rw [State.cell, State.cell, State.arrived_cells hn hstandby]
  exact ⟨m, by rw [hread, State.noteFault_cell_ne _ hd, hcell]⟩

/-! ### A foreign EPOCH (R131) -/

/-- The foreign return counts and shows EPOCH_MISMATCH. -/
def State.foreignCounted (s : State) (c : Nat) : State := (s.bump Fld.VLY_CNT_EPOCH_CNT).raise Fld.VLY_EVT_EPOCH_MISMATCH c

theorem State.foreignReturn_eq (s : State) (c : Nat) (off : Int) : s.foreignReturn c off =
    if ((s.foreignCounted c).cell c).lstate = .free then s.foreignCounted c
    else ((s.foreignCounted c).notePlace c off false true).setCell c (fun x => { x with outcome := .epoch }) := rfl

theorem stateFields_ne_epoch {n : Nat} (hn : n < 128) :
    ∀ g ∈ stateFields n, g.key ≠ Fld.VLY_CNT_EPOCH_CNT.key ∧ g.key ≠ Fld.VLY_EVT_EPOCH_MISMATCH.key := by
  simp only [stateFields, List.mem_cons, List.not_mem_nil, or_false, forall_eq_or_imp, forall_eq, Field.key, Fld.SPK_CFG_ENABLE,
    Fld.SPK_STAT_FENCED, Fld.SPK_STAT_ADMITTED, Fld.TND_STAT_STATE, Fld.TND_CFG_ROLE, Fld.SEC_LC_STATE, Fld.SEC_LC_HOLD, Fld.VLY_CNT_EPOCH_CNT,
    Fld.VLY_EVT_EPOCH_MISMATCH]
  omega

theorem stateFields_ofVolley {n : Nat} (hn : n < 128) : ∀ g ∈ stateFields n, g.OfVolley :=
  fun g hg => burstFields_ofVolley hn g (List.mem_cons_of_mem _ (List.mem_append_left _ (List.mem_append_left _ hg)))

theorem heard_foreignCounted {n : Nat} (hn : n < 128) (s : State) (c : Nat) : Heard (stateFields n) s (s.foreignCounted c) := by
  have hcount : Heard (stateFields n) s (s.bump Fld.VLY_CNT_EPOCH_CNT) := heard_wr (fun g hg => (stateFields_ne_epoch hn g hg).1) _ _
  refine hcount.trans ⟨State.raise_image _ _ _, State.raise_rst _ _ _, congrArg Tandem.taking (State.raise_tnd _ _ _), fun i => ?_, fun g hg => ?_⟩
  · exact congrArg Spoke.probe (State.raise_spoke _ _ _ _)
  · exact State.rd_raise_ne _ _ _ _ (stateFields_ne_epoch hn g hg).2 fun x hx =>
      (eventFields_offVolley x hx).key_ne (stateFields_ofVolley hn g hg)

theorem State.rd_admitted (s : State) (c : Nat) (g : Field) : (s.admitted c).rd g = s.rd g := rfl

theorem State.rd_foreignCounted_count (s : State) (c : Nat) :
    (s.foreignCounted c).rd Fld.VLY_CNT_EPOCH_CNT = min (s.rd Fld.VLY_CNT_EPOCH_CNT + 1) (2 ^ 32 - 1) := by
  rw [State.foreignCounted, State.rd_raise_ne _ _ _ _ (by decide) (by decide), State.rd_bump_self]
  rfl

theorem State.rd_foreignCounted_flag (s : State) (c : Nat) : (s.foreignCounted c).rd Fld.VLY_EVT_EPOCH_MISMATCH = 1 :=
  State.rd_raise_self _ _ _ rfl (by decide)

theorem foreignReturn_spec {n : Nat} (hn : n < 128) (s : State) (c : Nat) (off : Int) :
    (s.foreignReturn c off).rd Fld.VLY_CNT_EPOCH_CNT = min (s.rd Fld.VLY_CNT_EPOCH_CNT + 1) (2 ^ 32 - 1) ∧
    (s.foreignReturn c off).rd Fld.VLY_EVT_EPOCH_MISMATCH = 1 ∧ (s.foreignReturn c off).image = s.image ∧
    (s.foreignReturn c off).spokeState n = s.spokeState n := by
  have hcount := s.rd_foreignCounted_count c
  have hflag := s.rd_foreignCounted_flag c
  have hheard := heard_foreignCounted hn s c
  rw [State.foreignReturn_eq]
  generalize s.foreignCounted c = u at hcount hflag hheard ⊢
  split
  · exact ⟨hcount, hflag, hheard.image, hheard.spokeState⟩
  · have hnoted : Heard (stateFields n) s (u.notePlace c off false true) := hheard.trans (heard_setCell _ u c _)
    have hset := hnoted.trans (heard_setCell _ _ c (fun x => { x with outcome := .epoch }))
    rw [State.setCell_rd, State.setCell_rd, State.rd_notePlace, State.rd_notePlace]
    exact ⟨hcount, hflag, hset.image, hset.spokeState⟩

/-- Of the return only its place is noted. -/
theorem foreignReturn_cell {s : State} {c : Nat} (hfree : (s.cell c).lstate ≠ .free) (off : Int) :
    ((s.foreignReturn c off).cell c).outcome = .epoch ∧ ((s.foreignReturn c off).cell c).fault = (s.cell c).fault ∧
    ((s.foreignReturn c off).cell c).missRun = (s.cell c).missRun ∧ ((s.foreignReturn c off).cell c).sid = (s.cell c).sid ∧
    ((s.foreignReturn c off).cell c).vkey = (s.cell c).vkey ∧ ((s.foreignReturn c off).cell c).sok = (s.cell c).sok := by
  have hcell : (s.foreignCounted c).cell c = s.cell c := State.raise_cell _ _ _ _
  rw [State.foreignReturn_eq, if_neg (by rw [hcell]; exact hfree), State.notePlace, State.setCell_cell_self, State.setCell_cell_self, hcell]
  exact ⟨rfl, rfl, rfl, rfl, rfl, rfl⟩

theorem lockedReturn_foreign (s : State) {n c : Nat} (hc : c / 128 = n) (hn : n < 128) (hstandby : s.standby = false) (off : Int) {r : Return}
    (hcrc : r.crcOk = true) (hepoch : s.ownEpoch r = false) (hfree : (s.cell c).lstate ≠ .free) :
    (s.lockedReturn c off r).rd Fld.VLY_CNT_EPOCH_CNT = min (s.rd Fld.VLY_CNT_EPOCH_CNT + 1) (2 ^ 32 - 1) ∧
    (s.lockedReturn c off r).rd Fld.VLY_EVT_EPOCH_MISMATCH = 1 ∧
    ((s.lockedReturn c off r).cell c).fault = (s.cell c).fault ||| r.fault ∧ ((s.lockedReturn c off r).cell c).outcome = .epoch ∧
    ((s.lockedReturn c off r).cell c).missRun = (s.cell c).missRun ∧ ((s.lockedReturn c off r).cell c).sid = (s.cell c).sid ∧
    ((s.lockedReturn c off r).cell c).vkey = (s.cell c).vkey ∧ ((s.lockedReturn c off r).cell c).sok = (s.cell c).sok ∧
    (s.lockedReturn c off r).image = s.image ∧ (s.lockedReturn c off r).spokeState n = s.spokeState n := by
  subst hc
  have harrived := heard_arrived hn hstandby off r
  obtain ⟨m, hcell⟩ := State.arrived_cell_self hn hstandby hfree off r
  have hepochs : (s.arrived c off r).rd Fld.VLY_CNT_EPOCH_CNT = s.rd Fld.VLY_CNT_EPOCH_CNT :=
    harrived.regs _ (by simp [readFields, returnCounters])
  have hbranch : s.lockedReturn c off r = (s.arrived c off r).foreignReturn c off := by
    rw [State.lockedReturn_eq, if_neg (by simp [hcrc]), if_neg (by simp [State.burstLocked_ownEpoch hn, hepoch]),
      if_neg (by simp [State.burstLocked_ownEpoch hn, hepoch])]
    rfl
  obtain ⟨hcount, hflag, himage, hstate⟩ := foreignReturn_spec hn (s.arrived c off r) c off
  have hself := foreignReturn_cell (s := s.arrived c off r) (c := c) (by rw [hcell]; exact hfree) off
  obtain ⟨hout, hfault, hmiss, hsid, hkey, hsok⟩ := hself
  rw [hbranch]
  refine ⟨hcount.trans (by rw [hepochs]), hflag, ?_, hout, ?_, ?_, ?_, ?_, himage.trans harrived.image, hstate.trans harrived.state.spokeState⟩
  · rw [hfault, hcell]
  · rw [hmiss, hcell]
  · rw [hsid, hcell]
  · rw [hkey, hcell]
  · rw [hsok, hcell]

/-! ### A return in its own slot (R131, R135) -/

/-- The return is out of place (R95). -/
def State.outOf (s : State) (c : Nat) (off : Int) : Bool := decide (inPlaceUi (s.rd (Fld.SPK_STAT_GEAR (c / 128))) < off.natAbs)

/-- The return is not of the running volley's sample, or has none (R131). -/
def State.staleOf (s : State) (r : Return) : Bool := r.sid.toNat != s.rd Fld.VLY_NOW2_SID_NOW || !r.svalid

def State.staleCounted (s : State) (stale : Bool) : State := if stale then s.bump Fld.VLY_CNT_STALE_CNT else s

/-- The place of the return is noted; the first in place admits its cell. -/
def State.admitting (s : State) (c : Nat) (off : Int) (stale out : Bool) : State :=
  let t := s.notePlace c off (!stale) false
  if (t.cell c).lstate = .assigned ∧ ¬ out then t.admitCell c else t

/-- The outcome of the return. -/
def State.placed (s : State) (c : Nat) (off : Int) (stale out : Bool) : State :=
  (s.admitting c off stale out).setCell c (fun x => { x with
    outcome := if stale then .stale else if out then .outOfPlace else .inPlace, stale := if stale then min (x.stale + 1) 65535 else x.stale })

/-- The sample, the states and the point of a return are taken. -/
def State.given (s : State) (c : Nat) (r : Return) (stale : Bool) : State := (s.useReturn c r stale).pointPart c r

theorem State.ownReturn_eq (s : State) (c : Nat) (off : Int) (r : Return) : s.ownReturn c off r =
    (let t := (if s.outOf c off then s else s.adoptCell c r).staleCounted (s.staleOf r)
     if (t.cell c).lstate = .free then t
     else
       let u := (t.placed c off (s.staleOf r) (s.outOf c off)).given c r (s.staleOf r)
       (if r.pstat = 0 ∧ r.point.val = 128 then u.hearBinding c r.value else u).rerangeCell c) := rfl

theorem State.adoptCell_of_active {s : State} (h : s.standby = false) (c : Nat) (r : Return) : s.adoptCell c r = s := by
  rw [State.adoptCell, if_pos (.inl (by simp [h]))]

theorem State.hearBinding_of_active {s : State} (h : s.standby = false) (c : Nat) (v : BitVec 40) : s.hearBinding c v = s := by
  rw [State.hearBinding, if_pos (by simp [h])]

theorem State.staleCounted_cell (s : State) (stale : Bool) (d : Nat) : (s.staleCounted stale).cell d = s.cell d := by
  unfold State.staleCounted
  split <;> rfl

theorem State.staleCounted_cells (s : State) (stale : Bool) : (s.staleCounted stale).cells = s.cells := by
  unfold State.staleCounted
  split <;> rfl

theorem State.staleCounted_image (s : State) (stale : Bool) : (s.staleCounted stale).image = s.image := by
  unfold State.staleCounted
  split <;> rfl

theorem State.rd_staleCounted (s : State) (stale : Bool) : (s.staleCounted stale).rd Fld.VLY_CNT_STALE_CNT =
    if stale then min (s.rd Fld.VLY_CNT_STALE_CNT + 1) (2 ^ 32 - 1) else s.rd Fld.VLY_CNT_STALE_CNT := by
  unfold State.staleCounted
  split
  · exact State.rd_bump_self s _ 1
  · rfl

theorem State.rd_staleCounted_ne (s : State) (stale : Bool) {g : Field} (hg : g.key ≠ Fld.VLY_CNT_STALE_CNT.key) :
    (s.staleCounted stale).rd g = s.rd g := by
  unfold State.staleCounted
  split
  · exact State.rd_bump_ne s 1 hg
  · rfl

theorem placed_regs (s : State) (c : Nat) (off : Int) (stale out : Bool) {g : Field} (hg : g.CountsReturns) :
    (s.placed c off stale out).rd g = s.rd g := by
  rw [State.placed, State.setCell_rd, State.admitting]
  split
  · rw [(keepsRecord_admitCell _ c).regs g hg, State.rd_admitted, State.rd_notePlace]
  · exact s.rd_notePlace c off _ _ g

/-- What follows the outcome keeps the counters, and of every cell what the return gave. -/
theorem given_spec (s : State) (c : Nat) (r : Return) (stale : Bool) :
    (∀ d, Cell.SameReturn ((s.setCell c (fun x => x.taking r stale)).cell d) ((s.given c r stale).cell d)) ∧
    (∀ g : Field, g.CountsReturns → (s.given c r stale).rd g = s.rd g) ∧
    (r.pstat = 0 → FMap.get ImagePoint.reset (s.given c r stale).image (imageKey c r.point.val) = ⟨r.value, true, s.volley.setWidth 16⟩) := by
  obtain ⟨hkeep, -⟩ := useReturn_spec s c r stale
  obtain ⟨hcells, hregs, himage⟩ := pointPart_spec (s.useReturn c r stale) c r
  have hvolley : (s.useReturn c r stale).volley = s.volley := by
    rw [State.volley, State.volley, hkeep.regs _ (by unfold Field.CountsReturns; decide), State.setCell_rd]
  unfold State.given
  refine ⟨fun d => (hkeep.cells d).trans (hcells d).sameReturn, fun g hg => ?_, fun hp => ?_⟩
  · rw [hregs g hg, hkeep.regs g hg, State.setCell_rd]
  rw [← hvolley]
  exact himage hp

/-- Of a cell that is not yet admitted, or admitted and well on its link, the link state and the places stay too. -/
theorem given_record {s : State} {c : Nat} {r : Return} (stale : Bool)
    (h : (s.cell c).lstate = .assigned ∨ (s.cell c).lstate = .admitted ∧ r.fw = false) :
    ((s.given c r stale).cell c).lstate = (s.cell c).lstate ∧ ((s.given c r stale).cell c).last16 = (s.cell c).last16 := by
  have hkeep := ((useReturn_spec s c r stale).2 h).cells c
  have hpoint := (pointPart_spec (s.useReturn c r stale) c r).1 c
  have hall := hkeep.trans hpoint
  rw [State.setCell_cell_self] at hall
  exact ⟨hall.lstate, hall.last16⟩

/-- On a module that is no standby a return of a cell is placed, taken, and may give the cell a new range. -/
theorem State.ownReturn_of_active {s : State} (hstandby : s.standby = false) {c : Nat} (hfree : (s.cell c).lstate ≠ .free) (off : Int) (r : Return) :
    s.ownReturn c off r =
      (((s.staleCounted (s.staleOf r)).placed c off (s.staleOf r) (s.outOf c off)).given c r (s.staleOf r)).rerangeCell c := by
  have hact : (((s.staleCounted (s.staleOf r)).placed c off (s.staleOf r) (s.outOf c off)).given c r (s.staleOf r)).standby = false := by
    have hstate : Fld.TND_STAT_STATE.CountsReturns := by unfold Field.CountsReturns; decide
    have hrd := ((given_spec ((s.staleCounted (s.staleOf r)).placed c off (s.staleOf r) (s.outOf c off)) c r (s.staleOf r)).2.1 _ hstate).trans
      ((placed_regs (s.staleCounted (s.staleOf r)) c off (s.staleOf r) (s.outOf c off) hstate).trans
        (s.rd_staleCounted_ne (s.staleOf r) (g := Fld.TND_STAT_STATE) (by decide)))
    unfold State.standby State.tndState at hstandby ⊢
    rw [hrd]
    exact hstandby
  rw [State.ownReturn_eq]
  dsimp only
  rw [State.adoptCell_of_active hstandby, ite_self, State.staleCounted_cell, if_neg hfree, State.hearBinding_of_active hact, ite_self]

theorem State.ownReturn_of_free {s : State} (hstandby : s.standby = false) {c : Nat} (hfree : (s.cell c).lstate = .free) (off : Int) (r : Return) :
    s.ownReturn c off r = s.staleCounted (s.staleOf r) := by
  rw [State.ownReturn_eq]
  dsimp only
  rw [State.adoptCell_of_active hstandby, ite_self, State.staleCounted_cell, if_pos hfree]

theorem State.lockedReturn_own {s : State} {c : Nat} (hn : c / 128 < 128) (off : Int) {r : Return} (hcrc : r.crcOk = true)
    (hepoch : s.ownEpoch r = true) (hslot : r.slot = c % 128) : s.lockedReturn c off r = (s.arrived c off r).ownReturn c off r := by
  rw [State.lockedReturn_eq, if_neg (by simp [hcrc]), if_neg (fun h => h.2 hslot), if_pos (by rw [State.burstLocked_ownEpoch hn, hepoch])]
  rfl

/-- What the place and the sample of a return are judged by stands as it arrives. -/
theorem State.arrived_judged {s : State} {c : Nat} (hn : c / 128 < 128) (hstandby : s.standby = false) (off : Int) (r : Return) :
    (s.arrived c off r).standby = false ∧ (s.arrived c off r).staleOf r = s.staleOf r ∧ (s.arrived c off r).outOf c off = s.outOf c off := by
  have hheard := heard_arrived hn hstandby off r
  refine ⟨hheard.state.standby.trans hstandby, ?_, ?_⟩
  · rw [State.staleOf, State.staleOf, hheard.regs _ (by simp [readFields])]
  · rw [State.outOf, State.outOf, hheard.regs _ (by simp [readFields])]

/-- A return in a slot without a cell counts when it is stale, and changes no cell (R131). -/
theorem lockedReturn_free (s : State) {n c : Nat} (hc : c / 128 = n) (hn : n < 128) (hstandby : s.standby = false) (off : Int) {r : Return}
    (hcrc : r.crcOk = true) (hepoch : s.ownEpoch r = true) (hslot : r.slot = c % 128) (hfree : (s.cell c).lstate = .free) :
    (s.lockedReturn c off r).rd Fld.VLY_CNT_STALE_CNT =
      (if s.staleOf r then min (s.rd Fld.VLY_CNT_STALE_CNT + 1) (2 ^ 32 - 1) else s.rd Fld.VLY_CNT_STALE_CNT) ∧
    (s.lockedReturn c off r).cells = s.cells ∧ (s.lockedReturn c off r).image = s.image := by
  subst hc
  have hnamed : cellId (c / 128) r.slot = c := by
    unfold cellId
    omega
  have hheard := heard_arrived hn hstandby off r
  obtain ⟨hact, hstale, -⟩ := State.arrived_judged hn hstandby off r
  have hlocked : (s.lockedIn (c / 128) r).cells = s.cells := State.lockedIn_cells_of_free (by rw [hnamed]; exact hfree)
  have hcells : (s.arrived c off r).cells = s.cells := by
    rw [State.arrived_cells hn hstandby, State.noteFault_cells_of_free (by rw [State.cell, hlocked]; exact hfree), hlocked]
  have hcell : ((s.arrived c off r).cell c).lstate = .free := by
    rw [State.cell, hcells]
    exact hfree
  rw [State.lockedReturn_own hn off hcrc hepoch hslot, State.ownReturn_of_free hact hcell, hstale]
  refine ⟨?_, (State.staleCounted_cells _ _).trans hcells, (State.staleCounted_image _ _).trans hheard.image⟩
  rw [State.rd_staleCounted, hheard.regs _ (by simp [readFields, returnCounters])]

theorem State.placed_of_admitted {s : State} {c : Nat} (h : (s.cell c).lstate ≠ .assigned) (off : Int) (stale out : Bool) :
    s.placed c off stale out = (s.notePlace c off (!stale) false).setCell c (fun x => { x with
      outcome := if stale then .stale else if out then .outOfPlace else .inPlace
      stale := if stale then min (x.stale + 1) 65535 else x.stale }) := by
  have hstate : ((s.notePlace c off (!stale) false).cell c).lstate = (s.cell c).lstate := by
    rw [State.notePlace, State.setCell_cell_self]
  rw [State.placed, State.admitting, if_neg fun hh => h (hstate.symm.trans hh.1)]

/-- The place of a return leaves what the last one gave. -/
theorem placed_cell {s : State} {c : Nat} (h : (s.cell c).lstate ≠ .assigned) (off : Int) (stale out : Bool) :
    ((s.placed c off stale out).cell c).outcome = (if stale then .stale else if out then .outOfPlace else .inPlace) ∧
    ((s.placed c off stale out).cell c).sid = (s.cell c).sid ∧ ((s.placed c off stale out).cell c).vkey = (s.cell c).vkey ∧
    ((s.placed c off stale out).cell c).fault = (s.cell c).fault := by
  rw [State.placed_of_admitted h, State.setCell_cell_self, State.notePlace, State.setCell_cell_self]
  exact ⟨rfl, rfl, rfl, rfl⟩

theorem placed_cell_ne {s : State} {c d : Nat} (h : (s.cell c).lstate ≠ .assigned) (hd : d ≠ c) (off : Int) (stale out : Bool) :
    (s.placed c off stale out).cell d = s.cell d := by
  rw [State.placed_of_admitted h, State.setCell_cell_ne _ _ _ hd, State.notePlace, State.setCell_cell_ne _ _ _ hd]

/-- The return of a cell that is not free leaves of every cell what it gives, and its point (R131, R138). -/
theorem ownReturn_spec {s : State} (hstandby : s.standby = false) {c : Nat} (hfree : (s.cell c).lstate ≠ .free) (off : Int) (r : Return) :
    Cell.SameReturn ((((s.staleCounted (s.staleOf r)).placed c off (s.staleOf r) (s.outOf c off)).cell c).taking r (s.staleOf r))
      ((s.ownReturn c off r).cell c) ∧
    (∀ d, d ≠ c → Cell.SameReturn (((s.staleCounted (s.staleOf r)).placed c off (s.staleOf r) (s.outOf c off)).cell d)
      ((s.ownReturn c off r).cell d)) ∧
    (∀ g : Field, g.CountsReturns → (s.ownReturn c off r).rd g = (s.staleCounted (s.staleOf r)).rd g) ∧
    (r.pstat = 0 → FMap.get ImagePoint.reset (s.ownReturn c off r).image (imageKey c r.point.val) = ⟨r.value, true, s.volley.setWidth 16⟩) := by
  have hvolley : ((s.staleCounted (s.staleOf r)).placed c off (s.staleOf r) (s.outOf c off)).volley = s.volley := by
    rw [State.volley, State.volley, placed_regs _ _ _ _ _ (by unfold Field.CountsReturns; decide), State.rd_staleCounted_ne _ _ (by decide)]
  obtain ⟨hcells, hregs, himage⟩ := given_spec ((s.staleCounted (s.staleOf r)).placed c off (s.staleOf r) (s.outOf c off)) c r (s.staleOf r)
  have hrange := keepsReturn_rerangeCell
    (((s.staleCounted (s.staleOf r)).placed c off (s.staleOf r) (s.outOf c off)).given c r (s.staleOf r)) c
  rw [State.ownReturn_of_active hstandby hfree]
  refine ⟨?_, fun d hd => ?_, fun g hg => ?_, fun hp => ?_⟩
  · have hself := hcells c
    rw [State.setCell_cell_self] at hself
    exact hself.trans (hrange.cells c)
  · have hother := hcells d
    rw [State.setCell_cell_ne _ _ _ hd] at hother
    exact hother.trans (hrange.cells d)
  · rw [hrange.regs g hg, hregs g hg, placed_regs _ _ _ _ _ hg]
  · rw [hrange.image, himage hp, hvolley]

/-- What a cell shows that has taken a return. -/
theorem Cell.SameReturn.of_taking {x y : Cell} {r : Return} {stale : Bool} (h : Cell.SameReturn (x.taking r stale) y) :
    y.outcome = x.outcome ∧ y.cstate = r.cstate ∧ y.sok = r.sok ∧ y.blk = r.blk ∧ y.fault = x.fault ∧
    y.sid = (if stale then x.sid else r.sid) ∧ y.vkey = (if stale then x.vkey else r.vkey) ∧ y.sampleOk = (!stale && !y.dropped) ∧
    (x.lstate.admitted? = true → y.lstate.admitted? = true) := by
  refine ⟨h.outcome, h.cstate, h.sok, h.blk, h.fault, h.sid, h.vkey, ?_, h.admitted⟩
  rcases h.sample with ⟨hok, hdrop⟩ | ⟨hok, hdrop⟩ <;> rw [hok, hdrop]
  · rfl
  · rw [Bool.not_true, Bool.and_false]

theorem countsReturns_stale : Fld.VLY_CNT_STALE_CNT.CountsReturns := by
  unfold Field.CountsReturns
  decide

theorem countsReturns_place {n : Nat} (hn : n < 128) : (Fld.SPK_CNT_PLACE_CNT n).CountsReturns := by
  refine ⟨rfl, .inl ⟨?_, ?_⟩⟩
  · simp only [Fld.SPK_CNT_PLACE_CNT]
    omega
  · simp only [Fld.SPK_CNT_PLACE_CNT]
    omega

/-- The return of an admitted cell is used: place, sample, states and point (R131, R138). -/
theorem lockedReturn_admitted (s : State) {n c : Nat} (hc : c / 128 = n) (hn : n < 128) (hstandby : s.standby = false) (off : Int) {r : Return}
    (hcrc : r.crcOk = true) (hepoch : s.ownEpoch r = true) (hslot : r.slot = c % 128) (hadm : (s.cell c).lstate.admitted? = true)
    {t : State} (ht : s.lockedReturn c off r = t) :
    (t.cell c).outcome = (if s.staleOf r then .stale else if s.outOf c off then .outOfPlace else .inPlace) ∧ (t.cell c).cstate = r.cstate ∧
    (t.cell c).sok = r.sok ∧ (t.cell c).blk = r.blk ∧ (t.cell c).fault = (s.cell c).fault ||| r.fault ∧
    (t.cell c).sid = (if s.staleOf r then (s.cell c).sid else r.sid) ∧ (t.cell c).vkey = (if s.staleOf r then (s.cell c).vkey else r.vkey) ∧
    (t.cell c).sampleOk = (!s.staleOf r && !(t.cell c).dropped) ∧
    t.rd Fld.VLY_CNT_STALE_CNT =
      (if s.staleOf r then min (s.rd Fld.VLY_CNT_STALE_CNT + 1) (2 ^ 32 - 1) else s.rd Fld.VLY_CNT_STALE_CNT) ∧
    t.rd (Fld.SPK_CNT_PLACE_CNT n) =
      (if s.outOf c off then min (s.rd (Fld.SPK_CNT_PLACE_CNT n) + 1) (2 ^ 32 - 1) else s.rd (Fld.SPK_CNT_PLACE_CNT n)) ∧
    (r.pstat = 0 → FMap.get ImagePoint.reset t.image (imageKey c r.point.val) = ⟨r.value, true, s.volley.setWidth 16⟩) ∧
    (∀ d : Nat, d ≠ c → (t.cell d).sid = (s.cell d).sid ∧ (t.cell d).vkey = (s.cell d).vkey ∧ (t.cell d).outcome = (s.cell d).outcome) := by
  subst hc
  have hfree : (s.cell c).lstate ≠ .free := fun h => by rw [h] at hadm; cases hadm
  have hassigned : (s.cell c).lstate ≠ .assigned := fun h => by rw [h] at hadm; cases hadm
  have hheard := heard_arrived hn hstandby off r
  have hplace := State.rd_arrived_place hn hstandby off r
  obtain ⟨hact, hstale, hout⟩ := State.arrived_judged hn hstandby off r
  obtain ⟨m, hcell⟩ := State.arrived_cell_self hn hstandby hfree off r
  have hother (d : Nat) (hd : d ≠ c) := State.arrived_cell_ne hn hstandby hd off r
  rw [State.lockedReturn_own hn off hcrc hepoch hslot] at ht
  generalize s.arrived c off r = a at *
  obtain ⟨hself, hothers, hregs, himage⟩ := ownReturn_spec hact (c := c) (by rw [hcell]; exact hfree) off r
  have hassigned' : ((a.staleCounted (a.staleOf r)).cell c).lstate ≠ .assigned := by
    rw [State.staleCounted_cell, hcell]
    exact hassigned
  obtain ⟨houtcome, hsid, hvkey, hfault⟩ := placed_cell hassigned' off (a.staleOf r) (a.outOf c off)
  rw [State.staleCounted_cell, hcell] at hsid hvkey hfault
  obtain ⟨hout', hcstate, hsok, hblk, hfault', hsid', hvkey', hsample, -⟩ := hself.of_taking
  subst ht
  rw [← hstale, ← hout]
  refine ⟨hout'.trans houtcome, hcstate, hsok, hblk, hfault'.trans hfault, ?_, ?_, hsample, ?_, ?_, fun hp => ?_, fun d hd => ?_⟩
  · rw [hsid', hsid]
  · rw [hvkey', hvkey]
  · rw [hregs _ countsReturns_stale, State.rd_staleCounted, hheard.regs _ (by simp [readFields, returnCounters])]
  · rw [hregs _ (countsReturns_place hn), State.rd_staleCounted_ne _ _ (readFields_ne_place hn _ (by simp [readFields, returnCounters])).symm, hplace,
      hout]
    simp only [State.outOf, decide_eq_true_eq]
  · rw [himage hp, State.volley, State.volley, hheard.regs _ (by simp [readFields])]
  · have hd' := hothers d hd
    rw [placed_cell_ne hassigned' hd, State.staleCounted_cell] at hd'
    obtain ⟨m', hcell'⟩ := hother d hd
    rw [hcell'] at hd'
    exact ⟨hd'.sid, hd'.vkey, hd'.outcome⟩

/-! ### The return of an assigned cell (R135) -/

/-- Out of place it leaves the cell assigned. -/
theorem placed_assigned_out {s : State} {c : Nat} (h : (s.cell c).lstate = .assigned) (off : Int) (stale : Bool) :
    ((s.placed c off stale true).cell c).lstate = .assigned := by
  rw [State.placed, State.setCell_cell_self, State.admitting, if_neg (by simp), State.notePlace, State.setCell_cell_self]
  exact h

/-- In place it admits the cell, which then has this return alone where it had none. -/
theorem placed_assigned_in {s : State} {c : Nat} (h : (s.cell c).lstate = .assigned) (off : Int) (stale : Bool) :
    ((s.placed c off stale false).cell c).lstate = .admitted ∧
    ((s.cell c).last16 = [] → ((s.placed c off stale false).cell c).last16.length < 2) := by
  have hstate : ((s.notePlace c off (!stale) false).cell c).lstate = .assigned := by
    rw [State.notePlace, State.setCell_cell_self]
    exact h
  have hnoted : (s.cell c).last16 = [] → ((s.notePlace c off (!stale) false).cell c).last16.length < 2 := by
    intro hlast
    rw [State.notePlace, State.setCell_cell_self, hlast]
    simp
  obtain ⟨hadmitted, hplaces⟩ := (s.notePlace c off (!stale) false).admitCell_cell c
  rw [State.placed, State.setCell_cell_self, State.admitting, if_pos ⟨hstate, by simp⟩]
  exact ⟨hadmitted, fun hlast => by rw [hplaces]; exact hnoted hlast⟩

/-- Out of place the return leaves the cell assigned; in place it admits the cell. -/
theorem lockedReturn_assigned (s : State) {n c : Nat} (hc : c / 128 = n) (hn : n < 128) (hstandby : s.standby = false) (off : Int) {r : Return}
    (hcrc : r.crcOk = true) (hepoch : s.ownEpoch r = true) (hslot : r.slot = c % 128) (hassigned : (s.cell c).lstate = .assigned) :
    (s.outOf c off = true → ((s.lockedReturn c off r).cell c).lstate = .assigned) ∧
    (s.outOf c off = false → ((s.lockedReturn c off r).cell c).lstate.admitted? = true ∧
      ((s.cell c).last16 = [] → r.fw = false → ((s.lockedReturn c off r).cell c).lstate = .admitted)) := by
  subst hc
  have hfree : (s.cell c).lstate ≠ .free := by simp [hassigned]
  obtain ⟨hact, -, hout⟩ := State.arrived_judged hn hstandby off r
  obtain ⟨m, hcell⟩ := State.arrived_cell_self hn hstandby hfree off r
  rw [State.lockedReturn_own hn off hcrc hepoch hslot, ← hout]
  generalize s.arrived c off r = a at *
  have hcounted : (a.staleCounted (a.staleOf r)).cell c = { s.cell c with sample := m, fault := (s.cell c).fault ||| r.fault } :=
    (a.staleCounted_cell _ c).trans hcell
  have hstate : ((a.staleCounted (a.staleOf r)).cell c).lstate = .assigned := by rw [hcounted]; exact hassigned
  have hfree' : (a.cell c).lstate ≠ .free := by rw [hcell]; exact hfree
  refine ⟨fun hyes => ?_, fun hno => ⟨?_, fun hlast hfw => ?_⟩⟩
  · have hplaced := placed_assigned_out hstate off (a.staleOf r)
    have hgiven := (given_record (r := r) (a.staleOf r) (.inl hplaced)).1.trans hplaced
    rw [State.ownReturn_of_active hact hfree', hyes, rerangeCell_of_assigned hgiven]
    exact hgiven
  · obtain ⟨hself, -⟩ := ownReturn_spec hact hfree' off r
    rw [hno] at hself
    obtain ⟨-, -, -, -, -, -, -, -, hadm⟩ := hself.of_taking
    refine hadm ?_
    rw [(placed_assigned_in hstate off (a.staleOf r)).1]
    rfl
  · obtain ⟨hplaced, hfew⟩ := placed_assigned_in hstate off (a.staleOf r)
    obtain ⟨hgiven, hplaces⟩ := given_record (r := r) (a.staleOf r) (.inr ⟨hplaced, hfw⟩)
    rw [State.ownReturn_of_active hact hfree', hno, rerangeCell_of_few (by rw [hplaces]; exact hfew (by rw [hcounted]; exact hlast))]
    exact hgiven.trans hplaced

end Sys2Proof.Machine

open Sys2Proof Sys2Proof.Machine

/-- Settles O26: outcome by outcome of a burst, each the lemma about what the command does with it. -/
theorem returnBurstChecks : Obligations.ReturnBurstChecks := by
  unfold Obligations.ReturnBurstChecks
  intro s spoke slot off bits
  have hc := cellId_div spoke.val slot
  have hk := cellId_mod spoke.val slot
  have hn := spoke.isLt
  refine ⟨fun h => exec_returnBurst_of_not_hears h slot off bits, fun hhear hstandby hpert => ?_⟩
  have hexec := exec_returnBurst hhear hpert slot off bits
  refine ⟨fun hnone => ?_, fun hnear r hr => ?_⟩
  · have hidle : exec (.returnBurstReceive spoke slot off bits) s = .next (s.noLockAt (cellId spoke.val slot.val)) := by
      rw [hexec]
      rcases hnone with hnone | hfar
      · rw [hnone, ite_self]
      · rw [if_pos hfar]
    refine ⟨fun ⟨hadm, hmuted, hwait⟩ => ⟨_, hidle, noLockAt_spec hc hhear hadm hmuted hwait⟩, fun hno => ?_⟩
    rw [hidle, noLockAt_of_idle hno]
  have hread : exec (.returnBurstReceive spoke slot off bits) s = .next (s.lockedReturn (cellId spoke.val slot.val) off r) := by
    rw [hexec, if_neg (by omega), hr]
  have hown (b : Bool) (h : decide (r.epochLo.toNat = s.rd Fld.VLY_NOW2_EPOCH % 16) = b) : s.ownEpoch r = b := h
  have hstale : s.staleOf r = (decide (r.sid.toNat ≠ s.rd Fld.VLY_NOW2_SID_NOW) || !r.svalid) := by
    rw [State.staleOf, bne, decide_not]
    rfl
  have hout : s.outOf (cellId spoke.val slot.val) off = decide (inPlaceUi (s.rd (Fld.SPK_STAT_GEAR spoke.val)) < off.natAbs) := by
    rw [State.outOf, hc]
  refine ⟨fun hcrc => ?_, fun hcrc hepoch hslot => ?_, fun hcrc hepoch hfree => ?_, fun hcrc hepoch hslot hfree => ?_,
    fun hcrc hepoch hslot hadm => ?_, fun hcrc hepoch hslot hassigned => ?_⟩
  · exact ⟨_, hread, lockedReturn_crcFail s hc hn off hcrc⟩
  · exact ⟨_, hread, lockedReturn_misplaced s hc hn off hcrc (hown _ hepoch) (by rw [hk]; exact hslot)⟩
  · exact ⟨_, hread, lockedReturn_foreign s hc hn hstandby off hcrc (hown _ hepoch) hfree⟩
  · obtain ⟨hcount, hcells, himage⟩ := lockedReturn_free s hc hn hstandby off hcrc (hown _ hepoch) (by rw [hk]; exact hslot) hfree
    exact ⟨_, hread, hcount.trans (by rw [hstale]), hcells, himage⟩
  · have hall := lockedReturn_admitted s hc hn hstandby off hcrc (hown _ hepoch) (by rw [hk]; exact hslot) hadm rfl
    rw [hstale, hout] at hall
    exact ⟨_, hread, hall⟩
  · have hall := lockedReturn_assigned s hc hn hstandby off hcrc (hown _ hepoch) (by rw [hk]; exact hslot) hassigned
    rw [hout] at hall
    exact ⟨_, hread, hall⟩

end

section
/-! PROOFS. The feeds (R38 to R40, R54, R56): what HKP_FEED_STAT shows of them, and what an event of one leaves. -/

namespace Sys2Proof.Machine

/-! ### The state of a feed -/

@[simp] theorem State.feed_setFeed_self (s : State) (f : Feed) (k : FeedUnit → FeedUnit) : (s.setFeed f k).feed f = k (s.feed f) :=
  FMap.get_modify_self _ _ _ _

theorem feedNum_otherFeed_ne (f : Feed) : feedNum (otherFeed f) ≠ feedNum f := by cases f <;> decide

@[simp] theorem State.feed_setFeed_other (s : State) (f : Feed) (k : FeedUnit → FeedUnit) :
    (s.setFeed f k).feed (otherFeed f) = s.feed (otherFeed f) :=
  FMap.get_modify_ne _ _ _ (feedNum_otherFeed_ne f)

theorem State.feed_of_feeds {s t : State} (h : t.feeds = s.feeds) (f : Feed) : t.feed f = s.feed f := by rw [State.feed, h, State.feed]

theorem OnlyLogged.feeds {fs : List Field} {s t : State} (h : OnlyLogged fs s t) : t.feeds = s.feeds := by rw [h.2]

theorem feedOk_iff (s : State) (f : Feed) : FeedOk s f ↔ (s.feed f).usable = true := by simp [FeedUnit.usable]

theorem feedMay_iff (s : State) (f : Feed) : FeedMay s f ↔ (s.feed f).closable = true := by
  simp [FeedUnit.closable, FeedUnit.usable]

theorem State.conducts_iff (s : State) (f : Feed) :
    s.conducts f = true ↔ FeedMay s f ∧ (¬ FeedMay s (otherFeed f) ∨ (s.feed (otherFeed f)).mv ≤ (s.feed f).mv + 30) := by
  simp only [feedMay_iff, State.conducts, Bool.and_eq_true, Bool.or_eq_true, Bool.not_eq_true', decide_eq_true_eq, Bool.not_eq_true]

theorem State.oneFeed_iff (s : State) : s.oneFeed = true ↔ ¬ (FeedOk s .a ↔ FeedOk s .b) := by
  rw [feedOk_iff, feedOk_iff, State.oneFeed, bne_iff_ne, ne_eq, Bool.eq_iff_iff]

/-! ### What HKP_FEED_STAT shows (R38, R54, R56) -/

/-- The live fields of HKP_FEED_STAT. -/
def feedFields : List Field :=
  [Fld.HKP_FEED_STAT_A_OK, Fld.HKP_FEED_STAT_A_CARRY, Fld.HKP_FEED_STAT_B_OK, Fld.HKP_FEED_STAT_B_CARRY, Fld.HKP_FEED_STAT_SINGLE]

theorem feedOk_mem (f : Feed) : feedOk f ∈ feedFields := by cases f <;> decide

theorem feedCarry_mem (f : Feed) : feedCarry f ∈ feedFields := by cases f <;> decide

/-- The live fields, told from one feed and the other. -/
theorem mem_feedFields (f : Feed) :
    ∀ g ∈ feedFields, g ∈ [feedOk f, feedCarry f, feedOk (otherFeed f), feedCarry (otherFeed f), Fld.HKP_FEED_STAT_SINGLE] := by
  cases f <;> decide

/-- What the feeds write to the OK and CARRY fields. -/
def State.feedWrites (s : State) : List (Field × Nat) :=
  [Feed.a, Feed.b].flatMap fun f =>
    [(feedOk f, if (s.feed f).usable = true then 1 else 0), (feedCarry f, if s.conducts f = true then 1 else 0)]

theorem State.feedBits_eq (s : State) : s.feedBits = s.wrs s.feedWrites := rfl

theorem State.feedWrites_nodup (s : State) : (s.feedWrites.map fun p => p.1.key).Nodup := by
  change ([feedOk .a, feedCarry .a, feedOk .b, feedCarry .b].map Field.key).Nodup
  decide

theorem onlyRegs_feedBits (s : State) : OnlyRegs feedFields s s.feedBits :=
  OnlyRegs.mono (fs := [feedOk .a, feedCarry .a, feedOk .b, feedCarry .b]) (onlyRegs_wrs s s.feedWrites) (by decide)

theorem State.rd_feedBits (s : State) (f : Feed) :
    s.feedBits.rd (feedOk f) = (if (s.feed f).usable = true then 1 else 0) ∧
    s.feedBits.rd (feedCarry f) = (if s.conducts f = true then 1 else 0) := by
  have hrd {p : Field × Nat} (hp : p ∈ s.feedWrites) (hw : p.1.width = 1) (hv : p.2 < 2) : s.feedBits.rd p.1 = p.2 := by
    rw [State.feedBits_eq, State.rd_wrs_mem s.feedWrites_nodup hp, hw]
    exact Nat.mod_eq_of_lt hv
  have hf : f ∈ [Feed.a, Feed.b] := by cases f <;> decide
  have hlt (b : Bool) : (if b = true then 1 else 0) < 2 := by cases b <;> decide
  refine ⟨hrd (List.mem_flatMap.2 ⟨f, hf, .head _⟩) ?_ (hlt _), hrd (List.mem_flatMap.2 ⟨f, hf, .tail _ (.head _)⟩) ?_ (hlt _)⟩ <;>
    cases f <;> rfl

/-- SINGLE follows the feeds, as an event or without one; the other fields stay. -/
theorem State.showFeeds_single (s : State) :
    s.showFeeds.rd Fld.HKP_FEED_STAT_SINGLE = (if s.oneFeed = true then 1 else 0) ∧
    OnlyLogged [Fld.HKP_FEED_STAT_SINGLE] s.feedBits s.showFeeds := by
  unfold State.showFeeds
  dsimp only
  split
  next h =>
    obtain ⟨hone, -⟩ := h
    exact ⟨(State.rd_raise_self _ _ _ rfl (by decide)).trans (if_pos hone).symm, State.onlyLogged_raise _ _ _⟩
  next => exact ⟨State.rd_wrB_self _ _ _ (by decide), (onlyRegs_wr _ _ _).onlyLogged⟩

theorem onlyLogged_showFeeds (s : State) : OnlyLogged feedFields s s.showFeeds :=
  (onlyRegs_feedBits s).onlyLogged.trans (s.showFeeds_single.2.mono (by decide))

theorem feedsShown_showFeeds (s : State) : FeedsShown s.showFeeds := by
  obtain ⟨hsingle, hrest⟩ := s.showFeeds_single
  have hfeed := State.feed_of_feeds (onlyLogged_showFeeds s).feeds
  refine ⟨fun f => ?_, ?_⟩
  · obtain ⟨hok, hcarry⟩ := s.rd_feedBits f
    have hkept : ∀ f, s.showFeeds.rd (feedOk f) = s.feedBits.rd (feedOk f) ∧ s.showFeeds.rd (feedCarry f) = s.feedBits.rd (feedCarry f) :=
      fun f => ⟨hrest.1 _ (by cases f <;> decide), hrest.1 _ (by cases f <;> decide)⟩
    simp only [FeedMay, FeedOk, hfeed]
    exact ⟨(hkept f).1.trans (hok.trans (if_congr (feedOk_iff s f).symm rfl rfl)),
      (hkept f).2.trans (hcarry.trans (if_congr (s.conducts_iff f) rfl rfl))⟩
  · simp only [FeedOk, hfeed]
    rw [hsingle]
    simp only [s.oneFeed_iff, ite_not]

/-- HKP_FEED_STAT still shows the feeds after events of other fields. -/
theorem OnlyLogged.feedsShown {fs : List Field} {s t : State} (h : OnlyLogged fs s t)
    (hfs : ∀ x ∈ feedFields, ∀ g ∈ fs ++ loggedFields, x.key ≠ g.key)
    (hs : FeedsShown s) : FeedsShown t := by
  have hfeed := State.feed_of_feeds h.feeds
  have hrd {x : Field} (hx : x ∈ feedFields) : t.rd x = s.rd x := h.1 x (hfs x hx)
  obtain ⟨heach, hsingle⟩ := hs
  refine ⟨fun f => ?_, ?_⟩
  · simp only [FeedMay, FeedOk, hfeed, hrd (feedOk_mem f), hrd (feedCarry_mem f)]
    exact heach f
  · simp only [FeedOk, hfeed, hrd (show Fld.HKP_FEED_STAT_SINGLE ∈ feedFields by decide)]
    exact hsingle

/-! ### Events of a feed (R39, R40) -/

/-- What an event leaves that changes feed `f` by `k`, shows the feeds and sets the flags of `fs`. -/
theorem feedEvent_spec {s t : State} {f : Feed} {k : FeedUnit → FeedUnit} {fs : List Field} (h : OnlyLogged fs (s.setFeed f k).showFeeds t)
    (hfs : ∀ x ∈ feedFields, ∀ g ∈ fs ++ loggedFields, x.key ≠ g.key) :
    t.feed f = k (s.feed f) ∧ FeedsShown t ∧ OnlyFeeds f fs s t := by
  have hshow := onlyLogged_showFeeds (s.setFeed f k)
  have hfeed := State.feed_of_feeds (h.feeds.trans hshow.feeds)
  refine ⟨(hfeed f).trans (s.feed_setFeed_self f k), h.feedsShown hfs (feedsShown_showFeeds _),
    (hfeed _).trans (s.feed_setFeed_other f k), fun g hg => ?_, ?_⟩
  · simp only [List.mem_append] at hg
    refine (h.1 g fun x hx => hg x ?_).trans (hshow.1 g fun x hx => hg x ?_)
    · exact (List.mem_append.1 hx).imp_left .inr
    · exact (List.mem_append.1 hx).imp_left fun hx => .inl (mem_feedFields f x hx)
  · rw [h.2, hshow.2]
    rfl

/-- An event of feed `f` that sets no flag. -/
theorem showFeeds_spec (s : State) (f : Feed) (k : FeedUnit → FeedUnit) :
    (s.setFeed f k).showFeeds.feed f = k (s.feed f) ∧ FeedsShown (s.setFeed f k).showFeeds ∧ OnlyFeeds f [] s (s.setFeed f k).showFeeds :=
  feedEvent_spec (OnlyLogged.refl [] _) (by decide)

/-- Fields of one bit that neither the feeds nor the log change. -/
def Field.IsFeedFlag (g : Field) : Prop :=
  g.width = 1 ∧ (∀ x ∈ eventFields, g.key ≠ x.key) ∧ ∀ x ∈ feedFields, ∀ y ∈ [g] ++ loggedFields, x.key ≠ y.key

theorem feedLow_isFeedFlag (f : Feed) : (feedLow f).IsFeedFlag := by unfold Field.IsFeedFlag; cases f <;> decide

theorem feedOv_isFeedFlag (f : Feed) : (feedOv f).IsFeedFlag := by unfold Field.IsFeedFlag; cases f <;> decide

theorem feedRev_isFeedFlag (f : Feed) : (feedRev f).IsFeedFlag := by unfold Field.IsFeedFlag; cases f <;> decide

/-- An event of feed `f` that sets the flag `g` where `b` holds. -/
theorem showFeeds_raiseIf_spec (s : State) (f : Feed) (k : FeedUnit → FeedUnit) {g : Field} (hg : g.IsFeedFlag) (b : Bool) (n : Nat) :
    ((s.setFeed f k).showFeeds.raiseIf b g n).feed f = k (s.feed f) ∧
    ((s.setFeed f k).showFeeds.raiseIf b g n).rd g = (if b = true then 1 else s.rd g) ∧
    FeedsShown ((s.setFeed f k).showFeeds.raiseIf b g n) ∧ OnlyFeeds f [g] s ((s.setFeed f k).showFeeds.raiseIf b g n) := by
  obtain ⟨hw, hlog, hfeeds⟩ := hg
  obtain ⟨hfeed, hshown, honly⟩ := feedEvent_spec (onlyLogged_raiseIf (s.setFeed f k).showFeeds b g n) hfeeds
  have hold : (s.setFeed f k).showFeeds.rd g = s.rd g := by
    refine (onlyLogged_showFeeds (s.setFeed f k)).1 g fun x hx => ?_
    rcases List.mem_append.1 hx with hx | hx
    · exact (hfeeds x hx g (by simp)).symm
    · exact hlog x hx
  refine ⟨hfeed, ?_, hshown, honly⟩
  rw [State.rd_raiseIf_self _ b g n hw hlog, hold]

/-- An event of feed `f` that sets the flag `g`. -/
theorem showFeeds_raise_spec (s : State) (f : Feed) (k : FeedUnit → FeedUnit) {g : Field} (hg : g.IsFeedFlag) (n : Nat) :
    ((s.setFeed f k).showFeeds.raise g n).feed f = k (s.feed f) ∧ ((s.setFeed f k).showFeeds.raise g n).rd g = 1 ∧
    FeedsShown ((s.setFeed f k).showFeeds.raise g n) ∧ OnlyFeeds f [g] s ((s.setFeed f k).showFeeds.raise g n) := by
  have hraise : (s.setFeed f k).showFeeds.raiseIf true g n = (s.setFeed f k).showFeeds.raise g n := if_pos rfl
  have h := showFeeds_raiseIf_spec s f k hg true n
  rwa [if_pos rfl, hraise] at h

/-- A feed that is reclosed leads the other by 50 mV (R39; log 132). -/
theorem exec_reverseReclose_spec (s : State) (f : Feed) : ∃ t, exec (.reverseReclose f) s = .next t ∧ (t.feed f).trip = false ∧
    (t.feed f).up = (s.feed f).up ∧ (t.feed f).ov = (s.feed f).ov ∧ (s.feed (otherFeed f)).mv + 50 ≤ (t.feed f).mv ∧ FeedsShown t ∧
    OnlyFeeds f [] s t := by
  obtain ⟨hfeed, hshown, honly⟩ :=
    showFeeds_spec s f fun x => { x with trip := false, mv := max x.mv ((s.feed (otherFeed f)).mv + 50) }
  refine ⟨_, rfl, ?_, ?_, ?_, ?_, hshown, honly⟩ <;> rw [hfeed]
  exact Nat.le_max_right _ _

end Sys2Proof.Machine

end

section
/-! PROOFS. An island fault of VSAF (R57, R458): its flags, and that it changes nothing outside the island but history and log. -/

namespace Sys2Proof.Machine

/-! ### Changes of the island -/

/-- Nothing but the listed register fields, the island, the history queues and the module log changes. -/
def OnlyIsland (fs : List Field) (s t : State) : Prop :=
  RegsBut fs s t ∧ t = { s with regs := t.regs, saf := t.saf, hist := t.hist, log := t.log }

theorem OnlyIsland.refl (fs : List Field) (s : State) : OnlyIsland fs s s := ⟨fun _ _ => rfl, rfl⟩

theorem OnlyIsland.trans {fs : List Field} {s t u : State} (h : OnlyIsland fs s t) (k : OnlyIsland fs t u) : OnlyIsland fs s u := by
  obtain ⟨h1, h2⟩ := h
  obtain ⟨k1, k2⟩ := k
  exact ⟨h1.trans k1, by rw [k2, h2]⟩

theorem OnlyIsland.mono {fs gs : List Field} {s t : State} (h : OnlyIsland fs s t) (hs : ∀ f ∈ fs, f ∈ gs) : OnlyIsland gs s t :=
  ⟨h.1.mono hs, h.2⟩

theorem OnlyLogged.onlyIsland {fs : List Field} {s t : State} (h : OnlyLogged fs s t) : OnlyIsland (fs ++ loggedFields) s t := by
  obtain ⟨h1, h2⟩ := h
  exact ⟨h1, by rw [h2]⟩

theorem OnlyRegs.onlyIsland {fs : List Field} {s t : State} (h : OnlyRegs fs s t) : OnlyIsland fs s t := by
  obtain ⟨h1, h2⟩ := h
  exact ⟨h1, by rw [h2]⟩

theorem onlyIsland_foldl {α : Type} {fs : List Field} {k : State → α → State} {l : List α} (hk : ∀ a ∈ l, ∀ s, OnlyIsland fs s (k s a)) :
    ∀ s : State, OnlyIsland fs s (l.foldl k s) := by
  induction l with
  | nil => exact OnlyIsland.refl fs
  | cons a t ih =>
    intro s
    exact (hk a (by simp) s).trans (ih (fun b hb => hk b (List.mem_cons_of_mem a hb)) _)

/-! ### Outputs locked out (R468, R472) -/

/-- What the island shows of its outputs and functions. -/
def islandShown : List Field :=
  [Fld.SAF_STAT_SO_ON, Fld.SAF_STAT_SO_LOCKOUT, Fld.SAF_STAT_FN_ENABLE] ++
    (List.range 4).flatMap fun i => [Fld.SAF_SO_STAT_ON i, Fld.SAF_SO_STAT_TEST i, Fld.SAF_SO_STAT_LOCKOUT i]

theorem outFields_subset {i : Nat} (hi : i ∈ List.range 4) :
    ∀ g ∈ [Fld.SAF_SO_STAT_ON i, Fld.SAF_SO_STAT_TEST i, Fld.SAF_SO_STAT_LOCKOUT i], g ∈ islandShown :=
  fun _ hg => List.mem_append_right _ (List.mem_flatMap.2 ⟨i, hi, hg⟩)

theorem onlyIsland_wr {fs : List Field} (s : State) {f : Field} (v : Nat) (hf : f ∈ fs) : OnlyIsland fs s (s.wr f v) :=
  (onlyRegs_wr s f v).onlyIsland.mono fun g hg => by rw [List.mem_singleton.1 hg]; exact hf

theorem onlyIsland_setOut (fs : List Field) (s : State) (i : Nat) (k : SafOut → SafOut) : OnlyIsland fs s (s.setOut i k) :=
  ⟨fun _ _ => rfl, rfl⟩

theorem onlyIsland_switchOut (s : State) {i : Nat} (hi : i ∈ List.range 4) (on : Bool) : OnlyIsland islandShown s (s.switchOut i on) := by
  have hsub := outFields_subset hi
  unfold State.switchOut
  split
  · exact OnlyIsland.refl _ s
  · exact ((onlyIsland_wr s _ (hsub _ (by simp))).trans (onlyIsland_wr _ _ (hsub _ (by simp)))).trans (onlyIsland_setOut _ _ _ _)

theorem onlyIsland_lockOut (s : State) {i : Nat} (hi : i ∈ List.range 4) (c : LockCause) : OnlyIsland islandShown s (s.lockOut i c) :=
  (onlyIsland_setOut _ s _ _).trans (onlyIsland_switchOut _ hi false)

theorem onlyIsland_showIsland (s : State) : OnlyIsland islandShown s s.showIsland := by
  unfold State.showIsland
  dsimp only
  refine (onlyIsland_foldl (fun i hi u => ?_) s).trans (onlyIsland_foldl (fun f _ u => onlyIsland_wr u _ (by simp [islandShown])) _)
  exact ((onlyIsland_wr u _ (by simp [islandShown])).trans (onlyIsland_wr _ _ (by simp [islandShown]))).trans
    (onlyIsland_wr _ _ (outFields_subset hi _ (by simp)))

/-! ### The fault (R458) -/

/-- The flags of the island's faults. -/
def islandFlags : List Field := [Fld.SAF_EVT_LOCKSTEP, Fld.SAF_EVT_CROSS, Fld.SAF_EVT_CLOCK, Fld.SAF_EVT_VSAF]

/-- The event of an island fault; one of the memories has none of its own. -/
def State.islandEvent (s : State) : IslandCause → State
  | .lockstep => s.raise Fld.SAF_EVT_LOCKSTEP
  | .cross => s.raise Fld.SAF_EVT_CROSS
  | .clock => s.raise Fld.SAF_EVT_CLOCK
  | .vsaf => s.raise Fld.SAF_EVT_VSAF
  | .ecc => s

theorem onlyLogged_islandEvent (s : State) (cause : IslandCause) : OnlyLogged islandFlags s (s.islandEvent cause) := by
  cases cause with
  | lockstep | cross | clock | vsaf => exact (State.onlyLogged_raise s _ _).mono (by decide)
  | ecc => exact OnlyLogged.refl _ s

/-- The faults of 24 h once one more comes at `now`. -/
def State.faultsWith (s : State) (now : Nat) : List Nat := now :: s.saf.faults.filter (fun t => decide (now < t + 86400))

/-- The island with a fault dated. -/
def State.faultDated (s : State) (now : Nat) (cause : IslandCause) : State :=
  { s with saf := { s.saf with faults := s.faultsWith now, differ := 0, faultAt := s.nowTick, vsaf := cause == .vsaf } }

/-- The island with a fault dated and every output locked out. -/
def State.islandLocked (s : State) (now : Nat) (cause : IslandCause) : State :=
  (List.range 4).foldl (fun s i => s.lockOut i .island) (s.faultDated now cause)

theorem onlyIsland_islandLocked (s : State) (now : Nat) (cause : IslandCause) : OnlyIsland islandShown s (s.islandLocked now cause) := by
  have hdated : OnlyIsland islandShown s (s.faultDated now cause) := ⟨fun _ _ => rfl, rfl⟩
  exact hdated.trans (onlyIsland_foldl (fun _ hi u => onlyIsland_lockOut u hi .island) _)

/-- What an island fault writes to SAF_STAT. -/
def State.faultWrites (s : State) (now : Nat) : List (Field × Nat) :=
  [(Fld.SAF_STAT_ISL_FAULT, 1), (Fld.SAF_STAT_ISL_HOLD, if 3 ≤ (s.faultsWith now).length then 1 else 0)]

theorem State.faultWrites_nodup (s : State) (now : Nat) : ((s.faultWrites now).map fun p => p.1.key).Nodup := by
  change ([Fld.SAF_STAT_ISL_FAULT, Fld.SAF_STAT_ISL_HOLD].map Field.key).Nodup
  decide

theorem onlyRegs_faultWrites (s u : State) (now : Nat) : OnlyRegs [Fld.SAF_STAT_ISL_FAULT, Fld.SAF_STAT_ISL_HOLD] s (s.wrs (u.faultWrites now)) :=
  onlyRegs_wrs s (u.faultWrites now)

theorem State.islandFault_eq (s : State) (cause : IslandCause) :
    s.islandFault cause = if ¬ s.islandRuns = true ∨ (cause = .cross ∧ s.saf.differ < 3) then s
      else (((s.islandEvent cause).islandLocked s.secondsNow cause).wrs ((s.islandEvent cause).faultWrites s.secondsNow)).showIsland := by
  cases cause <;> rfl

/-- What an island fault may change of the registers. -/
def islandFaultFields : List Field := [Fld.SAF_STAT_ISL_FAULT, Fld.SAF_STAT_ISL_HOLD] ++ islandShown ++ islandFlags ++ loggedFields

theorem onlyIsland_islandFault (s : State) (cause : IslandCause) : OnlyIsland islandFaultFields s (s.islandFault cause) := by
  rw [State.islandFault_eq]
  split
  · exact OnlyIsland.refl _ s
  · have hevent := (onlyLogged_islandEvent s cause).onlyIsland.mono (gs := islandFaultFields) (by decide)
    have hlocked := (onlyIsland_islandLocked (s.islandEvent cause) s.secondsNow cause).mono (gs := islandFaultFields) (by decide)
    have hwrites := (onlyRegs_faultWrites ((s.islandEvent cause).islandLocked s.secondsNow cause) (s.islandEvent cause) s.secondsNow).onlyIsland
    exact ((hevent.trans hlocked).trans (hwrites.mono (by decide))).trans ((onlyIsland_showIsland _).mono (by decide))

/-- A running island shows its fault, and VSAF as its cause. -/
theorem State.islandFault_vsaf {s : State} (hruns : s.islandRuns = true) :
    (s.islandFault .vsaf).rd Fld.SAF_EVT_VSAF = 1 ∧ (s.islandFault .vsaf).rd Fld.SAF_STAT_ISL_FAULT = 1 := by
  have hstays : ¬ (¬ s.islandRuns = true ∨ IslandCause.vsaf = .cross ∧ s.saf.differ < 3) := by simp [hruns]
  have hshown := onlyIsland_showIsland (((s.islandEvent .vsaf).islandLocked s.secondsNow .vsaf).wrs ((s.islandEvent .vsaf).faultWrites s.secondsNow))
  have hwrites := onlyRegs_faultWrites ((s.islandEvent .vsaf).islandLocked s.secondsNow .vsaf) (s.islandEvent .vsaf) s.secondsNow
  have hlocked := onlyIsland_islandLocked (s.islandEvent .vsaf) s.secondsNow .vsaf
  rw [State.islandFault_eq, if_neg hstays]
  constructor
  · rw [hshown.1 _ (by decide), hwrites.1 _ (by decide), hlocked.1 _ (by decide)]
    exact State.rd_raise_self s _ _ rfl (by decide)
  · rw [hshown.1 _ (by decide)]
    exact State.rd_wrs_mem (State.faultWrites_nodup _ _) (.head _) _

end Sys2Proof.Machine

end

section
/-! PROOFS. Rails (R44, R57), VBAT (R54) and the junction temperature (R52), and the events of feeds and rails as a whole. -/

namespace Sys2Proof.Machine

/-! ### Rails -/

/-- The flag of a rail outside its window (R57). -/
def State.railFlagged (s : State) (rail : Fin 8) : State :=
  if rail.val = 0 then s.raise Fld.HKP_RAIL_STAT_CORE_OOR 0
  else (s.wr Fld.HKP_RAIL_STAT_AUX_ID rail.val).raise Fld.HKP_RAIL_STAT_AUX_OOR rail.val

/-- The rails as flagged, with the fault that VSAF is to the island (R458). -/
def State.railFaulted (s : State) (rail : Fin 8) : State :=
  if rail.val = 5 then (s.railFlagged rail).islandFault .vsaf else s.railFlagged rail

theorem exec_railOutOfRange (s : State) (rail : Fin 8) : exec (.railOutOfRange rail) s = .next ((s.railFaulted rail).raiseYield 4) := rfl

def railFields : List Field := [Fld.HKP_RAIL_STAT_CORE_OOR, Fld.HKP_RAIL_STAT_AUX_OOR, Fld.HKP_RAIL_STAT_AUX_ID]

theorem onlyLogged_railFlagged (s : State) (rail : Fin 8) : OnlyLogged railFields s (s.railFlagged rail) := by
  unfold State.railFlagged
  split
  · exact (State.onlyLogged_raise s _ _).mono (by decide)
  · exact ((onlyRegs_wr s _ _).onlyLogged.mono (by decide)).trans ((State.onlyLogged_raise _ _ _).mono (by decide))

theorem State.railFlagged_core (s : State) : (s.railFlagged 0).rd Fld.HKP_RAIL_STAT_CORE_OOR = 1 := by
  rw [State.railFlagged, if_pos (by decide)]
  exact State.rd_raise_self s _ _ rfl (by decide)

theorem State.railFlagged_aux (s : State) {rail : Fin 8} (hrail : rail ≠ 0) :
    (s.railFlagged rail).rd Fld.HKP_RAIL_STAT_AUX_OOR = 1 ∧ (s.railFlagged rail).rd Fld.HKP_RAIL_STAT_AUX_ID = rail.val := by
  have hne : ¬ rail.val = 0 := fun h => hrail (Fin.ext h)
  rw [State.railFlagged, if_neg hne]
  refine ⟨State.rd_raise_self _ _ _ rfl (by decide), ?_⟩
  rw [State.rd_raise_ne _ _ _ _ (by decide) (by decide), State.rd_wr_self]
  exact Nat.mod_eq_of_lt rail.isLt

theorem onlyIsland_railFaulted (s : State) (rail : Fin 8) : OnlyIsland islandFaultFields (s.railFlagged rail) (s.railFaulted rail) := by
  unfold State.railFaulted
  split
  · exact onlyIsland_islandFault _ .vsaf
  · exact OnlyIsland.refl _ _

theorem State.railFaulted_of_ne (s : State) {rail : Fin 8} (hrail : rail ≠ 5) : s.railFaulted rail = s.railFlagged rail :=
  if_neg fun h => hrail (Fin.ext h)

/-- A flag of the rails that the event has set still stands after the island's fault and the yield condition. -/
theorem State.rd_railOutOfRange (s : State) (rail : Fin 8) : ∀ g ∈ railFields,
    ((s.railFaulted rail).raiseYield 4).rd g = (s.railFlagged rail).rd g := by
  have hyield : ∀ g ∈ railFields, ∀ f ∈ [Fld.TND_CAUSE_LIVE, Fld.TND_EVT_HELD_NO_TWIN] ++ loggedFields, g.key ≠ f.key := by decide
  have hisland : ∀ g ∈ railFields, ∀ f ∈ islandFaultFields, g.key ≠ f.key := by decide
  exact fun g hg => (regsBut_raiseYield _ 4 g (hyield g hg)).trans ((onlyIsland_railFaulted s rail).1 g (hisland g hg))

/-- VSAF outside its window is a fault of a running island (R57, R458). -/
theorem State.railOutOfRange_vsaf {s : State} (hruns : s.islandRuns = true) :
    ((s.railFaulted 5).raiseYield 4).rd Fld.SAF_EVT_VSAF = 1 ∧ ((s.railFaulted 5).raiseYield 4).rd Fld.SAF_STAT_ISL_FAULT = 1 := by
  have hruns' : (s.railFlagged 5).islandRuns = true := by
    rw [State.islandRuns, State.flag, State.flag, (onlyLogged_railFlagged s 5).1 _ (by decide), (onlyLogged_railFlagged s 5).1 _ (by decide)]
    exact hruns
  obtain ⟨hvsaf, hfault⟩ := State.islandFault_vsaf hruns'
  rw [State.railFaulted, if_pos (by decide)]
  exact ⟨(regsBut_raiseYield _ 4 _ (by decide)).trans hvsaf, (regsBut_raiseYield _ 4 _ (by decide)).trans hfault⟩

/-- Beside registers, events, the island and what is due of the tandem a rail changes nothing. -/
theorem State.railOutOfRange_parts (s : State) (rail : Fin 8) :
    let t := (s.railFaulted rail).raiseYield 4
    t = { s with regs := t.regs, hist := t.hist, log := t.log, tnd := t.tnd, saf := t.saf } := by
  have hyield := (s.railFaulted rail).raiseYield_sameButYield 4
  obtain ⟨-, hisland⟩ := onlyIsland_railFaulted s rail
  obtain ⟨-, hflag⟩ := onlyLogged_railFlagged s rail
  unfold SameButYield at hyield
  dsimp only
  rw [hyield, hisland, hflag]

/-- A rail that is not VSAF leaves the island as it was. -/
theorem State.railOutOfRange_off_vsaf (s : State) {rail : Fin 8} (hrail : rail ≠ 5) :
    ((s.railFaulted rail).raiseYield 4).saf = s.saf ∧
    RegsBut ([Fld.HKP_RAIL_STAT_CORE_OOR, Fld.HKP_RAIL_STAT_AUX_OOR, Fld.HKP_RAIL_STAT_AUX_ID, Fld.TND_CAUSE_LIVE,
      Fld.TND_EVT_HELD_NO_TWIN] ++ loggedFields) s ((s.railFaulted rail).raiseYield 4) := by
  obtain ⟨hregs, hflag⟩ := onlyLogged_railFlagged s rail
  rw [s.railFaulted_of_ne hrail]
  refine ⟨?_, (hregs.mono (by decide)).trans ((regsBut_raiseYield _ 4).mono (by decide))⟩
  rw [State.raiseYield_saf, hflag]

/-! ### Junction temperature (R52) -/

theorem exec_junctionTempFlag_spec (s : State) (tj : BitVec 8) : ∃ t, exec (.junctionTempFlag tj) s = .next t ∧
    t.rd Fld.HKP_THERM_TJ = tj.toNat ∧
    t.rd Fld.HKP_THERM_TJ_HOT = (if 110 ≤ tj.toInt then 1 else s.rd Fld.HKP_THERM_TJ_HOT) ∧
    t.rd Fld.HKP_THERM_TJ_CRIT = (if 125 ≤ tj.toInt then 1 else s.rd Fld.HKP_THERM_TJ_CRIT) ∧
    OnlyLogged [Fld.HKP_THERM_TJ, Fld.HKP_THERM_TJ_HOT, Fld.HKP_THERM_TJ_CRIT] s t := by
  have hwrite := onlyRegs_wr s Fld.HKP_THERM_TJ tj.toNat
  have hhot := onlyLogged_raiseIf (s.wr Fld.HKP_THERM_TJ tj.toNat) (decide (110 ≤ tj.toInt)) Fld.HKP_THERM_TJ_HOT 0
  have hcrit := onlyLogged_raiseIf ((s.wr Fld.HKP_THERM_TJ tj.toNat).raiseIf (decide (110 ≤ tj.toInt)) Fld.HKP_THERM_TJ_HOT)
    (decide (125 ≤ tj.toInt)) Fld.HKP_THERM_TJ_CRIT 0
  refine ⟨_, rfl, ?_, ?_, ?_, ((hwrite.onlyLogged.mono (by decide)).trans (hhot.mono (by decide))).trans (hcrit.mono (by decide))⟩
  · rw [hcrit.1 _ (by decide), hhot.1 _ (by decide), State.rd_wr_self]
    exact Nat.mod_eq_of_lt tj.isLt
  · rw [hcrit.1 _ (by decide), State.rd_raiseIf_self _ _ _ _ rfl (by decide), hwrite.1 _ (by decide)]
    simp only [decide_eq_true_eq]
  · rw [State.rd_raiseIf_self _ _ _ _ rfl (by decide), hhot.1 _ (by decide), hwrite.1 _ (by decide)]
    simp only [decide_eq_true_eq]

end Sys2Proof.Machine

open Sys2Proof Sys2Proof.Machine

/-- Settles O11: each event of a feed changes the feed, shows both feeds and sets its flag; the rails by `State.railFaulted`. -/
theorem feedAndRailEvents : Obligations.FeedAndRailEvents := by
  unfold Obligations.FeedAndRailEvents
  intro s
  refine ⟨fun f mv => ⟨_, rfl, showFeeds_spec s f _⟩, fun f mv => ?warning, fun f => ⟨_, rfl, showFeeds_spec s f _⟩,
    fun f => ⟨_, rfl, showFeeds_raise_spec s f _ (feedOv_isFeedFlag f) _⟩, fun f mv => ⟨_, rfl, showFeeds_spec s f _⟩,
    fun f => ⟨_, rfl, showFeeds_raise_spec s f _ (feedRev_isFeedFlag f) _⟩, exec_reverseReclose_spec s, fun mv => ?vbat,
    fun r => ?rail, exec_junctionTempFlag_spec s⟩
  case warning =>
    obtain ⟨hfeed, hflag, hshown, honly⟩ := showFeeds_raiseIf_spec s f (fun x => { x with mv := mv.toNat }) (feedLow_isFeedFlag f)
      (decide (mv.toNat < s.rd Fld.HKP_FEED_CFG_WARN_MV)) (feedNum f)
    simp only [decide_eq_true_eq] at hflag
    exact ⟨_, rfl, hfeed, hflag, hshown, honly⟩
  case vbat =>
    have hflag := State.rd_raiseIf_self s (decide (mv < 2200)) Fld.HKP_FEED_STAT_VBAT_LOW 0 rfl (by decide)
    simp only [decide_eq_true_eq] at hflag
    exact ⟨_, rfl, hflag, onlyLogged_raiseIf s _ _ _⟩
  case rail =>
    have hkept := s.rd_railOutOfRange r
    refine ⟨_, exec_railOutOfRange s r, fun hr => ?_, fun hr => ?_, fun ⟨hr, hruns⟩ => ?_, State.raiseYield_live _ (by decide),
      fun hr => s.railOutOfRange_off_vsaf hr, s.railOutOfRange_parts r⟩
    · rw [hkept _ (by decide), hr]
      exact s.railFlagged_core
    · obtain ⟨hoor, hid⟩ := s.railFlagged_aux hr
      exact ⟨(hkept _ (by decide)).trans hoor, (hkept _ (by decide)).trans hid⟩
    · rw [hr]
      exact State.railOutOfRange_vsaf hruns

end

section
/-! PROOFS. Reset frames (R63, R439, R440): the state in which one is judged, its verdict, and what its answer leaves. -/

namespace Sys2Proof.Machine

/-! ### The verdict (R439) -/

/-- Of a list of checks with their statuses, the first that fails names the status. -/
theorem firstFailed_cons (b : Bool) (st : Status) (l : List (Bool × Status)) :
    (((b, st) :: l).find? (fun c => !c.1)).map (·.2) = if b = false then some st else (l.find? (fun c => !c.1)).map (·.2) := by
  cases b <;> rfl

theorem State.checkResetFrame_eq (s : State) (n : Nat) (r : ResetFrame) : s.checkResetFrame n r = resetVerdict s n r := by
  simp only [State.checkResetFrame, State.resetFrameChecks, resetVerdict, List.cons_append, List.nil_append, firstFailed_cons,
    List.find?_nil, Option.map_none, State.flag, Bool.and_eq_false_iff, Bool.or_eq_false_iff, decide_eq_false_iff_not, bne_eq_false_iff_eq,
    beq_eq_false_iff_ne, Nat.not_lt, Nat.not_le, or_assoc, ne_eq]

/-! ### What a reset frame is judged by -/

/-- The counters that a reset frame on port `n` moves before its verdict is acted on. -/
def frameCounters (n : Nat) : List Field := [Fld.STP_ST_CNT_RX_CNT n, Fld.SEC_CNT_SIGOK_CNT, Fld.SEC_CNT_SIGFAIL_CNT]

theorem ne_frameCounters {n : Nat} {g : Field} : (∀ f ∈ frameCounters n, g.key ≠ f.key) ↔
    g.key ≠ (Fld.STP_ST_CNT_RX_CNT n).key ∧ g.key ≠ Fld.SEC_CNT_SIGOK_CNT.key ∧ g.key ≠ Fld.SEC_CNT_SIGFAIL_CNT.key := by
  simp [frameCounters]

/-- `u` is `s` but for these counters and the records of the ports. -/
def SameJudge (n : Nat) (s u : State) : Prop := RegsBut (frameCounters n) s u ∧ u = { s with regs := u.regs, ports := u.ports }

section
variable {n : Nat} {s u : State}

theorem OnlyRegs.sameJudge {fs : List Field} (h : OnlyRegs fs s u) (hfs : ∀ f ∈ fs, f ∈ frameCounters n) : SameJudge n s u := by
  refine ⟨h.1.mono hfs, ?_⟩
  rw [h.2]

theorem sameJudge_setPort (n i : Nat) (s : State) (k : StpPort → StpPort) : SameJudge n s (s.setPort i k) := ⟨fun _ _ => rfl, rfl⟩

theorem SameJudge.trans {t : State} (h : SameJudge n s t) (k : SameJudge n t u) : SameJudge n s u := by
  refine ⟨h.1.trans k.1, ?_⟩
  rw [k.2, h.2]

variable (h : SameJudge n s u)
include h

/-- A field outside block STP but the two counters of signatures reads the same. -/
theorem SameJudge.rd (hn : n < 4) {g : Field} (hg : g.key < 0x8700000 * 32 ∨ 0x8700800 * 32 ≤ g.key)
    (hok : g.key ≠ Fld.SEC_CNT_SIGOK_CNT.key) (hfail : g.key ≠ Fld.SEC_CNT_SIGFAIL_CNT.key) : u.rd g = s.rd g := by
  refine h.1 g (ne_frameCounters.2 ⟨?_, hok, hfail⟩)
  simp only [Field.key, Fld.STP_ST_CNT_RX_CNT] at hg ⊢
  omega

theorem SameJudge.rd_rstEn : u.rd (Fld.STP_ST_CFG_RST_EN n) = s.rd (Fld.STP_ST_CFG_RST_EN n) := by
  refine h.1 _ (ne_frameCounters.2 ?_)
  simp only [Field.key, Fld.STP_ST_CFG_RST_EN, Fld.STP_ST_CNT_RX_CNT, Fld.SEC_CNT_SIGOK_CNT, Fld.SEC_CNT_SIGFAIL_CNT]
  omega

/-- A field below block STP reads the same. -/
theorem SameJudge.rd_below (hn : n < 4) {g : Field} (hg : g.key < 0x8700000 * 32) : u.rd g = s.rd g :=
  h.rd hn (.inl hg) (fun he => absurd (he ▸ hg) (by decide)) (fun he => absurd (he ▸ hg) (by decide))

theorem SameJudge.sec : u.sec = s.sec := (congrArg State.sec h.2).trans rfl
theorem SameJudge.rst : u.rst = s.rst := (congrArg State.rst h.2).trans rfl
theorem SameJudge.fuses : u.fuses = s.fuses := (congrArg State.fuses h.2).trans rfl
theorem SameJudge.tb : u.tb = s.tb := (congrArg State.tb h.2).trans rfl
theorem SameJudge.base (i : Nat) : u.base i = s.base i := by rw [State.base, h.tb, State.base]
theorem SameJudge.nowTick : u.nowTick = s.nowTick := by rw [State.nowTick, h.base, State.nowTick]

theorem SameJudge.serial (hn : n < 4) : u.serial = s.serial := by
  simp only [State.serial, State.fuse]
  rw [h.rd hn (by decide) (by decide) (by decide), h.rd hn (by decide) (by decide) (by decide)]

theorem SameJudge.serialOk : u.serialOk = s.serialOk := by rw [State.serialOk, h.fuses, State.serialOk]

theorem SameJudge.seconds (hn : n < 4) : u.seconds = s.seconds := h.rd hn (by decide) (by decide) (by decide)

theorem SameJudge.tb0Sync (hn : n < 4) : u.tb0Sync = s.tb0Sync := by
  rw [State.tb0Sync, State.flag, h.rd hn (by decide) (by decide) (by decide), State.tb0Sync, State.flag]

theorem SameJudge.secFloor (hn : n < 4) : u.secFloor = s.secFloor := by
  rw [State.secFloor, h.sec, h.seconds hn, State.secFloor]

theorem SameJudge.secRaw (hn : n < 4) : u.secRaw = s.secRaw := by
  rw [State.secRaw, h.tb0Sync hn, h.base, h.sec, h.seconds hn, State.secRaw]

theorem SameJudge.tSec (hn : n < 4) : u.tSec = s.tSec := by rw [State.tSec, h.secRaw hn, h.secFloor hn, State.tSec]

theorem SameJudge.authWord (hn : n < 4) (k : Nat) : u.rd (Fld.SEC_AUTH_WORD k 8) = s.rd (Fld.SEC_AUTH_WORD k 8) := by
  refine h.rd hn ?_ ?_ ?_ <;> simp only [Field.key, Fld.SEC_AUTH_WORD, Fld.SEC_CNT_SIGOK_CNT, Fld.SEC_CNT_SIGFAIL_CNT] <;> omega

theorem SameJudge.resetVerdict (hn : n < 4) (r : ResetFrame) : resetVerdict u n r = resetVerdict s n r := by
  simp only [Sys2Proof.Machine.resetVerdict, h.rd_rstEn, h.authWord hn, h.serial hn, h.serialOk, h.tSec hn, h.sec,
    h.rd hn (g := Fld.STP_RST_AUTH_MASK) (by decide) (by decide) (by decide),
    h.rd hn (g := Fld.SEC_LC_STATE) (by decide) (by decide) (by decide)]

theorem SameJudge.tndState (hn : n < 4) : u.tndState = s.tndState := h.rd hn (by decide) (by decide) (by decide)

theorem SameJudge.twinReady (hn : n < 4) : u.flag Fld.TND_STAT_TWIN_READY = s.flag Fld.TND_STAT_TWIN_READY := by
  rw [State.flag, h.rd hn (by decide) (by decide) (by decide), State.flag]

theorem SameJudge.mayServe (hn : n < 4) : u.mayServe = s.mayServe := by
  simp only [State.mayServe, State.started, State.flag, h.rst, h.rd hn (g := Fld.SEC_LC_STATE) (by decide) (by decide) (by decide),
    h.rd hn (g := Fld.SEC_LC_HOLD) (by decide) (by decide) (by decide), h.rd hn (g := Fld.TND_CFG_ROLE) (by decide) (by decide) (by decide)]

theorem SameJudge.serving (hn : n < 4) {i : Nat} (hi : i < 128) : u.serving i = s.serving i := by
  have hspk {g : Field} (hg : g.addr < 0x8010000) (hl : g.lsb < 32) : u.rd g = s.rd g :=
    h.rd_below hn (by unfold Field.key; omega)
  simp only [State.serving, State.activeOrSolo, State.flag, h.mayServe hn, h.tndState hn]
  rw [hspk (g := Fld.SPK_CFG_ENABLE i) (by simp only [Fld.SPK_CFG_ENABLE]; omega) (by simp [Fld.SPK_CFG_ENABLE]),
    hspk (g := Fld.SPK_STAT_FENCED i) (by simp only [Fld.SPK_STAT_FENCED]; omega) (by simp [Fld.SPK_STAT_FENCED]),
    hspk (g := Fld.SPK_STAT_ADMITTED i) (by simp only [Fld.SPK_STAT_ADMITTED]; omega) (by simp [Fld.SPK_STAT_ADMITTED])]

theorem SameJudge.anyServing (hn : n < 4) : u.anyServing = s.anyServing := by
  rw [Bool.eq_iff_iff]
  simp only [State.anyServing, List.any_eq_true, List.mem_range]
  exact exists_congr fun i => and_congr_right fun hi => by rw [h.serving hn hi]

end

/-! ### A signed reset (R63) -/

/-- R63 lets a signed reset through. -/
abbrev State.MayReset (s : State) (force : Bool) : Prop :=
  if s.tndState = 4 then s.flag Fld.TND_STAT_TWIN_READY = true ∨ force = true else s.tndState ≠ 0 ∨ s.anyServing = false ∨ force = true

/-- The reset is taken at the next boundary, after a yield where a twin is READY. -/
def State.atBoundaryFrom (s : State) (src : ResetSource) : State :=
  { s with rst := { s.rst with
    atBoundary := some { src := src, yield := decide (s.tndState = 4) && s.flag Fld.TND_STAT_TWIN_READY, since := s.nowTick } } }

theorem State.signedReset_eq (s : State) (force : Bool) (src : ResetSource) :
    s.signedReset force src = if s.MayReset force then some (s.atBoundaryFrom src) else none := by
  unfold State.signedReset State.MayReset State.atBoundaryFrom
  by_cases h4 : s.tndState = 4
  · cases hr : s.flag Fld.TND_STAT_TWIN_READY <;> cases force <;> simp [h4]
  · by_cases h0 : s.tndState = 0
    · cases hs : s.anyServing <;> cases force <;> simp [h0]
    · simp [h4, h0]

theorem SameJudge.mayReset {n : Nat} {s u : State} (h : SameJudge n s u) (hn : n < 4) (force : Bool) : u.MayReset force ↔ s.MayReset force := by
  rw [State.MayReset, h.tndState hn, h.twinReady hn, h.anyServing hn]

/-! ### A reset frame (R439, R440) -/

/-- The reset frames that port `n` has taken in the present second. -/
def State.resetCount (s : State) (n : Nat) : Nat :=
  if (s.port n).rstSec = (s.base 3).count / 1000000000 then (s.port n).rstCount else 0

/-- A further frame and its signature are counted. -/
def State.resetCounted (s : State) (n : Nat) (r : ResetFrame) : State :=
  (s.setPort n (fun p => { p with rstSec := (s.base 3).count / 1000000000, rstCount := s.resetCount n + 1 })).countResetSig n r

theorem onlyRegs_countResetSig (s : State) (n : Nat) (r : ResetFrame) :
    OnlyRegs [Fld.SEC_CNT_SIGOK_CNT, Fld.SEC_CNT_SIGFAIL_CNT] s (s.countResetSig n r) := by
  unfold State.countResetSig
  split
  · refine (onlyRegs_bump s _ 1).mono fun f hf => ?_
    rw [List.mem_singleton.1 hf]
    cases r.sigOk
    · exact List.mem_cons_of_mem _ List.mem_cons_self
    · exact List.mem_cons_self
  · exact OnlyRegs.refl _ s

theorem State.countResetSig_ports (s : State) (n : Nat) (r : ResetFrame) : (s.countResetSig n r).ports = s.ports := by
  rw [(onlyRegs_countResetSig s n r).2]

theorem sameJudge_resetCounted (s : State) (n : Nat) (r : ResetFrame) : SameJudge n s (s.resetCounted n r) :=
  (sameJudge_setPort n n s _).trans ((onlyRegs_countResetSig _ n r).sameJudge fun _ hf => List.mem_cons_of_mem _ hf)

theorem State.resetFrame_of_full {s : State} {n : Nat} (h : 16 ≤ s.resetCount n) (f : StationFrame) (r : ResetFrame) :
    s.resetFrame n f r = s.bump Fld.STP_CNT_RSTFAIL_CNT := if_pos h

/-- The module as a reset frame that passes leaves it: the reset ordered for the boundary and its counter the last accepted one. -/
def State.resetAccepted (s : State) (n : Nat) (r : ResetFrame) : State :=
  let t := s.atBoundaryFrom (.cmdStation n)
  { t with sec := { t.sec with rstCounter := r.counter } }

theorem State.resetFrame_of_free {s : State} {n : Nat} (h : s.resetCount n < 16) (f : StationFrame) (r : ResetFrame) :
    let u := s.resetCounted n r
    s.resetFrame n f r = (s.checkResetFrame n r).elim
      ((u.signedReset r.force (.cmdStation n)).elim ((u.answerReset n f r .notPermitted).raise Fld.STP_EVT_RST_REFUSED n)
        (fun t => ({ t with sec := { t.sec with rstCounter := r.counter } } : State).answerReset n f r .ok))
      (fun st => ((u.answerReset n f r st).bump Fld.STP_CNT_RSTFAIL_CNT).raise Fld.STP_EVT_RST_FAIL n) := by
  intro u
  refine (if_neg (Nat.not_le.2 h)).trans ?_
  dsimp only
  split
  next st hv => rw [show s.checkResetFrame n r = some st from hv, Option.elim_some]; rfl
  next hv =>
    rw [show s.checkResetFrame n r = none from hv, Option.elim_none]
    split
    next hsig => rw [show u.signedReset r.force (.cmdStation n) = none from hsig, Option.elim_none]; rfl
    next t hsig => rw [show u.signedReset r.force (.cmdStation n) = some t from hsig, Option.elim_some]

section
variable {s : State} {n : Nat} (h : s.resetCount n < 16) (f : StationFrame) {r : ResetFrame}
include h

theorem State.resetFrame_of_failed {st : Status} (hv : resetVerdict s n r = some st) : s.resetFrame n f r =
    (((s.resetCounted n r).answerReset n f r st).bump Fld.STP_CNT_RSTFAIL_CNT).raise Fld.STP_EVT_RST_FAIL n := by
  rw [State.resetFrame_of_free h, State.checkResetFrame_eq, hv, Option.elim_some]

theorem State.resetFrame_of_refused (hn : n < 4) (hv : resetVerdict s n r = none) (hmay : ¬ s.MayReset r.force) : s.resetFrame n f r =
    ((s.resetCounted n r).answerReset n f r .notPermitted).raise Fld.STP_EVT_RST_REFUSED n := by
  rw [State.resetFrame_of_free h, State.checkResetFrame_eq, hv, State.signedReset_eq,
    if_neg (mt ((sameJudge_resetCounted s n r).mayReset hn r.force).1 hmay), Option.elim_none, Option.elim_none]

theorem State.resetFrame_of_accepted (hn : n < 4) (hv : resetVerdict s n r = none) (hmay : s.MayReset r.force) : s.resetFrame n f r =
    ((s.resetCounted n r).resetAccepted n r).answerReset n f r .ok := by
  rw [State.resetFrame_of_free h, State.checkResetFrame_eq, hv, State.signedReset_eq,
    if_pos (((sameJudge_resetCounted s n r).mayReset hn r.force).2 hmay), Option.elim_none, Option.elim_some]
  rfl

end

/-! ### From the frame to its answer (R428, R438) -/

theorem State.forward_of_off {s : State} (h : s.rd Fld.STP_BRIDGE_EN = 0) (n : Nat) (f : StationFrame) (w : Option Nat) :
    s.forward n f w = s := by
  have hoff : s.flag Fld.STP_BRIDGE_EN = false := by rw [State.flag, h]; rfl
  simp [State.forward, hoff]

/-- The frame falls to the module's own protocol by R428 and is a reset frame of version 1 by R438. -/
abbrev IsResetFrame (s : State) (f : StationFrame) (pl : List (BitVec 8)) (sig : Bool) : Prop :=
  (f.etype ≠ 0x88F7 ∧ f.etype ≠ 0x88BA ∧ f.etype ≠ 0x88B8) ∧ f.etype.toNat = s.rd Fld.STP_ETYPE_ETYPE ∧ f.body = .own pl sig ∧
    byteAt pl 0 = 1 ∧ byteAt pl 1 = 1

theorem State.classify_resetFrame {s : State} {f : StationFrame} {pl : List (BitVec 8)} {sig : Bool} (h : IsResetFrame s f pl sig) (n : Nat) :
    s.classify n f = s.resetFrame n f (readReset pl sig) := by
  obtain ⟨⟨hptp, hsv, hgoose⟩, hown, hbody, hsub, hver⟩ := h
  rw [State.classify, if_neg hptp, if_neg hsv, if_neg hgoose, if_pos hown, State.ownFrame, hbody]
  simp [hsub, hver]

theorem exec_stationFrameReceive_reset {s : State} {p : Fin 4} {f : StationFrame} {pl : List (BitVec 8)} {sig : Bool}
    (htaken : FrameTaken p.val f s) (hbridge : s.rd Fld.STP_BRIDGE_EN = 0) (h : IsResetFrame s f pl sig) (w : Option Nat) :
    exec (.stationFrameReceive p f w) s =
      .next ((s.bump (Fld.STP_ST_CNT_RX_CNT p.val)).resetFrame p.val f (readReset pl sig)) := by
  obtain ⟨hlink, hlen, htags, hpause, hfcs⟩ := htaken
  have hetype : (s.bump (Fld.STP_ST_CNT_RX_CNT p.val)).rd Fld.STP_ETYPE_ETYPE = s.rd Fld.STP_ETYPE_ETYPE :=
    State.rd_bump_ne s 1 (by simp only [Field.key, Fld.STP_ETYPE_ETYPE, Fld.STP_ST_CNT_RX_CNT]; omega)
  rw [← State.classify_resetFrame (s := s.bump (Fld.STP_ST_CNT_RX_CNT p.val)) ⟨h.1, hetype ▸ h.2.1, h.2.2⟩]
  have hrule : ¬ (2048 < f.length ∨ f.twoTags = true ∨ f.pause = true) := by simp [htags, hpause, Nat.not_lt.2 hlen]
  show Host.Outcome.next (ite _ _ _) = _
  rw [if_neg (by simp [hlink]), if_neg hrule, State.forward_of_off hbridge, if_neg (by simp [hfcs])]

/-! ### What a received reset frame leaves (R439, R440) -/

/-- The frame counted at its port, as a frame received and as a reset frame of this second, and its signature. -/
def State.received (s : State) (n : Nat) (r : ResetFrame) : State := (s.bump (Fld.STP_ST_CNT_RX_CNT n)).resetCounted n r

theorem sameJudge_bump (s : State) (n : Nat) : SameJudge n s (s.bump (Fld.STP_ST_CNT_RX_CNT n)) :=
  (onlyRegs_bump s _ 1).sameJudge fun _ hf => List.mem_singleton.1 hf ▸ List.mem_cons_self

theorem sameJudge_answered (s : State) (n : Nat) (f : StationFrame) (r : ResetFrame) (st : Status) :
    SameJudge n s ((s.received n r).answerReset n f r st) :=
  ((sameJudge_bump s n).trans (sameJudge_resetCounted _ n r)).trans (sameJudge_setPort n n _ _)

theorem State.received_ports (s : State) (n : Nat) (r : ResetFrame) : (s.received n r).ports =
    (s.setPort n (fun p => { p with rstSec := (s.base 3).count / 1000000000, rstCount := s.resetCount n + 1 })).ports :=
  State.countResetSig_ports _ n r

theorem State.answered_port (s : State) {n : Nat} (hn : n < 4) (f : StationFrame) (r : ResetFrame) (st : Status) :
    (((s.received n r).answerReset n f r st).port n).reply = some ⟨f.src, st, r.counter, s.serial⟩ ∧
    (((s.received n r).answerReset n f r st).port n).rstCount = s.resetCount n + 1 := by
  have hserial : (s.received n r).serial = s.serial := ((sameJudge_bump s n).trans (sameJudge_resetCounted _ n r)).serial hn
  rw [State.answerReset, State.setPort_port_self, hserial]
  refine ⟨rfl, ?_⟩
  show (FMap.get StpPort.reset (s.received n r).ports n).rstCount = _
  rw [s.received_ports]
  exact congrArg StpPort.rstCount (s.setPort_port_self n _)

theorem mapBut_setPort (s : State) (n : Nat) (k : StpPort → StpPort) : MapBut StpPort.reset [n] s.ports (s.setPort n k).ports :=
  fun _ hi => s.setPort_port_ne n k (List.ne_of_not_mem_cons hi)

theorem State.answered_ports (s : State) (n : Nat) (f : StationFrame) (r : ResetFrame) (st : Status) :
    MapBut StpPort.reset [n] s.ports ((s.received n r).answerReset n f r st).ports := fun i hi => by
  rw [State.answerReset, mapBut_setPort _ n _ i hi, s.received_ports, mapBut_setPort s n _ i hi]

theorem State.SameButLogged.ports {s t : State} (h : State.SameButLogged s t) : t.ports = s.ports := (congrArg State.ports h).trans rfl

section
variable {s : State} {n : Nat} (hn : n < 4)
include hn

theorem key_rstFail_ne : ∀ f ∈ frameCounters n, Fld.STP_CNT_RSTFAIL_CNT.key ≠ f.key := by
  refine ne_frameCounters.2 ⟨?_, by decide, by decide⟩
  simp only [Field.key, Fld.STP_CNT_RSTFAIL_CNT, Fld.STP_ST_CNT_RX_CNT]
  omega

theorem resetFrame_full_spec (h : 16 ≤ s.resetCount n) (f : StationFrame) (r : ResetFrame) :
    ((s.bump (Fld.STP_ST_CNT_RX_CNT n)).resetFrame n f r).rd Fld.STP_CNT_RSTFAIL_CNT =
      min (s.rd Fld.STP_CNT_RSTFAIL_CNT + 1) (2 ^ 32 - 1) ∧
    OnlyRegs [Fld.STP_ST_CNT_RX_CNT n, Fld.STP_CNT_RSTFAIL_CNT] s ((s.bump (Fld.STP_ST_CNT_RX_CNT n)).resetFrame n f r) := by
  rw [State.resetFrame_of_full (s := s.bump (Fld.STP_ST_CNT_RX_CNT n)) h f r]
  refine ⟨?_, ((onlyRegs_bump s _ 1).mono fun f hf => ?_).trans ((onlyRegs_bump _ _ 1).mono fun f hf => ?_)⟩
  · rw [State.rd_bump_self, State.rd_bump_ne _ _ (key_rstFail_ne hn _ List.mem_cons_self)]
    rfl
  · rw [List.mem_singleton.1 hf]
    exact List.mem_cons_self
  · exact List.mem_cons_of_mem _ hf

variable (h : s.resetCount n < 16) (f : StationFrame) {r : ResetFrame} {v : State}
include h

theorem resetFrame_failed_spec {st : Status} (hverdict : resetVerdict s n r = some st)
    (hv : (s.bump (Fld.STP_ST_CNT_RX_CNT n)).resetFrame n f r = v) :
    (v.port n).reply = some ⟨f.src, st, r.counter, s.serial⟩ ∧ (v.port n).rstCount = s.resetCount n + 1 ∧
    v.rd Fld.STP_CNT_RSTFAIL_CNT = min (s.rd Fld.STP_CNT_RSTFAIL_CNT + 1) (2 ^ 32 - 1) ∧ v.rd Fld.STP_EVT_RST_FAIL = 1 ∧
    v.sec.rstCounter = s.sec.rstCounter ∧ MapBut StpPort.reset [n] s.ports v.ports ∧
    OnlyLogged [Fld.STP_ST_CNT_RX_CNT n, Fld.STP_CNT_RSTFAIL_CNT, Fld.STP_EVT_RST_FAIL, Fld.SEC_CNT_SIGOK_CNT, Fld.SEC_CNT_SIGFAIL_CNT]
      s { v with ports := s.ports } := by
  replace hv : (((s.received n r).answerReset n f r st).bump Fld.STP_CNT_RSTFAIL_CNT).raise Fld.STP_EVT_RST_FAIL n = v :=
    (State.resetFrame_of_failed (s := s.bump (Fld.STP_ST_CNT_RX_CNT n)) h f
      (((sameJudge_bump s n).resetVerdict hn r).trans hverdict)).symm.trans hv
  have hx := sameJudge_answered s n f r st
  have hmap := s.answered_ports n f r st
  obtain ⟨hreply, hcount⟩ := s.answered_port hn f r st
  generalize (s.received n r).answerReset n f r st = x at hv hx hmap hreply hcount
  have hlogged : OnlyLogged [Fld.STP_CNT_RSTFAIL_CNT, Fld.STP_EVT_RST_FAIL] x v :=
    hv ▸ ((onlyRegs_bump x _ 1).onlyLogged.mono (by decide)).trans ((State.onlyLogged_raise _ _ n).mono (by decide))
  have hports : v.ports = x.ports := (congrArg State.ports hlogged.2).trans rfl
  have hsec : v.sec = s.sec := ((congrArg State.sec hlogged.2).trans rfl).trans hx.sec
  have hport : v.port n = x.port n := by rw [State.port, hports, State.port]
  rw [hport, hsec, hports]
  refine ⟨hreply, hcount, ?count, ?flag, rfl, hmap, ?regs, by rw [hlogged.2, hx.2]⟩
  case count =>
    rw [← hv, State.rd_raise_ne _ _ _ _ (by decide) (by decide), State.rd_bump_self, hx.1 _ (key_rstFail_ne hn)]
    rfl
  case flag => exact hv ▸ State.rd_raise_self _ _ _ rfl (by decide)
  case regs =>
    refine RegsBut.trans (t := x) (hx.1.mono fun g hg => List.mem_append_left _ ?_) (RegsBut.mono hlogged.1 fun g hg => ?_)
    · exact (List.mem_cons.1 hg).elim (fun heq => heq ▸ List.mem_cons_self)
        (List.mem_append_right [Fld.STP_ST_CNT_RX_CNT n, Fld.STP_CNT_RSTFAIL_CNT, Fld.STP_EVT_RST_FAIL])
    · exact List.mem_cons_of_mem _ ((List.mem_append.1 hg).elim (fun hg => List.mem_append_left _ (List.mem_append_left
        [Fld.SEC_CNT_SIGOK_CNT, Fld.SEC_CNT_SIGFAIL_CNT] hg)) (List.mem_append_right _))

theorem resetFrame_refused_spec (hverdict : resetVerdict s n r = none) (hmay : ¬ s.MayReset r.force)
    (hv : (s.bump (Fld.STP_ST_CNT_RX_CNT n)).resetFrame n f r = v) :
    (v.port n).reply = some ⟨f.src, .notPermitted, r.counter, s.serial⟩ ∧ v.rd Fld.STP_EVT_RST_REFUSED = 1 ∧
    v.sec.rstCounter = s.sec.rstCounter ∧ v.rst = s.rst := by
  have hrx := sameJudge_bump s n
  replace hv : ((s.received n r).answerReset n f r .notPermitted).raise Fld.STP_EVT_RST_REFUSED n = v :=
    (State.resetFrame_of_refused (s := s.bump (Fld.STP_ST_CNT_RX_CNT n)) h f hn ((hrx.resetVerdict hn r).trans hverdict)
      (mt (hrx.mayReset hn r.force).1 hmay)).symm.trans hv
  have hx := sameJudge_answered s n f r .notPermitted
  obtain ⟨hreply, -⟩ := s.answered_port hn f r .notPermitted
  generalize (s.received n r).answerReset n f r .notPermitted = x at hv hx hreply
  have hsame : State.SameButLogged x v := hv ▸ x.raise_sameButLogged _ n
  have hport : v.port n = x.port n := by rw [State.port, hsame.ports, State.port]
  have hsec : v.sec = s.sec := ((congrArg State.sec hsame).trans rfl).trans hx.sec
  rw [hport, hsec]
  exact ⟨hreply, hv ▸ State.rd_raise_self _ _ _ rfl (by decide), rfl, ((congrArg State.rst hsame).trans rfl).trans hx.rst⟩

theorem resetFrame_accepted_spec (hverdict : resetVerdict s n r = none) (hmay : s.MayReset r.force)
    (hv : (s.bump (Fld.STP_ST_CNT_RX_CNT n)).resetFrame n f r = v) :
    (v.port n).reply = some ⟨f.src, .ok, r.counter, s.serial⟩ ∧ v.sec.rstCounter = r.counter ∧
    v.rst.atBoundary = some { src := .cmdStation n, yield := decide (s.tndState = 4) && s.flag Fld.TND_STAT_TWIN_READY, since := s.nowTick } := by
  have hrx := sameJudge_bump s n
  have hx : SameJudge n s (s.received n r) := hrx.trans (sameJudge_resetCounted _ n r)
  replace hv : ((s.received n r).resetAccepted n r).answerReset n f r .ok = v :=
    (State.resetFrame_of_accepted (s := s.bump (Fld.STP_ST_CNT_RX_CNT n)) h f hn ((hrx.resetVerdict hn r).trans hverdict)
      ((hrx.mayReset hn r.force).2 hmay)).symm.trans hv
  have hport : v.port n = ((s.received n r).answerReset n f r .ok).port n := by rw [← hv]; rfl
  rw [hport, ← hv, ← hx.tndState hn, ← hx.twinReady hn, ← hx.nowTick]
  exact ⟨(s.answered_port hn f r .ok).1, rfl, rfl⟩

end

end Sys2Proof.Machine

open Sys2Proof Sys2Proof.Machine

/-- Settles O56: a frame beyond the rate is counted, and any other is answered by the first check of R439 that fails, by R63 when none
does. -/
theorem resetFrames : Obligations.ResetFrames := by
  unfold Obligations.ResetFrames
  intro s p f w pl sig htaken hbridge hptp hsv hgoose hown hbody hsub hver
  have hexec := exec_stationFrameReceive_reset htaken hbridge ⟨⟨hptp, hsv, hgoose⟩, hown, hbody, hsub, hver⟩ w
  exact ⟨fun hfull => ⟨_, hexec, resetFrame_full_spec p.isLt hfull f _⟩, fun hfree =>
    ⟨fun st hverdict => ⟨_, hexec, resetFrame_failed_spec p.isLt hfree f hverdict rfl⟩,
     fun hverdict hmay => ⟨_, hexec, resetFrame_refused_spec p.isLt hfree f hverdict hmay rfl⟩,
     fun hverdict hmay => ⟨_, hexec, resetFrame_accepted_spec p.isLt hfree f hverdict hmay rfl⟩⟩⟩

end

section
/-! PROOFS. Every reset leaves the live bits of the reference clocks (R456), so that not every register of block TBS reads its reset value. -/

namespace Sys2Proof.Machine

/-- What a taken reset is said to leave makes A_OK show a good clock. -/
theorem ResetTaken.refAOk {src : ResetSource} {s t : State} (h : ResetTaken src s t) :
    t.rd Fld.TBS_REF_A_OK = Fld.TBS_REF_A_OK.reset := by
  obtain ⟨-, -, -, -, -, -, hregs, -⟩ := h
  exact hregs _ (by decide) (by decide)

/-- A module whose reference clock A has failed, with a deferred fall-back; it serves nothing. -/
def deferredWithoutRefA : State :=
  let s := at' [(Fld.TBS_REF_A_OK, 0)]
  { s with rst := { s.rst with deferred := true } }

theorem deferredWithoutRefA_resets :
    deferredWithoutRefA.rst.deferred = true ∧ deferredWithoutRefA.mayBegin = true ∧ deferredWithoutRefA.tndState ≠ 4 ∧
    deferredWithoutRefA.allServedBlocked = true ∧ deferredWithoutRefA.rst.phase ≠ .hold .storm := by decide +kernel

/-- Undervoltage and the deferred fall-back reset the module, and A_OK still shows the failed clock. -/
theorem deferredWithoutRefA_keeps_aOk : ∀ c ∈ [Instr.supervisorUndervoltage, .deferredFallbackReset],
    (match exec c deferredWithoutRefA with
      | .next t => decide (t.rd Fld.TBS_REF_A_OK = Fld.TBS_REF_A_OK.reset)
      | _ => true) = false := by decide +kernel

end Sys2Proof.Machine

open Sys2Proof Sys2Proof.Machine

/-- Refutes O14: it says that a reset returns every register field of block TBS to its reset value, but the live bit A_OK of a failed
reference clock stays 0. -/
theorem not_resetsAreTaken : ¬ Obligations.ResetsAreTaken := by
  unfold Obligations.ResetsAreTaken
  intro h
  obtain ⟨-, -, -, -, -, -, -, hundervoltage, -⟩ := h deferredWithoutRefA
  obtain ⟨-, -, -, -, hhold⟩ := deferredWithoutRefA_resets
  obtain ⟨t, ht, htaken⟩ := hundervoltage.1 (.inl hhold)
  have hne := deferredWithoutRefA_keeps_aOk .supervisorUndervoltage (by decide)
  rw [ht] at hne
  exact of_decide_eq_false hne htaken.refAOk

/-- Refutes O16: it says of the deferred fall-back reset that every register field of block TBS reads its reset value after it, but the
live bit A_OK of a failed reference clock stays 0. -/
theorem not_tamperAndFirmware : ¬ Obligations.TamperAndFirmware := by
  unfold Obligations.TamperAndFirmware
  intro h
  obtain ⟨-, -, -, -, -, -, -, -, -, hdeferred, -⟩ := h deferredWithoutRefA
  obtain ⟨hdue, hbegin, hactive, hblocked, hhold⟩ := deferredWithoutRefA_resets
  obtain ⟨t, ht, htaken⟩ := hdeferred hdue hbegin (.inl hactive) hblocked hhold
  have hne := deferredWithoutRefA_keeps_aOk .deferredFallbackReset (by decide)
  rw [ht] at hne
  exact of_decide_eq_false hne htaken.refAOk

end

section
/-! PROOFS. A start that completes on a module whose rings are open posts the TANDEM event (R322, R371). -/

namespace Sys2Proof.Machine

/-- A plain image that passes every check of R545 on a module whose image-signing slot 0 holds the hash 1. -/
def plainImage : Image :=
  { magic := 0xF1A60001, fmt := 1, resvZero := true, enc := false, version := 1, setfmt := 1, tverLo := 1, tverHi := 7, minStep := 0,
    rollback := 0, nblk := 1, target := 0, keySlot := 0, length := 8192, signerHash := 1, sigOk := true, hashesOk := true, wrapOk := true,
    tagsOk := true, programs := [] }

/-- A provisioned module in COMMISSIONING at step 2 of its start, that image CURRENT in its primary flash; function 0 has an event ring of
16 entries open. -/
def startWithOpenRing : State :=
  let s := at' [(Fld.HIF_FN_STAT_OPEN 0, 1), (Fld.HIF_FN_RING_SIZE_LOG2 0 2, 4)]
  { s with
    rst := { s.rst with phase := .starting, backupIntact := true }
    flash := [(0, { Flash.reset with slot0 := ⟨.current, false, 0, some plainImage, false⟩ })]
    fuses := { s.fuses with otp := [(16, 0x80000000), (60, 1)] }, keyLc := 2 }

/-- Eight readings of the strap of a module of role A. -/
def roleAStrap : List (BitVec 12) := List.replicate 8 1205

/-- The start completes, the module enters INIT, and function 0 is told so in its event ring. -/
theorem startWithOpenRing_posts :
    (match exec (.startSequence [] roleAStrap 0 ⟨true, true⟩) startWithOpenRing with
      | .next t => decide (t.hostMem = (startWithOpenRing.startStep2 [] 0 ⟨true, true⟩).hostMem)
      | _ => true) = false := by decide +kernel

end Sys2Proof.Machine

open Sys2Proof Sys2Proof.Machine

/-- Refutes O15: it says of every state that START_SEQUENCE writes nothing to host memory, but a module of role A that enters INIT posts
the TANDEM event to each function whose rings are open. -/
theorem not_startSequenceSteps : ¬ Obligations.StartSequenceSteps := by
  unfold Obligations.StartSequenceSteps
  intro h
  obtain ⟨-, -, -, -, -, hstart, -⟩ := h startWithOpenRing
  obtain ⟨t, ht, -, hmem, -⟩ := (hstart [] roleAStrap 0 ⟨true, true⟩ rfl).2 rfl
  have hne := startWithOpenRing_posts
  rw [ht] at hne
  exact of_decide_eq_false hne hmem

end

section
/-! PROOFS. Fences, lane tests, transceiver polls and loss of signal of a spoke (R87, R96, R108, R109, R116, R117, R526). -/

namespace Sys2Proof.Machine

/-! ### Changes of one spoke -/

/-- Nothing but the listed register fields, spoke `n`, the history queues and the module log changes. -/
def OnlySpoke (n : Nat) (fs : List Field) (s t : State) : Prop :=
  RegsBut fs s t ∧ MapBut Spoke.reset [n] s.spokes t.spokes ∧ t = { s with regs := t.regs, hist := t.hist, log := t.log, spokes := t.spokes }

theorem OnlySpoke.refl (n : Nat) (fs : List Field) (s : State) : OnlySpoke n fs s s := ⟨fun _ _ => rfl, fun _ _ => rfl, rfl⟩

theorem OnlySpoke.trans {n : Nat} {fs : List Field} {s t u : State} (h : OnlySpoke n fs s t) (k : OnlySpoke n fs t u) : OnlySpoke n fs s u := by
  obtain ⟨hregs, hspokes, heq⟩ := h
  obtain ⟨kregs, kspokes, keq⟩ := k
  exact ⟨hregs.trans kregs, fun i hi => (kspokes i hi).trans (hspokes i hi), by rw [keq, heq]⟩

theorem OnlySpoke.mono {n : Nat} {fs gs : List Field} {s t : State} (h : OnlySpoke n fs s t) (hs : ∀ f ∈ fs, f ∈ gs) : OnlySpoke n gs s t :=
  ⟨h.1.mono hs, h.2⟩

theorem OnlyLogged.onlySpoke {fs : List Field} {s t : State} (h : OnlyLogged fs s t) (n : Nat) : OnlySpoke n (fs ++ loggedFields) s t := by
  obtain ⟨hregs, heq⟩ := h
  exact ⟨hregs, fun i _ => by rw [heq], by rw [heq]⟩

theorem OnlyRegs.onlySpoke {fs : List Field} {s t : State} (h : OnlyRegs fs s t) (n : Nat) : OnlySpoke n fs s t := by
  obtain ⟨hregs, heq⟩ := h
  exact ⟨hregs, fun i _ => by rw [heq], by rw [heq]⟩

theorem mapBut_setSpoke (s : State) (n : Nat) (k : Spoke → Spoke) : MapBut Spoke.reset [n] s.spokes (s.setSpoke n k).spokes :=
  fun _ hi => FMap.get_modify_ne _ _ _ (by simpa using hi)

theorem onlySpoke_setSpoke (s : State) (n : Nat) (k : Spoke → Spoke) (fs : List Field) : OnlySpoke n fs s (s.setSpoke n k) :=
  ⟨fun _ _ => rfl, mapBut_setSpoke s n k, rfl⟩

/-! ### What a spoke shows (R99, R112) -/

/-- The register fields in which a spoke shows its cells and its state. -/
def shownFields (n : Nat) : List Field :=
  [Fld.SPK_STAT_ADMITTED n, Fld.SPK_STAT_RIDER_GEAR n, Fld.SPK_STAT_TX_AWAKE n, Fld.SPK_STAT_RX_AWAKE n]

theorem showSpoke_form (s : State) (n : Nat) : ∃ v k, OnlyRegs (shownFields n) s v ∧ s.showSpoke n = v.setSpoke n k := by
  unfold State.showSpoke
  exact ⟨_, _, ((onlyRegs_wrs s _).mono (by simp [shownFields])).trans ((onlyRegs_wrs _ _).mono (by simp [shownFields])), rfl⟩

/-- Bringing a spoke into line changes what it shows, and its own record. -/
theorem showSpoke_spec (s : State) (n : Nat) :
    RegsBut (shownFields n) s (s.showSpoke n) ∧ MapBut Spoke.reset [n] s.spokes (s.showSpoke n).spokes ∧
    s.showSpoke n = { s with regs := (s.showSpoke n).regs, spokes := (s.showSpoke n).spokes } := by
  obtain ⟨v, k, ⟨hregs, heq⟩, hshow⟩ := showSpoke_form s n
  have hspokes : v.spokes = s.spokes := by rw [heq]
  rw [hshow]
  refine ⟨hregs, hspokes ▸ mapBut_setSpoke v n k, ?_⟩
  rw [State.setSpoke, heq]

/-! ### Flags and fields of a spoke -/

theorem Field.OfVolley.events_ne {g : Field} (hg : g.OfVolley) : ∀ x ∈ eventFields, g.key ≠ x.key :=
  fun x hx => (eventFields_offVolley x hx).key_ne hg

theorem State.flag_wrB_self (s : State) (f : Field) (b : Bool) (h : 0 < f.width) : (s.wrB f b).flag f = b := by
  rw [State.flag, State.rd_wrB_self s f b h]
  cases b <;> rfl

theorem State.flag_of_rd {s : State} {f : Field} {b : Bool} (h : s.rd f = if b = true then 1 else 0) : s.flag f = b := by
  rw [State.flag, h]
  cases b <;> rfl

/-! ### Fences (R108) -/

theorem exec_hostFence_spec {u : Core} (hu : mayWrite u 0 = true) (s : State) (spoke : Fin 128) (on : Bool) :
    ∃ t, exec (.hostFence u spoke on) s = .next t ∧ t.flag (Fld.SPK_CTL_FENCE spoke) = on ∧ OnlyRegs [Fld.SPK_CTL_FENCE spoke] s t :=
  ⟨s.hostFence spoke on, congrArg Host.Outcome.next (State.asWriter_of s _ hu), State.flag_wrB_self _ _ _ Nat.one_pos, onlyRegs_wr s _ _⟩

/-! ### Lane tests (R109, R116) -/

/-- A lane test that is not to be taken: a mode on a spoke not fenced, a reserved mode, or LIGHT on a standby. -/
def LaneTestRefused (n : Nat) (mode : BitVec 3) (light : Bool) (s : State) : Prop :=
  (mode ≠ 0 ∧ s.flag (Fld.SPK_STAT_FENCED n) = false) ∨ 5 ≤ mode.toNat ∨ (light = true ∧ s.standby = true)

theorem laneTest_of_refused {n : Nat} {mode : BitVec 3} {light : Bool} {s : State} (h : LaneTestRefused n mode light s) :
    s.laneTest n mode.toNat light = s.raise Fld.SPK_GSTAT_INVALID_WR n := by
  have hzero : mode.toNat = 0 ↔ mode = 0 := by rw [← BitVec.toNat_inj]; rfl
  refine if_pos (h.imp (fun ⟨hm, hf⟩ => ⟨?_, ?_⟩) id)
  · rwa [ne_eq, hzero]
  · rw [hf]; decide

/-- What a lane test that is taken writes. -/
def laneTestWrites (n : Nat) (mode : BitVec 3) (light : Bool) : List (Field × Nat) :=
  [(Fld.SPK_TEST_MODE n, mode.toNat), (Fld.SPK_TEST_LIGHT n, if light then 1 else 0), (Fld.SPK_PRBS_ERR_ERR n, 0), (Fld.SPK_PRBS_ERR_PRBS_LOCK n, 0)]

theorem laneTest_of_not_refused {n : Nat} {mode : BitVec 3} {light : Bool} {s : State} (h : ¬ LaneTestRefused n mode light s) :
    s.laneTest n mode.toNat light = (s.wrs (laneTestWrites n mode light)).showSpoke n := by
  have hzero : mode.toNat = 0 ↔ mode = 0 := by rw [← BitVec.toNat_inj]; rfl
  refine if_neg fun hr => h (hr.imp (fun ⟨hm, hf⟩ => ⟨?_, ?_⟩) id)
  · rwa [ne_eq, ← hzero]
  · simpa using hf

theorem laneTestWrites_nodup (n : Nat) (mode : BitVec 3) (light : Bool) : ((laneTestWrites n mode light).map fun p => p.1.key).Nodup := by
  simp [laneTestWrites, Field.key, Fld.SPK_TEST_MODE, Fld.SPK_TEST_LIGHT, Fld.SPK_PRBS_ERR_ERR, Fld.SPK_PRBS_ERR_PRBS_LOCK]
  omega

theorem laneTestWrites_not_shown (n : Nat) (mode : BitVec 3) (light : Bool) :
    ∀ p ∈ laneTestWrites n mode light, ∀ f ∈ shownFields n, p.1.key ≠ f.key := by
  simp [laneTestWrites, shownFields, Field.key, Fld.SPK_TEST_MODE, Fld.SPK_TEST_LIGHT, Fld.SPK_PRBS_ERR_ERR, Fld.SPK_PRBS_ERR_PRBS_LOCK,
    Fld.SPK_STAT_ADMITTED, Fld.SPK_STAT_RIDER_GEAR, Fld.SPK_STAT_TX_AWAKE, Fld.SPK_STAT_RX_AWAKE]
  omega

/-- After a lane test that is taken each field it writes holds what was written. -/
theorem rd_laneTest {n : Nat} {mode : BitVec 3} {light : Bool} {p : Field × Nat} (hp : p ∈ laneTestWrites n mode light) (s : State) :
    ((s.wrs (laneTestWrites n mode light)).showSpoke n).rd p.1 = p.2 % 2 ^ p.1.width :=
  ((showSpoke_spec _ n).1 _ (laneTestWrites_not_shown n mode light p hp)).trans (State.rd_wrs_mem (laneTestWrites_nodup n mode light) hp s)

/-- A lane test that is taken stands in the registers with the checker cleared, and the spoke is brought into line. -/
theorem laneTestTaken_spec (s : State) (n : Nat) (mode : BitVec 3) (light : Bool) :
    let t := (s.wrs (laneTestWrites n mode light)).showSpoke n
    t.rd (Fld.SPK_TEST_MODE n) = mode.toNat ∧ t.flag (Fld.SPK_TEST_LIGHT n) = light ∧ t.rd (Fld.SPK_PRBS_ERR_ERR n) = 0 ∧
    t.rd (Fld.SPK_PRBS_ERR_PRBS_LOCK n) = 0 ∧
    RegsBut ((laneTestWrites n mode light).map (·.1) ++ shownFields n) s t ∧ MapBut Spoke.reset [n] s.spokes t.spokes ∧
    t = { s with regs := t.regs, spokes := t.spokes } := by
  intro t
  have hrd {p : Field × Nat} (hp : p ∈ laneTestWrites n mode light) : t.rd p.1 = p.2 % 2 ^ p.1.width := rd_laneTest hp s
  obtain ⟨hregs, heq⟩ := onlyRegs_wrs s (laneTestWrites n mode light)
  obtain ⟨kregs, kspokes, keq⟩ := showSpoke_spec (s.wrs (laneTestWrites n mode light)) n
  refine ⟨(hrd (.head _)).trans (Nat.mod_eq_of_lt mode.isLt), State.flag_of_rd ((hrd (.tail _ (.head _))).trans ?_),
    hrd (.tail _ (.tail _ (.head _))), hrd (.tail _ (.tail _ (.tail _ (.head _)))),
    (hregs.mono fun _ => List.mem_append_left _).trans (kregs.mono fun _ => List.mem_append_right _), ?_, ?_⟩
  · cases light <;> rfl
  · rwa [heq] at kspokes
  · rw [show t = _ from keq, heq]

theorem exec_laneTestSelect {u : Core} (hu : mayWrite u 0 = true) (s : State) (spoke : Fin 128) (mode : BitVec 3) (light : Bool) :
    exec (.laneTestSelect u spoke mode light) s = .next (s.laneTest spoke mode.toNat light) :=
  congrArg Host.Outcome.next (State.asWriter_of s _ hu)

/-- The PRBS checker of a fenced spoke in a checking mode shows its lock and adds its errors. -/
theorem prbsShown_spec (s : State) (n : Nat) (locked : Bool) (errors : Nat) :
    let t := (s.wrB (Fld.SPK_PRBS_ERR_PRBS_LOCK n) locked).bump (Fld.SPK_PRBS_ERR_ERR n) errors
    t.flag (Fld.SPK_PRBS_ERR_PRBS_LOCK n) = locked ∧
    t.rd (Fld.SPK_PRBS_ERR_ERR n) = min (s.rd (Fld.SPK_PRBS_ERR_ERR n) + errors) (2 ^ (Fld.SPK_PRBS_ERR_ERR n).width - 1) ∧
    OnlyRegs [Fld.SPK_PRBS_ERR_PRBS_LOCK n, Fld.SPK_PRBS_ERR_ERR n] s t := by
  have hne : (Fld.SPK_PRBS_ERR_PRBS_LOCK n).key ≠ (Fld.SPK_PRBS_ERR_ERR n).key := by
    simp [Field.key, Fld.SPK_PRBS_ERR_PRBS_LOCK, Fld.SPK_PRBS_ERR_ERR]
  refine ⟨State.flag_of_rd ?_, ?_, ((onlyRegs_wr s _ _).mono (by simp)).trans ((onlyRegs_bump _ _ _).mono (by simp))⟩
  · rw [State.rd_bump_ne _ _ hne]
    exact State.rd_wrB_self s _ _ Nat.one_pos
  · rw [State.rd_bump_self, State.rd_wrB_ne _ _ hne.symm]

/-! ### Transceiver polls (R87, R117, R526) -/

theorem spkEvents_ofVolley {n : Nat} (hn : n < 128) :
    ∀ g ∈ [Fld.SPK_EVT_LOS n, Fld.SPK_EVT_XCVR_FAULT n, Fld.SPK_EVT_MS_FAIL n, Fld.SPK_XCVR_B_VALID n], g.OfVolley := by
  simp only [Field.OfVolley, Fld.SPK_EVT_LOS, Fld.SPK_EVT_XCVR_FAULT, Fld.SPK_EVT_MS_FAIL, Fld.SPK_XCVR_B_VALID, List.mem_cons, List.not_mem_nil,
    or_false, forall_eq_or_imp, forall_eq]
  omega

/-- Without an answer the readings are no longer valid and MS_FAIL is set. -/
theorem pollFailed_spec {n : Nat} (hn : n < 128) (s : State) :
    let t := (s.wr (Fld.SPK_XCVR_B_VALID n) 0).raise (Fld.SPK_EVT_MS_FAIL n)
    t.rd (Fld.SPK_XCVR_B_VALID n) = 0 ∧ t.rd (Fld.SPK_EVT_MS_FAIL n) = 1 ∧ OnlyLogged [Fld.SPK_XCVR_B_VALID n, Fld.SPK_EVT_MS_FAIL n] s t := by
  have hvolley := spkEvents_ofVolley hn
  have hne : (Fld.SPK_XCVR_B_VALID n).key ≠ (Fld.SPK_EVT_MS_FAIL n).key := by
    simp only [Field.key, Fld.SPK_XCVR_B_VALID, Fld.SPK_EVT_MS_FAIL]; omega
  refine ⟨?_, State.rd_raise_self _ _ _ rfl (hvolley _ (by simp)).events_ne,
    ((onlyRegs_wr s _ _).onlyLogged.mono (by simp)).trans ((State.onlyLogged_raise _ _ _).mono (by simp))⟩
  rw [State.rd_raise_ne _ _ _ _ hne (hvolley _ (by simp)).events_ne, State.rd_wr_self, Nat.zero_mod]

/-- What the answer to a poll writes. -/
def pollWrites (n : Nat) (r : XcvrReading) : List (Field × Nat) :=
  [(Fld.SPK_XCVR_A_RX_PWR n, r.rxPwr.toNat), (Fld.SPK_XCVR_A_TX_PWR n, r.txPwr.toNat), (Fld.SPK_XCVR_B_TEMP n, r.temp.toNat),
    (Fld.SPK_XCVR_B_TX_FAULT n, if r.txFault then 1 else 0), (Fld.SPK_XCVR_B_RX_LOS n, if r.rxLos then 1 else 0), (Fld.SPK_XCVR_B_VALID n, 1)]

theorem pollWrites_nodup (n : Nat) (r : XcvrReading) : ((pollWrites n r).map fun p => p.1.key).Nodup := by
  simp [pollWrites, Field.key, Fld.SPK_XCVR_A_RX_PWR, Fld.SPK_XCVR_A_TX_PWR, Fld.SPK_XCVR_B_TEMP, Fld.SPK_XCVR_B_TX_FAULT,
    Fld.SPK_XCVR_B_RX_LOS, Fld.SPK_XCVR_B_VALID]
  omega

theorem pollWrites_not_fault {n : Nat} (hn : n < 128) (r : XcvrReading) :
    ∀ p ∈ pollWrites n r, p.1.OfVolley ∧ p.1.key ≠ (Fld.SPK_EVT_XCVR_FAULT n).key := by
  simp only [pollWrites, Field.OfVolley, Field.key, Fld.SPK_XCVR_A_RX_PWR, Fld.SPK_XCVR_A_TX_PWR, Fld.SPK_XCVR_B_TEMP, Fld.SPK_XCVR_B_TX_FAULT,
    Fld.SPK_XCVR_B_RX_LOS, Fld.SPK_XCVR_B_VALID, Fld.SPK_EVT_XCVR_FAULT, List.mem_cons, List.not_mem_nil, or_false, forall_eq_or_imp, forall_eq]
  omega

/-- The state once a poll's readings are stored: the readings with TX_FAULT in a row are counted, and a faulty one is an event. -/
def State.polled (s : State) (n : Nat) (r : XcvrReading) : State :=
  ((s.wrs (pollWrites n r)).setSpoke n (fun p => { p with txFaults := if r.txFault then p.txFaults + 1 else 0 })).raiseIf
    (r.txFault || r.rxLos) (Fld.SPK_EVT_XCVR_FAULT n)

theorem onlySpoke_polled (s : State) (n : Nat) (r : XcvrReading) :
    OnlySpoke n ((pollWrites n r).map (·.1) ++ [Fld.SPK_EVT_XCVR_FAULT n] ++ loggedFields) s (s.polled n r) := by
  have hwrs := ((onlyRegs_wrs s (pollWrites n r)).onlySpoke n).trans
    (onlySpoke_setSpoke _ n (fun p => { p with txFaults := if r.txFault then p.txFaults + 1 else 0 }) _)
  exact (hwrs.mono fun f hf => by simp only [List.mem_append, hf, true_or]).trans
    (((onlyLogged_raiseIf _ (r.txFault || r.rxLos) (Fld.SPK_EVT_XCVR_FAULT n) 0).onlySpoke n).mono fun f hf => by
      simp only [List.mem_append] at hf ⊢; tauto)

section
variable {n : Nat} (hn : n < 128) (s : State) (r : XcvrReading)
include hn

theorem rd_polled {p : Field × Nat} (hp : p ∈ pollWrites n r) : (s.polled n r).rd p.1 = p.2 % 2 ^ p.1.width := by
  obtain ⟨hvolley, hne⟩ := pollWrites_not_fault hn r p hp
  refine ((onlyLogged_raiseIf _ _ _ _).1 p.1 fun f hf => ?_).trans (State.rd_wrs_mem (pollWrites_nodup n r) hp s)
  rcases List.mem_append.1 hf with hf | hf
  · rwa [List.mem_singleton.1 hf]
  · exact hvolley.events_ne f hf

theorem rd_polled_fault :
    (s.polled n r).rd (Fld.SPK_EVT_XCVR_FAULT n) = if (r.txFault || r.rxLos) = true then 1 else s.rd (Fld.SPK_EVT_XCVR_FAULT n) := by
  rw [State.polled, State.rd_raiseIf_self _ _ _ _ rfl (spkEvents_ofVolley hn _ (by simp)).events_ne, State.setSpoke_rd,
    State.rd_wrs_ne _ _ _ fun p hp => (pollWrites_not_fault hn r p hp).2.symm]

theorem polled_txfFence : (s.polled n r).flag Fld.HKP_SVC_CFG_TXF_FENCE = s.flag Fld.HKP_SVC_CFG_TXF_FENCE := by
  have hoff : Fld.HKP_SVC_CFG_TXF_FENCE.OffVolley := by unfold Field.OffVolley; decide
  rw [State.flag, State.flag, (onlySpoke_polled s n r).1]
  intro f hf
  simp only [List.mem_append, List.mem_map, List.mem_singleton] at hf
  rcases hf with (⟨p, hp, rfl⟩ | rfl) | hf
  · exact (hoff.key_ne (pollWrites_not_fault hn r p hp).1).symm
  · exact (hoff.key_ne (spkEvents_ofVolley hn _ (by simp))).symm
  · revert f
    decide

end

theorem polled_spoke (s : State) (n : Nat) (r : XcvrReading) :
    (s.polled n r).spoke n = { s.spoke n with txFaults := if r.txFault then (s.spoke n).txFaults + 1 else 0 } := by
  rw [State.spoke, State.polled, State.raiseIf_spokes]
  exact State.setSpoke_spoke_self _ n _

/-- A spoke with three readings with TX_FAULT in a row is to be fenced with code 2, when that is enabled. -/
def State.fenceAsked (s : State) (n : Nat) : State :=
  if 3 ≤ (s.spoke n).txFaults ∧ s.flag Fld.HKP_SVC_CFG_TXF_FENCE then s.fenceSpoke n 2 else s

theorem fenceAsked_spec (s : State) (n : Nat) (fs : List Field) :
    (s.fenceAsked n).spoke n = { s.spoke n with
      fenceWant := if 3 ≤ (s.spoke n).txFaults ∧ s.flag Fld.HKP_SVC_CFG_TXF_FENCE ∧ (s.spoke n).fenceWant = none then some 2
        else (s.spoke n).fenceWant } ∧
    (s.fenceAsked n).regs = s.regs ∧ OnlySpoke n fs s (s.fenceAsked n) := by
  unfold State.fenceAsked State.fenceSpoke
  split
  next hask =>
    obtain ⟨hthree, hen⟩ := hask
    split
    next hnone => exact ⟨by rw [if_pos ⟨hthree, hen, hnone⟩]; exact State.setSpoke_spoke_self _ _ _, rfl, onlySpoke_setSpoke _ _ _ _⟩
    next hsome => exact ⟨by rw [if_neg fun h => hsome h.2.2], rfl, OnlySpoke.refl _ _ _⟩
  next hask => exact ⟨by rw [if_neg fun h => hask ⟨h.1, h.2.1⟩], rfl, OnlySpoke.refl _ _ _⟩

theorem exec_transceiverPoll_some {s : State} {spoke : Fin 128} (hen : s.flag Fld.SPK_GCFG_MS_EN = true)
    (hon : s.flag (Fld.SPK_CFG_ENABLE spoke) = true) (r : XcvrReading) :
    exec (.transceiverPoll spoke (some r)) s = .next ((s.polled spoke r).fenceAsked spoke) := if_pos ⟨hen, hon⟩

/-- The answer to a poll: its readings are valid, a faulty one is an event, and the readings with TX_FAULT in a row are counted. -/
theorem pollAnswered_spec {n : Nat} (hn : n < 128) (s : State) (r : XcvrReading) :
    let t := (s.polled n r).fenceAsked n
    t.rd (Fld.SPK_XCVR_B_VALID n) = 1 ∧ t.rd (Fld.SPK_XCVR_A_RX_PWR n) = r.rxPwr.toNat ∧ t.rd (Fld.SPK_XCVR_A_TX_PWR n) = r.txPwr.toNat ∧
    t.rd (Fld.SPK_XCVR_B_TEMP n) = r.temp.toNat ∧ t.flag (Fld.SPK_XCVR_B_TX_FAULT n) = r.txFault ∧ t.flag (Fld.SPK_XCVR_B_RX_LOS n) = r.rxLos ∧
    t.rd (Fld.SPK_EVT_XCVR_FAULT n) = (if r.txFault || r.rxLos then 1 else s.rd (Fld.SPK_EVT_XCVR_FAULT n)) ∧
    (t.spoke n).txFaults = (if r.txFault then (s.spoke n).txFaults + 1 else 0) ∧
    (t.spoke n).fenceWant = (if r.txFault ∧ 2 ≤ (s.spoke n).txFaults ∧ s.flag Fld.HKP_SVC_CFG_TXF_FENCE ∧ (s.spoke n).fenceWant = none then some 2
      else (s.spoke n).fenceWant) ∧
    OnlySpoke n ((pollWrites n r).map (·.1) ++ [Fld.SPK_EVT_XCVR_FAULT n] ++ loggedFields) s t := by
  intro t
  obtain ⟨hspoke, hregs, honly⟩ := fenceAsked_spec (s.polled n r) n ((pollWrites n r).map (·.1) ++ [Fld.SPK_EVT_XCVR_FAULT n] ++ loggedFields)
  rw [polled_spoke, polled_txfFence hn] at hspoke
  have hkept (g : Field) : t.rd g = (s.polled n r).rd g := congrArg (RegFile.get · g) hregs
  have hrd {p : Field × Nat} (hp : p ∈ pollWrites n r) : t.rd p.1 = p.2 % 2 ^ p.1.width := (hkept _).trans (rd_polled hn s r hp)
  have hbit (b : Bool) : (if b = true then 1 else 0) % 2 = if b = true then 1 else 0 := by cases b <;> rfl
  refine ⟨hrd (.tail _ (.tail _ (.tail _ (.tail _ (.tail _ (.head _)))))), (hrd (.head _)).trans (Nat.mod_eq_of_lt r.rxPwr.isLt),
    (hrd (.tail _ (.head _))).trans (Nat.mod_eq_of_lt r.txPwr.isLt), (hrd (.tail _ (.tail _ (.head _)))).trans (Nat.mod_eq_of_lt r.temp.isLt),
    State.flag_of_rd ((hrd (.tail _ (.tail _ (.tail _ (.head _))))).trans (hbit _)),
    State.flag_of_rd ((hrd (.tail _ (.tail _ (.tail _ (.tail _ (.head _)))))).trans (hbit _)), (hkept _).trans (rd_polled_fault hn s r),
    congrArg Spoke.txFaults hspoke, (congrArg Spoke.fenceWant hspoke).trans ?_, (onlySpoke_polled s n r).trans honly⟩
  cases r.txFault <;> simp

/-! ### Loss of signal (R96, R332) -/

theorem State.spokeLoss_ofVolley (s : State) {g : Field} (hg : g.OfVolley) : s.spokeLoss.rd g = s.rd g := by
  refine regsBut_spokeLoss s g fun x hx => Field.OffVolley.key_ne ?_ hg
  revert x
  unfold Field.OffVolley
  decide

theorem State.spokeLoss_spokes (s : State) : s.spokeLoss.spokes = s.spokes := by rw [s.spokeLoss_sameButYield]

/-- The spoke counts as lost, and LOS says so. -/
def State.losSet (s : State) (n : Nat) : State := (s.setSpoke n (fun p => { p with lost := true })).raise (Fld.SPK_EVT_LOS n)

theorem onlySpoke_losSet (s : State) (n : Nat) : OnlySpoke n ([Fld.SPK_EVT_LOS n] ++ loggedFields) s (s.losSet n) :=
  (onlySpoke_setSpoke s n _ _).trans ((State.onlyLogged_raise _ _ _).onlySpoke n)

theorem losSet_lost (s : State) (n : Nat) : ((s.losSet n).spoke n).lost = true := by
  rw [State.spoke, State.losSet, State.raise_spokes]
  exact congrArg Spoke.lost (State.setSpoke_spoke_self s n _)

theorem rd_losSet {n : Nat} (hn : n < 128) (s : State) : (s.losSet n).rd (Fld.SPK_EVT_LOS n) = 1 :=
  State.rd_raise_self _ _ _ rfl (spkEvents_ofVolley hn _ (by simp)).events_ne

/-- The yield condition of lost spokes leaves the spoke and its LOS as they are. -/
theorem spokeLoss_keeps_los {n : Nat} (hn : n < 128) {s v : State} (h : OnlySpoke n ([Fld.SPK_EVT_LOS n] ++ loggedFields) s v)
    (hlost : (v.spoke n).lost = true) (hflag : v.rd (Fld.SPK_EVT_LOS n) = 1) :
    (v.spokeLoss.spoke n).lost = true ∧ v.spokeLoss.rd (Fld.SPK_EVT_LOS n) = 1 ∧ MapBut Spoke.reset [n] s.spokes v.spokeLoss.spokes ∧
    RegsBut ([Fld.SPK_EVT_LOS n, Fld.TND_CAUSE_LIVE, Fld.TND_EVT_HELD_NO_TWIN] ++ loggedFields) s v.spokeLoss ∧
    v.spokeLoss = { s with
      regs := v.spokeLoss.regs, hist := v.spokeLoss.hist, log := v.spokeLoss.log, spokes := v.spokeLoss.spokes, tnd := v.spokeLoss.tnd } := by
  obtain ⟨hregs, hspokes, heq⟩ := h
  refine ⟨?_, ?_, ?_, ?_, ?_⟩
  · rw [State.spoke, v.spokeLoss_spokes]
    exact hlost
  · rw [v.spokeLoss_ofVolley (spkEvents_ofVolley hn _ (.head _)), hflag]
  · rw [v.spokeLoss_spokes]
    exact hspokes
  · exact (hregs.mono (by simp +contextual)).trans ((regsBut_spokeLoss v).mono (by simp +contextual))
  · rw [v.spokeLoss_sameButYield, heq]

end Sys2Proof.Machine

open Sys2Proof Sys2Proof.Machine

/-- Settles O30, command by command. -/
theorem spokeFencesAndTests : Obligations.SpokeFencesAndTests := by
  unfold Obligations.SpokeFencesAndTests
  intro s spoke u
  refine ⟨fun on hu => exec_hostFence_spec hu s spoke on, fun mode light hu => ⟨fun h => ?refused, fun hmode hlt hlight => ?taken⟩,
    fun locked errors => ⟨fun hf hm => ?checks, fun h => ?checksNot⟩, fun hen hon => ⟨?silent, fun r => ?answers⟩, fun r h => ?off,
    fun hwin hlost hadm => ?loses, fun h => ?stays⟩
  case refused =>
    refine ⟨_, (exec_laneTestSelect hu s spoke mode light).trans (congrArg _ (laneTest_of_refused h)), ?_, State.onlyLogged_raise _ _ _⟩
    exact State.rd_raise_self _ _ _ rfl (by decide)
  case taken =>
    have hnot : ¬ LaneTestRefused spoke mode light s := by
      rintro (⟨hm, hf⟩ | hres | ⟨hl, hstandby⟩)
      · exact hmode.elim hm fun h => by rw [hf] at h; cases h
      · omega
      · exact hlight.elim (fun h => by rw [hl] at h; cases h) fun h => by rw [hstandby] at h; cases h
    refine ⟨_, (exec_laneTestSelect hu s spoke mode light).trans (congrArg _ (laneTest_of_not_refused hnot)), ?_⟩
    exact laneTestTaken_spec s spoke mode light
  case checks => exact ⟨_, congrArg Host.Outcome.next (if_pos ⟨hf, hm⟩), prbsShown_spec s spoke locked errors⟩
  case checksNot =>
    refine congrArg _ (if_neg ?_)
    rintro ⟨hf, hm⟩
    rcases h with h | ⟨h3, h4⟩
    · rw [h] at hf; cases hf
    · exact hm.elim h3 h4
  case silent =>
    exact ⟨_, if_pos ⟨hen, hon⟩, pollFailed_spec spoke.isLt s⟩
  case answers =>
    obtain ⟨hvalid, hrx, htx, htemp, hfault, hlos, hevent, hcount, hwant, hregs, hspokes, heq⟩ := pollAnswered_spec spoke.isLt s r
    exact ⟨_, exec_transceiverPoll_some hen hon r, hvalid, hrx, htx, htemp, hfault, hlos, hevent, hcount, hwant, hspokes, hregs, heq⟩
  case off =>
    refine if_neg ?_
    rintro ⟨hen, hon⟩
    rcases h with h | h
    · rw [hen] at h; cases h
    · rw [hon] at h; cases h
  case loses =>
    exact ⟨_, congrArg Host.Outcome.next (if_pos ⟨hwin, by simp [hlost], hadm⟩),
      spokeLoss_keeps_los spoke.isLt (onlySpoke_losSet s spoke) (losSet_lost s spoke) (rd_losSet spoke.isLt s)⟩
  case stays =>
    refine congrArg _ (if_neg ?_)
    rintro ⟨hwin, hlost, hadm⟩
    rcases h with h | h | h
    · omega
    · exact hlost h
    · omega

end

section
/-! PROOFS. A discovered cell is assigned on a spoke whose store lists one cell twice (R134, R135, R148). -/

namespace Sys2Proof.Machine

/-- Spoke 127 listens after a DISC_OPEN. The store of cells is not in the canonical form of O10: it lists the cell of slot 95
first as admitted in its own slot, then as the one cell of the tail. -/
def doubledCell : State :=
  { openAt [] with cells := [
      (cellId 127 95, { Cell.reset with lstate := .admitted, uid := 9, ver := 2 }),
      (cellId 127 95, { Cell.reset with lstate := .tail, uid := 9, ver := 2, tailPos := some 0 })] }

/-- The bits of a discovery burst that arrives without delay. -/
def promptBurst : List Bool := discoveryBurst 0 true aDiscovery

theorem doubledCell_listens :
    (doubledCell.spoke 127).discOpen = some (0, 1, 0) ∧ (doubledCell.spoke 127).inB = false ∧
    doubledCell.flag (Fld.SPK_STAT_RX_AWAKE 127) = true ∧ doubledCell.flag (Fld.SPK_STAT_FENCED 127) = false ∧
    hearDiscovery (doubledCell.rd (Fld.SPK_STAT_GEAR 127)) promptBurst = some aDiscovery := by decide +kernel

/-- The burst's cell is new to the module, and slot 0 is free. -/
theorem doubledCell_has_slot :
    (∀ p ∈ doubledCell.cells, p.2.uid ≠ aDiscovery.uid ∨ p.2.lstate = .free) ∧ doubledCell.slotFor 127 aDiscovery.uid = some 0 := by
  decide +kernel

/-- The assignment numbers the tail anew, which the record of the tail slot makes one for the cell of slot 95. -/
theorem doubledCell_joins_tail :
    (match exec (.discoveryBurst 127 0 promptBurst) doubledCell with
      | .next t => decide ((t.cell (cellId 127 95)).tailPos = (doubledCell.cell (cellId 127 95)).tailPos)
      | _ => true) = false := by decide +kernel

end Sys2Proof.Machine

open Sys2Proof Sys2Proof.Machine

/-- Refutes O28: it says of every state, also of one whose store of cells lists a cell twice (not the canonical form of O10), that an assignment
changes no other cell without a tail slot. -/
theorem not_discoveryAndBinding : ¬ Obligations.DiscoveryAndBinding := by
  unfold Obligations.DiscoveryAndBinding
  intro h
  obtain ⟨hopen, hinB, hawake, hfenced, hbits⟩ := doubledCell_listens
  obtain ⟨hnew, hslot⟩ := doubledCell_has_slot
  obtain ⟨-, -, -, hburst, -⟩ := h doubledCell 127 0 (.mgc 1)
  obtain ⟨-, -, hheard⟩ := hburst 0 promptBurst (0, 1, 0) hopen
  obtain ⟨-, -, hround⟩ := hheard ⟨by decide +kernel, hawake, hfenced, hinB⟩ aDiscovery hbits
  obtain ⟨-, hslots⟩ := hround rfl rfl (by decide +kernel) (by decide) hnew
  obtain ⟨-, -, -, hassign⟩ := hslots 0 hslot
  obtain ⟨t, ht, -, -, -, -, -, hcells, -⟩ := hassign (by decide +kernel) (by decide +kernel) (by decide +kernel)
  have hne := doubledCell_joins_tail
  rw [ht] at hne
  exact of_decide_eq_false hne (congrArg Cell.tailPos (hcells (cellId 127 95) (by decide) (.inr rfl)))

end

section
/-! PROOFS. A RESTEP is refused on a spoke whose record, all at reset, stands in the store (R103). -/

namespace Sys2Proof.Machine

/-- Spoke 127 serves, and the step to its target gear G1 does not fit. The store of spokes is not in the canonical form of O10: it
lists a record that is all at reset. -/
def listedSpoke : State :=
  { servingAt [(Fld.SPK_STAT_GEAR_CAP 127, 1), (Fld.SPK_STAT_RIDER_GEAR 127, 1), (Fld.SPK_CFG_GEAR_MAX 127, 1), (Fld.TND_STAT_STATE, 4),
      (Fld.TND_STAT_LANES, 1), (Fld.CE_GDEMAND_DEMAND, 99999)] with
    spokes := [(127, Spoke.reset)] }

theorem listedSpoke_may_not_step :
    listedSpoke.targetGear 127 ≠ listedSpoke.rd (Fld.SPK_STAT_GEAR 127) ∧
    (listedSpoke.spokeState 127 = .serving ∧ (listedSpoke.spoke 127).plan = none ∧ (listedSpoke.spoke 127).probe = .none ∧
      (listedSpoke.spoke 127).inB = false) ∧
    listedSpoke.gearFits 127 (listedSpoke.targetGear 127) = false := by decide +kernel

/-- The refusal writes the spoke's record as it was, which takes it out of the store. -/
theorem listedSpoke_unlisted :
    (match exec (.spkRestep (.mgc 0) 127) listedSpoke with
      | .next t => decide (t.spokes = listedSpoke.spokes)
      | _ => true) = false := by decide +kernel

end Sys2Proof.Machine

open Sys2Proof Sys2Proof.Machine

/-- Refutes O29: it says of every state, also of one whose store of spokes lists a record at reset (not the canonical form of O10), that a refused
RESTEP leaves this store the same list. -/
theorem not_spokeBringUpAndGears : ¬ Obligations.SpokeBringUpAndGears := by
  unfold Obligations.SpokeBringUpAndGears
  intro h
  obtain ⟨htarget, hmay, hfits⟩ := listedSpoke_may_not_step
  obtain ⟨hwrites, -⟩ := h listedSpoke 127 (.mgc 0)
  obtain ⟨-, -, -, -, hstep, -⟩ := hwrites (by decide)
  obtain ⟨-, hrefused⟩ := hstep htarget hmay
  obtain ⟨t, ht, -, hspokes, -⟩ := hrefused hfits
  have hne := listedSpoke_unlisted
  rw [ht] at hne
  exact of_decide_eq_false hne hspokes

end

section
/-! PROOFS. What hosts' rings and streams see of the module's other work: what is delivered into host memory, the bulk buffers that go back,
and the streams of functions (R368 to R374, R517). -/

namespace Sys2Proof.Machine

/-! ### Work that delivers nothing -/

/-- Nothing is delivered into host memory, no bulk buffer goes back, and the listed fields read as before. -/
structure Undelivered (fs : List Field) (s t : State) : Prop where
  data : t.hostMem.data = s.hostMem.data
  blk : t.hostMem.blk = s.hostMem.blk
  regs : ∀ g ∈ fs, t.rd g = s.rd g

/-- Beside that every function has its streams, and its CLOSE waits as before. -/
structure Quiet (fs : List Field) (s t : State) : Prop extends Undelivered fs s t where
  streams : ∀ n, (t.fn n).streams = (s.fn n).streams ∧ (t.fn n).closing = (s.fn n).closing

theorem Undelivered.refl (fs : List Field) (s : State) : Undelivered fs s s := ⟨rfl, rfl, fun _ _ => rfl⟩

theorem Undelivered.trans {fs : List Field} {s t u : State} (h : Undelivered fs s t) (k : Undelivered fs t u) : Undelivered fs s u where
  data := k.data.trans h.data
  blk := k.blk.trans h.blk
  regs g hg := (k.regs g hg).trans (h.regs g hg)

theorem undelivered_ite {fs : List Field} {s t u : State} (p : Prop) [Decidable p] (h : Undelivered fs s t) (k : Undelivered fs s u) :
    Undelivered fs s (if p then t else u) := by
  split
  · exact h
  · exact k

theorem undelivered_foldl {α : Type} {fs : List Field} {k : State → α → State} (hk : ∀ s x, Undelivered fs s (k s x)) (l : List α) :
    ∀ s, Undelivered fs s (l.foldl k s) := by
  induction l with
  | nil => exact Undelivered.refl fs
  | cons x t ih => exact fun s => (hk s x).trans (ih _)

theorem undelivered_setFn (fs : List Field) (s : State) (f : Nat) (k : HostFn → HostFn) : Undelivered fs s (s.setFn f k) :=
  ⟨rfl, rfl, fun _ _ => rfl⟩

theorem Quiet.refl (fs : List Field) (s : State) : Quiet fs s s := ⟨.refl fs s, fun _ => ⟨rfl, rfl⟩⟩

theorem Quiet.trans {fs : List Field} {s t u : State} (h : Quiet fs s t) (k : Quiet fs t u) : Quiet fs s u where
  toUndelivered := h.toUndelivered.trans k.toUndelivered
  streams n := ⟨(k.streams n).1.trans (h.streams n).1, (k.streams n).2.trans (h.streams n).2⟩

theorem quiet_ite {fs : List Field} {s t u : State} (p : Prop) [Decidable p] (h : Quiet fs s t) (k : Quiet fs s u) :
    Quiet fs s (if p then t else u) := by
  split
  · exact h
  · exact k

theorem quiet_foldl {α : Type} {fs : List Field} {k : State → α → State} (hk : ∀ s x, Quiet fs s (k s x)) (l : List α) :
    ∀ s, Quiet fs s (l.foldl k s) := by
  induction l with
  | nil => exact Quiet.refl fs
  | cons x t ih => exact fun s => (hk s x).trans (ih _)

theorem quiet_wr {fs : List Field} {g : Field} (h : ∀ p ∈ fs, p.key ≠ g.key) (s : State) (v : Nat) : Quiet fs s (s.wr g v) :=
  ⟨⟨rfl, rfl, fun p hp => State.rd_wr_ne s v (h p hp)⟩, fun _ => ⟨rfl, rfl⟩⟩

theorem quiet_wrs {fs : List Field} {l : List (Field × Nat)} (h : ∀ q ∈ l, ∀ p ∈ fs, p.key ≠ q.1.key) (s : State) : Quiet fs s (s.wrs l) := by
  induction l generalizing s with
  | nil => exact Quiet.refl fs s
  | cons q t ih => exact (quiet_wr (h q (.head _)) s _).trans (ih (fun r hr => h r (.tail _ hr)) _)

theorem quiet_setFn (fs : List Field) (s : State) (f : Nat) {k : HostFn → HostFn}
    (hk : (k (s.fn f)).streams = (s.fn f).streams ∧ (k (s.fn f)).closing = (s.fn f).closing) : Quiet fs s (s.setFn f k) := by
  refine ⟨undelivered_setFn fs s f k, fun n => ?_⟩
  by_cases hn : n = f
  · subst hn
    rw [State.setFn_fn_self]
    exact hk
  · rw [State.setFn_fn_ne _ _ _ hn]
    exact ⟨rfl, rfl⟩

/-! ### Messages and events (R371 to R375) -/

theorem quiet_setVector (fs : List Field) (s : State) (f v : Nat) (k : Vector' → Vector') : Quiet fs s (s.setVector f v k) :=
  quiet_setFn fs s f ⟨rfl, rfl⟩

theorem quiet_signal (fs : List Field) (s : State) (f v : Nat) : Quiet fs s (s.signal f v) :=
  (quiet_setVector fs s f v _).trans (quiet_ite _ (quiet_setVector fs _ f v _) (Quiet.refl fs _))

/-- The page fields that an event may change. -/
def evtFields (f : Nat) : List Field := [Fld.HIF_FN_EVT_PTR_TAIL f, Fld.HIF_FN_CNT_EVTLOST_CNT f, Fld.HIF_FN_STAT_EVT_OVF f]

/-- None of the listed fields is one that an event to `f` may change. -/
def OffEvents (f : Nat) (fs : List Field) : Prop := ∀ g ∈ evtFields f, ∀ p ∈ fs, p.key ≠ g.key

theorem OffEvents.nil (f : Nat) : OffEvents f [] := fun _ _ _ hp => nomatch hp

theorem quiet_putEvent {fs : List Field} {f : Nat} (h : OffEvents f fs) (s : State) (e : EvtRec) : Quiet fs s (s.putEvent f e) := by
  have hevt (u : State) (m : FMap (Option EvtRec)) : Quiet fs u { u with hostMem := { u.hostMem with evt := m } } :=
    ⟨⟨rfl, rfl, fun _ _ => rfl⟩, fun _ => ⟨rfl, rfl⟩⟩
  have htail (u : State) (v : Nat) : Quiet fs u (u.wr (Fld.HIF_FN_EVT_PTR_TAIL f) v) := quiet_wr (h _ (by simp [evtFields])) u v
  unfold State.putEvent
  dsimp only
  exact (((hevt s _).trans (htail _ _)).trans (quiet_ite _ (quiet_setFn fs _ f ⟨rfl, rfl⟩) (Quiet.refl fs _))).trans (quiet_signal fs _ f 1)

theorem quiet_postEvent {fs : List Field} {f : Nat} (h : OffEvents f fs) (s : State) (tag : BitVec 32) (b : EventBody) :
    Quiet fs s (s.postEvent f tag b) := by
  have hset (k : HostFn → HostFn) (hk : (k (s.fn f)).streams = (s.fn f).streams ∧ (k (s.fn f)).closing = (s.fn f).closing) :
      Quiet fs s (s.setFn f k) := quiet_setFn fs s f hk
  unfold State.postEvent
  dsimp only
  refine quiet_ite _ (Quiet.refl fs s) (quiet_ite _ (quiet_putEvent h s _) (quiet_ite _ (hset _ ⟨rfl, rfl⟩) ?lost))
  case lost =>
    exact ((hset _ ⟨rfl, rfl⟩).trans (quiet_wr (h (Fld.HIF_FN_CNT_EVTLOST_CNT f) (by simp [evtFields])) _ _)).trans
      (quiet_wr (h (Fld.HIF_FN_STAT_EVT_OVF f) (by simp [evtFields])) _ _)

/-! ### Streams and sessions that end (R359, R374, R389) -/

/-- None of the listed fields says whether a segment is being read. -/
def OffReading (fs : List Field) : Prop := ∀ i < 16, ∀ p ∈ fs, p.key ≠ (Fld.REC_D_STAT_READING i).key

theorem OffReading.nil : OffReading [] := fun _ _ _ hp => nomatch hp

theorem quiet_readingEnds {fs : List Field} (h : OffReading fs) (s : State) (st : Stream) : Quiet fs s (s.readingEnds st) :=
  quiet_ite _ (quiet_wr (h _ (Nat.mod_lt _ (by decide))) s _) (Quiet.refl fs s)

theorem undelivered_endStream {fs : List Field} {f : Nat} (he : OffEvents f fs) (hr : OffReading fs) (s : State) (k reason : Nat) :
    Undelivered fs s (s.endStream f k reason) := by
  unfold State.endStream
  split
  · exact Undelivered.refl fs s
  · exact ((quiet_readingEnds hr s _).toUndelivered.trans (undelivered_setFn fs _ f _)).trans (quiet_postEvent he _ _ _).toUndelivered

/-- The stream that ends is closed, the others of the function stay. -/
theorem State.stream_endStream (s : State) (f k reason j : Nat) :
    FMap.get none ((s.endStream f k reason).fn f).streams j = if j = k then none else FMap.get none (s.fn f).streams j := by
  unfold State.endStream
  split
  next hnone =>
    split
    next hj => rw [hj, hnone]
    next => rfl
  next st _ =>
    rw [((quiet_postEvent (OffEvents.nil f) _ _ _).streams f).1, State.setFn_fn_self, FMap.get_set,
      ((quiet_readingEnds OffReading.nil s st).streams f).1]

/-- A closed stream stays closed while the others end. -/
theorem State.stream_endStreams (s : State) (f : Nat) {k : Nat} (h : FMap.get none (s.fn f).streams k = none) :
    FMap.get none ((s.endStreams f).fn f).streams k = none := by
  unfold State.endStreams
  generalize List.range 8 = l
  induction l generalizing s with
  | nil => exact h
  | cons j t ih =>
    refine ih (s.endStream f j 0) ?_
    rw [State.stream_endStream, h, ite_self]

theorem quiet_endSessions (s : State) (p : Session → Bool) (reason : Nat) : Quiet [] s (s.endSessions p reason) := by
  refine quiet_foldl (fun u (x : Session) => ?_) _ s
  have hdrop (v : State) (y : SecStore) : Quiet [] v { v with sec := y } := ⟨⟨rfl, rfl, fun _ _ => rfl⟩, fun _ => ⟨rfl, rfl⟩⟩
  have hshow (v : State) : Quiet [] v v.showSessions := quiet_wr (by simp) v _
  unfold State.endSession
  split
  · exact Quiet.refl [] u
  · exact ((hdrop u _).trans (hshow _)).trans (quiet_postEvent (OffEvents.nil _) _ _ _)

/-! ### Completions (R368, R369) -/

/-- A field off the page of `f` is none of the page's. -/
theorem ne_pageField {f : Nat} {fs : List Field} (h : ∀ p ∈ fs, ¬ OnPage f p) {g : Field} (hg : g ∈ pageFields f) :
    ∀ p ∈ fs, p.key ≠ g.key := fun p hp hk => h p hp (by simpa [OnPage, hk] using onPage_of_mem hg)

section
variable {f : Nat} {fs : List Field} (h : ∀ p ∈ fs, ¬ OnPage f p)
include h

theorem quiet_putCompletion (s : State) (x : InFlight) (st : Status) (result : BitVec 64) (volley detail : BitVec 32) :
    Quiet fs s (s.putCompletion f x st result volley detail) := by
  have hcpl (u : State) (c : FMap (Option CplRec)) : Quiet fs u (u.withCpl c) := ⟨⟨rfl, rfl, fun _ _ => rfl⟩, fun _ => ⟨rfl, rfl⟩⟩
  have htail (u : State) (v : Nat) : Quiet fs u (u.wr (Fld.HIF_FN_CPL_PTR_TAIL f) v) := quiet_wr (ne_pageField h (by simp [pageFields])) u v
  have hphase {u v : State} (q : Quiet fs u v) (p : Prop) [Decidable p] (b : Bool) :
      Quiet fs u (if p then v.setFn f (fun y => { y with cplPhase := b }) else v) :=
    q.trans (quiet_ite _ (quiet_setFn fs v f ⟨rfl, rfl⟩) (Quiet.refl fs v))
  have hsignal {u v : State} (q : Quiet fs u v) (p : Prop) [Decidable p] : Quiet fs u (if p then v.signal f 0 else v) :=
    q.trans (quiet_ite _ (quiet_signal fs v f 0) (Quiet.refl fs v))
  unfold State.putCompletion
  split
  · exact Quiet.refl fs s
  · exact hsignal (hphase ((hcpl s _).trans (htail _ _)) _ _) _

theorem quiet_showFn (s : State) : Quiet fs s (s.showFn f) :=
  (quiet_wr (g := Fld.HIF_FN_INFLIGHT_N f) (ne_pageField h (by simp [pageFields])) s _).trans
    (quiet_wr (g := Fld.HIF_FN_STAT_CPL_WAIT f) (ne_pageField h (by simp [pageFields])) _ _)

theorem quiet_leaveFlight (s : State) (x : InFlight) (st : Status) : Quiet fs s (s.leaveFlight f x st) := by
  have hpage {g : Field} (hg : g ∈ pageFields f) (u : State) (v : Nat) : Quiet fs u (u.wr g v) := quiet_wr (ne_pageField h hg) u v
  have hcount {u v : State} (q : Quiet fs u v) (p : Prop) [Decidable p] {g : Field} (hg : g ∈ pageFields f) :
      Quiet fs u (if p then v.bump g else v) := q.trans (quiet_ite _ (hpage hg v _) (Quiet.refl fs v))
  have hleft : Quiet fs s ((s.setFn f (fun h => { h with inflight := h.inflight.filter (fun y => y.serial != x.serial) })).bump
      (Fld.HIF_FN_CNT_DONE_CNT f)) := (quiet_setFn fs s f ⟨rfl, rfl⟩).trans (hpage (by simp [pageFields]) _ _)
  unfold State.leaveFlight
  dsimp only
  exact (hcount (hcount hleft _ (by simp [pageFields])) _ (by simp [pageFields])).trans (quiet_showFn h _)

end

theorem undelivered_finishClose (s : State) (f : Nat) : Undelivered [] s (s.finishClose f) := by
  have hstreams : Undelivered [] s (s.endStreams f) :=
    undelivered_foldl (fun u k => undelivered_endStream (OffEvents.nil f) OffReading.nil u k 0) _ s
  have hsessions := hstreams.trans (quiet_endSessions (s.endStreams f) (fun x => x.fn == f) 0).toUndelivered
  have hend (u : State) (k : HostFn → HostFn) : Undelivered [] u (((u.setFn f k).wrs
      [(Fld.HIF_FN_STAT_OPEN f, 0), (Fld.HIF_FN_STAT_LEVEL f, 0), (Fld.HIF_FN_STAT_THROTTLED f, 0)]).showFn f) :=
    ((undelivered_setFn [] u f k).trans (quiet_wrs (by simp) _).toUndelivered).trans (quiet_showFn (by simp) _).toUndelivered
  exact hsessions.trans (hend _ _)

theorem State.stream_finishClose (s : State) (f : Nat) {k : Nat} (h : FMap.get none (s.fn f).streams k = none) :
    FMap.get none ((s.finishClose f).fn f).streams k = none := by
  unfold State.finishClose
  dsimp only
  rw [State.fn_showFn, State.fn_wrs, State.setFn_fn_self]
  dsimp only
  rw [((quiet_endSessions (s.endStreams f) (fun x => x.fn == f) 0).streams f).1]
  exact State.stream_endStreams s f h

/-- A descriptor completes in two steps: it is recorded and leaves its function, and a CLOSE that waited for it may end. -/
theorem State.done_eq (s : State) (f : Nat) (x : InFlight) (st : Status) (result detail : Nat) : ∃ u,
    (∀ fs : List Field, (∀ p ∈ fs, ¬ OnPage f p) → Quiet fs s u) ∧
    s.done f x st result detail = if (u.fn f).closing ∧ (u.fn f).inflight = [] then u.finishClose f else u :=
  ⟨_, fun _ h => (quiet_putCompletion h s x st _ _ _).trans (quiet_leaveFlight h _ x st), State.complete_eq _ _ _ _ _ _ _⟩

theorem State.undelivered_done (s : State) (f : Nat) (x : InFlight) (st : Status) (result detail : Nat) :
    Undelivered [] s (s.done f x st result detail) := by
  obtain ⟨u, hquiet, hdone⟩ := s.done_eq f x st result detail
  have hu := (hquiet [] fun _ hp => nomatch hp).toUndelivered
  rw [hdone]
  exact undelivered_ite _ (hu.trans (undelivered_finishClose u f)) hu

/-- While no CLOSE waits, a completion ends no stream. -/
theorem State.quiet_done {s : State} {f : Nat} (hc : (s.fn f).closing = false) (x : InFlight) (st : Status) (result detail : Nat)
    {fs : List Field} (h : ∀ p ∈ fs, ¬ OnPage f p) : Quiet fs s (s.done f x st result detail) := by
  obtain ⟨u, hquiet, hdone⟩ := s.done_eq f x st result detail
  have hopen : (u.fn f).closing = false := (((hquiet fs h).streams f).2).trans hc
  rw [hdone, if_neg (by simp [hopen])]
  exact hquiet fs h

/-- No completion opens a stream. -/
theorem State.stream_done (s : State) (f : Nat) (x : InFlight) (st : Status) (result detail : Nat) {k : Nat}
    (h : FMap.get none (s.fn f).streams k = none) : FMap.get none ((s.done f x st result detail).fn f).streams k = none := by
  obtain ⟨u, hquiet, hdone⟩ := s.done_eq f x st result detail
  have hu : FMap.get none (u.fn f).streams k = none := by
    rw [((hquiet [] fun _ hp => nomatch hp).streams f).1, h]
  rw [hdone]
  split
  · exact u.stream_finishClose f hu
  · exact hu

theorem State.engines_done (s : State) (f : Nat) (x : InFlight) (st : Status) (result detail : Nat) :
    (s.done f x st result detail).engines = s.engines := by
  obtain ⟨⟨c, htalks, -⟩, -⟩ := s.done_talks f x st result detail
  exact (congrArg State.engines htalks.parts).trans rfl

/-! ### The places in a function's rings (R368, R374) -/

/-- Where the completion ring ends, and where the ring of bulk buffers begins and how long it is. -/
def ringPlaces (f : Nat) : List Field := [Fld.HIF_FN_CPL_PTR_TAIL f, Fld.HIF_FN_BLK_PTR_HEAD f, Fld.HIF_FN_RING_SIZE_LOG2 f 3]

theorem ringPlaces_offEvents (f : Nat) : OffEvents f (ringPlaces f) := by
  simp [OffEvents, evtFields, ringPlaces, Field.key, Fld.HIF_FN_EVT_PTR_TAIL, Fld.HIF_FN_CNT_EVTLOST_CNT, Fld.HIF_FN_STAT_EVT_OVF,
    Fld.HIF_FN_CPL_PTR_TAIL, Fld.HIF_FN_BLK_PTR_HEAD, Fld.HIF_FN_RING_SIZE_LOG2]
  omega

theorem onPage_ringPlaces (f : Nat) : ∀ p ∈ ringPlaces f, OnPage f p := by
  simp [ringPlaces, OnPage, fnBase, Field.key, Fld.HIF_FN_CPL_PTR_TAIL, Fld.HIF_FN_BLK_PTR_HEAD, Fld.HIF_FN_RING_SIZE_LOG2]
  omega

/-- A field of the blocks is no place of a ring. -/
theorem ringPlaces_ne_block (f : Nat) {g : Field} (ha : g.addr < 0x9300000) (hl : g.lsb < 32) : ∀ p ∈ ringPlaces f, p.key ≠ g.key :=
  fun p hp hk => not_onPage_of_block ha hl f (by simpa [OnPage, hk] using onPage_ringPlaces f p hp)

theorem reading_inBlocks {i : Nat} (hi : i < 16) : (Fld.REC_D_STAT_READING i).addr < 0x9300000 ∧ (Fld.REC_D_STAT_READING i).lsb < 32 := by
  simp only [Fld.REC_D_STAT_READING]
  omega

theorem ringPlaces_offReading (f : Nat) : OffReading (ringPlaces f) := fun _ hi =>
  ringPlaces_ne_block f (reading_inBlocks hi).1 (reading_inBlocks hi).2

/-- A completion after work that moves no ring stands where the ring ended before it. -/
theorem Undelivered.completedWith {f : Nat} {x : InFlight} {st : Status} {n : Nat} {s u t : State} (h : Undelivered (ringPlaces f) s u)
    (k : CompletedWith f x st n u t) : CompletedWith f x st n s t := by
  rw [CompletedWith, h.regs _ (by simp [ringPlaces])] at k
  exact k

end Sys2Proof.Machine
end

section
/-! PROOFS. READ_REG delivers nothing on the way, and a segment that is freed moves no ring (R366, R367, R455, R501, R512, R517). -/

namespace Sys2Proof.Machine

/-! ### Words that MGC0 reads -/

theorem regTable_latched : ∀ d ∈ regTable, d.base = 0x8600000 → d.strides = [(4, 0x100)] := by decide +kernel

theorem regTable_popped : ∀ d ∈ regTable, d.base = 0x908000c → d.strides = [(60, 0x80)] := by decide +kernel

/-- The index of a register found in a row of one stride is below the row's count. -/
theorem findReg_index_lt {a i j n st : Nat} {d : RegDef} (h : findReg regTable a = some (d, i, j)) (hd : d.strides = [(n, st)]) : i < n := by
  obtain ⟨hmem, hind⟩ := mem_and_indices_of_findReg h
  obtain ⟨haddr, -, htop⟩ := RegDef.of_indices (regTable_steps d hmem) hind
  simp only [RegDef.addrAt, hd] at haddr
  simp only [RegDef.top, hd] at htop
  rw [← haddr] at htop
  exact Nat.lt_of_mul_lt_mul_left (Nat.lt_of_add_lt_add_left htop)

theorem undelivered_queue (fs : List Field) (s : State) (q : Nat) (k : EventQ → EventQ) : Undelivered fs s (s.setQueue q k) :=
  ⟨rfl, rfl, fun _ _ => rfl⟩

section
variable (f : Nat)

/-- Fields of the blocks that are written move no ring. -/
theorem undelivered_wrs_block {l : List (Field × Nat)} (h : ∀ q ∈ l, q.1.addr < 0x9300000 ∧ q.1.lsb < 32) (s : State) :
    Undelivered (ringPlaces f) s (s.wrs l) :=
  (quiet_wrs (fun q hq => ringPlaces_ne_block f (h q hq).1 (h q hq).2) s).toUndelivered

theorem undelivered_eqPop (s : State) {q : Nat} (hq : q < 60) : Undelivered (ringPlaces f) s (s.eqPop q) := by
  have hpop (u : State) (v m : Nat) : Undelivered (ringPlaces f) u (u.wrs [(Fld.IRQ_EQ_POP_VALID q, v), (Fld.IRQ_EQ_POP_MORE q, m)]) :=
    undelivered_wrs_block f (by simp [Fld.IRQ_EQ_POP_VALID, Fld.IRQ_EQ_POP_MORE]; omega) u
  have hwords (u : State) (g : List (BitVec 32)) : Undelivered (ringPlaces f) u
      ((List.range 8).foldl (fun s j => s.wr (Fld.IRQ_EQ_HOLD_WORD q j) (g.getD j 0).toNat) u) := by
    have hwrs : (List.range 8).foldl (fun (s : State) j => s.wr (Fld.IRQ_EQ_HOLD_WORD q j) (g.getD j 0).toNat) u =
        u.wrs ((List.range 8).map (fun j => (Fld.IRQ_EQ_HOLD_WORD q j, (g.getD j 0).toNat))) := by
      rw [State.wrs_eq_foldl, List.foldl_map]
    rw [hwrs]
    refine undelivered_wrs_block f (fun p hp => ?_) u
    obtain ⟨j, hj, rfl⟩ := List.mem_map.1 hp
    have hj8 := List.mem_range.1 hj
    simp only [Fld.IRQ_EQ_HOLD_WORD]
    omega
  have hshow (u : State) : Undelivered (ringPlaces f) u (u.showQueue q) :=
    undelivered_wrs_block f (by simp [Fld.IRQ_EQ_STAT_FILL, Fld.IRQ_EQ_STAT_IN_ITEM, Fld.IRQ_EQ_STAT_LEFT, Fld.IRQ_EQ_STAT_ORPHANING]; omega) u
  unfold State.eqPop
  split
  · exact hpop s 0 0
  · split
    · exact hpop s 0 0
    · exact (((undelivered_queue _ s q _).trans (hwords _ _)).trans (hpop _ _ _)).trans (hshow _)

theorem undelivered_readWord (s : State) (blk offset : Nat) : Undelivered (ringPlaces f) s (s.readWord blk offset).2 := by
  unfold State.readWord
  generalize hreg : findReg regTable (blockAddr blk offset) = r
  cases histAt blk offset with
  | some x => exact Undelivered.refl _ s
  | none =>
    cases r with
    | none => exact Undelivered.refl _ s
    | some x =>
      obtain ⟨d, i, j⟩ := x
      have hmem := (mem_and_indices_of_findReg hreg).1
      dsimp -zeta only
      split
      next hbase =>
        have hi := findReg_index_lt hreg (regTable_latched d hmem hbase)
        exact undelivered_wrs_block f (by
          simp [Fld.TBS_TB_NS_NS, Fld.TBS_TB_SEC_LO_SEC, Fld.TBS_TB_SEC_HI_SEC, Fld.TBS_TB_FRAC_FRAC]; omega) s
      · split
        next hbase => exact undelivered_eqPop f s (findReg_index_lt hreg (regTable_popped d hmem hbase))
        next => exact Undelivered.refl _ s

theorem undelivered_accessFault (fs : List Field) (s : State) (u : Core) (a : Nat) : Undelivered fs s (s.accessFault u a) :=
  ⟨rfl, rfl, fun _ _ => rfl⟩

theorem undelivered_busRead (s : State) (u : Core) (a : Nat) : Undelivered (ringPlaces f) s (s.busRead u a).2 := by
  have hread := undelivered_readWord f s
  have hfault := undelivered_accessFault (ringPlaces f) s u a
  have hsame := Undelivered.refl (ringPlaces f) s
  have hfree : Undelivered (ringPlaces f) s { s with freeCtr := s.freeCtr + 1 } := ⟨rfl, rfl, fun _ _ => rfl⟩
  unfold State.busRead
  revert hread
  generalize State.readWord s = read
  intro hread
  (repeat' split) <;> simp only [hfault, hsame, hfree, hread]

/-- What a recursion on a number starts with and each of its steps keeps. -/
theorem brecOn_induction {β : Type} {P : Nat → β → Prop} {F : (n : Nat) → Nat.below (motive := fun _ => β) n → β}
    (h0 : ∀ b, P 0 (F 0 b)) (hstep : ∀ n p b, P n p → P (n + 1) (F (n + 1) ⟨p, b⟩)) (n : Nat) :
    P n (Nat.brecOn (motive := fun _ => β) n F) := by
  induction n with
  | zero => exact h0 _
  | succ n ih => exact hstep n _ _ ih

/-- The words read so far and the state that the reads leave, one bus read after the other. -/
theorem State.readWords_induction (s : State) (blk offset : Nat) {P : Nat → List (BitVec 64) → State → Prop} (h0 : P 0 [] s)
    (hstep : ∀ n ws u, P n ws u → P (n + 1) (ws ++ [BitVec.ofNat 64 (u.busRead (.mgc 0) (blockAddr blk (offset + 4 * n))).1])
      (u.busRead (.mgc 0) (blockAddr blk (offset + 4 * n))).2) (n : Nat) : P n (s.readWords blk offset n).1 (s.readWords blk offset n).2 := by
  delta State.readWords
  generalize hF : State.readWords._f s blk offset = F
  delta State.readWords._f at hF
  revert hstep hF
  generalize State.busRead = read
  revert read
  refine id fun read hstep hF => ?_
  subst hF
  exact brecOn_induction (β := List (BitVec 64) × State) (P := fun n p => P n p.1 p.2) (fun _ => h0) (fun n p b hp => hstep n p.1 p.2 hp) n

theorem undelivered_readWords (s : State) (blk offset n : Nat) : Undelivered (ringPlaces f) s (s.readWords blk offset n).2 :=
  s.readWords_induction blk offset (P := fun _ _ u => Undelivered (ringPlaces f) s u) (Undelivered.refl _ s)
    (fun _ _ u h => h.trans (undelivered_busRead f u (.mgc 0) _)) n

end

theorem State.length_readWords (s : State) (blk offset n : Nat) : (s.readWords blk offset n).1.length = n :=
  s.readWords_induction blk offset (P := fun n ws _ => ws.length = n) rfl
    (fun n ws u h => by rw [List.length_append, h, List.length_singleton]) n

/-! ### Segments that are freed -/

theorem undelivered_raise_block (f : Nat) (s : State) {g : Field} (ha : g.addr < 0x9300000) (hl : g.lsb < 32) (n : Nat) :
    Undelivered (ringPlaces f) s (s.raise g n) := by
  have hmem : (s.raise g n).hostMem = s.hostMem := (congrArg State.hostMem (State.raise_parts s g n)).trans rfl
  refine ⟨by rw [hmem], by rw [hmem], fun p hp => ?_⟩
  refine State.rd_raise_ne s g n p (ringPlaces_ne_block f ha hl p hp) fun x hx => ?_
  obtain ⟨-, hlsb, haddr⟩ := eventFields_plainAt x hx
  exact ringPlaces_ne_block f haddr hlsb p hp

theorem undelivered_recFill (f : Nat) (s : State) {d : Nat} (hd : d < 16) : Undelivered (ringPlaces f) s (s.recFill d) := by
  have hset (u : State) (k : RecDef → RecDef) : Undelivered (ringPlaces f) u (u.setRec d k) := ⟨rfl, rfl, fun _ _ => rfl⟩
  have hcap (u : State) (c : FMap (Option Capture)) : Undelivered (ringPlaces f) u { u with captures := c } := ⟨rfl, rfl, fun _ _ => rfl⟩
  have hstat (u : State) (v k : Nat) : Undelivered (ringPlaces f) u
      (u.wrs [(Fld.REC_D_STAT_STATE d, v), (Fld.REC_D_STAT_SEG d, k), (Fld.REC_D_PEAK_BYTES d, 0)]) :=
    undelivered_wrs_block f (by simp [Fld.REC_D_STAT_STATE, Fld.REC_D_STAT_SEG, Fld.REC_D_PEAK_BYTES]; omega) u
  have hfull (u : State) : Undelivered (ringPlaces f) u (u.wr (Fld.REC_D_STAT_STATE d) 4) :=
    undelivered_wrs_block f (l := [(Fld.REC_D_STAT_STATE d, 4)]) (by simp [Fld.REC_D_STAT_STATE]; omega) u
  unfold State.recFill
  split
  · exact ((hcap s _).trans (hset _ _)).trans (hstat _ _ _)
  · exact ((hset s _).trans (hfull _)).trans (undelivered_raise_block f _ (by decide) (by decide) d)

theorem undelivered_recFree (f : Nat) (s : State) {d : Nat} (hd : d < 16) (k : Nat) : Undelivered (ringPlaces f) s (s.recFree d k) := by
  have hcap (u : State) (c : FMap (Option Capture)) : Undelivered (ringPlaces f) u { u with captures := c } := ⟨rfl, rfl, fun _ _ => rfl⟩
  have hdone : (Fld.REC_D_STAT_DONE d).addr < 0x9300000 ∧ (Fld.REC_D_STAT_DONE d).lsb < 32 := by
    simp only [Fld.REC_D_STAT_DONE]
    omega
  have hbits (b c : Bool) : Undelivered (ringPlaces f) s ((s.wrBit (Fld.REC_D_STAT_DONE d) k b).wrBit (Fld.REC_D_STAT_READING d) k c) :=
    ((quiet_wr (ringPlaces_ne_block f hdone.1 hdone.2) s _).trans (quiet_wr (ringPlaces_offReading f d hd) _ _)).toUndelivered
  have hrest {u v : State} (p : Prop) [Decidable p] (h : Undelivered (ringPlaces f) u v) :
      Undelivered (ringPlaces f) u (if p then v.recFill d else v) := undelivered_ite p (h.trans (undelivered_recFill f v hd)) h
  exact hrest _ ((hbits false false).trans (hcap _ _))

end Sys2Proof.Machine
end

section
/-! PROOFS. Read and stream descriptors (R366, R367, R517): what each command does with the descriptor it may carry out. -/

namespace Sys2Proof.Machine

theorem State.withDescr_of_none {s : State} {f : Nat} {index : BitVec 16} (h : s.runnable f index.toNat = none) (k : InFlight → State) :
    s.withDescr f index k = s := by
  rw [State.withDescr, h]

theorem emergencyBlock_idle {s : State} {fn : Fin 256} {index : BitVec 16} (h : s.runnable fn.val index.toNat = none)
    (hs : (s.fn fn.val).standing = []) : exec (.emergencyBlock fn index) s = .next s := by
  show execEmergencyBlock fn index s = _
  simp only [execEmergencyBlock, hs, List.find?_nil]
  rw [State.withDescr_of_none h]

/-- What a completion leaves beside the volley, and what has been delivered before it. -/
theorem State.done_keeps (s : State) (f : Nat) (x : InFlight) (st : Status) (result : Nat) :
    (s.done f x st result).hostMem.data = s.hostMem.data ∧ (s.done f x st result).cells = s.cells ∧ (s.done f x st result).image = s.image :=
  ⟨(s.undelivered_done f x st result 0).data, (beside_done s f x st result 0).cells, (beside_done s f x st result 0).image⟩

theorem covered_eq (c n : Nat) : covered c n = ((List.range n).map (fun i => c + i)).filter (fun j => decide (j % 128 < 96)) := by
  simp only [covered, Nat.add_comm]

/-- Words of a stated number per cell. -/
theorem length_flatMap_const {α β : Type} (l : List α) (g : α → List β) (k : Nat) (h : ∀ x, (g x).length = k) :
    (l.flatMap g).length = k * l.length := by
  simp [List.length_flatMap, h, Nat.mul_comm]

/-- Words delivered to DST, and the descriptor complete with its byte count. -/
theorem State.delivered_done (s : State) (f : Nat) (x : InFlight) (dst : BitVec 64) (size : Nat) (ws : List (BitVec 64)) (n : Nat) :
    let t := (s.dma f dst size ws).done f x .ok n
    CompletedWith f x .ok n s t ∧ t.hostMem.data = s.hostMem.data ++ [⟨f, dst, size, ws⟩] ∧
      t.image = s.image ∧ t.cells = s.cells := by
  obtain ⟨hdata, hcells, himage⟩ := (s.dma f dst size ws).done_keeps f x .ok n
  exact ⟨State.completedWith_done (s.dma f dst size ws) f x .ok n 0, hdata, himage, hcells⟩

/-- The state in which the point request of a FRESH read is due and its descriptor waits (R138, R367). -/
def State.askFresh (s : State) (f : Nat) (x : InFlight) (c p : Nat) : State :=
  ((s.setProgress f x.serial .fresh).setCell c (fun y => { y with fresh := y.fresh ++ [⟨f, x.serial, p, 0, false⟩] })).dueReq c 0 p 0 0

theorem State.askFresh_spec (s : State) {f : Nat} {x : InFlight} (hmem : x ∈ (s.fn f).inflight) (c p : Nat) :
    let t := s.askFresh f x c p
    (t.fn f).inflight.length = (s.fn f).inflight.length ∧
    ((t.fn f).inflight.find? (fun y => y.serial == x.serial)).map (·.at') = some .fresh ∧
    (t.cell c).fresh = (s.cell c).fresh ++ [⟨f, x.serial, p, 0, false⟩] ∧
    (t.spoke (c / 128)).items = (s.spoke (c / 128)).items ++ [.req { slot := c % 128, op := 0, point := p, wtag := 0, value := 0, back := false }] ∧
    MapBut Cell.reset [c] s.cells t.cells ∧ MapBut Spoke.reset [c / 128] s.spokes t.spokes ∧
    t = { s with host := t.host, cells := t.cells, spokes := t.spokes } := by
  have hfn : (s.askFresh f x c p).fn f = (s.setProgress f x.serial .fresh).fn f := rfl
  have hcells : (s.askFresh f x c p).cells =
      FMap.modify Cell.reset s.cells c (fun y => { y with fresh := y.fresh ++ [⟨f, x.serial, p, 0, false⟩] }) := rfl
  have hspokes : (s.askFresh f x c p).spokes = FMap.modify Spoke.reset s.spokes (c / 128) (fun q => { q with items := q.items ++
      [.req { slot := c % 128, op := 0, point := p, wtag := 0, value := 0, back := false }] }) := rfl
  refine ⟨?length, ?progress, ?cell, ?spoke, fun j hj => ?cells, fun n hn => ?spokes, rfl⟩
  case length => rw [hfn, State.inflight_setProgress, List.length_map]
  case progress => rw [hfn, s.progress_setProgress f _ hmem]
  case cell => rw [State.cell, hcells, FMap.get_modify_self]; rfl
  case spoke => rw [State.spoke, hspokes, FMap.get_modify_self]; rfl
  case cells => rw [hcells, FMap.get_modify_ne _ _ _ (by simpa using hj)]
  case spokes => rw [hspokes, FMap.get_modify_ne _ _ _ (by simpa using hn)]

section
variable {s : State} {fn : Fin 256} {index : BitVec 16} {x : InFlight} (hx : s.runnable fn.val index.toNat = some x)
include hx

theorem hostNop_completes (hb : x.d.body = .nop) : ∃ t, exec (.hostNop fn index) s = .next t ∧ CompletedWith fn.val x .ok 0 s t ∧
    t.hostMem.data = s.hostMem.data ∧ t.engines = s.engines ∧ t.cells = s.cells := by
  have hexec : execHostNop fn index s = .next (s.done fn.val x .ok) := by simp only [execHostNop, State.withDescr, hx, hb]
  obtain ⟨hdata, hcells, -⟩ := s.done_keeps fn.val x .ok 0
  exact ⟨_, hexec, s.completedWith_done fn.val x .ok 0 0, hdata, s.engines_done fn.val x .ok 0 0, hcells⟩

section
variable {c n p k len : Nat} {dst : BitVec 64} {fresh : Bool} (hb : x.d.body = .readPoints c n p k dst len fresh)
include hb

/-- The words of READ_POINTS come from the image, but for FRESH on a module that may send (R344, R367). -/
theorem readPoints_from_image (hold : fresh = false ∨ s.activeOrSolo = false) : ∃ t, exec (.readPoints fn index) s = .next t ∧
    CompletedWith fn.val x .ok (8 * k * (covered c n).length) s t ∧
    t.hostMem.data = s.hostMem.data ++ [⟨fn.val, dst, 8, (covered c n).flatMap (fun j => (List.range k).map (fun i => s.imageWord j (p + i)))⟩] ∧
    t.image = s.image ∧ t.cells = s.cells := by
  have hexec : execReadPoints fn index s = .next ((s.dma fn.val dst 8 ((covered c n).flatMap fun j =>
      (List.range k).map (fun i => s.imageWord j (p + i)))).done fn.val x .ok (8 * k * (covered c n).length)) := by
    simp only [execReadPoints, State.withDescr, hx, hb]
    rw [if_neg (by rcases hold with h | h <;> simp [h]), length_flatMap_const _ _ k (by simp), Nat.mul_assoc]
  exact ⟨_, hexec, s.delivered_done fn.val x dst 8 _ _⟩

theorem readPoints_asks (hf : fresh = true) (ha : s.activeOrSolo = true) :
    exec (.readPoints fn index) s = .next (s.askFresh fn.val x c p) := by
  show execReadPoints fn index s = _
  simp only [execReadPoints, State.withDescr, hx, hb]
  rw [if_pos ⟨hf, ha⟩]
  rfl

end

theorem readReg_delivers {b o n : Nat} {dst : BitVec 64} (hb : x.d.body = .readReg b o n dst) : ∃ t, exec (.readReg fn index) s = .next t ∧
    CompletedWith fn.val x .ok (4 * n) s t ∧
    t.hostMem.data = s.hostMem.data ++ [⟨fn.val, dst, 4, (s.readWords b o n).1⟩] := by
  have hexec : execReadReg fn index s = .next (((s.readWords b o n).2.dma fn.val dst 4 (s.readWords b o n).1).done fn.val x .ok (4 * n)) := by
    simp only [execReadReg, State.withDescr, hx, hb]
  have hread := undelivered_readWords fn.val s b o n
  obtain ⟨hdone, hdata, -⟩ := (s.readWords b o n).2.delivered_done fn.val x dst 4 (s.readWords b o n).1 (4 * n)
  exact ⟨_, hexec, hread.completedWith hdone, by rw [hdata, hread.data]⟩

theorem readLink_delivers {c n len : Nat} {dst : BitVec 64} (hb : x.d.body = .readLink c n dst len) :
    ∃ t, exec (.readLink fn index) s = .next t ∧ CompletedWith fn.val x .ok (16 * (covered c n).length) s t ∧
      t.hostMem.data = s.hostMem.data ++ [⟨fn.val, dst, 8, (covered c n).flatMap (fun j => s.linkRecord j)⟩] ∧
      t.cells = s.cells := by
  have hexec : execReadLink fn index s = .next ((s.dma fn.val dst 8 ((covered c n).flatMap fun j => s.linkRecord j)).done fn.val x .ok
      (16 * (covered c n).length)) := by
    simp only [execReadLink, State.withDescr, hx, hb]
    rw [length_flatMap_const _ _ 2 (fun _ => rfl), ← Nat.mul_assoc]
  obtain ⟨hdone, hdata, -, hcells⟩ := s.delivered_done fn.val x dst 8 ((covered c n).flatMap fun j => s.linkRecord j) (16 * (covered c n).length)
  exact ⟨_, hexec, hdone, hdata, hcells⟩

end

/-! ### Streams (R374, R517) -/

/-- The fields that say what segments are being read lie on no function's page. -/
theorem reading_not_onPage {d : Nat} (hd : d < 16) (f : Nat) : ∀ p ∈ [Fld.REC_D_STAT_READING d], ¬ OnPage f p := by
  simpa using not_onPage_of_block (reading_inBlocks hd).1 (reading_inBlocks hd).2 f

/-- A stream put among those of a function whose rings stay open is there when its descriptor has completed. -/
theorem State.stream_put_done {s : State} {f : Nat} (hc : (s.fn f).closing = false) (k : Nat) (st : Stream) (x : InFlight) :
    let t := (s.putStream f k st).done f x .ok
    CompletedWith f x .ok 0 s t ∧ FMap.get none (t.fn f).streams k = some st ∧
      ∀ d < 16, t.rd (Fld.REC_D_STAT_READING d) = s.rd (Fld.REC_D_STAT_READING d) := by
  have hput : (s.putStream f k st).fn f = { s.fn f with streams := FMap.set none (s.fn f).streams k (some st) } := State.setFn_fn_self s f _
  have hopen : ((s.putStream f k st).fn f).closing = false := by rw [hput, hc]
  refine ⟨State.completedWith_done (s.putStream f k st) f x .ok 0 0, ?stream, fun d hd => ?reading⟩
  case stream =>
    rw [((State.quiet_done hopen x .ok 0 0 (fs := []) (by simp)).streams f).1, hput, FMap.get_set_self]
  case reading => exact (State.quiet_done hopen x .ok 0 0 (reading_not_onPage hd f)).regs _ (by simp)

section
variable {s : State} {fn : Fin 256} {index : BitVec 16} {x : InFlight} (hx : s.runnable fn.val index.toNat = some x)
include hx

section
variable {k src : Nat} {a : BitVec 64} (hb : x.d.body = .streamOpen k src a)
include hb

theorem streamOpen_of_open (hk : FMap.get none (s.fn fn.val).streams k ≠ none) : ∃ t, exec (.streamOpen fn index) s = .next t ∧
    CompletedWith fn.val x .busy 0 s t ∧ ((s.fn fn.val).closing = false → (t.fn fn.val).streams = (s.fn fn.val).streams) := by
  have hexec : execStreamOpen fn index s = .next (s.done fn.val x .busy 0 16) := by
    simp only [execStreamOpen, State.withDescr, hx, hb]
    rw [if_pos (by simpa [Option.isSome_iff_ne_none] using hk)]
  exact ⟨_, hexec, s.completedWith_done fn.val x .busy 0 16, fun hc => ((State.quiet_done hc x .busy 0 16 (fs := []) (by simp)).streams fn.val).1⟩

section
variable (hk : FMap.get none (s.fn fn.val).streams k = none)
include hk

/-- A capture not finished, or being read, is refused. -/
theorem streamOpen_of_busy_capture (hs : src = 0) (ha : a.toNat % 65536 < 256)
    (hcap : bitOf (s.rd (Fld.REC_D_STAT_DONE (a.toNat % 16))) (a.toNat / 16 % 8) = false ∨
      bitOf (s.rd (Fld.REC_D_STAT_READING (a.toNat % 16))) (a.toNat / 16 % 8) = true) :
    ∃ t, exec (.streamOpen fn index) s = .next t ∧ CompletedWith fn.val x .busy 0 s t := by
  have hexec : execStreamOpen fn index s = .next (s.done fn.val x .busy 0 20) := by
    simp only [execStreamOpen, State.withDescr, hx, hb]
    rw [if_neg (by simp [hk]), if_pos hs, if_neg (by omega), if_pos (by simpa using hcap)]
  exact ⟨_, hexec, s.completedWith_done fn.val x .busy 0 20⟩

theorem streamOpen_of_capture (hs : src = 0) (ha : a.toNat % 65536 < 256)
    (hdone : bitOf (s.rd (Fld.REC_D_STAT_DONE (a.toNat % 16))) (a.toNat / 16 % 8) = true)
    (hread : bitOf (s.rd (Fld.REC_D_STAT_READING (a.toNat % 16))) (a.toNat / 16 % 8) = false) (hc : (s.fn fn.val).closing = false) :
    ∃ t, exec (.streamOpen fn index) s = .next t ∧ CompletedWith fn.val x .ok 0 s t ∧
      FMap.get none (t.fn fn.val).streams k = some ⟨0, a, 0, 0, 0⟩ ∧
      bitOf (t.rd (Fld.REC_D_STAT_READING (a.toNat % 16))) (a.toNat / 16 % 8) = true := by
  have hexec : execStreamOpen fn index s = .next (((s.wrBit (Fld.REC_D_STAT_READING (a.toNat % 16)) (a.toNat / 16 % 8) true).putStream
      fn.val k ⟨0, a, 0, 0, 0⟩).done fn.val x .ok) := by
    simp only [execStreamOpen, State.withDescr, hx, hb]
    rw [if_neg (by simp [hk]), if_pos hs, if_neg (by omega), if_neg (by simp [hdone, hread])]
  have hd : a.toNat % 16 < 16 := Nat.mod_lt _ (by decide)
  have hg : a.toNat / 16 % 8 < 8 := Nat.mod_lt _ (by decide)
  have hquiet : Quiet (ringPlaces fn.val) s (s.wrBit (Fld.REC_D_STAT_READING (a.toNat % 16)) (a.toNat / 16 % 8) true) :=
    quiet_wr (ringPlaces_offReading fn.val _ hd) s _
  obtain ⟨hcompleted, hstream, hreading⟩ := State.stream_put_done ((hquiet.streams fn.val).2.trans hc) k ⟨0, a, 0, 0, 0⟩ x
  refine ⟨_, hexec, hquiet.toUndelivered.completedWith hcompleted, hstream, ?_⟩
  rw [hreading _ hd]
  exact s.rd_wrBit_true hg

/-- The log is read from the record ARG names on, or from the oldest one held (R524). -/
theorem streamOpen_of_log (hs : src = 1) (hc : (s.fn fn.val).closing = false) : ∃ t, exec (.streamOpen fn index) s = .next t ∧
    CompletedWith fn.val x .ok 0 s t ∧
    (FMap.get none (t.fn fn.val).streams k).map (fun y => (y.source, y.next)) = some (1, max a.toNat s.logOldest) := by
  have hmax : (if a.toNat < s.logOldest then s.logOldest else a.toNat) = max a.toNat s.logOldest := by split <;> omega
  have hexec : execStreamOpen fn index s = .next ((s.putStream fn.val k ⟨1, a, max a.toNat s.logOldest, 0, 0⟩).done fn.val x .ok) := by
    simp only [execStreamOpen, State.withDescr, hx, hb]
    rw [if_neg (by simp [hk]), if_neg (by omega), hmax]
  obtain ⟨hcompleted, hstream, -⟩ := State.stream_put_done hc k ⟨1, a, max a.toNat s.logOldest, 0, 0⟩ x
  exact ⟨_, hexec, hcompleted, by rw [hstream]; rfl⟩

end
end

theorem streamClose_ends {k : Nat} (hb : x.d.body = .streamClose k) : ∃ t, exec (.streamClose fn index) s = .next t ∧
    CompletedWith fn.val x .ok 0 s t ∧ FMap.get none (t.fn fn.val).streams k = none := by
  have hexec : execStreamClose fn index s = .next ((s.endStream fn.val k 0).done fn.val x .ok) := by
    simp only [execStreamClose, State.withDescr, hx, hb]
  have hend := undelivered_endStream (ringPlaces_offEvents fn.val) (ringPlaces_offReading fn.val) s k 0
  refine ⟨_, hexec, hend.completedWith ((s.endStream fn.val k 0).completedWith_done fn.val x .ok 0 0), State.stream_done _ _ _ _ _ _ ?_⟩
  rw [State.stream_endStream, if_pos rfl]

end

end Sys2Proof.Machine
end

section
/-! PROOFS. The bulk ring (R374): a buffer that goes back, and one filled from a capture or from the log. -/

namespace Sys2Proof.Machine

/-! ### A buffer that goes back -/

/-- The buffer at the head of the ring of bulk buffers has gone back with its write-back record, and the ring begins one entry further. -/
structure BufferBack (f used stream : Nat) (last : Bool) (s t : State) : Prop where
  data : t.hostMem.data = s.hostMem.data
  record : (FMap.get none t.hostMem.blk (65536 * f + s.rd (Fld.HIF_FN_BLK_PTR_HEAD f))).map (fun b => (b.used, b.stream, b.last)) =
    some (used, stream, last)
  head : t.rd (Fld.HIF_FN_BLK_PTR_HEAD f) = (s.rd (Fld.HIF_FN_BLK_PTR_HEAD f) + 1) % s.ringSize f 3 % 65536

theorem State.bufferBack_bulkBack (s : State) (f used stream : Nat) (last : Bool) : BufferBack f used stream last s (s.bulkBack f used stream last) := by
  have hrest {u : State} (p : Prop) [Decidable p] (b : Bool) : Undelivered [Fld.HIF_FN_BLK_PTR_HEAD f] u
      ((if p then u.setFn f (fun h => { h with blkPhase := b }) else u).signal f 2) :=
    (undelivered_ite p (undelivered_setFn _ u f _) (Undelivered.refl _ u)).trans (quiet_signal _ _ f 2).toUndelivered
  unfold State.bulkBack
  dsimp only
  refine ⟨(hrest _ _).data, ?record, ?head⟩
  case record =>
    rw [(hrest _ _).blk]
    simp
  case head =>
    rw [(hrest _ _).regs _ (by simp), State.rd_wr_self]
    rfl

/-- Work that moves no ring, after a buffer has gone back. -/
theorem BufferBack.trans {f used stream : Nat} {last : Bool} {s t u : State} (h : BufferBack f used stream last s t)
    (k : Undelivered (ringPlaces f) t u) : BufferBack f used stream last s u where
  data := k.data.trans h.data
  record := by rw [k.blk]; exact h.record
  head := (k.regs _ (by simp [ringPlaces])).trans h.head

/-! ### A buffer that is filled -/

/-- The buffer has been filled with words of stream `k`, has gone back with the number of their bytes, and the ring begins one entry further. -/
def Filled (f k : Nat) (e : BulkEntry) (s t : State) : Prop :=
  ∃ ws, t.hostMem.data = s.hostMem.data ++ [⟨f, e.addr, 8, ws⟩] ∧ 8 * ws.length ≤ e.len ∧
    (FMap.get none t.hostMem.blk (65536 * f + s.rd (Fld.HIF_FN_BLK_PTR_HEAD f))).map (fun b => (b.used, b.stream)) = some (8 * ws.length, k) ∧
    t.rd (Fld.HIF_FN_BLK_PTR_HEAD f) = (s.rd (Fld.HIF_FN_BLK_PTR_HEAD f) + 1) % s.ringSize f 3 % 65536

/-- Words are written and the buffer goes back; what happens before and after it moves no ring. -/
theorem filled_of_bulkBack {f k : Nat} {e : BulkEntry} {s u t : State} {ws : List (BitVec 64)} {used : Nat} {last : Bool}
    (h : Undelivered (ringPlaces f) s u) (hused : used = 8 * ws.length) (hlen : 8 * ws.length ≤ e.len)
    (hback : Undelivered (ringPlaces f) ((u.dma f e.addr 8 ws).bulkBack f used k last) t) : Filled f k e s t := by
  subst hused
  obtain ⟨hdata, hrecord, hhead⟩ := ((u.dma f e.addr 8 ws).bufferBack_bulkBack f (8 * ws.length) k last).trans hback
  have hplace : (u.dma f e.addr 8 ws).rd (Fld.HIF_FN_BLK_PTR_HEAD f) = s.rd (Fld.HIF_FN_BLK_PTR_HEAD f) := h.regs _ (by simp [ringPlaces])
  have hsize : (u.dma f e.addr 8 ws).ringSize f 3 = s.ringSize f 3 := congrArg (2 ^ ·) (h.regs _ (by simp [ringPlaces]))
  rw [hplace] at hrecord hhead
  rw [hsize] at hhead
  refine ⟨ws, ?_, hlen, ?_, hhead⟩
  · rw [hdata]
    exact congrArg (· ++ _) h.data
  · simpa [Option.map_map, Function.comp_def] using congrArg (Option.map fun y => (y.1, y.2.1)) hrecord

theorem undelivered_putStream (f : Nat) (s : State) (k : Nat) (st : Stream) : Undelivered (ringPlaces f) s (s.putStream f k st) :=
  undelivered_setFn _ s f _

/-- A capture's words fill what the buffer holds; the last of them end the stream, and may free the segment (R517). -/
theorem State.filled_fillCapture (s : State) (f k : Nat) {st : Stream} (e : BulkEntry)
    (hc : (FMap.get none s.captures (s.segAddr (st.arg.toNat % 16) (st.arg.toNat / 16 % 8))).isSome = true) :
    Filled f k e s (s.fillCapture f k st e) := by
  obtain ⟨c, hc⟩ := Option.isSome_iff_exists.1 hc
  have hend (u : State) : Undelivered (ringPlaces f) u (if bitOf st.arg.toNat 7 = true then
      (u.endStream f k 0).recFree (st.arg.toNat % 16) (st.arg.toNat / 16 % 8) else u.endStream f k 0) := by
    have hclosed := undelivered_endStream (ringPlaces_offEvents f) (ringPlaces_offReading f) u k 0
    exact undelivered_ite _ (hclosed.trans (undelivered_recFree f _ (Nat.mod_lt _ (by decide)) _)) hclosed
  unfold State.fillCapture
  simp only [hc]
  refine filled_of_bulkBack (ws := ((captureWords c).drop (st.done / 8)).take (e.len / 8)) (Undelivered.refl _ s) rfl ?len
    (undelivered_ite _ (hend _) (undelivered_putStream f _ k _))
  case len =>
    rw [List.length_take]
    omega

/-- The log's records fill what the buffer holds; what was overwritten is reported lost before (R374, R524). -/
theorem State.filled_fillLog (s : State) (f k : Nat) (st : Stream) (e : BulkEntry) : Filled f k e s (s.fillLog f k st e) := by
  have hlost (p : Prop) [Decidable p] (n : Nat) : Undelivered (ringPlaces f) s (if p then s else s.postEvent f 0 (.stream k 1 n)) :=
    undelivered_ite p (Undelivered.refl _ s) (quiet_postEvent (ringPlaces_offEvents f) s _ _).toUndelivered
  have hwords (u : State) (first n : Nat) : ((List.range n).flatMap (fun i =>
      (FMap.get LogRec.reset u.log ((first + i - 1) % logSize)).words)).length = 4 * n := by
    rw [length_flatMap_const _ _ 4 (fun _ => rfl), List.length_range]
  unfold State.fillLog
  refine filled_of_bulkBack (hlost _ _) ?used ?len (undelivered_putStream f _ k _)
  case used => rw [hwords]; omega
  case len => rw [hwords]; omega

/-! ### What the module does with a posted buffer -/

/-- A buffer is posted and may be filled now (R374, R419). -/
def State.bulkPosted (s : State) (f : Nat) : Bool :=
  s.fnOpen f && decide (2 ≤ s.rd (Fld.HIF_FN_STAT_LEVEL f)) && s.rd (Fld.HIF_FN_BLK_PTR_HEAD f) != s.rd (Fld.HIF_FN_BLK_PTR_TAIL f) &&
    !s.throttled f .c3

theorem State.bulkPosted_iff (s : State) (f : Nat) : s.bulkPosted f = true ↔ s.fnOpen f = true ∧ 2 ≤ s.rd (Fld.HIF_FN_STAT_LEVEL f) ∧
    (s.rd (Fld.HIF_FN_BLK_PTR_HEAD f) != s.rd (Fld.HIF_FN_BLK_PTR_TAIL f)) = true ∧ ¬ s.throttled f .c3 = true := by
  simp [State.bulkPosted, and_assoc]

/-- The function's stream `k` is open and has something to send. -/
def State.sends (s : State) (f k : Nat) : Bool :=
  match FMap.get none (s.fn f).streams k with
  | some st => s.streamReady st
  | none => false

theorem State.sends_iff (s : State) (f k : Nat) :
    s.sends f k = true ↔ ∃ st, FMap.get none (s.fn f).streams k = some st ∧ s.streamReady st = true := by
  unfold State.sends
  split
  next st h => simp [h]
  next h => simp [h]

section
variable {s : State} {fn : Fin 256} (b : List (BitVec 8))

theorem bulkBufferFill_of_not_posted (hp : s.bulkPosted fn.val = false) : exec (.bulkBufferFill fn b) s = .next s := by
  show execBulkBufferFill fn b s = _
  rw [execBulkBufferFill]
  rw [if_pos]
  rw [← State.bulkPosted_iff, hp]
  decide

section
variable (hp : s.bulkPosted fn.val = true)
include hp

theorem bulkBufferFill_of_bad_length (hl : (readBulk b).len < 4096 ∨ 1048576 < (readBulk b).len ∨ (readBulk b).len % 64 ≠ 0) :
    exec (.bulkBufferFill fn b) s = .next (s.bulkBack fn.val 0 0 false) := by
  show execBulkBufferFill fn b s = _
  rw [execBulkBufferFill]
  rw [if_neg (not_not_intro ((s.bulkPosted_iff fn.val).1 hp)), if_pos hl]

section
variable {b} (hl : ¬ ((readBulk b).len < 4096 ∨ 1048576 < (readBulk b).len ∨ (readBulk b).len % 64 ≠ 0))
include hl

theorem bulkBufferFill_of_idle (hk : (List.range 8).find? (s.sends fn.val) = none) : exec (.bulkBufferFill fn b) s = .next s := by
  show execBulkBufferFill fn b s = _
  rw [execBulkBufferFill]
  rw [if_neg (not_not_intro ((s.bulkPosted_iff fn.val).1 hp)), if_neg hl]
  split
  next => rfl
  next k hfound => exact absurd (hfound.symm.trans hk) (by simp)

theorem bulkBufferFill_fills {k : Nat} (hk : (List.range 8).find? (s.sends fn.val) = some k) :
    ∃ t, exec (.bulkBufferFill fn b) s = .next t ∧ Filled fn.val k (readBulk b) s t := by
  obtain ⟨st, hst, hready⟩ := (s.sends_iff fn.val k).1 (List.find?_some hk)
  refine ⟨if st.source = 0 then s.fillCapture fn.val k st (readBulk b) else s.fillLog fn.val k st (readBulk b), ?exec, ?filled⟩
  case exec =>
    show execBulkBufferFill fn b s = _
    rw [execBulkBufferFill]
    rw [if_neg (not_not_intro ((s.bulkPosted_iff fn.val).1 hp)), if_neg hl]
    split
    next hnone => exact absurd (hnone.symm.trans hk) (by simp)
    next j hfound =>
      obtain rfl : j = k := Option.some.inj (hfound.symm.trans hk)
      rw [hst]
  case filled =>
    unfold State.streamReady at hready
    split
    next hsource =>
      rw [if_pos hsource] at hready
      exact s.filled_fillCapture fn.val k _ hready
    next => exact s.filled_fillLog fn.val k st _

end
end
end

end Sys2Proof.Machine

open Sys2Proof Sys2Proof.Machine

/-- Settles O42: without a descriptor that may run each command leaves the state; with one, each read delivers its words and completes, a
FRESH read asks and waits, and streams open and end; a posted buffer goes back unused or is filled from the lowest stream with data. BUSY
for an open stream and that choice of the stream are the model's log 100. -/
theorem readAndStreamDescriptors : Obligations.ReadAndStreamDescriptors := by
  unfold Obligations.ReadAndStreamDescriptors
  intro s fn index
  refine ⟨fun hnone => ?none, fun x hx => ⟨hostNop_completes hx, fun c n p k dst len fresh hb => ?readPoints, fun b o n dst hb => ?readReg,
    fun c n dst len hb => ?readLink, fun k src a hb => ?streamOpen, fun k hb => streamClose_ends hx hb⟩, fun b => ?bulk⟩
  case none =>
    have hidle (k : InFlight → State) : (.next (s.withDescr fn.val index k) : Host.Outcome State Fault Refusal) = .next s :=
      congrArg _ (State.withDescr_of_none hnone k)
    exact ⟨hidle _, hidle _, hidle _, hidle _, hidle _, hidle _, hidle _, fun hs => emergencyBlock_idle hnone hs, hidle _, hidle _, hidle _,
      hidle _, hidle _, hidle _, hidle _, hidle _, hidle _⟩
  case readPoints =>
    rw [← covered_eq]
    refine ⟨fun hold => ?_, fun hf ha => ⟨_, readPoints_asks hx hb hf ha, s.askFresh_spec (List.mem_of_find?_eq_some hx) c p⟩⟩
    obtain ⟨t, hexec, hdone, hdata, himage, hcells⟩ := readPoints_from_image hx hb hold
    exact ⟨t, hexec, ⟨hdone, hdata⟩, himage, hcells⟩
  case readReg =>
    obtain ⟨t, hexec, hdone, hdata⟩ := readReg_delivers hx hb
    exact ⟨t, hexec, hdone, hdata, s.length_readWords b o n⟩
  case readLink =>
    obtain ⟨t, hexec, hdone, hdata, hcells⟩ := readLink_delivers hx hb
    rw [← covered_eq]
    exact ⟨t, hexec, ⟨hdone, hdata⟩, hcells⟩
  case streamOpen =>
    exact ⟨streamOpen_of_open hx hb, streamOpen_of_capture hx hb, streamOpen_of_busy_capture hx hb, streamOpen_of_log hx hb⟩
  case bulk =>
    refine ⟨bulkBufferFill_of_not_posted b, fun hp hl => ?back, fun hp hlo hhi h64 => ?good⟩
    case back =>
      obtain ⟨hdata, hrecord, hhead⟩ := s.bufferBack_bulkBack fn.val 0 0 false
      refine ⟨_, bulkBufferFill_of_bad_length b hp hl, ?_, hdata, hhead⟩
      simpa [Option.map_map, Function.comp_def] using congrArg (Option.map fun y => (y.1, y.2.2)) hrecord
    case good =>
      have hl : ¬ ((readBulk b).len < 4096 ∨ 1048576 < (readBulk b).len ∨ (readBulk b).len % 64 ≠ 0) := by omega
      refine ⟨bulkBufferFill_of_idle hp hl, fun k hk => ?_⟩
      obtain ⟨t, hexec, ws, hdata, hlen, hrecord, hhead⟩ := bulkBufferFill_fills hp hl hk
      refine ⟨t, hexec, ?_, ?_, fun w hw => ?_, hhead⟩
      · rw [hdata, List.length_append, List.length_singleton]
      · rw [hdata, List.take_left]
      · rw [hdata, List.drop_left, List.mem_singleton] at hw
        subst hw
        exact ⟨rfl, rfl, rfl, hlen, hrecord⟩

end

section
/-! PROOFS. Order statistics (R206, R207): pairs of key and index in their order, and the pair of each rank. -/

namespace Sys2Proof.Machine

/-! ### Pairs in the order of their keys, equal keys in the order of their index -/

/-- `y` comes before `x`. -/
abbrev KeyBefore (y x : Nat × Nat) : Prop := y.1 < x.1 ∨ (y.1 = x.1 ∧ y.2 < x.2)

theorem KeyBefore.trans {x y z : Nat × Nat} (h : KeyBefore x y) (k : KeyBefore y z) : KeyBefore x z := by
  unfold KeyBefore at *
  omega

theorem keyBefore_of_not {x y : Nat × Nat} (h : ¬ KeyBefore x y) (hne : y ≠ x) : KeyBefore y x := by
  unfold KeyBefore at *
  have hsplit : y.1 ≠ x.1 ∨ y.2 ≠ x.2 := by
    rw [Ne, Prod.ext_iff] at hne
    omega
  omega

theorem insertKey_perm (x : Nat × Nat) (l : List (Nat × Nat)) : (insertKey x l).Perm (x :: l) := by
  induction l with
  | nil => exact .refl _
  | cons y t ih =>
    unfold insertKey
    split
    · exact .refl _
    · exact (ih.cons y).trans (.swap x y t)

theorem sortKeys_perm (l : List (Nat × Nat)) : (sortKeys l).Perm l := by
  induction l with
  | nil => exact .refl _
  | cons x t ih => exact (insertKey_perm x _).trans (ih.cons x)

theorem insertKey_pairwise {x : Nat × Nat} {l : List (Nat × Nat)} (hl : l.Pairwise KeyBefore) (hx : x ∉ l) : (insertKey x l).Pairwise KeyBefore := by
  induction l with
  | nil => exact List.pairwise_singleton _ _
  | cons y t ih =>
    obtain ⟨hy, ht⟩ := List.pairwise_cons.1 hl
    have hxy : x ≠ y := fun h => hx (h ▸ List.mem_cons_self)
    have hxt : x ∉ t := fun h => hx (List.mem_cons_of_mem y h)
    unfold insertKey
    split
    next hlt =>
      refine List.pairwise_cons.2 ⟨fun z hz => ?_, hl⟩
      rcases List.mem_cons.1 hz with rfl | hz
      · exact hlt
      · exact KeyBefore.trans hlt (hy z hz)
    next hlt =>
      refine List.pairwise_cons.2 ⟨fun z hz => ?_, ih ht hxt⟩
      rcases List.mem_cons.1 ((insertKey_perm x t).mem_iff.1 hz) with rfl | hz
      · exact keyBefore_of_not hlt (Ne.symm hxy)
      · exact hy z hz

theorem sortKeys_pairwise {l : List (Nat × Nat)} (hl : l.Nodup) : (sortKeys l).Pairwise KeyBefore := by
  induction l with
  | nil => exact List.Pairwise.nil
  | cons x t ih =>
    obtain ⟨hx, ht⟩ := List.nodup_cons.1 hl
    exact insertKey_pairwise (ih ht) fun h => hx ((sortKeys_perm t).mem_iff.1 h)

theorem below_perm {l m : List (Nat × Nat)} (h : l.Perm m) (x : Nat × Nat) : below l x = below m x := (h.filter _).length_eq

/-- In a list in order, as many pairs come before one as stand before it. -/
theorem below_getElem {l : List (Nat × Nat)} (hl : l.Pairwise KeyBefore) {i : Nat} (hi : i < l.length) : below l l[i] = i := by
  induction l generalizing i with
  | nil => exact absurd hi (Nat.not_lt_zero i)
  | cons y t ih =>
    obtain ⟨hy, ht⟩ := List.pairwise_cons.1 hl
    cases i with
    | zero =>
      have hnone : ∀ z ∈ y :: t, ¬ KeyBefore z y := by
        intro z hz
        rcases List.mem_cons.1 hz with rfl | hz
        · unfold KeyBefore
          omega
        · have := hy z hz
          unfold KeyBefore at *
          omega
      exact List.length_eq_zero_iff.2 (List.filter_eq_nil_iff.2 fun z hz => by simpa using hnone z hz)
    | succ i =>
      have hi' : i < t.length := Nat.lt_of_succ_lt_succ hi
      have hb : KeyBefore y t[i] := hy _ (List.getElem_mem hi')
      have hrest : below t t[i] = i := ih ht hi'
      unfold below at hrest ⊢
      rw [List.getElem_cons_succ, List.filter_cons_of_pos (by simpa using hb), List.length_cons, hrest]

/-! ### The pair of a rank -/

/-- The selected pair of rank `k` is the one with `k - 1` pairs before it. -/
theorem rankOf_sortKeys {ks : List (Nat × Nat)} (hks : ks.Nodup) {k : Nat} (h1 : 1 ≤ k) (hk : k ≤ ks.length) :
    ∃ x ∈ ks, below ks x + 1 = k ∧ rankOf (sortKeys ks) k = some x := by
  have hlt : k - 1 < (sortKeys ks).length := by
    rw [(sortKeys_perm ks).length_eq]
    omega
  refine ⟨(sortKeys ks)[k - 1], (sortKeys_perm ks).mem_iff.1 (List.getElem_mem hlt), ?_, ?_⟩
  · rw [← below_perm (sortKeys_perm ks), below_getElem (sortKeys_pairwise hks) hlt]
    omega
  · rw [rankOf, if_neg (by omega), List.getElem?_eq_getElem hlt]

theorem rankOf_sortKeys_of_not {ks : List (Nat × Nat)} {k : Nat} (h : k = 0 ∨ ks.length < k) : rankOf (sortKeys ks) k = none := by
  unfold rankOf
  split
  · rfl
  · refine List.getElem?_eq_none ?_
    rw [(sortKeys_perm ks).length_eq]
    omega

/-! ### The pairs of the elements that take part -/

/-- Keys paired with the index of their element differ by that index. -/
theorem indexedKeys_nodup (f : W40 × Nat → Option Nat) (ws : List W40) :
    (ws.zipIdx.filterMap fun x => (f x).map fun k => (k, x.2)).Nodup := by
  have hidx : ws.zipIdx.Pairwise fun x y => x.2 ≠ y.2 := by
    rw [← List.pairwise_map (f := Prod.snd) (R := (· ≠ ·)), List.zipIdx_map_snd]
    exact List.nodup_range'
  refine hidx.filterMap _ fun x y hxy b hb c hc => ?_
  obtain ⟨k, -, rfl⟩ := Option.map_eq_some_iff.1 hb
  obtain ⟨k', -, rfl⟩ := Option.map_eq_some_iff.1 hc
  exact fun h => hxy (congrArg (fun z : Nat × Nat => z.2) h)

theorem memberKeys_nodup (p : W40) (ws : List W40) : (memberKeys p ws).Nodup := indexedKeys_nodup _ ws

theorem rawKeys_eq_filterMap (ws : List W40) : rawKeys ws = ws.zipIdx.filterMap fun x => (some (x.1.toNat % 2 ^ 32)).map fun k => (k, x.2) := by
  unfold rawKeys
  rw [← List.filterMap_eq_map]
  rfl

theorem rawKeys_nodup (ws : List W40) : (rawKeys ws).Nodup := by
  rw [rawKeys_eq_filterMap]
  exact indexedKeys_nodup (fun x => some (x.1.toNat % 2 ^ 32)) ws

/-- The pairs that a long instruction orders: of the member words that take part, or of all elements. -/
def VKind.keyPairs (k : VKind) (p : W40) (ws : List W40) : List (Nat × Nat) := if k.member then memberKeys p ws else rawKeys ws

theorem VKind.keyPairs_nodup (k : VKind) (p : W40) (ws : List W40) : (k.keyPairs p ws).Nodup := by
  unfold VKind.keyPairs
  split
  · exact memberKeys_nodup p ws
  · exact rawKeys_nodup ws

theorem LongOp.keys_eq (p : LongOp) : p.keys = sortKeys (p.kind.keyPairs p.param p.read) := by
  unfold LongOp.keys VKind.keyPairs memberKeys
  split
  · rfl
  · rw [rawKeys_eq_filterMap]
    rfl

/-! ### Registers of the bank in use (R188) -/

theorem Engine.getX_setX (g : Engine) (r q : BitVec 4) (v : W40) : (g.setX r v).getX q = if q = r then v else g.getX q := by
  unfold Engine.setX Engine.getX
  split <;> simp only [FMap.get_set, BitVec.toNat_inj]

/-- What a long instruction's results may change of an engine: registers, VIDX and VR. -/
def SameButRanks (g h : Engine) : Prop := h = { g with x := h.x, xh := h.xh, vidx := h.vidx, vr := h.vr }

theorem SameButRanks.trans {g h i : Engine} (a : SameButRanks g h) (b : SameButRanks h i) : SameButRanks g i := by
  unfold SameButRanks at *
  rw [b, a]

theorem Engine.setX_sameButRanks (g : Engine) (r : BitVec 4) (v : W40) : SameButRanks g (g.setX r v) := by
  unfold Engine.setX
  split <;> rfl

/-! ### Results of the ranks asked -/

/-- The result of a rank: its key, or all ones. -/
def rankResult (ks : List (Nat × Nat)) (k : Nat) : W40 :=
  match rankOf ks k with
  | some x => BitVec.ofNat 40 x.1
  | none => 0xFFFFFFFFFF#40

/-- The `i`-th asked rank is delivered. -/
def Engine.putRank (g : Engine) (ks : List (Nat × Nat)) (rd i : Nat) (k : W40) : Engine :=
  match rankOf ks k.toNat with
  | some x => { g.setX (BitVec.ofNat 4 (rd + i)) (BitVec.ofNat 40 x.1) with vidx := if i = 0 then x.2 else g.vidx }
  | none => { g.setX (BitVec.ofNat 4 (rd + i)) 0xFFFFFFFFFF#40 with vr := true }

theorem Engine.deliverRanks_cons (g : Engine) (ks : List (Nat × Nat)) (rd : Nat) (k : W40) (t : List W40) (i : Nat) :
    g.deliverRanks ks rd (k :: t) i = (g.putRank ks rd i k).deliverRanks ks rd t (i + 1) := rfl

theorem Engine.getX_putRank (g : Engine) (ks : List (Nat × Nat)) (rd i : Nat) (k : W40) (q : BitVec 4) :
    (g.putRank ks rd i k).getX q = if q = BitVec.ofNat 4 (rd + i) then rankResult ks k.toNat else g.getX q := by
  unfold Engine.putRank rankResult
  split <;> exact Engine.getX_setX g _ q _

theorem Engine.putRank_sameButRanks (g : Engine) (ks : List (Nat × Nat)) (rd i : Nat) (k : W40) : SameButRanks g (g.putRank ks rd i k) := by
  unfold Engine.putRank
  split <;> exact (Engine.setX_sameButRanks g _ _).trans rfl

theorem Engine.vidx_putRank_later (g : Engine) (ks : List (Nat × Nat)) (rd i : Nat) (k : W40) : (g.putRank ks rd (i + 1) k).vidx = g.vidx := by
  have hset (v : W40) : (g.setX (BitVec.ofNat 4 (rd + (i + 1))) v).vidx = g.vidx := by
    unfold Engine.setX
    split <;> rfl
  unfold Engine.putRank
  split
  · simp
  · exact hset _

theorem Engine.deliverRanks_sameButRanks (ks : List (Nat × Nat)) (rd : Nat) (l : List W40) :
    ∀ (g : Engine) (i : Nat), SameButRanks g (g.deliverRanks ks rd l i) := by
  induction l with
  | nil => exact fun _ _ => rfl
  | cons k t ih => exact fun g i => (g.putRank_sameButRanks ks rd i k).trans (ih _ _)

/-- A register that no rank is delivered into holds what it did. -/
theorem Engine.getX_deliverRanks_of_ne (ks : List (Nat × Nat)) (rd : Nat) {q : BitVec 4} (l : List W40) :
    ∀ (g : Engine) (i : Nat), (∀ m < l.length, q ≠ BitVec.ofNat 4 (rd + i + m)) → (g.deliverRanks ks rd l i).getX q = g.getX q := by
  induction l with
  | nil => exact fun _ _ _ => rfl
  | cons k t ih =>
    intro g i hq
    have hfirst : q ≠ BitVec.ofNat 4 (rd + i) := hq 0 (Nat.zero_lt_succ _)
    rw [Engine.deliverRanks_cons, ih _ _ fun m hm => ?later, Engine.getX_putRank, if_neg hfirst]
    case later =>
      have := hq (m + 1) (Nat.succ_lt_succ hm)
      rwa [show rd + (i + 1) + m = rd + i + (m + 1) by omega]

theorem Engine.getX_deliverRanks (ks : List (Nat × Nat)) (rd : Nat) {l : List W40} (hl : l.length ≤ 16) :
    ∀ (g : Engine) (i m : Nat) (hm : m < l.length), (g.deliverRanks ks rd l i).getX (BitVec.ofNat 4 (rd + i + m)) = rankResult ks l[m].toNat := by
  induction l with
  | nil => exact fun _ _ m hm => absurd hm (Nat.not_lt_zero m)
  | cons k t ih =>
    intro g i m hm
    rw [List.length_cons] at hl hm
    rw [Engine.deliverRanks_cons]
    cases m with
    | zero =>
      change ((g.putRank ks rd i k).deliverRanks ks rd t (i + 1)).getX (BitVec.ofNat 4 (rd + i)) = rankResult ks k.toNat
      rw [Engine.getX_deliverRanks_of_ne ks rd t _ _ fun m hm h => ?_, Engine.getX_putRank, if_pos rfl]
      have := congrArg BitVec.toNat h
      simp only [BitVec.toNat_ofNat] at this
      omega
    | succ m =>
      have hnext := ih (by omega) (g.putRank ks rd i k) (i + 1) m (by omega)
      rwa [show rd + (i + 1) + m = rd + i + (m + 1) by omega] at hnext

theorem Engine.vidx_deliverRanks_later (ks : List (Nat × Nat)) (rd : Nat) (l : List W40) :
    ∀ (g : Engine) (i : Nat), (g.deliverRanks ks rd l (i + 1)).vidx = g.vidx := by
  induction l with
  | nil => exact fun _ _ => rfl
  | cons k t ih =>
    intro g i
    rw [Engine.deliverRanks_cons, ih, Engine.vidx_putRank_later]

/-- VIDX is the index of the first asked rank. -/
theorem Engine.vidx_deliverRanks (g : Engine) {ks : List (Nat × Nat)} (rd : Nat) {k : W40} (t : List W40) {x : Nat × Nat}
    (hx : rankOf ks k.toNat = some x) : (g.deliverRanks ks rd (k :: t) 0).vidx = x.2 := by
  rw [Engine.deliverRanks_cons, Engine.vidx_deliverRanks_later, Engine.putRank, hx]
  rfl

end Sys2Proof.Machine

end

section
/-! PROOFS. What an engine shows of itself, and how a fault stops it (R200, R204, R215, R222). -/

namespace Sys2Proof.Machine

/-! ### Work on one engine -/

/-- Nothing changes but register fields of a list, events, engine `e` and what is due of the tandem. -/
structure EngineOnly (fs : List Field) (e : Nat) (s t : State) : Prop where
  regs : RegsBut (fs ++ loggedFields) s t
  others : MapBut Engine.reset [e] s.engines t.engines
  same : t = { s with regs := t.regs, hist := t.hist, log := t.log, engines := t.engines, tnd := t.tnd }

theorem EngineOnly.trans {fs : List Field} {e : Nat} {s t u : State} (h : EngineOnly fs e s t) (k : EngineOnly fs e t u) : EngineOnly fs e s u where
  regs := h.regs.trans k.regs
  others := fun i hi => (k.others i hi).trans (h.others i hi)
  same := by rw [k.same, h.same]

theorem EngineOnly.mono {fs gs : List Field} {e : Nat} {s t : State} (h : EngineOnly fs e s t) (hs : ∀ f ∈ fs, f ∈ gs) : EngineOnly gs e s t where
  regs := h.regs.mono fun f hf => (List.mem_append.1 hf).elim (fun hf => List.mem_append_left _ (hs f hf)) (List.mem_append_right _)
  others := h.others
  same := h.same

/-- Another engine than the one at work is as it was. -/
theorem mapBut_setEng (s : State) (e : Nat) (k : Engine → Engine) : MapBut Engine.reset [e] s.engines (s.setEng e k).engines :=
  fun _ hi => FMap.get_modify_ne _ _ k (List.ne_of_not_mem_cons hi)

theorem engineOnly_setEng (s : State) (e : Nat) (k : Engine → Engine) : EngineOnly [] e s (s.setEng e k) :=
  ⟨fun _ _ => rfl, mapBut_setEng s e k, rfl⟩

theorem SameButYield.engineOnly {fs : List Field} {e : Nat} {s t : State} (h : SameButYield s t) (hr : RegsBut (fs ++ loggedFields) s t) :
    EngineOnly fs e s t where
  regs := hr
  others := fun i _ => by rw [h.engines]
  same := by
    unfold SameButYield at h
    rw [h]

theorem OnlyLogged.engineOnly {fs : List Field} {s t : State} (h : OnlyLogged fs s t) (e : Nat) : EngineOnly fs e s t :=
  h.sameButYield.engineOnly h.1

theorem engineOnly_raiseYield (s : State) (e b : Nat) : EngineOnly [Fld.TND_CAUSE_LIVE, Fld.TND_EVT_HELD_NO_TWIN] e s (s.raiseYield b) :=
  (State.raiseYield_sameButYield s b).engineOnly (regsBut_raiseYield s b)

@[simp] theorem State.raiseYield_eng (s : State) (b n : Nat) : (s.raiseYield b).eng n = s.eng n := by
  unfold State.eng
  rw [State.raiseYield_engines]

theorem OnlyRegs.eng {fs : List Field} {s t : State} (h : OnlyRegs fs s t) (n : Nat) : t.eng n = s.eng n := by
  obtain ⟨-, hsame⟩ := h
  exact (congrArg (State.eng · n) hsame).trans rfl

/-! ### What CE_STATn shows (R222) -/

/-- The fields of CE_STATn that follow the engine. -/
def engineShown (e : Nat) : List Field := [Fld.CE_STAT_PROG_VALID e, Fld.CE_STAT_IN_HANDLER e, Fld.CE_STAT_RUNNING e]

theorem State.onlyRegs_showEngine (s : State) (e : Nat) : OnlyRegs (engineShown e) s (s.showEngine e) :=
  onlyRegs_wrs s [(Fld.CE_STAT_PROG_VALID e, _), (Fld.CE_STAT_IN_HANDLER e, _), (Fld.CE_STAT_RUNNING e, _)]

@[simp] theorem State.showEngine_eng (s : State) (e n : Nat) : (s.showEngine e).eng n = s.eng n := (s.onlyRegs_showEngine e).eng n

/-! ### An overrun (R200) -/

/-- The fields that count and show an overrun. -/
def countFields (e : Nat) : List Field :=
  [Fld.CE_CNT_OVR_CNT e, Fld.CE_RUN_RUN e, Fld.CE_RUN_RUN_MAX e, Fld.CE_DLSTAT_LAST_END e]

/-- The fields of a yield condition that overruns in a row raise. -/
def yieldFields (e : Nat) : List Field := [Fld.CE_EVT_YIELD_COND e, Fld.TND_CAUSE_LIVE, Fld.TND_EVT_HELD_NO_TWIN]

def overrunFields (e : Nat) : List Field := countFields e ++ Fld.CE_EVT_OVERRUN e :: yieldFields e

/-- The flags of faults. -/
def faultFlags (e : Nat) : List Field := [Fld.CE_EVT_ACC_FAULT e, Fld.CE_EVT_ILLEGAL e]

theorem faultFlags_apart : ∀ e < 32, ∀ f ∈ faultFlags e, f.width = 1 ∧ ∀ x ∈ overrunFields e ++ engineShown e ++ loggedFields, f.key ≠ x.key := by
  decide +kernel

theorem overrunFlag_apart : ∀ e < 32, ∀ x ∈ yieldFields e ++ engineShown e ++ loggedFields, (Fld.CE_EVT_OVERRUN e).key ≠ x.key := by
  decide +kernel

theorem lastEnd_apart : ∀ e < 32, ∀ x ∈ Fld.CE_EVT_OVERRUN e :: (yieldFields e ++ engineShown e ++ loggedFields),
    (Fld.CE_DLSTAT_LAST_END e).key ≠ x.key := by
  decide +kernel

/-- The engine has counted an overrun. -/
structure Overran (e : Nat) (s t : State) : Prop where
  only : EngineOnly (overrunFields e) e s t
  flag : t.rd (Fld.CE_EVT_OVERRUN e) = 1
  lastEnd : t.rd (Fld.CE_DLSTAT_LAST_END e) = 0x1FFFF
  engine : t.eng e = { s.eng e with held := true, ended := true, prevOvr := true, staged := [], yieldOn := (t.eng e).yieldOn }

/-- The counters of an overrun. -/
def State.countOverrun (s : State) (e : Nat) : State :=
  let s := (s.bump (Fld.CE_CNT_OVR_CNT e)).bump (Fld.CE_RUN_RUN e)
  s.wrs [(Fld.CE_RUN_RUN_MAX e, max (s.rd (Fld.CE_RUN_RUN_MAX e)) (s.rd (Fld.CE_RUN_RUN e))), (Fld.CE_DLSTAT_LAST_END e, 0x1FFFF)]

theorem State.onlyRegs_countOverrun (s : State) (e : Nat) : OnlyRegs (countFields e) s (s.countOverrun e) :=
  ((onlyRegs_bump s _ 1).mono (by simp [countFields])).trans
    (((onlyRegs_bump (s.bump _) _ 1).mono (by simp [countFields])).trans ((onlyRegs_wrs _ _).mono (by simp [countFields])))

/-- The overrun before its yield condition. -/
def State.noteOverrun (s : State) (e : Nat) : State :=
  ((s.countOverrun e).setEng e (fun g => { g with held := true, ended := true, prevOvr := true, staged := [] })).raise (Fld.CE_EVT_OVERRUN e) e

theorem State.overran_noteOverrun (s : State) {e : Nat} (he : e < 32) : Overran e s (s.noteOverrun e) := by
  have hcount := s.onlyRegs_countOverrun e
  refine ⟨?only, ?flag, ?lastEnd, ?engine⟩
  case only =>
    exact ((hcount.onlyLogged.engineOnly e).mono (fun f hf => List.mem_append_left _ hf)).trans
      (((engineOnly_setEng _ e _).mono (by simp)).trans (((State.onlyLogged_raise _ _ e).engineOnly e).mono (by simp)))
  case flag => exact State.rd_raise_self _ _ _ rfl fun x hx => overrunFlag_apart e he x (List.mem_append_right _ hx)
  case lastEnd =>
    have hflag : (Fld.CE_DLSTAT_LAST_END e).key ≠ (Fld.CE_EVT_OVERRUN e).key := lastEnd_apart e he _ List.mem_cons_self
    have hlog : ∀ x ∈ eventFields, (Fld.CE_DLSTAT_LAST_END e).key ≠ x.key :=
      fun x hx => lastEnd_apart e he x (List.mem_cons_of_mem _ (List.mem_append_right _ hx))
    rw [State.noteOverrun, State.rd_raise_ne _ _ _ _ hflag hlog, State.setEng_rd, State.countOverrun]
    simp only [State.wrs_cons, State.wrs_nil, State.rd_wr_self]
    rfl
  case engine =>
    rw [State.noteOverrun, State.raise_eng, State.setEng_eng_self, hcount.eng]

/-- Yield condition 3 after an overrun (R200). -/
def State.overrunYield (s : State) (e : Nat) : State :=
  ((s.setEng e (fun g => { g with yieldOn := true })).raise (Fld.CE_EVT_YIELD_COND e) e).raiseYield 3

theorem State.engineOnly_overrunYield (s : State) (e : Nat) : EngineOnly (yieldFields e) e s (s.overrunYield e) :=
  ((engineOnly_setEng s e _).mono (by simp)).trans
    ((((State.onlyLogged_raise _ _ e).engineOnly e).mono (by simp [yieldFields])).trans ((engineOnly_raiseYield _ e 3).mono (by simp [yieldFields])))

theorem Overran.yield {e : Nat} (he : e < 32) {s t : State} (h : Overran e s t) : Overran e s (t.overrunYield e) := by
  have hy := t.engineOnly_overrunYield e
  refine ⟨h.only.trans (hy.mono fun f hf => ?_), (hy.regs _ fun x hx => ?_).trans h.flag, (hy.regs _ fun x hx => ?_).trans h.lastEnd, ?engine⟩
  · exact List.mem_append_right _ (List.mem_cons_of_mem _ hf)
  · exact overrunFlag_apart e he x (by rw [List.append_assoc, List.mem_append] at *; tauto)
  · exact lastEnd_apart e he x (by rw [List.append_assoc, List.mem_cons, List.mem_append] at *; tauto)
  case engine =>
    rw [State.overrunYield, State.raiseYield_eng, State.raise_eng, State.setEng_eng_self, h.engine]

theorem State.overran_overrun (s : State) {e : Nat} (he : e < 32) : Overran e s (s.overrun e) := by
  have hnote := s.overran_noteOverrun he
  unfold State.overrun
  dsimp only
  split
  · exact hnote.yield he
  · exact hnote

/-! ### A fault stops the engine (R204, R215) -/

/-- The engine as a stop leaves it: no handler, no suspended instruction, not running. -/
def Engine.stopped (g : Engine) : Engine := { g with hnd := false, prog := none, resumed := false, running := false }

/-- The engine has stopped, and counted an overrun if its work had not ended. -/
structure Stopped (e : Nat) (s t : State) : Prop where
  only : EngineOnly (overrunFields e) e s t
  engine : t.eng e = { (s.eng e).stopped with
    ended := true, held := (t.eng e).held, prevOvr := (t.eng e).prevOvr, staged := (t.eng e).staged, yieldOn := (t.eng e).yieldOn }
  overrun : (s.eng e).ended = false → t.rd (Fld.CE_EVT_OVERRUN e) = 1 ∧ t.rd (Fld.CE_DLSTAT_LAST_END e) = 0x1FFFF

theorem engineOnly_stopped (s : State) (e : Nat) : EngineOnly (overrunFields e) e s (s.setEng e Engine.stopped) :=
  (engineOnly_setEng s e Engine.stopped).mono (by simp)

theorem stopped_of_ended {s : State} {e : Nat} (hend : (s.eng e).ended = true) : Stopped e s (s.setEng e Engine.stopped) where
  only := engineOnly_stopped s e
  engine := by
    rw [State.setEng_eng_self, ← hend]
    rfl
  overrun := fun h => absurd (h.symm.trans hend) Bool.false_ne_true

theorem stopped_of_overran {s t : State} {e : Nat} (h : Overran e (s.setEng e Engine.stopped) t) : Stopped e s t where
  only := (engineOnly_stopped s e).trans h.only
  engine := by
    have hengine := h.engine
    rw [State.setEng_eng_self] at hengine
    rw [hengine]
  overrun := fun _ => ⟨h.flag, h.lastEnd⟩

theorem State.stopEngine_of_no_handler {s : State} {e : Nat} (he : e < 32) (hh : (s.eng e).hnd = false) :
    ∃ t, Stopped e s t ∧ s.stopEngine e = t.showEngine e := by
  unfold State.stopEngine
  dsimp only
  rw [if_neg (by simp [hh])]
  refine ⟨_, ?_, rfl⟩
  split
  next hend => exact stopped_of_ended (by simpa using hend)
  next => exact stopped_of_overran (State.overran_overrun _ he)

/-- A fault of an engine whose handler does not run sets its flag and stops the engine. -/
theorem State.stoppedAfter_fault (s : State) {e : Nat} (he : e < 32) (hh : (s.eng e).hnd = false) {f : Field} (hf : f ∈ faultFlags e) (u : Nat) :
    (((s.setEng e (·.spend u)).raise f e).stopEngine e).rd f = 1 ∧ StoppedAfter e u s (((s.setEng e (·.spend u)).raise f e).stopEngine e) := by
  obtain ⟨hwidth, hapart⟩ := faultFlags_apart e he f hf
  have hr : ((s.setEng e (·.spend u)).raise f e).eng e = (s.eng e).spend u := (State.raise_eng _ _ _ _).trans (State.setEng_eng_self s e _)
  obtain ⟨t, ⟨honly, hengine, hover⟩, ht⟩ := State.stopEngine_of_no_handler he (s := (s.setEng e (·.spend u)).raise f e) (by rw [hr]; exact hh)
  have hshow := t.onlyRegs_showEngine e
  have hwork : EngineOnly (f :: overrunFields e ++ engineShown e) e s (t.showEngine e) :=
    ((engineOnly_setEng s e _).mono (by simp)).trans ((((State.onlyLogged_raise _ f e).engineOnly e).mono (by simp)).trans
      ((honly.mono (by simp +contextual)).trans ((hshow.onlyLogged.engineOnly e).mono (by simp +contextual))))
  rw [hr] at hengine hover
  rw [ht]
  have hnow := (State.showEngine_eng t e e).trans hengine
  refine ⟨?flag, congrArg Engine.hnd hnow, congrArg Engine.prog hnow, (congrArg Engine.dmem hnow :), hwork.others, fun h => absurd h (by simp [hh]),
    fun _ => ⟨(congrArg Engine.pc hnow :), congrArg Engine.cycle hnow⟩,
    fun _ => ⟨congrArg Engine.running hnow, congrArg Engine.ended hnow, fun hend => ?counted⟩, fun _ => hwork.same⟩
  case flag =>
    rw [hshow.1 f fun x hx => hapart x (by simp [hx]), honly.regs f fun x hx => hapart x (by rw [List.append_assoc, List.mem_append] at *; tauto)]
    exact State.rd_raise_self _ f e hwidth fun x hx => hapart x (List.mem_append_right _ hx)
  case counted =>
    obtain ⟨hflag, hlast⟩ := hover hend
    refine ⟨(hshow.1 _ fun x hx => overrunFlag_apart e he x (by simp [hx])).trans hflag,
      (hshow.1 _ fun x hx => lastEnd_apart e he x (by simp [hx])).trans hlast⟩

end Sys2Proof.Machine

end

section
/-! PROOFS. The long instructions of an engine as they start, are refused and complete (R206, R207), and ORDSTAT in its four forms as a whole. -/

namespace Sys2Proof.Machine

/-! ### The four forms of ORDSTAT -/

/-- The forms of ORDSTAT, against HIST and VDOT. -/
def VKind.Orders (k : VKind) : Prop := k ≠ .hist ∧ k ≠ .vdot

/-- In a legal word of ORDSTAT the registers of its results end at X15: one rank is asked, or the word says that they fit (R204). -/
theorem registersFit_of_vLegal {k : VKind} (hk : k.Orders) {rd rk rp : BitVec 4} {j : BitVec 2} (h : vLegal k rd rk rp j = true) : rd.toNat + j.toNat < 16 := by
  have hrd := rd.isLt
  obtain ⟨hhist, hvdot⟩ := hk
  cases k with
  | ordstat =>
    obtain ⟨hj, -⟩ : j = 0 ∧ rp = 0 := by simpa [vLegal] using h
    rw [hj]
    exact hrd
  | ordstatM =>
    obtain rfl : j = 0 := by simpa [vLegal] using h
    exact hrd
  | ordstatm =>
    obtain ⟨⟨-, hfit⟩, -⟩ : (rp = 0 ∧ rd.toNat + j.toNat < 16) ∧ rk.toNat + j.toNat < 16 := by simpa [vLegal] using h
    exact hfit
  | ordstatmM =>
    obtain ⟨hfit, -⟩ : rd.toNat + j.toNat < 16 ∧ rk.toNat + j.toNat < 16 := by simpa [vLegal] using h
    exact hfit
  | hist => exact absurd rfl hhist
  | vdot => exact absurd rfl hvdot

theorem VKind.total_orders {k : VKind} (hk : k.Orders) (n j : Nat) : k.total n (j + 1) = 16 + (n + 1) / 2 + 8 * j := by
  obtain ⟨hhist, hvdot⟩ := hk
  have hfixed : k.fixed = 16 := by
    cases k with
    | hist => contradiction
    | vdot => contradiction
    | _ => rfl
  rw [VKind.total, hfixed, VKind.scan, if_neg hvdot, Nat.add_sub_cancel]

/-- The ranks that are asked: `j + 1` registers from `rk` on. -/
def Engine.askedRanks (g : Engine) (rk : BitVec 4) (j : BitVec 2) : List W40 :=
  (List.range (j.toNat + 1)).map (fun i => g.getX (BitVec.ofNat 4 (rk.toNat + i)))

/-- ORDSTAT in one of its forms as it starts. -/
def Engine.orderOp (g : Engine) (k : VKind) (rd rs1 rs2 rk rp : BitVec 4) (j : BitVec 2) : LongOp :=
  { kind := k, rd := rd.toNat, base := (g.getX rs1).toNat, n := (g.getX rs2).toNat, ranks := g.askedRanks rk j, param := g.getX rp, units := 0,
    read := [], acc := 0, sat := false }

section
variable {g : Engine} {k : VKind} {rd rs1 rs2 rk rp : BitVec 4} {j : BitVec 2}

theorem Engine.startLong_orders (hk : k.Orders) (h1 : 1 ≤ (g.getX rs2).toNat) (h2 : (g.getX rs2).toNat ≤ 768)
    (hqs : k.member = true → (g.getX rp).toNat / 4 % 16 ≤ 8) : g.startLong k rd rs1 rs2 rk rp j = some (g.orderOp k rd rs1 rs2 rk rp j) := by
  obtain ⟨hhist, hvdot⟩ := hk
  have hgo : ¬ ((g.getX rs2).toNat < 1 ∨ 768 < (g.getX rs2).toNat ∨ (k.member = true ∧ 9 ≤ (g.getX rp).toNat / 4 % 16)) := by
    rintro (h | h | ⟨hm, h⟩)
    · omega
    · omega
    · have := hqs hm
      omega
  unfold Engine.startLong
  dsimp only
  rw [if_neg hgo, if_neg (by simp [hhist, hvdot]), if_neg hvdot]
  rfl

/-- Too few or too many elements, and a shift of more than 8 bits in the .M forms, are refused. -/
theorem Engine.startLong_refused (h : (g.getX rs2).toNat = 0 ∨ 768 < (g.getX rs2).toNat ∨ (k.member = true ∧ 9 ≤ (g.getX rp).toNat / 4 % 16)) :
    g.startLong k rd rs1 rs2 rk rp j = none := by
  unfold Engine.startLong
  dsimp only
  exact if_pos (h.imp_left fun h => by omega)

theorem LongOp.inRange_orders (hk : k.Orders) :
    (g.orderOp k rd rs1 rs2 rk rp j).inRange g = true ↔ (g.getX rs1).toNat + (g.getX rs2).toNat ≤ 0x8000 := by
  obtain ⟨hhist, hvdot⟩ := hk
  have hnh : (k != .hist) = true := bne_iff_ne.2 hhist
  have hnv : (k != .vdot) = true := bne_iff_ne.2 hvdot
  simp only [LongOp.inRange, Engine.orderOp, hnh, hnv, Bool.true_or, Bool.and_true]
  exact decide_eq_true_iff

end

/-! ### The scan -/

/-- ORDSTAT reads its elements and changes nothing as it does. -/
theorem State.scan_orders (s : State) (e : Nat) (n : Nat) : ∀ p : LongOp, p.kind.Orders →
    s.scan e p n = (s, { p with read := p.read ++ (List.range n).map (fun i => (s.eng e).mem (p.base + p.read.length + i)) }) := by
  induction n with
  | zero => intro p _; simp [State.scan]
  | succ n ih =>
    intro p hp
    obtain ⟨hhist, hvdot⟩ := hp
    have hstep : s.scan e p (n + 1) = s.scan e { p with read := p.read ++ [(s.eng e).mem (p.base + p.read.length)] } n := by
      rw [State.scan]
      split
      · contradiction
      · contradiction
      · rfl
    rw [hstep, ih { p with read := p.read ++ [(s.eng e).mem (p.base + p.read.length)] } ⟨hhist, hvdot⟩, List.range_succ_eq_map]
    simp [Function.comp_def, Nat.add_assoc, Nat.add_comm 1]

/-! ### The instruction (R204, R207) -/

section
variable {s : State} {e : Fin 32} (hx : s.executing e = true) {k : VKind} {rd rs1 rs2 rk rp : BitVec 4} {j : BitVec 2}
include hx

theorem State.longInstr_illegal (h : vLegal k rd rk rp j = false) (stop : Option Nat) : s.longInstr e k rd rs1 rs2 rk rp j stop = s.illegal e := by
  simp [State.longInstr, hx, h]

theorem illegalTaken_longInstr (hh : (s.eng e).hnd = false) (h : vLegal k rd rk rp j = false) (stop : Option Nat) :
    IllegalTaken e s (s.longInstr e k rd rs1 rs2 rk rp j stop) := by
  rw [State.longInstr_illegal hx h]
  exact s.stoppedAfter_fault e.isLt hh (by simp [faultFlags]) 1

section
variable (hh : (s.eng e).hnd = false) (hr : (s.eng e).resumed = false) (hl : vLegal k rd rk rp j = true)
include hh hr hl

theorem State.longInstr_refused (h : (s.eng e).startLong k rd rs1 rs2 rk rp j = none) (stop : Option Nat) :
    s.longInstr e k rd rs1 rs2 rk rp j stop = (s.setEng e (fun g => ({ g with vr := true }.next).spend 2)).showEngine e := by
  simp [State.longInstr, hx, hl, hh, hr, h]

theorem State.longInstr_outside {p : LongOp} (h : (s.eng e).startLong k rd rs1 rs2 rk rp j = some p) (hout : p.inRange (s.eng e) = false)
    (stop : Option Nat) : s.longInstr e k rd rs1 rs2 rk rp j stop = s.accFault e 2 := by
  simp [State.longInstr, hx, hl, hh, hr, h, hout]

/-- The engine after a long instruction that has read its last element. -/
def Engine.afterLong (g : Engine) (p : LongOp) (u : Nat) : Engine := { ((g.finishLong p).spend u).next with prog := none, resumed := false }

theorem State.longInstr_completes (hk : k ≠ .hist) {p : LongOp} (h : (s.eng e).startLong k rd rs1 rs2 rk rp j = some p)
    (hin : p.inRange (s.eng e) = true) :
    s.longInstr e k rd rs1 rs2 rk rp j none = ((s.scan e p (p.n - p.read.length)).1.setEng e
      (·.afterLong (s.scan e p (p.n - p.read.length)).2 (k.total p.n (j.toNat + 1) - p.units))).showEngine e := by
  simp [State.longInstr, Engine.afterLong, hx, hl, hh, hr, h, hin, hk]

end
end

theorem Engine.finishLong_orders (g : Engine) {p : LongOp} (hp : p.kind.Orders) : g.finishLong p = g.deliverRanks p.keys p.rd p.ranks 0 := by
  obtain ⟨hhist, hvdot⟩ := hp
  unfold Engine.finishLong
  split
  · contradiction
  · contradiction
  · rfl

/-! ### What the asked ranks deliver -/

theorem ofNat_register (r : BitVec 4) (i : Nat) : BitVec.ofNat 4 (r.toNat + i) = r + BitVec.ofNat 4 i := by
  rw [BitVec.ofNat_add, BitVec.ofNat_toNat, BitVec.setWidth_eq]

theorem Engine.length_askedRanks (g : Engine) (rk : BitVec 4) (j : BitVec 2) : (g.askedRanks rk j).length = j.toNat + 1 := by
  simp [Engine.askedRanks]

theorem Engine.getElem_askedRanks (g : Engine) (rk : BitVec 4) (j : BitVec 2) {i : Nat} (hi : i < (g.askedRanks rk j).length) :
    (g.askedRanks rk j)[i] = g.getX (rk + BitVec.ofNat 4 i) := by
  simp only [Engine.askedRanks, List.getElem_map, List.getElem_range, ofNat_register]

/-- The result of the `i`-th asked rank stands in the `i`-th register from `rd` on. -/
theorem Engine.getX_ranked (g : Engine) (ks : List (Nat × Nat)) (rd rk : BitVec 4) {j : BitVec 2} {i : Nat} (hi : i ≤ j.toNat) :
    (g.deliverRanks ks rd.toNat (g.askedRanks rk j) 0).getX (rd + BitVec.ofNat 4 i) = rankResult ks (g.getX (rk + BitVec.ofNat 4 i)).toNat := by
  have hj := j.isLt
  have hlen := g.length_askedRanks rk j
  have hget := Engine.getX_deliverRanks ks rd.toNat (l := g.askedRanks rk j) (by omega) g 0 i (by omega)
  rwa [Engine.getElem_askedRanks, Nat.add_zero, ofNat_register] at hget

/-- Registers outside those from `rd` to `rd + j` keep their values. -/
theorem Engine.getX_ranked_outside (g : Engine) (ks : List (Nat × Nat)) {rd : BitVec 4} (rk : BitVec 4) {j : BitVec 2}
    (hfit : rd.toNat + j.toNat < 16) {q : BitVec 4} (hq : q.toNat < rd.toNat ∨ rd.toNat + j.toNat < q.toNat) :
    (g.deliverRanks ks rd.toNat (g.askedRanks rk j) 0).getX q = g.getX q := by
  refine Engine.getX_deliverRanks_of_ne ks rd.toNat _ g 0 fun m hm h => ?_
  rw [Engine.length_askedRanks] at hm
  have := congrArg BitVec.toNat h
  simp only [BitVec.toNat_ofNat] at this
  omega

/-- VIDX names the element of the first asked rank. -/
theorem Engine.vidx_ranked (g : Engine) {ks : List (Nat × Nat)} (rd rk : BitVec 4) (j : BitVec 2) {x : Nat × Nat}
    (hx : rankOf ks (g.getX rk).toNat = some x) : (g.deliverRanks ks rd.toNat (g.askedRanks rk j) 0).vidx = x.2 := by
  have hfirst : g.askedRanks rk j = g.getX rk :: (List.range j.toNat).map (fun i => g.getX (BitVec.ofNat 4 (rk.toNat + (i + 1)))) := by
    rw [Engine.askedRanks, List.range_succ_eq_map, List.map_cons, List.map_map, ofNat_register]
    simp [Function.comp_def]
  rw [hfirst]
  exact g.vidx_deliverRanks rd.toNat _ hx

/-! ### ORDSTAT as a whole (R206, R207) -/

/-- A change of engine `e` that CE_STATn then shows. -/
theorem State.showEngine_setEng_spec (s : State) (e : Nat) (k : Engine → Engine) :
    ((s.setEng e k).showEngine e).eng e = k (s.eng e) ∧ MapBut Engine.reset [e] s.engines ((s.setEng e k).showEngine e).engines ∧
    RegsBut (engineShown e) s ((s.setEng e k).showEngine e) ∧
    (s.setEng e k).showEngine e = { s with regs := ((s.setEng e k).showEngine e).regs, engines := ((s.setEng e k).showEngine e).engines } := by
  obtain ⟨hregs, hsame⟩ := (s.setEng e k).onlyRegs_showEngine e
  refine ⟨(State.showEngine_eng _ e e).trans (State.setEng_eng_self s e k), fun i hi => ?_, hregs, ?_⟩
  · exact (State.showEngine_eng _ e i).trans (mapBut_setEng s e k i hi)
  · rw [hsame]
    rfl

theorem Engine.afterLong_spec {g : Engine} {p : LongOp} (h : SameButRanks g (g.finishLong p)) (u : Nat) :
    (g.afterLong p u).pc = (g.pc + 1) % 16384 ∧ (g.afterLong p u).cycle = min (g.cycle + u) (2 ^ 20 - 1) ∧
    g.afterLong p u = { g with
      x := (g.afterLong p u).x, xh := (g.afterLong p u).xh, pc := (g.afterLong p u).pc, cycle := (g.afterLong p u).cycle,
      vidx := (g.afterLong p u).vidx, vr := (g.afterLong p u).vr, prog := none, resumed := false } := by
  unfold Engine.afterLong
  rw [h]
  exact ⟨rfl, rfl, rfl⟩

section
variable {s : State} {e : Fin 32} (hx : s.executing e = true) (hh : (s.eng e).hnd = false) (hr : (s.eng e).resumed = false) {k : VKind}
  {rd rs1 rs2 rk rp : BitVec 4} {j : BitVec 2} (hl : vLegal k rd rk rp j = true)
include hx hh hr hl

/-- An instruction that is refused sets VR, and goes on after 2 units. -/
theorem longInstr_setsVr (h : ((s.eng e).getX rs2).toNat = 0 ∨ 768 < ((s.eng e).getX rs2).toNat ∨
      (k.member = true ∧ 9 ≤ ((s.eng e).getX rp).toNat / 4 % 16)) (stop : Option Nat) :
    ((s.longInstr e k rd rs1 rs2 rk rp j stop).eng e).vr = true ∧ ((s.longInstr e k rd rs1 rs2 rk rp j stop).eng e).x = (s.eng e).x ∧
      Advanced e 2 s (s.longInstr e k rd rs1 rs2 rk rp j stop) := by
  rw [State.longInstr_refused hx hh hr hl (Engine.startLong_refused h)]
  obtain ⟨hnow, -⟩ := s.showEngine_setEng_spec e (fun g => ({ g with vr := true }.next).spend 2)
  exact ⟨congrArg Engine.vr hnow, (congrArg Engine.x hnow :), (congrArg Engine.pc hnow :), (congrArg Engine.cycle hnow :)⟩

section
variable (hk : k.Orders) (h1 : 1 ≤ ((s.eng e).getX rs2).toNat) (h2 : ((s.eng e).getX rs2).toNat ≤ 768)
  (hqs : k.member = true → ((s.eng e).getX rp).toNat / 4 % 16 ≤ 8)
include hk h1 h2 hqs

/-- Elements outside data memory are an access fault. -/
theorem accessFaultTaken_ordstat (hout : 0x8000 < ((s.eng e).getX rs1).toNat + ((s.eng e).getX rs2).toNat) (stop : Option Nat) :
    AccessFaultTaken e 2 s (s.longInstr e k rd rs1 rs2 rk rp j stop) := by
  have hrange : ((s.eng e).orderOp k rd rs1 rs2 rk rp j).inRange (s.eng e) = false := by
    rw [← Bool.not_eq_true, LongOp.inRange_orders hk]
    omega
  rw [State.longInstr_outside hx hh hr hl (Engine.startLong_orders hk h1 h2 hqs) hrange]
  exact s.stoppedAfter_fault e.isLt hh (by simp [faultFlags]) 2

variable (hin : ((s.eng e).getX rs1).toNat + ((s.eng e).getX rs2).toNat ≤ 0x8000)
include hin

/-- ORDSTAT that is not interrupted: its elements are read, and the asked ranks delivered. -/
theorem State.longInstr_orders :
    s.longInstr e k rd rs1 rs2 rk rp j none = (s.setEng e (·.afterLong
      { (s.eng e).orderOp k rd rs1 rs2 rk rp j with read := elements s e ((s.eng e).getX rs1).toNat ((s.eng e).getX rs2).toNat }
      (16 + (((s.eng e).getX rs2).toNat + 1) / 2 + 8 * j.toNat))).showEngine e := by
  rw [State.longInstr_completes hx hh hr hl hk.1 (Engine.startLong_orders hk h1 h2 hqs) ((LongOp.inRange_orders hk).2 hin),
    State.scan_orders _ _ _ _ hk, VKind.total_orders hk]
  rfl

/-- Each asked rank gets its key, VIDX the index of the first, and nothing else changes. -/
theorem ordstat_selects {ks : List (Nat × Nat)}
    (hks : k.keyPairs ((s.eng e).getX rp) (elements s e ((s.eng e).getX rs1).toNat ((s.eng e).getX rs2).toNat) = ks) :
    ((∀ i : Fin 4, i.val ≤ j.toNat → RankIn e (rd + BitVec.ofNat 4 i.val) ks ((s.eng e).getX (rk + BitVec.ofNat 4 i.val)).toNat
        (s.longInstr e k rd rs1 rs2 rk rp j none)) ∧
      VidxIs e ks ((s.eng e).getX rk).toNat (s.longInstr e k rd rs1 rs2 rk rp j none)) ∧
    LongDone e rd j.toNat (16 + (((s.eng e).getX rs2).toNat + 1) / 2 + 8 * j.toNat) s (s.longInstr e k rd rs1 rs2 rk rp j none) := by
  rw [State.longInstr_orders hx hh hr hl hk h1 h2 hqs hin]
  generalize hp : ({ (s.eng e).orderOp k rd rs1 rs2 rk rp j with
    read := elements s e ((s.eng e).getX rs1).toNat ((s.eng e).getX rs2).toNat } : LongOp) = p
  have hnodup : ks.Nodup := hks ▸ VKind.keyPairs_nodup k _ _
  have hfinish : (s.eng e).finishLong p = (s.eng e).deliverRanks (sortKeys ks) rd.toNat ((s.eng e).askedRanks rk j) 0 := by
    subst hp
    rw [Engine.finishLong_orders _ hk, LongOp.keys_eq, ← hks]
    rfl
  have hranks : SameButRanks (s.eng e) ((s.eng e).finishLong p) := by
    rw [hfinish]
    exact Engine.deliverRanks_sameButRanks _ _ _ _ 0
  have hgetX (u : Nat) (q : BitVec 4) : ((s.eng e).afterLong p u).getX q =
      ((s.eng e).deliverRanks (sortKeys ks) rd.toNat ((s.eng e).askedRanks rk j) 0).getX q := by
    rw [← hfinish]
    rfl
  obtain ⟨hnow, hothers, hregs, hsame⟩ := s.showEngine_setEng_spec e
    (·.afterLong p (16 + (((s.eng e).getX rs2).toNat + 1) / 2 + 8 * j.toNat))
  obtain ⟨hpc, hcycle, hrest⟩ := Engine.afterLong_spec hranks (16 + (((s.eng e).getX rs2).toNat + 1) / 2 + 8 * j.toNat)
  refine ⟨⟨fun i hi => ⟨fun hrank => ?rank, fun hrank => ?refused⟩, fun hrank => ?vidx⟩,
    ⟨⟨?_, ?_⟩, ?_, fun q hq => ?outside, ?_, hothers, hregs, hsame⟩⟩
  case rank =>
    obtain ⟨x, hx, hbelow, hrankOf⟩ := rankOf_sortKeys hnodup hrank.1 hrank.2
    refine ⟨x, hx, hbelow, ?_⟩
    rw [hnow, hgetX, Engine.getX_ranked _ _ _ _ hi, rankResult, hrankOf]
  case refused =>
    rw [hnow, hgetX, Engine.getX_ranked _ _ _ _ hi, rankResult, rankOf_sortKeys_of_not hrank]
  case vidx =>
    obtain ⟨x, hx, hbelow, hrankOf⟩ := rankOf_sortKeys hnodup hrank.1 hrank.2
    refine ⟨x, hx, hbelow, ?_⟩
    rw [hnow]
    exact (congrArg Engine.vidx hfinish).trans ((s.eng e).vidx_ranked rd rk j hrankOf)
  case outside => rw [hnow, hgetX, Engine.getX_ranked_outside _ _ _ (registersFit_of_vLegal hk hl) hq]
  · rw [hnow, hpc]
  · rw [hnow, hcycle]
  · rw [hnow]
    rfl
  · rw [hnow]
    exact hrest

end
end

end Sys2Proof.Machine

open Sys2Proof Sys2Proof.Machine

/-- Settles O24: a run of the selection unit leaves the sorted pairs of key and index, of which each asked rank takes its own; the refusals
and the faults come before the scan. -/
theorem engineOrderStatistics : Obligations.EngineOrderStatistics := by
  unfold Obligations.EngineOrderStatistics
  intro s e rd rs1 rs2 rk rp hx hh hr
  have hone : vLegal .ordstat rd rk 0 0 = true := rfl
  have hmember : vLegal .ordstatM rd rk rp 0 = true := rfl
  refine ⟨fun h1 h2 hin => ⟨fun j hj => ?ordstat, fun j hj hqs => ?ordstatM, fun j hrd hrk => ?ordstatm, fun j hrd hrk hqs => ?ordstatmM⟩,
    fun hn => ⟨?vr, ?vrM⟩, fun h1 h2 hout => ?fault, fun j hj => ?illegal, fun j hj => ?illegalM⟩
  case ordstat =>
    subst hj
    exact ⟨_, rfl, ordstat_selects hx hh hr hone (by simp [VKind.Orders]) h1 h2 (fun h => nomatch h) hin rfl⟩
  case ordstatM =>
    subst hj
    exact ⟨_, rfl, ordstat_selects hx hh hr hmember (by simp [VKind.Orders]) h1 h2 (fun _ => hqs) hin rfl⟩
  case ordstatm =>
    have hl : vLegal .ordstatm rd rk 0 j = true := by simp [vLegal, hrd, hrk]
    exact ⟨_, rfl, ordstat_selects hx hh hr hl (by simp [VKind.Orders]) h1 h2 (fun h => nomatch h) hin rfl⟩
  case ordstatmM =>
    have hl : vLegal .ordstatmM rd rk rp j = true := by simp [vLegal, hrd, hrk]
    exact ⟨_, rfl, ordstat_selects hx hh hr hl (by simp [VKind.Orders]) h1 h2 (fun _ => hqs) hin rfl⟩
  case vr => exact ⟨_, rfl, longInstr_setsVr hx hh hr hone (hn.imp_right .inl) none⟩
  case vrM => exact ⟨_, rfl, longInstr_setsVr hx hh hr hmember (hn.imp_right .inl) none⟩
  case fault => exact ⟨_, rfl, accessFaultTaken_ordstat hx hh hr hone (by simp [VKind.Orders]) h1 h2 (fun h => nomatch h) hout none⟩
  case illegal =>
    have hl : vLegal .ordstat rd rk rp j = false := by
      simp only [vLegal, Bool.and_eq_false_iff, beq_eq_false_iff_ne]
      exact hj.symm
    exact ⟨_, rfl, illegalTaken_longInstr hx hh hl none⟩
  case illegalM =>
    have hl : vLegal .ordstatmM rd rk rp j = false := by
      simp [vLegal, hj]
    exact ⟨_, rfl, illegalTaken_longInstr hx hh hl none⟩

end
